-- ==== Sys2Proof/Word.lean ====
section
/-! DEFINITION. The words, unit numbers and small vocabularies of the ZL240 that the commands and the state share. -/

namespace Sys2Proof

abbrev Byte := BitVec 8
abbrev Word := BitVec 64
/-- A 64-byte line; byte i in bits [8i+7:8i] (R180). -/
abbrev Line := BitVec 512
/-- The 80 stored bytes of a DRAM line; byte i in bits [8i+7:8i] (R243). -/
abbrev Stored := BitVec 640
/-- A byte mask of a line: bit i for byte i (R183). -/
abbrev Mask := BitVec 64
/-- A SHA-384 digest, byte 0 in the most significant byte (R60). -/
abbrev Digest := BitVec 384

abbrev Core := Fin 240
abbrev Die := Fin 12
abbrev Hub := Fin 2
abbrev Pkg := Fin 8
abbrev Part := Fin 16
abbrev Chan := Fin 16
abbrev Arb := Fin 64
abbrev PciePort := Fin 8
abbrev FabPort := Fin 8
/-- Mailbox slots (R326). -/
abbrev Slot := Fin 16
/-- Crypto service rings (R331). -/
abbrev Ring := Fin 64
/-- A physical line number: physical address bits [51:6] (R181). -/
abbrev LineNo := Fin (2 ^ 46)

/-- Memory attributes, coded as in the leaf descriptor (R130, R154). -/
inductive Attr where
  | wb | wt | uc | dev
  deriving DecidableEq, Repr, Inhabited

/-- What an access is made for, coded as XLAT_FAULT_STAT.SOURCE (R172). -/
inductive Src where
  | fetch | load | store | atomic | maint
  deriving DecidableEq, Repr, Inhabited

/-- Die Cache line states (R204). -/
inductive Coh where
  | i | s | e | o | m
  deriving DecidableEq, Repr, Inhabited

/-- Directory entry states (R209). -/
inductive DState where
  | shared | excl | owned
  deriving DecidableEq, Repr, Inhabited

/-- The coherent message opcodes of R211, and the two answers of R392. -/
inductive COp where
  | rdShared | rdUnique | upgrade | wtWrite | farAtomic | cmoClean | cmoCleanInv | dmaRd | dmaWr
  | ucRd | ucWr | ucAtomic
  | snpShared | snpUnique | snpInv | snpClean | snpRecall
  | snpOrderShared | snpOrderUnique | snpOrderRecall
  | wbDirty | evictClean | wbLost
  | dataS | dataE | dataM | dataO | snpData | dataUc | atomicData | atomicDataSole
  | comp | compContended | compAck
  | snpRspI | snpRspS | snpRspFwdClean | snpRspFwdDirty | snpRspPassed
  | wbAck | retry | busErr | targetOff
  deriving DecidableEq, Repr, Inhabited

/-- A sender or receiver of fabric messages: its package and its unit field value (R181, R182). -/
structure Unt where
  pkg : Nat
  unit : Nat
  deriving DecidableEq, Repr, Inhabited

/-- An atomic operation: the Perulan operation code, its size in bytes, its byte offset in the line,
its operand and (for compare-and-swap forms) its second operand (R222). -/
structure AtOp where
  code : Nat
  size : Nat
  off : Nat
  arg : BitVec 128
  arg2 : BitVec 128
  deriving DecidableEq, Repr, Inhabited

/-- What the SPD of one module reports (R236, R264): its channel, ECC, device width, registered (neither load-reduced nor multiplexed-rank),
package ranks, dies per stack, density in Gb, and the rates in MT/s that it supports. -/
structure Spd where
  chan : Fin 16
  ecc : Bool
  width : Nat
  rdimm : Bool
  ranks : Nat
  dies : Nat
  density : Nat
  rates : List Nat
  deriving DecidableEq, Repr, Inhabited

/-- A coherent message: the header fields of R181, its mask and data (R180, R183), and for a snoop the requester
that the data is forwarded to. -/
structure CMsg where
  op : COp
  line : Nat
  src : Unt
  dst : Unt
  txn : Nat
  part : Nat
  rsv : Bool
  mask : Mask
  data : Line
  aop : AtOp
  fwd : Unt
  fwdTxn : Nat
  deriving DecidableEq, Repr, Inhabited

/-- Who sends a Control Space access as a command: a core of the system, running for a partition, or a hub's Service Core. -/
inductive Sender where
  | core (pkg : Pkg) (c : Core) (part : Part)
  | service (h : Hub)
  deriving DecidableEq, Repr, Inhabited

/-- Who makes a Control Space access (R306): a sender, the debug port for the partition of the core it selected (R432), or a
Service Endpoint host for the partition of its function (R370). -/
inductive Who where
  | core (pkg : Pkg) (c : Core) (part : Part)   -- a core of package pkg, running for partition part
  | service (h : Hub)
  | debug (c : Core)
  | host (port : PciePort) (f : Fin 8)
  deriving DecidableEq, Repr, Inhabited

def Sender.who : Sender → Who
  | .core pkg c part => .core pkg c part
  | .service h => .service h

end Sys2Proof
end

