-- ==== Sys2Proof/Syntax.lean ====
section
/-! DEFINITION. The commands of the ZL240 block: one constructor per row of spec/opcode_table.json, in the table's order.
Operands that name a unit are bounded, so a unit that does not exist cannot be written; what arrives from outside (a
temperature, a message, the bytes read from a flash, a task's return value) is an operand. -/

namespace Sys2Proof

inductive Instr where
  -- Control Space, core accesses (01, 04-06)
  | csRegisterWrite (who : Sender) (off : Fin (2 ^ 32)) (size : Nat) (v : Word)
  | coreLoad (c : Core) (va : Word) (size : Nat) (user spec : Bool)
  | coreStore (c : Core) (va : Word) (size : Nat) (v : Line) (user : Bool)
  | coreAtomic (c : Core) (va : Word) (op size : Nat) (arg arg2 : BitVec 128) (user : Bool)
  | coreFetch (c : Core) (va : Word) (user spec : Bool)
  -- beat, budget, levels (02, 14)
  | beatBoundary (temps : List Nat) (ests : List (List Nat)) (agree : Bool)
  | budgetReport (h : Hub) (unit : Fin 14)
  | budgetStale
  | powerGrant (unit : Fin 14) (level : Fin 8)
  | avsVdone (unit : Fin 14)
  | avsTimeout (unit : Fin 14)
  | beatMarker (p : FabPort) (marker : Word) (beat : Option Word) (arrivalPs : Int)
  | markerMiss (p : FabPort)
  | beatLost
  | pealRequest (src : Pkg) (target : Nat) (kind : Fin 16) (body : List Byte) (arg : Nat) (refusal : Option (Fin 16))
  | pealArming (unit : Fin 15) (seq target : Nat) (kind : Fin 16) (body : List Byte) (arg : Nat) (agree : Bool)
  | pealAck (unit : Fin 15) (seq : Nat)
  | pealPackageResult (src : Pkg) (seq : Nat) (missing : Option (Fin 15))
  | pealVerdict (unit : Fin 15) (seq : Nat) (commit : Bool) (causePkg : Pkg) (causeUnit : Fin 15)
  | hallmarkReceived (src : Pkg) (hallmark : Digest) (ticket beat : Nat)
  -- start-up (03)
  | resetDeassert (strap : Pkg)
  | islandConfirm (fuseA fuseB derA derB : Bool)
  | islandConfirmTimeout
  | flashReadDone (h : Hub) (bytes : Option (List Byte)) (flashSize : Nat)
  | imageVerifyDone (flipA flipB : Bool)
  | trainingTaskDone (task : Nat) (memTask : Bool) (ret : Word) (spd : List Spd)
  | moduleTimeout (task : Nat) (memTask : Bool) (spd : List Spd)
  | mgmtReadBootStat (addr : Fin 128)
  -- cores, twin mode, Carillon (04)
  | checkerMismatch (c : Core) (freshCheckpoint : Bool) (badLines : List Nat)
  | twinCompare (c : Fin 120) (upper : Bool) (kind : Nat) (addr : Word) (size : Nat) (attr : Attr) (mask : Mask)
      (data : Line) (retired : Nat) (user : Bool)
  | twinCompareTimeout (c : Fin 120)
  | twinInputApply (c : Core) (count : Nat)
  | twinStateCompare (c : Fin 120) (sigLower sigUpper : Word) (retLower retUpper : Nat)
  | coreGo (who : Sender) (c : Core)
  | coreStop (who : Sender) (c : Core)
  | pmuOverflow (c : Core) (n : Fin 8)
  -- kind 0: a source message, core = the overflowing core of vector 3; 1: an inter-processor interrupt from another
  -- package to core; 2: a delivery from another package to core
  | carillonMessage (p : Part) (v : Fin 2048) (kind : Fin 3) (core : Option Core) (prio : Fin 16) (rsv late up : Bool)
      (elsewhere : Option (Pkg × Core))
  | coreRunNotice (pkg : Pkg) (c : Core) (p : Part)
  | intAck (c : Core)
  | intEoi (c : Core) (v : Fin 2048)
  | intIpi (c : Core) (v : Fin 2048) (tgtPkg : Pkg) (tgtCore : Fin 256)
  | carVecWrite (who : Sender) (p : Part) (v : Fin 2048) (value : Word)
  -- cache maintenance (05)
  | cmoIssueClean (who : Sender) (blk : Core) (byKind level : Fin 4) (addr : LineNo) (user : Bool)
  | cmoIssueInvalidate (who : Sender) (blk : Core) (byKind level : Fin 4) (addr : LineNo) (user : Bool)
  | cmoIssueCleanInval (who : Sender) (blk : Core) (byKind level : Fin 4) (addr : LineNo) (user : Bool)
  | cmoWalkDone (c : Core)
  | l1CtlWrite (who : Sender) (c : Core) (en : Bool)
  | dcCtlWrite (who : Sender) (d : Die) (en : Bool)
  | cacheArrayError (level : Fin 5) (unit : Core) (set way : Nat) (sector : Fin 4) (correctable : Bool)
  -- translation (06)
  | walkDescriptor (c : Core) (w : Fin 2)
  | xlatCtlWrite (who : Sender) (c : Core) (en : Bool)
  | xlatBaseWrite (who : Sender) (c : Core) (v : Word)
  | tlbiByVaAsid (who : Sender) (c : Core) (va : Fin (2 ^ 40)) (asid : BitVec 16) (loc : Bool)
  | tlbiByVa (who : Sender) (c : Core) (va : Fin (2 ^ 40)) (loc : Bool)
  | tlbiByAsid (who : Sender) (c : Core) (asid : BitVec 16) (loc : Bool)
  | tlbiAll (who : Sender) (c : Core) (loc : Bool)
  | tlbiApply (pkg : Pkg) (c : Core) (srcPkg : Pkg) (src : Core) (op : Fin 8) (va : Fin (2 ^ 40)) (asid : BitVec 16) (p : Part)
  | tlbiSync (who : Sender) (c : Core)
  | tlbiSyncDone (c : Core)
  -- fabric (07)
  | routerForward (mesh : Fin 14) (x y : Fin 4) (dx dy : Fin 4) (vc : Fin 8) (form : Fin 4) (m : CMsg)
  | transitForward (p : FabPort) (m : CMsg)
  | linkCrcError (link : Nat) (payload : BitVec 608) (crc : BitVec 32)
  | flitCrcFail (mesh : Fin 14)
  | creditReturn (link : Nat) (vc : Fin 8)
  | regulatorPass (a : Arb) (p : Part) (partialWr : Bool) (m : CMsg)
  | arbiterRound (a : Arb) (reqs : List (Nat × Bool)) (cycle : Nat)
  | arbiterBackoffEnd (a : Arb) (n : Fin 16)
  | burstExpiry (a : Arb) (still : Bool) (cycle : Nat)
  | arbClr (who : Sender) (a : Arb)
  -- coherence (08)
  | rdShared (h : Hub) (m : CMsg)
  | rdUnique (h : Hub) (m : CMsg)
  | upgrade (h : Hub) (m : CMsg)
  | wtWrite (h : Hub) (m : CMsg)
  | farAtomic (h : Hub) (m : CMsg)
  | cmoClean (h : Hub) (m : CMsg)
  | cmoCleanInv (h : Hub) (m : CMsg)
  | dmaRd (h : Hub) (m : CMsg)
  | dmaWr (h : Hub) (m : CMsg)
  | ucRd (h : Hub) (m : CMsg)
  | ucWr (h : Hub) (m : CMsg)
  | ucAtomic (h : Hub) (m : CMsg)
  | snpShared (u : Fin 14) (m : CMsg)
  | snpUnique (u : Fin 14) (m : CMsg)
  | snpInv (u : Fin 14) (m : CMsg)
  | snpClean (u : Fin 14) (m : CMsg)
  | snpRecall (u : Fin 14) (m : CMsg)
  | snpOrderShared (u : Fin 14) (m : CMsg)
  | snpOrderUnique (u : Fin 14) (m : CMsg)
  | snpOrderRecall (u : Fin 14) (m : CMsg)
  | wbDirty (h : Hub) (m : CMsg)
  | evictClean (h : Hub) (m : CMsg)
  | wbLost (h : Hub) (m : CMsg)
  | dataS (d : Die) (m : CMsg)
  | dataE (d : Die) (m : CMsg)
  | dataM (d : Die) (m : CMsg)
  | dataO (d : Die) (m : CMsg)
  | snpData (h : Hub) (m : CMsg)
  | dataUc (m : CMsg)
  | atomicData (c : Core) (m : CMsg)
  | atomicDataSole (c : Core) (m : CMsg)
  | comp (m : CMsg)
  | compContended (m : CMsg)
  | compAck (h : Hub) (m : CMsg)
  | snpRspI (h : Hub) (m : CMsg)
  | snpRspS (h : Hub) (m : CMsg)
  | snpRspFwdClean (h : Hub) (m : CMsg)
  | snpRspFwdDirty (h : Hub) (m : CMsg)
  | snpRspPassed (h : Hub) (m : CMsg)
  | wbAck (d : Die) (m : CMsg)
  | retry (m : CMsg)
  | retryReissue (m : CMsg)
  | busErr (m : CMsg)
  | dirSweepDone (h : Hub)
  | unsureResolve (h : Hub) (set : Fin (2 ^ 19)) (way : Fin 16)
  | dieReset (d : Die)
  | dieClockLost (d : Die)
  | fenceNotice (h : Hub) (pkg : Pkg) (d : Die) (clear : Bool)
  | fenceWalkDone (h : Hub)
  | lineClear (who : Sender) (h : Hub) (line : LineNo)
  | dirProbeData (who : Sender) (h : Hub)
  -- memory (09)
  | dramRead (ch : Chan)
  | memDevOut (ch : Chan) (rank : Fin 4) (sub : Fin 2) (dev : Fin 10)
  | memPageRebuild (ch : Chan)
  | dramWrite (ch : Chan)
  | pageLockRelease (ch : Chan) (page : Nat)
  | parityCacheError (h : Hub) (set : Fin 1024) (way : Fin 16) (correctable : Bool)
  | restripePage
  | rankPowerDown (ch : Chan) (rank : Fin 4)
  | rankRefresh (ch : Chan) (rank : Fin 4)
  | rankCalibration (ch : Chan) (rank : Fin 4)
  | scrubRead (ch : Chan)
  | trnWritePattern (who : Sender) (ch : Chan) (v : Word)
  | trnReadCompare (who : Sender) (ch : Chan) (v : Word)
  | trnWriteReadCompare (who : Sender) (ch : Chan) (v : Word)
  | trnDone (ch : Chan) (badLines : List Nat) (lanes : BitVec 40) (strobe : BitVec 2)
  | channelInitDone (ch : Chan)
  | caParityError (ch : Chan)
  -- links and packages (10)
  | laserPowerLoss (t : Fin 4)
  | ltLight (who : Sender) (link : Fin 21) (v : Word)
  | ltLock (who : Sender) (link : Fin 21) (v : Word)
  | ltAdvertise (who : Sender) (link : Fin 21) (v : Word)
  | ltConfirm (who : Sender) (link : Fin 21) (v : Word)
  | ltStepDone (link : Fin 21) (good : Word) (peer : Nat) (peerConfirm fail : Bool) (delay : Nat)
  | laneCheckFail (link : Fin 22) (wave : Fin 64)
  | laneMapOut (link : Fin 22) (wave : Fin 64)
  | linkLightLoss (link : Fin 21)
  | helloReceived (p : FabPort) (word : Word)
  | systemFound
  | joinRequest (src : Pkg) (h0 : Digest)
  | joinLogDone (src : Pkg) (hallmark : Digest)
  | joinRetry
  | socketPresence (i : Fin 4) (present : Bool)
  | socketButton (i : Fin 4)
  | socketPwrGood (i : Fin 4)
  | socketPwrGoodFall (i : Fin 4)
  | socketPowerTimeout (i : Fin 4)
  | sktPowerOn (who : Sender) (i : Fin 4)
  | sktLeave (who : Sender) (i : Fin 4)
  | sktPowerOff (who : Sender) (i : Fin 4)
  | leaveDrained (src : Pkg)
  | socketPwrEnDrop (i : Fin 4)
  | pkgMarkerTimeout (src : Pkg)
  | pkgLostReport (src : Pkg)
  | pkgLostReceived (src : Fin 16) (beat : Nat)
  | pkgLostPwrEnDrop (src : Pkg)
  -- partitions, Islands, tickets (11)
  | regionTransferDone (agree : Bool)
  | imageUpdateDone (ok : Bool)
  | partStartCopyDone (p : Part)
  | attGo (who : Sender) (sl : Slot)
  | attReportDone (sl : Slot) (agree : Bool)
  | slotSubmitTicket (who : Sender) (sl : Slot) (len : Fin 4096)
  | slotSubmitCommand (who : Sender) (sl : Slot) (len : Fin 4096)
  | slotClear (who : Sender) (sl : Slot) (len : Fin 4096)
  | ticketVetted (sl : Slot) (agree : Bool)
  | ticketAtMaster (src : Pkg) (sl : Slot) (bytes : List Byte)
  | ticketRemoteVet (src : Pkg) (bytes : List Byte) (agree : Bool)
  | ticketVetResult (src : Pkg) (sl : Option Slot) (code : Nat)
  | ticketVetTimeout
  | officerCmdRest (sl : Slot)
  | officerCmdAssay (sl : Slot)
  | mgmtSetOffset (addr : Fin 128) (v : BitVec 16) (pec : Option Bool)
  | mgmtBufferWrite (addr : Fin 128) (bytes : List Byte) (pec : Option Bool)
  | mgmtSlotCmd (addr : Fin 128) (v : Byte) (pec : Option Bool)
  | mgmtReadSlotStat (addr : Fin 128)
  | mgmtReadLastTicket (addr : Fin 128)
  | mgmtReadRestStat (addr : Fin 128)
  -- crypto service (12)
  | ringTailWrite (who : Sender) (r : Ring) (tail : BitVec 16)
  | ringCtlWrite (who : Sender) (r : Ring) (v : Word)
  | ringFetch (r : Ring) (n : Fin 257)
  | cipher (r : Ring) (agree : Bool)
  | hash (r : Ring) (agree : Bool)
  | macGen (r : Ring) (agree : Bool)
  | macVerify (r : Ring) (agree : Bool)
  | pinTranslate (r : Ring) (agree : Bool)
  | random (r : Ring) (agree : Bool)
  | sign (r : Ring) (agree : Bool)
  | verify (r : Ring) (agree : Bool)
  | asymCrypt (r : Ring) (agree : Bool)
  | keyGen (r : Ring) (agree : Bool)
  | kbImport (r : Ring) (agree : Bool)
  | kbExport (r : Ring) (agree : Bool)
  | keyErase (r : Ring) (agree : Bool)
  | keyInfo (r : Ring) (agree : Bool)
  | pubExport (r : Ring) (agree : Bool)
  -- PCIe (13)
  | pcieCompletion (k : Fin 32) (tag : Fin 1024) (status : Fin 8) (data : Line)
  | pcieCplTimeout (k : Fin 32) (tag : Fin 1024)
  | tagQuarantineEnd (k : Fin 32) (tag : Fin 1024)
  | cfgRead (who : Sender) (k : Fin 32)
  | cfgWrite (who : Sender) (k : Fin 32) (v : BitVec 32)
  | cfgRrsRetry (k : Fin 32)
  | pcieMemoryRead (k : Fin 32) (bus : Byte) (addr : Word) (len : Nat) (tag : Nat)
  | pcieMemoryWrite (k : Fin 32) (bus : Byte) (addr : Word) (bytes : List Byte) (poisoned : Bool)
  | pcieAtomicop (k : Fin 32) (bus : Byte) (addr : Word) (op : Fin 3) (size : Nat) (arg arg2 : Word) (tag : Nat)
  | pcieMsi (k : Fin 32) (addr : Word) (bytes : List Byte)
  | pcieErrMsg (k : Fin 32) (reqId : BitVec 16) (sev : Fin 3)
  | pcieIntx (k : Fin 32) (reqId : BitVec 16)
  | pcieLinkDown (k : Fin 32) (state : Fin 3)
  | pcieLinkUp (k : Fin 32) (speed : Fin 8) (width : Fin 32) (flit : Bool)
  | segCtlWrite (who : Sender) (k : Fin 32) (v : Word)
  | segHotReset (who : Sender) (k : Fin 32) (v : Word)
  | hotResetEnd (k : Fin 32)
  | slotPowerOn (who : Sender) (k : Fin 32) (v : Word)
  | slotPowerOff (who : Sender) (k : Fin 32) (v : Word)
  | slotPwrgdTimeout (k : Fin 32)
  | slotPerstRelease (k : Fin 32)
  | slotPwrenDrop (k : Fin 32)
  | slotPresenceChange (k : Fin 32) (present : Bool)
  | slotPwrgdFall (k : Fin 32)
  | slotButton (k : Fin 32)
  | sepHostAccess (port : Fin 2) (f : Fin 8) (bar : Fin 4) (off : Nat) (size : Nat) (wr : Bool) (bytes : List Byte)
  | sepHostDb (port : Fin 2) (f : Fin 8) (v : BitVec 32)
  | sepHostInt (who : Sender) (port : Fin 2) (f : Fin 8) (v : BitVec 4)
  | sepCopyGo (who : Sender) (port : Fin 2) (f : Fin 8) (v : Word)
  | sepCopyDone (port : Fin 2) (f : Fin 8) (code : Fin 5)
  | sepBmeClear (port : Fin 2) (f : Fin 8)
  | sepFlr (port : Fin 2) (f : Fin 8)
  | sepFlrDone (port : Fin 2) (f : Fin 8)
  | sepHostPerst (port : Fin 2) (linkDown : Bool)
  -- power, Rest (14)
  | domainDrainDone (d : Die) (cluster : Option (Fin 2))
  | targetOff (m : CMsg) (wait : Bool)
  | wakeNotice (pkg : Pkg) (d : Option Die)
  | dieWakeDone (d : Die)
  | restNotice (src : Pkg)
  | restDrainDone (agree : Bool)
  | restingNotice (src : Pkg)
  | restReqWrite (who : Sender) (v : Word)
  | pwrHubReqWrite (who : Sender) (v : Word)
  | cdPlReqWrite (who : Sender) (d : Die) (k : Fin 2) (v : Word)
  | wakeMatch (addr : Fin 128)
  | wakeStepEnd (ready agree : Bool)
  -- errors, Assay, debug (15)
  | elogTailWrite (who : Sender) (n : Fin 32) (v : BitVec 32)
  | gongMessage (h : Hub) (src : Pkg) (cause : Nat) (unitKind unitNum : Nat) (beat : Nat) (mask : BitVec 16)
  | assayPrepared (i : Fin 14)
  | assayTestDone (i : Fin 14) (sig : Word)
  | tapIdcode
  | tapSamplePreload (pins load : List Bool)
  | tapExtest
  | tapClamp
  | tapHighz
  | dbgSelect (c : Core)
  | dbgHalt (halt : Bool)
  | dbgRegs (reg : Nat) (wr : Option Word)
  | dbgMem (pa : Word) (wr : Option Word)
  | dbgArray (level : Fin 5) (set way : Nat)
  | tapBypass
  -- pins and the rows added last (16 and others)
  | thermtripAnalog
  | vrPgFall (d : Die)
  | resetAssert
  | refclkLoss
  | laserSwitchDone (half : Fin 2)
  | pcieRecoveryEntry (k : Fin 32)
  | pcieRecoveryExit (k : Fin 32)
  | sepHostPerstRelease (port : Fin 2)
  | sepHostConfig (port : Fin 2) (f : Fin 8) (reg : Nat) (wr : Option (BitVec 32))
  | moduleNotAnswering (ch : Chan)
  | moduleTemperature (ch : Chan) (hot : Bool)
  | mgmtBusTimeout
  | perstHoldExpiry (k : Fin 32)
  deriving DecidableEq, Repr

end Sys2Proof
end

