-- ==== Sys2Proof/Decode.lean ====
section
/-! DEFINITION. The command that a word spells by the opcode table's bits. The table gives no row any bits, so no word
spells a command (log entry 1). -/

namespace Sys2Proof

/-- No row of spec/opcode_table.json has bits: a command reaches the block as a message, an access or an event. -/
def decodeTableWord (nbits w : Nat) : Option Instr :=
  match nbits, w with
  | _, _ => none

end Sys2Proof
end

