-- ==== Sys2Proof/Config.lean ====
section
/-! DEFINITION. What the spec leaves outside itself: free values, and the published algorithms it cites by name.
Each is a constant without a body, so nothing can be proved of its value. -/

namespace Sys2Proof

/-- The free values: the n-th value the spec leaves open (log entry 2). -/
opaque Config.freeValue : Nat → BitVec 64

/-- AES-XTS-256 of a 64-byte line under a 512-bit key, tweaked by the line's address (R256; log entry 3). -/
opaque Config.xts : BitVec 512 → Nat → Equiv.Perm (BitVec 512)

/-- The hub of another package in whose half a line of its DRAM is homed (R26; log entry 12): package and line within its window. -/
opaque Config.farHome : Nat → Nat → Bool

/-- What a flit carries beside its header where the spec lays it out nowhere (R180; log entry 80): channel, opcode, the unit named and its
tag, and the operation's code, size and offset. -/
opaque Config.innerPayload : List Nat → BitVec 512

/-- Where in a Service Core's 1 MiB of local memory a module stands (R79; log entry 86): hub, and whether it is MEM_TRAIN. -/
opaque Config.moduleBase : Nat → Bool → BitVec 20

/-- SHA-384 (R60, R311; log entry 3). -/
opaque Config.sha384 : List Byte → Digest

/-- ECDSA verification on P-384 of a SHA-384 digest: public key, digest, signature (R74, R316; log entry 3). -/
opaque Config.ecdsaOk : List Byte → Digest → List Byte → Bool

/-- ECDSA signature by the package's attestation key (R312; log entry 3). -/
opaque Config.attestSign : Digest → List Byte

/-- The Perulan atomic operations: code, size in bytes, old value, operand, second operand; the new value (R1, R222;
log entry 3). -/
opaque Config.perulanAtomic : Nat → Nat → BitVec 128 → BitVec 128 → BitVec 128 → BitVec 128

/-! ## The algorithms of the crypto service, by the standards R338 names (log entry 3). Keys and data are bytes. -/

/-- AES or (first argument) TDEA in a mode, 0 ECB, 1 CBC, 2 CTR; encrypt; key, IV, data. -/
opaque Config.blockCipher : Bool → Nat → Bool → List Byte → List Byte → List Byte → List Byte

/-- AES-GCM: encrypt; key, IV, AAD, data with the tag for decryption; none where the tag is wrong. -/
opaque Config.gcm : Bool → List Byte → List Byte → List Byte → List Byte → Option (List Byte)

/-- HASH by PARAM. -/
opaque Config.hash : Nat → List Byte → List Byte

/-- MAC_GEN's algorithm by PARAM[2:0], padding method, key, data; at full length. -/
opaque Config.mac : Nat → Nat → List Byte → List Byte → List Byte

/-- The working key of AES DUKPT: derivation key, its use (0 PIN encryption, 1 MAC generation, 2 MAC verification), KSN. -/
opaque Config.dukpt : List Byte → Nat → List Byte → List Byte

/-- The kind of an asymmetric key: 0-2 RSA-2048, 3072, 4096; 3 P-256; 4 P-384; 5 Ed25519. -/
opaque Config.asymKind : List Byte → Fin 6

/-- A signature: scheme, hash, whether the source is a digest, key, source, random input. -/
opaque Config.sign : Nat → Nat → Bool → List Byte → List Byte → Word → List Byte

/-- Verification: scheme, hash, whether the source is a digest, key, source, signature. -/
opaque Config.verify : Nat → Nat → Bool → List Byte → List Byte → List Byte → Bool

/-- RSAES-OAEP: decrypt; key, source, random input; none where decryption fails. -/
opaque Config.oaep : Bool → List Byte → List Byte → Word → Option (List Byte)

/-- A generated key from its header and the random source. -/
opaque Config.genKey : List Byte → Word → List Byte

/-- The public key of an asymmetric key. -/
opaque Config.publicKey : List Byte → List Byte

/-- Open an X9.143 version D key block under a protection key: the key, none where the MAC fails. -/
opaque Config.kbOpen : List Byte → List Byte → Option (List Byte)

/-- Wrap a key as an X9.143 version D key block: protection key, header, optional blocks, key, random input. -/
opaque Config.kbWrap : List Byte → List Byte → List Byte → List Byte → Word → List Byte

/-- The protection key of a CRYPTO_KEYS or KEY_IMPORT blob (R343): ephemeral public key, partition, slot; of this package. -/
opaque Config.importKey : List Byte → Nat → Nat → List Byte

/-! ## What manufacture fixes in one package (log entry 5): fuses, and keys derived from its physical unclonable function. -/

/-- The fused hash of the image signer's key (R74). -/
opaque Config.signerHash : Digest

/-- The anti-rollback counter as manufacture left it (R74, R78). -/
opaque Config.fusedRollback : Fin 256

/-- The grade is ZL240-28 (R64 GRADE). -/
opaque Config.grade28 : Bool

/-- The fused manufacturer identity of IDCODE (R432). -/
opaque Config.manufacturer : Fin 2048

/-- The fused PCI vendor identity (R369). -/
opaque Config.vendorId : Fin 65536

/-- Silicon stepping (R64). -/
opaque Config.stepping : Fin 256

/-- The words of ATT_SERIAL, ATT_ENDORSE_k, ATT_PUB_k (R329), CS_IMPORT_PUB_k and CS_IMPORT_SIG_k (R343). -/
opaque Config.serial : Word
opaque Config.endorse : Nat → Word
opaque Config.attPub : Nat → Word
opaque Config.importPub : Nat → Word
opaque Config.importSig : Nat → Word

end Sys2Proof
end

