-- ==== Sys2Proof/Machine/State.lean ====
section
/-! DEFINITION. The state of one ZL240 package, as plain data. Registers of Control Space stand in one sparse file
keyed by their Control Space offset (R11, R37); what no register shows stands in one structure per chapter of the spec.
Every map keyed by a number is a list with rising keys and no entry equal to the default. -/

namespace Sys2Proof.Machine

/-- A map from numbers, sparse: keys rise strictly and no entry holds the default value. -/
abbrev SMap (α : Type) := List (Nat × α)

/-! ## The beat, Peal and hallmark (02) -/

/-- What a Peal carries (R52, R57, R64 KIND). -/
structure Change where
  kind : Nat               -- PEAL_INFO_n.KIND
  body : List Byte         -- kind 0: the ticket
  -- kind 1: [0] 1 = enter owner-ordered, 0 = return; [4:1] scope, 0 = every admitted package, else a package plus 1; [9:5] the
  -- leaving package plus 1; kind 2: the package plus 8 times the mask of the admitted ones; kind 3: the package; kind 4: package * 8 + port
  arg : Nat
  deriving DecidableEq, Repr, Inhabited

structure PealSlot where
  valid : Bool
  target : Nat
  seq : Nat
  ticket : Nat
  change : Change
  units : List Nat         -- participants of this package, fixed when it was armed (R54): 0-11 dies, 12-13 hubs, 14 always-on domain
  waiting : List Nat       -- those of them that have not armed yet
  waitPkgs : List Nat      -- packages whose result has not come, as the master gathers them (another package holds them all)
  missing : Option (Nat × Nat)  -- lowest missing participant reported, package and unit
  decided : Option Bool    -- the master's verdict: COMMIT or CANCEL
  verdicts : List (Nat × Bool)  -- the units of this package that hold the verdict
  deriving DecidableEq, Repr, Inhabited

structure BeatSt where
  now : Nat                -- beat number (R44)
  running : Bool           -- the timebase has its reference clock (R442)
  offsets : List (Nat × Nat)  -- beat and magnitude of OFFSET over the last 1024 beats (R64 WORST)
  over20 : Nat             -- consecutive boundaries with an offset above 20 ns (R48)
  noMaster : Nat           -- consecutive beats without a marker from the master (R48)
  slots : SMap PealSlot    -- the four Peal slots (R52)
  nextSeq : Nat            -- last sequence number given (R52)
  isolated : Bool          -- isolated under R58
  resume : Bool            -- found in the majority: traffic resumes at the next boundary (R63)
  selfFenced : Bool        -- the package fenced itself (R48 and others)
  hallmark : List Digest   -- the hallmark as each hub computed it, HUB-A first (R60, R61)
  exchanges : List Nat     -- boundaries at which an exchange is due besides the periodic ones (R62)
  peers : SMap Digest      -- the full hallmark last received from each package (R63)
  heardFrom : List Nat     -- packages heard in the exchange in progress
  adopt : Option Nat       -- the system's beat in progress, taken from a marker and not yet adopted (R44)
  h0 : Digest              -- H0 (R60)
  deriving DecidableEq, Repr, Inhabited

/-! ## The configuration image (03) -/

structure TopoEntry where
  pkg : Nat
  board : Nat
  widthMin : Nat
  peer : List Nat
  route : List Nat
  deriving DecidableEq, Repr, Inhabited

structure PartRec where
  id : Nat
  flags : Nat
  rings : Nat
  startDelay : Nat
  bootCore : Nat           -- the BOOT_CORE field, core and package
  loadPa : Nat
  entryPa : Nat
  memBw : Nat
  inj : Nat
  crypto : Nat
  head : List Byte         -- bytes 0-63 of the record's value, for the resource descriptor (R310)
  payload : List Byte
  deriving DecidableEq, Repr, Inhabited

structure RegionRec where
  pkg : Nat
  part : Nat
  strength : Nat
  base : Nat
  size : Nat
  raw : List Byte
  deriving DecidableEq, Repr, Inhabited

structure GroupRec where
  pkg : Nat
  order : Nat
  dimms : Nat
  carve : Nat
  deriving DecidableEq, Repr, Inhabited

structure PortRec where
  pkg : Nat
  port : Nat
  mode : Nat
  split : Nat
  maxGen : Nat
  segOwner : List Nat
  deriving DecidableEq, Repr, Inhabited

structure WindowRec where
  pkg : Nat
  port : Nat
  seg : Nat
  part : Nat
  base : Nat
  size : Nat
  raw : List Byte
  deriving DecidableEq, Repr, Inhabited

structure Officer where
  id : Nat
  role : Nat
  key : List Byte
  deriving DecidableEq, Repr, Inhabited

structure KeyRec where
  pkg : Nat
  part : Nat
  slot : Nat
  blob : List Byte
  raw : List Byte          -- the 8-byte entry header
  deriving DecidableEq, Repr, Inhabited

structure SigRec where
  block : Nat
  test : Nat
  sig : Nat
  deriving DecidableEq, Repr, Inhabited

structure ModuleRec where
  codeLen : Nat
  dataLen : Nat
  fullEntry : Nat
  resumeEntry : Nat
  timeLimit : Nat
  body : List Byte
  deriving DecidableEq, Repr, Inhabited

/-- The parsed records of an image, and then the effective configuration as change tickets left it (R72, R314). -/
structure Image where
  rollback : Nat
  imageId : Nat
  systemId : Nat
  pkgMask : Nat
  n : Nat
  topo : List TopoEntry
  parts : List PartRec
  coreOwners : List (Nat × List Nat)   -- package, OWNER bytes
  groups : List GroupRec
  regions : List RegionRec
  memTrain : ModuleRec
  linkTrain : ModuleRec
  ports : List PortRec
  windows : List WindowRec
  perf : List (Nat × Nat × Nat)        -- CORE_MHZ, VCD_MV, VHUB_MV
  capW : Nat
  plCeil : List Nat
  officers : List Officer
  keys : List KeyRec
  sigs : List SigRec
  mgmtAddr : Nat
  wakeAddr : Nat
  pec : Bool
  body : List Byte         -- every byte before SIGNATURE (R60)
  pubkey : List Byte
  sig : List Byte
  deriving DecidableEq, Repr, Inhabited

/-- One hub's image copy: what the read gave and each Island's verdict on it (R69, R74). -/
structure ImgCopy where
  done : Bool
  fault : Nat              -- fault coded as LOCK_CAUSE; 0 = none so far
  bytes : List Byte
  deriving DecidableEq, Repr, Inhabited

/-- A task of a training module on a Service Core (R79). -/
structure SvcTask where
  mem : Bool               -- of MEM_TRAIN, else of LINK_TRAIN
  task : Nat               -- the task number, its first argument
  hub : Nat                -- whose Service Core runs it
  entry : Nat              -- code offset at which it is entered: FULL_ENTRY or RESUME_ENTRY
  data : Nat               -- local address of DATA, its second argument
  start : Nat              -- beat in which it began, at the latest
  full : Bool              -- entered at FULL_ENTRY, as a task of a stage of R80
  deriving DecidableEq, Repr, Inhabited

structure BootSt where
  stat : Word              -- BOOT_STAT (R83)
  inReset : Bool           -- RESET_N asserted
  strap : Nat              -- PKG_ID sampled (R65)
  advanced : Nat           -- the anti-rollback counter as the Islands advanced it (R78)
  copies : SMap ImgCopy    -- image buffers of HUB-A and HUB-B
  flashEnabled : Bool      -- the flash interface is enabled (R67)
  flashHiZ : Bool          -- the flash lands are at high impedance (R83, R443)
  selected : Option Image  -- selected and waiting to be applied (R66 step 5)
  cfg : Image              -- the effective configuration
  ceils : SMap Nat         -- PWR_CEIL of other packages as tickets changed it, plus 1 (R311)
  applied : Bool
  stage : Nat              -- training stage 1-5 of R80; 0 before, 6 after
  svcMods : SMap (List (List Byte))  -- per Service Core, what its local memory holds: MEM_TRAIN and LINK_TRAIN, code and data (R79)
  svcTasks : List SvcTask  -- tasks of the modules that have been called for and have not ended
  memFails : List (Nat × Nat)  -- failing channels and their LOCK_CAUSE
  tilesOk : List Nat
  chFound : SMap (List Spd)    -- per channel, what the SPDs of its modules report (R264)
  startBeats : SMap Nat    -- per partition, the start beat awaited (R81, R321)
  started : List Nat       -- partitions started or failed since power-on
  detached : Bool          -- after a planned leave: only the always-on domain is powered (R291)
  bufferCleared : Bool     -- step 9 of R66 done
  deriving DecidableEq, Repr, Inhabited

/-! ## Cores, twin mode and the Carillon (04) -/

/-- A vector in a core's pending or active set with the class and priority it was delivered with (R108, R109). -/
structure PendVec where
  vec : Nat
  prio : Nat
  rsv : Bool
  deriving DecidableEq, Repr, Inhabited

structure CoreH where
  retries : Nat            -- retries from the current checkpoint (R87, R88)
  flag : Bool              -- checker flag (R96)
  assayed : Bool           -- fenced, and its die has passed Assay since (R98, R304)
  pend : List PendVec
  active : List PendVec
  held : List Nat          -- held inter-processor interrupts (R112)
  restState : Nat          -- CORE_STAT.STATE at Rest entry (R103)
  pc : Nat                 -- where the core last started executing (R81, R102, R103)
  tlbiStall : List (Nat × Nat × Nat)  -- writes stalled under R167: op + 8 * LOCAL, VA page, ASID
  syncWait : Bool          -- a TLBI_SYNC write waits (R169)
  stopping : Bool          -- it halts when the compare it waits at completes (R102)
  debugRegs : SMap Word    -- architectural registers as the debug port last wrote them (R432)
  deriving DecidableEq, Repr, Inhabited

structure TwinMsg where
  kind : Nat
  addr : Nat
  size : Nat
  attr : Attr
  mask : Mask
  data : Line
  retired : Nat
  user : Bool              -- made at the Perulan user level
  deriving DecidableEq, Repr, Inhabited

/-- One stamped input of a twin pair (R94). -/
structure TwinInput where
  d : Nat
  kind : Nat               -- 0 = vector delivery, 1 = invalidation of a line, 2 = TLB invalidation, 3 = update of a line
  arg : Nat
  prio : Nat               -- of a vector delivery
  rsv : Bool
  upd : Option (Mask × Line)  -- the bytes of an update
  lower : Bool             -- still to be applied by the lower member
  upper : Bool
  deriving DecidableEq, Repr, Inhabited

structure TwinH where
  lowerMsg : Option TwinMsg
  upperMsg : Option TwinMsg
  mismatched : Bool        -- a mismatch since the last agreed checkpoint (R97)
  retLower : Nat
  retUpper : Nat
  inputs : List TwinInput
  stateCmp : Option Nat    -- count of the state compare set at the last boundary (R95)
  badPoint : Option Nat    -- retired count of the compare point that mismatched
  rejoin : Option Nat      -- the member a ticket rejoins at the next state compare (R99)
  deriving DecidableEq, Repr, Inhabited

structure CoreSt where
  hid : SMap CoreH
  twins : SMap TwinH
  twinSnp : List (Nat × CMsg)  -- die and snoop waiting for twin members to apply an invalidation (R94)
  far : SMap Nat           -- 256 * package + core: 1 + the state of another package's core as its notices last told it (R108)
  agreed : Option Nat      -- the pair whose agreed compare point is taking effect (R91); none between commands
  ovfSrc : SMap Nat        -- per partition, 1 + the core whose overflow latched vector 3 (R108)
  rsvSent : SMap Nat       -- reserved-class deliveries of each partition in this beat (R111)
  timeRead : Nat           -- the last value a read of the time register gave, or 0 (R85)
  ipiLatch : List (Nat × Nat × Nat)  -- partition, vector, core: inter-processor interrupts that a LATCHED entry stands for (R112)
  deriving DecidableEq, Repr, Inhabited

/-! ## Caches (05) -/

structure Sector where
  valid : Bool
  dirty : Bool
  data : Line
  deriving DecidableEq, Repr, Inhabited

/-- An L1 block: physical address bits [51:13] (R117, R118); its sectors stand in their own map. -/
structure L1Blk where
  used : Bool
  tag : Nat
  deriving DecidableEq, Repr, Inhabited

/-- An access of a core that waits for a fill or a home response. -/
structure Acc where
  core : Nat
  src : Src                -- fetch, load, store, atomic; maint for an operation of CMO_ISSUE
  va : Nat
  pa : Nat
  size : Nat               -- bytes
  data : Line              -- of a store, from bit 0
  aop : AtOp
  attr : Attr
  user : Bool
  part : Nat
  twin : Bool              -- performed once for a twin pair (R91)
  lost : List Nat          -- cores it was performed for that have failed since: what arrives for them is dropped (R88)
  deriving DecidableEq, Repr, Inhabited

/-- An L1D or L1I miss register: one sector being filled, its primary and merged accesses (R124, R125). -/
structure L1Miss where
  core : Nat
  instr : Bool
  line : Nat
  way : Nat
  accs : List Acc
  deriving DecidableEq, Repr, Inhabited

structure DcLine where
  line : Nat
  coh : Coh
  part : Nat
  presence : Nat           -- 40 bits: L1D of local core i at i, L1I at 20 + i (R122)
  data : Line
  clean : Bool             -- held S since the home collected every dirty copy: no die holds the line dirty (R133)
  deriving DecidableEq, Repr, Inhabited

/-- A Die Cache miss register (R126): the request outstanding for a line, what has arrived, who is merged. -/
structure DcMiss where
  die : Nat
  line : Nat
  way : Nat
  op : COp
  txn : Nat
  part : Nat
  got : Option (Coh × Line)
  grant : Option Bool      -- COMP received: contended or not
  due : Bool               -- it said that data is due to an UPGRADE, which was served as a RD_UNIQUE
  l1s : List (Nat × Bool)  -- cores merged, and whether for their L1I
  walks : List (Nat × Nat) -- cores and walkers merged
  atomicBy : Option Nat    -- the core whose near atomic it serves (R221)
  sent : Bool              -- false while the request waits for WB_ACK or to be issued again
  counted : Bool           -- it waits for a miss register, and is counted in MISS_FULL (R126)
  deriving DecidableEq, Repr, Inhabited

/-- A request of a core outstanding at a home or target without a Die Cache miss register:
UC, DEV, WT, far atomic, maintenance by address, PCIe. -/
structure Direct where
  acc : Acc
  unit : Nat               -- the unit that sent it: a core, or the Die Cache for WT_WRITE, FAR_ATOMIC and maintenance
  op : COp
  line : Nat
  txn : Nat
  sent : Bool              -- false while it waits to be issued again or for a target that is off
  deriving DecidableEq, Repr, Inhabited

/-- A write-back buffer entry of a Die Cache (R217). -/
structure WbEnt where
  die : Nat
  line : Nat
  coh : Coh                -- i once a snoop has been answered from it
  part : Nat
  data : Line
  txn : Nat
  deriving DecidableEq, Repr, Inhabited

/-- A maintenance operation of a core that has still to end at a home or in a write-back buffer (R142). -/
structure CmoOut where
  core : Nat
  walk : Bool              -- a whole-level walk, whose write of CMO_ISSUE has completed
  hold : Bool              -- it met a fill: later requests for its lines wait for it (R143)
  parts : List (Nat × Nat) -- sending unit and line of each part that is not answered yet
  deriving DecidableEq, Repr, Inhabited

structure CacheSt where
  l1d : SMap L1Blk         -- key (core * 32 + set) * 8 + way
  l1i : SMap L1Blk
  l1dS : SMap Sector       -- key ((core * 32 + set) * 8 + way) * 4 + sector
  l1iS : SMap Sector
  l1dTree : SMap Nat       -- key core * 32 + set
  l1iTree : SMap Nat
  l0 : SMap Nat            -- key core * 32 + entry; line + 1
  l0Tree : SMap Nat        -- key core
  l1miss : List L1Miss
  waitL1 : List Acc        -- accesses of cores waiting for a miss register or a merge place
  dc : SMap DcLine         -- key (die * 65536 + set) * 16 + way; coh i = invalid
  dcTree : SMap Nat        -- key die * 65536 + set
  dcMiss : List DcMiss
  waitDc : List DcMiss     -- requests waiting for a Die Cache miss register or a way, not yet sent
  direct : List Direct
  wb : List WbEnt
  predictor : SMap Nat     -- key core * 1024 + index (R220)
  cmoWait : List (Nat × Nat × Nat × Bool)  -- core, op, line, whether it has met a fill: maintenance that waits (R142 to R144)
  cmoOut : List CmoOut
  nextTxn : SMap Nat       -- per unit, the next transaction tag
  deriving DecidableEq, Repr, Inhabited

/-! ## Translation (06) -/

structure TlbEnt where
  valid : Bool
  part : Nat
  asid : Nat
  va : Nat                 -- base of the range covered
  bits : Nat               -- log2 of its size: 12, 16, 21, 25, 30
  pa : Nat
  leaf : Word              -- the leaf as walked
  used : Bool              -- the L2 use bit (R163)
  deriving DecidableEq, Repr, Inhabited

structure Walk where
  core : Nat
  n : Nat                  -- walker 0 or 1
  va : Nat
  level : Nat
  desc : Nat               -- physical address of the descriptor being read
  got : Option (Option Word)  -- what its read returned: none until it returns, some none a bus error
  denied : Bool            -- the bus error was the home's refusal of the partition (R159)
  part : Nat
  asid : Nat
  acc : Acc                -- the access that started it
  cmo : Option (Nat × Nat) -- a maintenance operation by virtual address: op and level
  fast : Bool              -- started on a predicted path (R128)
  held : Bool              -- its read waits for a maintenance operation on the line (R143)
  deriving DecidableEq, Repr, Inhabited

/-- A broadcast invalidation not yet applied everywhere (R167, R168). -/
structure Tlbi where
  core : Nat
  op : Nat
  va : Nat
  asid : Nat
  part : Nat
  todo : List (Nat × Nat)  -- package and core that have not applied it
  loc : Bool               -- issued with LOCAL = 1: only its own core applies it
  deriving DecidableEq, Repr, Inhabited

structure XlatSt where
  l1 : SMap TlbEnt         -- key core * 64 + entry
  l1Tree : SMap Nat
  l2 : SMap TlbEnt         -- key (core * 256 + set) * 12 + way
  walks : List Walk
  rewalk : List (Nat × Nat × Nat)  -- core, base and log2 size: a TLB entry lost to a parity error; its next access walks (R165)
  waits : List (Walk × Bool)  -- misses waiting for a walker, or (true) for a walk of the same page
  tlbis : List Tlbi
  deriving DecidableEq, Repr, Inhabited

/-! ## Fabric (07) -/

structure ArbH where
  waitStart : SMap Nat     -- requester -> cycle of its first lost round, plus 1
  isRsv : SMap Nat         -- requester -> 1 while its head message is reserved
  burstLeft : Nat          -- beats left of a burst limit counted in beats
  grantAt : Nat            -- fabric cycle of the grant
  served : Bool            -- a message has passed under it
  deriving DecidableEq, Repr, Inhabited

structure RegH where
  rsv : SMap Nat           -- reserved tokens per partition
  share : SMap Nat         -- share tokens per partition
  spare : Nat
  spareAt : Nat            -- the spare pool as it was last set
  waiting : List (Nat × Bool × CMsg)  -- partition, partial write, flit held until the boundary
  stalled : Bool           -- a flit waited in this beat
  deriving DecidableEq, Repr, Inhabited

structure FabSt where
  arbs : SMap ArbH
  regs : SMap RegH
  credits : SMap Nat       -- credits in use, key link * 8 + channel
  replays : SMap Nat       -- consecutive replays of the head flit, per end of a link
  transit : List (Nat × CMsg)  -- fabric port and flit in its transit buffers
  torn : List (Nat × CMsg)     -- mask flits sent over a link whose data flit has not followed yet (R184)
  replayBuf : SMap (List CMsg) -- the last 16 flits sent over each link (R185)
  deriving DecidableEq, Repr, Inhabited

/-! ## Coherence (08) -/

structure DirEnt where
  valid : Bool
  ds : DState
  proxy : Bool
  unsure : Bool
  busy : Bool
  ownerDie : Nat
  ownerPkg : Nat
  dieVec : Nat
  pkgVec : Nat
  tag : Nat
  deriving DecidableEq, Repr, Inhabited

/-- An open transaction of a home (R213). -/
structure Txn where
  hub : Nat
  slot : Nat
  req : CMsg
  waits : List Unt         -- snooped units that have not answered
  contended : Bool
  fwdClean : Bool
  fwdDirty : Bool
  fwdBy : Option Unt       -- the unit that forwarded dirty data
  fwdKept : Bool           -- and stays its owner
  sharers : List Unt       -- units that answered holding S
  dirty : Option Line      -- data of SNP_DATA
  needMem : Bool           -- waits for a memory read
  wrMem : Bool             -- waits for a memory write
  memLine : Option Line
  ackDue : Bool            -- COMP sent, COMP_ACK awaited
  ordered : Bool           -- served by an owner-ordered snoop
  failed : Bool            -- to be answered BUS_ERR
  recallFor : Option CMsg  -- a directory recall: the request that needs the way
  had : List Unt           -- holders named when it opened
  olders : List Unt        -- requesters of the line's owner-ordered transactions open before it (R225)
  stage : Nat              -- 1 once the memory write that ends it has been queued
  deriving DecidableEq, Repr, Inhabited

/-- A snoop that a proxy hub serves for its package (R208), or its recall of a victim (R210). -/
structure ProxySnp where
  hub : Nat
  msg : CMsg
  tag : Nat                -- the transaction tag of its snoops (R181)
  own : Bool               -- a recall of the proxy hub's own
  need : Option CMsg       -- of a recall: the request that needs the way, if a home entry does
  asked : List Nat         -- dies snooped
  waits : List Nat         -- dies that have not answered
  best : COp
  data : Line
  left : List Nat          -- dies that keep a copy
  kept : Bool              -- the owner that forwarded dirty data stays the owner
  via : Unt                -- the requester an answer SNP_RSP_PASSED names
  lost : Bool              -- the owner it waited for was fenced (R232)
  deriving DecidableEq, Repr, Inhabited

structure HomeSt where
  dir : SMap DirEnt        -- key (hub * 524288 + set) * 16 + way
  dirTree : SMap Nat       -- key hub * 524288 + set
  txns : List Txn
  lineq : List (Nat × CMsg × Bool)  -- hub and request, in arrival order, waiting for a BUSY line (true), or for a way or a slot
  heldWb : List (Nat × CMsg)    -- the write-back buffers of R218
  proxies : List ProxySnp
  proxyWb : List (Nat × Nat × Bool × Line)  -- hub, line, whether no snoop has been answered from it, data: recalled, and not acknowledged by its home
  proxyHeld : List (Nat × CMsg)  -- snoops that wait at a proxy hub for its own recall of the line
  fenceWalk : List Nat     -- hubs with a fence walk running
  sweeps : List Nat        -- hubs with a sweep running
  fencing : List (Nat × Nat)    -- (package, die) fence notices held, of every package
  returning : List Nat     -- dies loaded and waiting for the walks to end (R234)
  heldSnp : List CMsg      -- snoops held for a wake notice (R392)
  modeReq : Bool           -- a Peal of kind 1 has been requested and not settled
  scopeAll : Bool          -- owner-ordered mode was entered for every admitted package (R223)
  reports : List Nat       -- master: packages whose homes may return from it (R224)
  passed : List (Nat × Nat × Unt × Bool)  -- die, line, requester: ownership passed on under an owner-ordered snoop (R225); true until it has come
  proxyWait : List (Nat × Nat × Coh)  -- line, die, state: installed lines whose proxy entry waits for a way (R210)
  deriving DecidableEq, Repr, Inhabited

/-! ## Memory (09) -/

/-- One access queued at a channel. -/
structure ChanReq where
  ch : Nat
  line : Nat               -- physical address bits [51:6]
  wr : Bool
  full : Bool              -- a full-line write (R253)
  poison : Bool            -- write the poison marker (R246)
  data : Line
  mask : Mask
  part : Nat
  hub : Nat
  slot : Option Nat        -- the home transaction it serves
  passed : Bool            -- the memory scheduler has passed it (R251)
  deriving DecidableEq, Repr, Inhabited

/-- A parity line in a hub's parity cache (R254). -/
structure PLine where
  valid : Bool
  ch : Nat
  addr : Nat               -- channel-local line of the slot
  dirty : Bool
  data : Stored
  deriving DecidableEq, Repr, Inhabited

/-- A page lock of R251. -/
structure PageLock where
  group : Nat
  page : Nat
  req : ChanReq            -- what the rebuild serves
  own : Option Nat         -- the scrubber's line, where it is the scrubber's rebuild and serves no request (R262)
  reads : List Nat         -- the channels of the page reads that their schedulers have not passed (R249)
  done : Bool              -- its reads are complete and the page only waits to be released
  deriving DecidableEq, Repr, Inhabited

structure DramSt where
  mem : List Host.Cell     -- stored bytes; see Machine/Ops.lean for the key and for what an unlisted byte reads as
  queue : List ChanReq
  locks : List PageLock
  pcache : SMap PLine      -- key (hub * 1024 + set) * 16 + way
  pcTree : SMap Nat
  devCnt : SMap Nat        -- corrections per device (R245)
  tokens : SMap Nat        -- key channel * 16 + partition (R258)
  scrubLeft : SMap Nat     -- grant left per channel (R261)
  scrubStart : SMap Nat    -- beat at which the lap began
  caRetry : SMap Nat       -- retries of the command in progress
  ranOut : List Nat        -- key channel * 16 + partition: its tokens ran out in this beat (R258)
  calAt : SMap Nat         -- key channel * 4 + rank: the beat of the rank's last calibration (R259)
  keysOf : SMap (BitVec 512)    -- memory key of each partition, slot 0 included
  restripePend : List Nat  -- regions whose restripe has not begun
  lost : List Nat          -- lines that a resynchronised page has given up, key channel * 2^34 + channel-local line (R253)
  resyncs : List (Nat × Nat)    -- parity slots lost in the cache whose page is locked (R254)
  deriving DecidableEq, Repr, Inhabited

/-! ## Links and packages (10) -/

structure JoinH where
  pkg : Nat
  h0 : Digest
  ready : Bool             -- its hallmark agrees, and its Peal waits until no other is armed
  ends : Nat               -- ends of the log sent to it whose hallmark has not come back (R286)
  deriving DecidableEq, Repr, Inhabited

structure LinkSt where
  laneFails : SMap Nat     -- key end of a link * 64 + wavelength, failures in this window (R275)
  bridgeBad : Word         -- LINK_BAD of HUB-B's end of the hub bridge, which shows its own (R295)
  bridgeErr : Word         -- LINK_ERR of HUB-B's end of the hub bridge (R295)
  txMap : SMap Nat         -- per link, the wavelengths its peer advertised as good, which the transmitter follows (R272)
  mismRow : SMap Nat       -- consecutive WIDTH_MISMATCH trainings per link (R273)
  replayLanes : SMap Nat   -- same key: failures since the head flit's first replay
  held : List (Nat × CMsg) -- link and held flit (R276)
  pause : List Nat         -- halves paused for a laser switch (R269)
  hellos : SMap Word       -- last hello word of each port (R285)
  helloAge : SMap Nat      -- beats since it
  markers : SMap Word      -- last marker word of each port
  cand : Nat               -- candidate set C as a mask
  candSince : Nat          -- consecutive beats for which the founding conditions held (R285)
  h0Heard : Bool           -- an admitted package is heard
  join : Option JoinH      -- master: the join in progress
  joinWait : Option Nat    -- joining package: beat at which to ask again (R286)
  ticketLog : List (List Byte)  -- tickets applied since the founding, with signatures (R286)
  leave : Option (Nat × Nat × Nat)  -- package, stage, cancellations (R291)
  leaveDone : List Nat     -- packages that have reported their part of the drain; in the others, this one once it has (R291)
  portReports : List Nat   -- package * 8 + port: failed ports whose route change has not been applied, as the master or the reporter knows (R284)
  suspects : List Nat      -- packages reported suspected lost (R292)
  lostAt : SMap Nat        -- beat L + 1 of each lost package (R294)
  lastMarker : SMap Nat    -- beats since a marker of each package
  ioOld : List (Nat × Nat × Nat × Nat)  -- package, unit, tag, line: IO messages outstanding there on a route since changed (R284)
  lastWidth : SMap Nat     -- the width each link last came up at, which it never exceeds again (R275)
  pwrEnDrop : List (Nat × Nat)   -- sockets whose PWR_EN drops at a beat
  failedPorts : List (Nat × Nat) -- package and port reported FAILED
  moved : List (Nat × Nat)       -- routes on their second egress: source and destination (R284)
  deriving DecidableEq, Repr, Inhabited

/-! ## Partitions and the Islands (11) -/

/-- A region transfer in progress (R303). -/
structure Xfer where
  ranges : List (Nat × Nat)     -- base and size
  newKey : Option Nat           -- partition that takes a new key
  olds : List (Nat × Nat × Nat)  -- base, size and key slot that lines of the old ranges keep until it ends
  deriving DecidableEq, Repr, Inhabited

structure TicketProg where
  origin : Nat             -- package
  slot : Nat
  bytes : List Byte
  waitPkgs : List Nat
  refusals : List (Nat × Nat)   -- package and code
  seq : Nat                -- the Peal's sequence number once armed
  deriving DecidableEq, Repr, Inhabited

structure StartCopy where
  part : Nat
  pkg : Nat                -- the boot core and its package
  boot : Nat
  src : Nat
  srcPart : Nat
  load : Nat
  len : Nat
  digest : Digest
  entry : Nat
  need : Nat               -- reads of the payload not yet answered
  buf : List Byte          -- the payload as it was read
  wait : Nat               -- writes of the copy not yet answered
  bad : Bool               -- one of its accesses has failed
  done : Bool
  ok : Bool
  deriving DecidableEq, Repr, Inhabited

/-- A change held in Rest, with the ticket number and the hallmark in force at its target beat, against which a ticket is vetted at wake (R318). -/
structure HeldChange where
  change : Change
  last : Nat
  prior : Digest
  deriving DecidableEq, Repr, Inhabited

structure SecSt where
  mgmtOff : Nat            -- slot 0 buffer offset (R330)
  touchmarks : SMap Digest
  vetting : List (Nat × List Byte)  -- slots of this package whose ticket its Islands vet
  forwarded : List (Nat × List Byte)  -- slots whose ticket has gone to the master and is not armed
  commands : List (Nat × List Byte) -- slots whose officer command is not settled
  fetched : List (Nat × List Byte)  -- what the Islands read for the armed ticket, by record
  ackPeals : List Nat      -- sequence numbers of tickets whose conditions this package has checked
  ticket : Option TicketProg        -- master: the ticket between acceptance and verdict
  mine : Option (Nat × Nat)         -- this package's slot whose ticket is armed, and its Peal's SEQ
  xfers : List Xfer
  heldReq : List (Nat × CMsg)       -- requests held during a transfer
  imgUpd : Option (List Byte)
  copies : List StartCopy
  attesting : List Nat
  disagreeRow : Nat        -- consecutive ISLAND_DISAGREE refusals (R307)
  wrapped : Bool           -- keys wrapped in the always-on domain (R309)
  heldChanges : List HeldChange     -- changes held in Rest, in the order of their Peals (R54, R318)
  differ : Bool            -- within a command: the Islands' results of its compared operations differ (R307)
  deriving DecidableEq, Repr, Inhabited

/-! ## Crypto service (12) -/

/-- A key slot: its X9.143 header and key material; empty when the header is empty (R341). -/
structure KeyEnt where
  header : List Byte
  opt : List Byte          -- optional blocks, carried unchanged
  key : List Byte
  deriving DecidableEq, Repr, Inhabited

structure DescH where
  seq : Nat                -- the counter value of its slot
  bytes : BitVec 512
  keyA : KeyEnt            -- its keys as they stood at issue (R335)
  keyB : KeyEnt
  need : Nat               -- reads of its buffers not yet answered
  src : List Byte          -- the source as it was read
  sig : List Byte          -- the signature that VERIFY reads from DST_PA
  wait : Nat               -- writes of its output not yet answered
  bad : Bool               -- one of its accesses has failed
  done : Bool
  told : Bool              -- its completion word is on its way
  code : Nat
  outLen : Nat
  deriving DecidableEq, Repr, Inhabited

structure RingH where
  fetched : List DescH     -- fetched, not issued
  exec : List DescH        -- issued, in ring order
  fetchAt : Nat            -- counter value of the next slot to fetch
  tokWait : Bool           -- waited for tokens in this beat
  deriving DecidableEq, Repr, Inhabited

structure CryptoSt where
  rings : SMap RingH
  dma : SMap (List CMsg)   -- requests to memory, in order: of ring r, of the Service Core of hub h (64 + h)
  keys : SMap KeyEnt       -- key partition * 1024 + slot
  counts : SMap Int
  capNow : Nat             -- the capacity of the current beat (R344)
  spare : Nat
  lastRing : SMap Nat      -- per front and partition, the ring served last
  deriving DecidableEq, Repr, Inhabited

/-! ## PCIe (13) -/

structure PcieReq where
  tag : Nat
  -- 0 core read, 1 configuration read, 2 configuration write, 3 copy-engine read, 4 an aborted copy-engine read, 5 a read of
  -- another package's core or of a segment's peer, 6 a posted write, whose bytes acc holds
  kind : Nat
  acc : Acc
  cfg : Nat
  sent : Bool
  rsv : Bool               -- a reserved request's, whose data returns on RSV_DAT (R189)
  deriving DecidableEq, Repr, Inhabited

structure SegH where
  out : List PcieReq
  waitTag : List PcieReq   -- waiting for a tag or for L0, in order, posted writes among them
  quarantine : List Nat
  dma : List CMsg          -- DMA requests not yet performed, in order
  msi : List (Nat × Nat)   -- MSI vectors waiting for earlier writes: vector and DMA writes before it
  rrs : List (PcieReq × Nat)     -- configuration requests under R355, and milliseconds waited
  pwrSeq : Nat             -- 0 none; 1 awaiting SLOT_PWRGD; 2 awaiting PERST release; 3 power drop due
  swren : Bool             -- SLOT_PWREN[k]
  perstRel : Bool          -- PERST_N release due after 100 us (R364)
  perstHeld : Bool         -- 100 us since assertion have not passed
  deriving DecidableEq, Repr, Inhabited

structure FnH where
  msixAddr : SMap Word
  msixData : SMap Nat
  msixMask : Nat           -- unmasked entries, a set bit per entry
  pba : Nat
  hostStat : Nat
  inta : Bool
  copy : Option (Nat × Nat)      -- copy engine: lines done, lines to do
  cfg : SMap Nat           -- configuration registers the host wrote, by dword
  deriving DecidableEq, Repr, Inhabited

structure PcieSt where
  segs : SMap SegH
  fns : SMap FnH           -- key port * 8 + function
  deriving DecidableEq, Repr, Inhabited

/-! ## Power and Rest (14) -/

structure UnitPwr where
  kept : Option Nat        -- grant kept while a change runs (R382)
  thermal : Nat            -- 7 less the thermal limit (R388)
  fails : Nat              -- consecutive AVS failures (R383)
  first : Bool             -- one failure of the change in progress
  goal : Nat               -- the level of the change in progress
  est : List Nat           -- last report
  reported : Bool          -- its report of this beat is in; a hub: its seven reports reached the other hub
  deriving DecidableEq, Repr, Inhabited

/-- A Control Space access held under R392 until the domain's wake notice: die, requester, register, value written. -/
structure HeldCs where
  die : Nat
  who : Who
  off : Nat
  wr : Option Word
  deriving DecidableEq, Repr, Inhabited

structure PwrSt where
  units : SMap UnitPwr
  floorAt : Nat            -- beat of the last POWER_CAP_FLOOR record, plus 1
  drain : List (Nat × Nat) -- dies draining, and clusters (0 west, 1 east, 2 whole die)
  heldIo : List CMsg       -- messages held for a wake notice (R392)
  heldCs : List HeldCs     -- Control Space accesses held for a wake notice (R392)
  wakeStep : Nat           -- 0 none, 1-4 steps of R403
  wakeChans : List Nat     -- the channels that the wake brings out of self-refresh
  restPkgs : List Nat      -- packages whose REST notice has arrived and that are not awake yet (R397)
  wakeLatched : Bool
  heldGongs : Nat          -- Gong messages beyond the 8 kept in Rest (R411)
  thermtrip : Bool         -- THERMTRIP_N asserted (R444)
  vrEn : Bool              -- the VR_EN outputs (R439)
  waking : List Nat        -- dies waking (R393)
  woken : List Nat         -- dies whose cores enter HALT at the next boundary
  deriving DecidableEq, Repr, Inhabited

/-! ## Errors, Assay and debug (15) -/

structure Rec where
  beat : Nat
  kind : Nat
  unit : Nat
  part : Nat
  code : Nat
  sev : Nat
  addr : Option Nat
  detail : Nat
  count : Nat
  deriving DecidableEq, Repr, Inhabited

/-- One error log: its records by slot, WRITTEN, TAIL and its counts (R410, R417). -/
structure ELog where
  recs : SMap Rec
  written : Nat
  tail : Nat
  lost : Nat
  merged : Nat
  deriving DecidableEq, Repr, Inhabited

structure Gong where
  src : Nat
  cause : Nat
  kind : Nat
  unit : Nat
  beat : Nat
  mask : Nat
  done : Bool
  deriving DecidableEq, Repr, Inhabited

structure ErrSt where
  logs : SMap ELog
  gongs : List Gong        -- Gongs held, applied or to be applied (R419)
  raise : List Gong        -- to be raised at the next boundary (R418)
  assayQ : List Nat
  assayTests : SMap Nat    -- TESTS of each queued block
  assayLevel : SMap Nat
  assayTest : Nat          -- the test in progress
  assayPrior : SMap Nat    -- state of a block before Assay: 1 in service, 2 fenced, 3 hub; 4 = kept down after it (R429)
  assayFresh : Bool        -- the first settlement after preparation has not come yet (R427)
  assayRes : Option Nat    -- a result that ends the block at the next boundary: 0 by its signatures, else the RESULT code
  dbgCore : Option Nat     -- core selected by DBG_SELECT
  tapIr : Nat
  tapDr : List Word        -- what the last TAP instruction put into its data register
  boundary : List Bool     -- boundary register
  pinsDriven : Nat         -- 0 normal, 1 EXTEST or CLAMP, 2 HIGHZ
  deriving DecidableEq, Repr, Inhabited

/-! ## What is sent, and the whole -/

/-- What the block sends: to its own units (until they receive it), to other packages, to devices and to the board. -/
inductive Msg where
  | coh (m : CMsg)                                   -- a coherent message on the fabric
  | core (c : Nat) (code : Nat) (data : Line)        -- an outcome to a core: 0 done, 1 bus error, 2 translation fault, 3 waits, 4 reissue
  | remote (pkg c : Nat) (code : Nat) (data : Line) (rsv : Bool := false)  -- the same to a core of another package; rsv: on RSV_DAT
  | socket (dst i cmd : Nat)                         -- a socket command forwarded to its board's sponsor (R287)
  | source (part vec : Nat) (core : Option Nat)      -- a source message to the Carillon (R106, R107)
  | vector (pkg core part vec prio : Nat) (rsv : Bool)  -- an interrupt delivery to a core of another package
  | runNotice (pkg core part : Nat)
  | tlbi (pkg core op va asid part : Nat)
  | pealReq (dst target : Nat) (c : Change)          -- a request to the master
  | pealArm (dst unit seq target : Nat) (c : Change) -- the arming message to a unit
  | peal (dst unit seq step : Nat) (ok : Bool)       -- step 2 acknowledgement, 3 package result, 4 verdict, 5 refusal (seq is its code)
  | train (link step width map : Nat)                -- what an end sends in ADVERTISE, with its good wavelengths, or in CONFIRM (R272)
  | hallmark (dst : Nat) (h : Digest) (ticket beat : Nat)
  | fence (dst die : Nat) (clear : Bool)
  | gong (dst : Nat) (g : Gong)
  | power (unit level : Nat)                         -- a grant
  | report (hub unit : Nat)
  | avs (unit mv : Nat)                              -- a voltage write
  | ctlSlot (port : Nat) (words : List Word)         -- a control slot of a fabric port (R278)
  | join (dst : Nat) (step : Nat) (h : Digest)
  | ticket (dst slot : Nat) (bytes : List Byte) (code : Nat)
  | rest (dst step : Nat)                            -- REST, RESTING and wake notices
  | leaveDone (dst : Nat)                            -- a package's drained report of a planned leave (R291)
  | lost (dst pkg beat : Nat)                        -- the declaration of R293; from pkg 8 up: the remaining set lacks quorum, pkg - 8 its lowest lost one
  | suspect (dst pkg : Nat)                          -- a report to the master (R292)
  | pcie (seg kind tag : Nat) (addr : Nat) (bytes : List Byte)   -- a request or completion on a segment's link
  | host (port fn kind : Nat) (bytes : List Byte)    -- toward the Service Endpoint host
  | smbus (ack : Bool) (bytes : List Byte)           -- the management-bus target's answer
  | pin (name : String) (n : Nat) (level : Bool)     -- an output land changes
  | flash (hub : Nat) (bytes : List Byte)            -- an image-update write
  | dram (ch : Nat) (cmd : Nat) (arg : Nat)          -- a command to a memory channel's ranks
  deriving DecidableEq, Repr, Inhabited

/-- How far a message on the fabric has come, where it is known: the router it is at (R176), the meshes it has left, whether its
injection regulator has passed it (R193). -/
structure FlitAt where
  msg : CMsg
  router : Option (Nat × Nat × Nat)  -- mesh, x, y
  goal : Nat × Nat         -- the router at which it leaves that mesh, fixed as it enters (R176)
  left : List Nat
  passed : Bool
  deriving DecidableEq, Repr, Inhabited

structure State where
  regs : SMap Word         -- Control Space registers that differ from their Reset value, by offset
  beat : BeatSt
  boot : BootSt
  cores : CoreSt
  cache : CacheSt
  xlat : XlatSt
  fab : FabSt
  home : HomeSt
  dram : DramSt
  links : LinkSt
  sec : SecSt
  crypto : CryptoSt
  pcie : PcieSt
  pwr : PwrSt
  err : ErrSt
  sent : List Msg          -- messages sent and not yet received, oldest first
  flits : List FlitAt      -- of the coherent ones among them, how far they have come
  freeCtr : Nat            -- free values taken so far (the model's own field)
  pending : List Instr     -- the commands waiting, first in first out
  deriving DecidableEq, Repr

/-- No command of the block stops the machine with a fault: the spec gives every one of them an outcome (a bus error, a
record, an answer), which is a next state. The type has no constructor, so a fault cannot be answered. -/
inductive Fault where
  deriving DecidableEq, Repr

/-- Why a command is refused. -/
inductive Refusal where
  /-- An arm of exec that has no meaning yet. Safe. -/
  | notModelled (mnemonic : String)
  deriving DecidableEq, Repr

/-- The package right after power-on with RESET_N asserted: every register at its Reset value (R21), the start-up of R66
not begun, every cache and queue empty. -/
def State.reset : State where
  regs := []
  beat := { (default : BeatSt) with hallmark := [0, 0] }
  boot := { (default : BootSt) with inReset := true, flashHiZ := true }
  cores := default
  cache := default
  xlat := default
  fab := default
  home := default
  dram := default
  links := default
  sec := default
  crypto := default
  pcie := default
  pwr := { (default : PwrSt) with vrEn := true }
  err := default
  sent := []
  flits := []
  freeCtr := 0
  pending := []

end Sys2Proof.Machine
end

