-- ==== Sys2Proof/Machine/Regs.lean ====
section
/-! DEFINITION. The Control Space registers: where each lies (R11, R37 and the layout tables of every chapter), the bits of each
field, its type (R17) and its Reset value (R21). Bits that no field covers are RSVD. -/

namespace Sys2Proof.Machine

/-- Field types of R17; RSVD bits are those no field covers. -/
inductive FTy where
  | ro | rw | rw1c | wo | rwl
  deriving DecidableEq, Repr, Inhabited

/-- A register field: its lowest bit and its width. -/
structure Fld where
  lo : Nat
  width : Nat
  deriving DecidableEq, Repr, Inhabited

structure FldRow where
  lo : Nat
  width : Nat
  ty : FTy
  reset : Nat
  deriving DecidableEq, Repr, Inhabited

/-- A register of a block: its offset in the block, the strides and counts of its indexes, its fields. -/
structure RegRow where
  off : Nat
  idx : List (Nat × Nat)
  flds : List FldRow
  deriving DecidableEq, Repr, Inhabited

/-- The blocks of R37. -/
inductive Blk where
  | pkg | die | core | mc | home | pcie | fp | dl | hb | arb | part | ring | elog | pwr | assay | mb
  deriving DecidableEq, Repr, Inhabited

/-- A block: its base, the span of one instance, its instances (R37). -/
structure BlkRow where
  blk : Blk
  base : Nat
  stride : Nat
  count : Nat
  deriving DecidableEq, Repr, Inhabited

/-- R37: the blocks of Control Space. -/
def blkTable : List BlkRow :=
  [⟨.pkg, 0x0, 0x10000, 1⟩,
   ⟨.die, 0x100000, 0x10000, 12⟩,
   ⟨.core, 0x1000000, 0x10000, 240⟩,
   ⟨.mc, 0x2000000, 0x40000, 16⟩,
   ⟨.home, 0x3000000, 0x100000, 2⟩,
   ⟨.pcie, 0x4000000, 0x100000, 8⟩,
   ⟨.fp, 0x5000000, 0x10000, 8⟩,
   ⟨.dl, 0x5100000, 0x10000, 12⟩,
   ⟨.hb, 0x5200000, 0x10000, 1⟩,
   ⟨.arb, 0x6000000, 0x100, 64⟩,
   ⟨.part, 0x7000000, 0x10000, 16⟩,
   ⟨.ring, 0x8000000, 0x1000, 64⟩,
   ⟨.elog, 0x9000000, 0x1000, 32⟩,
   ⟨.pwr, 0xA000000, 0x100000, 1⟩,
   ⟨.assay, 0xB000000, 0x1000, 14⟩,
   ⟨.mb, 0xC000000, 0x10000, 1⟩]

/-- Base of the link registers of link l: fabric ports 0-7, die links 8-19, hub bridge 20 (R295). -/
def linkBase (l : Nat) : Nat :=
  if l < 8 then 0x5000000 + l * 0x10000 else if l < 20 then 0x5100000 + (l - 8) * 0x10000 else 0x5200000

/-! ## Offsets -/

def R.PKG_INFO : Nat := 0x0
def R.BEAT_CFG : Nat := 0x8
def R.BEAT_NOW : Nat := 0x10
def R.BEAT_SYNC : Nat := 0x18
def R.BEAT_STAT : Nat := 0x20
def R.PEAL_TGT (i : Nat) : Nat := 0x100 + i * 0x10
def R.PEAL_INFO (i : Nat) : Nat := 0x108 + i * 0x10
def R.PEAL_LAST : Nat := 0x140
def R.PEAL_CNT : Nat := 0x148
def R.HALLMARK (i : Nat) : Nat := 0x200 + i * 0x8
def R.HALLMARK_INFO : Nat := 0x230
def R.HALLMARK_PEER (i : Nat) : Nat := 0x240 + i * 0x8
def R.CORE_ID (n : Nat) : Nat := 0x1000000 + n * 0x10000
def R.CORE_CTL (n : Nat) : Nat := 0x1000008 + n * 0x10000
def R.CORE_STAT (n : Nat) : Nat := 0x1000010 + n * 0x10000
def R.CORE_START_PC (n : Nat) : Nat := 0x1000018 + n * 0x10000
def R.CORE_WAKE_PC (n : Nat) : Nat := 0x1000020 + n * 0x10000
def R.CORE_RETRY_CNT (n : Nat) : Nat := 0x1000028 + n * 0x10000
def R.CORE_FAULT_CNT (n : Nat) : Nat := 0x1000030 + n * 0x10000
def R.PMU_CTL (n i : Nat) : Nat := 0x1000100 + n * 0x10000 + i * 0x8
def R.PMU_CNT (n i : Nat) : Nat := 0x1000140 + n * 0x10000 + i * 0x8
def R.PMU_OVF (n : Nat) : Nat := 0x1000180 + n * 0x10000
def R.INT_CTL (n : Nat) : Nat := 0x1000C00 + n * 0x10000
def R.INT_ACK (n : Nat) : Nat := 0x1000C08 + n * 0x10000
def R.INT_EOI (n : Nat) : Nat := 0x1000C10 + n * 0x10000
def R.INT_PEND_TOP (n : Nat) : Nat := 0x1000C18 + n * 0x10000
def R.INT_IPI (n : Nat) : Nat := 0x1000C20 + n * 0x10000
def R.INT_STAT (n : Nat) : Nat := 0x1000C28 + n * 0x10000
def R.CAR_VEC (n i : Nat) : Nat := 0x7004000 + n * 0x10000 + i * 0x8
def R.CAR_CTL (n : Nat) : Nat := 0x7008000 + n * 0x10000
def R.CAR_STAT (n : Nat) : Nat := 0x7008008 + n * 0x10000
def R.CAR_LOST (n i : Nat) : Nat := 0x7008010 + n * 0x10000 + i * 0x8
def R.CAR_SOLO (n i : Nat) : Nat := 0x7008030 + n * 0x10000 + i * 0x8
def R.L1_CTL (n : Nat) : Nat := 0x1000800 + n * 0x10000
def R.CMO_ISSUE (n : Nat) : Nat := 0x1000808 + n * 0x10000
def R.CMO_STAT (n : Nat) : Nat := 0x1000810 + n * 0x10000
def R.DC_CTL (n : Nat) : Nat := 0x108000 + n * 0x10000
def R.DC_STAT (n : Nat) : Nat := 0x108008 + n * 0x10000
def R.XLAT_CTL (n : Nat) : Nat := 0x1000900 + n * 0x10000
def R.XLAT_BASE (n : Nat) : Nat := 0x1000908 + n * 0x10000
def R.TLBI_ISSUE (n : Nat) : Nat := 0x1000910 + n * 0x10000
def R.TLBI_SYNC (n : Nat) : Nat := 0x1000918 + n * 0x10000
def R.TLBI_STAT (n : Nat) : Nat := 0x1000920 + n * 0x10000
def R.XLAT_FAULT_STAT (n : Nat) : Nat := 0x1000A00 + n * 0x10000
def R.XLAT_FAULT_VA (n : Nat) : Nat := 0x1000A08 + n * 0x10000
def R.XLAT_FAULT_DESC (n : Nat) : Nat := 0x1000A10 + n * 0x10000
def R.XLAT_FAULT_ENTRY (n : Nat) : Nat := 0x1000A18 + n * 0x10000
def R.ARB_INFO (n : Nat) : Nat := 0x6000000 + n * 0x100
def R.ARB_STAT (n : Nat) : Nat := 0x6000008 + n * 0x100
def R.ARB_CLR (n : Nat) : Nat := 0x6000010 + n * 0x100
def R.ARB_RR (n : Nat) : Nat := 0x6000018 + n * 0x100
def R.INJ_CTL (n : Nat) : Nat := 0x6000020 + n * 0x100
def R.INJ_STAT (n : Nat) : Nat := 0x6000028 + n * 0x100
def R.INJ_SHR (n i : Nat) : Nat := 0x6000040 + n * 0x100 + i * 0x8
def R.INJ_RSV (n i : Nat) : Nat := 0x6000060 + n * 0x100 + i * 0x8
def R.ARB_REQ (n i : Nat) : Nat := 0x6000080 + n * 0x100 + i * 0x8
def R.HOME_INFO (n : Nat) : Nat := 0x3000000 + n * 0x100000
def R.HOME_MODE (n : Nat) : Nat := 0x3000008 + n * 0x100000
def R.HOME_CNT_0 (n : Nat) : Nat := 0x3000010 + n * 0x100000
def R.HOME_CNT_1 (n : Nat) : Nat := 0x3000018 + n * 0x100000
def R.HOME_Q_STAT (n : Nat) : Nat := 0x3000020 + n * 0x100000
def R.DIR_PROBE_ADDR (n : Nat) : Nat := 0x3000100 + n * 0x100000
def R.DIR_PROBE_DATA (n : Nat) : Nat := 0x3000108 + n * 0x100000
def R.FENCE_STAT (n : Nat) : Nat := 0x3000200 + n * 0x100000
def R.POISON_STAT (n : Nat) : Nat := 0x3000208 + n * 0x100000
def R.POISON_LAST (n : Nat) : Nat := 0x3000210 + n * 0x100000
def R.LINE_CLEAR (n : Nat) : Nat := 0x3000218 + n * 0x100000
def R.ATOM_POLICY (n : Nat) : Nat := 0x3000300 + n * 0x100000
def R.ATOM_STAT (n : Nat) : Nat := 0x3000308 + n * 0x100000
def R.MC_INFO (n : Nat) : Nat := 0x2000000 + n * 0x40000
def R.MC_CFG (n : Nat) : Nat := 0x2000008 + n * 0x40000
def R.MC_MAP (n : Nat) : Nat := 0x2000010 + n * 0x40000
def R.MC_STAT (n : Nat) : Nat := 0x2000018 + n * 0x40000
def R.MC_PD_CTL (n : Nat) : Nat := 0x2000020 + n * 0x40000
def R.MC_PD_STAT (n : Nat) : Nat := 0x2000028 + n * 0x40000
def R.MC_SCRUB_CTL (n : Nat) : Nat := 0x2000030 + n * 0x40000
def R.MC_SCRUB_STAT (n : Nat) : Nat := 0x2000038 + n * 0x40000
def R.MC_SCRUB_POS (n : Nat) : Nat := 0x2000040 + n * 0x40000
def R.MC_ERR_CNT (n : Nat) : Nat := 0x2000048 + n * 0x40000
def R.MC_DEV_OUT (n : Nat) : Nat := 0x2000050 + n * 0x40000
def R.MC_UE_LAST (n : Nat) : Nat := 0x2000058 + n * 0x40000
def R.MC_UE_SYN (n : Nat) : Nat := 0x2000060 + n * 0x40000
def R.MC_TOK (n : Nat) : Nat := 0x2000068 + n * 0x40000
def R.MC_SHARE (n i : Nat) : Nat := 0x2000070 + n * 0x40000 + i * 0x8
def R.MC_PC_STAT (n : Nat) : Nat := 0x2000090 + n * 0x40000
def R.TRN_CTL (n : Nat) : Nat := 0x2001000 + n * 0x40000
def R.TRN_ADDR (n : Nat) : Nat := 0x2001008 + n * 0x40000
def R.TRN_STAT (n : Nat) : Nat := 0x2001010 + n * 0x40000
def R.TRN_LANE_ERR (n i : Nat) : Nat := 0x2001018 + n * 0x40000 + i * 0x8
def R.PHY_DLY (n i : Nat) : Nat := 0x2001100 + n * 0x40000 + i * 0x8
def R.PHY_CA_DLY (n : Nat) : Nat := 0x2001400 + n * 0x40000
def R.MR_BASE (n i : Nat) : Nat := 0x2002000 + n * 0x40000 + i * 0x10
def R.MR_SIZE (n i : Nat) : Nat := 0x2002008 + n * 0x40000 + i * 0x10
def R.MC_RESTRIPE (n : Nat) : Nat := 0x2002400 + n * 0x40000
def R.LINK_STAT (l : Nat) : Nat := linkBase l + 0x0
def R.LINK_MAP (l : Nat) : Nat := linkBase l + 0x8
def R.LINK_BAD (l : Nat) : Nat := linkBase l + 0x10
def R.LINK_ERR (l : Nat) : Nat := linkBase l + 0x18
def R.LINK_CTL (l : Nat) : Nat := linkBase l + 0x20
def R.DL_DIE (n : Nat) : Nat := 0x5100040 + n * 0x10000
def R.FP_PEER (n : Nat) : Nat := 0x5000040 + n * 0x10000
def R.FP_SYNC (n : Nat) : Nat := 0x5000048 + n * 0x10000
def R.LASER_STAT : Nat := 0x5200100
def R.LT_CTL (l : Nat) : Nat := linkBase l + 0x1000
def R.LT_STAT (l : Nat) : Nat := linkBase l + 0x1008
def R.LT_GOOD (l : Nat) : Nat := linkBase l + 0x1010
def R.SYS_STAT : Nat := 0x5208000
def R.SYS_ROUTE (i : Nat) : Nat := 0x5208010 + i * 0x8
def R.SKT_STAT (i : Nat) : Nat := 0x5208100 + i * 0x8
def R.SKT_CTL (i : Nat) : Nat := 0x5208140 + i * 0x8
def R.PART_INFO (n : Nat) : Nat := 0x7000000 + n * 0x10000
def R.PART_STATE (n : Nat) : Nat := 0x7000008 + n * 0x10000
def R.PART_START_BEAT (n : Nat) : Nat := 0x7000010 + n * 0x10000
def R.PART_CORES (n i : Nat) : Nat := 0x7000100 + n * 0x10000 + i * 0x8
def R.TOUCHMARK (n i : Nat) : Nat := 0x7000200 + n * 0x10000 + i * 0x8
def R.TM_INFO (n : Nat) : Nat := 0x7000230 + n * 0x10000
def R.MB_INFO : Nat := 0xC000000
def R.MB_LAST_TICKET : Nat := 0xC000008
def R.MB_CMD_NONCE (i : Nat) : Nat := 0xC000010 + i * 0x8
def R.SLOT_CTL (i : Nat) : Nat := 0xC001000 + i * 0x200
def R.SLOT_STAT (i : Nat) : Nat := 0xC001008 + i * 0x200
def R.SLOT_TICKET (i : Nat) : Nat := 0xC001010 + i * 0x200
def R.SLOT_TARGET (i : Nat) : Nat := 0xC001018 + i * 0x200
def R.ATT_CTL (i : Nat) : Nat := 0xC001020 + i * 0x200
def R.ATT_STAT (i : Nat) : Nat := 0xC001028 + i * 0x200
def R.ATT_NONCE (i j : Nat) : Nat := 0xC001040 + i * 0x200 + j * 0x8
def R.ATT_REPORT (i j : Nat) : Nat := 0xC001100 + i * 0x200 + j * 0x8
def R.ATT_PUB (i : Nat) : Nat := 0xC003000 + i * 0x8
def R.ATT_SERIAL : Nat := 0xC003060
def R.ATT_ENDORSE (i : Nat) : Nat := 0xC003080 + i * 0x8
def R.MB_BUF (i j : Nat) : Nat := 0xC008000 + i * 0x800 + j * 0x8
def R.RING_INFO (n : Nat) : Nat := 0x8000000 + n * 0x1000
def R.RING_BASE (n : Nat) : Nat := 0x8000008 + n * 0x1000
def R.RING_CTL (n : Nat) : Nat := 0x8000010 + n * 0x1000
def R.RING_TAIL (n : Nat) : Nat := 0x8000018 + n * 0x1000
def R.RING_HEAD (n : Nat) : Nat := 0x8000020 + n * 0x1000
def R.RING_STAT (n : Nat) : Nat := 0x8000028 + n * 0x1000
def R.RING_CNT (n : Nat) : Nat := 0x8000030 + n * 0x1000
def R.CS_TOK (n : Nat) : Nat := 0x8000038 + n * 0x1000
def R.CS_IMPORT_PUB (n i : Nat) : Nat := 0x8000100 + n * 0x1000 + i * 0x8
def R.CS_IMPORT_SIG (n i : Nat) : Nat := 0x8000180 + n * 0x1000 + i * 0x8
def R.PCIE_INFO (n : Nat) : Nat := 0x4000000 + n * 0x100000
def R.SEG_STAT (n i : Nat) : Nat := 0x4001000 + n * 0x100000 + i * 0x1000
def R.SEG_CTL (n i : Nat) : Nat := 0x4001008 + n * 0x100000 + i * 0x1000
def R.HP_CTL (n i : Nat) : Nat := 0x4001010 + n * 0x100000 + i * 0x1000
def R.HP_STAT (n i : Nat) : Nat := 0x4001018 + n * 0x100000 + i * 0x1000
def R.CFG_ADDR (n i : Nat) : Nat := 0x4001020 + n * 0x100000 + i * 0x1000
def R.CFG_DATA (n i : Nat) : Nat := 0x4001028 + n * 0x100000 + i * 0x1000
def R.SEG_ERR_CNT (n i : Nat) : Nat := 0x4001030 + n * 0x100000 + i * 0x1000
def R.SEP_FN_INFO (n i : Nat) : Nat := 0x4008000 + n * 0x100000 + i * 0x100
def R.SEP_FN_CTL (n i : Nat) : Nat := 0x4008008 + n * 0x100000 + i * 0x100
def R.SEP_FN_STAT (n i : Nat) : Nat := 0x4008010 + n * 0x100000 + i * 0x100
def R.SEP_DB (n i : Nat) : Nat := 0x4008018 + n * 0x100000 + i * 0x100
def R.SEP_HOST_INT (n i : Nat) : Nat := 0x4008020 + n * 0x100000 + i * 0x100
def R.SEP_WIN (n i : Nat) : Nat := 0x4008028 + n * 0x100000 + i * 0x100
def R.SEP_DMA_LOCAL (n i : Nat) : Nat := 0x4008030 + n * 0x100000 + i * 0x100
def R.SEP_DMA_HOST (n i : Nat) : Nat := 0x4008038 + n * 0x100000 + i * 0x100
def R.SEP_DMA_CTL (n i : Nat) : Nat := 0x4008040 + n * 0x100000 + i * 0x100
def R.CD_INFO (n : Nat) : Nat := 0x100000 + n * 0x10000
def R.CD_PL_REQ_0 (n : Nat) : Nat := 0x100010 + n * 0x10000
def R.CD_PL_REQ_1 (n : Nat) : Nat := 0x100018 + n * 0x10000
def R.PWR_CAP : Nat := 0xA000000
def R.PWR_CEIL : Nat := 0xA000008
def R.PWR_HUB_REQ : Nat := 0xA000010
def R.PWR_STAT : Nat := 0xA000018
def R.REST_REQ : Nat := 0xA000020
def R.REST_STAT : Nat := 0xA000028
def R.CLKD_ON : Nat := 0xA000030
def R.AVS_STAT : Nat := 0xA000038
def R.PWR_HUB (i : Nat) : Nat := 0xA000040 + i * 0x8
def R.PWR_DIE (i : Nat) : Nat := 0xA000100 + i * 0x8
def R.ELOG_INFO (n : Nat) : Nat := 0x9000000 + n * 0x1000
def R.ELOG_HEAD (n : Nat) : Nat := 0x9000008 + n * 0x1000
def R.ELOG_TAIL (n : Nat) : Nat := 0x9000010 + n * 0x1000
def R.ELOG_STAT (n : Nat) : Nat := 0x9000018 + n * 0x1000
def R.DBG_STAT (n : Nat) : Nat := 0x9000020 + n * 0x1000
def R.ELOG_BEAT (n i : Nat) : Nat := 0x9000100 + n * 0x1000 + i * 0x20
def R.ELOG_SRC (n i : Nat) : Nat := 0x9000108 + n * 0x1000 + i * 0x20
def R.ELOG_ADDR (n i : Nat) : Nat := 0x9000110 + n * 0x1000 + i * 0x20
def R.ELOG_DETAIL (n i : Nat) : Nat := 0x9000118 + n * 0x1000 + i * 0x20
def R.ASSAY_INFO (n : Nat) : Nat := 0xB000000 + n * 0x1000
def R.ASSAY_STAT (n : Nat) : Nat := 0xB000008 + n * 0x1000
def R.ASSAY_CNT (n : Nat) : Nat := 0xB000010 + n * 0x1000
def R.ASSAY_SIG (n i : Nat) : Nat := 0xB000020 + n * 0x1000 + i * 0x8

/-! ## Fields -/

abbrev F.PKG_INFO_PKG_ID : Fld := ⟨0, 3⟩
abbrev F.PKG_INFO_MASTER : Fld := ⟨3, 1⟩
abbrev F.PKG_INFO_ADMITTED : Fld := ⟨4, 1⟩
abbrev F.PKG_INFO_PKG_COUNT : Fld := ⟨8, 4⟩
abbrev F.PKG_INFO_STEPPING : Fld := ⟨16, 8⟩
abbrev F.PKG_INFO_GRADE : Fld := ⟨24, 1⟩
abbrev F.BEAT_CFG_N : Fld := ⟨0, 9⟩
abbrev F.BEAT_NOW_BEAT : Fld := ⟨0, 64⟩
abbrev F.BEAT_SYNC_OFFSET : Fld := ⟨0, 16⟩
abbrev F.BEAT_SYNC_WORST : Fld := ⟨16, 16⟩
abbrev F.BEAT_SYNC_MASTER_ID : Fld := ⟨32, 3⟩
abbrev F.BEAT_SYNC_LOCKED : Fld := ⟨35, 1⟩
abbrev F.BEAT_SYNC_ADOPTED : Fld := ⟨36, 1⟩
abbrev F.BEAT_STAT_SKEW_WARN : Fld := ⟨0, 1⟩
abbrev F.BEAT_STAT_MARKER_MISS : Fld := ⟨1, 1⟩
abbrev F.BEAT_STAT_MASTER_CHANGE : Fld := ⟨2, 1⟩
abbrev F.BEAT_STAT_PEAL_DONE : Fld := ⟨3, 1⟩
abbrev F.BEAT_STAT_HALLMARK_MISMATCH : Fld := ⟨4, 1⟩
abbrev F.PEAL_TGT_TARGET : Fld := ⟨0, 64⟩
abbrev F.PEAL_INFO_VALID : Fld := ⟨0, 1⟩
abbrev F.PEAL_INFO_STATE : Fld := ⟨1, 2⟩
abbrev F.PEAL_INFO_KIND : Fld := ⟨4, 4⟩
abbrev F.PEAL_INFO_SEQ : Fld := ⟨8, 16⟩
abbrev F.PEAL_INFO_TICKET : Fld := ⟨24, 32⟩
abbrev F.PEAL_LAST_RESULT : Fld := ⟨0, 4⟩
abbrev F.PEAL_LAST_KIND : Fld := ⟨4, 4⟩
abbrev F.PEAL_LAST_SEQ : Fld := ⟨8, 16⟩
abbrev F.PEAL_LAST_CAUSE_PKG : Fld := ⟨24, 3⟩
abbrev F.PEAL_LAST_CAUSE_UNIT : Fld := ⟨27, 5⟩
abbrev F.PEAL_LAST_TARGET_LO : Fld := ⟨32, 32⟩
abbrev F.PEAL_CNT_APPLIED : Fld := ⟨0, 32⟩
abbrev F.PEAL_CNT_CANCELLED : Fld := ⟨32, 32⟩
abbrev F.HALLMARK_DIGEST : Fld := ⟨0, 64⟩
abbrev F.HALLMARK_INFO_TICKET : Fld := ⟨0, 32⟩
abbrev F.HALLMARK_INFO_BEAT_LO : Fld := ⟨32, 31⟩
abbrev F.HALLMARK_INFO_VALID : Fld := ⟨63, 1⟩
abbrev F.HALLMARK_PEER_TAG : Fld := ⟨0, 32⟩
abbrev F.HALLMARK_PEER_PRESENT : Fld := ⟨32, 1⟩
abbrev F.HALLMARK_PEER_MATCH : Fld := ⟨33, 1⟩
abbrev F.HALLMARK_PEER_MAJORITY : Fld := ⟨34, 1⟩
abbrev F.CORE_ID_CORE : Fld := ⟨0, 8⟩
abbrev F.CORE_ID_DIE : Fld := ⟨8, 4⟩
abbrev F.CORE_ID_LOCAL : Fld := ⟨12, 5⟩
abbrev F.CORE_ID_CLUSTER : Fld := ⟨17, 1⟩
abbrev F.CORE_ID_PKG : Fld := ⟨18, 3⟩
abbrev F.CORE_CTL_GO : Fld := ⟨0, 1⟩
abbrev F.CORE_CTL_STOP : Fld := ⟨1, 1⟩
abbrev F.CORE_STAT_STATE : Fld := ⟨0, 2⟩
abbrev F.CORE_STAT_TWIN : Fld := ⟨2, 1⟩
abbrev F.CORE_STAT_UPPER : Fld := ⟨3, 1⟩
abbrev F.CORE_STAT_SOLO : Fld := ⟨4, 1⟩
abbrev F.CORE_STAT_FENCE_CAUSE : Fld := ⟨8, 4⟩
abbrev F.CORE_STAT_PARTITION : Fld := ⟨16, 4⟩
abbrev F.CORE_START_PC_PC : Fld := ⟨2, 50⟩
abbrev F.CORE_WAKE_PC_PC : Fld := ⟨2, 50⟩
abbrev F.CORE_RETRY_CNT_RETRIES : Fld := ⟨0, 32⟩
abbrev F.CORE_FAULT_CNT_TWIN_MISMATCH : Fld := ⟨0, 16⟩
abbrev F.CORE_FAULT_CNT_TWIN_TIMEOUT : Fld := ⟨16, 16⟩
abbrev F.CORE_FAULT_CNT_ARRAY_FIXED : Fld := ⟨32, 16⟩
abbrev F.PMU_CTL_EVENT : Fld := ⟨0, 8⟩
abbrev F.PMU_CTL_EN : Fld := ⟨8, 1⟩
abbrev F.PMU_CTL_USER : Fld := ⟨9, 1⟩
abbrev F.PMU_CTL_SUPER : Fld := ⟨10, 1⟩
abbrev F.PMU_CTL_OVF_INT : Fld := ⟨11, 1⟩
abbrev F.PMU_CNT_COUNT : Fld := ⟨0, 48⟩
abbrev F.PMU_OVF_OVF : Fld := ⟨0, 8⟩
abbrev F.INT_CTL_EN : Fld := ⟨0, 1⟩
abbrev F.INT_CTL_THRESHOLD : Fld := ⟨4, 4⟩
abbrev F.INT_ACK_VECTOR : Fld := ⟨0, 11⟩
abbrev F.INT_ACK_PRIO : Fld := ⟨12, 4⟩
abbrev F.INT_ACK_VALID : Fld := ⟨16, 1⟩
abbrev F.INT_ACK_RSV : Fld := ⟨17, 1⟩
abbrev F.INT_EOI_VECTOR : Fld := ⟨0, 11⟩
abbrev F.INT_PEND_TOP_VECTOR : Fld := ⟨0, 11⟩
abbrev F.INT_PEND_TOP_PRIO : Fld := ⟨12, 4⟩
abbrev F.INT_PEND_TOP_VALID : Fld := ⟨16, 1⟩
abbrev F.INT_PEND_TOP_RSV : Fld := ⟨17, 1⟩
abbrev F.INT_IPI_VECTOR : Fld := ⟨0, 11⟩
abbrev F.INT_IPI_TGT_CORE : Fld := ⟨16, 8⟩
abbrev F.INT_IPI_TGT_PKG : Fld := ⟨24, 3⟩
abbrev F.INT_STAT_IPI_REJECT : Fld := ⟨0, 1⟩
abbrev F.INT_STAT_EOI_ERR : Fld := ⟨1, 1⟩
abbrev F.CAR_VEC_EN : Fld := ⟨0, 1⟩
abbrev F.CAR_VEC_MASK : Fld := ⟨1, 1⟩
abbrev F.CAR_VEC_LATCHED : Fld := ⟨2, 1⟩
abbrev F.CAR_VEC_RSV : Fld := ⟨3, 1⟩
abbrev F.CAR_VEC_PRIO : Fld := ⟨4, 4⟩
abbrev F.CAR_VEC_TGT_CORE : Fld := ⟨8, 8⟩
abbrev F.CAR_VEC_TGT_PKG : Fld := ⟨16, 3⟩
abbrev F.CAR_VEC_TO_SOURCE : Fld := ⟨19, 1⟩
abbrev F.CAR_CTL_EN : Fld := ⟨0, 1⟩
abbrev F.CAR_STAT_REDIRECT : Fld := ⟨0, 16⟩
abbrev F.CAR_STAT_RSV_OVER : Fld := ⟨16, 16⟩
abbrev F.CAR_STAT_RSV_LATE : Fld := ⟨32, 16⟩
abbrev F.CAR_STAT_BAD_TARGET : Fld := ⟨48, 16⟩
abbrev F.CAR_LOST_LOST : Fld := ⟨0, 64⟩
abbrev F.CAR_SOLO_SOLO : Fld := ⟨0, 64⟩
abbrev F.L1_CTL_EN : Fld := ⟨0, 1⟩
abbrev F.CMO_ISSUE_OP : Fld := ⟨0, 2⟩
abbrev F.CMO_ISSUE_BY : Fld := ⟨2, 2⟩
abbrev F.CMO_ISSUE_LEVEL : Fld := ⟨4, 2⟩
abbrev F.CMO_ISSUE_ADDR : Fld := ⟨6, 46⟩
abbrev F.CMO_STAT_BUSY : Fld := ⟨0, 1⟩
abbrev F.CMO_STAT_DONE : Fld := ⟨1, 1⟩
abbrev F.CMO_STAT_REJECT : Fld := ⟨2, 1⟩
abbrev F.CMO_STAT_BAD : Fld := ⟨3, 1⟩
abbrev F.CMO_STAT_XLATE_FAULT : Fld := ⟨4, 1⟩
abbrev F.CMO_STAT_DENIED : Fld := ⟨5, 1⟩
abbrev F.CMO_STAT_WALK_CMD : Fld := ⟨8, 6⟩
abbrev F.CMO_STAT_PROGRESS : Fld := ⟨16, 17⟩
abbrev F.DC_CTL_EN : Fld := ⟨0, 1⟩
abbrev F.DC_STAT_MISS_FULL : Fld := ⟨0, 16⟩
abbrev F.DC_STAT_BACK_INVAL : Fld := ⟨16, 16⟩
abbrev F.DC_STAT_ECC_FIXED : Fld := ⟨32, 16⟩
abbrev F.DC_STAT_ECC_REFETCH : Fld := ⟨48, 8⟩
abbrev F.DC_STAT_ECC_POISON : Fld := ⟨56, 8⟩
abbrev F.XLAT_CTL_EN : Fld := ⟨0, 1⟩
abbrev F.XLAT_BASE_ASID : Fld := ⟨0, 16⟩
abbrev F.XLAT_BASE_BASE : Fld := ⟨16, 36⟩
abbrev F.TLBI_ISSUE_OP : Fld := ⟨0, 3⟩
abbrev F.TLBI_ISSUE_LOCAL : Fld := ⟨3, 1⟩
abbrev F.TLBI_ISSUE_ASID : Fld := ⟨4, 16⟩
abbrev F.TLBI_ISSUE_VA : Fld := ⟨20, 40⟩
abbrev F.TLBI_SYNC_SYNC : Fld := ⟨0, 1⟩
abbrev F.TLBI_STAT_BAD : Fld := ⟨0, 1⟩
abbrev F.TLBI_STAT_OUTSTANDING : Fld := ⟨8, 5⟩
abbrev F.XLAT_FAULT_STAT_VALID : Fld := ⟨0, 1⟩
abbrev F.XLAT_FAULT_STAT_OVERRUN : Fld := ⟨1, 1⟩
abbrev F.XLAT_FAULT_STAT_CODE : Fld := ⟨4, 4⟩
abbrev F.XLAT_FAULT_STAT_LEVEL : Fld := ⟨8, 2⟩
abbrev F.XLAT_FAULT_STAT_HIT : Fld := ⟨10, 1⟩
abbrev F.XLAT_FAULT_STAT_SOURCE : Fld := ⟨12, 3⟩
abbrev F.XLAT_FAULT_STAT_USER : Fld := ⟨15, 1⟩
abbrev F.XLAT_FAULT_STAT_ASID : Fld := ⟨16, 16⟩
abbrev F.XLAT_FAULT_STAT_BEAT_LO : Fld := ⟨32, 32⟩
abbrev F.XLAT_FAULT_VA_VA : Fld := ⟨0, 64⟩
abbrev F.XLAT_FAULT_DESC_ADDR : Fld := ⟨3, 49⟩
abbrev F.XLAT_FAULT_ENTRY_ENTRY : Fld := ⟨0, 64⟩
abbrev F.ARB_INFO_INSTANCE : Fld := ⟨0, 6⟩
abbrev F.ARB_INFO_NREQ : Fld := ⟨8, 5⟩
abbrev F.ARB_INFO_KIND : Fld := ⟨16, 4⟩
abbrev F.ARB_INFO_HOST : Fld := ⟨20, 4⟩
abbrev F.ARB_INFO_REG : Fld := ⟨24, 1⟩
abbrev F.ARB_STAT_WAIT_MAX : Fld := ⟨0, 24⟩
abbrev F.ARB_STAT_WAIT_REQ : Fld := ⟨24, 4⟩
abbrev F.ARB_STAT_WAIT_OPEN : Fld := ⟨28, 1⟩
abbrev F.ARB_STAT_RSV_MAXQ : Fld := ⟨32, 8⟩
abbrev F.ARB_STAT_EXPIRED : Fld := ⟨48, 16⟩
abbrev F.ARB_CLR_CLEAR : Fld := ⟨0, 1⟩
abbrev F.ARB_RR_POINTER : Fld := ⟨0, 4⟩
abbrev F.ARB_RR_OWNER : Fld := ⟨4, 4⟩
abbrev F.ARB_RR_HELD : Fld := ⟨8, 1⟩
abbrev F.INJ_CTL_RATE : Fld := ⟨0, 16⟩
abbrev F.INJ_STAT_SPARE_LEFT : Fld := ⟨0, 16⟩
abbrev F.INJ_STAT_SPARE_USED : Fld := ⟨16, 16⟩
abbrev F.INJ_STAT_STALL_BEATS : Fld := ⟨32, 16⟩
abbrev F.INJ_STAT_RSV_FALLBACK : Fld := ⟨48, 16⟩
abbrev F.INJ_SHR_P0 : Fld := ⟨0, 16⟩
abbrev F.INJ_SHR_P1 : Fld := ⟨16, 16⟩
abbrev F.INJ_SHR_P2 : Fld := ⟨32, 16⟩
abbrev F.INJ_SHR_P3 : Fld := ⟨48, 16⟩
abbrev F.INJ_RSV_P0 : Fld := ⟨0, 16⟩
abbrev F.INJ_RSV_P1 : Fld := ⟨16, 16⟩
abbrev F.INJ_RSV_P2 : Fld := ⟨32, 16⟩
abbrev F.INJ_RSV_P3 : Fld := ⟨48, 16⟩
abbrev F.ARB_REQ_CLASS : Fld := ⟨0, 2⟩
abbrev F.ARB_REQ_CEIL : Fld := ⟨2, 2⟩
abbrev F.ARB_REQ_BACKOFF : Fld := ⟨4, 1⟩
abbrev F.ARB_REQ_UNIT : Fld := ⟨5, 1⟩
abbrev F.ARB_REQ_BURST : Fld := ⟨8, 12⟩
abbrev F.ARB_REQ_ECLASS : Fld := ⟨20, 2⟩
abbrev F.ARB_REQ_MASKED : Fld := ⟨22, 1⟩
abbrev F.ARB_REQ_ELIGIBLE : Fld := ⟨23, 1⟩
abbrev F.ARB_REQ_WAIT_LEFT : Fld := ⟨32, 11⟩
abbrev F.ARB_REQ_LOSSES : Fld := ⟨48, 16⟩
abbrev F.HOME_INFO_HUB : Fld := ⟨0, 1⟩
abbrev F.HOME_INFO_WAYS : Fld := ⟨8, 5⟩
abbrev F.HOME_INFO_SETS_LOG2 : Fld := ⟨16, 5⟩
abbrev F.HOME_INFO_TXN_SLOTS : Fld := ⟨32, 11⟩
abbrev F.HOME_MODE_MODE : Fld := ⟨0, 1⟩
abbrev F.HOME_MODE_TRIGGERS : Fld := ⟨8, 8⟩
abbrev F.HOME_MODE_SWEEP_BUSY : Fld := ⟨16, 1⟩
abbrev F.HOME_MODE_UNSURE : Fld := ⟨24, 24⟩
abbrev F.HOME_CNT_0_DIR_RECALL : Fld := ⟨0, 32⟩
abbrev F.HOME_CNT_0_STALE_WB : Fld := ⟨32, 32⟩
abbrev F.HOME_CNT_1_UPG_CONVERT : Fld := ⟨0, 32⟩
abbrev F.HOME_CNT_1_BCAST : Fld := ⟨32, 32⟩
abbrev F.HOME_Q_STAT_TXN_MAX : Fld := ⟨0, 11⟩
abbrev F.HOME_Q_STAT_LINEQ_MAX : Fld := ⟨16, 8⟩
abbrev F.DIR_PROBE_ADDR_PA : Fld := ⟨6, 46⟩
abbrev F.DIR_PROBE_ADDR_PROXY : Fld := ⟨63, 1⟩
abbrev F.DIR_PROBE_DATA_VALID : Fld := ⟨0, 1⟩
abbrev F.DIR_PROBE_DATA_DSTATE : Fld := ⟨1, 2⟩
abbrev F.DIR_PROBE_DATA_PROXY : Fld := ⟨3, 1⟩
abbrev F.DIR_PROBE_DATA_UNSURE : Fld := ⟨4, 1⟩
abbrev F.DIR_PROBE_DATA_BUSY : Fld := ⟨5, 1⟩
abbrev F.DIR_PROBE_DATA_OWNER_DIE : Fld := ⟨6, 4⟩
abbrev F.DIR_PROBE_DATA_OWNER_PKG : Fld := ⟨10, 3⟩
abbrev F.DIR_PROBE_DATA_DIE_VEC : Fld := ⟨13, 12⟩
abbrev F.DIR_PROBE_DATA_PKG_VEC : Fld := ⟨25, 8⟩
abbrev F.DIR_PROBE_DATA_TAG : Fld := ⟨33, 27⟩
abbrev F.FENCE_STAT_DIE_FENCED : Fld := ⟨0, 12⟩
abbrev F.FENCE_STAT_PKG_LOST : Fld := ⟨16, 8⟩
abbrev F.FENCE_STAT_WALK_BUSY : Fld := ⟨24, 1⟩
abbrev F.POISON_STAT_SET : Fld := ⟨0, 32⟩
abbrev F.POISON_STAT_CLEARED : Fld := ⟨32, 32⟩
abbrev F.POISON_LAST_CAUSE : Fld := ⟨0, 4⟩
abbrev F.POISON_LAST_PA : Fld := ⟨6, 46⟩
abbrev F.LINE_CLEAR_PA : Fld := ⟨6, 46⟩
abbrev F.ATOM_POLICY_POLICY : Fld := ⟨0, 32⟩
abbrev F.ATOM_STAT_FAR_DONE : Fld := ⟨0, 32⟩
abbrev F.ATOM_STAT_SLOT_LOSSES : Fld := ⟨32, 16⟩
abbrev F.MC_INFO_CHANNEL : Fld := ⟨0, 4⟩
abbrev F.MC_INFO_HUB : Fld := ⟨4, 1⟩
abbrev F.MC_INFO_MODULES : Fld := ⟨8, 2⟩
abbrev F.MC_INFO_PRANKS : Fld := ⟨10, 2⟩
abbrev F.MC_INFO_STACK : Fld := ⟨12, 2⟩
abbrev F.MC_INFO_DENSITY : Fld := ⟨14, 2⟩
abbrev F.MC_INFO_CAP_GIB : Fld := ⟨16, 10⟩
abbrev F.MC_INFO_RATE : Fld := ⟨32, 16⟩
abbrev F.MC_CFG_ORDER : Fld := ⟨0, 2⟩
abbrev F.MC_CFG_CARVE_S : Fld := ⟨4, 4⟩
abbrev F.MC_CFG_DIMMS : Fld := ⟨8, 2⟩
abbrev F.MC_MAP_USABLE_MIB : Fld := ⟨0, 20⟩
abbrev F.MC_MAP_GROUP_BASE_MIB : Fld := ⟨32, 24⟩
abbrev F.MC_STAT_STATE : Fld := ⟨0, 3⟩
abbrev F.MC_STAT_HOT : Fld := ⟨3, 1⟩
abbrev F.MC_STAT_KEYS : Fld := ⟨16, 16⟩
abbrev F.MC_PD_CTL_IDLE : Fld := ⟨0, 16⟩
abbrev F.MC_PD_CTL_DEV_THRESH : Fld := ⟨16, 8⟩
abbrev F.MC_PD_STAT_IN_PD : Fld := ⟨0, 4⟩
abbrev F.MC_PD_STAT_ENTRIES : Fld := ⟨16, 32⟩
abbrev F.MC_SCRUB_CTL_EN : Fld := ⟨0, 1⟩
abbrev F.MC_SCRUB_CTL_GRANT : Fld := ⟨16, 16⟩
abbrev F.MC_SCRUB_STAT_LAST_LAP : Fld := ⟨0, 32⟩
abbrev F.MC_SCRUB_STAT_LAPS : Fld := ⟨32, 32⟩
abbrev F.MC_SCRUB_POS_ADDR : Fld := ⟨6, 34⟩
abbrev F.MC_ERR_CNT_CORR_DEV : Fld := ⟨0, 16⟩
abbrev F.MC_ERR_CNT_CORR_PAGE : Fld := ⟨16, 16⟩
abbrev F.MC_ERR_CNT_UE : Fld := ⟨32, 16⟩
abbrev F.MC_ERR_CNT_CA_RETRY : Fld := ⟨48, 16⟩
abbrev F.MC_DEV_OUT_OUT : Fld := ⟨0, 64⟩
abbrev F.MC_UE_LAST_RANK : Fld := ⟨0, 2⟩
abbrev F.MC_UE_LAST_SUBCH : Fld := ⟨2, 1⟩
abbrev F.MC_UE_LAST_PA : Fld := ⟨6, 46⟩
abbrev F.MC_UE_SYN_SYN : Fld := ⟨0, 64⟩
abbrev F.MC_TOK_TOKENS : Fld := ⟨0, 16⟩
abbrev F.MC_TOK_EXHAUSTED : Fld := ⟨32, 16⟩
abbrev F.MC_SHARE_P0 : Fld := ⟨0, 16⟩
abbrev F.MC_SHARE_P1 : Fld := ⟨16, 16⟩
abbrev F.MC_SHARE_P2 : Fld := ⟨32, 16⟩
abbrev F.MC_SHARE_P3 : Fld := ⟨48, 16⟩
abbrev F.MC_PC_STAT_HITS : Fld := ⟨0, 32⟩
abbrev F.MC_PC_STAT_MISSES : Fld := ⟨32, 32⟩
abbrev F.TRN_CTL_GO : Fld := ⟨0, 1⟩
abbrev F.TRN_CTL_OP : Fld := ⟨1, 2⟩
abbrev F.TRN_CTL_PATTERN : Fld := ⟨3, 2⟩
abbrev F.TRN_CTL_SUBCH : Fld := ⟨5, 1⟩
abbrev F.TRN_CTL_RANK : Fld := ⟨6, 2⟩
abbrev F.TRN_CTL_LINES : Fld := ⟨8, 24⟩
abbrev F.TRN_CTL_SEED : Fld := ⟨32, 32⟩
abbrev F.TRN_ADDR_ADDR : Fld := ⟨6, 34⟩
abbrev F.TRN_STAT_BUSY : Fld := ⟨0, 1⟩
abbrev F.TRN_STAT_DONE : Fld := ⟨1, 1⟩
abbrev F.TRN_STAT_MISMATCH : Fld := ⟨16, 32⟩
abbrev F.TRN_LANE_ERR_LANE : Fld := ⟨0, 40⟩
abbrev F.TRN_LANE_ERR_STROBE : Fld := ⟨40, 2⟩
abbrev F.PHY_DLY_RD_DLY : Fld := ⟨0, 10⟩
abbrev F.PHY_DLY_WR_DLY : Fld := ⟨16, 10⟩
abbrev F.PHY_DLY_VREF : Fld := ⟨32, 6⟩
abbrev F.PHY_CA_DLY_CA_DLY : Fld := ⟨0, 10⟩
abbrev F.PHY_CA_DLY_CK_DLY : Fld := ⟨16, 10⟩
abbrev F.MR_BASE_VALID : Fld := ⟨0, 1⟩
abbrev F.MR_BASE_PART : Fld := ⟨4, 4⟩
abbrev F.MR_BASE_STRENGTH : Fld := ⟨8, 4⟩
abbrev F.MR_BASE_PREV_S : Fld := ⟨12, 4⟩
abbrev F.MR_BASE_BASE : Fld := ⟨21, 31⟩
abbrev F.MR_SIZE_SIZE : Fld := ⟨21, 31⟩
abbrev F.MC_RESTRIPE_BUSY : Fld := ⟨0, 1⟩
abbrev F.MC_RESTRIPE_REGION : Fld := ⟨8, 6⟩
abbrev F.MC_RESTRIPE_DONE_PAGES : Fld := ⟨32, 31⟩
abbrev F.LINK_STAT_STATE : Fld := ⟨0, 4⟩
abbrev F.LINK_STAT_HELD : Fld := ⟨4, 1⟩
abbrev F.LINK_STAT_WIDTH : Fld := ⟨8, 7⟩
abbrev F.LINK_STAT_CAP : Fld := ⟨16, 7⟩
abbrev F.LINK_STAT_PEER_CAP : Fld := ⟨24, 7⟩
abbrev F.LINK_STAT_RETRAINS : Fld := ⟨32, 16⟩
abbrev F.LINK_STAT_MISMATCHES : Fld := ⟨48, 8⟩
abbrev F.LINK_MAP_USED : Fld := ⟨0, 64⟩
abbrev F.LINK_BAD_BAD : Fld := ⟨0, 64⟩
abbrev F.LINK_ERR_CRC : Fld := ⟨0, 32⟩
abbrev F.LINK_ERR_REPLAY_FAIL : Fld := ⟨32, 16⟩
abbrev F.LINK_ERR_LANE_TRIPS : Fld := ⟨48, 16⟩
abbrev F.LINK_CTL_LANE_LIMIT : Fld := ⟨0, 16⟩
abbrev F.DL_DIE_FENCED : Fld := ⟨0, 1⟩
abbrev F.DL_DIE_CAUSE : Fld := ⟨4, 4⟩
abbrev F.DL_DIE_CORES : Fld := ⟨8, 40⟩
abbrev F.FP_PEER_PEER_PKG : Fld := ⟨0, 3⟩
abbrev F.FP_PEER_PEER_PORT : Fld := ⟨3, 3⟩
abbrev F.FP_PEER_CONNECTED : Fld := ⟨6, 1⟩
abbrev F.FP_PEER_CONFIRMED : Fld := ⟨7, 1⟩
abbrev F.FP_PEER_WIDTH_MIN : Fld := ⟨8, 2⟩
abbrev F.FP_SYNC_DELAY : Fld := ⟨0, 24⟩
abbrev F.FP_SYNC_OFFSET : Fld := ⟨32, 16⟩
abbrev F.FP_SYNC_HOPS : Fld := ⟨48, 2⟩
abbrev F.FP_SYNC_MISSED : Fld := ⟨56, 8⟩
abbrev F.LASER_STAT_TILES : Fld := ⟨0, 32⟩
abbrev F.LASER_STAT_SWITCHES : Fld := ⟨32, 16⟩
abbrev F.LT_CTL_GO : Fld := ⟨0, 1⟩
abbrev F.LT_CTL_STEP : Fld := ⟨1, 3⟩
abbrev F.LT_CTL_DWELL : Fld := ⟨16, 16⟩
abbrev F.LT_STAT_BUSY : Fld := ⟨0, 1⟩
abbrev F.LT_STAT_DONE : Fld := ⟨1, 1⟩
abbrev F.LT_STAT_FAIL : Fld := ⟨2, 1⟩
abbrev F.LT_STAT_PEER : Fld := ⟨4, 7⟩
abbrev F.LT_STAT_PEER_CONFIRM : Fld := ⟨11, 1⟩
abbrev F.LT_GOOD_GOOD : Fld := ⟨0, 64⟩
abbrev F.SYS_STAT_LISTED : Fld := ⟨0, 8⟩
abbrev F.SYS_STAT_ADMITTED : Fld := ⟨8, 8⟩
abbrev F.SYS_STAT_LOST : Fld := ⟨16, 8⟩
abbrev F.SYS_STAT_JOINING : Fld := ⟨24, 3⟩
abbrev F.SYS_STAT_JOIN_BUSY : Fld := ⟨27, 1⟩
abbrev F.SYS_ROUTE_VALID : Fld := ⟨0, 1⟩
abbrev F.SYS_ROUTE_HOPS : Fld := ⟨1, 2⟩
abbrev F.SYS_ROUTE_EGRESS : Fld := ⟨3, 3⟩
abbrev F.SYS_ROUTE_SECOND : Fld := ⟨6, 1⟩
abbrev F.SYS_ROUTE_VIA : Fld := ⟨8, 3⟩
abbrev F.SKT_STAT_STATE : Fld := ⟨0, 3⟩
abbrev F.SKT_STAT_SPONSOR : Fld := ⟨3, 1⟩
abbrev F.SKT_STAT_PRSNT : Fld := ⟨4, 1⟩
abbrev F.SKT_STAT_PWR_EN : Fld := ⟨5, 1⟩
abbrev F.SKT_STAT_PWR_GOOD : Fld := ⟨6, 1⟩
abbrev F.SKT_STAT_BUTTON : Fld := ⟨8, 1⟩
abbrev F.SKT_STAT_PRSNT_CHANGE : Fld := ⟨9, 1⟩
abbrev F.SKT_STAT_PWR_FAULT : Fld := ⟨10, 1⟩
abbrev F.SKT_STAT_PKG : Fld := ⟨16, 3⟩
abbrev F.SKT_STAT_LISTED : Fld := ⟨19, 1⟩
abbrev F.SKT_CTL_CMD : Fld := ⟨0, 2⟩
abbrev F.SKT_CTL_BUTTON_EN : Fld := ⟨2, 1⟩
abbrev F.PART_INFO_ID : Fld := ⟨0, 4⟩
abbrev F.PART_INFO_DEFINED : Fld := ⟨4, 1⟩
abbrev F.PART_INFO_TWIN : Fld := ⟨5, 1⟩
abbrev F.PART_INFO_MAILBOX : Fld := ⟨6, 1⟩
abbrev F.PART_INFO_ALLOW_DEGRADED : Fld := ⟨7, 1⟩
abbrev F.PART_INFO_SEP_GRANT : Fld := ⟨8, 1⟩
abbrev F.PART_INFO_BEAT : Fld := ⟨9, 1⟩
abbrev F.PART_INFO_SYSTEM : Fld := ⟨10, 1⟩
abbrev F.PART_INFO_RINGS : Fld := ⟨12, 3⟩
abbrev F.PART_INFO_MEM_BW_SHARE : Fld := ⟨16, 11⟩
abbrev F.PART_INFO_INJ_SHARE : Fld := ⟨32, 11⟩
abbrev F.PART_STATE_STATE : Fld := ⟨0, 2⟩
abbrev F.PART_STATE_FENCED : Fld := ⟨2, 1⟩
abbrev F.PART_STATE_RUN : Fld := ⟨4, 8⟩
abbrev F.PART_STATE_HALT : Fld := ⟨12, 8⟩
abbrev F.PART_STATE_LOST : Fld := ⟨20, 8⟩
abbrev F.PART_START_BEAT_BEAT : Fld := ⟨0, 64⟩
abbrev F.PART_CORES_OWNED : Fld := ⟨0, 64⟩
abbrev F.TOUCHMARK_DIGEST : Fld := ⟨0, 64⟩
abbrev F.TM_INFO_EXTENSIONS : Fld := ⟨0, 32⟩
abbrev F.TM_INFO_TICKET : Fld := ⟨32, 32⟩
abbrev F.MB_INFO_PRESENT : Fld := ⟨0, 8⟩
abbrev F.MB_INFO_SECURITY : Fld := ⟨8, 8⟩
abbrev F.MB_INFO_TICKET_BUSY : Fld := ⟨16, 1⟩
abbrev F.MB_INFO_XFER_BUSY : Fld := ⟨17, 1⟩
abbrev F.MB_INFO_IMG_UPD : Fld := ⟨18, 2⟩
abbrev F.MB_INFO_DISAGREE : Fld := ⟨24, 16⟩
abbrev F.MB_LAST_TICKET_TICKET : Fld := ⟨0, 64⟩
abbrev F.MB_CMD_NONCE_NONCE : Fld := ⟨0, 64⟩
abbrev F.SLOT_CTL_CMD : Fld := ⟨0, 2⟩
abbrev F.SLOT_CTL_LEN : Fld := ⟨4, 12⟩
abbrev F.SLOT_STAT_STATE : Fld := ⟨0, 3⟩
abbrev F.SLOT_STAT_CODE : Fld := ⟨3, 5⟩
abbrev F.SLOT_STAT_CHANGED : Fld := ⟨8, 1⟩
abbrev F.SLOT_TICKET_TICKET : Fld := ⟨0, 64⟩
abbrev F.SLOT_TARGET_TARGET : Fld := ⟨0, 64⟩
abbrev F.ATT_CTL_GO : Fld := ⟨0, 1⟩
abbrev F.ATT_STAT_BUSY : Fld := ⟨0, 1⟩
abbrev F.ATT_STAT_DONE : Fld := ⟨1, 1⟩
abbrev F.ATT_STAT_REFUSED : Fld := ⟨2, 1⟩
abbrev F.ATT_NONCE_NONCE : Fld := ⟨0, 64⟩
abbrev F.ATT_REPORT_REPORT : Fld := ⟨0, 64⟩
abbrev F.ATT_PUB_PUB : Fld := ⟨0, 64⟩
abbrev F.ATT_SERIAL_SERIAL : Fld := ⟨0, 64⟩
abbrev F.ATT_ENDORSE_ENDORSE : Fld := ⟨0, 64⟩
abbrev F.MB_BUF_DATA : Fld := ⟨0, 64⟩
abbrev F.RING_INFO_RING : Fld := ⟨0, 6⟩
abbrev F.RING_INFO_PART : Fld := ⟨8, 4⟩
abbrev F.RING_INFO_OWNED : Fld := ⟨12, 1⟩
abbrev F.RING_INFO_FRONT : Fld := ⟨16, 1⟩
abbrev F.RING_BASE_BASE : Fld := ⟨14, 38⟩
abbrev F.RING_CTL_EN : Fld := ⟨0, 1⟩
abbrev F.RING_CTL_INT_EN : Fld := ⟨1, 1⟩
abbrev F.RING_CTL_VECTOR : Fld := ⟨8, 11⟩
abbrev F.RING_TAIL_TAIL : Fld := ⟨0, 16⟩
abbrev F.RING_HEAD_HEAD : Fld := ⟨0, 16⟩
abbrev F.RING_HEAD_DONE : Fld := ⟨16, 16⟩
abbrev F.RING_STAT_IDLE : Fld := ⟨0, 1⟩
abbrev F.RING_STAT_HALTED : Fld := ⟨1, 1⟩
abbrev F.RING_STAT_HALT_CAUSE : Fld := ⟨4, 4⟩
abbrev F.RING_STAT_COMPLETION : Fld := ⟨8, 1⟩
abbrev F.RING_CNT_COMPLETED : Fld := ⟨0, 32⟩
abbrev F.RING_CNT_FAILED : Fld := ⟨32, 16⟩
abbrev F.RING_CNT_TOKEN_WAITS : Fld := ⟨48, 16⟩
abbrev F.CS_TOK_CAP : Fld := ⟨0, 16⟩
abbrev F.CS_TOK_SHARE : Fld := ⟨16, 16⟩
abbrev F.CS_TOK_COUNT : Fld := ⟨32, 32⟩
abbrev F.CS_IMPORT_PUB_PUB : Fld := ⟨0, 64⟩
abbrev F.CS_IMPORT_SIG_SIG : Fld := ⟨0, 64⟩
abbrev F.PCIE_INFO_PORT : Fld := ⟨0, 3⟩
abbrev F.PCIE_INFO_HUB : Fld := ⟨3, 1⟩
abbrev F.PCIE_INFO_MODE : Fld := ⟨4, 2⟩
abbrev F.PCIE_INFO_SPLIT : Fld := ⟨6, 2⟩
abbrev F.PCIE_INFO_MAX_GEN : Fld := ⟨8, 3⟩
abbrev F.PCIE_INFO_NFUNC : Fld := ⟨12, 4⟩
abbrev F.SEG_STAT_OWNER : Fld := ⟨0, 4⟩
abbrev F.SEG_STAT_LTSSM : Fld := ⟨4, 3⟩
abbrev F.SEG_STAT_DLL_ACTIVE : Fld := ⟨7, 1⟩
abbrev F.SEG_STAT_SPEED : Fld := ⟨8, 3⟩
abbrev F.SEG_STAT_WIDTH : Fld := ⟨11, 5⟩
abbrev F.SEG_STAT_FLIT : Fld := ⟨16, 1⟩
abbrev F.SEG_STAT_PERST : Fld := ⟨17, 1⟩
abbrev F.SEG_STAT_PRESENT : Fld := ⟨18, 1⟩
abbrev F.SEG_CTL_PERST : Fld := ⟨0, 1⟩
abbrev F.SEG_CTL_HOT_RESET : Fld := ⟨1, 1⟩
abbrev F.SEG_CTL_LINK_DIS : Fld := ⟨2, 1⟩
abbrev F.SEG_CTL_ARI : Fld := ⟨3, 1⟩
abbrev F.SEG_CTL_RRS_SV : Fld := ⟨4, 1⟩
abbrev F.SEG_CTL_CPL_TO : Fld := ⟨16, 16⟩
abbrev F.SEG_CTL_SEC_BUS : Fld := ⟨32, 8⟩
abbrev F.SEG_CTL_SUB_BUS : Fld := ⟨40, 8⟩
abbrev F.HP_CTL_PWR : Fld := ⟨0, 1⟩
abbrev F.HP_CTL_ATTN_IND : Fld := ⟨1, 2⟩
abbrev F.HP_CTL_PWR_IND : Fld := ⟨3, 2⟩
abbrev F.HP_CTL_INT_EN : Fld := ⟨5, 1⟩
abbrev F.HP_CTL_VECTOR : Fld := ⟨8, 11⟩
abbrev F.HP_STAT_PRESENT : Fld := ⟨0, 1⟩
abbrev F.HP_STAT_PWR_GOOD : Fld := ⟨1, 1⟩
abbrev F.HP_STAT_BUTTON : Fld := ⟨2, 1⟩
abbrev F.HP_STAT_PRESENCE_CHANGE : Fld := ⟨3, 1⟩
abbrev F.HP_STAT_DLL_CHANGE : Fld := ⟨4, 1⟩
abbrev F.HP_STAT_PWR_FAULT : Fld := ⟨5, 1⟩
abbrev F.HP_STAT_ERR_MSG : Fld := ⟨6, 1⟩
abbrev F.HP_STAT_ERR_SEV : Fld := ⟨8, 2⟩
abbrev F.CFG_ADDR_REG : Fld := ⟨2, 10⟩
abbrev F.CFG_ADDR_FN : Fld := ⟨16, 3⟩
abbrev F.CFG_ADDR_DEV : Fld := ⟨19, 5⟩
abbrev F.CFG_ADDR_BUS : Fld := ⟨24, 8⟩
abbrev F.CFG_ADDR_BE : Fld := ⟨32, 4⟩
abbrev F.CFG_ADDR_CFG_UR : Fld := ⟨40, 1⟩
abbrev F.CFG_ADDR_CFG_TIMEOUT : Fld := ⟨41, 1⟩
abbrev F.CFG_ADDR_CFG_RANGE : Fld := ⟨42, 1⟩
abbrev F.CFG_ADDR_CFG_RRS : Fld := ⟨43, 1⟩
abbrev F.CFG_DATA_DATA : Fld := ⟨0, 32⟩
abbrev F.SEG_ERR_CNT_CPL_TIMEOUT : Fld := ⟨0, 16⟩
abbrev F.SEG_ERR_CNT_LATE_CPL_CNT : Fld := ⟨16, 16⟩
abbrev F.SEG_ERR_CNT_UNEXP_CPL : Fld := ⟨32, 16⟩
abbrev F.SEG_ERR_CNT_ERR_RECV : Fld := ⟨48, 16⟩
abbrev F.SEP_FN_INFO_PART : Fld := ⟨0, 4⟩
abbrev F.SEP_FN_INFO_PRESENT : Fld := ⟨4, 1⟩
abbrev F.SEP_FN_INFO_BME : Fld := ⟨5, 1⟩
abbrev F.SEP_FN_INFO_MSIX_EN : Fld := ⟨6, 1⟩
abbrev F.SEP_FN_INFO_INTX_DIS : Fld := ⟨7, 1⟩
abbrev F.SEP_FN_INFO_FLR_BUSY : Fld := ⟨8, 1⟩
abbrev F.SEP_FN_INFO_LINK_UP : Fld := ⟨9, 1⟩
abbrev F.SEP_FN_INFO_LATE_CPL_CNT : Fld := ⟨48, 16⟩
abbrev F.SEP_FN_CTL_INT_EN : Fld := ⟨0, 1⟩
abbrev F.SEP_FN_CTL_VECTOR : Fld := ⟨8, 11⟩
abbrev F.SEP_FN_STAT_DOORBELL : Fld := ⟨0, 1⟩
abbrev F.SEP_FN_STAT_BME_CHANGE : Fld := ⟨1, 1⟩
abbrev F.SEP_FN_STAT_FLR : Fld := ⟨2, 1⟩
abbrev F.SEP_FN_STAT_PERST : Fld := ⟨3, 1⟩
abbrev F.SEP_FN_STAT_DMA_DONE : Fld := ⟨4, 1⟩
abbrev F.SEP_DB_BITS : Fld := ⟨0, 32⟩
abbrev F.SEP_HOST_INT_SET : Fld := ⟨0, 4⟩
abbrev F.SEP_WIN_VALID : Fld := ⟨0, 1⟩
abbrev F.SEP_WIN_BASE : Fld := ⟨30, 22⟩
abbrev F.SEP_DMA_LOCAL_PA : Fld := ⟨6, 46⟩
abbrev F.SEP_DMA_HOST_ADDR : Fld := ⟨6, 58⟩
abbrev F.SEP_DMA_CTL_GO : Fld := ⟨0, 1⟩
abbrev F.SEP_DMA_CTL_DIR : Fld := ⟨1, 1⟩
abbrev F.SEP_DMA_CTL_BUSY : Fld := ⟨2, 1⟩
abbrev F.SEP_DMA_CTL_DONE : Fld := ⟨3, 1⟩
abbrev F.SEP_DMA_CTL_CODE : Fld := ⟨4, 3⟩
abbrev F.SEP_DMA_CTL_LINES : Fld := ⟨8, 15⟩
abbrev F.CD_INFO_DIE : Fld := ⟨0, 4⟩
abbrev F.CD_INFO_HALF : Fld := ⟨4, 1⟩
abbrev F.CD_INFO_MIRROR : Fld := ⟨8, 4⟩
abbrev F.CD_PL_REQ_0_REQ : Fld := ⟨0, 64⟩
abbrev F.CD_PL_REQ_1_REQ : Fld := ⟨0, 16⟩
abbrev F.PWR_CAP_CAP_W : Fld := ⟨0, 10⟩
abbrev F.PWR_CEIL_CEIL : Fld := ⟨0, 64⟩
abbrev F.PWR_HUB_REQ_REQ : Fld := ⟨0, 64⟩
abbrev F.PWR_STAT_DEMAND_HW : Fld := ⟨0, 12⟩
abbrev F.PWR_STAT_GRANT_HW : Fld := ⟨16, 12⟩
abbrev F.PWR_STAT_OVER : Fld := ⟨32, 1⟩
abbrev F.PWR_STAT_STALE : Fld := ⟨33, 1⟩
abbrev F.REST_REQ_REQ : Fld := ⟨0, 16⟩
abbrev F.REST_STAT_STATE : Fld := ⟨0, 3⟩
abbrev F.REST_STAT_CMD : Fld := ⟨3, 1⟩
abbrev F.REST_STAT_DEFER_CAUSE : Fld := ⟨4, 4⟩
abbrev F.REST_STAT_RESTING : Fld := ⟨8, 8⟩
abbrev F.REST_STAT_WAKES : Fld := ⟨32, 16⟩
abbrev F.CLKD_ON_ON : Fld := ⟨0, 64⟩
abbrev F.AVS_STAT_FAULT_A : Fld := ⟨0, 7⟩
abbrev F.AVS_STAT_FAULT_B : Fld := ⟨8, 7⟩
abbrev F.AVS_STAT_TIMEOUTS : Fld := ⟨16, 16⟩
abbrev F.PWR_HUB_STATE : Fld := ⟨0, 3⟩
abbrev F.PWR_HUB_LEVEL : Fld := ⟨4, 3⟩
abbrev F.PWR_HUB_CHANGING : Fld := ⟨7, 1⟩
abbrev F.PWR_HUB_TARGET : Fld := ⟨8, 3⟩
abbrev F.PWR_HUB_REQ : Fld := ⟨12, 3⟩
abbrev F.PWR_HUB_THERM : Fld := ⟨15, 1⟩
abbrev F.PWR_HUB_WEST_ON : Fld := ⟨16, 1⟩
abbrev F.PWR_HUB_EAST_ON : Fld := ⟨17, 1⟩
abbrev F.PWR_HUB_COUPLED : Fld := ⟨18, 1⟩
abbrev F.PWR_HUB_TEMP : Fld := ⟨24, 8⟩
abbrev F.PWR_HUB_EST_HW : Fld := ⟨32, 12⟩
abbrev F.PWR_DIE_STATE : Fld := ⟨0, 3⟩
abbrev F.PWR_DIE_LEVEL : Fld := ⟨4, 3⟩
abbrev F.PWR_DIE_CHANGING : Fld := ⟨7, 1⟩
abbrev F.PWR_DIE_TARGET : Fld := ⟨8, 3⟩
abbrev F.PWR_DIE_REQ : Fld := ⟨12, 3⟩
abbrev F.PWR_DIE_THERM : Fld := ⟨15, 1⟩
abbrev F.PWR_DIE_WEST_ON : Fld := ⟨16, 1⟩
abbrev F.PWR_DIE_EAST_ON : Fld := ⟨17, 1⟩
abbrev F.PWR_DIE_COUPLED : Fld := ⟨18, 1⟩
abbrev F.PWR_DIE_TEMP : Fld := ⟨24, 8⟩
abbrev F.PWR_DIE_EST_HW : Fld := ⟨32, 12⟩
abbrev F.ELOG_INFO_INSTANCE : Fld := ⟨0, 5⟩
abbrev F.ELOG_INFO_KIND : Fld := ⟨8, 2⟩
abbrev F.ELOG_INFO_SCOPE : Fld := ⟨16, 4⟩
abbrev F.ELOG_INFO_CAP : Fld := ⟨24, 8⟩
abbrev F.ELOG_HEAD_NEXT : Fld := ⟨0, 7⟩
abbrev F.ELOG_HEAD_WRITTEN : Fld := ⟨32, 32⟩
abbrev F.ELOG_TAIL_TAIL : Fld := ⟨0, 32⟩
abbrev F.ELOG_STAT_LOST : Fld := ⟨0, 16⟩
abbrev F.ELOG_STAT_FULL : Fld := ⟨16, 1⟩
abbrev F.ELOG_STAT_MERGED : Fld := ⟨32, 16⟩
abbrev F.DBG_STAT_SCOPE : Fld := ⟨0, 2⟩
abbrev F.DBG_STAT_PART : Fld := ⟨4, 4⟩
abbrev F.DBG_STAT_TAP_PRIVATE : Fld := ⟨8, 1⟩
abbrev F.DBG_STAT_CORE_PROBE : Fld := ⟨9, 1⟩
abbrev F.DBG_STAT_ARRAY_READ : Fld := ⟨10, 1⟩
abbrev F.DBG_STAT_TICKET : Fld := ⟨32, 32⟩
abbrev F.ASSAY_INFO_BLOCK : Fld := ⟨0, 4⟩
abbrev F.ASSAY_INFO_HUB : Fld := ⟨4, 1⟩
abbrev F.ASSAY_STAT_STATE : Fld := ⟨0, 3⟩
abbrev F.ASSAY_STAT_RESULT : Fld := ⟨4, 4⟩
abbrev F.ASSAY_STAT_RUN : Fld := ⟨8, 4⟩
abbrev F.ASSAY_STAT_FAILED : Fld := ⟨12, 4⟩
abbrev F.ASSAY_STAT_PASS_SINCE_FENCE : Fld := ⟨16, 1⟩
abbrev F.ASSAY_STAT_NO_REF : Fld := ⟨20, 4⟩
abbrev F.ASSAY_STAT_BEAT_LO : Fld := ⟨32, 32⟩
abbrev F.ASSAY_CNT_RUNS : Fld := ⟨0, 32⟩
abbrev F.ASSAY_CNT_FAILS : Fld := ⟨32, 32⟩
abbrev F.ASSAY_SIG_SIG : Fld := ⟨0, 64⟩
abbrev F.BOOT_STAT_PHASE : Fld := ⟨0, 4⟩
abbrev F.BOOT_STAT_LOCKED : Fld := ⟨4, 1⟩
abbrev F.BOOT_STAT_COPY_A_OK : Fld := ⟨5, 1⟩
abbrev F.BOOT_STAT_COPY_B_OK : Fld := ⟨6, 1⟩
abbrev F.BOOT_STAT_COPY_USED : Fld := ⟨7, 1⟩
abbrev F.BOOT_STAT_FAULT_A : Fld := ⟨8, 8⟩
abbrev F.BOOT_STAT_FAULT_B : Fld := ⟨16, 8⟩
abbrev F.BOOT_STAT_LOCK_CAUSE : Fld := ⟨24, 8⟩
abbrev F.BOOT_STAT_FUSED_ROLLBACK : Fld := ⟨32, 8⟩
abbrev F.BOOT_STAT_IMAGE_ROLLBACK : Fld := ⟨40, 8⟩
abbrev F.ELOG_SRC_SEQ : Fld := ⟨0, 16⟩
abbrev F.ELOG_SRC_UNIT_KIND : Fld := ⟨16, 4⟩
abbrev F.ELOG_SRC_UNIT_NUM : Fld := ⟨20, 8⟩
abbrev F.ELOG_SRC_PART : Fld := ⟨28, 4⟩
abbrev F.ELOG_SRC_CODE : Fld := ⟨32, 12⟩
abbrev F.ELOG_SRC_SEV : Fld := ⟨44, 3⟩
abbrev F.ELOG_SRC_ADDR_VALID : Fld := ⟨47, 1⟩
abbrev F.ELOG_SRC_COUNT : Fld := ⟨48, 16⟩

/-! ## The register tables, block by block -/

def regTable_pkg : List RegRow := [
   ⟨0x0, [], [⟨0, 3, .ro, 0⟩, ⟨3, 1, .ro, 0⟩, ⟨4, 1, .ro, 0⟩, ⟨8, 4, .ro, 0⟩, ⟨16, 8, .ro, 0⟩, ⟨24, 1, .ro, 0⟩]⟩,  -- PKG_INFO
   ⟨0x8, [], [⟨0, 9, .rwl, 0x64⟩]⟩,  -- BEAT_CFG
   ⟨0x10, [], [⟨0, 64, .ro, 0⟩]⟩,  -- BEAT_NOW
   ⟨0x18, [], [⟨0, 16, .ro, 0⟩, ⟨16, 16, .ro, 0⟩, ⟨32, 3, .ro, 0⟩, ⟨35, 1, .ro, 0⟩, ⟨36, 1, .ro, 0⟩]⟩,  -- BEAT_SYNC
   ⟨0x20, [], [⟨0, 1, .rw1c, 0⟩, ⟨1, 1, .rw1c, 0⟩, ⟨2, 1, .rw1c, 0⟩, ⟨3, 1, .rw1c, 0⟩, ⟨4, 1, .rw1c, 0⟩]⟩,  -- BEAT_STAT
   ⟨0x100, [(0x10, 4)], [⟨0, 64, .ro, 0⟩]⟩,  -- PEAL_TGT
   ⟨0x108, [(0x10, 4)], [⟨0, 1, .ro, 0⟩, ⟨1, 2, .ro, 0⟩, ⟨4, 4, .ro, 0⟩, ⟨8, 16, .ro, 0⟩, ⟨24, 32, .ro, 0⟩]⟩,  -- PEAL_INFO
   ⟨0x140, [], [⟨0, 4, .ro, 0⟩, ⟨4, 4, .ro, 0⟩, ⟨8, 16, .ro, 0⟩, ⟨24, 3, .ro, 0⟩, ⟨27, 5, .ro, 0⟩, ⟨32, 32, .ro, 0⟩]⟩,  -- PEAL_LAST
   ⟨0x148, [], [⟨0, 32, .ro, 0⟩, ⟨32, 32, .ro, 0⟩]⟩,  -- PEAL_CNT
   ⟨0x200, [(0x8, 6)], [⟨0, 64, .ro, 0⟩]⟩,  -- HALLMARK
   ⟨0x230, [], [⟨0, 32, .ro, 0⟩, ⟨32, 31, .ro, 0⟩, ⟨63, 1, .ro, 0⟩]⟩,  -- HALLMARK_INFO
   ⟨0x240, [(0x8, 8)], [⟨0, 32, .ro, 0⟩, ⟨32, 1, .ro, 0⟩, ⟨33, 1, .ro, 0⟩, ⟨34, 1, .ro, 0⟩]⟩ ]  -- HALLMARK_PEER

def regTable_die : List RegRow := [
   ⟨0x8000, [], [⟨0, 1, .rw, 1⟩]⟩,  -- DC_CTL
   ⟨0x8008, [], [⟨0, 16, .ro, 0⟩, ⟨16, 16, .ro, 0⟩, ⟨32, 16, .ro, 0⟩, ⟨48, 8, .ro, 0⟩, ⟨56, 8, .ro, 0⟩]⟩,  -- DC_STAT
   ⟨0x0, [], [⟨0, 4, .ro, 0⟩, ⟨4, 1, .ro, 0⟩, ⟨8, 4, .ro, 0⟩]⟩,  -- CD_INFO
   ⟨0x10, [], [⟨0, 64, .rw, 0x7777777777777777⟩]⟩,  -- CD_PL_REQ_0
   ⟨0x18, [], [⟨0, 16, .rw, 0x7777⟩]⟩ ]  -- CD_PL_REQ_1

def regTable_core : List RegRow := [
   ⟨0x0, [], [⟨0, 8, .ro, 0⟩, ⟨8, 4, .ro, 0⟩, ⟨12, 5, .ro, 0⟩, ⟨17, 1, .ro, 0⟩, ⟨18, 3, .ro, 0⟩]⟩,  -- CORE_ID
   ⟨0x8, [], [⟨0, 1, .wo, 0⟩, ⟨1, 1, .wo, 0⟩]⟩,  -- CORE_CTL
   ⟨0x10, [], [⟨0, 2, .ro, 0⟩, ⟨2, 1, .ro, 0⟩, ⟨3, 1, .ro, 0⟩, ⟨4, 1, .ro, 0⟩, ⟨8, 4, .ro, 0⟩, ⟨16, 4, .ro, 0⟩]⟩,  -- CORE_STAT
   ⟨0x18, [], [⟨2, 50, .rw, 0⟩]⟩,  -- CORE_START_PC
   ⟨0x20, [], [⟨2, 50, .rw, 0⟩]⟩,  -- CORE_WAKE_PC
   ⟨0x28, [], [⟨0, 32, .ro, 0⟩]⟩,  -- CORE_RETRY_CNT
   ⟨0x30, [], [⟨0, 16, .ro, 0⟩, ⟨16, 16, .ro, 0⟩, ⟨32, 16, .ro, 0⟩]⟩,  -- CORE_FAULT_CNT
   ⟨0x100, [(0x8, 8)], [⟨0, 8, .rw, 0⟩, ⟨8, 1, .rw, 0⟩, ⟨9, 1, .rw, 0⟩, ⟨10, 1, .rw, 0⟩, ⟨11, 1, .rw, 0⟩]⟩,  -- PMU_CTL
   ⟨0x140, [(0x8, 8)], [⟨0, 48, .rw, 0⟩]⟩,  -- PMU_CNT
   ⟨0x180, [], [⟨0, 8, .rw1c, 0⟩]⟩,  -- PMU_OVF
   ⟨0xC00, [], [⟨0, 1, .rw, 0⟩, ⟨4, 4, .rw, 0⟩]⟩,  -- INT_CTL
   ⟨0xC08, [], [⟨0, 11, .ro, 0⟩, ⟨12, 4, .ro, 0⟩, ⟨16, 1, .ro, 0⟩, ⟨17, 1, .ro, 0⟩]⟩,  -- INT_ACK
   ⟨0xC10, [], [⟨0, 11, .wo, 0⟩]⟩,  -- INT_EOI
   ⟨0xC18, [], [⟨0, 11, .ro, 0⟩, ⟨12, 4, .ro, 0⟩, ⟨16, 1, .ro, 0⟩, ⟨17, 1, .ro, 0⟩]⟩,  -- INT_PEND_TOP
   ⟨0xC20, [], [⟨0, 11, .wo, 0⟩, ⟨16, 8, .wo, 0⟩, ⟨24, 3, .wo, 0⟩]⟩,  -- INT_IPI
   ⟨0xC28, [], [⟨0, 1, .rw1c, 0⟩, ⟨1, 1, .rw1c, 0⟩]⟩,  -- INT_STAT
   ⟨0x800, [], [⟨0, 1, .rw, 1⟩]⟩,  -- L1_CTL
   ⟨0x808, [], [⟨0, 2, .wo, 0⟩, ⟨2, 2, .wo, 0⟩, ⟨4, 2, .wo, 0⟩, ⟨6, 46, .wo, 0⟩]⟩,  -- CMO_ISSUE
   ⟨0x810, [], [⟨0, 1, .ro, 0⟩, ⟨1, 1, .rw1c, 0⟩, ⟨2, 1, .rw1c, 0⟩, ⟨3, 1, .rw1c, 0⟩, ⟨4, 1, .rw1c, 0⟩, ⟨5, 1, .rw1c, 0⟩, ⟨8, 6, .ro, 0⟩, ⟨16, 17, .ro, 0⟩]⟩,  -- CMO_STAT
   ⟨0x900, [], [⟨0, 1, .rw, 0⟩]⟩,  -- XLAT_CTL
   ⟨0x908, [], [⟨0, 16, .rw, 0⟩, ⟨16, 36, .rw, 0⟩]⟩,  -- XLAT_BASE
   ⟨0x910, [], [⟨0, 3, .wo, 0⟩, ⟨3, 1, .wo, 0⟩, ⟨4, 16, .wo, 0⟩, ⟨20, 40, .wo, 0⟩]⟩,  -- TLBI_ISSUE
   ⟨0x918, [], [⟨0, 1, .wo, 0⟩]⟩,  -- TLBI_SYNC
   ⟨0x920, [], [⟨0, 1, .rw1c, 0⟩, ⟨8, 5, .ro, 0⟩]⟩,  -- TLBI_STAT
   ⟨0xA00, [], [⟨0, 1, .rw1c, 0⟩, ⟨1, 1, .rw1c, 0⟩, ⟨4, 4, .ro, 0⟩, ⟨8, 2, .ro, 0⟩, ⟨10, 1, .ro, 0⟩, ⟨12, 3, .ro, 0⟩, ⟨15, 1, .ro, 0⟩, ⟨16, 16, .ro, 0⟩, ⟨32, 32, .ro, 0⟩]⟩,  -- XLAT_FAULT_STAT
   ⟨0xA08, [], [⟨0, 64, .ro, 0⟩]⟩,  -- XLAT_FAULT_VA
   ⟨0xA10, [], [⟨3, 49, .ro, 0⟩]⟩,  -- XLAT_FAULT_DESC
   ⟨0xA18, [], [⟨0, 64, .ro, 0⟩]⟩ ]  -- XLAT_FAULT_ENTRY

def regTable_mc : List RegRow := [
   ⟨0x0, [], [⟨0, 4, .ro, 0⟩, ⟨4, 1, .ro, 0⟩, ⟨8, 2, .ro, 0⟩, ⟨10, 2, .ro, 0⟩, ⟨12, 2, .ro, 0⟩, ⟨14, 2, .ro, 0⟩, ⟨16, 10, .ro, 0⟩, ⟨32, 16, .ro, 0⟩]⟩,  -- MC_INFO
   ⟨0x8, [], [⟨0, 2, .rwl, 0⟩, ⟨4, 4, .rwl, 0⟩, ⟨8, 2, .rwl, 0⟩]⟩,  -- MC_CFG
   ⟨0x10, [], [⟨0, 20, .ro, 0⟩, ⟨32, 24, .ro, 0⟩]⟩,  -- MC_MAP
   ⟨0x18, [], [⟨0, 3, .ro, 1⟩, ⟨3, 1, .ro, 0⟩, ⟨16, 16, .ro, 0⟩]⟩,  -- MC_STAT
   ⟨0x20, [], [⟨0, 16, .rw, 0x7D0⟩, ⟨16, 8, .rw, 0x10⟩]⟩,  -- MC_PD_CTL
   ⟨0x28, [], [⟨0, 4, .ro, 0⟩, ⟨16, 32, .ro, 0⟩]⟩,  -- MC_PD_STAT
   ⟨0x30, [], [⟨0, 1, .rw, 1⟩, ⟨16, 16, .rw, 0x40⟩]⟩,  -- MC_SCRUB_CTL
   ⟨0x38, [], [⟨0, 32, .ro, 0⟩, ⟨32, 32, .ro, 0⟩]⟩,  -- MC_SCRUB_STAT
   ⟨0x40, [], [⟨6, 34, .ro, 0⟩]⟩,  -- MC_SCRUB_POS
   ⟨0x48, [], [⟨0, 16, .ro, 0⟩, ⟨16, 16, .ro, 0⟩, ⟨32, 16, .ro, 0⟩, ⟨48, 16, .ro, 0⟩]⟩,  -- MC_ERR_CNT
   ⟨0x50, [], [⟨0, 64, .ro, 0⟩]⟩,  -- MC_DEV_OUT
   ⟨0x58, [], [⟨0, 2, .ro, 0⟩, ⟨2, 1, .ro, 0⟩, ⟨6, 46, .ro, 0⟩]⟩,  -- MC_UE_LAST
   ⟨0x60, [], [⟨0, 64, .ro, 0⟩]⟩,  -- MC_UE_SYN
   ⟨0x68, [], [⟨0, 16, .ro, 0⟩, ⟨32, 16, .ro, 0⟩]⟩,  -- MC_TOK
   ⟨0x70, [(0x8, 4)], [⟨0, 16, .rwl, 0⟩, ⟨16, 16, .rwl, 0⟩, ⟨32, 16, .rwl, 0⟩, ⟨48, 16, .rwl, 0⟩]⟩,  -- MC_SHARE
   ⟨0x90, [], [⟨0, 32, .ro, 0⟩, ⟨32, 32, .ro, 0⟩]⟩,  -- MC_PC_STAT
   ⟨0x1000, [], [⟨0, 1, .wo, 0⟩, ⟨1, 2, .rw, 0⟩, ⟨3, 2, .rw, 0⟩, ⟨5, 1, .rw, 0⟩, ⟨6, 2, .rw, 0⟩, ⟨8, 24, .rw, 0⟩, ⟨32, 32, .rw, 0⟩]⟩,  -- TRN_CTL
   ⟨0x1008, [], [⟨6, 34, .rw, 0⟩]⟩,  -- TRN_ADDR
   ⟨0x1010, [], [⟨0, 1, .ro, 0⟩, ⟨1, 1, .rw1c, 0⟩, ⟨16, 32, .ro, 0⟩]⟩,  -- TRN_STAT
   ⟨0x1018, [(0x8, 2)], [⟨0, 40, .rw1c, 0⟩, ⟨40, 2, .rw1c, 0⟩]⟩,  -- TRN_LANE_ERR
   ⟨0x1100, [(0x8, 80)], [⟨0, 10, .rw, 0⟩, ⟨16, 10, .rw, 0⟩, ⟨32, 6, .rw, 0⟩]⟩,  -- PHY_DLY
   ⟨0x1400, [], [⟨0, 10, .rw, 0⟩, ⟨16, 10, .rw, 0⟩]⟩,  -- PHY_CA_DLY
   ⟨0x2000, [(0x10, 64)], [⟨0, 1, .rwl, 0⟩, ⟨4, 4, .rwl, 0⟩, ⟨8, 4, .rwl, 0⟩, ⟨12, 4, .ro, 0⟩, ⟨21, 31, .rwl, 0⟩]⟩,  -- MR_BASE
   ⟨0x2008, [(0x10, 64)], [⟨21, 31, .rwl, 0⟩]⟩,  -- MR_SIZE
   ⟨0x2400, [], [⟨0, 1, .ro, 0⟩, ⟨8, 6, .ro, 0⟩, ⟨32, 31, .ro, 0⟩]⟩ ]  -- MC_RESTRIPE

def regTable_home : List RegRow := [
   ⟨0x0, [], [⟨0, 1, .ro, 0⟩, ⟨8, 5, .ro, 0x10⟩, ⟨16, 5, .ro, 0x13⟩, ⟨32, 11, .ro, 0x400⟩]⟩,  -- HOME_INFO
   ⟨0x8, [], [⟨0, 1, .ro, 1⟩, ⟨8, 8, .ro, 1⟩, ⟨16, 1, .ro, 0⟩, ⟨24, 24, .ro, 0⟩]⟩,  -- HOME_MODE
   ⟨0x10, [], [⟨0, 32, .ro, 0⟩, ⟨32, 32, .ro, 0⟩]⟩,  -- HOME_CNT_0
   ⟨0x18, [], [⟨0, 32, .ro, 0⟩, ⟨32, 32, .ro, 0⟩]⟩,  -- HOME_CNT_1
   ⟨0x20, [], [⟨0, 11, .ro, 0⟩, ⟨16, 8, .ro, 0⟩]⟩,  -- HOME_Q_STAT
   ⟨0x100, [], [⟨6, 46, .rw, 0⟩, ⟨63, 1, .rw, 0⟩]⟩,  -- DIR_PROBE_ADDR
   ⟨0x108, [], [⟨0, 1, .ro, 0⟩, ⟨1, 2, .ro, 0⟩, ⟨3, 1, .ro, 0⟩, ⟨4, 1, .ro, 0⟩, ⟨5, 1, .ro, 0⟩, ⟨6, 4, .ro, 0⟩, ⟨10, 3, .ro, 0⟩, ⟨13, 12, .ro, 0⟩, ⟨25, 8, .ro, 0⟩, ⟨33, 27, .ro, 0⟩]⟩,  -- DIR_PROBE_DATA
   ⟨0x200, [], [⟨0, 12, .ro, 0⟩, ⟨16, 8, .ro, 0⟩, ⟨24, 1, .ro, 0⟩]⟩,  -- FENCE_STAT
   ⟨0x208, [], [⟨0, 32, .ro, 0⟩, ⟨32, 32, .ro, 0⟩]⟩,  -- POISON_STAT
   ⟨0x210, [], [⟨0, 4, .ro, 0⟩, ⟨6, 46, .ro, 0⟩]⟩,  -- POISON_LAST
   ⟨0x218, [], [⟨6, 46, .wo, 0⟩]⟩,  -- LINE_CLEAR
   ⟨0x300, [], [⟨0, 32, .rw, 0⟩]⟩,  -- ATOM_POLICY
   ⟨0x308, [], [⟨0, 32, .ro, 0⟩, ⟨32, 16, .ro, 0⟩]⟩ ]  -- ATOM_STAT

def regTable_pcie : List RegRow := [
   ⟨0x0, [], [⟨0, 3, .ro, 0⟩, ⟨3, 1, .ro, 0⟩, ⟨4, 2, .ro, 0⟩, ⟨6, 2, .ro, 0⟩, ⟨8, 3, .ro, 0⟩, ⟨12, 4, .ro, 0⟩]⟩,  -- PCIE_INFO
   ⟨0x1000, [(0x1000, 4)], [⟨0, 4, .ro, 0⟩, ⟨4, 3, .ro, 0⟩, ⟨7, 1, .ro, 0⟩, ⟨8, 3, .ro, 0⟩, ⟨11, 5, .ro, 0⟩, ⟨16, 1, .ro, 0⟩, ⟨17, 1, .ro, 1⟩, ⟨18, 1, .ro, 0⟩]⟩,  -- SEG_STAT
   ⟨0x1008, [(0x1000, 4)], [⟨0, 1, .rw, 1⟩, ⟨1, 1, .wo, 0⟩, ⟨2, 1, .rw, 0⟩, ⟨3, 1, .rw, 0⟩, ⟨4, 1, .rw, 0⟩, ⟨16, 16, .rw, 0x1F4⟩, ⟨32, 8, .rw, 0⟩, ⟨40, 8, .rw, 0⟩]⟩,  -- SEG_CTL
   ⟨0x1010, [(0x1000, 4)], [⟨0, 1, .rw, 0⟩, ⟨1, 2, .rw, 0⟩, ⟨3, 2, .rw, 0⟩, ⟨5, 1, .rw, 0⟩, ⟨8, 11, .rw, 0⟩]⟩,  -- HP_CTL
   ⟨0x1018, [(0x1000, 4)], [⟨0, 1, .ro, 0⟩, ⟨1, 1, .ro, 0⟩, ⟨2, 1, .rw1c, 0⟩, ⟨3, 1, .rw1c, 0⟩, ⟨4, 1, .rw1c, 0⟩, ⟨5, 1, .rw1c, 0⟩, ⟨6, 1, .rw1c, 0⟩, ⟨8, 2, .ro, 0⟩]⟩,  -- HP_STAT
   ⟨0x1020, [(0x1000, 4)], [⟨2, 10, .rw, 0⟩, ⟨16, 3, .rw, 0⟩, ⟨19, 5, .rw, 0⟩, ⟨24, 8, .rw, 0⟩, ⟨32, 4, .rw, 0xF⟩, ⟨40, 1, .ro, 0⟩, ⟨41, 1, .ro, 0⟩, ⟨42, 1, .ro, 0⟩, ⟨43, 1, .ro, 0⟩]⟩,  -- CFG_ADDR
   ⟨0x1028, [(0x1000, 4)], [⟨0, 32, .rw, 0⟩]⟩,  -- CFG_DATA
   ⟨0x1030, [(0x1000, 4)], [⟨0, 16, .ro, 0⟩, ⟨16, 16, .ro, 0⟩, ⟨32, 16, .ro, 0⟩, ⟨48, 16, .ro, 0⟩]⟩,  -- SEG_ERR_CNT
   ⟨0x8000, [(0x100, 8)], [⟨0, 4, .ro, 0⟩, ⟨4, 1, .ro, 0⟩, ⟨5, 1, .ro, 0⟩, ⟨6, 1, .ro, 0⟩, ⟨7, 1, .ro, 0⟩, ⟨8, 1, .ro, 0⟩, ⟨9, 1, .ro, 0⟩, ⟨48, 16, .ro, 0⟩]⟩,  -- SEP_FN_INFO
   ⟨0x8008, [(0x100, 8)], [⟨0, 1, .rw, 0⟩, ⟨8, 11, .rw, 0⟩]⟩,  -- SEP_FN_CTL
   ⟨0x8010, [(0x100, 8)], [⟨0, 1, .rw1c, 0⟩, ⟨1, 1, .rw1c, 0⟩, ⟨2, 1, .rw1c, 0⟩, ⟨3, 1, .rw1c, 0⟩, ⟨4, 1, .rw1c, 0⟩]⟩,  -- SEP_FN_STAT
   ⟨0x8018, [(0x100, 8)], [⟨0, 32, .rw1c, 0⟩]⟩,  -- SEP_DB
   ⟨0x8020, [(0x100, 8)], [⟨0, 4, .wo, 0⟩]⟩,  -- SEP_HOST_INT
   ⟨0x8028, [(0x100, 8)], [⟨0, 1, .rw, 0⟩, ⟨30, 22, .rw, 0⟩]⟩,  -- SEP_WIN
   ⟨0x8030, [(0x100, 8)], [⟨6, 46, .rw, 0⟩]⟩,  -- SEP_DMA_LOCAL
   ⟨0x8038, [(0x100, 8)], [⟨6, 58, .rw, 0⟩]⟩,  -- SEP_DMA_HOST
   ⟨0x8040, [(0x100, 8)], [⟨0, 1, .wo, 0⟩, ⟨1, 1, .rw, 0⟩, ⟨2, 1, .ro, 0⟩, ⟨3, 1, .rw1c, 0⟩, ⟨4, 3, .ro, 0⟩, ⟨8, 15, .rw, 0⟩]⟩ ]  -- SEP_DMA_CTL

def regTable_fp : List RegRow := [
   ⟨0x0, [], [⟨0, 4, .ro, 0⟩, ⟨4, 1, .ro, 0⟩, ⟨8, 7, .ro, 0⟩, ⟨16, 7, .ro, 0⟩, ⟨24, 7, .ro, 0⟩, ⟨32, 16, .ro, 0⟩, ⟨48, 8, .ro, 0⟩]⟩,  -- LINK_STAT
   ⟨0x8, [], [⟨0, 64, .ro, 0⟩]⟩,  -- LINK_MAP
   ⟨0x10, [], [⟨0, 64, .ro, 0⟩]⟩,  -- LINK_BAD
   ⟨0x18, [], [⟨0, 32, .ro, 0⟩, ⟨32, 16, .ro, 0⟩, ⟨48, 16, .ro, 0⟩]⟩,  -- LINK_ERR
   ⟨0x20, [], [⟨0, 16, .rwl, 0x40⟩]⟩,  -- LINK_CTL
   ⟨0x40, [], [⟨0, 3, .ro, 0⟩, ⟨3, 3, .ro, 0⟩, ⟨6, 1, .ro, 0⟩, ⟨7, 1, .ro, 0⟩, ⟨8, 2, .ro, 0⟩]⟩,  -- FP_PEER
   ⟨0x48, [], [⟨0, 24, .ro, 0⟩, ⟨32, 16, .ro, 0⟩, ⟨48, 2, .ro, 3⟩, ⟨56, 8, .ro, 0⟩]⟩,  -- FP_SYNC
   ⟨0x1000, [], [⟨0, 1, .wo, 0⟩, ⟨1, 3, .rw, 0⟩, ⟨16, 16, .rw, 0⟩]⟩,  -- LT_CTL
   ⟨0x1008, [], [⟨0, 1, .ro, 0⟩, ⟨1, 1, .rw1c, 0⟩, ⟨2, 1, .ro, 0⟩, ⟨4, 7, .ro, 0⟩, ⟨11, 1, .ro, 0⟩]⟩,  -- LT_STAT
   ⟨0x1010, [], [⟨0, 64, .ro, 0⟩]⟩ ]  -- LT_GOOD

def regTable_dl : List RegRow := [
   ⟨0x0, [], [⟨0, 4, .ro, 0⟩, ⟨4, 1, .ro, 0⟩, ⟨8, 7, .ro, 0⟩, ⟨16, 7, .ro, 0⟩, ⟨24, 7, .ro, 0⟩, ⟨32, 16, .ro, 0⟩, ⟨48, 8, .ro, 0⟩]⟩,  -- LINK_STAT
   ⟨0x8, [], [⟨0, 64, .ro, 0⟩]⟩,  -- LINK_MAP
   ⟨0x10, [], [⟨0, 64, .ro, 0⟩]⟩,  -- LINK_BAD
   ⟨0x18, [], [⟨0, 32, .ro, 0⟩, ⟨32, 16, .ro, 0⟩, ⟨48, 16, .ro, 0⟩]⟩,  -- LINK_ERR
   ⟨0x20, [], [⟨0, 16, .rwl, 0x40⟩]⟩,  -- LINK_CTL
   ⟨0x40, [], [⟨0, 1, .ro, 0⟩, ⟨4, 4, .ro, 0⟩, ⟨8, 40, .ro, 0⟩]⟩,  -- DL_DIE
   ⟨0x1000, [], [⟨0, 1, .wo, 0⟩, ⟨1, 3, .rw, 0⟩, ⟨16, 16, .rw, 0⟩]⟩,  -- LT_CTL
   ⟨0x1008, [], [⟨0, 1, .ro, 0⟩, ⟨1, 1, .rw1c, 0⟩, ⟨2, 1, .ro, 0⟩, ⟨4, 7, .ro, 0⟩, ⟨11, 1, .ro, 0⟩]⟩,  -- LT_STAT
   ⟨0x1010, [], [⟨0, 64, .ro, 0⟩]⟩ ]  -- LT_GOOD

def regTable_hb : List RegRow := [
   ⟨0x0, [], [⟨0, 4, .ro, 0⟩, ⟨4, 1, .ro, 0⟩, ⟨8, 7, .ro, 0⟩, ⟨16, 7, .ro, 0⟩, ⟨24, 7, .ro, 0⟩, ⟨32, 16, .ro, 0⟩, ⟨48, 8, .ro, 0⟩]⟩,  -- LINK_STAT
   ⟨0x8, [], [⟨0, 64, .ro, 0⟩]⟩,  -- LINK_MAP
   ⟨0x10, [], [⟨0, 64, .ro, 0⟩]⟩,  -- LINK_BAD
   ⟨0x18, [], [⟨0, 32, .ro, 0⟩, ⟨32, 16, .ro, 0⟩, ⟨48, 16, .ro, 0⟩]⟩,  -- LINK_ERR
   ⟨0x20, [], [⟨0, 16, .rwl, 0x40⟩]⟩,  -- LINK_CTL
   ⟨0x100, [], [⟨0, 32, .ro, 0⟩, ⟨32, 16, .ro, 0⟩]⟩,  -- LASER_STAT
   ⟨0x1000, [], [⟨0, 1, .wo, 0⟩, ⟨1, 3, .rw, 0⟩, ⟨16, 16, .rw, 0⟩]⟩,  -- LT_CTL
   ⟨0x1008, [], [⟨0, 1, .ro, 0⟩, ⟨1, 1, .rw1c, 0⟩, ⟨2, 1, .ro, 0⟩, ⟨4, 7, .ro, 0⟩, ⟨11, 1, .ro, 0⟩]⟩,  -- LT_STAT
   ⟨0x1010, [], [⟨0, 64, .ro, 0⟩]⟩,  -- LT_GOOD
   ⟨0x8000, [], [⟨0, 8, .ro, 0⟩, ⟨8, 8, .ro, 0⟩, ⟨16, 8, .ro, 0⟩, ⟨24, 3, .ro, 0⟩, ⟨27, 1, .ro, 0⟩]⟩,  -- SYS_STAT
   ⟨0x8010, [(0x8, 8)], [⟨0, 1, .ro, 0⟩, ⟨1, 2, .ro, 0⟩, ⟨3, 3, .ro, 0⟩, ⟨6, 1, .ro, 0⟩, ⟨8, 3, .ro, 0⟩]⟩,  -- SYS_ROUTE
   ⟨0x8100, [(0x8, 4)], [⟨0, 3, .ro, 0⟩, ⟨3, 1, .ro, 0⟩, ⟨4, 1, .ro, 0⟩, ⟨5, 1, .ro, 0⟩, ⟨6, 1, .ro, 0⟩, ⟨8, 1, .rw1c, 0⟩, ⟨9, 1, .rw1c, 0⟩, ⟨10, 1, .rw1c, 0⟩, ⟨16, 3, .ro, 0⟩, ⟨19, 1, .ro, 0⟩]⟩,  -- SKT_STAT
   ⟨0x8140, [(0x8, 4)], [⟨0, 2, .wo, 0⟩, ⟨2, 1, .rw, 1⟩]⟩ ]  -- SKT_CTL

def regTable_arb : List RegRow := [
   ⟨0x0, [], [⟨0, 6, .ro, 0⟩, ⟨8, 5, .ro, 0⟩, ⟨16, 4, .ro, 0⟩, ⟨20, 4, .ro, 0⟩, ⟨24, 1, .ro, 0⟩]⟩,  -- ARB_INFO
   ⟨0x8, [], [⟨0, 24, .ro, 0⟩, ⟨24, 4, .ro, 0⟩, ⟨28, 1, .ro, 0⟩, ⟨32, 8, .ro, 0⟩, ⟨48, 16, .ro, 0⟩]⟩,  -- ARB_STAT
   ⟨0x10, [], [⟨0, 1, .wo, 0⟩]⟩,  -- ARB_CLR
   ⟨0x18, [], [⟨0, 4, .ro, 0⟩, ⟨4, 4, .ro, 0⟩, ⟨8, 1, .ro, 0⟩]⟩,  -- ARB_RR
   ⟨0x20, [], [⟨0, 16, .rwl, 0⟩]⟩,  -- INJ_CTL
   ⟨0x28, [], [⟨0, 16, .ro, 0⟩, ⟨16, 16, .ro, 0⟩, ⟨32, 16, .ro, 0⟩, ⟨48, 16, .ro, 0⟩]⟩,  -- INJ_STAT
   ⟨0x40, [(0x8, 4)], [⟨0, 16, .rwl, 0⟩, ⟨16, 16, .rwl, 0⟩, ⟨32, 16, .rwl, 0⟩, ⟨48, 16, .rwl, 0⟩]⟩,  -- INJ_SHR
   ⟨0x60, [(0x8, 4)], [⟨0, 16, .rwl, 0⟩, ⟨16, 16, .rwl, 0⟩, ⟨32, 16, .rwl, 0⟩, ⟨48, 16, .rwl, 0⟩]⟩,  -- INJ_RSV
   ⟨0x80, [(0x8, 16)], [⟨0, 2, .rwl, 0⟩, ⟨2, 2, .rwl, 3⟩, ⟨4, 1, .rwl, 0⟩, ⟨5, 1, .rwl, 0⟩, ⟨8, 12, .rwl, 0⟩, ⟨20, 2, .ro, 0⟩, ⟨22, 1, .ro, 0⟩, ⟨23, 1, .ro, 0⟩, ⟨32, 11, .ro, 0⟩, ⟨48, 16, .ro, 0⟩]⟩ ]  -- ARB_REQ

def regTable_part : List RegRow := [
   ⟨0x4000, [(0x8, 2048)], [⟨0, 1, .rw, 0⟩, ⟨1, 1, .rw, 0⟩, ⟨2, 1, .ro, 0⟩, ⟨3, 1, .rw, 0⟩, ⟨4, 4, .rw, 0⟩, ⟨8, 8, .rw, 0⟩, ⟨16, 3, .rw, 0⟩, ⟨19, 1, .rw, 0⟩]⟩,  -- CAR_VEC
   ⟨0x8000, [], [⟨0, 1, .rw, 0⟩]⟩,  -- CAR_CTL
   ⟨0x8008, [], [⟨0, 16, .ro, 0⟩, ⟨16, 16, .ro, 0⟩, ⟨32, 16, .ro, 0⟩, ⟨48, 16, .ro, 0⟩]⟩,  -- CAR_STAT
   ⟨0x8010, [(0x8, 4)], [⟨0, 64, .rw1c, 0⟩]⟩,  -- CAR_LOST
   ⟨0x8030, [(0x8, 2)], [⟨0, 64, .rw1c, 0⟩]⟩,  -- CAR_SOLO
   ⟨0x0, [], [⟨0, 4, .ro, 0⟩, ⟨4, 1, .ro, 0⟩, ⟨5, 1, .rwl, 0⟩, ⟨6, 1, .rwl, 0⟩, ⟨7, 1, .rwl, 0⟩, ⟨8, 1, .rwl, 0⟩, ⟨9, 1, .rwl, 0⟩, ⟨10, 1, .rwl, 0⟩, ⟨12, 3, .rwl, 0⟩, ⟨16, 11, .rwl, 0⟩, ⟨32, 11, .rwl, 0⟩]⟩,  -- PART_INFO
   ⟨0x8, [], [⟨0, 2, .ro, 0⟩, ⟨2, 1, .ro, 0⟩, ⟨4, 8, .ro, 0⟩, ⟨12, 8, .ro, 0⟩, ⟨20, 8, .ro, 0⟩]⟩,  -- PART_STATE
   ⟨0x10, [], [⟨0, 64, .ro, 0⟩]⟩,  -- PART_START_BEAT
   ⟨0x100, [(0x8, 4)], [⟨0, 64, .ro, 0⟩]⟩,  -- PART_CORES
   ⟨0x200, [(0x8, 6)], [⟨0, 64, .ro, 0⟩]⟩,  -- TOUCHMARK
   ⟨0x230, [], [⟨0, 32, .ro, 0⟩, ⟨32, 32, .ro, 0⟩]⟩ ]  -- TM_INFO

def regTable_ring : List RegRow := [
   ⟨0x0, [], [⟨0, 6, .ro, 0⟩, ⟨8, 4, .ro, 0⟩, ⟨12, 1, .ro, 0⟩, ⟨16, 1, .ro, 0⟩]⟩,  -- RING_INFO
   ⟨0x8, [], [⟨14, 38, .rw, 0⟩]⟩,  -- RING_BASE
   ⟨0x10, [], [⟨0, 1, .rw, 0⟩, ⟨1, 1, .rw, 0⟩, ⟨8, 11, .rw, 0⟩]⟩,  -- RING_CTL
   ⟨0x18, [], [⟨0, 16, .rw, 0⟩]⟩,  -- RING_TAIL
   ⟨0x20, [], [⟨0, 16, .ro, 0⟩, ⟨16, 16, .ro, 0⟩]⟩,  -- RING_HEAD
   ⟨0x28, [], [⟨0, 1, .ro, 1⟩, ⟨1, 1, .ro, 0⟩, ⟨4, 4, .ro, 0⟩, ⟨8, 1, .rw1c, 0⟩]⟩,  -- RING_STAT
   ⟨0x30, [], [⟨0, 32, .ro, 0⟩, ⟨32, 16, .ro, 0⟩, ⟨48, 16, .ro, 0⟩]⟩,  -- RING_CNT
   ⟨0x38, [], [⟨0, 16, .ro, 0⟩, ⟨16, 16, .ro, 0⟩, ⟨32, 32, .ro, 0⟩]⟩,  -- CS_TOK
   ⟨0x100, [(0x8, 12)], [⟨0, 64, .ro, 0⟩]⟩,  -- CS_IMPORT_PUB
   ⟨0x180, [(0x8, 12)], [⟨0, 64, .ro, 0⟩]⟩ ]  -- CS_IMPORT_SIG

def regTable_elog : List RegRow := [
   ⟨0x0, [], [⟨0, 5, .ro, 0⟩, ⟨8, 2, .ro, 0⟩, ⟨16, 4, .ro, 0⟩, ⟨24, 8, .ro, 0x78⟩]⟩,  -- ELOG_INFO
   ⟨0x8, [], [⟨0, 7, .ro, 0⟩, ⟨32, 32, .ro, 0⟩]⟩,  -- ELOG_HEAD
   ⟨0x10, [], [⟨0, 32, .rw, 0⟩]⟩,  -- ELOG_TAIL
   ⟨0x18, [], [⟨0, 16, .ro, 0⟩, ⟨16, 1, .ro, 0⟩, ⟨32, 16, .ro, 0⟩]⟩,  -- ELOG_STAT
   ⟨0x20, [], [⟨0, 2, .ro, 0⟩, ⟨4, 4, .ro, 0⟩, ⟨8, 1, .ro, 0⟩, ⟨9, 1, .ro, 0⟩, ⟨10, 1, .ro, 0⟩, ⟨32, 32, .ro, 0⟩]⟩,  -- DBG_STAT
   ⟨0x100, [(0x20, 120)], [⟨0, 64, .ro, 0⟩]⟩,  -- ELOG_BEAT
   ⟨0x108, [(0x20, 120)], [⟨0, 64, .ro, 0⟩]⟩,  -- ELOG_SRC
   ⟨0x110, [(0x20, 120)], [⟨0, 64, .ro, 0⟩]⟩,  -- ELOG_ADDR
   ⟨0x118, [(0x20, 120)], [⟨0, 64, .ro, 0⟩]⟩ ]  -- ELOG_DETAIL

def regTable_pwr : List RegRow := [
   ⟨0x0, [], [⟨0, 10, .rwl, 0x2BC⟩]⟩,  -- PWR_CAP
   ⟨0x8, [], [⟨0, 64, .rwl, 0x7777777777777777⟩]⟩,  -- PWR_CEIL
   ⟨0x10, [], [⟨0, 64, .rw, 0x7777777777777777⟩]⟩,  -- PWR_HUB_REQ
   ⟨0x18, [], [⟨0, 12, .ro, 0⟩, ⟨16, 12, .ro, 0⟩, ⟨32, 1, .ro, 0⟩, ⟨33, 1, .ro, 0⟩]⟩,  -- PWR_STAT
   ⟨0x20, [], [⟨0, 16, .rw, 0⟩]⟩,  -- REST_REQ
   ⟨0x28, [], [⟨0, 3, .ro, 0⟩, ⟨3, 1, .ro, 0⟩, ⟨4, 4, .ro, 0⟩, ⟨8, 8, .ro, 0⟩, ⟨32, 16, .ro, 0⟩]⟩,  -- REST_STAT
   ⟨0x30, [], [⟨0, 64, .ro, 0⟩]⟩,  -- CLKD_ON
   ⟨0x38, [], [⟨0, 7, .ro, 0⟩, ⟨8, 7, .ro, 0⟩, ⟨16, 16, .ro, 0⟩]⟩,  -- AVS_STAT
   ⟨0x40, [(0x8, 2)], [⟨0, 3, .ro, 0⟩, ⟨4, 3, .ro, 0⟩, ⟨7, 1, .ro, 0⟩, ⟨8, 3, .ro, 0⟩, ⟨12, 3, .ro, 0⟩, ⟨15, 1, .ro, 0⟩, ⟨16, 1, .ro, 0⟩, ⟨17, 1, .ro, 0⟩, ⟨18, 1, .ro, 0⟩, ⟨24, 8, .ro, 0⟩, ⟨32, 12, .ro, 0⟩]⟩,  -- PWR_HUB
   ⟨0x100, [(0x8, 12)], [⟨0, 3, .ro, 0⟩, ⟨4, 3, .ro, 0⟩, ⟨7, 1, .ro, 0⟩, ⟨8, 3, .ro, 0⟩, ⟨12, 3, .ro, 0⟩, ⟨15, 1, .ro, 0⟩, ⟨16, 1, .ro, 0⟩, ⟨17, 1, .ro, 0⟩, ⟨18, 1, .ro, 0⟩, ⟨24, 8, .ro, 0⟩, ⟨32, 12, .ro, 0⟩]⟩ ]  -- PWR_DIE

def regTable_assay : List RegRow := [
   ⟨0x0, [], [⟨0, 4, .ro, 0⟩, ⟨4, 1, .ro, 0⟩]⟩,  -- ASSAY_INFO
   ⟨0x8, [], [⟨0, 3, .ro, 0⟩, ⟨4, 4, .ro, 0⟩, ⟨8, 4, .ro, 0⟩, ⟨12, 4, .ro, 0⟩, ⟨16, 1, .ro, 0⟩, ⟨20, 4, .ro, 0⟩, ⟨32, 32, .ro, 0⟩]⟩,  -- ASSAY_STAT
   ⟨0x10, [], [⟨0, 32, .ro, 0⟩, ⟨32, 32, .ro, 0⟩]⟩,  -- ASSAY_CNT
   ⟨0x20, [(0x8, 4)], [⟨0, 64, .ro, 0⟩]⟩ ]  -- ASSAY_SIG

def regTable_mb : List RegRow := [
   ⟨0x0, [], [⟨0, 8, .ro, 0⟩, ⟨8, 8, .ro, 0⟩, ⟨16, 1, .ro, 0⟩, ⟨17, 1, .ro, 0⟩, ⟨18, 2, .ro, 0⟩, ⟨24, 16, .ro, 0⟩]⟩,  -- MB_INFO
   ⟨0x8, [], [⟨0, 64, .ro, 0⟩]⟩,  -- MB_LAST_TICKET
   ⟨0x10, [(0x8, 2)], [⟨0, 64, .ro, 0⟩]⟩,  -- MB_CMD_NONCE
   ⟨0x1000, [(0x200, 16)], [⟨0, 2, .wo, 0⟩, ⟨4, 12, .rw, 0⟩]⟩,  -- SLOT_CTL
   ⟨0x1008, [(0x200, 16)], [⟨0, 3, .ro, 0⟩, ⟨3, 5, .ro, 0⟩, ⟨8, 1, .rw1c, 0⟩]⟩,  -- SLOT_STAT
   ⟨0x1010, [(0x200, 16)], [⟨0, 64, .ro, 0⟩]⟩,  -- SLOT_TICKET
   ⟨0x1018, [(0x200, 16)], [⟨0, 64, .ro, 0⟩]⟩,  -- SLOT_TARGET
   ⟨0x1020, [(0x200, 16)], [⟨0, 1, .wo, 0⟩]⟩,  -- ATT_CTL
   ⟨0x1028, [(0x200, 16)], [⟨0, 1, .ro, 0⟩, ⟨1, 1, .rw1c, 0⟩, ⟨2, 1, .rw1c, 0⟩]⟩,  -- ATT_STAT
   ⟨0x1040, [(0x200, 16), (0x8, 4)], [⟨0, 64, .rw, 0⟩]⟩,  -- ATT_NONCE
   ⟨0x1100, [(0x200, 16), (0x8, 32)], [⟨0, 64, .ro, 0⟩]⟩,  -- ATT_REPORT
   ⟨0x3000, [(0x8, 12)], [⟨0, 64, .ro, 0⟩]⟩,  -- ATT_PUB
   ⟨0x3060, [], [⟨0, 64, .ro, 0⟩]⟩,  -- ATT_SERIAL
   ⟨0x3080, [(0x8, 12)], [⟨0, 64, .ro, 0⟩]⟩,  -- ATT_ENDORSE
   ⟨0x8000, [(0x800, 16), (0x8, 256)], [⟨0, 64, .rw, 0⟩]⟩ ]  -- MB_BUF

def regTable : Blk → List RegRow
  | .pkg => regTable_pkg
  | .die => regTable_die
  | .core => regTable_core
  | .mc => regTable_mc
  | .home => regTable_home
  | .pcie => regTable_pcie
  | .fp => regTable_fp
  | .dl => regTable_dl
  | .hb => regTable_hb
  | .arb => regTable_arb
  | .part => regTable_part
  | .ring => regTable_ring
  | .elog => regTable_elog
  | .pwr => regTable_pwr
  | .assay => regTable_assay
  | .mb => regTable_mb

end Sys2Proof.Machine
end

