-- ==== Sys2Proof/Machine/Codes.lean ====
section
/-! DEFINITION. The record codes of R414, each with the severity its letter gives. -/

namespace Sys2Proof.Machine

/-- A record code: its value and its severity (R412, R414). -/
structure ECode where
  val : Nat
  sev : Nat
  deriving DecidableEq, Repr, Inhabited

abbrev E.CS_ACCESS_WIDTH : ECode := ⟨0x001, 2⟩
abbrev E.CS_UNMAPPED : ECode := ⟨0x002, 2⟩
abbrev E.RWL_WRITE : ECode := ⟨0x003, 2⟩
abbrev E.PA_UNMAPPED : ECode := ⟨0x004, 2⟩
abbrev E.PA_NO_PACKAGE : ECode := ⟨0x005, 2⟩
abbrev E.CS_DENIED : ECode := ⟨0x006, 2⟩
abbrev E.OWN_DENIED : ECode := ⟨0x007, 2⟩
abbrev E.ATOMIC_ATTR : ECode := ⟨0x008, 2⟩
abbrev E.BEAT_LOST : ECode := ⟨0x020, 5⟩
abbrev E.PEAL_CANCELLED : ECode := ⟨0x021, 0⟩
abbrev E.PEAL_NO_VERDICT : ECode := ⟨0x022, 5⟩
abbrev E.HALLMARK_DIVERGE : ECode := ⟨0x023, 2⟩
abbrev E.FLASH_READ_FAIL : ECode := ⟨0x040, 2⟩
abbrev E.IMAGE_FORMAT : ECode := ⟨0x041, 2⟩
abbrev E.IMAGE_VALUE : ECode := ⟨0x042, 2⟩
abbrev E.IMAGE_SIG_FAIL : ECode := ⟨0x043, 2⟩
abbrev E.IMAGE_ROLLBACK : ECode := ⟨0x044, 2⟩
abbrev E.IMAGE_NOT_FOR_PKG : ECode := ⟨0x045, 2⟩
abbrev E.ISLAND_DISAGREE : ECode := ⟨0x046, 2⟩
abbrev E.IMAGE_AMBIGUOUS : ECode := ⟨0x047, 2⟩
abbrev E.IMAGE_COPY_DIFFER : ECode := ⟨0x048, 0⟩
abbrev E.IMAGE_COPY_BAD : ECode := ⟨0x049, 1⟩
abbrev E.MODULE_TIMEOUT : ECode := ⟨0x04A, 2⟩
abbrev E.PART_START_FAIL : ECode := ⟨0x04B, 2⟩
abbrev E.CORE_RETIRE_FAIL : ECode := ⟨0x060, 4⟩
abbrev E.TWIN_UPPER : ECode := ⟨0x061, 2⟩
abbrev E.TWIN_DROP : ECode := ⟨0x062, 4⟩
abbrev E.TWIN_LOST : ECode := ⟨0x063, 4⟩
abbrev E.TWIN_BUSY : ECode := ⟨0x064, 2⟩
abbrev E.INT_BAD_VECTOR : ECode := ⟨0x065, 2⟩
abbrev E.INT_XPART : ECode := ⟨0x066, 2⟩
abbrev E.CACHE_POISON : ECode := ⟨0x080, 3⟩
abbrev E.CMO_REMOTE : ECode := ⟨0x081, 2⟩
abbrev E.CMO_DENIED : ECode := ⟨0x082, 2⟩
abbrev E.DC_SHARED : ECode := ⟨0x083, 2⟩
abbrev E.XLATE_REMOTE : ECode := ⟨0x084, 2⟩
abbrev E.WALK_BUS : ECode := ⟨0x085, 2⟩
abbrev E.WALK_DEV : ECode := ⟨0x086, 2⟩
abbrev E.FLIT_TORN : ECode := ⟨0x0A0, 2⟩
abbrev E.FLIT_CRC_FAIL : ECode := ⟨0x0A1, 4⟩
abbrev E.RSV_OVERBOOK : ECode := ⟨0x0A2, 2⟩
abbrev E.SHARE_OVERBOOK : ECode := ⟨0x0A3, 2⟩
abbrev E.DIE_FENCED : ECode := ⟨0x0C0, 2⟩
abbrev E.DIE_RESET : ECode := ⟨0x0C1, 4⟩
abbrev E.DIE_CLOCK_LOST : ECode := ⟨0x0C2, 4⟩
abbrev E.DIR_NOT_READY : ECode := ⟨0x0C3, 0⟩
abbrev E.POISON_ACCESS : ECode := ⟨0x0C4, 2⟩
abbrev E.CLEAR_WRONG_HOME : ECode := ⟨0x0C5, 2⟩
abbrev E.CLEAR_DENIED : ECode := ⟨0x0C6, 2⟩
abbrev E.MEM_TRAIN_FAIL : ECode := ⟨0x100, 2⟩
abbrev E.MEM_POPULATION : ECode := ⟨0x101, 2⟩
abbrev E.MEM_MAP_SIZE : ECode := ⟨0x102, 2⟩
abbrev E.MEM_DEV_OUT : ECode := ⟨0x103, 1⟩
abbrev E.MEM_PAGE_REBUILD : ECode := ⟨0x104, 1⟩
abbrev E.MEM_PAGE_RESYNC : ECode := ⟨0x105, 1⟩
abbrev E.MEM_UE : ECode := ⟨0x106, 3⟩
abbrev E.STRENGTH_OVER_CARVE : ECode := ⟨0x107, 2⟩
abbrev E.RESTRIPE_BUSY : ECode := ⟨0x108, 2⟩
abbrev E.MC_TRAIN_ONLY : ECode := ⟨0x109, 2⟩
abbrev E.MEM_CHANNEL_FAIL : ECode := ⟨0x10A, 5⟩
abbrev E.REGION_OVERLAP : ECode := ⟨0x10B, 2⟩
abbrev E.LASER_SWITCH : ECode := ⟨0x140, 1⟩
abbrev E.LASER_FAIL : ECode := ⟨0x141, 5⟩
abbrev E.LINK_TRAIN_FAIL : ECode := ⟨0x142, 4⟩
abbrev E.DIE_LINK_FAIL : ECode := ⟨0x143, 4⟩
abbrev E.BRIDGE_FAIL : ECode := ⟨0x144, 5⟩
abbrev E.LINK_TRAIN_ONLY : ECode := ⟨0x145, 2⟩
abbrev E.PKG_UNREACHABLE : ECode := ⟨0x146, 0⟩
abbrev E.PKG_LOST : ECode := ⟨0x147, 5⟩
abbrev E.PKG_LOST_ACCESS : ECode := ⟨0x148, 3⟩
abbrev E.PKG_QUORUM_LOST : ECode := ⟨0x149, 5⟩
abbrev E.JOIN_LOG_FULL : ECode := ⟨0x14A, 2⟩
abbrev E.LEAVE_BUSY : ECode := ⟨0x14B, 2⟩
abbrev E.LEAVE_FAILED : ECode := ⟨0x14C, 2⟩
abbrev E.SKT_EVENT : ECode := ⟨0x14D, 0⟩
abbrev E.PART_BUSY : ECode := ⟨0x180, 2⟩
abbrev E.CORE_NOT_ASSAYED : ECode := ⟨0x181, 2⟩
abbrev E.ISLAND_FAULT : ECode := ⟨0x182, 5⟩
abbrev E.KEY_UNWRAP_FAIL : ECode := ⟨0x183, 2⟩
abbrev E.KEY_SLOT_USED : ECode := ⟨0x184, 2⟩
abbrev E.IMAGE_UPDATE_BAD : ECode := ⟨0x185, 2⟩
abbrev E.IMAGE_UPDATE_FAIL : ECode := ⟨0x186, 2⟩
abbrev E.CRYPTO_RING_FETCH : ECode := ⟨0x1A0, 2⟩
abbrev E.CRYPTO_RING_OVERRUN : ECode := ⟨0x1A1, 2⟩
abbrev E.CRYPTO_OVERBOOK : ECode := ⟨0x1A2, 2⟩
abbrev E.PCIE_CPL_TIMEOUT : ECode := ⟨0x1C0, 2⟩
abbrev E.PCIE_UNEXP_CPL : ECode := ⟨0x1C1, 0⟩
abbrev E.PCIE_LINK_DOWN : ECode := ⟨0x1C2, 3⟩
abbrev E.PCIE_POISONED_TLP : ECode := ⟨0x1C3, 2⟩
abbrev E.PCIE_MSI_FORMAT : ECode := ⟨0x1C4, 2⟩
abbrev E.PCIE_ERR_MSG : ECode := ⟨0x1C5, 0⟩
abbrev E.PCIE_INTX : ECode := ⟨0x1C6, 0⟩
abbrev E.PCIE_HP_EVENT : ECode := ⟨0x1C7, 0⟩
abbrev E.PCIE_FENCED : ECode := ⟨0x1C8, 2⟩
abbrev E.AVS_TIMEOUT : ECode := ⟨0x200, 0⟩
abbrev E.POWER_CAP_FLOOR : ECode := ⟨0x201, 0⟩
abbrev E.THERMAL_TRIP : ECode := ⟨0x202, 5⟩
abbrev E.TARGET_OFF : ECode := ⟨0x203, 2⟩
abbrev E.TARGET_OFF_DROP : ECode := ⟨0x204, 0⟩
abbrev E.WAKE_FAIL : ECode := ⟨0x205, 5⟩
abbrev E.PART_FENCED : ECode := ⟨0x240, 2⟩
abbrev E.ASSAY_PASS : ECode := ⟨0x241, 0⟩
abbrev E.ASSAY_FAIL : ECode := ⟨0x242, 0⟩
abbrev E.ASSAY_ABORTED : ECode := ⟨0x243, 0⟩
abbrev E.DEBUG_ENABLED : ECode := ⟨0x244, 0⟩
abbrev E.DEBUG_DENIED : ECode := ⟨0x245, 2⟩

end Sys2Proof.Machine
end

