-- ==== Sys2Proof/Machine/Ops.lean ====
section
/-! DEFINITION. The operations every family shares: sparse maps, registers and their fields, unit numbering, messages,
free values, and the error logs (R407 to R416). -/

namespace Sys2Proof.Machine

abbrev Out := Host.Outcome State Fault Refusal

/-! ## Sparse maps -/

def SMap.get {α : Type} [Inhabited α] : SMap α → Nat → α
  | [], _ => default
  | (k, v) :: r, n => if k = n then v else SMap.get r n

/-- Insert an entry before the first greater key. -/
def SMap.ins {α : Type} : SMap α → Nat → α → SMap α
  | [], n, v => [(n, v)]
  | (k, w) :: r, n, v => if n < k then (n, v) :: (k, w) :: r else (k, w) :: SMap.ins r n v

def SMap.del {α : Type} (m : SMap α) (n : Nat) : SMap α := m.filter fun e => e.1 != n

/-- Set key n to v; an entry equal to the default is left out. -/
def SMap.put {α : Type} [Inhabited α] [DecidableEq α] (m : SMap α) (n : Nat) (v : α) : SMap α :=
  if v = default then m.del n else SMap.ins (m.del n) n v

def SMap.upd {α : Type} [Inhabited α] [DecidableEq α] (m : SMap α) (n : Nat) (f : α → α) : SMap α :=
  m.put n (f (m.get n))

/-- Keys rise strictly and no entry holds the default. -/
def SMap.wf {α : Type} [Inhabited α] [DecidableEq α] : SMap α → Bool
  | [] => true
  | (_, v) :: [] => v != default
  | (k, v) :: (k', v') :: r => v != default && decide (k < k') && SMap.wf ((k', v') :: r)

/-! ## Register offsets and Reset values -/

/-- Where an offset lies: its block, the instance, the offset within it (R37); none outside every span. -/
def locate (off : Nat) : Option (Blk × Nat × Nat) :=
  match blkTable.find? fun b => b.base ≤ off && off < b.base + b.stride * b.count with
  | some b => some (b.blk, (off - b.base) / b.stride, (off - b.base) % b.stride)
  | none => none

/-- The indexes of offset d among the given strides and counts; none where no register lies there. -/
def idxOf : List (Nat × Nat) → Nat → Option (List Nat)
  | [], d => if d = 0 then some [] else none
  | (st, n) :: r, d => if d / st < n then (idxOf r (d % st)).map fun l => d / st :: l else none

def RegRow.at? (r : RegRow) (rel : Nat) : Option (List Nat) := if rel < r.off then none else idxOf r.idx (rel - r.off)

/-- The register at an offset, with its block, instance and indexes. -/
def regAt (off : Nat) : Option (Blk × Nat × List Nat × RegRow) :=
  match locate off with
  | none => none
  | some (b, i, rel) => (regTable b).findSome? fun r => (r.at? rel).map fun ix => (b, i, ix, r)

/-- R202: the BACKOFF bits that are 1 by default, those of the two reserved-service home arbiters. -/
def backoffReset (off : Nat) : Bool :=
  (R.ARB_REQ 60 0 ≤ off && off ≤ R.ARB_REQ 60 15) || (R.ARB_REQ 61 0 ≤ off && off ≤ R.ARB_REQ 61 15)

/-- The Reset value of the register at an offset (R21). Values named 'instance', 'strap', 'fused', 'derived' and
'random' are not held here: they are computed when read (Machine/Flags.lean). -/
def regReset (off : Nat) : Word :=
  match regAt off with
  | none => 0
  | some (_, _, _, r) =>
    BitVec.ofNat 64 (r.flds.foldl (fun a f => a + f.reset * 2 ^ f.lo) 0 + (if backoffReset off then 16 else 0))

/-! ## Fields -/

def Fld.get (f : Fld) (w : Word) : Nat := (w.toNat >>> f.lo) % 2 ^ f.width

/-- The bits of a field. -/
def Fld.mask (f : Fld) : Word := BitVec.ofNat 64 ((2 ^ f.width - 1) <<< f.lo)

def Fld.set (f : Fld) (w : Word) (v : Nat) : Word :=
  (w &&& ~~~ f.mask) ||| (BitVec.ofNat 64 (v <<< f.lo) &&& f.mask)

def Fld.max (f : Fld) : Nat := 2 ^ f.width - 1

/-- Bits [lo + width - 1 : lo] of a word. -/
def bits (w : Word) (lo width : Nat) : Nat := (w.toNat >>> lo) % 2 ^ width

/-! ## Registers of the state -/

def regFind : List (Nat × Word) → Nat → Option Word
  | [], _ => none
  | (k, v) :: r, n => if k = n then some v else regFind r n

/-- The register at a Control Space offset. -/
def State.reg (s : State) (off : Nat) : Word := (regFind s.regs off).getD (regReset off)

def State.setReg (s : State) (off : Nat) (w : Word) : State :=
  { s with regs := if w = regReset off then SMap.del s.regs off else SMap.ins (SMap.del s.regs off) off w }

/-- The value of a field. -/
def State.f (s : State) (off : Nat) (fl : Fld) : Nat := fl.get (s.reg off)

def State.setF (s : State) (off : Nat) (fl : Fld) (v : Nat) : State := s.setReg off (fl.set (s.reg off) v)

/-- Raise a counter field by n; it saturates at its maximum. -/
def State.incF (s : State) (off : Nat) (fl : Fld) (n : Nat := 1) : State :=
  s.setF off fl (min (s.f off fl + n) fl.max)

/-- Raise a field by 1; it wraps. -/
def State.wrapF (s : State) (off : Nat) (fl : Fld) : State := s.setF off fl (s.f off fl + 1)

/-- Return the register to its Reset value. -/
def State.resetReg (s : State) (off : Nat) : State := s.setReg off (regReset off)

/-! ## Numbers and lists -/

def bit (m n : Nat) : Bool := m.testBit n

/-- The numbers below n whose bit is set. -/
def bitsOf (m n : Nat) : List Nat := (List.range n).filter fun i => m.testBit i

def maskOf (l : List Nat) : Nat := l.foldl (fun m i => m ||| 2 ^ i) 0

def clearBit (m n : Nat) : Nat := if m.testBit n then m - 2 ^ n else m

/-- Set difference. -/
def without (l r : List Nat) : List Nat := l.filter fun x => !r.contains x

def addOnce {α : Type} [DecidableEq α] (l : List α) (x : α) : List α := if x ∈ l then l else l ++ [x]

/-- Apply f for each element in order. -/
def each {α σ : Type} (l : List α) (f : σ → α → σ) (s : σ) : σ := l.foldl f s

def when (b : Bool) (f : State → State) (s : State) : State := if b then f s else s

def maxOf (l : List Nat) : Nat := l.foldl max 0
def sumOf (l : List Nat) : Nat := l.foldl (· + ·) 0
def countOf {α : Type} (l : List α) (p : α → Bool) : Nat := (l.filter p).length

/-! ## Units (R25, R27) -/

def dieOf (core : Nat) : Nat := core / 20
def localOf (core : Nat) : Nat := core % 20
def hubOfDie (d : Nat) : Nat := d / 6
def hubOfChan (c : Nat) : Nat := c / 8
def hubOfPort (p : Nat) : Nat := p / 4
/-- R202: the unit that hosts an arbiter, a die (0-11) or a hub (12, 13). -/
def arbHost (a : Nat) : Nat :=
  if a < 24 then a / 2 else if a < 40 then 12 + (a - 24) / 8 else if a < 42 then 12 + (a - 40) else if a < 50 then 12 + (a - 42) / 4
  else if a < 58 then 12 + (a - 50) / 4 else 12 + a % 2
/-- The die of a unit: a core's, or the Die Cache's own (R182). -/
def unitDie (u : Nat) : Option Nat := if u < 240 then some (u / 20) else if u < 252 then some (u - 240) else none
def coresOfDie (d : Nat) : List Nat := (List.range 20).map fun i => 20 * d + i
def allCores : List Nat := List.range 240
def allDies : List Nat := List.range 12

/-- This package's number (R65). -/
def State.pkg (s : State) : Nat := s.boot.strap

def State.coreState (s : State) (c : Nat) : Nat := s.f (R.CORE_STAT c) F.CORE_STAT_STATE
def State.setCoreState (s : State) (c v : Nat) : State := s.setF (R.CORE_STAT c) F.CORE_STAT_STATE v
/-- The partition that owns a core of this package. -/
def State.corePart (s : State) (c : Nat) : Nat := s.f (R.CORE_STAT c) F.CORE_STAT_PARTITION
def State.coresOf (s : State) (p : Nat) : List Nat := allCores.filter fun c => s.corePart c = p
def State.isTwin (s : State) (p : Nat) : Bool := s.f (R.PART_INFO p) F.PART_INFO_TWIN = 1
def State.partFenced (s : State) (p : Nat) : Bool := s.f (R.PART_STATE p) F.PART_STATE_FENCED = 1
def State.hasSystem (s : State) (p : Nat) : Bool := s.f (R.PART_INFO p) F.PART_INFO_SYSTEM = 1
/-- BOOT_STAT, which no Control Space address shows (R83). -/
def State.stat (s : State) (fl : Fld) : Nat := fl.get s.boot.stat
def State.locked (s : State) : Bool := s.stat F.BOOT_STAT_LOCKED = 1
def State.now (s : State) : Nat := s.beat.now

/-- States of PWR_DIE_d (R406). -/
def State.dieState (s : State) (d : Nat) : Nat := s.f (R.PWR_DIE d) F.PWR_DIE_STATE
/-- The die is masked (R392): off, or waking as a whole; while one cluster of a die wakes, the die itself runs (R393). -/
def State.dieOff (s : State) (d : Nat) : Bool :=
  s.dieState d = 0 || (s.dieState d = 1 && !(s.f R.CLKD_ON F.CLKD_ON_ON).testBit (4 * d + 2))
/-- R41, R231: the die's fence is asserted. -/
def State.dieFenced (s : State) (d : Nat) : Bool := s.f (R.DL_DIE d) F.DL_DIE_FENCED = 1

/-! ## Messages and free values -/

def State.send (s : State) (m : Msg) : State := { s with sent := s.sent ++ [m] }
/-- Take a message off the fabric: the oldest equal one. -/
def State.take (s : State) (m : Msg) : State :=
  { s with sent := s.sent.erase m, flits := s.flits.filter fun f => Msg.coh f.msg != m }

/-- The next free value (log entry 2). -/
def State.free (s : State) : BitVec 64 := Config.freeValue s.freeCtr
def State.tick (s : State) : State := { s with freeCtr := s.freeCtr + 1 }

/-- The debug port as the requester of DBG_MEM's access (R432), in the place of a core's number. -/
def DEBUG_PORT : Nat := 0x1000

/-- An outcome to a core of this package: 0 done, 1 bus error, 2 translation fault, 3 waits, 4 reissue. To the debug port,
what was read: 0 where the access failed. -/
def State.toCore (s : State) (c code : Nat) (data : Line := 0) : State :=
  if c = DEBUG_PORT then { s with err := { s.err with tapDr := [if code = 0 then data.setWidth 64 else 0] } }
  else s.send (.core c code data)

/-- Kinds of Msg.host. -/
def H_CPL : Nat := 0
def H_UR : Nat := 1
def H_CA : Nat := 2
def H_RRS : Nat := 3
def H_INTA : Nat := 4

/-- A source message for vector v of partition p (R106, R107); units of partition 0 deliver nothing. -/
def State.raise (s : State) (p v : Nat) (core : Option Nat := none) : State :=
  if p = 0 then s else s.send (.source p v core)

/-- A unit raises the vector that its own block names, which is 32 or above (R106); where the block names a lower one it raises none: DESIGN
CHOICE, log entry 84. -/
def State.raiseOwn (s : State) (p v : Nat) : State := if v < 32 then s else s.raise p v

/-- Raise a vector in each of the partitions. -/
def State.raiseAll (s : State) (ps : List Nat) (v : Nat) : State := each ps (fun s p => s.raise p v) s

/-- What another package sends reaches this one only while it is not isolated (R58) or locked (R83). -/
def State.fromPkg (s : State) (src : Nat) (act : State → State) : State :=
  if src != s.pkg && (s.beat.isolated || s.locked) then s else act s

/-- Fabric traffic of other packages, whichever sent it, reaches this one only while it is not isolated (R58) or locked (R83). -/
def State.ifHeard (s : State) (act : State → State) : State := if s.beat.isolated || s.locked then s else act s

/-! ## Error logs (R407 to R416) -/

def ELOG_PKG : Nat := 16
def ELOG_GONG : Nat := 17

/-- The die (0-11) or hub (12, 13) that hosts a unit, by its kind and number (R408, R413; log entry 10). -/
def unitHost (kind num : Nat) : Nat :=
  match kind with
  | 0 => num / 20
  | 1 => num
  | 2 => 12 + num
  | 3 => 12 + num / 8
  | 4 => if num < 32 then 12 + num / 16 else if num < 40 then 12 else 13
  | 5 => 12 + num / 4
  | 6 => 12 + num / 6
  | 9 => 12 + num
  | 10 => if num < 24 then num / 2 else if num < 40 then 12 + (num - 24) / 8 else if num < 42 then num - 28
      else if num < 50 then 12 + (num - 42) / 4 else if num < 58 then 12 + (num - 50) / 4 else 12 + num % 2
  | 11 => 12 + num % 4 / 2
  | 15 => if num < 14 then num else 12
  | _ => 12

/-- R409: equal in CODE, UNIT_KIND, UNIT_NUM, PART and ADDR, and written in the same beat. -/
def Rec.same (a b : Rec) : Bool :=
  a.code = b.code && a.kind = b.kind && a.unit = b.unit && a.part = b.part && a.addr.getD 0 = b.addr.getD 0
    && a.beat = b.beat

def ELog.full (l : ELog) : Bool := l.written - l.tail = 120

/-- Store one record in a log: merged with the newest equal one, refused by a full Gong log, or stored in slot
WRITTEN mod 120 (R409, R410). The flag says that it was stored. -/
def ELog.store (l : ELog) (gong : Bool) (r : Rec) : ELog × Bool :=
  let newest := l.recs.get ((l.written - 1) % 120)
  if 0 < l.written && newest.same r then
    ({ l with recs := l.recs.put ((l.written - 1) % 120) { newest with count := min (newest.count + 1) 0xFFFF }
              merged := min (l.merged + 1) 0xFFFF }, false)
  else if gong && l.full then ({ l with lost := min (l.lost + 1) 0xFFFF }, false)
  else
    ({ l with recs := l.recs.put (l.written % 120) { r with count := 1 }
              written := l.written + 1
              lost := if 120 ≤ l.written && l.tail ≤ l.written - 120 then min (l.lost + 1) 0xFFFF else l.lost }, true)

/-- Logs accept records from step 2 of R66 on. -/
def State.storeRec (s : State) (n : Nat) (r : Rec) : State :=
  if s.boot.inReset then s
  else
  let (l, stored) := (s.err.logs.get n).store (n = ELOG_GONG) r
  let s := { s with err := { s.err with logs := s.err.logs.put n l } }
  if stored && 1 ≤ n && n ≤ 15 then s.raise n 5 else s

/-- Write an error record about a unit for the partitions concerned: package log, the unit log of its host (for a fenced
die, of its hub), and the partition logs, log 0 where it concerns no partition (R407, R408). -/
def State.recordAt (s : State) (e : ECode) (host kind unit : Nat) (parts : List Nat) (addr : Option Nat) (detail : Nat)
    (gong : Bool) : State :=
  let ps := parts.eraseDups
  let r : Rec := { beat := s.now, kind := kind, unit := unit, part := if ps.length = 1 then ps.headD 0 else 0,
                   code := e.val, sev := if gong then 5 else e.sev, addr := addr, detail := detail, count := 1 }
  let s := (s.storeRec ELOG_PKG r).storeRec (18 + host) r
  let s := if gong then s.storeRec ELOG_GONG r else s
  let named := ps.filter (fun p => p != 0)
  if named = [] then s.storeRec 0 { r with part := 0 } else each named (fun s p => s.storeRec p { r with part := p }) s

def State.record (s : State) (e : ECode) (kind unit : Nat) (parts : List Nat := []) (addr : Option Nat := none)
    (detail : Nat := 0) : State :=
  let host := unitHost kind unit
  s.recordAt e (if host < 12 && s.dieFenced host then 12 + hubOfDie host else host) kind unit parts addr detail false

/-- R411, R417: empty every log. -/
def State.emptyLogs (s : State) : State := { s with err := { s.err with logs := [] } }

/-! ## Nested updates -/

def State.onBeat (s : State) (f : BeatSt → BeatSt) : State := { s with beat := f s.beat }
def State.onBoot (s : State) (f : BootSt → BootSt) : State := { s with boot := f s.boot }
def State.onCores (s : State) (f : CoreSt → CoreSt) : State := { s with cores := f s.cores }
def State.onCache (s : State) (f : CacheSt → CacheSt) : State := { s with cache := f s.cache }
def State.onXlat (s : State) (f : XlatSt → XlatSt) : State := { s with xlat := f s.xlat }
def State.onFab (s : State) (f : FabSt → FabSt) : State := { s with fab := f s.fab }
def State.onHome (s : State) (f : HomeSt → HomeSt) : State := { s with home := f s.home }
def State.onDram (s : State) (f : DramSt → DramSt) : State := { s with dram := f s.dram }
def State.onLinks (s : State) (f : LinkSt → LinkSt) : State := { s with links := f s.links }
def State.onSec (s : State) (f : SecSt → SecSt) : State := { s with sec := f s.sec }
def State.onCrypto (s : State) (f : CryptoSt → CryptoSt) : State := { s with crypto := f s.crypto }
def State.onPcie (s : State) (f : PcieSt → PcieSt) : State := { s with pcie := f s.pcie }
def State.onPwr (s : State) (f : PwrSt → PwrSt) : State := { s with pwr := f s.pwr }
def State.onErr (s : State) (f : ErrSt → ErrSt) : State := { s with err := f s.err }

def State.coreH (s : State) (c : Nat) : CoreH := s.cores.hid.get c
def State.setCoreH (s : State) (c : Nat) (h : CoreH) : State := s.onCores fun k => { k with hid := k.hid.put c h }
def State.updCoreH (s : State) (c : Nat) (f : CoreH → CoreH) : State := s.setCoreH c (f (s.coreH c))

end Sys2Proof.Machine
end

