-- ==== Sys2Proof/Machine/Operands.lean ====
section
/-! DEFINITION. The operand forms of the commands: bytes of a word and of a line, byte masks, little-endian fields of
images, tickets and descriptors, big-endian digests. -/

namespace Sys2Proof.Machine

/-- Byte i of a line, at bits [8i+7:8i] (R180). -/
def lineByte (l : Line) (i : Nat) : Nat := (l.toNat >>> (8 * i)) % 256

/-- size bytes of a line from offset off, at the low end. -/
def lineGet (l : Line) (off size : Nat) : Line := (l >>> (8 * off)) &&& BitVec.ofNat 512 (2 ^ (8 * size) - 1)

/-- The byte mask of size bytes from offset off (R183). -/
def maskFor (off size : Nat) : Mask := BitVec.ofNat 64 ((2 ^ size - 1) <<< off)

/-- The bit mask of a byte mask. -/
def spread (m : Mask) : Line :=
  (List.range 64).foldl (fun a i => if m.toNat.testBit i then a ||| BitVec.ofNat 512 (255 <<< (8 * i)) else a) 0

/-- Replace the masked bytes. -/
def merge (old new : Line) (m : Mask) : Line := (old &&& ~~~ (spread m)) ||| (new &&& spread m)

/-- Put size bytes at offset off. -/
def linePut (l : Line) (off size : Nat) (v : Line) : Line :=
  let k := BitVec.ofNat 512 (2 ^ (8 * size) - 1)
  (l &&& ~~~ (k <<< (8 * off))) ||| ((v &&& k) <<< (8 * off))

def fullMask : Mask := BitVec.allOnes 64

/-- Little-endian value of bytes. -/
def leNat : List Byte → Nat
  | [] => 0
  | b :: r => b.toNat + 256 * leNat r

/-- n bytes of v, little-endian. -/
def leBytes : Nat → Nat → List Byte
  | 0, _ => []
  | n + 1, v => BitVec.ofNat 8 v :: leBytes n (v / 256)

/-- Big-endian value of bytes. -/
def beNat (l : List Byte) : Nat := l.foldl (fun a b => a * 256 + b.toNat) 0

/-- n bytes of v, big-endian. -/
def beBytes (n v : Nat) : List Byte := (leBytes n v).reverse

/-- The bytes from offset off, n of them. -/
def slice (l : List Byte) (off n : Nat) : List Byte := (l.drop off).take n

/-- The little-endian field of n bytes at an offset. -/
def field (l : List Byte) (off n : Nat) : Nat := leNat (slice l off n)

def digestBytes (d : Digest) : List Byte := beBytes 48 d.toNat

def lineBytes (l : Line) : List Byte := leBytes 64 l.toNat
def bytesLine (l : List Byte) : Line := BitVec.ofNat 512 (leNat l)

/-- Picoseconds are carried as integers; an OFFSET field holds 16-bit two's complement (R64). One that does not fit reads as the
nearest value that does: DESIGN CHOICE, log entry 85. -/
def twos16 (i : Int) : Nat := (BitVec.ofInt 16 (max (-32768) (min 32767 i))).toNat

end Sys2Proof.Machine
end

