-- ==== Sys2Proof/Machine/MemMap.lean ====
section
/-! DEFINITION. The physical address map and its decoding (R30 to R36), the mapping of DRAM lines to channels (R26, R238,
R239, R248), and who owns a line (R297, R300). Lines are physical address bits [51:6]. -/

namespace Sys2Proof.Machine

/-- The regions of R30. -/
inductive PaKind where
  | dram (pkg : Nat)
  | pcie
  | cs (pkg off : Nat)
  | reserved
  deriving DecidableEq, Repr

/-- Step 1 and 2 of R32 for DRAM and Control Space. -/
def paKind (pa : Nat) : PaKind :=
  let pa := pa % 2 ^ 52
  if pa < 2 ^ 46 then .dram (pa / 2 ^ 43)
  else if pa < 0x1000000000000 then .reserved
  else if pa < 0xFF00000000000 then .pcie
  else if pa < 0xFF00000000000 + 8 * 2 ^ 32 then .cs ((pa - 0xFF00000000000) / 2 ^ 32) (pa % 2 ^ 32)
  else .reserved

/-- The address lies in the DRAM region of some package. -/
def isDram (pa : Nat) : Bool := match paKind pa with | .dram _ => true | _ => false

/-- R34: this package is always in its own system; another is while it is admitted. -/
def State.inSystem (s : State) (pkg : Nat) : Bool := pkg = s.pkg || bit (s.f R.SYS_STAT F.SYS_STAT_ADMITTED) pkg

/-- Usable lines of a channel (MC_MAP). -/
def State.usable (s : State) (c : Nat) : Nat := s.f (R.MC_MAP c) F.MC_MAP_USABLE_MIB * 2 ^ 14

def State.groupUsable (s : State) (g : Nat) : Nat := sumOf ((List.range 4).map fun i => s.usable (4 * g + i))

/-- U in lines (R31, R238). -/
def State.usableDram (s : State) : Nat := sumOf ((List.range 4).map s.groupUsable)

def State.groupBase (s : State) (g : Nat) : Nat := s.f (R.MC_MAP (4 * g)) F.MC_MAP_GROUP_BASE_MIB * 2 ^ 14
def State.groupOrder (s : State) (g : Nat) : Nat := s.f (R.MC_CFG (4 * g)) F.MC_CFG_ORDER

/-- R239 order 3: the channel of the group that spans group offset a, and the offset in it. -/
def spanOf (us : List Nat) (a i : Nat) : Nat × Nat :=
  match us with
  | [] => (i - 1, a)
  | u :: r => if a < u then (i, a) else spanOf r (a - u) (i + 1)

/-- R239 on line numbers: channel within the group and channel-local line of group offset a. -/
def mapOrder (order : Nat) (us : List Nat) (a : Nat) : Nat × Nat :=
  match order with
  | 0 => (a / 4 % 4, a / 16 * 4 + a % 4)
  | 3 => spanOf us a 0
  | _ => (a / 64 % 4, a / 256 * 64 + a % 64)

/-- The channel and channel-local line of an offset (in lines) in this package's window; none where it is unbacked. -/
def State.chanOf (s : State) (off : Nat) : Option (Nat × Nat) :=
  match (List.range 4).find? fun g => s.groupBase g ≤ off && off < s.groupBase g + s.groupUsable g with
  | none => none
  | some g =>
    let (c, l) := mapOrder (s.groupOrder g) ((List.range 4).map fun i => s.usable (4 * g + i)) (off - s.groupBase g)
    some (4 * g + c, l)

/-- The package a DRAM line belongs to (R30). -/
def pkgOfLine (line : Nat) : Nat := line / 2 ^ 37 % 8
def offOfLine (line : Nat) : Nat := line % 2 ^ 37
def State.lineOf (s : State) (off : Nat) : Nat := s.pkg * 2 ^ 37 + off

/-- The home hub of a line (R26). Which half of another package holds a line follows from that package's memory map, which this
package's state does not hold: a free value (log entry 12). An unbacked line of this package is answered at HUB-A. -/
def State.homeHub (s : State) (line : Nat) : Nat :=
  if pkgOfLine line = s.pkg then
    match s.chanOf (offOfLine line) with
    | some (c, _) => hubOfChan c
    | none => 0
  else (Config.farHome (pkgOfLine line) (offOfLine line)).toNat

/-- The region entry that holds a line of this package's DRAM. Region addresses are physical, in units of 2 MiB. -/
def State.regionOf (s : State) (line : Nat) : Option Nat :=
  (List.range 64).find? fun r => s.f (R.MR_BASE 0 r) F.MR_BASE_VALID = 1
    && s.f (R.MR_BASE 0 r) F.MR_BASE_BASE * 2 ^ 15 ≤ line
    && line < (s.f (R.MR_BASE 0 r) F.MR_BASE_BASE + s.f (R.MR_SIZE 0 r) F.MR_SIZE_SIZE) * 2 ^ 15

/-- The partition that owns a line of this package: its region's, or 0 (R297). -/
def State.lineOwner (s : State) (line : Nat) : Nat :=
  match s.regionOf line with
  | some r => s.f (R.MR_BASE 0 r) F.MR_BASE_PART
  | none => 0

/-- The PCIe window that holds an address (R36). -/
def State.windowOf (s : State) (pa : Nat) : Option WindowRec :=
  s.boot.cfg.windows.find? fun w => w.base ≤ pa && pa < w.base + w.size

/-- Step 3 of R32: the record of an access whose address decodes to no backed target (R33, R34). For an assigned PCIe window of a
package that is not in the system, which R34 does not name, it is PA_NO_PACKAGE: DESIGN CHOICE, log entry 79. What another package's DRAM
window backs is found at its home. -/
def State.undecoded (s : State) (pa : Nat) : Option ECode :=
  match paKind pa with
  | .dram p =>
    if !s.inSystem p then some E.PA_NO_PACKAGE
    else if p = s.pkg && (s.chanOf (offOfLine (pa / 64))).isNone then some E.PA_UNMAPPED
    else none
  | .pcie => match s.windowOf pa with
    | none => some E.PA_UNMAPPED
    | some w => if s.inSystem w.pkg then none else some E.PA_NO_PACKAGE
  | .cs p _ => if s.inSystem p then none else some E.PA_NO_PACKAGE
  | .reserved => some E.PA_UNMAPPED

/-! ## Links (R25) -/

/-- The link of an end: 21 is HUB-B's end of the hub bridge, 20 (R295). -/
def linkOf (e : Nat) : Nat := if e = 21 then 20 else e

def State.linkActive (s : State) (l : Nat) : Bool := s.f (R.LINK_STAT l) F.LINK_STAT_STATE = 5

/-- The half a link's ends belong to, for the laser tiles (R268). -/
def halfOf (l : Nat) : Nat := if l < 8 then l / 4 else if l < 20 then (l - 8) / 6 else 2

/-- The link pauses for a laser switch (R269); the hub bridge has transmitters in both halves. -/
def State.paused (s : State) (l : Nat) : Bool :=
  if l = 20 then s.links.pause != [] else s.links.pause.contains (halfOf l)

/-- The link carries flits now. -/
def State.linkCarries (s : State) (l : Nat) : Bool := s.linkActive l && !s.paused l

/-! ## The DRAM location of a channel-local line (R240) -/

/-- Lines per package rank of a channel. -/
def State.rankLines (s : State) (c : Nat) : Nat :=
  let n := max 1 (s.f (R.MC_INFO c) F.MC_INFO_MODULES * s.f (R.MC_INFO c) F.MC_INFO_PRANKS)
  s.f (R.MC_INFO c) F.MC_INFO_CAP_GIB * 2 ^ 24 / n

/-- The package rank is the most significant field, taken by division. -/
def State.rankOf (s : State) (c l : Nat) : Nat := if s.rankLines c = 0 then 0 else l / s.rankLines c
def subchOf (l : Nat) : Nat := l % 2

/-- Rows of a bank of a device, and dies of a stack, by MC_INFO's DENSITY and STACK. The geometry of an x4 device, 2^7 bursts in a row, 8
bank groups of 4 banks, and 2^16 rows at 16 Gb, is JESD79-5's: PRESUMED, log entry 87. -/
def State.rowsOf (s : State) (c : Nat) : Nat := (s.f (R.MC_INFO c) F.MC_INFO_DENSITY + 2) * 2 ^ 15
def State.diesOf (s : State) (c : Nat) : Nat := 2 ^ s.f (R.MC_INFO c) F.MC_INFO_STACK

/-- Where a channel-local line lies (R240). The package rank counts the ranks of both modules, in slot order. -/
structure DramLoc where
  subch : Nat
  col : Nat
  bankGroup : Nat
  bank : Nat
  row : Nat
  die : Nat
  rank : Nat
  deriving DecidableEq, Repr

/-- The DRAM fields of channel-local line l, by the order of the channel's group (R240). -/
def State.dramLoc (s : State) (c l : Nat) : DramLoc :=
  let a := l % s.rankLines c / 2
  let rows := s.rowsOf c
  let dies := s.diesOf c
  let b := a / 2 ^ 7
  if s.groupOrder (c / 4) = 2 then
    { subch := subchOf l, col := a % 2 ^ 7, row := b % rows, die := b / rows % dies, bankGroup := b / rows / dies % 8,
      bank := b / rows / dies / 8 % 4, rank := s.rankOf c l }
  else
    { subch := subchOf l, col := a % 2 ^ 7, bankGroup := b % 8, bank := b / 8 % 4, row := b / 32 % rows, die := b / 32 / rows % dies,
      rank := s.rankOf c l }

/-! ## Pages and parity slots (R247, R248) -/

def State.carve (s : State) (c : Nat) : Nat := s.f (R.MC_CFG c) F.MC_CFG_CARVE_S

/-- The group-local page of an offset, and its line within the page; for order 3 the page is its channel's own. -/
def State.pageOf (s : State) (off : Nat) : Option (Nat × Nat × Nat) :=
  match s.chanOf off with
  | none => none
  | some (c, l) =>
    let g := c / 4
    if s.groupOrder g = 3 then some (c, l / 64, l % 64)
    else some (4 * g, (off - s.groupBase g) / 64, (off - s.groupBase g) % 64)

/-- The offsets of the 64 lines of the page that holds an offset. -/
def pageLines (off : Nat) : List Nat := (List.range 64).map fun i => off / 64 * 64 + i

/-- The channel and channel-local line of row j of page P; c is the channel (order 3) or the group's first. -/
def State.paritySlot (s : State) (c P j : Nat) : Nat × Nat :=
  if s.groupOrder (c / 4) = 3 then (c, s.usable c + (P * s.carve c + j))
  else
    let q := P * s.carve c + j
    (4 * (c / 4) + q % 4, s.usable (4 * (c / 4) + q % 4) + q / 4)

/-- Page-code strength of a line's region, 0 outside every region. -/
def State.strengthOf (s : State) (line : Nat) : Nat :=
  match s.regionOf line with
  | some r => s.f (R.MR_BASE 0 r) F.MR_BASE_STRENGTH
  | none => 0

end Sys2Proof.Machine
end

