-- ==== Sys2Proof/Machine/ArbOps.lean ====
section
/-! DEFINITION. Arbiters (R195 to R199, R202): rounds, backoff, masks. -/

namespace Sys2Proof.Machine

def rReq (a n : Nat) : Nat := R.ARB_REQ a n
def State.arbH (s : State) (a : Nat) : ArbH := s.fab.arbs.get a
def State.updArb (s : State) (a : Nat) (f : ArbH → ArbH) : State := s.onFab fun q => { q with arbs := q.arbs.upd a f }

/-- An instance with a regulator (R202). -/
def hasReg (a : Nat) : Bool := a < 24 || (42 ≤ a && a < 50)

/-- R202: the requesters of an instance. -/
def State.arbNreq (s : State) (a : Nat) : Nat :=
  if a < 24 then 10 else if 42 ≤ a && a < 50 then (if s.f (R.PCIE_INFO (a - 42)) F.PCIE_INFO_MODE = 2 then 8 else 4) else 16

/-- Hub source ports of the requesters (R202). -/
def hubPortArb (a : Nat) : Bool := 50 ≤ a

/-- End the wait recorded for a requester. -/
def State.waitEnd (s : State) (a n : Nat) : State :=
  let s := s.updArb a fun h => { h with waitStart := h.waitStart.put n 0 }
  if s.f (R.ARB_STAT a) F.ARB_STAT_WAIT_REQ = n then s.setF (R.ARB_STAT a) F.ARB_STAT_WAIT_OPEN 0 else s

/-- Record a wait of n cycles of requester r. -/
def State.waitNote (s : State) (a r n : Nat) (isOpen : Bool) : State :=
  let n := min n F.ARB_STAT_WAIT_MAX.max
  if s.f (R.ARB_STAT a) F.ARB_STAT_WAIT_MAX < n then
    ((s.setF (R.ARB_STAT a) F.ARB_STAT_WAIT_MAX n).setF (R.ARB_STAT a) F.ARB_STAT_WAIT_REQ r).setF (R.ARB_STAT a)
      F.ARB_STAT_WAIT_OPEN isOpen.toNat
  else s

/-- A requester may be granted: not masked, not in backoff (R196). -/
def State.arbOpen (s : State) (a n : Nat) : Bool :=
  s.f (rReq a n) F.ARB_REQ_MASKED = 0 && s.f (rReq a n) F.ARB_REQ_WAIT_LEFT = 0

/-- The round's winner: the highest reserved flag, then E, then the first at or after the pointer. -/
def State.arbWinner (s : State) (a : Nat) (cand : List (Nat × Bool)) : Option Nat :=
  let rsv := cand.any (·.2)
  let c := cand.filter fun r => r.2 = rsv
  let e := maxOf (c.map fun r => s.f (rReq a r.1) F.ARB_REQ_ECLASS)
  let top := (c.filter fun r => s.f (rReq a r.1) F.ARB_REQ_ECLASS = e).map (·.1)
  let p := s.f (R.ARB_RR a) F.ARB_RR_POINTER
  ((List.range 16).map fun i => (p + i) % 16).find? fun n => top.contains n

/-- A requester loses: its loss count, E and backoff (R196, R197). -/
def State.arbLost (s : State) (a r : Nat) : State :=
  let q := rReq a r
  let losses := min (s.f q F.ARB_REQ_LOSSES + 1) 0xFFFF
  let s := s.setF q F.ARB_REQ_LOSSES losses
  let ceil := max (s.f q F.ARB_REQ_CLASS) (s.f q F.ARB_REQ_CEIL)
  let s := s.setF q F.ARB_REQ_ECLASS (min (s.f q F.ARB_REQ_ECLASS + 1) ceil)
  if s.f q F.ARB_REQ_BACKOFF = 1 then s.setF q F.ARB_REQ_WAIT_LEFT (min (8 * 2 ^ min (losses - 1) 7) 1024) else s

/-- A requester is granted: its E and loss count start again. -/
def State.arbWon (s : State) (a r : Nat) : State :=
  (s.setF (rReq a r) F.ARB_REQ_ECLASS (s.f (rReq a r) F.ARB_REQ_CLASS)).setF (rReq a r) F.ARB_REQ_LOSSES 0

/-- A loser of a round (R196). -/
def State.arbLose (s : State) (a r cycle : Nat) : State :=
  let s := s.arbLost a r
  let s := s.updArb a fun h => if h.waitStart.get r = 0 then { h with waitStart := h.waitStart.put r (cycle + 1) } else h
  s.waitNote a r (cycle + 1 - (s.arbH a).waitStart.get r) true

/-- Hold a round (R196): the winner, if any. -/
def State.arbRound (s : State) (a : Nat) (reqs : List (Nat × Bool)) (cycle : Nat) : State × Option Nat :=
  let reqs := reqs.filter fun r => r.1 < s.arbNreq a
  let cand := reqs.filter fun r => s.arbOpen a r.1
  let s := s.setF (R.ARB_STAT a) F.ARB_STAT_RSV_MAXQ
    (max (s.f (R.ARB_STAT a) F.ARB_STAT_RSV_MAXQ) (min (countOf reqs (·.2)) 255))
  let s := each (List.range 16) (fun s n =>
    let el := cand.any fun r => r.1 = n
    let s := s.setF (rReq a n) F.ARB_REQ_ELIGIBLE el.toNat
    if el || (s.arbH a).waitStart.get n = 0 then s else s.waitEnd a n) s
  if s.f (R.ARB_RR a) F.ARB_RR_HELD = 1 then (s, none)
  else match s.arbWinner a cand with
    | none => (s, none)
    | some w =>
      let rr := R.ARB_RR a
      let s := ((s.setF rr F.ARB_RR_POINTER (w + 1)).setF rr F.ARB_RR_OWNER w).setF rr F.ARB_RR_HELD 1
      let q := rReq a w
      let s := s.arbWon a w
      let st := (s.arbH a).waitStart.get w
      let s := if st = 0 then s else (s.waitNote a w (cycle + 1 - st) false).waitEnd a w
      let left := if s.f q F.ARB_REQ_UNIT = 1 then s.f q F.ARB_REQ_BURST else 0
      let s := s.updArb a fun h => { h with grantAt := cycle, burstLeft := left, served := false }
      (each ((cand.map (·.1)).filter fun n => n != w) (fun s r => s.arbLose a r cycle) s, some w)

/-- Mask a requester, or lift its mask (R198). -/
def State.arbMask (s : State) (a n : Nat) (on : Bool) : State :=
  let q := rReq a n
  if !on then s.setF q F.ARB_REQ_MASKED 0
  else
    let s := (s.setF q F.ARB_REQ_MASKED 1).setF q F.ARB_REQ_ECLASS (s.f q F.ARB_REQ_CLASS)
    let s := ((s.setF q F.ARB_REQ_LOSSES 0).setF q F.ARB_REQ_WAIT_LEFT 0).setF q F.ARB_REQ_ELIGIBLE 0
    let s := if (s.arbH a).waitStart.get n = 0 then s else s.waitEnd a n
    if s.f (R.ARB_RR a) F.ARB_RR_HELD = 1 && s.f (R.ARB_RR a) F.ARB_RR_OWNER = n then s.setF (R.ARB_RR a) F.ARB_RR_HELD 0 else s

/-! ## Requesters (R202) -/

def State.seg (s : State) (k : Nat) : SegH := s.pcie.segs.get k

/-- The port is a Service Endpoint (R377: it has no slot registers). -/
def State.isSep (s : State) (port : Nat) : Bool := s.f (R.PCIE_INFO port) F.PCIE_INFO_MODE = 2

/-- The segment whose first DMA request a home's answer at hub h belongs to. -/
def State.dmaOf (s : State) (h : Nat) (m : CMsg) : Option Nat :=
  (List.range 32).find? fun k => k / 16 = h && match (s.seg k).dma with
    | q :: _ => q.txn = m.txn && q.line = m.line
    | [] => false

/-- The lowest-numbered fabric port, an ACTIVE one first, whose peer is a package. -/
def State.peerPort (s : State) (pkg : Nat) : Option Nat :=
  let leads (n : Nat) : Bool := s.f (R.FP_PEER n) F.FP_PEER_CONNECTED = 1 && s.f (R.FP_PEER n) F.FP_PEER_PEER_PKG = pkg
  ((List.range 8).find? fun n => leads n && s.linkActive n).orElse fun _ => (List.range 8).find? leads

/-- The hub-port arbiters of a hub. -/
def hubArbs (h : Nat) : List Nat := (List.range 4).map (fun i => 50 + 4 * h + i) ++ [58 + h, 60 + h, 62 + h]

/-- The hub source port (R202) by which a message comes to hub h: its half's die links, the bridge, the fabric port that leads to another
package (where none does, it comes over two hops, and the first port is taken: DESIGN CHOICE, log entry 80), the PCIe port whose DMA request it
is, the hub's internal units. -/
def State.srcPort (s : State) (h : Nat) (m : CMsg) : Nat :=
  if m.src.pkg != s.pkg then match s.peerPort m.src.pkg with
    | some n => if hubOfPort n = h then 7 + n % 4 else 6
    | none => 7
  else match unitDie m.src.unit with
    | some d => if hubOfDie d = h then d % 6 else 6
    | none => if m.src.unit != 0xFC + h then 6 else match s.dmaOf h m with
      | some k => 11 + k / 4 % 4
      | none => 15

/-- A message of requester n meets arbiter a: it passes while no other requester holds the grant; a grant that covers one message
ends with it (R199). none: it waits. -/
def State.arbPass (s : State) (a n : Nat) : Option State :=
  let rr := R.ARB_RR a
  if s.f rr F.ARB_RR_HELD = 0 then some s
  else if s.f rr F.ARB_RR_OWNER != n then none
  else some (if s.f (rReq a n) F.ARB_REQ_BURST = 0 then s.setF rr F.ARB_RR_HELD 0 else s.updArb a fun h => { h with served := true })

/-- The arbiter and requester number of a core at its Die Cache port, and of a PCIe segment or function at its DMA port (R202). -/
def corePort (c : Nat) : Nat × Nat := (2 * dieOf c + localOf c / 10, localOf c % 10)

/-- Mask a core's requester, or lift its mask (R198). -/
def State.maskCore (s : State) (c : Nat) (on : Bool) : State := s.arbMask (corePort c).1 (corePort c).2 on

/-- Mask a die's requesters: its own ports' cores and its die link as a source of its hub. The mask of a FENCED core is not lifted. -/
def State.arbMaskDie (s : State) (d : Nat) (on : Bool) : State :=
  let s := each (List.range 10) (fun s n => (s.arbMask (2 * d) n (on || s.coreState (20 * d + n) = 3)).arbMask (2 * d + 1) n
    (on || s.coreState (20 * d + 10 + n) = 3)) s
  each (hubArbs (hubOfDie d)) (fun s a => s.arbMask a (d % 6) on) s

end Sys2Proof.Machine
end

