-- ==== Sys2Proof/Machine/CarillonOps.lean ====
section
/-! DEFINITION. The Carillon (R106 to R114): entries, delivery, redelivery, and presentation to a core. -/

namespace Sys2Proof.Machine

/-- The other member of a twin pair (R27). -/
def mirror (c : Nat) : Nat := if c < 120 then c + 120 else c - 120

/-- The number of the logical core a core belongs to (R89). -/
def State.logical (s : State) (p c : Nat) : Nat := if s.isTwin p then c % 120 else c

/-- A core in RUN or HALT (R101). -/
def State.alive (s : State) (c : Nat) : Bool := s.coreState c = 1 || s.coreState c = 2

/-- The members of a logical core that take deliveries: those in RUN or HALT (R108, R113). -/
def State.members (s : State) (p c : Nat) : List Nat :=
  if s.isTwin p then [c % 120, c % 120 + 120].filter s.alive else [c]

/-- R108: a logical core is FENCED or OFF when no member runs. -/
def State.logicalUp (s : State) (p c : Nat) : Bool := (s.members p c).any s.alive

/-- The partition that owns a core of any package, from the effective configuration for other packages (R297). -/
def State.ownerOfCore (s : State) (pkg c : Nat) : Nat :=
  if pkg = s.pkg then s.corePart c
  else match s.boot.cfg.coreOwners.find? fun e => e.1 = pkg with
    | some e => e.2.getD c 0
    | none => 0

/-- The lowest-numbered core of p in RUN in this package; a twin pair has its logical number (R89). -/
def State.lowestRun (s : State) (p : Nat) : Option Nat :=
  ((allCores.filter fun c => s.corePart c = p && s.coreState c = 2).map (s.logical p)).min?

/-- The state of a core of another package as its notices last told it: RUN from its run notice, FENCED with its die, OFF with its package;
one never heard of is in HALT. UNVERIFIED, log entry 84: no notice tells of a stop. -/
def State.farState (s : State) (pkg c : Nat) : Nat :=
  if !bit (s.f R.SYS_STAT F.SYS_STAT_ADMITTED) pkg || bit (s.f R.REST_STAT F.REST_STAT_RESTING) pkg then 0
  else match s.cores.far.get (256 * pkg + c) with
    | 0 => 1
    | n + 1 => n

def State.farUp (s : State) (pkg c : Nat) : Bool := s.farState pkg c = 1 || s.farState pkg c = 2

def State.setFar (s : State) (pkg c st : Nat) : State := s.onCores fun k => { k with far := k.far.put (256 * pkg + c) (1 + st) }

/-- Nothing is known any more of a package's cores. -/
def State.dropFar (s : State) (pkg : Nat) : State := s.onCores fun k => { k with far := k.far.filter fun e => e.1 / 256 != pkg }

/-- The lowest-numbered core of p in RUN in package tgt, where that is another and has one, else in the lowest-numbered other package
that has one. -/
def State.farRun (s : State) (p tgt : Nat) : Option (Nat × Nat) :=
  let l := (s.cores.far.map fun e => (e.1 / 256, e.1 % 256)).filter fun e => s.farState e.1 e.2 = 2 && s.ownerOfCore e.1 e.2 = p
  match l.find? fun e => e.1 = tgt with
  | some e => some e
  | none => l.head?

/-- Rule 4 of R108: the core that takes a vector in place of one of package tgt; elsewhere is the candidate in other packages. -/
def State.redirect (s : State) (p tgt : Nat) (elsewhere : Option (Nat × Nat)) : Option (Nat × Nat) :=
  match s.lowestRun p, elsewhere with
  | some c, none => some (s.pkg, c)
  | none, e => e
  | some c, some e =>
    if tgt = s.pkg then some (s.pkg, c) else if e.1 = tgt || e.1 < s.pkg then some e else some (s.pkg, c)

/-- Put a vector into a core's pending set; one that is pending merges (R109) and keeps the PRIO and class of its first delivery, also where
its entry has been written since: DESIGN CHOICE, log entry 90. -/
def State.pend (s : State) (c : Nat) (v : PendVec) : State :=
  s.updCoreH c fun h => if h.pend.any fun q => q.vec = v.vec then h else { h with pend := h.pend ++ [v] }

/-- The delivery count D of R94. -/
def TwinH.stamp (t : TwinH) : Nat := max t.retLower t.retUpper + 1024

/-- HUB-A stamps an input to a twin pair, to be applied by the members named (R94). -/
def State.twinInput (s : State) (c kind arg : Nat) (prio : Nat) (rsv : Bool) : State :=
  let pr := c % 120
  s.onCores fun k => { k with twins := k.twins.upd pr fun t =>
    { t with inputs := t.inputs ++ [{ d := t.stamp, kind := kind, arg := arg, prio := prio, rsv := rsv,
                                      upd := none, lower := s.alive pr, upper := s.alive (pr + 120) }] } }

/-- Bytes of a line change under a pair whose members may hold it: each takes them at the same count (R94). -/
def State.twinUpdate (s : State) (c line : Nat) (mask : Mask) (data : Line) : State :=
  let pr := c % 120
  s.onCores fun k => { k with twins := k.twins.upd pr fun t =>
    { t with inputs := t.inputs ++ [{ d := t.stamp, kind := 3, arg := line, prio := 0, rsv := false, upd := some (mask, data),
                                      lower := s.alive pr, upper := s.alive (pr + 120) }] } }

/-- A pair whose members compare: twin mode, both members alive. -/
def State.paired (s : State) (p c : Nat) : Bool := s.isTwin p && s.alive (c % 120) && s.alive (c % 120 + 120)

/-- Rule 5 of R108: the vector goes to a core of this package or of another. -/
def State.place (s : State) (p v pkg c prio : Nat) (rsv : Bool) : State :=
  if pkg != s.pkg then s.send (.vector pkg c p v prio rsv)
  else if s.paired p c then s.twinInput c 0 v prio rsv
  else each (s.members p c) (fun s m => s.pend m { vec := v, prio := prio, rsv := rsv }) s

/-- R111: the class a delivery travels in. More than 64 reserved-class deliveries in a beat go as normal class. -/
def State.classOf (s : State) (p : Nat) (rsv late : Bool) : State × Bool :=
  if !rsv then (s, false)
  else if 64 ≤ s.cores.rsvSent.get p then (s.incF (R.CAR_STAT p) F.CAR_STAT_RSV_OVER, false)
  else (when late (fun s => s.incF (R.CAR_STAT p) F.CAR_STAT_RSV_LATE)
          (s.onCores fun k => { k with rsvSent := k.rsvSent.put p (k.rsvSent.get p + 1) }), true)

def State.latch (s : State) (p v : Nat) : State := s.setF (R.CAR_VEC p v) F.CAR_VEC_LATCHED 1

/-- A link between the Carillon, which stands at HUB-A, and a core is retraining (R111): its die link or the hub bridge on the way to it, or
every port to its package. -/
def State.lateTo (s : State) (pkg c : Nat) : Bool :=
  if pkg = s.pkg then !s.linkActive (8 + dieOf c) || (120 ≤ c && !s.linkActive 20)
  else !(List.range 8).any fun n => s.linkActive n && s.f (R.FP_PEER n) F.FP_PEER_CONNECTED = 1 && s.f (R.FP_PEER n) F.FP_PEER_PEER_PKG = pkg

/-- Rules 4 and 5 of R108 for target (pkg, c), which belongs to p. The flag says that the vector was delivered.
A fenced partition's deliveries are latched (R421). late: a link on the way to the target is retraining; up: a target in another package is in
RUN or HALT. REDIRECT rises also where no core
of p runs and the vector is only latched: DESIGN CHOICE, log entry 84. -/
def State.carDeliver (s : State) (p v pkg c : Nat) (late up : Bool) (elsewhere : Option (Nat × Nat)) : State × Bool :=
  let e := R.CAR_VEC p v
  let prio := s.f e F.CAR_VEC_PRIO
  if s.partFenced p then (s, false)
  else if (if pkg = s.pkg then s.logicalUp p c else up) then
    let (s, cls) := s.classOf p (s.f e F.CAR_VEC_RSV = 1) late
    (s.place p v pkg c prio cls, true)
  else match s.redirect p pkg elsewhere with
    | some (q, d) =>
      let (s, cls) := s.classOf p (s.f e F.CAR_VEC_RSV = 1) (s.lateTo q d)
      ((s.incF (R.CAR_STAT p) F.CAR_STAT_REDIRECT).place p v q d prio cls, true)
    | none => (s.incF (R.CAR_STAT p) F.CAR_STAT_REDIRECT, false)

/-- The target of an entry: TGT_PKG and TGT_CORE, or the overflowing core for vector 3 with TO_SOURCE (R108). -/
def State.carTarget (s : State) (p v : Nat) (src : Option Nat) : Nat × Nat :=
  let e := R.CAR_VEC p v
  match src with
  | some c => if v = 3 && s.f e F.CAR_VEC_TO_SOURCE = 1 then (s.pkg, c)
              else (s.f e F.CAR_VEC_TGT_PKG, s.f e F.CAR_VEC_TGT_CORE)
  | none => (s.f e F.CAR_VEC_TGT_PKG, s.f e F.CAR_VEC_TGT_CORE)

/-- Vectors 2 and 8 to 31 have no source and are never delivered (R107). -/
def noSource (v : Nat) : Bool := v = 2 || (8 ≤ v && v < 32)

/-- The core whose overflow the latched entry of vector 3 stands for. -/
def State.latchedSrc (s : State) (p v : Nat) : Option Nat :=
  if v != 3 then none
  else match s.cores.ovfSrc.get p with
    | 0 => none
    | n + 1 => some n

/-- DETAIL of INT_BAD_VECTOR and INT_XPART (R415). -/
def intDetail (v tgt : Nat) : Nat := v % 2 ^ 11 + tgt % 256 * 2 ^ 16

/-- The rules of R108 for a source message. A message that meets a LATCHED entry merges into it. -/
def State.carMessage (s : State) (p v : Nat) (src : Option Nat) (late up : Bool) (elsewhere : Option (Nat × Nat)) : State :=
  let e := R.CAR_VEC p v
  let s := if v = 3 && s.f e F.CAR_VEC_LATCHED = 0 then s.onCores fun k => { k with ovfSrc := k.ovfSrc.put p ((src.map (· + 1)).getD 0) } else s
  if noSource v then s
  else if s.f (R.CAR_CTL p) F.CAR_CTL_EN = 0 || s.f e F.CAR_VEC_EN = 0 then s
  else if s.f e F.CAR_VEC_LATCHED = 1 then s
  else if s.f e F.CAR_VEC_MASK = 1 then s.latch p v
  else
    let (pkg, c) := s.carTarget p v src
    if 240 ≤ c || s.ownerOfCore pkg c != p then
      ((s.latch p v).incF (R.CAR_STAT p) F.CAR_STAT_BAD_TARGET).record E.INT_XPART 2 0 [p] none (intDetail v c)
    else match s.carDeliver p v pkg c late up elsewhere with
      | (s, true) => s
      | (s, false) => s.latch p v

/-- The cores of inter-processor interrupts that LATCHED of an entry stands for (R112). -/
def State.ipiCores (s : State) (p v : Nat) : List Nat := (s.cores.ipiLatch.filter fun e => e.1 = p && e.2.1 = v).map (·.2.2)

/-- Rules 4 and 5 of R108 for an inter-processor interrupt for core c of this package (R112): an entry that no source message has latched
stands for it where p has no core in RUN. -/
def State.ipiGo (s : State) (p v c : Nat) : State :=
  match s.carDeliver p v s.pkg c (s.lateTo s.pkg c) true (s.farRun p s.pkg) with
  | (s, true) => s
  | (s, false) =>
    if s.f (R.CAR_VEC p v) F.CAR_VEC_LATCHED = 1 && s.ipiCores p v = [] then s
    else (s.latch p v).onCores fun k => { k with ipiLatch := addOnce k.ipiLatch (p, v, c) }

/-- Recheck a LATCHED entry from rule 2 onward (R108); one that stands for inter-processor interrupts goes to their own cores (R112). -/
def State.carRecheck (s : State) (p v : Nat) : State :=
  let e := R.CAR_VEC p v
  if s.f e F.CAR_VEC_LATCHED = 0 || s.f e F.CAR_VEC_MASK = 1 || noSource v then s
  else match s.ipiCores p v with
  | [] =>
    let (pkg, c) := s.carTarget p v (s.latchedSrc p v)
    if 240 ≤ c || s.ownerOfCore pkg c != p then s
    else match s.carDeliver p v pkg c (s.lateTo pkg c) (s.farUp pkg c) (s.farRun p pkg) with
      | (s, true) => s.setF e F.CAR_VEC_LATCHED 0
      | (s, false) => s
  | cs =>
    let s := (s.setF e F.CAR_VEC_LATCHED 0).onCores fun k => { k with ipiLatch := k.ipiLatch.filter fun e => !(e.1 = p && e.2.1 = v) }
    each cs (fun s c => s.ipiGo p v c) s

/-- An inter-processor interrupt at the target's package (R112): rules 1, 2, 4 and 5 with the core it names. One that meets a LATCHED entry
with MASK = 0 is delivered, not merged: DESIGN CHOICE, log entry 84. -/
def State.carIpi (s : State) (p v c : Nat) : State :=
  let e := R.CAR_VEC p v
  if s.f (R.CAR_CTL p) F.CAR_CTL_EN = 0 || s.f e F.CAR_VEC_EN = 0 || noSource v then s
  else if s.f e F.CAR_VEC_MASK = 1 then s.updCoreH (s.logical p c) fun h => { h with held := addOnce h.held v }
  else s.ipiGo p v c

/-- Deliver the held interrupts of a vector, each to its own core (R112). -/
def State.releaseHeld (s : State) (p v : Nat) : State :=
  each (s.coresOf p) (fun s c =>
    if (s.coreH c).held.contains v then
      (s.updCoreH c fun h => { h with held := h.held.filter (fun x => x != v) }).ipiGo p v c
    else s) s

/-- An inter-processor interrupt for another package goes there with priority 16, which stands for its entry's own. -/
def IPI_PRIO : Nat := 16

/-- The held interrupts of core c's logical core move to the core that rule 4 of R108 chooses (R114); one in another package receives them
anew, under its own entries. Without a core in RUN they are discarded. -/
def State.moveHeld (s : State) (c : Nat) : State :=
  let p := s.corePart c
  let held := (s.coreH (s.logical p c)).held
  let s := s.updCoreH (s.logical p c) fun k => { k with held := [] }
  match s.redirect p s.pkg (s.farRun p s.pkg) with
  | some (q, d) =>
    if q = s.pkg then s.updCoreH d fun k => { k with held := held.foldl addOnce k.held }
    else each held (fun s v => s.send (.vector q d p v IPI_PRIO false)) s
  | none => s

/-- R114: core c has left RUN or HALT for FENCED or OFF. Its pending vectors go to the core rule 4 chooses, its active
ones are discarded, its held ones move. A twin partner that continues keeps both sets. -/
def State.redeliver (s : State) (c : Nat) : State :=
  let p := s.corePart c
  let h := s.coreH c
  let s := s.setCoreH c { h with pend := [], active := [] }
  if s.isTwin p && s.alive (mirror c) then s
  else
    each h.pend (fun s q =>
      let s := s.incF (R.CAR_STAT p) F.CAR_STAT_REDIRECT
      match s.redirect p s.pkg (s.farRun p s.pkg) with
      | some (k, d) =>
        let (s, cls) := s.classOf p q.rsv (s.lateTo k d)
        s.place p q.vec k d q.prio cls
      | none => s.latch p q.vec) (s.moveHeld c)

/-- A better candidate for presentation: higher PRIO, then lower vector (R109). -/
def PendVec.before (a b : PendVec) : Bool := b.prio < a.prio || (a.prio = b.prio && a.vec < b.vec)

def bestVec (l : List PendVec) : Option PendVec :=
  l.foldl (fun b v => match b with
    | none => some v
    | some w => if v.before w then some v else some w) none

/-- The vector presented to a core (R109). -/
def State.presented (s : State) (c : Nat) : Option PendVec :=
  if s.f (R.INT_CTL c) F.INT_CTL_EN = 0 then none
  else
    let h := s.coreH c
    bestVec (h.pend.filter fun v => s.f (R.INT_CTL c) F.INT_CTL_THRESHOLD ≤ v.prio && h.active.all fun a => a.prio < v.prio)

/-- The layout of INT_ACK and INT_PEND_TOP. -/
def intWord (v : Option PendVec) : Word :=
  match v with
  | none => 0
  | some q => BitVec.ofNat 64 (q.vec + q.prio * 2 ^ 12 + 2 ^ 16 + (if q.rsv then 2 ^ 17 else 0))

/-- The cores that hold the same sets as c: both members of a pair, else c alone (R113). -/
def State.sharers (s : State) (c : Nat) : List Nat :=
  if s.paired (s.corePart c) c then [c % 120, c % 120 + 120] else [c]

/-- An outcome to a core, or to both members of its pair (R91). -/
def State.coreReply (s : State) (c code : Nat) (data : Line := 0) : State :=
  each (s.sharers c) (fun s k => s.toCore k code data) s

/-- A core enters HALT from RUN, with translation off (R152). -/
def State.enterHalt (s : State) (c : Nat) : State := (s.setCoreState c 1).setF (R.XLAT_CTL c) F.XLAT_CTL_EN 0

/-- A core enters RUN: it starts executing at pc with the Perulan reset state, in which no register has a value that the debug port gave
it, and tells every Carillon (R81, R101, R102, R103, R108). -/
def State.enterRun (s : State) (c pc : Nat) : State :=
  let s := (s.setCoreState c 2).updCoreH c fun h => { h with pc := pc, retries := 0, flag := false, debugRegs := [] }
  s.send (.runNotice s.pkg c (s.corePart c))

end Sys2Proof.Machine
end

