-- ==== Sys2Proof/Machine/CsOps.lean ====
section
/-! DEFINITION. Access to Control Space: the order of the checks (R13, R14, R16, R41, R263, R296, R306, R421), the effect of a
write on each field (R17, R18), and what the requester sees. -/

namespace Sys2Proof.Machine

/-- The partition of a Service Endpoint function (R368). -/
def State.fnPart (s : State) (port f : Nat) : Nat := s.f (R.SEP_FN_INFO port f) F.SEP_FN_INFO_PART

/-- The partition an access is made for; the Service Cores act for partition 0 (R299). -/
def State.whoPart (s : State) : Who → Nat
  | .core pkg c part => if pkg.val = s.pkg then s.corePart c.val else part.val
  | .service _ => 0
  | .debug c => s.corePart c.val
  | .host port f => s.fnPart port.val f.val

/-- The outcome of an access at its requester. -/
def State.whoReply (s : State) (w : Who) (code : Nat) (v : Word := 0) : State :=
  match w with
  | .core pkg c _ => if pkg.val = s.pkg then s.coreReply c.val code (v.setWidth 512)
      else s.send (.remote pkg.val c.val code (v.setWidth 512))
  | .service _ => s
  | .debug _ => s.toCore DEBUG_PORT code (v.setWidth 512)
  | .host port f => if code = 3 || code = 4 then s else s.send (.host port.val f.val (if code = 0 then H_CPL else H_CA) (leBytes 8 v.toNat))

/-- Only a core in RUN issues accesses; of other packages' cores this package sees only the access. -/
def State.whoRuns (s : State) : Who → Bool
  | .core pkg c _ => if pkg.val = s.pkg then s.coreState c.val = 2 else !s.beat.isolated && !s.locked
  | _ => !s.locked

def whoService : Who → Bool
  | .service _ => true
  | _ => false

/-- The core of this package that makes the access. -/
def State.whoCore (s : State) : Who → Option Nat
  | .core pkg c _ => if pkg.val = s.pkg then some c.val else none
  | _ => none

/-- The core of this package that may use a register only its own core writes (R136, R173); in a twin partition either
member's block names the logical core (R89). -/
def State.ownBlk (s : State) (w : Who) (blk : Nat) : Option Nat :=
  match s.whoCore w with
  | some c => if c = blk || (s.isTwin (s.corePart c) && c % 120 = blk % 120) then some c else none
  | none => none

/-- The core blocks that hold one logical core's registers: both members' in a twin partition (R171). -/
def State.blkCores (s : State) (c : Nat) : List Nat := if s.isTwin (s.corePart c) then [c % 120, c % 120 + 120] else [c]

/-- The detecting unit of a failure found where the access is issued: its core, or HUB-A for another package's. -/
def State.whoUnit (s : State) (w : Who) : Nat × Nat :=
  match w with
  | .core pkg c _ => if pkg.val = s.pkg then (0, c.val) else (14, pkg.val)
  | .service h => (9, h.val)
  | .debug _ => (15, 15)
  | .host port f => (4, (if port.val = 3 then 32 else 40) + f.val)

/-- The unit that serves a block, as a record names it (R37, R413); the blocks both hubs serve are ordered at HUB-A (R39). -/
def servingUnit (b : Blk) (n : Nat) : Nat × Nat :=
  match b with
  | .die => (1, n)
  | .core => (1, n / 20)
  | .mc => (3, n)
  | .home => (2, n)
  | .pcie => (2, n / 4)
  | .fp => (5, n)
  | .dl => (6, n)
  | .arb => (10, n)
  | .assay => (15, n)
  | _ => (2, 0)

/-- The compute die that serves a block, if one does (R41, R202). -/
def servingDie (b : Blk) (n : Nat) : Option Nat :=
  match b with
  | .die => some n
  | .core => some (n / 20)
  | .arb => if n < 24 then some (n / 2) else none
  | _ => none

/-- The hub of a die (0-11) or hub (12, 13) number. -/
def hubOfHost (n : Nat) : Nat := if n < 12 then hubOfDie n else n - 12

/-- A block that both hubs serve, as two copies (R37, R39). -/
def bothHubs : Blk → Bool
  | .pkg | .hb | .part | .ring | .elog | .pwr | .mb => true
  | _ => false

/-- The hub in whose half a block is served (R37); HUB-A, which orders the writes (R39), for what both serve. -/
def blkHub (b : Blk) (n : Nat) : Nat :=
  if bothHubs b then 0
  else match b with
    | .arb => hubOfHost (arbHost n)
    | .assay => hubOfHost n
    | _ => match servingUnit b n with
      | (1, d) => hubOfDie d
      | (3, c) => hubOfChan c
      | (5, p) => hubOfPort p
      | (6, d) => hubOfDie d
      | (_, h) => h

/-- The hub in whose half a Control Space offset is served. -/
def csHub (off : Nat) : Nat :=
  match locate off with
  | some (b, n, _) => blkHub b n
  | none => 0

/-- The links between a core of this package and hub h: its die link, and the hub bridge to the other half (R25). -/
def ioLinks (c h : Nat) : List Nat := (8 + dieOf c) :: (if hubOfDie (dieOf c) = h then [] else [20])

/-- The hub in whose half a requester lies; another package's come through HUB-A, or to the hub that serves the block. -/
def State.whoHub (s : State) : Who → Nat
  | .core pkg c _ => if pkg.val = s.pkg then hubOfDie (dieOf c.val) else 0
  | .service h => h.val
  | .debug _ => 0
  | .host port _ => hubOfPort port.val

/-- The links that an access to a block crosses (R25, R39): from a core of this package its die link; the hub bridge where the requester and
what serves the block lie in different halves, and for every write of a block both hubs hold, whose copies both take it; the serving die's
link. A read of such a block is answered in the requester's half, and a Service Core's write to the training registers of the hub bridge goes to
its own hub's end alone (R295). A die's own blocks need no link. -/
def State.csLinks (s : State) (w : Who) (b : Blk) (n rel : Nat) (wr : Bool) : List Nat :=
  let last : List Nat := ((servingDie b n).map fun d => 8 + d).toList
  let far : Bool := match w with
    | .core pkg _ _ => pkg.val = s.pkg && s.whoHub w != blkHub b n
    | _ => s.whoHub w != blkHub b n
  let ownEnd : Bool := b = .hb && whoService w && 0x1000 ≤ rel
  let bridge : List Nat := if (if bothHubs b then wr && !(ownEnd && rel < 0x1018) else far) then [20] else []
  match s.whoCore w with
  | some c => if servingDie b n = some (dieOf c) then [] else (8 + dieOf c) :: bridge ++ last
  | none => bridge ++ last

/-- An access to an offset meets, on the way to the unit that serves it, a link that carries no flits (R276). -/
def State.csRetried (s : State) (w : Who) (off : Nat) (wr : Bool) : Bool :=
  match locate off with
  | none => false
  | some (b, n, rel) =>
    !((servingDie b n).any fun d => s.dieFenced d || s.dieOff d) && (s.csLinks w b n rel wr).any fun l => !s.linkCarries l

/-- A Control Space address of this package. -/
def State.csAddr (s : State) (off : Nat) : Nat := 0xFF00000000000 + s.pkg * 2 ^ 32 + off

/-! ## Rights (R306) -/

def State.ownsCoreOf (s : State) (p d : Nat) : Bool := (coresOfDie d).any fun c => s.corePart c = p

def State.ownsRegion (s : State) (p : Nat) : Bool := (List.range 64).any fun r =>
  s.f (R.MR_BASE 0 r) F.MR_BASE_VALID = 1 && s.f (R.MR_BASE 0 r) F.MR_BASE_PART = p

/-- The owner of a ring (R331). -/
def State.ringOwner (s : State) (r : Nat) : Nat :=
  if r % 4 < s.f (R.PART_INFO (r / 4)) F.PART_INFO_RINGS then r / 4 else 0

def State.segOwner (s : State) (port i : Nat) : Nat := s.f (R.SEG_STAT port i) F.SEG_STAT_OWNER

/-- R306 and the chapters it names: partition p may read (or write) the register at rel in instance n of a block. -/
def State.csRight (s : State) (p : Nat) (b : Blk) (n rel : Nat) (wr : Bool) : Bool :=
  let sys := s.hasSystem p
  let beat := sys || s.f (R.PART_INFO p) F.PART_INFO_BEAT = 1
  let mine := p != 0
  mine && match b, wr with
  | .pkg, false => rel = 0x10 || beat
  | .pkg, true => beat && rel = 0x20
  | .die, false => sys || s.ownsCoreOf p n
  | .die, true => rel = 0x8000 || sys || (s.ownsCoreOf p n && (rel = 0x10 || rel = 0x18))
  | .core, false => sys || s.corePart n = p
  | .core, true => s.corePart n = p
  | .mc, false => sys || ((rel = 0x68 || (0x2000 ≤ rel && rel < 0x2400)) && s.ownsRegion p)
  | .mc, true => sys
  | .home, false => sys
  | .home, true => rel = 0x218 || (sys && rel = 0x300)
  | .pcie, wr =>
    if rel < 0x1000 then (sys || (List.range 4).any (fun i => s.segOwner n i = p) || (List.range 8).any fun f => s.fnPart n f = p)
      && !wr
    else if rel < 0x5000 then (sys && !wr) || s.segOwner n ((rel - 0x1000) / 0x1000) = p
    else if 0x8000 ≤ rel && rel < 0x8800 then (sys && !wr) || s.fnPart n ((rel - 0x8000) / 0x100) = p
    else true
  | .fp, _ => sys
  | .dl, _ => sys
  | .hb, _ => sys
  | .arb, _ => sys
  | .assay, _ => sys
  | .part, false => sys || n = p
  | .part, true => n = p
  | .ring, _ => s.ringOwner n = p
  | .elog, false => sys || n = p
  | .elog, true => (n = p && rel = 0x10) || (sys && rel = 0x10 && (n = 0 || 16 ≤ n))
  | .pwr, false => sys || (rel != 0 && rel != 8 && rel != 0x10 && rel != 0x20 && rel != 0x38 && rel < 0x100) ||
      (0x100 ≤ rel && s.ownsCoreOf p ((rel - 0x100) / 8))
  | .pwr, true => rel = 0x10 || rel = 0x20
  | .mb, wr =>
    if rel < 0x20 || (0x3000 ≤ rel && rel < 0x30E0) then !wr
    else if 0x1000 ≤ rel && rel < 0x3000 then (rel - 0x1000) / 0x200 = p
    else if 0x8000 ≤ rel then (rel - 0x8000) / 0x800 = p
    else true

/-- The registers, of an offset that holds one, that only a Service Core writes: those of memory training (R263) and of link training
(R296). -/
def trainOnly (b : Blk) (n rel : Nat) : Option (ECode × Nat) :=
  match b with
  | .mc => if 0x1000 ≤ rel && rel < 0x2000 then some (E.MC_TRAIN_ONLY, n / 8) else none
  | .fp => if 0x1000 ≤ rel && rel < 0x1018 then some (E.LINK_TRAIN_ONLY, n / 4) else none
  | .dl => if 0x1000 ≤ rel && rel < 0x1018 then some (E.LINK_TRAIN_ONLY, n / 6) else none
  | .hb => if 0x1000 ≤ rel && rel < 0x1018 then some (E.LINK_TRAIN_ONLY, 0) else none
  | _ => none

/-- Take an action as the agreed compare point of core c's pair (R91). -/
def State.asAgreed (s : State) (c : Nat) (act : State → State) : State :=
  (act (s.onCores fun k => { k with agreed := some (c % 120) })).onCores fun k => { k with agreed := none }

/-- The core is a member of a pair, and the access is not its agreed compare point: it waits for its compare (R90, R91). -/
def State.unagreed (s : State) (c : Nat) : Bool := s.paired (s.corePart c) c && s.cores.agreed != some (c % 120)

/-- A write of core c has not completed: no later access of the core is issued (R142, R167, R169). -/
def State.coreBlocked (s : State) (c : Nat) : Bool :=
  (s.sharers c).any fun k => (s.coreH k).syncWait || (s.coreH k).tlbiStall != [] || (s.cache.cmoWait.any fun e => e.1 = k) ||
    (s.xlat.walks.any fun w => w.core = k && w.cmo.isSome) || (s.xlat.waits.any fun w => w.1.core = k && w.1.cmo.isSome) ||
    s.cache.cmoOut.any fun o => o.core = k && !o.walk

/-- An access fails: a record, and a bus error at its requester. -/
def State.csFail (s : State) (w : Who) (e : ECode) (u : Nat × Nat) (off : Nat) : State :=
  (s.record e u.1 u.2 [s.whoPart w] (some (s.csAddr off))).whoReply w 1

/-- Check an access to a Control Space offset of this package, then perform it. act answers the requester. A member of a pair waits at its
compare point (R91), and a core with a write outstanding issues the access again (R142, R169). An access whose path
crosses a link that carries no flits is answered with RETRY: its core issues it again (R276). An offset that holds no register needs no
right (R15). A core block whose cluster alone is powered off is served: DESIGN CHOICE, log entry 79. -/
def State.csGuard (s : State) (w : Who) (off size : Nat) (wr : Option Word) (act : State → State) : State :=
  let p := s.whoPart w
  if !s.whoRuns w then s
  else if (s.whoCore w).any s.coreBlocked then s.whoReply w 4
  else if (s.whoCore w).any s.unagreed then (match s.whoCore w with | some c => s.toCore c 3 | none => s)
  else if size != 8 || off % 8 != 0 then s.csFail w E.CS_ACCESS_WIDTH (s.whoUnit w) off
  else match locate off with
  | none => s.csFail w E.CS_UNMAPPED (s.whoUnit w) off
  | some (b, n, rel) =>
    let u := servingUnit b n
    let off? : Option Nat := match servingDie b n with
      | some d => if s.dieFenced d || s.dieOff d then some d else none
      | none => none
    match off? with
    | some d =>
      if s.dieFenced d then s.csFail w E.DIE_FENCED (2, hubOfDie d) off
      else (s.onPwr fun q => { q with heldCs := q.heldCs ++ [{ die := d, who := w, off := off, wr := wr }] }).whoReply w 3
    | none =>
      if (s.csLinks w b n rel wr.isSome).any fun l => !s.linkCarries l then s.whoReply w 4
      else if (regAt off).isNone && !(p != 0 && s.partFenced p) then act s
      else if whoService w then
        match trainOnly b n rel, w with
        | some (e, h), .service g => if wr.isSome && b != Blk.hb && g.val != h then s.csFail w e u off else act s
        | _, _ => act s
      else if p != 0 && s.partFenced p then s.csFail w E.PART_FENCED u off
      else match trainOnly b n rel with
        | some (e, _) => if wr.isSome then s.csFail w e u off
            else if s.csRight p b n rel false then act s else s.csFail w E.CS_DENIED u off
        | none => if s.csRight p b n rel wr.isSome then act s else s.csFail w E.CS_DENIED u off

/-! ## The effect of a write (R17, R18) -/

/-- The region registers and MC_RESTRIPE are one copy shown by every channel block (R267). -/
def canonOff (off : Nat) : Nat :=
  match locate off with
  | some (.mc, n, rel) => if 0x2000 ≤ rel then off - n * 0x40000 else off
  | _ => off

/-- Each field under its type: RW takes the bits, RW1C clears those written 1, the others keep theirs. -/
def fieldWrite (l : List FldRow) (old v : Word) : Word :=
  l.foldl (fun w f =>
    let g : Fld := { lo := f.lo, width := f.width }
    match f.ty with
    | .rw => g.set w (g.get v)
    | .rw1c => w &&& ~~~ (v &&& g.mask)
    | _ => w) old

/-- The register value after a reset of its unit: an RWL field keeps what the effective configuration gave it (R22), every other
field takes its Reset value (R21). -/
def unitReset (off : Nat) (w : Word) : Word :=
  match regAt off with
  | none => regReset off
  | some (_, _, _, r) => r.flds.foldl (fun a f =>
      let g : Fld := { lo := f.lo, width := f.width }
      if f.ty = .rwl then g.set a (g.get w) else a) (regReset off)

/-- A register that die d holds: of its compute-die, core and arbiter blocks. CORE_STAT is its hub's record of the core (R88, R231). -/
def ofDie (d off : Nat) : Bool :=
  match locate off with
  | some (.die, n, _) => n = d
  | some (.core, n, rel) => n / 20 = d && rel != 0x10
  | some (.arb, n, _) => n < 24 && n / 2 = d
  | _ => false

/-- A register of a core of cluster k of die d, but for the hub's record of the core. -/
def ofCluster (d k off : Nat) : Bool :=
  match locate off with
  | some (.core, n, rel) => n / 20 = d && n % 20 / 10 = k && rel != 0x10
  | _ => false

/-- The registers of a unit that is reset return to their Reset values (R21). -/
def State.resetRegs (s : State) (of : Nat → Bool) : State :=
  each ((s.regs.map (·.1)).filter of) (fun s off => s.setReg off (unitReset off (s.reg off))) s

/-- Die d is reset (R21, R150). -/
def State.resetDie (s : State) (d : Nat) : State := s.resetRegs (ofDie d)

/-- Cluster k of die d is reset: powered down and woken (R21, R393). -/
def State.resetCluster (s : State) (d k : Nat) : State := s.resetRegs (ofCluster d k)

/-- A bit written into an RWL field differs from its value. -/
def rwlDiffers (l : List FldRow) (old v : Word) : Bool :=
  l.any fun f => f.ty = .rwl && ({ lo := f.lo, width := f.width } : Fld).get old != ({ lo := f.lo, width := f.width } : Fld).get v

/-- Write a register that has no special effect, for partition p. -/
def State.plainWrite (s : State) (off : Nat) (v : Word) (p : Nat) : State :=
  match regAt off with
  | none => s
  | some (b, n, _, r) =>
    let o := canonOff off
    let old := s.reg o
    let s := if rwlDiffers r.flds old v then
        s.record E.RWL_WRITE (servingUnit b n).1 (servingUnit b n).2 [p] (some (s.csAddr off)) else s
    s.setReg o (fieldWrite r.flds old v)

end Sys2Proof.Machine
end

