-- ==== Sys2Proof/Machine/CacheOps.lean ====
section
/-! DEFINITION. The caches of the package (R116 to R135): pseudo-LRU trees, L0 and L1 sectors, Die Cache lines,
write-back buffers, miss registers, and how a Die Cache answers a snoop (R216, R217). -/

namespace Sys2Proof.Machine

/-! ## Performance counters (R105) -/

/-- Vector 3 for core c, and its OVF bit: counter n has wrapped. -/
def State.pmuWrap (s : State) (c n : Nat) : State :=
  let s := s.setF (R.PMU_OVF c) F.PMU_OVF_OVF (s.f (R.PMU_OVF c) F.PMU_OVF_OVF ||| 2 ^ n)
  if s.f (R.PMU_CTL c n) F.PMU_CTL_OVF_INT = 1 then s.raise (s.corePart c) 3 (some c) else s

/-- Count an event of core c in each counter that selects it at the level of the access. -/
def State.count (s : State) (c ev : Nat) (user : Bool) : State :=
  each (List.range 8) (fun s n =>
    let r := R.PMU_CTL c n
    if s.f r F.PMU_CTL_EVENT = ev && s.f r F.PMU_CTL_EN = 1
        && s.f r (if user then F.PMU_CTL_USER else F.PMU_CTL_SUPER) = 1 then
      let s := s.wrapF (R.PMU_CNT c n) F.PMU_CNT_COUNT
      if s.f (R.PMU_CNT c n) F.PMU_CNT_COUNT = 0 then s.pmuWrap c n else s
    else s) s

/-! ## Tree pseudo-LRU (R120) -/

/-- The victim among the allowed ways of a tree of k levels, below node n whose lowest way is base. Where the half a node points to has
no allowed way, the other half is taken at the deepest such node: DESIGN CHOICE, log entry 82. -/
def plruPick : (k : Nat) → (t n : Nat) → (ok : Nat → Bool) → (base : Nat) → Option Nat
  | 0, _, _, ok, base => if ok base then some base else none
  | k + 1, t, n, ok, base =>
    let d := if t.testBit n then 1 else 0
    match plruPick k t (2 * n + d) ok (base + d * 2 ^ k) with
    | some w => some w
    | none => plruPick k t (2 * n + (1 - d)) ok (base + (1 - d) * 2 ^ k)

/-- An access to way w points every node on its path away from it. -/
def plruTouch (k t w : Nat) : Nat :=
  (List.range k).foldl (fun t j =>
    let n := (2 ^ k + w) / 2 ^ (k - j)
    if w.testBit (k - 1 - j) then clearBit t n else t ||| 2 ^ n) t

/-! ## Units -/

def State.dieUnit (s : State) (d : Nat) : Unt := { pkg := s.pkg, unit := 0xF0 + d }
def State.hubUnit (s : State) (h : Nat) : Unt := { pkg := s.pkg, unit := 0xFC + h }
def State.coreUnit (s : State) (c : Nat) : Unt := { pkg := s.pkg, unit := c }

/-- The hub of an agent that makes requests beside the PCIe segments: ring r, or the Service Core of hub h, which is agent 64 + h. -/
def agentHub (a : Nat) : Nat := if a < 64 then a % 4 / 2 else a - 64

/-- A request of a unit with this tag is open: its register is the space reserved for the replies (R181, R187). -/
def State.tagOpen (s : State) (unit t : Nat) : Bool :=
  (s.cache.dcMiss.any fun q => 0xF0 + q.die = unit && q.txn = t) || (s.cache.direct.any fun q => q.unit = unit && q.txn = t) ||
    (s.cache.wb.any fun q => 0xF0 + q.die = unit && q.txn = t) || (s.home.proxies.any fun p => 0xFC + p.hub = unit && p.tag = t) ||
    (s.pcie.segs.any fun e => 0xFC + e.1 / 16 = unit && e.2.dma.any fun m => m.txn = t) ||
    s.crypto.dma.any fun e => 0xFC + agentHub e.1 = unit && e.2.any fun m => m.txn = t

/-- The tag of a request that has none yet: it is held. -/
def noTag : Nat := 0xFFF

/-- The first tag from t on that is not open, among the next n. -/
def firstTag (opened : Nat → Bool) : (n t : Nat) → Nat
  | 0, t => t
  | n + 1, t => if opened t then firstTag opened n ((t + 1) % 4095) else t

/-- IO messages to a package are held: its route has changed, and some sent on the old route have not completed (R284). -/
def State.ioHeld (s : State) (pkg : Nat) : Bool := s.links.ioOld.any fun e => e.1 = pkg

def isIo (op : COp) : Bool := op = .ucRd || op = .ucWr || op = .ucAtomic

/-- A fresh transaction tag of a unit, unique among its open transactions (R181); a hub's tags below 1024 are the slots of its home. -/
def State.newTxn (s : State) (unit : Nat) : State × Nat :=
  let t := firstTag (s.tagOpen unit) 4095 (max (s.cache.nextTxn.get unit) (if 0xFC ≤ unit then 1024 else 0))
  (s.onCache fun k => { k with nextTxn := k.nextTxn.put unit ((t + 1) % 4095) }, t)

/-! ## L1 and L0 -/

def l1Set (line : Nat) : Nat := line / 4 % 32
def l1Tag (line : Nat) : Nat := line / 128
def blkKey (c set way : Nat) : Nat := (c * 32 + set) * 8 + way
def secKey (c line way : Nat) : Nat := blkKey c (l1Set line) way * 4 + line % 4

def CacheSt.blks (k : CacheSt) (i : Bool) : SMap L1Blk := if i then k.l1i else k.l1d
def CacheSt.secs (k : CacheSt) (i : Bool) : SMap Sector := if i then k.l1iS else k.l1dS
def CacheSt.setBlk (k : CacheSt) (i : Bool) (key : Nat) (b : L1Blk) : CacheSt :=
  if i then { k with l1i := k.l1i.put key b } else { k with l1d := k.l1d.put key b }
def CacheSt.setSec (k : CacheSt) (i : Bool) (key : Nat) (x : Sector) : CacheSt :=
  if i then { k with l1iS := k.l1iS.put key x } else { k with l1dS := k.l1dS.put key x }

/-- The way that holds the block of a line. -/
def State.l1Way (s : State) (c : Nat) (i : Bool) (line : Nat) : Option Nat :=
  (List.range 8).find? fun w =>
    let b := (s.cache.blks i).get (blkKey c (l1Set line) w)
    b.used && b.tag = l1Tag line

/-- The valid sector that holds a line. -/
def State.l1Find (s : State) (c : Nat) (i : Bool) (line : Nat) : Option (Nat × Sector) :=
  match s.l1Way c i line with
  | none => none
  | some w =>
    let x := (s.cache.secs i).get (secKey c line w)
    if x.valid then some (secKey c line w, x) else none

def State.l1Touch (s : State) (c : Nat) (i : Bool) (line way : Nat) : State :=
  s.onCache fun k =>
    let key := c * 32 + l1Set line
    if i then { k with l1iTree := k.l1iTree.put key (plruTouch 3 (k.l1iTree.get key) way) }
    else { k with l1dTree := k.l1dTree.put key (plruTouch 3 (k.l1dTree.get key) way) }

def State.l0Find (s : State) (c line : Nat) : Option Nat :=
  (List.range 32).find? fun e => s.cache.l0.get (c * 32 + e) = line + 1

def State.l0Touch (s : State) (c e : Nat) : State :=
  s.onCache fun k => { k with l0Tree := k.l0Tree.put c (plruTouch 5 (k.l0Tree.get c) e) }

/-- Core c's L1s and L0 allocate nothing: its own enable is 0 (R146), or its Die Cache's (R147). -/
def State.noAlloc (s : State) (c : Nat) : Bool :=
  s.f (R.L1_CTL c) F.L1_CTL_EN = 0 || s.f (R.DC_CTL (dieOf c)) F.DC_CTL_EN = 0

/-- A load that hits or fills L1D allocates its line in L0 (R119). -/
def State.l0Alloc (s : State) (c line : Nat) : State :=
  match s.l0Find c line with
  | some e => s.l0Touch c e
  | none =>
    if s.noAlloc c then s
    else
      let e := match (List.range 32).find? fun e => s.cache.l0.get (c * 32 + e) = 0 with
        | some e => e
        | none => (plruPick 5 (s.cache.l0Tree.get c) 1 (fun _ => true) 0).getD 0
      (s.onCache fun k => { k with l0 := k.l0.put (c * 32 + e) (line + 1) }).l0Touch c e

def State.l0Remove (s : State) (c line : Nat) : State :=
  match s.l0Find c line with
  | some e => s.onCache fun k => { k with l0 := k.l0.put (c * 32 + e) 0 }
  | none => s

/-- A sector of this block is being filled (R120). -/
def State.filling (s : State) (c : Nat) (i : Bool) (set way : Nat) : Bool :=
  s.cache.l1miss.any fun m => m.core = c && m.instr = i && l1Set m.line = set && m.way = way

/-- A block with no valid sector and no fill in flight becomes invalid. -/
def State.l1Tidy (s : State) (c : Nat) (i : Bool) (line : Nat) : State :=
  match s.l1Way c i line with
  | none => s
  | some w =>
    let b := blkKey c (l1Set line) w
    if (List.range 4).any (fun q => ((s.cache.secs i).get (b * 4 + q)).valid) || s.filling c i (l1Set line) w then s
    else s.onCache fun k => k.setBlk i b default

/-- Remove a line's sector from an L1 and from L0; a block left with no sector and no fill becomes invalid. -/
def State.l1Remove (s : State) (c : Nat) (i : Bool) (line : Nat) : State :=
  match s.l1Way c i line with
  | none => s
  | some w =>
    let s := s.onCache fun k => k.setSec i (secKey c line w) default
    (if i then s else s.l0Remove c line).l1Tidy c i line

/-! ## Die Cache lines -/

def dcSetOf (line : Nat) : Nat := line % 65536
def dcKey (d set way : Nat) : Nat := (d * 65536 + set) * 16 + way

def State.dcWay (s : State) (d line : Nat) : Option Nat :=
  (List.range 16).find? fun w =>
    let l := s.cache.dc.get (dcKey d (dcSetOf line) w)
    l.coh != .i && l.line = line

def State.dcFind (s : State) (d line : Nat) : Option DcLine :=
  (s.dcWay d line).map fun w => s.cache.dc.get (dcKey d (dcSetOf line) w)

def State.dcSet (s : State) (d way : Nat) (l : DcLine) (line : Nat) : State :=
  s.onCache fun k => { k with dc := k.dc.put (dcKey d (dcSetOf line) way) l }

/-- Change the line a die holds; one that becomes I is removed. -/
def State.dcUpd (s : State) (d line : Nat) (f : DcLine → DcLine) : State :=
  match s.dcWay d line with
  | none => s
  | some w =>
    let l := f (s.cache.dc.get (dcKey d (dcSetOf line) w))
    s.dcSet d w (if l.coh = .i then default else l) line

def State.dcTouch (s : State) (d line : Nat) : State :=
  match s.dcWay d line with
  | none => s
  | some w =>
    let key := d * 65536 + dcSetOf line
    s.onCache fun k => { k with dcTree := k.dcTree.put key (plruTouch 4 (k.dcTree.get key) w) }

def presBit (c : Nat) (i : Bool) : Nat := localOf c + if i then 20 else 0

def State.setPresence (s : State) (c : Nat) (i : Bool) (line : Nat) : State :=
  s.dcUpd (dieOf c) line fun l => { l with presence := l.presence ||| 2 ^ presBit c i }

/-- Remove a line from one L1; its dirty data goes to the Die Cache (R118, R205). -/
def State.l1Evict (s : State) (c : Nat) (i : Bool) (line : Nat) : State :=
  let s := match s.l1Find c i line with
    | some (_, x) => if x.dirty then s.dcUpd (dieOf c) line fun l => { l with data := x.data } else s
    | none => s
  (s.l1Remove c i line).dcUpd (dieOf c) line fun l => { l with presence := clearBit l.presence (presBit c i) }

/-- Write an L1D's dirty sector to the Die Cache; it stays valid and clean (R137). -/
def State.l1Clean (s : State) (c line : Nat) : State :=
  match s.l1Find c false line with
  | some (key, x) =>
    if x.dirty then (s.dcUpd (dieOf c) line fun l => { l with data := x.data }).onCache fun k =>
      k.setSec false key { x with dirty := false }
    else s
  | none => s

/-- The L1s of a die that the presence vector names. -/
def presentL1s (d presence : Nat) : List (Nat × Bool) :=
  (bitsOf presence 40).map fun b => (20 * d + b % 20, decide (20 ≤ b))

/-- Clean a line in every L1D of the die. -/
def State.cleanL1s (s : State) (d line : Nat) : State :=
  match s.dcFind d line with
  | some l => each (presentL1s d l.presence) (fun s e => if e.2 then s else s.l1Clean e.1 line) s
  | none => s

/-- Remove a line from every L1 and L0 of the die but core keep's L1D; counted in BACK_INVAL (R122). -/
def State.purgeL1s (s : State) (d line : Nat) (keep : Option Nat) (counted : Bool) : State :=
  match s.dcFind d line with
  | some l =>
    each ((presentL1s d l.presence).filter fun e => e.2 || some e.1 != keep) (fun s e =>
      let had := (s.l1Find e.1 e.2 line).isSome
      let s := s.l1Evict e.1 e.2 line
      when (counted && had) (fun s => s.incF (R.DC_STAT d) F.DC_STAT_BACK_INVAL) s) s
  | none => s

/-! ## Messages to a home -/

/-- The hub a request for a line goes to (R26). -/
def State.homeUnit (s : State) (line : Nat) : Unt := { pkg := pkgOfLine line, unit := 0xFC + s.homeHub line }

/-- A request of a unit for a line. -/
def State.request (s : State) (op : COp) (line : Nat) (src : Unt) (txn part : Nat) (mask : Mask) (data : Line) (aop : AtOp) :
    CMsg :=
  { (default : CMsg) with op := op, line := line, src := src, dst := s.homeUnit line, txn := txn, part := part, mask := mask,
                          data := data, aop := aop }

/-- Count a request of an access on its way to a hub: to another package, and over the hub bridge, by which it also reaches a fabric port of
the other half (R105, R25). from': the half it starts in. -/
def State.countTo (s : State) (cores : List Nat) (user : Bool) (from' : Nat) (dst : Unt) : State :=
  let far := dst.pkg != s.pkg
  let at' := if far then hubOfPort (s.f (R.SYS_ROUTE dst.pkg) F.SYS_ROUTE_EGRESS) else dst.unit - 0xFC
  let cores := cores.filter (· < 240)
  let s := if far then each cores (fun s c => s.count c 0x14 user) s else s
  if at' = from' then s else each cores (fun s c => s.count c 0x13 user) s

/-- The hub that keeps the proxy entry of a line homed in another package (R207): the half of its home channel. -/
def State.proxyHub (s : State) (line : Nat) : Nat := s.homeHub line

/-! ## Eviction (R217) -/

def State.inWb (s : State) (d line : Nat) : Bool := s.cache.wb.any fun e => e.die = d && e.line = line

/-- Evict the line in a way: out of the L1s, into the write-back buffer, with WB_DIRTY or EVICT_CLEAN to its home, by way
of the proxy hub for a line of another package (R208). -/
def State.dcEvict (s : State) (d line : Nat) : State :=
  let s := s.purgeL1s d line none true
  match s.dcFind d line with
  | none => s
  | some l =>
    let (s, t) := s.newTxn (0xF0 + d)
    let op : COp := if l.coh = .m || l.coh = .o then .wbDirty else .evictClean
    let m := s.request op line (s.dieUnit d) t l.part fullMask (if op = .wbDirty then l.data else 0) default
    let m := if pkgOfLine line = s.pkg then m else { m with dst := s.hubUnit (s.proxyHub line) }
    let s := s.dcUpd d line fun l => { l with coh := .i }
    (s.onCache fun k => { k with wb := k.wb ++ [{ die := d, line := line, coh := l.coh, part := l.part, data := l.data, txn := t }] }).send
      (.coh m)

/-! ## Miss registers -/

/-- A way of the line's set that holds a fill in flight (R120). -/
def State.dcFilling (s : State) (d set way : Nat) : Bool :=
  s.cache.dcMiss.any fun m => m.die = d && dcSetOf m.line = set && m.way = way

/-- The way a fill takes: the line's own, the lowest invalid, or the tree's choice. -/
def State.dcVictim (s : State) (d line : Nat) : Option Nat :=
  let set := dcSetOf line
  match s.dcWay d line with
  | some w => some w
  | none =>
    match (List.range 16).find? fun w =>
        (s.cache.dc.get (dcKey d set w)).coh = .i && !s.dcFilling d set w with
    | some w => some w
    | none => plruPick 4 (s.cache.dcTree.get (d * 65536 + set)) 1 (fun w => !s.dcFilling d set w) 0

/-- The access that a miss register's request was sent for: the first of the first L1 that merged, or of a walker (R105). -/
def State.missAcc (s : State) (m : DcMiss) : Option Acc :=
  match m.l1s.head?.bind fun e => s.cache.l1miss.find? fun q => q.core = e.1 && q.instr = e.2 && q.line = m.line with
  | some q => q.accs.head?
  | none => (m.walks.head?.bind fun e => s.xlat.walks.find? fun w => w.core = e.1 && w.n = e.2).map (·.acc)

/-- Count an event of the access that a miss register serves. -/
def State.countMiss (s : State) (m : DcMiss) (f : State → Acc → State) : State :=
  match s.missAcc m with
  | some a => f s a
  | none => s

/-- Issue the request of a miss register. -/
def State.sendMiss (s : State) (m : DcMiss) : State :=
  let s := s.countMiss m fun s a => s.countTo [a.core] a.user (hubOfDie m.die) (s.homeUnit m.line)
  let (s, t) := s.newTxn (0xF0 + m.die)
  (s.onCache fun k => { k with dcMiss := k.dcMiss ++ [{ m with txn := t, sent := true }] }).send
    (.coh (s.request m.op m.line (s.dieUnit m.die) t m.part 0 0 default))

/-- Every miss register of a die is in use. -/
def State.missFull (s : State) (d : Nat) : Bool := 512 ≤ countOf s.cache.dcMiss fun q => q.die = d

/-- Take a miss register for a request, evicting the way's line first; it waits where no register or way is free or its line is being
filled for another partition, and is not sent while the line is in the die's own write-back buffer (R126, R217). Each request that finds
every register in use counts once. -/
def State.openMiss (s : State) (m : DcMiss) : State :=
  let later (m : DcMiss) (s : State) : State := s.onCache fun k => { k with waitDc := k.waitDc ++ [m] }
  if s.cache.dcMiss.any fun q => q.die = m.die && q.line = m.line then later m s
  else if s.missFull m.die then
    later { m with counted := true }
      (if m.counted then s else s.incF (R.DC_STAT m.die) F.DC_STAT_MISS_FULL (max 1 (m.l1s.length + m.walks.length)))
  else match s.dcVictim m.die m.line with
    | none => later m s
    | some w =>
      let old := s.cache.dc.get (dcKey m.die (dcSetOf m.line) w)
      let s := if old.coh != .i && old.line != m.line then s.dcEvict m.die old.line else s
      if s.inWb m.die m.line then s.onCache fun k => { k with dcMiss := k.dcMiss ++ [{ m with way := w, sent := false, txn := noTag }] }
      else s.sendMiss { m with way := w }

/-- A request of an L1 or a walker for a line: merged into the register that fills it, or a new one (R126). A request of another
partition is not merged: the home judges it on its own (R159, R300). -/
def State.dcRequest (s : State) (d line : Nat) (op : COp) (part : Nat) (l1 : Option (Nat × Bool)) (walk : Option (Nat × Nat))
    (atomicBy : Option Nat) : State :=
  let join (m : DcMiss) : DcMiss :=
    { m with l1s := match l1 with | some e => addOnce m.l1s e | none => m.l1s
             walks := match walk with | some e => addOnce m.walks e | none => m.walks }
  let mine (m : DcMiss) : Bool := m.die = d && m.line = line && m.part = part
  if s.cache.dcMiss.any mine then
    s.onCache fun k => { k with dcMiss := k.dcMiss.map fun m => if mine m then join m else m }
  else if s.cache.waitDc.any mine then
    (when (s.missFull d && s.cache.waitDc.any fun m => mine m && m.counted) (fun s => s.incF (R.DC_STAT d) F.DC_STAT_MISS_FULL) s).onCache fun k =>
      { k with waitDc := k.waitDc.map fun m => if mine m then join m else m }
  else
    s.openMiss (join { (default : DcMiss) with die := d, line := line, op := op, part := part, atomicBy := atomicBy })

/-! ## Maintenance operations that wait (R142, R143) -/

/-- A maintenance operation by address or by set and way. kind: 1 clean, 2 invalidate, 3 both; discard: an invalidate may
discard dirty data (R138). -/
structure Cmo where
  kind : Nat
  level : Nat
  line : Nat
  discard : Bool
  sw : Bool                -- by set and way; line is then set * 32 + way
  deriving DecidableEq, Repr, Inhabited

/-- How a waiting operation stands in cmoWait; codes from 64 on are writes of CMO_ISSUE that wait for earlier accesses (R142). -/
def cmoCode (o : Cmo) : Nat := o.kind + 4 * o.level + (if o.discard then 16 else 0) + (if o.sw then 32 else 0)
def cmoOf (code line : Nat) : Cmo :=
  { kind := code % 4, level := code / 4 % 4, line := line, discard := code / 16 % 2 = 1, sw := code / 32 % 2 = 1 }

/-- The cores whose L0 and L1s, and the dies whose Die Cache, an operation acts on (R145). -/
def State.cmoCores (s : State) (c : Nat) : List Nat := if s.paired (s.corePart c) c then [c % 120, c % 120 + 120] else [c]
def State.cmoDies (s : State) (c : Nat) : List Nat := ((s.cmoCores c).map dieOf).eraseDups

/-- The line that a way of a Die Cache holds or is being filled with. -/
def State.wayLine (s : State) (d set way : Nat) : Option Nat :=
  match s.cache.dcMiss.find? fun m => m.die = d && dcSetOf m.line = set && m.way = way with
  | some m => some m.line
  | none => let l := s.cache.dc.get (dcKey d set way); if l.coh = .i then none else some l.line

/-- The operation acts on a line at the caches of core c, or of its die. -/
def State.cmoNames (s : State) (c line : Nat) (instr : Bool) (k : Nat) (o : Cmo) : Bool :=
  if o.level = 3 then (s.cmoDies k).contains (dieOf c) &&
    (if o.sw then s.wayLine (dieOf c) (o.line / 32) (o.line % 32) = some line else o.line = line)
  else (s.cmoCores k).contains c && instr = decide (o.level = 2) && o.level != 0 &&
    (if o.sw then l1Set line = o.line / 32 && (s.l1Way c instr line = some (o.line % 32) ||
        s.cache.l1miss.any fun m => m.core = c && m.instr = instr && m.line = line && m.way = o.line % 32)
      else o.line = line)

/-- A request of the die of core c for a line meets an operation at the Die Cache level that has met a fill (R143). -/
def State.cmoHeldDc (s : State) (c line : Nat) : Bool :=
  (s.cache.cmoWait.any fun e => e.2.2.2 && e.2.1 < 64 && (cmoOf e.2.1 e.2.2.1).level = 3 && s.cmoNames c line false e.1 (cmoOf e.2.1 e.2.2.1)) ||
  s.cache.cmoOut.any fun o => o.hold && (s.cmoDies o.core).contains (dieOf c) && o.parts.any fun p => p.2 = line

/-- R143: a request for a line that arrives after an operation on it has met a fill is held until the operation completes. -/
def State.cmoHeld (s : State) (c line : Nat) (instr : Bool) : Bool :=
  (s.cache.cmoWait.any fun e => e.2.2.2 && e.2.1 < 64 && s.cmoNames c line instr e.1 (cmoOf e.2.1 e.2.2.1)) ||
  s.cache.cmoOut.any fun o => o.hold && (s.cmoDies o.core).contains (dieOf c) && o.parts.any fun p => p.2 = line

/-! ## How a Die Cache answers a snoop (R216, R217) -/

/-- An answer: the response, data forwarded to the requester, data written back to the home. -/
structure SnpAns where
  rsp : COp
  fwd : Option (COp × Line)
  back : Option Line
  deriving DecidableEq, Repr, Inhabited

def SnpAns.none' : SnpAns := { rsp := .snpRspI, fwd := none, back := none }

/-- The home-ordered form of an owner-ordered snoop (R211). -/
def plainSnoop : COp → COp
  | .snpOrderShared => .snpShared
  | .snpOrderUnique => .snpUnique
  | .snpOrderRecall => .snpRecall
  | o => o

/-- The columns of R216: the answer to a snoop in a state, and the state after. R215 sends SNP_INV to every other holder, but R216 has no cell of it for
M, O or E: a holder with dirty data answers SNP_DATA and goes to I, so that no data is lost, and one in E goes to I (DESIGN CHOICE, log entry 94). -/
def snoopTable (op : COp) (c : Coh) (data : Line) : SnpAns × Coh :=
  match plainSnoop op, c with
  | _, .i => (.none', .i)
  | .snpShared, .m => ({ rsp := .snpRspFwdDirty, fwd := some (.dataS, data), back := none }, .o)
  | .snpShared, .o => ({ rsp := .snpRspFwdDirty, fwd := some (.dataS, data), back := none }, .o)
  | .snpShared, .e => ({ rsp := .snpRspFwdClean, fwd := some (.dataS, data), back := none }, .s)
  | .snpShared, .s => ({ rsp := .snpRspS, fwd := none, back := none }, .s)
  | .snpUnique, .e => ({ rsp := .snpRspFwdClean, fwd := some (.dataE, data), back := none }, .i)
  | .snpUnique, .s => (.none', .i)
  | .snpUnique, _ => ({ rsp := .snpRspFwdDirty, fwd := some (.dataM, data), back := none }, .i)
  | .snpClean, .m => ({ rsp := .snpData, fwd := none, back := some data }, .e)
  | .snpClean, .o => ({ rsp := .snpData, fwd := none, back := some data }, .s)
  | .snpClean, .e => ({ rsp := .snpRspS, fwd := none, back := none }, .e)
  | .snpClean, .s => ({ rsp := .snpRspS, fwd := none, back := none }, .s)
  | _, .m => ({ rsp := .snpData, fwd := none, back := some data }, .i)
  | _, .o => ({ rsp := .snpData, fwd := none, back := some data }, .i)
  | _, _ => (.none', .i)

/-- The answer from the write-back buffer (R217). -/
def wbAnswer (op : COp) (data : Line) : SnpAns :=
  match plainSnoop op with
  | .snpShared => { rsp := .snpRspFwdDirty, fwd := some (.dataO, data), back := none }
  | .snpUnique => { rsp := .snpRspFwdDirty, fwd := some (.dataM, data), back := none }
  | .snpInv => .none'
  | _ => { rsp := .snpData, fwd := none, back := some data }

/-- A die answers a snoop for a line: its L1s first, then its Die Cache or its write-back buffer. -/
def State.snoopDie (s : State) (d : Nat) (op : COp) (line : Nat) : State × SnpAns :=
  match s.cache.wb.find? fun e => e.die = d && e.line = line && e.coh != .i with
  | some e =>
    (s.onCache fun k => { k with wb := k.wb.map fun q =>
      if q.die = d && q.line = line then { q with coh := .i } else q }, wbAnswer op e.data)
  | none =>
    match s.dcFind d line with
    | none => (s, .none')
    | some l =>
      let s := if (snoopTable op l.coh 0).2 = .i then s.purgeL1s d line none true else s.cleanL1s d line
      match s.dcFind d line with
      | none => (s, .none')
      | some l =>
        let (a, c) := snoopTable op l.coh l.data
        (s.dcUpd d line fun l => { l with coh := c }, a)

end Sys2Proof.Machine
end

