-- ==== Sys2Proof/Machine/CacheAccess.lean ====
section
/-! DEFINITION. Accesses of cores to DRAM after translation: cached loads, fetches, stores and near atomics (R118 to R126,
R130, R146, R205, R220), write-through and uncached accesses sent to the home (R131, R132), and what happens when a
fill or a completion arrives (R214). -/

namespace Sys2Proof.Machine

def Acc.line (a : Acc) : Nat := a.pa / 64
def Acc.off (a : Acc) : Nat := a.pa % 64

/-- The cores that made an access: both members where it was performed once for a twin pair (R91). -/
def Acc.makers (a : Acc) : List Nat := if a.twin then [a.core % 120, a.core % 120 + 120] else [a.core]

/-- The cores an access answers: its makers, but for one that has failed since (R88). -/
def Acc.cores (a : Acc) : List Nat := a.makers.filter fun c => !a.lost.contains c

/-- Count an event of an access; each member of a pair counts its own (R105). -/
def State.countAcc (s : State) (a : Acc) (ev : Nat) : State := each a.cores (fun s c => s.count c ev a.user) s

def State.deliver (s : State) (a : Acc) (v : Line) : State := each a.cores (fun s c => s.toCore c 0 v) s
def State.failAcc (s : State) (a : Acc) : State := each a.cores (fun s c => s.toCore c 1 0) s

/-- The AtomicOps of PCIe (R352), beside the Perulan codes. -/
def AT_FETCHADD : Nat := 0x100
def AT_SWAP : Nat := 0x101
def AT_CAS : Nat := 0x102

/-- The new value an atomic operation gives for an old one, of o.size bytes. -/
def atApply (o : AtOp) (old : Line) : Line :=
  if o.code = AT_FETCHADD then old + o.arg.setWidth 512
  else if o.code = AT_SWAP then o.arg.setWidth 512
  else if o.code = AT_CAS then (if old = o.arg.setWidth 512 then o.arg2.setWidth 512 else old)
  else (Config.perulanAtomic o.code o.size (old.setWidth 128) o.arg o.arg2).setWidth 512

/-! ## Filling an L1 -/

/-- A way for the block of a line, evicting the victim block (R118, R120); none while every way holds a fill. -/
def State.l1Alloc (s : State) (c : Nat) (i : Bool) (line : Nat) : Option (State × Nat) :=
  match s.l1Way c i line with
  | some w => some (s, w)
  | none =>
    let set := l1Set line
    let blk (w : Nat) := (s.cache.blks i).get (blkKey c set w)
    let tree := (if i then s.cache.l1iTree else s.cache.l1dTree).get (c * 32 + set)
    let victim := match (List.range 8).find? fun w => !(blk w).used with
      | some w => some w
      | none => plruPick 3 tree 1 (fun w => !s.filling c i set w) 0
    match victim with
    | none => none
    | some w =>
      let b := blk w
      let s := if b.used then each (List.range 4) (fun s q => s.l1Evict c i (b.tag * 128 + set * 4 + q)) s else s
      some (s.onCache fun k => k.setBlk i (blkKey c set w) { used := true, tag := l1Tag line }, w)

/-- Fill one sector from the Die Cache. -/
def State.l1Fill (s : State) (c : Nat) (i : Bool) (line way : Nat) (data : Line) (dirty : Bool) : State :=
  ((s.onCache fun k => k.setSec i (secKey c line way) { valid := true, dirty := dirty, data := data }).l1Touch c i line
    way).setPresence c i line

/-- The Die Cache's line for a request of partition p (R301). -/
def State.dcHit (s : State) (d line p : Nat) : Option DcLine :=
  match s.dcFind d line with
  | some l => if l.part = p then some l else none
  | none => none

/-- A miss of an L1: merged into the register that fills the sector, or a new one (R124, R125). -/
def State.l1MissAcc (s : State) (a : Acc) (op : COp) : State :=
  let i := decide (a.src = .fetch)
  let mine (m : L1Miss) : Bool := m.core = a.core && m.instr = i && m.line = a.line
  let wait (s : State) : State := s.onCache fun k => { k with waitL1 := k.waitL1 ++ [a] }
  match s.cache.l1miss.find? mine with
  | some m =>
    if i || m.accs.length < 9 then
      (when (!i) (fun s => s.count a.core 6 a.user) s).onCache fun k =>
        { k with l1miss := k.l1miss.map fun m => if mine m then { m with accs := m.accs ++ [a] } else m }
    else wait s
  | none =>
    if (if i then 8 else 24) ≤ countOf s.cache.l1miss (fun m => m.core = a.core && m.instr = i) then wait s
    else
      match (if s.noAlloc a.core then some (s, 8) else s.l1Alloc a.core i a.line) with
      | none => wait s
      | some (s, w) =>
        let s := (s.count a.core (if i then 7 else 5) a.user).count a.core 8 a.user
        let s := s.onCache fun k => { k with l1miss := k.l1miss ++ [{ core := a.core, instr := i, line := a.line, way := w,
                                                                       accs := [a] }] }
        s.dcRequest (dieOf a.core) a.line op a.part (some (a.core, i)) none (if a.src = .atomic then some a.core else none)

/-! ## Requests that no Die Cache line serves -/

/-- Two accesses are of one core, or of one pair. -/
def Acc.meets (a b : Acc) : Bool := a.makers.any b.makers.contains

/-- One of two UC or DEV accesses is DEV: they are performed in program order (R132). -/
def Acc.devOrder (a b : Acc) : Bool :=
  (a.attr = .dev && (b.attr = .uc || b.attr = .dev)) || (a.attr = .uc && b.attr = .dev)

/-- A request of an access must wait for an outstanding one of its core: a WT store for an earlier one, so that they reach their homes in
program order (R131), and a DEV access or one behind it (R132). DESIGN CHOICE, log entry 91. -/
def Direct.before (q : Direct) (a : Acc) (op : COp) : Bool :=
  q.acc.meets a && q.acc.src != .maint && a.src != .maint && ((op = .wtWrite && q.op = .wtWrite) || (isIo op && isIo q.op && q.acc.devOrder a))

/-- A request is held: of the die for a line in its own write-back buffer until WB_ACK (R217), an IO message to a package whose route has
changed for those before it (R284), and one behind an earlier access of its core. -/
def State.directHeld (s : State) (a : Acc) (unit : Nat) (op : COp) (dst : Nat) (before : List Direct) : Bool :=
  (match unitDie unit with | some d => 0xF0 ≤ unit && s.inWb d a.line | none => false) || (isIo op && s.ioHeld dst) ||
    before.any fun q => q.before a op

/-- What a request of HUB-A for an agreed store carries beside its source: the lower member's die, by which the home spares both members'
dies (R91, R93). -/
def State.forPair (s : State) (a : Acc) (m : CMsg) : CMsg :=
  if a.twin then { m with fwd := s.dieUnit (dieOf (a.core % 120)) } else m

/-- The half in which an access starts: its core's, or HUB-A's for an agreed access of a pair. -/
def Acc.half (a : Acc) : Nat := if a.twin then 0 else hubOfDie (dieOf a.core)

/-- Send a request of a core, or of its Die Cache, straight to the home (R131, R132, R220), unless it is held. -/
def State.sendDirect (s : State) (a : Acc) (unit : Nat) (op : COp) (mask : Mask) (data : Line) (aop : AtOp) : State :=
  if s.directHeld a unit op (pkgOfLine a.line) s.cache.direct then
    s.onCache fun k => { k with direct := k.direct ++ [{ acc := a, unit := unit, op := op, line := a.line, txn := noTag,
                                                         sent := false }] }
  else
  let (s, t) := (s.countTo a.cores a.user a.half (s.homeUnit a.line)).newTxn unit
  (s.onCache fun k => { k with direct := k.direct ++ [{ acc := a, unit := unit, op := op, line := a.line, txn := t,
                                                        sent := true }] }).send
    (.coh (s.forPair a (s.request op a.line { pkg := s.pkg, unit := unit } t a.part mask data aop)))

/-- The unit that sends an uncached access: its core, or HUB-A for the debug port and for an agreed access of a pair (R91). -/
def Acc.unit (a : Acc) : Nat := if a.core = DEBUG_PORT || a.twin then 0xFC else a.core

/-- The unit that sends a write-through store or a far atomic: the Die Cache, or HUB-A for an agreed access of a pair (R91). -/
def Acc.dieUnit (a : Acc) : Nat := if a.twin then 0xFC else 0xF0 + dieOf a.core

/-- The dies that an access of a twin partition counts as its own: both members' (R93, R98); of any other, its core's. -/
def State.accDies (s : State) (a : Acc) : List Nat :=
  if s.isTwin a.part then [dieOf (a.core % 120), dieOf (a.core % 120 + 120)] else [dieOf a.core]

/-- An uncached read or write of DRAM at the home. -/
def State.ucSend (s : State) (a : Acc) : State :=
  match a.src with
  | .store => s.sendDirect a a.unit .ucWr (maskFor a.off a.size) (linePut 0 a.off a.size a.data) default
  | .atomic => s.sendDirect a a.unit .ucAtomic (maskFor a.off a.size) 0 a.aop
  | _ => s.sendDirect a a.unit .ucRd (maskFor a.off a.size) 0 default

/-- R132: an access larger than 8 bytes is split into 8-byte accesses in ascending order. -/
def Acc.pieces (a : Acc) : List Acc :=
  if a.size ≤ 8 || a.src = .atomic then [a]
  else (List.range (a.size / 8)).map fun i =>
    { a with pa := a.pa + 8 * i, va := a.va + 8 * i, size := 8, data := lineGet a.data (8 * i) 8 }

def State.ucAcc (s : State) (a : Acc) : State := each a.pieces (fun s p => s.ucSend p) s

/-- A store of core c that is sent to the home hits in its L0 and L1D, or else in its Die Cache: their trees (R120). -/
def State.touchHit (s : State) (c line : Nat) : State :=
  match s.l1Find c false line with
  | none => s.dcTouch (dieOf c) line
  | some _ =>
    let s := match s.l0Find c line with | some e => s.l0Touch c e | none => s
    match s.l1Way c false line with | some w => s.l1Touch c false line w | none => s

def State.wtStore (s : State) (a : Acc) : State :=
  ((each a.cores (fun s c => s.touchHit c a.line) s).countAcc a 0x10).sendDirect a a.dieUnit .wtWrite (maskFor a.off a.size)
    (linePut 0 a.off a.size a.data) default

def State.farAtomic (s : State) (a : Acc) : State :=
  (s.countAcc a 0x0F).sendDirect a a.dieUnit .farAtomic (maskFor a.off a.size) 0 a.aop

/-! ## Cached accesses -/

/-- The L1 sector of core c for a line the Die Cache holds, filled if need be; none where the L1 cannot allocate now;
way 8 where it does not allocate (R146). -/
def State.l1Sector (s : State) (c : Nat) (i : Bool) (line : Nat) (data : Line) : Option (State × Nat × Line) :=
  match s.l1Find c i line, s.l1Way c i line with
  | some (_, x), some w => some (s.l1Touch c i line w, w, x.data)
  | _, _ =>
    if s.noAlloc c then some (s, 8, data)
    else match s.l1Alloc c i line with
      | none => none
      | some (s, w) => some (s.l1Fill c i line w data false, w, data)

def State.waitAcc (s : State) (a : Acc) : State := s.onCache fun k => { k with waitL1 := k.waitL1 ++ [a] }

/-- A cached load or fetch: L0, L1, the Die Cache, or a miss. -/
def State.cachedLoad (s : State) (a : Acc) : State :=
  let i := decide (a.src = .fetch)
  let d := dieOf a.core
  match s.l1Find a.core i a.line with
  | some (_, x) =>
    let s := if i then s else
      match s.l0Find a.core a.line with
      | some e => (s.count a.core 3 a.user).l0Touch a.core e
      | none => (s.count a.core 4 a.user).l0Alloc a.core a.line
    let s := match s.l1Way a.core i a.line with | some w => s.l1Touch a.core i a.line w | none => s
    s.deliver a (lineGet x.data a.off a.size)
  | none =>
    let s := if i then s else s.count a.core 4 a.user
    match s.dcHit d a.line a.part with
    | some _ =>
      let s := (s.cleanL1s d a.line).dcTouch d a.line
      match s.l1Sector a.core i a.line ((s.dcFind d a.line).getD default).data with
      | none => s.waitAcc a
      | some (s, w, x) => (if i || w = 8 then s else s.l0Alloc a.core a.line).deliver a (lineGet x a.off a.size)
    | none =>
      if s.f (R.DC_CTL d) F.DC_CTL_EN = 0 then s.ucSend a else s.l1MissAcc a .rdShared

/-- The new value of a line under a store or a near atomic. -/
def Acc.writes (a : Acc) (old : Line) : Line :=
  if a.src = .atomic then linePut old a.off a.size (atApply a.aop (lineGet old a.off a.size)) else linePut old a.off a.size a.data

/-- A cached store or near atomic (R130, R205): it updates L1D under M, or the Die Cache where L1D does not allocate. A hit in L0 or L1D
updates their trees, one that misses L1D the Die Cache's (R120). While DC_CTL.EN = 0 a miss is a UC_RD, UC_WR or UC_ATOMIC of its core:
DESIGN CHOICE, log entry 82. -/
def State.cachedStore (s : State) (a : Acc) : State :=
  let d := dieOf a.core
  let s := s.count a.core 4 a.user
  match s.dcHit d a.line a.part with
  | none =>
    if s.f (R.DC_CTL d) F.DC_CTL_EN = 0 then s.ucSend a else s.l1MissAcc a .rdUnique
  | some l =>
    if l.coh = .s || l.coh = .o then s.l1MissAcc a .upgrade
    else
      let s := match s.l1Find a.core false a.line, s.l0Find a.core a.line with
        | none, _ => s.dcTouch d a.line
        | some _, some e => s.l0Touch a.core e
        | some _, none => s
      let s := (s.purgeL1s d a.line (some a.core) false).dcUpd d a.line fun l => { l with coh := .m }
      match s.l1Sector a.core false a.line ((s.dcFind d a.line).getD default).data with
      | none => s.waitAcc a
      | some (s, w, old) =>
        let new := a.writes old
        let s := if w = 8 then s.dcUpd d a.line fun l => { l with data := new }
          else s.onCache fun k => k.setSec false (secKey a.core a.line w) { valid := true, dirty := true, data := new }
        if a.src = .atomic then (s.count a.core 0x0E a.user).deliver a (lineGet old a.off a.size) else s.deliver a 0

/-- The contention predictor's index (R220). -/
def predIdx (c line : Nat) : Nat := c * 1024 + (line % 1024 ^^^ line / 1024 % 1024)

/-- R220: near where L1D holds the line under M; else the hub's policy for the partition, then the predictor. -/
def State.atomicIsNear (s : State) (a : Acc) : Bool :=
  let d := dieOf a.core
  let held := (s.l1Find a.core false a.line).isSome
    && (match s.dcHit d a.line a.part with | some l => l.coh = .m | none => false)
  if held then true
  else match s.f (R.ATOM_POLICY (hubOfDie d)) F.ATOM_POLICY_POLICY / 4 ^ a.part % 4 with
    | 1 => true
    | 2 => false
    | _ => s.cache.predictor.get (predIdx a.core a.line) < 2

/-- A WT read of a line that its die holds dirty, or does not hold, or shares where another die may hold it dirty, first has the home collect
the dirty data (R131, R133); one that meets a fill in flight waits for it first. DEDUCED, log entry 82. -/
def State.mustClean (s : State) (a : Acc) (fresh : Bool) : Bool :=
  let d := dieOf a.core
  a.attr = .wt && match s.dcHit d a.line a.part with
    | some l => l.coh = .m || l.coh = .o || (fresh && l.coh = .s && !l.clean)
    | none => fresh && s.f (R.DC_CTL d) F.DC_CTL_EN = 1 && !s.cache.dcMiss.any fun m => m.die = d && m.line = a.line

/-- A cached read, under WT after a CMO_CLEAN of its line. fresh: it has not been sent yet. -/
def State.readAcc (s : State) (a : Acc) (fresh : Bool) : State :=
  if s.mustClean a fresh then s.sendDirect a (0xF0 + dieOf a.core) .cmoClean 0 0 default else s.cachedLoad a

/-- An access to DRAM that passed decoding, by its attribute (R130, R134, R93). -/
def State.dramAcc (s : State) (a : Acc) : State :=
  let twin := s.isTwin a.part
  match a.src, a.attr with
  | .atomic, .uc => s.ucAcc a
  | .atomic, .dev => s.failAcc a
  | _, .uc => s.ucAcc a
  | _, .dev => s.ucAcc a
  | .atomic, .wt => s.farAtomic a
  | .atomic, .wb => if twin || !s.atomicIsNear a then s.farAtomic a else s.cachedStore a
  | .store, .wt => s.wtStore a
  | .store, .wb => if twin then s.wtStore a else s.cachedStore a
  | _, _ => s.readAcc a true

/-- A store that is sent to the home as a write-through, of which an earlier one of its core is held (R131). -/
def State.wtBehind (s : State) (a : Acc) : Bool :=
  let wt (x : Acc) : Bool := x.src = .store && (x.attr = .wt || (x.attr = .wb && s.isTwin x.part))
  wt a && s.cache.waitL1.any fun b => wt b && b.meets a

/-- A new access to DRAM: one for a line that a maintenance operation waits for is held (R143). -/
def State.dramReq (s : State) (a : Acc) : State :=
  if s.cmoHeld a.core a.line (decide (a.src = .fetch)) || s.wtBehind a then s.waitAcc a else s.dramAcc a

/-- An access whose miss has been served; an atomic that went near executes near (R220). -/
def State.servedAcc (s : State) (a : Acc) : State :=
  if a.src = .atomic && a.attr = .wb && !s.isTwin a.part then s.cachedStore a else s.dramAcc a

/-! ## Arrivals at a Die Cache (R214) -/

/-- Perform again the accesses of a die that waited for a miss register, a merge place or a way. -/
def State.retryWaiting (s : State) (d : Nat) : State :=
  let l1 := s.cache.waitL1.filter fun a => dieOf a.core = d
  let dc := s.cache.waitDc.filter fun m => m.die = d
  let s := s.onCache fun k => { k with waitL1 := k.waitL1.filter (fun a => dieOf a.core != d)
                                       waitDc := k.waitDc.filter (fun m => m.die != d) }
  let s := each dc State.openMiss s
  each l1 State.dramReq s

def Acc.descWord (line : Line) (desc : Nat) : Word := (lineGet line (desc % 64) 8).setWidth 64

/-- A walker's descriptor read returns (R158). denied: the home refused the partition. -/
def State.walkGot (s : State) (d line : Nat) (ws : List (Nat × Nat)) (v : Option Line) (denied : Bool := false) : State :=
  let mark (w : Walk) : Walk :=
    if dieOf w.core = d && w.desc / 64 = line && ws.contains (w.core, w.n) && w.got = none && !w.held then
      { w with got := some (v.map fun l => Acc.descWord l w.desc), denied := denied } else w
  s.onXlat fun x => { x with walks := x.walks.map mark }

/-- The accesses of a line's L1 miss registers, in the order the L1s merged; the registers are freed. -/
def State.takeL1 (s : State) (m : DcMiss) : State × List Acc :=
  let of (e : Nat × Bool) := s.cache.l1miss.filter fun q => q.core = e.1 && q.instr = e.2 && q.line = m.line
  (s.onCache fun k => { k with l1miss := k.l1miss.filter (fun q => !(q.line = m.line && m.l1s.contains (q.core, q.instr))) },
   (m.l1s.flatMap of).flatMap fun q => q.accs)

def State.dropMiss (s : State) (m : DcMiss) : State :=
  s.onCache fun k => { k with dcMiss := k.dcMiss.filter fun q => !(q.die = m.die && q.line = m.line) }

/-- The data due to a miss, once the grant is there: an UPGRADE that is owed none goes on with its own copy; so does one that holds the line
in O, whose data memory does not have, once what it is owed has come (R214, R225). -/
def State.missData (s : State) (m : DcMiss) : Option (Coh × Line) :=
  if m.op != .upgrade then m.got
  else if m.due && m.got = none then none
  else match s.dcFind m.die m.line with
    | none => m.got
    | some l => if l.coh = .o then some (.m, l.data) else match m.got with
      | some x => some x
      | none => some (.e, l.data)

/-- Both the data and the grant are there: install the line, send COMP_ACK, serve what waited. -/
def State.missTry (s : State) (d line : Nat) : State :=
  match s.cache.dcMiss.find? fun m => m.die = d && m.line = line with
  | none => s
  | some m =>
    match m.grant, s.missData m with
    | some cont, some (c, data) =>
      let pres := match s.dcFind d line with | some l => l.presence | none => 0
      let data := if m.op = .upgrade && (m.got = none || c = .m) && (s.dcFind d line).isSome then ((s.cleanL1s d line).dcFind d line).map (·.data) |>.getD data else data
      let s := s.dcSet d m.way { line := line, coh := c, part := m.part, presence := pres, data := data, clean := false } line
      let s := match m.atomicBy with
        | some k => when cont (fun s => s.onCache fun q =>
            { q with predictor := q.predictor.upd (predIdx k line) fun n => min (n + 1) 3 }) s
        | none => s
      let key := d * 65536 + dcSetOf line
      let s := s.onCache fun k => { k with dcTree := k.dcTree.put key (plruTouch 4 (k.dcTree.get key) m.way) }
      let s := (s.dropMiss m).send (.coh { (default : CMsg) with op := .compAck, line := line, src := s.dieUnit d,
                                                                 dst := s.homeUnit line, txn := m.txn, part := m.part })
      let s := s.walkGot d line m.walks (some data)
      let (s, accs) := s.takeL1 m
      -- a WT line is never held in O: what a write-back buffer gave goes on to the home first (R131, R133)
      let s := if c = .o && accs.any fun a => a.attr = .wt then s.dcEvict d line else s
      (each accs State.servedAcc s).retryWaiting d
    | _, _ => s

/-- The request failed: bus errors for all that merged. -/
def State.missFail (s : State) (m : DcMiss) (denied : Bool := false) : State :=
  let s := (s.dropMiss m).walkGot m.die m.line m.walks none denied
  let (s, accs) := s.takeL1 m
  (each accs State.failAcc (each m.l1s (fun s e => s.l1Tidy e.1 e.2 m.line) s)).retryWaiting m.die

def State.missOf (s : State) (m : CMsg) : Option DcMiss :=
  s.cache.dcMiss.find? fun q => 0xF0 + q.die = m.dst.unit && m.dst.pkg = s.pkg && q.txn = m.txn && q.sent

def State.directOf (s : State) (m : CMsg) : Option Direct :=
  s.cache.direct.find? fun q => q.unit = m.dst.unit && m.dst.pkg = s.pkg && q.txn = m.txn && q.sent

def State.dropDirect (s : State) (q : Direct) : State := s.onCache fun k => { k with direct := k.direct.erase q }

/-- Data of a grant reaches its requester (DATA_S, DATA_E, DATA_M, DATA_O). -/
def State.grantData (s : State) (d : Nat) (m : CMsg) (c : Coh) : State :=
  match s.cache.dcMiss.find? fun q => q.die = d && q.txn = m.txn && q.line = m.line && q.sent with
  | none => s
  | some q =>
    (s.onCache fun k => { k with dcMiss := k.dcMiss.map fun x =>
      if x.die = d && x.line = q.line then { x with got := some (c, m.data) } else x }).missTry d q.line

/-- A WT store is complete: the copies on the writing die, or on both members' dies, take the data (R131, R93, R98). Those in the L1s of
another pair take it as a stamped input (R94). -/
def State.wtDone (s : State) (a : Acc) : State :=
  let upd (x : Line) : Line := linePut x a.off a.size a.data
  let own (c : Nat) : Bool := s.isTwin a.part && c % 120 = a.core % 120
  let held (s : State) (d : Nat) : List (Nat × Bool) := match s.dcFind d a.line with | some l => presentL1s d l.presence | none => []
  let pairs := ((((s.accDies a).flatMap (held s)).map (·.1)).filter fun c => s.paired (s.corePart c) c && !own c).map fun c => c % 120
  let s := each (s.accDies a) (fun s d =>
    each ((held s d).filter fun e => !pairs.contains (e.1 % 120)) (fun s e =>
      match s.l1Find e.1 e.2 a.line with
      | some (key, x) => s.onCache fun k => k.setSec e.2 key { x with data := upd x.data }
      | none => s) (s.dcUpd d a.line fun l => { l with data := upd l.data })) s
  (each pairs.eraseDups (fun s c => s.twinUpdate c a.line (maskFor a.off a.size) (linePut 0 a.off a.size a.data)) s).deliver a 0

end Sys2Proof.Machine
end

