-- ==== Sys2Proof/Machine/Codec.lean ====
section
/-! DEFINITION. GF(2^8) arithmetic with polynomial 0x11D, the line code (R243 to R246), the page code's coefficients
(R247), and CRC-32C (R185). -/

namespace Sys2Proof.Machine

/-- Multiply by x modulo 0x11D. -/
def gfX (a : Nat) : Nat := if 128 ≤ a then (a * 2) ^^^ 0x11D else a * 2

/-- Product of a and the low n bits of b. -/
def gfMulN : Nat → Nat → Nat → Nat
  | 0, _, _ => 0
  | n + 1, a, b => (if b.testBit 0 then a else 0) ^^^ gfMulN n (gfX a) (b / 2)

def gfMul (a b : Nat) : Nat := gfMulN 8 a b

def gfPow (a : Nat) : Nat → Nat
  | 0 => 1
  | n + 1 => gfMul a (gfPow a n)

/-- a^254: the inverse of a nonzero element. -/
def gfInv (a : Nat) : Nat :=
  let a2 := gfMul a a; let a4 := gfMul a2 a2; let a8 := gfMul a4 a4; let a16 := gfMul a8 a8
  let a32 := gfMul a16 a16; let a64 := gfMul a32 a32; let a128 := gfMul a64 a64
  gfMul a2 (gfMul a4 (gfMul a8 (gfMul a16 (gfMul a32 (gfMul a64 a128)))))

/-- Solve linear equations over GF(2^8). Each row holds n coefficients and the right-hand side; none where they are
singular or inconsistent. -/
def gfSolve : Nat → List (List Nat) → Option (List Nat)
  | 0, rows => if rows.all (fun r => r.headD 0 = 0) then some [] else none
  | n + 1, rows =>
    match rows.find? (fun r => r.headD 0 != 0) with
    | none => none
    | some p =>
      let k := gfInv (p.headD 0)
      let p' := p.tail.map (gfMul k)
      let rest := (rows.erase p).map fun r => List.zipWith (fun x y => x ^^^ gfMul (r.headD 0) y) r.tail p'
      match gfSolve n rest with
      | none => none
      | some xs => some ((List.zipWith gfMul p' xs).foldl (· ^^^ ·) (p'.getLastD 0) :: xs)

/-! ## Line code -/

/-- The 16 lower coefficients of the generator polynomial, highest power first (R243). -/
def rsGen : List Nat :=
  ((List.range 16).foldl (fun g k =>
    List.zipWith (· ^^^ ·) (g ++ [0]) (0 :: g.map (gfMul (gfPow 2 k)))) [1]).tail

def rsStep (rem : List Nat) (d : Nat) : List Nat :=
  let fb := d ^^^ rem.headD 0
  List.zipWith (fun r g => r ^^^ gfMul fb g) (rem.tail ++ [0]) rsGen

def storedByte (x : Stored) (i : Nat) : Nat := (x.toNat >>> (8 * i)) % 256
def storedBytes (x : Stored) : List Nat := (List.range 80).map (storedByte x)
def ofBytes (l : List Nat) : Nat := l.foldr (fun b a => b % 256 + 256 * a) 0

/-- The check bytes of 64 data bytes; codeword byte i is the coefficient of x^(79 - i) (log entry 13). -/
def rsCheck (data : List Nat) : List Nat := data.foldl rsStep (List.replicate 16 0)

/-- The stored bytes of 64 data bytes. -/
def rsEncode (data : Line) : Stored :=
  let d := (List.range 64).map (lineByte data)
  BitVec.ofNat 640 (ofBytes (d ++ rsCheck d))

def storedData (x : Stored) : Line := x.setWidth 512

/-- Syndrome k: the codeword polynomial at α^k. -/
def rsSyndrome (x : Stored) (k : Nat) : Nat := (storedBytes x).foldl (fun a b => gfMul a (gfPow 2 k) ^^^ b) 0
def rsSyndromes (x : Stored) : List Nat := (List.range 16).map (rsSyndrome x)

/-- Correct an error that lies wholly in one device's 8 bytes; none where the syndromes show another error. -/
def rsFixDevice (x : Stored) (dev : Nat) : Option Stored :=
  let syn := rsSyndromes x
  let rows := (List.range 16).map fun k =>
    ((List.range 8).map fun b => gfPow (gfPow 2 k) (79 - (8 * dev + b))) ++ [syn.getD k 0]
  match gfSolve 8 rows with
  | none => none
  | some e => some (x ^^^ BitVec.ofNat 640 (ofBytes e <<< (64 * dev)))

/-- The poison marker (R246). -/
def poisonMarker : Stored := BitVec.ofNat 640 (ofBytes (List.replicate 64 0 ++ List.replicate 16 0xA5))

/-- Bytes of a device of the subchannel (R243). -/
def devBytes (x : Stored) (dev : Nat) : Nat := (x.toNat >>> (64 * dev)) % 2 ^ 64

/-- The marker, or a line that differs from it within one device only. -/
def isPoison (x : Stored) : Bool := countOf (List.range 10) (fun d => devBytes x d != devBytes poisonMarker d) ≤ 1

/-- What a read of a line gives (R244). -/
inductive LineRes where
  | clean
  | poisoned
  | corrected (dev : Nat) (x : Stored)
  | failed
  deriving DecidableEq, Repr

/-- Decode 80 stored bytes; out is the device mapped out for the line's subchannel and rank (R245). -/
def lineDecode (x : Stored) (out : Option Nat) : LineRes :=
  if (rsSyndromes x).all (· = 0) then .clean
  else if isPoison x then .poisoned
  else
    let cands := match out with | some d => [d] | none => List.range 10
    match cands.findSome? fun d => (rsFixDevice x d).map fun y => (d, y) with
    | some (d, y) => .corrected d y
    | none => .failed

/-! ## Page code -/

/-- c(j, i) of R247. -/
def pageCoef (j i : Nat) : Nat := gfInv (j ^^^ (i + 8))

def gfScaleLine (c : Nat) (l : Line) : Line :=
  BitVec.ofNat 512 (ofBytes ((List.range 64).map fun b => gfMul c (lineByte l b)))

/-- The data bytes of row j of a page (R247); its check bytes are its own line code's (log entry 14). -/
def pageRow (lines : List Line) (j : Nat) : Line :=
  (lines.zipIdx).foldl (fun a e => a ^^^ gfScaleLine (pageCoef j e.2) e.1) 0

/-- Solve the failed data lines of a page. lines: the 64 data lines (those in lost are not used); rows: the good parity
rows with their numbers. -/
def pageSolve (lines : List Line) (lost : List Nat) (rows : List (Nat × Line)) : Option (List Line) :=
  let known := (lines.zipIdx).filter fun e => !lost.contains e.2
  let rhs := rows.map fun r => (r.1, known.foldl (fun a e => a ^^^ gfScaleLine (pageCoef r.1 e.2) e.1) r.2)
  let byteSol (b : Nat) : Option (List Nat) :=
    gfSolve lost.length (rhs.map fun r => lost.map (pageCoef r.1) ++ [lineByte r.2 b])
  match (List.range 64).mapM byteSol with
  | none => none
  | some cols => some ((List.range lost.length).map fun k => BitVec.ofNat 512 (ofBytes (cols.map fun c => c.getD k 0)))

/-! ## CRC-32C (R185) -/

def crcStep (c : Nat) (b : Bool) : Nat :=
  let x := c.testBit 31 != b
  ((c * 2) % 2 ^ 32) ^^^ (if x then 0x1EDC6F41 else 0)

/-- CRC-32C over the 608 bits of a flit, bit 0 first, inverted. R185 gives no order of the register's bits in flit bits [639:608]: its bit 31 is flit
bit 639, as shifted, not reflected (DESIGN CHOICE, log entry 94). -/
def flitCrc (v : BitVec 608) : BitVec 32 :=
  ~~~ BitVec.ofNat 32 ((List.range 608).foldl (fun c i => crcStep c (v.getLsbD i)) 0xFFFFFFFF)

end Sys2Proof.Machine
end

