-- ==== Sys2Proof/Machine/DramOps.lean ====
section
/-! DEFINITION. Stored lines of DRAM, the parity cache, reads and writes under the line code and the page code, device
counts, and encryption (R243 to R257). -/

namespace Sys2Proof.Machine

/-! ## Stored bytes. The cell of byte b of channel-local line l of channel c is (c * 2^34 + l) * 128 + b; a byte that is not
listed reads 0, which is what initialisation writes (R265). -/

def cellKey (c l b : Nat) : Nat := (c * 2 ^ 34 + l % 2 ^ 34) * 128 + b

abbrev Mem := List Host.Cell

def Mem.byte (m : Mem) (k : Nat) : Byte := SMap.get m k
def Mem.setByte (m : Mem) (k : Nat) (v : Byte) : Mem := SMap.put m k v

/-- Addresses rise strictly and no entry equals what an unlisted address reads as. -/
def Mem.wf (m : Mem) : Bool := SMap.wf m

def Mem.line (m : Mem) (c l : Nat) : Stored :=
  BitVec.ofNat 640 (ofBytes ((List.range 80).map fun b => (Mem.byte m (cellKey c l b)).toNat))

def Mem.setLine (m : Mem) (c l : Nat) (x : Stored) : Mem :=
  (List.range 80).foldl (fun m b => Mem.setByte m (cellKey c l b) (BitVec.ofNat 8 (storedByte x b))) m

def State.stored (s : State) (c l : Nat) : Stored := Mem.line s.dram.mem c l

/-- A rank in power-down is taken out of it by its first access, whoever makes it (R259). -/
def State.wakeRank (s : State) (c rank : Nat) : State :=
  let pd := s.f (R.MC_PD_STAT c) F.MC_PD_STAT_IN_PD
  if bit pd rank then s.setF (R.MC_PD_STAT c) F.MC_PD_STAT_IN_PD (clearBit pd rank) else s

/-- A failed channel performs no further access (R266). -/
def State.chanGone (s : State) (c : Nat) : Bool := s.f (R.MC_STAT c) F.MC_STAT_STATE = 6

def lineKey (c l : Nat) : Nat := c * 2 ^ 34 + l

/-- A resynchronisation has given the line up: it stays failed until it is written (R253). -/
def State.isLost (s : State) (c l : Nat) : Bool := s.dram.lost.contains (lineKey c l)

/-- Write stored bytes where they lie. -/
def State.setStored (s : State) (c l : Nat) (x : Stored) : State :=
  if s.chanGone c then s
  else (s.wakeRank c (s.rankOf c l)).onDram fun d => { d with
    mem := Mem.setLine d.mem c l x, lost := d.lost.filter (· != lineKey c l) }

/-! ## Devices (R245) -/

def State.devOut (s : State) (c l : Nat) : Option Nat :=
  let b := bits (s.reg (R.MC_DEV_OUT c)) (8 * (2 * s.rankOf c l + subchOf l)) 8
  if 128 ≤ b then some (b % 16) else none

def devKey (c rank sub dev : Nat) : Nat := ((c * 4 + rank) * 2 + sub) * 16 + dev

/-- Map a device out, with its record; at most one per subchannel and rank. -/
def State.mapOutDev (s : State) (c rank sub dev : Nat) : State :=
  let lo := 8 * (2 * rank + sub)
  let w := s.reg (R.MC_DEV_OUT c)
  if 128 ≤ bits w lo 8 then s
  else (s.setReg (R.MC_DEV_OUT c) (w ||| BitVec.ofNat 64 ((128 + dev) <<< lo))).record E.MEM_DEV_OUT 3 c [] none
    (rank % 4 + sub % 2 * 4 + dev % 16 * 16)

/-- A device-corrected line is counted; the map-out at the threshold is a step of its own (MEM_DEV_OUT). -/
def State.countDev (s : State) (c l dev : Nat) : State :=
  let s := s.incF (R.MC_ERR_CNT c) F.MC_ERR_CNT_CORR_DEV
  s.onDram fun d => { d with devCnt := d.devCnt.upd (devKey c (s.rankOf c l) (subchOf l) dev) (· + 1) }

/-! ## Reading one line -/

/-- Decode a line where it lies; a corrected one is written back (R244). The result holds the usable stored bytes, of a poisoned line the
marker's (R247). -/
def State.readLine (s : State) (c l : Nat) : State × LineRes × Stored :=
  if s.chanGone c then (s, .failed, 0) else
  let x := s.stored c l
  let s := s.wakeRank c (s.rankOf c l)
  match lineDecode x (s.devOut c l) with
  | .corrected dev y => (((s.setStored c l y).countDev c l dev), .clean, y)
  | .poisoned => (s, .poisoned, poisonMarker)
  | r => (s, r, x)

/-- The data bytes with which a line takes part in its page's rows: as stored, a poisoned line as the marker's (R247). -/
def State.pageBytes (s : State) (c l : Nat) : Line :=
  if s.chanGone c then 0
  else match lineDecode (s.stored c l) (s.devOut c l) with
  | .poisoned => storedData poisonMarker
  | _ => storedData (s.stored c l)

/-! ## Parity cache (R254) -/

def pcSet (l : Nat) : Nat := l % 1024
def pcKey (h set way : Nat) : Nat := (h * 1024 + set) * 16 + way

def State.pcWay (s : State) (c l : Nat) : Option Nat :=
  (List.range 16).find? fun w =>
    let p := s.dram.pcache.get (pcKey (hubOfChan c) (pcSet l) w)
    p.valid && p.ch = c && p.addr = l

/-- Write a dirty parity line to its slot. -/
def State.pcFlush (s : State) (key : Nat) : State :=
  let p := s.dram.pcache.get key
  if p.valid && p.dirty then
    (s.setStored p.ch p.addr p.data).onDram fun d => { d with pcache := d.pcache.put key { p with dirty := false } }
  else s

def State.pcTouch (s : State) (h set way : Nat) : State :=
  s.onDram fun d => { d with pcTree := d.pcTree.put (h * 1024 + set) (plruTouch 4 (d.pcTree.get (h * 1024 + set)) way) }

/-- Hub h's PARITY_CACHE test runs: parity is served from DRAM (R425). -/
def State.pcTested (s : State) (h : Nat) : Bool :=
  s.f (R.ASSAY_STAT (12 + h)) F.ASSAY_STAT_STATE = 3 && s.err.assayTest = 1 && bit (s.err.assayTests.get (12 + h)) 1 &&
    s.err.assayRes.isNone

/-- Put a parity line into the cache, evicting a victim. -/
def State.pcInsert (s : State) (c l : Nat) (x : Stored) (dirty : Bool) : State :=
  let h := hubOfChan c
  let set := pcSet l
  let w := match s.pcWay c l with
    | some w => w
    | none =>
      match (List.range 16).find? fun w => !(s.dram.pcache.get (pcKey h set w)).valid with
      | some w => w
      | none => (plruPick 4 (s.dram.pcTree.get (h * 1024 + set)) 1 (fun _ => true) 0).getD 0
  let s := if s.pcWay c l = some w then s else s.pcFlush (pcKey h set w)
  let p : PLine := { valid := true, ch := c, addr := l, dirty := dirty, data := x }
  (s.onDram fun d => { d with pcache := d.pcache.put (pcKey h set w) p }).pcTouch h set w

/-- A parity line read or written: into the cache, or past one under test. -/
def State.pcPut (s : State) (c l : Nat) (x : Stored) (dirty : Bool) : State :=
  if s.pcTested (hubOfChan c) then (if dirty then s.setStored c l x else s) else s.pcInsert c l x dirty

/-- Read a parity line through the cache. A line read from its slot that fails its line code is a failed line. -/
def State.readParity (s : State) (c l : Nat) : State × LineRes × Stored :=
  match s.pcWay c l with
  | some w =>
    let s := (s.incF (R.MC_PC_STAT c) F.MC_PC_STAT_HITS).pcTouch (hubOfChan c) (pcSet l) w
    (s, .clean, (s.dram.pcache.get (pcKey (hubOfChan c) (pcSet l) w)).data)
  | none =>
    let s := s.incF (R.MC_PC_STAT c) F.MC_PC_STAT_MISSES
    match s.readLine c l with
    | (s, .clean, x) => (s.pcPut c l x false, .clean, x)
    | r => r

/-! ## Pages -/

/-- The strength a page is read and written under: PREV_S for the pages of a restripe still to come (R255). -/
def State.pageStrength (s : State) (line : Nat) : Nat :=
  match s.regionOf line with
  | none => 0
  | some r =>
    let b := R.MR_BASE 0 r
    let idx := (line - s.f b F.MR_BASE_BASE * 2 ^ 15) / 64
    let running := s.f (R.MC_RESTRIPE 0) F.MC_RESTRIPE_BUSY = 1 && s.f (R.MC_RESTRIPE 0) F.MC_RESTRIPE_REGION = r
    if (running && s.f (R.MC_RESTRIPE 0) F.MC_RESTRIPE_DONE_PAGES ≤ idx) || s.dram.restripePend.contains r then
      s.f b F.MR_BASE_PREV_S
    else s.f b F.MR_BASE_STRENGTH

/-- The channel and local line of each data line of the page of an offset. -/
def State.pageLoc (s : State) (off : Nat) : List (Nat × Nat) := (pageLines off).filterMap s.chanOf

/-- The parity slots of rows 0 to n - 1 of that page. -/
def State.rowLoc (s : State) (off n : Nat) : List (Nat × Nat) :=
  match s.pageOf off with
  | none => []
  | some (c, P, _) => (List.range n).map (s.paritySlot c P)

structure PageRead where
  data : List (LineRes × Stored)
  rows : List (LineRes × Stored)
  deriving Repr, Inhabited

/-- Read every data line and every row of a page under R244. A device-corrected line is written back corrected here, also where the page then
proves uncorrectable: R244 writes every such line back, while step 3 of R249 says that nothing is written back (DESIGN CHOICE, log entry 92).
The row that a rebuild serves has failed in its slot, whatever the parity cache holds of it (R262). -/
def State.readPage (s : State) (off n : Nat) (want : Option (Nat × Nat)) : State × PageRead :=
  let (s, data) := (s.pageLoc off).foldl (fun (a : State × List (LineRes × Stored)) e =>
    let (s, r, x) := a.1.readLine e.1 e.2
    (s, a.2 ++ [(r, x)])) (s, [])
  let (s, rows) := (s.rowLoc off n).foldl (fun (a : State × List (LineRes × Stored)) e =>
    let (s, r, x) := a.1.readParity e.1 e.2
    (s, a.2 ++ [(if want = some e then .failed else r, x)])) (s, [])
  (s, { data := data, rows := rows })

def failedIdx (l : List (LineRes × Stored)) : List Nat := (l.zipIdx.filter fun e => e.1.1 = .failed).map (·.2)

/-- R249 step 2: solve the failed lines of a page and write them back; none where more than n have failed, or where the line it serves is
one that a resynchronisation has given up. Another such line counts among the failed ones and stays as it is. The answer also gives the number
of lines rebuilt. -/
def State.rebuildPage (s : State) (off n : Nat) (want : Option (Nat × Nat)) : State × Option Nat :=
  let (s, p) := s.readPage off n want
  let bad := failedIdx p.data
  let lost := bad.filter fun i => !((s.pageLoc off)[i]?.any fun e => s.isLost e.1 e.2)
  let lostRows := failedIdx p.rows
  if n < bad.length + lostRows.length || want.any fun e => s.isLost e.1 e.2 then (s, none)
  else
    let lines := p.data.map fun e => storedData e.2
    let good := (p.rows.zipIdx.filter fun e => e.1.1 != .failed).map fun e => (e.2, storedData e.1.2)
    match pageSolve lines lost good with
    | none => (s, none)
    | some sol =>
      let s := each (lost.zip sol) (fun s e =>
        match (s.pageLoc off)[e.1]? with
        | some (c, l) => (s.setStored c l (rsEncode e.2)).incF (R.MC_ERR_CNT c) F.MC_ERR_CNT_CORR_PAGE
        | none => s) s
      let full := (s.pageLoc off).map fun e => s.pageBytes e.1 e.2
      let s := each lostRows (fun s j =>
        match (s.rowLoc off n)[j]? with
        | some (c, l) => ((s.pcPut c l (rsEncode (pageRow full j)) false).setStored c l (rsEncode (pageRow full j))).incF
            (R.MC_ERR_CNT c) F.MC_ERR_CNT_CORR_PAGE
        | none => s) s
      (s, some (lost.length + lostRows.length))

/-- The failed lines of a page stay failed from here on: their bytes are lost, and the parity agrees with what is stored (R253; log entry
92). -/
def State.giveUp (s : State) (off : Nat) : State :=
  each (s.pageLoc off) (fun s e =>
    if lineDecode (s.stored e.1 e.2) (s.devOut e.1 e.2) = .failed then s.onDram fun d => { d with lost := addOnce d.lost (lineKey e.1 e.2) }
    else s) s

/-- R253: compute rows afresh from the stored bytes as they stand, and record it. -/
def State.resyncPage (s : State) (off n ch addr : Nat) (part : Nat) : State :=
  let full := (s.pageLoc off).map fun e => s.pageBytes e.1 e.2
  let s := each ((s.rowLoc off n).zipIdx) (fun s e =>
    let x := rsEncode (pageRow full e.2)
    (s.pcPut e.1.1 e.1.2 x false).setStored e.1.1 e.1.2 x) s
  (s.giveUp off).record E.MEM_PAGE_RESYNC 3 ch [part] (some addr) 0

/-- R250: an uncorrectable read is counted and recorded. addr is the physical address, none for a carve-out line. -/
def State.memUe (s : State) (c l : Nat) (addr : Option Nat) (part : Nat) : State :=
  let x := s.stored c l
  let syn := (List.range 8).map (rsSyndrome x)
  let s := s.incF (R.MC_ERR_CNT c) F.MC_ERR_CNT_UE
  let s := s.setF (R.MC_UE_LAST c) F.MC_UE_LAST_RANK (s.rankOf c l)
  let s := s.setF (R.MC_UE_LAST c) F.MC_UE_LAST_SUBCH (subchOf l)
  let s := s.setF (R.MC_UE_LAST c) F.MC_UE_LAST_PA (addr.getD 0 / 64)
  let s := s.setReg (R.MC_UE_SYN c) (BitVec.ofNat 64 (ofBytes syn))
  s.record E.MEM_UE 3 c [part] addr (s.rankOf c l % 4 + subchOf l * 4 + ofBytes (syn.take 6) * 2 ^ 16)

/-! ## Encryption (R256) -/

/-- The key slot of a line: its owner's, or while a transfer runs the one its region had before it (R303). -/
def State.keySlotOf (s : State) (line : Nat) : Nat :=
  match (s.sec.xfers.flatMap (·.olds)).find? fun o => o.1 ≤ line && line < o.1 + o.2.1 with
  | some o => o.2.2
  | none => s.lineOwner line

def State.keyOf (s : State) (line : Nat) : BitVec 512 := s.dram.keysOf.get (s.keySlotOf line)
def State.encrypt (s : State) (line : Nat) (x : Line) : Line := Config.xts (s.keyOf line) line x
def State.decrypt (s : State) (line : Nat) (x : Line) : Line := (Config.xts (s.keyOf line) line).symm x

/-! ## Writing one line (R252, R253) -/

/-- A row that has just been read. -/
def State.rowNow (s : State) (c l : Nat) : Stored :=
  match s.pcWay c l with
  | some w => (s.dram.pcache.get (pcKey (hubOfChan c) (pcSet l) w)).data
  | none => s.stored c l

/-- Add the change of line i to each row of its page, as mendRows has read them. -/
def State.updateRows (s : State) (off n i : Nat) (delta : Line) : State :=
  each ((s.rowLoc off n).zipIdx) (fun s e =>
    s.pcPut e.1.1 e.1.2 (rsEncode (storedData (s.rowNow e.1.1 e.1.2) ^^^ gfScaleLine (pageCoef e.2 i) delta)) true) s

/-- How a write ended: written; the old line was uncorrectable and the write was partial; or it was poisoned. -/
inductive WrRes where
  | done
  | ue
  | poisoned
  deriving DecidableEq, Repr

/-- Write stored bytes over a line whose old bytes are known, with its rows. -/
def State.putLine (s : State) (off c l n i : Nat) (old new : Stored) : State :=
  ((if n = 0 then s else s.updateRows off n i (storedData old ^^^ storedData new))).setStored c l new

/-- Rows that fail their line code are rebuilt before an update; the flag says that the page must be resynchronised. -/
def State.mendRows (s : State) (off n ch addr part : Nat) : State × Bool :=
  let (s, bad) := (s.rowLoc off n).foldl (fun (a : State × Bool) e =>
    let (s, r, _) := a.1.readParity e.1 e.2
    (s, a.2 || r = .failed)) (s, false)
  if !bad then (s, false)
  else match s.rebuildPage off n none with
    | (s, some k) => (s.record E.MEM_PAGE_REBUILD 3 ch [part] (some addr) k, false)
    | (s, none) => (s, true)

/-- The pages reads that an access needs before it can be served: its line, or for a write a row, fails its line code, and is not given up
(R249, R252). -/
def State.needsPage (s : State) (line : Nat) (wr full : Bool) : Bool :=
  let off := offOfLine line
  let n := s.pageStrength line
  let bad (e : Nat × Nat) : Bool := s.chanGone e.1 || lineDecode (s.stored e.1 e.2) (s.devOut e.1 e.2) = .failed
  match s.chanOf off with
  | some (c, l) =>
    n != 0 && ((bad (c, l) && !s.isLost c l) ||
      (wr && (full || !bad (c, l)) && (s.rowLoc off n).any fun e => (s.pcWay e.1 e.2).isNone && bad e))
  | none => false

/-- The channels of the lines that a rebuild of a page reads: its data lines but the one it serves, and the rows that the parity cache does
not hold (R249). -/
def State.pageReads (s : State) (off n : Nat) (want : Nat × Nat) : List Nat :=
  (((s.pageLoc off).filter (· != want)) ++ ((s.rowLoc off n).filter fun e => e != want && (s.pcWay e.1 e.2).isNone)).map (·.1)

/-- A write of plaintext bytes (or the poison marker) to a line. new gives the line from the old plaintext. full: a full-line
write; line: its number; part: for the records. A full line over one that a resynchronisation has given up is an ordinary write, its stored
bytes the old value (R253). -/
def State.writeLine (s : State) (line : Nat) (full : Bool) (part : Nat) (new : Line → Stored) : State × WrRes :=
  let off := offOfLine line
  match s.chanOf off, s.pageOf off with
  | some (c, l), some (_, _, i) =>
    let n := s.pageStrength line
    if n = 0 && full then (s.setStored c l (new 0), .done) else
    let (s, r, x) := s.readLine c l
    let (s, r, x) := match r, n with
      | .failed, 0 => (s, r, x)
      | .failed, _ =>
        if s.isLost c l then (s, if full then .poisoned else .failed, x)
        else match s.rebuildPage off n (some (c, l)) with
        | (s, some k) => ((s.record E.MEM_PAGE_REBUILD 3 c [part] (some (line * 64)) k), .clean, s.stored c l)
        | (s, none) => (s, .failed, x)
      | _, _ => (s, r, x)
    match r with
    | .failed =>
      if full then
        let s := s.setStored c l (new 0)
        (if n = 0 then s else s.resyncPage off n c (line * 64) part, .done)
      else (s.memUe c l (some (line * 64)) part, .ue)
    | .poisoned =>
      if full then
        match s.mendRows off n c (line * 64) part with
        | (s, true) => ((s.setStored c l (new 0)).resyncPage off n c (line * 64) part, .done)
        | (s, false) => (s.putLine off c l n i x (new 0), .done)
      else (s, .poisoned)
    | _ =>
      let y := new (s.decrypt line (storedData x))
      match s.mendRows off n c (line * 64) part with
      | (s, true) => ((s.setStored c l y).resyncPage off n c (line * 64) part, .done)
      | (s, false) => (s.putLine off c l n i x y, .done)
  | _, _ => (s, .done)

/-- Write plaintext under a byte mask. -/
def State.writeData (s : State) (line part : Nat) (mask : Mask) (data : Line) : State × WrRes :=
  s.writeLine line (mask = fullMask) part fun old => rsEncode (s.encrypt line (merge old data mask))

/-- Write the poison marker (R246). -/
def State.writePoison (s : State) (line : Nat) : State := (s.writeLine line true 0 fun _ => poisonMarker).1

/-- The line holds the poison marker. -/
def State.isPoisoned (s : State) (line : Nat) : Bool :=
  match s.chanOf (offOfLine line) with
  | some (c, l) => isPoison (s.stored c l)
  | none => false

/-- What the home finds of a line's poison: the writes it has sent to the channel come first (R228, R251). -/
def State.poisonSeen (s : State) (line : Nat) : Bool :=
  match (s.dram.queue.filter fun q => q.wr && q.line = line && (q.poison || q.full)).getLast? with
  | some q => q.poison
  | none => s.isPoisoned line

/-- A home sends a write to its channel that no transaction waits for: a write-back, a Service Core's write, or the poison marker. It waits for the scheduler and
for page locks like any other access (R251, R258); a failed channel takes none (R266). -/
def State.queueWrite (s : State) (line part : Nat) (data : Line) (mask : Mask) (poison : Bool) : State :=
  match s.chanOf (offOfLine line) with
  | none => s
  | some (c, _) =>
    if s.chanGone c then s
    else s.onDram fun d => { d with queue := d.queue ++ [{ (default : ChanReq) with
      ch := c, line := line, wr := true, full := decide (mask = fullMask), poison := poison, data := data, mask := mask, part := part,
      hub := hubOfChan c, slot := none }] }

/-- The channel of a line has failed (R266) or the line is unbacked. -/
def State.chanDead (s : State) (line : Nat) : Bool :=
  match s.chanOf (offOfLine line) with
  | some (c, _) => s.chanGone c
  | none => true

end Sys2Proof.Machine
end

