-- ==== Sys2Proof/Machine/DirOps.lean ====
section
/-! DEFINITION. The directory (R207 to R210): its sets and ways, the holders an entry names, cleaning an entry of a fenced
die or a lost package (R232, R233), and poisoning a line (R227). -/

namespace Sys2Proof.Machine

/-! ## Sets, tags and entries (R207) -/

def dirSet (line : Nat) : Nat := line % 2 ^ 19 ^^^ line / 2 ^ 19 % 2 ^ 19
def dirTag (line : Nat) : Nat := line / 2 ^ 19
def dirKey (h set way : Nat) : Nat := (h * 524288 + set) * 16 + way
/-- The line of an entry, from its set and tag. -/
def dirLine (set tag : Nat) : Nat := tag * 2 ^ 19 + (set ^^^ tag % 2 ^ 19)

/-- The line is homed at hub h of this package: a channel of h holds it (R26). -/
def State.homedAt (s : State) (h line : Nat) : Bool :=
  line < 2 ^ 40 && pkgOfLine line = s.pkg && match s.chanOf (offOfLine line) with
    | some (c, _) => hubOfChan c = h
    | none => false

/-- The message is for the other hub of this package, whose half holds its line (R26): where to send it on. -/
def State.otherHome (s : State) (h : Nat) (m : CMsg) : Option CMsg :=
  if m.line < 2 ^ 40 && pkgOfLine m.line = s.pkg && s.homeHub m.line != h then some { m with dst := s.homeUnit m.line } else none

def State.dirWay (s : State) (h line : Nat) : Option Nat :=
  (List.range 16).find? fun w =>
    let e := s.home.dir.get (dirKey h (dirSet line) w)
    e.valid && e.tag = dirTag line

/-- The entry of a line; the default, which is not valid, where there is none. -/
def State.dirEnt (s : State) (h line : Nat) : DirEnt :=
  match s.dirWay h line with
  | some w => s.home.dir.get (dirKey h (dirSet line) w)
  | none => default

/-- Change a line's entry; an entry made invalid is freed. -/
def State.dirUpd (s : State) (h line : Nat) (f : DirEnt → DirEnt) : State :=
  match s.dirWay h line with
  | none => s
  | some w =>
    let k := dirKey h (dirSet line) w
    let e := f (s.home.dir.get k)
    let e : DirEnt := if e.valid then e else default
    s.onHome fun q => { q with dir := q.dir.put k e }

def State.dirFree (s : State) (h line : Nat) : State := s.dirUpd h line fun _ => default

def State.dirTouch (s : State) (h line : Nat) : State :=
  match s.dirWay h line with
  | none => s
  | some w =>
    let k := h * 524288 + dirSet line
    s.onHome fun q => { q with dirTree := q.dirTree.put k (plruTouch 4 (q.dirTree.get k) w) }

/-- The way a new entry takes: the lowest invalid one, else the tree's choice among those not BUSY, whose entry must be
recalled first (R210). -/
def State.dirVictim (s : State) (h line : Nat) : Option (Nat × DirEnt) :=
  let set := dirSet line
  let e (w : Nat) := s.home.dir.get (dirKey h set w)
  let w := match (List.range 16).find? fun w => !(e w).valid with
    | some w => some w
    | none => plruPick 4 (s.home.dirTree.get (h * 524288 + set)) 1 (fun w => !(e w).busy) 0
  w.map fun w => (w, e w)

def State.dirAlloc (s : State) (h line way : Nat) (e : DirEnt) : State :=
  let e := { e with valid := true, tag := dirTag line }
  (s.onHome fun q => { q with dir := q.dir.put (dirKey h (dirSet line) way) e }).dirTouch h line

/-! ## Holders (R208, R209) -/

/-- The unit a home snoops for a holder: a die of this package, or another package's proxy hub. -/
def State.holderOf (s : State) (h : Nat) (u : Unt) : Unt :=
  if u.pkg = s.pkg then
    match unitDie u.unit with
    | some d => s.dieUnit d
    | none => u
  else { pkg := u.pkg, unit := 0xFC + h }

/-- The units that an entry names. -/
def State.holders (s : State) (h : Nat) (e : DirEnt) : List Unt :=
  if !e.valid then []
  else (bitsOf e.dieVec 12).map s.dieUnit ++ (bitsOf e.pkgVec 8).map fun p => ({ pkg := p, unit := 0xFC + h } : Unt)

/-- The owner of an EXCL or OWNED entry. -/
def State.ownerOf (s : State) (h : Nat) (e : DirEnt) : Option Unt :=
  if !e.valid || e.ds = .shared then none
  else if e.ownerDie = 15 then some { pkg := e.ownerPkg, unit := 0xFC + h } else some (s.dieUnit e.ownerDie)

/-- An entry with the holders and owner given; invalid where no unit holds the line. -/
def State.entryOf (s : State) (old : DirEnt) (hs : List Unt) (ds : DState) (owner : Option Unt) : DirEnt :=
  let dies := maskOf ((hs.filter fun u => u.pkg = s.pkg).filterMap fun u => unitDie u.unit)
  let pkgs := maskOf (((hs.filter fun u => u.pkg != s.pkg).map (·.pkg)).eraseDups)
  let od := match owner with
    | some u => if u.pkg = s.pkg then (unitDie u.unit).getD 15 else 15
    | none => 0
  { old with valid := !(dies = 0 && pkgs = 0), ds := ds, dieVec := dies, pkgVec := pkgs, ownerDie := od,
             ownerPkg := match owner with | some u => u.pkg | none => 0 }

/-- The poison cause of a line that a unit cut off at this hub held (R232, R233). -/
def State.cutCause (s : State) (h : Nat) (u : Unt) : Nat := if bit (s.f (R.FENCE_STAT h) F.FENCE_STAT_PKG_LOST) u.pkg then 2 else 1

/-- The request's die, or its package, is fenced or lost at this hub (R231, R233). -/
def State.cutOff (s : State) (h : Nat) (u : Unt) : Bool :=
  bit (s.f (R.FENCE_STAT h) F.FENCE_STAT_PKG_LOST) u.pkg ||
  match unitDie u.unit with
  | some d => if u.pkg = s.pkg then bit (s.f (R.FENCE_STAT h) F.FENCE_STAT_DIE_FENCED) d else s.home.fencing.contains (u.pkg, d)
  | none => false

/-! ## Snoops and poison -/

def noUnit : Unt := { pkg := 0, unit := 0xFFF }

def State.sendSnoop (s : State) (h : Nat) (op : COp) (line : Nat) (dst : Unt) (slot part : Nat) (fwd : Unt) (fwdTxn : Nat)
    (rsv : Bool := false) (tgt : Option Nat := none) : State :=
  s.send (.coh { (default : CMsg) with
    op := op, line := line, src := s.hubUnit h, dst := dst, txn := slot, part := part, rsv := rsv, fwd := fwd, fwdTxn := fwdTxn
    aop := match tgt with | some u => { (default : AtOp) with size := 1, off := u } | none => default })

/-- The unit an owner-ordered snoop is directed to (step 3 of R225), if it is no broadcast. -/
def directedTo (m : CMsg) : Option Nat := if m.aop.size = 1 then some m.aop.off else none

/-- No transaction waits for the answer to a snoop with this tag. -/
def noSlot : Nat := 0xFFF

/-- Poison a line at its home (R227): copies are invalidated, the entry is freed, the marker is sent to memory, POISON_STAT and
POISON_LAST take it, and an open transaction for the line ends in BUS_ERR. -/
def State.poisonLine (s : State) (line cause : Nat) : State :=
  let h := s.homeHub line
  let s := each ((s.holders h (s.dirEnt h line)).filter fun u => !s.cutOff h u)
    (fun s u => s.sendSnoop h .snpInv line u noSlot 0 noUnit 0) s
  let mark (t : Txn) : Txn := if t.hub = h && t.req.line = line then { t with failed := true } else t
  let s := (s.dirFree h line).onHome fun q => { q with txns := q.txns.map mark }
  let s := (s.queueWrite line 0 0 fullMask true).incF (R.POISON_STAT h) F.POISON_STAT_SET
  (s.setF (R.POISON_LAST h) F.POISON_LAST_CAUSE cause).setF (R.POISON_LAST h) F.POISON_LAST_PA line

/-- Poison a line from a unit of this package: at its home here, or by WB_LOST to its home (R232). -/
def State.poisonAny (s : State) (line cause : Nat) (src : Unt) : State :=
  if pkgOfLine line = s.pkg then s.poisonLine line cause
  else s.send (.coh { (default : CMsg) with op := .wbLost, line := line, src := src, dst := s.homeUnit line, txn := noSlot,
                                            aop := { (default : AtOp) with code := cause } })

/-! ## Cleaning (R232, R233) -/

/-- The owner that a proxy entry names is gone: the entry goes, the package's other holders receive SNP_INV, and the home poisons the line
(R227, R232). -/
def State.proxyLost (s : State) (h line cause : Nat) (gone : Unt → Bool) : State :=
  let left := (s.holders h (s.dirEnt h line)).filter fun u => !gone u
  each left (fun s u => s.sendSnoop h .snpInv line u noSlot 0 noUnit 0) ((s.dirFree h line).poisonAny line cause (s.hubUnit h))

/-- Clean the entry of a line, at hub h, of the units that gone names. cause is the poison cause. -/
def State.dirClean (s : State) (h line : Nat) (gone : Unt → Bool) (cause : Nat) : State :=
  let e := s.dirEnt h line
  let hs := s.holders h e
  if !hs.any gone then s
  else
    let left := hs.filter fun u => !gone u
    let owned := match s.ownerOf h e with | some u => gone u | none => false
    if e.proxy then
      if owned then s.proxyLost h line cause gone
      else if left = [] then
        (s.dirFree h line).send (.coh { (default : CMsg) with op := .evictClean, line := line, src := s.hubUnit h,
                                                              dst := s.homeUnit line, txn := noSlot })
      else s.dirUpd h line fun e => s.entryOf e left e.ds (s.ownerOf h e)
    else if owned then
      (s.dirUpd h line fun e => s.entryOf e left .shared none).poisonLine line cause
    else s.dirUpd h line fun e => s.entryOf e left e.ds (s.ownerOf h e)

/-- Clean the entry a lookup finds of every fenced die and lost package (R231 step 3). -/
def State.dirLookup (s : State) (h line : Nat) : State :=
  let s := s.dirClean h line (fun u => u.pkg = s.pkg && s.cutOff h u) 1
  s.dirClean h line (fun u => u.pkg != s.pkg && bit (s.f (R.FENCE_STAT h) F.FENCE_STAT_PKG_LOST) u.pkg) 2

/-- The lines that have an entry in a hub's slice. -/
def State.dirLines (s : State) (h : Nat) : List Nat :=
  s.home.dir.filterMap fun e => if e.2.valid && e.1 / 16 / 524288 = h then some (dirLine (e.1 / 16 % 524288) e.2.tag) else none

/-- Walk a slice, cleaning every entry (R231 step 4). -/
def State.dirWalk (s : State) (h : Nat) : State := each (s.dirLines h) (fun s l => s.dirLookup h l) s

/-! ## Proxy entries (R208) -/

/-- The proxy entry of a line once die d holds it in state c. -/
def State.proxyEnt (s : State) (h d : Nat) (c : Coh) (e : DirEnt) : DirEnt :=
  let u := s.dieUnit d
  match c with
  | .s => s.entryOf e (addOnce (s.holders h e) u) e.ds (s.ownerOf h e)
  | .o => s.entryOf e (addOnce (s.holders h e) u) .owned (some u)
  | _ => s.entryOf e [u] .excl (some u)

end Sys2Proof.Machine
end

