-- ==== Sys2Proof/Machine/Flit.lean ====
section
/-! DEFINITION. Messages as flits: opcodes (R211), the 640-bit layout and the forms of partial accesses (R180 to R183), the link CRC
(R185), and the virtual channels with what each may wait on (R186). -/

namespace Sys2Proof.Machine

/-! ## Opcodes and channels -/

/-- OPCODE of a coherent message (R211; TARGET_OFF, R392). -/
def opcodeOf : COp → Nat
  | .rdShared | .ucRd | .snpShared | .wbDirty | .dataS | .comp => 0x01
  | .rdUnique | .ucWr | .snpUnique | .evictClean | .dataE | .compContended => 0x02
  | .upgrade | .ucAtomic | .snpInv | .wbLost | .dataM | .compAck => 0x03
  | .wtWrite | .snpClean | .dataO | .snpRspI => 0x04
  | .farAtomic | .snpRecall | .snpData | .snpRspS => 0x05
  | .cmoClean | .snpOrderShared | .dataUc | .snpRspFwdClean => 0x06
  | .cmoCleanInv | .snpOrderUnique | .atomicData | .snpRspFwdDirty => 0x07
  | .dmaRd | .snpOrderRecall | .atomicDataSole | .snpRspPassed => 0x08
  | .dmaWr | .wbAck => 0x09
  | .retry => 0x0A
  | .busErr => 0x0B
  | .targetOff => 0x0C

/-- The channel of a coherent message. -/
def vcOf (m : CMsg) : Nat :=
  match m.op with
  | .ucRd | .ucWr | .ucAtomic => if m.rsv then 6 else 1
  | .rdShared | .rdUnique | .upgrade | .wtWrite | .farAtomic | .cmoClean | .cmoCleanInv | .dmaRd | .dmaWr => if m.rsv then 6 else 0
  | .snpShared | .snpUnique | .snpInv | .snpClean | .snpRecall | .snpOrderShared | .snpOrderUnique | .snpOrderRecall => 2
  | .wbDirty | .evictClean | .wbLost => 3
  | .dataS | .dataE | .dataM | .dataO | .snpData | .dataUc | .atomicData | .atomicDataSole => if m.rsv then 7 else 4
  | _ => 5

/-- CLASS of a channel's normal form (R186). -/
def classOfVc (vc io : Nat) : Nat := if vc = 6 then io else if vc = 7 then 4 else vc

/-- The channel of every message that travels on the fabric (R186); none for what leaves the package's fabric: to a core's pipeline, a
device, the board, a voltage regulator, DRAM or flash, and what a link carries outside flits. -/
def vcOfMsg : Msg → Option Nat
  | .coh m => some (vcOf m)
  | .vector _ _ _ _ _ rsv => some (if rsv then 6 else 1)
  | .source .. | .runNotice .. | .tlbi .. => some 1
  | .remote _ _ code _ rsv => some (if code = 0 then (if rsv then 7 else 4) else 5)
  | .pealReq .. | .pealArm .. | .peal .. | .hallmark .. | .fence .. | .gong .. | .power .. | .report .. => some 5
  | .join .. | .ticket .. | .rest .. | .leaveDone .. | .lost .. | .suspect .. | .socket .. => some 5
  | .core .. | .train .. | .avs .. | .ctlSlot .. | .pcie .. | .host .. | .smbus .. | .pin .. | .flash .. | .dram .. => none

/-- The order of dependence of R186: REQ, RSV_REQ, IO, SNP, WB, and last the channels that are always sunk. -/
def vcRank (vc : Nat) : Nat := [0, 2, 3, 4, 5, 5, 1, 5].getD vc 5

/-- "May wait on" (R186). -/
def mayWaitOn (vc : Nat) : List Nat :=
  match vc with
  | 0 => [1, 2, 3, 4, 5]
  | 1 => [2, 3, 4, 5]
  | 2 => [3, 4, 5]
  | 3 => [4, 5]
  | 6 => [1, 2, 3, 4, 7, 5]
  | _ => []

/-- A channel whose flits are sunk on arrival (R187). -/
def isSunk (vc : Nat) : Bool := vc = 4 || vc = 5 || vc = 7

/-! ## Forms (R183) -/

/-- A write of part of a line, which travels as a mask flit and a data flit. -/
def partialWrite (m : CMsg) : Bool := (m.op = .wtWrite || m.op = .ucWr || m.op = .dmaWr) && m.mask != fullMask
def partialRead (m : CMsg) : Bool := (m.op = .ucRd || m.op = .dmaRd) && m.mask != fullMask

/-- The FORM values of a message's flits, in order. -/
def formsOf (m : CMsg) : List Nat := if partialWrite m then [1, 2] else if partialRead m then [3] else [0]

/-- The flits, and so the credits and tokens, that a message takes. -/
def flitsOf (m : CMsg) : Nat := (formsOf m).length

/-! ## Layout (R180, R181) -/

/-- The header of a flit; a data flit that follows a mask flit repeats CLASS, RSV, PART, the units and TXN only. -/
def flitHeader (m : CMsg) (form : Nat) : BitVec 96 :=
  let vc := vcOf m
  let io := if m.op = .ucRd || m.op = .ucWr || m.op = .ucAtomic then 1 else 0
  BitVec.ofNat 96 (classOfVc vc io + (decide (vc = 6 || vc = 7)).toNat * 2 ^ 3 + form % 4 * 2 ^ 4 + m.part % 16 * 2 ^ 6 +
    m.src.pkg % 8 * 2 ^ 10 + m.src.unit % 256 * 2 ^ 13 + m.dst.pkg % 8 * 2 ^ 21 + m.dst.unit % 256 * 2 ^ 24 + m.txn % 2 ^ 12 * 2 ^ 32 +
    (if form = 2 then 0 else opcodeOf m.op * 2 ^ 44 + m.line % 2 ^ 46 * 2 ^ 50))

/-- The payload: the mask in a mask flit, the data with zeros outside the mask in a data flit; WAIT of TARGET_OFF; the line. What a
snoop, an atomic request, WB_LOST or SNP_RSP_PASSED carries beside the header has no layout in the spec: a free value (log entry 80). -/
def flitPayload (m : CMsg) (form : Nat) : Line :=
  match form with
  | 1 | 3 => m.mask.setWidth 512
  | 2 => m.data &&& spread m.mask
  | _ => match m.op with
    | .targetOff => BitVec.ofNat 512 (decide (m.mask != 0)).toNat
    | .farAtomic | .ucAtomic | .snpShared | .snpUnique | .snpInv | .snpClean | .snpRecall | .snpOrderShared | .snpOrderUnique
    | .snpOrderRecall | .wbLost | .snpRspPassed => Config.innerPayload [vcOf m, opcodeOf m.op, m.fwd.pkg, m.fwd.unit, m.fwdTxn, m.aop.code, m.aop.size, m.aop.off, m.aop.arg.toNat, m.aop.arg2.toNat]
    | _ => m.data

/-- Bits [607:0], which the link CRC covers. -/
def flitBody (m : CMsg) (form : Nat) : BitVec 608 := flitPayload m form ++ flitHeader m form

/-- A flit as a link carries it. -/
def flitWord (m : CMsg) (form : Nat) : BitVec 640 := flitCrc (flitBody m form) ++ flitBody m form

/-- Bits [lo + width - 1 : lo] of a flit. -/
def flitField (w : BitVec 640) (lo width : Nat) : Nat := (w.toNat >>> lo) % 2 ^ width

/-- Every receiver checks the CRC (R185). -/
def flitGood (w : BitVec 640) : Bool := flitCrc (w.setWidth 608) = (w >>> 608).setWidth 32

end Sys2Proof.Machine
end

