-- ==== Sys2Proof/Machine/HomeOps.lean ====
section
/-! DEFINITION. The home (R210 to R234): transactions in home-ordered and owner-ordered mode, snoop answers, write-backs,
proxy hubs, and what a fence does to a home. -/

namespace Sys2Proof.Machine

def State.ordered (s : State) (h : Nat) : Bool := s.f (R.HOME_MODE h) F.HOME_MODE_MODE = 1

def State.reply (s : State) (h : Nat) (m : CMsg) (op : COp) (data : Line := 0) : State :=
  s.send (.coh { (default : CMsg) with op := op, line := m.line, src := s.hubUnit h, dst := m.src, txn := m.txn, part := m.part,
                                       rsv := m.rsv, data := data, mask := m.mask })

/-- The home's own requests have itself as source, without a tag, and are not answered. -/
def State.ownReq (s : State) (h : Nat) (m : CMsg) : Bool := m.src = s.hubUnit h && m.txn = noSlot

def State.answer (s : State) (h : Nat) (t : Txn) (op : COp) (data : Line := 0) : State :=
  if s.ownReq h t.req then s else s.reply h t.req op data

def isGrant (op : COp) : Bool := op = .rdShared || op = .rdUnique || op = .upgrade
def isAtomic (op : COp) : Bool := op = .farAtomic || op = .ucAtomic

def State.txnsOf (s : State) (h : Nat) : List Txn := s.home.txns.filter fun t => t.hub = h
/-- The line is BUSY: owner-ordered mode sets no line BUSY (R213, R225). -/
def State.lineBusy (s : State) (h line : Nat) : Bool := !s.ordered h && s.home.txns.any fun t => t.hub = h && t.req.line = line

def State.setTxn (s : State) (t : Txn) : State :=
  s.onHome fun q => { q with txns := q.txns.map fun u => if u.hub = t.hub && u.slot = t.slot then t else u }

def State.txnAt (s : State) (h slot : Nat) : Option Txn := s.home.txns.find? fun t => t.hub = h && t.slot = slot

/-- A request waits at the home: for a slot, a way, a slot of the atomic unit. -/
def State.holdReq (s : State) (h : Nat) (m : CMsg) : State := s.onHome fun q => { q with lineq := q.lineq ++ [(h, m, false)] }

/-- A request for a BUSY line joins the queue of its line (R213). -/
def State.queueReq (s : State) (h : Nat) (m : CMsg) : State :=
  let s := s.onHome fun q => { q with lineq := q.lineq ++ [(h, m, true)] }
  let n := countOf s.home.lineq fun e => e.1 = h && e.2.1.line = m.line && e.2.2
  s.setF (R.HOME_Q_STAT h) F.HOME_Q_STAT_LINEQ_MAX (max (s.f (R.HOME_Q_STAT h) F.HOME_Q_STAT_LINEQ_MAX) (min n 255))

/-! ## Snoops of a transaction -/

/-- The dies of this package a broadcast reaches: neither fenced nor OFF (R225). -/
def State.openDies (s : State) : List Nat := allDies.filter fun d => !s.dieFenced d && !s.dieOff d

/-- The units of step 2 of R225, for every request: all but the requester's die; a package in Rest counts as having answered SNP_RSP_I
(R398). -/
def State.bcastUnits (s : State) (h : Nat) (req : Unt) : List Unt :=
  let own := (s.openDies.map s.dieUnit).filter fun u => u != s.holderOf h req
  let far := (without (bitsOf (s.f R.SYS_STAT F.SYS_STAT_ADMITTED) 8) [s.pkg]).filter fun p =>
    !bit (s.f (R.FENCE_STAT h) F.FENCE_STAT_PKG_LOST) p && !bit (s.f R.REST_STAT F.REST_STAT_RESTING) p
  own ++ far.map fun p => ({ pkg := p, unit := 0xFC + h } : Unt)

def orderOp (op : COp) : COp :=
  match op with
  | .rdShared => .snpOrderShared
  | .rdUnique => .snpOrderUnique
  | .upgrade => .snpOrderUnique
  | _ => .snpOrderRecall

/-- The unit that a request's snoops name as requester: the one a grant goes to, or the writing die of a write-through, which HUB-A names
for a pair (R91, R93). -/
def asker (m : CMsg) : Unt :=
  if m.op = .wtWrite && m.src.unit = 0xFC then m.fwd else if isGrant m.op || m.op = .wtWrite then m.src else noUnit

/-- The writing dies of a write-through: both members' for a twin pair (R93, R131). -/
def State.writers (s : State) (m : CMsg) : List Unt :=
  match unitDie (asker m).unit with
  | some d => if m.src.pkg != s.pkg then [] else
      if s.isTwin m.part then [s.dieUnit d, s.dieUnit ((d + 6) % 12)] else [s.dieUnit d]
  | none => []

/-- The entry lists the requester of an UPGRADE: its die, or its package, whose proxy hub then says whether that die still holds the line
(R208, R215). -/
def State.upgListed (s : State) (h : Nat) (m : CMsg) (e : DirEnt) : Bool := (s.holders h e).contains (s.holderOf h m.src)

/-- The snoops of R215 for a request, with the unit each goes to. -/
def State.snoopsFor (s : State) (h : Nat) (m : CMsg) (e : DirEnt) : List (Unt × COp) :=
  let own := s.ownerOf h e
  let hs := s.holders h e
  let me := s.holderOf h m.src
  let other (u : Unt) : Bool := u.pkg != s.pkg || u != me
  let recalls (l : List Unt) : List (Unt × COp) := l.map fun u => (u, if own = some u then .snpRecall else .snpInv)
  match m.op with
  | .rdShared => (own.toList.filter other).map fun u => (u, .snpShared)
  | .rdUnique => (hs.filter other).map fun u => (u, if own = some u then .snpUnique else .snpInv)
  | .upgrade =>
    if s.upgListed h m e then (hs.filter other).map fun u => (u, .snpInv)
    else (hs.filter other).map fun u => (u, if own = some u then .snpUnique else .snpInv)
  | .wtWrite =>
    let ws := s.writers m
    recalls (hs.filter fun u => !ws.contains u) ++ (own.toList.filter ws.contains).map fun u => (u, .snpClean)
  | .ucRd => own.toList.map fun u => (u, .snpClean)
  | .dmaRd => own.toList.map fun u => (u, .snpClean)
  | .cmoClean => own.toList.map fun u => (u, .snpClean)
  | _ => recalls hs

/-! ## Memory accesses of a transaction -/

/-- Queue a transaction's access at its channel. What a recall writes back counts for the partition of the line (R258). -/
def State.queueMem (s : State) (t : Txn) (wr : Bool) (data : Line) (mask : Mask) : State :=
  match s.chanOf (offOfLine t.req.line) with
  | none => s
  | some (c, _) =>
    let back := t.req.op = .cmoCleanInv && t.req.src = s.hubUnit t.hub
    s.onDram fun d => { d with queue := d.queue ++ [{ (default : ChanReq) with
      ch := c, line := t.req.line, wr := wr, full := decide (mask = fullMask), data := data, mask := mask,
      part := if back then s.lineOwner t.req.line else t.req.part, hub := t.hub, slot := some t.slot }] }

/-! ## Opening -/

def State.freeSlot (s : State) (h : Nat) : Option Nat :=
  let used := (s.txnsOf h).map (·.slot)
  (List.range 1024).find? fun n => !used.contains n

/-- Open a transaction and send its snoops; ordered: by the owner-ordered broadcast (R213, R225). -/
def State.openTxn (s : State) (h slot : Nat) (m : CMsg) (ord : Bool) (recallFor : Option CMsg) : State :=
  let e := s.dirEnt h m.line
  let me := s.holderOf h m.src
  let fwd := asker m
  let sn : List (Unt × COp) :=
    if ord then (s.bcastUnits h m.src).map fun u => (u, orderOp m.op)
    else s.snoopsFor h m e
  let t : Txn := { (default : Txn) with hub := h, slot := slot, req := m, waits := sn.map (·.1),
                                        contended := ord || sn != [], ordered := ord, recallFor := recallFor,
                                        olders := ((s.txnsOf h).filter fun u => u.ordered && u.req.line = m.line).map (·.req.src),
                                        had := if m.op = .upgrade && !s.upgListed h m e then (s.holders h e).filter fun u => u != me
                                          else s.holders h e }
  let s := s.onHome fun q => { q with txns := q.txns ++ [t] }
  let s := if ord then s.incF (R.HOME_CNT_1 h) F.HOME_CNT_1_BCAST sn.length else s
  let n := (s.txnsOf h).length
  let s := s.setF (R.HOME_Q_STAT h) F.HOME_Q_STAT_TXN_MAX (max (s.f (R.HOME_Q_STAT h) F.HOME_Q_STAT_TXN_MAX) n)
  let s := if s.ordered h then s else s.dirUpd h m.line fun e => { e with busy := true }
  each sn (fun s u => s.sendSnoop h u.2 m.line u.1 slot m.part fwd m.txn m.rsv) s

/-! ## Ending -/

/-- Judge a write-back or notice at a line that is not BUSY (R218). -/
def State.judgeWb (s : State) (h : Nat) (m : CMsg) : State :=
  let e := s.dirEnt h m.line
  let u := s.holderOf h m.src
  let hs := s.holders h e
  let ack (s : State) : State := if m.src = s.hubUnit h then s else s.reply h m .wbAck
  if !hs.contains u || (m.op = .wbDirty && s.ownerOf h e != some u) then ack (s.incF (R.HOME_CNT_0 h) F.HOME_CNT_0_STALE_WB)
  else
    let rest := hs.filter fun v => v != u
    if m.op = .wbLost then ack (s.poisonLine m.line (if m.aop.code = 0 then 1 else m.aop.code))
    else if m.op = .wbDirty then
      let s := s.queueWrite m.line (s.lineOwner m.line) m.data fullMask false
      let keep := if u.pkg = s.pkg then rest else hs
      ack (if e.ds = .excl then s.dirFree h m.line else s.dirUpd h m.line fun e => s.entryOf e keep .shared none)
    else
      let own := if s.ownerOf h e = some u then none else s.ownerOf h e
      ack (s.dirUpd h m.line fun e => s.entryOf e rest (if own = none then .shared else e.ds) own)

/-- Close a transaction: the line is no longer BUSY, waiting write-backs are judged, an owner-ordered request behind it is
sent on to its requester, and the requests the home holds are taken again. -/
def State.endTxn (s : State) (t : Txn) : State :=
  let h := t.hub
  let s := s.onHome fun q => { q with txns := q.txns.filter fun u => !(u.hub = h && u.slot = t.slot) }
  let s := s.dirUpd h t.req.line fun e => { e with busy := false, valid := e.valid && !(e.dieVec = 0 && e.pkgVec = 0) }
  let mine (e : Nat × CMsg) : Bool := e.1 = h && e.2.line = t.req.line
  let s := if s.lineBusy h t.req.line then s else
    let wbs := s.home.heldWb.filter mine
    let s := s.onHome fun q => { q with heldWb := q.heldWb.filter fun e => !mine e }
    each wbs (fun s e => s.judgeWb h e.2) s
  let next := s.home.txns.find? fun u => u.hub = h && u.ordered && u.req.line = t.req.line && u.waits = [] && !u.needMem &&
    !u.wrMem && !u.ackDue
  match next with
  | some u =>
    if t.ordered && isGrant t.req.op && !t.failed then
      let tgt := s.holderOf h t.req.src
      let fwd := if isGrant u.req.op then u.req.src else noUnit
      (s.setTxn { u with waits := [tgt] }).sendSnoop h (orderOp u.req.op) u.req.line tgt u.slot u.req.part fwd u.req.txn u.req.rsv
        (some t.req.src.unit)
    else s
  | none => s

/-- The entry after a grant (R215, R225), and the data the home sends. -/
def State.grantEntry (s : State) (t : Txn) : State × Option COp :=
  let h := t.hub
  let e := s.dirEnt h t.req.line
  let me := s.holderOf h t.req.src
  let own := s.ownerOf h e
  let kept := if t.ordered then t.sharers
    else (s.holders h e).filter fun u => (!(t.had.contains u && t.contended && own = some u)) || t.sharers.contains u
  let put (hs : List Unt) (ds : DState) (o : Option Unt) (s : State) : State :=
    s.dirUpd h t.req.line fun e => { s.entryOf e hs ds o with valid := true, unsure := s.ordered h, busy := e.busy }
  if t.req.op != .rdShared then
    (put [me] .excl (some me) s,
     if t.fwdClean || t.fwdDirty || (t.req.op = .upgrade && !t.ordered && t.had.contains me && (me.pkg = s.pkg || t.sharers.contains me))
     then none else some .dataE)
  else if t.fwdDirty then
    let o := match t.fwdBy with
      | some u => if t.fwdKept then u else me
      | none => me
    (put (addOnce kept me) .owned (some o) s, none)
  else if t.fwdClean then (put (addOnce kept me) .shared none s, none)
  else if kept = [] && !s.isTwin t.req.part then (put [me] .excl (some me) s, some .dataE)
  else (put (addOnce kept me) .shared none s, some .dataS)

/-- The entry after a request that carries no grant (R215). -/
def State.doneEntry (s : State) (t : Txn) : State :=
  let h := t.hub
  let line := t.req.line
  let e := s.dirEnt h line
  let own := s.ownerOf h e
  let stay := (s.holders h e).filter fun u => own != some u || !t.contended || t.sharers.contains u
  let cleaned (s : State) : State :=
    if e.ds = .excl then if stay = [] then s.dirFree h line else s
    else s.dirUpd h line fun e => s.entryOf e stay .shared none
  if t.ordered then s.dirFree h line
  else match t.req.op with
    | .wtWrite =>
      let ws := s.writers t.req
      let keep := (s.holders h e).filter fun u => ws.contains u || t.sharers.contains u
      if e.ds = .excl && keep != [] then s else s.dirUpd h line fun e => s.entryOf e keep .shared none
    | .ucRd => cleaned s
    | .dmaRd => cleaned s
    | .cmoClean => cleaned s
    | _ => s.dirFree h line

def compOp (t : Txn) : COp := if t.contended then .compContended else .comp

/-- End a transaction in BUS_ERR. A line whose one dirty value was on its way to a requester that is cut off is lost with it (R231). -/
def State.failTxn (s : State) (t : Txn) : State :=
  let gone := s.cutOff t.hub t.req.src && t.fwdDirty && !t.fwdKept
  let s := (s.answer t.hub t .busErr).endTxn { t with failed := true }
  if gone then s.poisonLine t.req.line (s.cutCause t.hub t.req.src) else s

/-- Carry a transaction on once its snoops and its memory accesses have come back. -/
def State.runTxn (s : State) (t : Txn) : State :=
  let h := t.hub
  if t.waits != [] || t.needMem || t.wrMem || t.ackDue then s
  else if t.failed then s.failTxn t
  else if isGrant t.req.op then
    match t.dirty with
    | some x => (s.setTxn { t with dirty := none, memLine := some x, wrMem := true }).queueMem t true x fullMask
    | none =>
      let older := (s.home.txns.find? fun u => u.hub = h && u.req.line = t.req.line).map (·.slot)
      let (s', d) := s.grantEntry t
      if t.ordered && !t.fwdClean && !t.fwdDirty && older != some t.slot then s
      else if d.isSome && t.memLine = none then
        (when (t.req.op = .upgrade && !t.ordered && t.had.contains (s.holderOf h t.req.src)) (fun s =>
          s.incF (R.HOME_CNT_1 h) F.HOME_CNT_1_UPG_CONVERT) (s.setTxn { t with needMem := true })).queueMem t false 0 fullMask
      else
        let s := s'.setTxn { t with ackDue := true }
        let s := match d with
          | some op => s.answer h t op (t.memLine.getD 0)
          | none => s
        s.answer h t (compOp t) (if t.req.op = .upgrade && (d.isSome || t.fwdClean || t.fwdDirty) then 1 else 0)
  else if t.ordered && t.dirty = none && t.stage = 0 && t.memLine = none &&
      (s.home.txns.find? fun u => u.hub = h && u.req.line = t.req.line).map (·.slot) != some t.slot then s
  else
    let old := t.memLine.getD 0
    let done (s : State) : State :=
      let s := s.doneEntry t
      let s := match t.req.op with
        | .ucRd => s.answer h t .dataUc old
        | .dmaRd => s.answer h t .dataUc old
        | .ucAtomic => (s.incF (R.ATOM_STAT h) F.ATOM_STAT_FAR_DONE).answer h t .dataUc old
        | .farAtomic => (s.incF (R.ATOM_STAT h) F.ATOM_STAT_FAR_DONE).answer h t
            (if t.had.all fun u => u.pkg = s.pkg && u = s.holderOf h t.req.src then .atomicDataSole else .atomicData) old
        | _ => s.answer h t (compOp t)
      s.endTxn t
    match t.req.op with
    | .ucRd | .dmaRd =>
      match t.dirty, t.memLine with
      | some x, _ => (s.setTxn { t with dirty := none, memLine := some x, wrMem := true }).queueMem t true x fullMask
      | none, none => (s.setTxn { t with needMem := true }).queueMem t false 0 fullMask
      | none, some _ => done s
    | .farAtomic | .ucAtomic =>
      if t.stage = 1 then done s
      else match t.dirty, t.memLine with
        | some x, _ => (s.setTxn { t with dirty := none, memLine := some x, wrMem := true }).queueMem t true x fullMask
        | none, none => (s.setTxn { t with needMem := true }).queueMem t false 0 fullMask
        | none, some x =>
          let o := t.req.aop
          let new := linePut 0 o.off o.size (atApply o (lineGet x o.off o.size))
          (s.setTxn { t with stage := 1, wrMem := true }).queueMem t true new (maskFor o.off o.size)
    | .wtWrite | .ucWr | .dmaWr =>
      if t.stage = 1 then done s
      else
        let t' := { t with stage := 1, wrMem := true, dirty := none }
        match t.dirty with
        | some x => (s.setTxn t').queueMem t true (merge x t.req.data t.req.mask) fullMask
        | none => (s.setTxn t').queueMem t true t.req.data t.req.mask
    | _ =>
      match t.dirty with
      | some x => (s.setTxn { t with dirty := none, wrMem := true }).queueMem t true x fullMask
      | none => done s

/-! ## Taking a request -/

/-- The home's check of step 4 of R32 (R300). -/
def State.mayReach (s : State) (m : CMsg) : Bool := m.part = 0 || s.lineOwner m.line = m.part

/-- A poisoned line refuses every request but a full-line write and maintenance (R228). -/
def refusedByPoison (m : CMsg) : Bool :=
  !(m.op = .cmoClean || m.op = .cmoCleanInv || (m.op = .dmaWr && m.mask = fullMask))

/-- The line lies in a region under transfer (R303). -/
def State.inXfer (s : State) (line : Nat) : Bool :=
  s.sec.xfers.any fun x => x.ranges.any fun r => r.1 ≤ line && line < r.1 + r.2

/-- A slot of the home atomic unit is free for the line (R222). -/
def State.atomicSlot (s : State) (h line : Nat) : Bool :=
  let l := (s.txnsOf h).filter fun t => isAtomic t.req.op
  l.length < 64 && !l.any fun t => t.req.line = line

/-- A far atomic comes to the home atomic unit while it backs off after a lost round (R197, R222). -/
def State.atomicBackoff (s : State) (h : Nat) (m : CMsg) : Bool :=
  isAtomic m.op && s.f (rReq (60 + h) (s.srcPort h m)) F.ARB_REQ_WAIT_LEFT != 0

/-- A far atomic whose line is already in a slot, or that finds every slot in use, loses its round (R222). -/
def State.atomicLoses (s : State) (h : Nat) (m : CMsg) : Bool := isAtomic m.op && !s.atomicBackoff h m && !s.atomicSlot h m.line

/-- Recall a proxy victim (R210): SNP_RECALL to the die that owns the line, SNP_INV to those that share it. Its entry is BUSY until every response has
come. -/
def State.proxyRecall (s : State) (h line : Nat) (v : DirEnt) (need : Option CMsg) : State :=
  let s := (s.incF (R.HOME_CNT_0 h) F.HOME_CNT_0_DIR_RECALL).dirUpd h line fun e => { e with busy := true }
  let (s, tag) := s.newTxn (0xFC + h)
  let dies := bitsOf v.dieVec 12
  let own := s.ownerOf h v
  let p : ProxySnp := { hub := h, msg := { (default : CMsg) with op := .snpRecall, line := line, src := s.hubUnit h, dst := s.hubUnit h, txn := noSlot,
                                                                 fwd := noUnit },
                        tag := tag, own := true, need := need, asked := dies, waits := dies, best := .snpRspI, data := 0, left := [], kept := false,
                        via := noUnit, lost := false }
  each dies (fun s d => s.sendSnoop h (if v.unsure then .snpOrderRecall else if own = some (s.dieUnit d) then .snpRecall else .snpInv) line (s.dieUnit d)
    tag 0 noUnit 0) (s.onHome fun q => { q with proxies := q.proxies ++ [p] })

/-- Recall a victim whose way is needed, as a transaction of the home, or of the proxy hub (R210): every copy is given up, dirty data goes to its
home, and the entry is freed when every response has come. -/
def State.recallVictim (s : State) (h slot line : Nat) (v : DirEnt) (need : Option CMsg) : State :=
  if v.proxy then s.proxyRecall h line v need
  else
    let r : CMsg := { (default : CMsg) with op := .cmoCleanInv, line := line, src := s.hubUnit h, dst := s.hubUnit h,
                                            txn := noSlot, part := 0 }
    let s := (s.incF (R.HOME_CNT_0 h) F.HOME_CNT_0_DIR_RECALL).openTxn h slot r v.unsure need
    match s.txnAt h slot with
    | some t => s.runTxn t
    | none => s

/-- A way for a line's entry is being freed for a request. -/
def State.recalling (s : State) (h line : Nat) : Bool :=
  (s.home.txns.any fun t => t.hub = h && t.recallFor.any fun m => m.line = line) ||
    s.home.proxies.any fun p => p.hub = h && p.need.any fun m => m.line = line

/-- Take a request at the home: it waits, is denied, fails, or opens a transaction (R210, R213, R225, R226, R228, R300). -/
def State.takeReq (s : State) (h : Nat) (m : CMsg) : State :=
  let deny (e : ECode) (s : State) : State :=
    let s := s.record e 2 h [m.part] (some (m.line * 64))
    if s.ownReq h m then s else s.reply h m .busErr (if e = E.POISON_ACCESS then 0 else 1)
  let maint := m.op = .cmoClean || m.op = .cmoCleanInv
  if m.part != 0 && s.inXfer m.line then s.onSec fun q => { q with heldReq := q.heldReq ++ [(h, m)] }
  else if m.part != 0 && s.partFenced m.part then deny E.PART_FENCED s
  else if !s.mayReach m then deny (if maint then E.CMO_DENIED else E.OWN_DENIED) s
  else if s.chanDead m.line then if s.ownReq h m then s else s.reply h m .busErr
  else if s.atomicLoses h m then (s.incF (R.ATOM_STAT h) F.ATOM_STAT_SLOT_LOSSES).arbLost (60 + h) (s.srcPort h m) |>.holdReq h m
  else if s.atomicBackoff h m || (isAtomic m.op && (s.arbPass (60 + h) (s.srcPort h m)).isNone) then s.holdReq h m
  else if !s.ordered h && s.lineBusy h m.line then s.queueReq h m
  else match s.freeSlot h with
    | none => s.holdReq h m
    | some slot =>
      let s := s.dirLookup h m.line
      if s.poisonSeen m.line && refusedByPoison m then deny E.POISON_ACCESS s
      else
        let go (s : State) : State :=
          let e := s.dirEnt h m.line
          let s := if m.op = .upgrade && !s.ordered h && !s.upgListed h m e then
            s.incF (R.HOME_CNT_1 h) F.HOME_CNT_1_UPG_CONVERT else s
          let s := if isAtomic m.op then ((s.arbPass (60 + h) (s.srcPort h m)).getD s).arbWon (60 + h) (s.srcPort h m) else s
          let s := if s.ownReq h m then s else s.dirTouch h m.line
          let s := s.openTxn h slot m (s.ordered h || e.unsure) none
          match s.txnAt h slot with
          | some t => s.runTxn t
          | none => s
        if !isGrant m.op || (s.dirWay h m.line).isSome then go s
        else if s.recalling h m.line then s.holdReq h m
        else match s.dirVictim h m.line with
          | none => s.holdReq h m
          | some (w, v) =>
            if !v.valid then go (s.dirAlloc h m.line w default)
            else (s.holdReq h m).recallVictim h slot (dirLine (dirSet m.line) v.tag) v (some m)

/-- A die of this package holds a line of another package: its proxy entry names it. An entry that needs a way waits while the victim is
recalled, or while all 16 are BUSY (R208, R210). -/
def State.proxyNote (s : State) (line d : Nat) (c : Coh) : State :=
  let h := s.proxyHub line
  let put (w : Nat) (s : State) : State := s.dirAlloc h line w (s.proxyEnt h d c { (default : DirEnt) with valid := true, proxy := true })
  let later (s : State) : State := s.onHome fun q => { q with proxyWait := q.proxyWait ++ [(line, d, c)] }
  match s.dirWay h line with
  | some _ => s.dirUpd h line (s.proxyEnt h d c)
  | none =>
    if s.home.proxyWait.any fun e => e.1 = line then later s
    else match s.dirVictim h line, s.freeSlot h with
      | some (w, v), slot =>
        if !v.valid then put w s
        else match (if v.proxy then some 0 else slot) with
          | some n => (later s).recallVictim h n (dirLine (dirSet line) v.tag) v none
          | none => later s
      | none, _ => later s

/-- Note again the lines whose proxy entries waited at hub h, in order; one that its die no longer holds needs none. -/
def State.proxyAgain (s : State) (h : Nat) : State :=
  let mine (e : Nat × Nat × Coh) : Bool := s.proxyHub e.1 = h
  let l := s.home.proxyWait.filter mine
  let s := s.onHome fun q => { q with proxyWait := q.proxyWait.filter fun e => !mine e }
  each l (fun s e => if (s.dcFind e.2.1 e.1).isSome then s.proxyNote e.1 e.2.1 e.2.2 else s) s

/-- Take again the requests a home holds, in their order, after a transaction has closed. -/
def State.takeQueued (s : State) (h : Nat) : State :=
  let l := s.home.lineq.filter fun e => e.1 = h
  let s := s.onHome fun q => { q with lineq := q.lineq.filter fun e => e.1 != h }
  let s := each l (fun s e => s.takeReq h e.2.1) (s.proxyAgain h)
  each (s.txnsOf h) (fun s t =>
    match s.txnAt h t.slot with
    | some t => if t.ordered then s.runTxn t else s
    | none => s) s

/-- Carry transaction t on and, when it has closed, take the waiting requests. -/
def State.advance (s : State) (t : Txn) : State :=
  let n := s.home.txns.length
  let s := s.runTxn t
  if s.home.txns.length < n then s.takeQueued t.hub else s

/-- Step 3 of R32 at the home: a request for an address that this package's DRAM does not back, with the record of R33. -/
def State.unbacked (s : State) (h : Nat) (m : CMsg) : State :=
  (s.record E.PA_UNMAPPED 2 h [m.part] (some (m.line * 64))).reply h m .busErr 2

/-- A request arrives at hub h. What a fenced die or lost package sends is discarded (R231); one for a line in the other half goes on to
that hub. While the home's input arbiter serves another source, it waits there (R202, R213). -/
def State.homeReq (s : State) (h : Nat) (m : CMsg) : State :=
  if s.cutOff h m.src || pkgOfLine m.line != s.pkg then s.take (.coh m)
  else if !s.homedAt h m.line then
    let s := s.take (.coh m)
    match s.otherHome h m with
    | some m => s.send (.coh m)
    | none => s.unbacked h m
  else match s.arbPass (62 + h) (s.srcPort h m) with
  | none => s
  | some s =>
    let s := s.take (.coh m)
    let n := s.home.txns.length
    let s := s.takeReq h m
    if s.home.txns.length < n then s.takeQueued h else s

/-- The home opens a request of its own: a recall, a clear, a resolution. -/
def State.homeOwn (s : State) (h : Nat) (op : COp) (line : Nat) (data : Line) : State :=
  let m : CMsg := { (default : CMsg) with op := op, line := line, src := s.hubUnit h, dst := s.hubUnit h, txn := noSlot,
                                          mask := fullMask, data := data }
  s.takeReq h m

/-! ## Answers to snoops -/

/-- A response of one unit to a transaction: what it forwarded, whether it keeps a copy, data written back (R212). The snoop is sent on to a
requester that SNP_RSP_PASSED names where that one's request was open before this one (step 3 of R225); a note that has been overtaken says no
more than SNP_RSP_I. -/
def State.snoopAnswer (s : State) (h : Nat) (m : CMsg) : State :=
  match s.txnAt h m.txn with
  | none => match m.op with
    | .snpData => if s.homedAt h m.line then s.queueWrite m.line (s.lineOwner m.line) m.data fullMask false else s
    | _ => s
  | some t =>
    let u := s.holderOf h m.src
    if t.req.line != m.line || !t.waits.contains u then s
    else if m.op = .snpRspPassed && t.olders.contains m.fwd then
      let tgt := s.holderOf h m.fwd
      let fwd := if isGrant t.req.op then t.req.src else noUnit
      (s.setTxn { t with waits := t.waits.erase u ++ [tgt] }).sendSnoop h (orderOp t.req.op) m.line tgt t.slot t.req.part fwd
        t.req.txn t.req.rsv (some m.fwd.unit)
    else
      let keeps := m.op = .snpRspS || m.mask.getLsbD 0
      let t := { t with
        waits := t.waits.erase u
        fwdClean := t.fwdClean || m.op = .snpRspFwdClean
        fwdDirty := t.fwdDirty || m.op = .snpRspFwdDirty
        fwdBy := if m.op = .snpRspFwdDirty then some u else t.fwdBy
        fwdKept := t.fwdKept || (m.op = .snpRspFwdDirty && m.mask.getLsbD 1)
        failed := t.failed || (m.op = .snpRspI && m.aop.code != 0)
        dirty := if m.op = .snpData then some m.data else t.dirty
        sharers := if keeps then addOnce t.sharers u else t.sharers }
      (s.setTxn t).advance t

/-- COMP_ACK closes the transaction (R213). -/
def State.compAckAt (s : State) (h : Nat) (m : CMsg) : State :=
  match s.home.txns.find? fun t => t.hub = h && t.ackDue && t.req.src = m.src && t.req.txn = m.txn && t.req.line = m.line with
  | some t => (s.endTxn t).takeQueued h
  | none => s

/-- A memory access of a transaction has come back: the line, or none where the request must fail. -/
def State.memBack (s : State) (h slot : Nat) (wr : Bool) (res : Option Line) : State :=
  match s.txnAt h slot with
  | none => s
  | some t =>
    let t := match wr, res with
      | _, none => { t with needMem := false, wrMem := false, failed := true }
      | true, some _ => { t with wrMem := false }
      | false, some x => { t with needMem := false, memLine := some x }
    (s.setTxn t).advance t

/-! ## Proxy hubs (R208) -/

/-- How much an answer says, for the one answer of a package. -/
def rspRank : COp → Nat
  | .snpRspFwdDirty => 5
  | .snpRspFwdClean => 4
  | .snpData => 3
  | .snpRspPassed => 2
  | .snpRspS => 1
  | _ => 0

/-- Answer the home for the package, and bring the proxy entry into line. -/
def State.proxyDone (s : State) (p : ProxySnp) : State :=
  let h := p.hub
  let m := p.msg
  let s := s.onHome fun q => { q with proxies := q.proxies.erase p }
  let own := s.ownerOf h (s.dirEnt h m.line)
  let wasExcl := decide ((s.dirEnt h m.line).ds = .excl)
  let left := p.left.map s.dieUnit
  let hs := (s.holders h (s.dirEnt h m.line)).filter fun u => left.contains u || u = s.holderOf h m.fwd
  let ownLeft := match own with | some u => hs.contains u | none => false
  let ds : DState := if !ownLeft then .shared
    else match plainSnoop m.op with
      | .snpShared => if p.best = .snpRspFwdDirty then .owned else .shared
      | .snpClean => if wasExcl then .excl else .shared
      | _ => (s.dirEnt h m.line).ds
  let ord := m.op = .snpOrderShared || m.op = .snpOrderUnique || m.op = .snpOrderRecall
  let s := s.dirUpd h m.line fun e => { s.entryOf e hs ds (if ds = .shared then none else own) with unsure := e.unsure && !ord }
  s.send (.coh { (default : CMsg) with aop := { (default : AtOp) with code := if p.lost then 1 else 0 }, op := p.best, line := m.line, src := s.hubUnit h, dst := m.src, txn := m.txn, part := m.part,
                                       data := if p.best = .snpData then p.data else 0, mask := (if left = [] then 0 else 1) + (if p.kept then 2 else 0),
                                       fwd := if p.best = .snpRspPassed then p.via else noUnit })

/-- A snoop goes from the proxy hub to the dies the entry names, in owner-ordered form to every die (R208, R225). -/
def State.proxyAsk (s : State) (h : Nat) (m : CMsg) : State :=
  let s := s.dirLookup h m.line
  let ord := m.op = .snpOrderShared || m.op = .snpOrderUnique || m.op = .snpOrderRecall
  let e := s.dirEnt h m.line
  let own := s.ownerOf h e
  let me := s.holderOf h m.fwd
  let dies := match directedTo m with
    | some u => ((unitDie u).toList.filter s.openDies.contains)
    | none => if ord then s.openDies else bitsOf e.dieVec 12
  -- a twin pair's write-through leaves both members' dies their copies (R93, R131)
  let spared (d : Nat) : Bool := s.dieUnit d = me || (s.isTwin m.part && m.fwd.pkg = s.pkg && unitDie me.unit = some ((d + 6) % 12))
  let todo : List (Nat × COp) := (dies.filter fun d => !spared d || directedTo m != none).map fun d =>
    (d, if ord then m.op
        else match m.op with
          | .snpShared => .snpShared
          | .snpClean => .snpClean
          | .snpUnique => if own = some (s.dieUnit d) then .snpUnique else .snpInv
          | .snpRecall => if own = some (s.dieUnit d) then .snpRecall else .snpInv
          | o => o)
  let todo := todo.filter fun e => !(e.2 = .snpShared || e.2 = .snpClean) || own = some (s.dieUnit e.1)
  let clean := if m.op = .snpRecall && own = some me then [((unitDie me.unit).getD 0, COp.snpClean)] else []
  let todo := todo ++ clean
  let asked := todo.map (·.1)
  let (s, tag) := s.newTxn (0xFC + h)
  let p : ProxySnp := { hub := h, msg := m, tag := tag, own := false, need := none, asked := asked, waits := asked, best := .snpRspI, data := 0,
                        kept := false, via := noUnit, lost := false,
                        left := (bitsOf e.dieVec 12).filter fun d => !asked.contains d }
  let p := if p.left != [] then { p with best := .snpRspS } else p
  let s := s.onHome fun q => { q with proxies := q.proxies ++ [p] }
  if todo = [] then s.proxyDone p
  else each todo (fun s e => s.sendSnoop h e.2 m.line (s.dieUnit e.1) tag m.part m.fwd m.fwdTxn m.rsv (directedTo m)) s

/-- A snoop meets a line that the proxy hub recalled dirty and whose write-back is not acknowledged: it is answered from there (R217). -/
def State.proxyFromWb (s : State) (h : Nat) (m : CMsg) (x : Line) : State :=
  let a := wbAnswer m.op x
  let s := s.onHome fun q => { q with proxyWb := q.proxyWb.map fun e => if e.1 = h && e.2.1 = m.line then (e.1, e.2.1, false, e.2.2.2) else e }
  let s := match a.fwd with
    | some (op, data) => s.send (.coh { (default : CMsg) with op := op, line := m.line, src := s.hubUnit h, dst := m.fwd, txn := m.fwdTxn,
                                                              part := m.part, rsv := m.rsv, data := data })
    | none => s
  s.send (.coh { (default : CMsg) with op := a.rsp, line := m.line, src := s.hubUnit h, dst := m.src, txn := m.txn, part := m.part,
                                       data := a.back.getD 0, fwd := noUnit })

/-- A snoop reaches the proxy hub. It waits for the hub's own recall of the line. -/
def State.proxySnoop (s : State) (h : Nat) (m : CMsg) : State :=
  if s.home.proxies.any fun p => p.hub = h && p.own && p.msg.line = m.line then
    s.onHome fun q => { q with proxyHeld := q.proxyHeld ++ [(h, m)] }
  else match if directedTo m = none then s.home.proxyWb.find? fun e => e.1 = h && e.2.1 = m.line && e.2.2.1 else none with
    | some e => s.proxyFromWb h m e.2.2.2
    | none => s.proxyAsk h m

/-- The recall of a proxy victim has ended: dirty data goes to the home, and is kept until it is acknowledged; the entry is freed, but for dies that
took the line meanwhile; the snoops and requests that waited go on. -/
def State.proxyRecalled (s : State) (p : ProxySnp) : State :=
  let h := p.hub
  let line := p.msg.line
  let s := s.onHome fun q => { q with proxies := q.proxies.erase p }
  let left := (s.holders h (s.dirEnt h line)).filter fun u => !(p.asked.map s.dieUnit).contains u
  let s := s.dirUpd h line fun e => { s.entryOf e left .shared none with busy := false }
  let back := p.best = .snpData
  let s := if back then s.onHome fun q => { q with proxyWb := q.proxyWb ++ [(h, line, true, p.data)] } else s
  let s := if back || left = [] then
      s.send (.coh { (default : CMsg) with op := if back then .wbDirty else .evictClean, line := line, src := s.hubUnit h,
                                           dst := s.homeUnit line, txn := noSlot, data := if back then p.data else 0 }) else s
  let mine (e : Nat × CMsg) : Bool := e.1 = h && e.2.line = line
  let l := s.home.proxyHeld.filter mine
  let s := s.onHome fun q => { q with proxyHeld := q.proxyHeld.filter fun e => !mine e }
  (each l (fun s e => s.proxySnoop h e.2) s).takeQueued h

/-- Every die asked has answered. -/
def State.proxyEnd (s : State) (p : ProxySnp) : State := if p.own then s.proxyRecalled p else s.proxyDone p

/-- The home has acknowledged what a recall wrote back. -/
def State.proxyWbDone (s : State) (h line : Nat) : State :=
  s.onHome fun q => { q with proxyWb := q.proxyWb.filter fun e => !(e.1 = h && e.2.1 = line) }

/-- A die of the package answers its proxy hub. -/
def State.proxyAnswer (s : State) (h : Nat) (m : CMsg) : State :=
  match s.home.proxies.find? fun p => p.hub = h && p.msg.line = m.line && p.tag = m.txn &&
      p.waits.any fun d => s.dieUnit d = m.src with
  | none => s
  | some p =>
    let d := (unitDie m.src.unit).getD 0
    let q := { p with
      waits := p.waits.erase d
      best := if rspRank p.best < rspRank m.op then m.op else p.best
      data := if m.op = .snpData then m.data else p.data
      via := if m.op = .snpRspPassed then m.fwd else p.via
      kept := p.kept || (m.op = .snpRspFwdDirty && m.mask.getLsbD 1)
      left := if m.op = .snpRspS || m.mask.getLsbD 0 then addOnce p.left d else p.left }
    let s := s.onHome fun k => { k with proxies := k.proxies.map fun x => if x = p then q else x }
    if q.waits = [] then s.proxyEnd q else s

/-- An answer to a snoop reaches hub h: of its home, or of the proxy hub. -/
def State.rspAt (s : State) (h : Nat) (m : CMsg) : State :=
  let s := s.take (.coh m)
  if s.cutOff h m.src then s
  else if pkgOfLine m.line = s.pkg then s.snoopAnswer h m else s.proxyAnswer h m

/-! ## Write-backs (R217, R218) -/

/-- A write-back or notice of a line of another package passes its proxy hub. While the die keeps the line in its write-back buffer the entry
goes on naming it, so that a crossing snoop reaches the buffer (R217, R219); a notice that does not go on is acknowledged at once. -/
def State.proxyWb (s : State) (h : Nat) (m : CMsg) : State :=
  let e := s.dirEnt h m.line
  let u := s.holderOf h m.src
  let own := s.ownerOf h e
  let left := (s.holders h e).filter fun v => v != u
  let fwd (m : CMsg) (s : State) : State := s.send (.coh { m with dst := s.homeUnit m.line })
  if m.op = .wbDirty then
    let s := fwd m s
    if left = [] && e.ds = .owned then fwd { m with op := .evictClean, src := s.hubUnit h, data := 0 } s else s
  else if left = [] then fwd m s
  else (s.dirUpd h m.line fun e => if own = some u then s.entryOf e left .shared none else s.entryOf e left e.ds own).reply h m .wbAck

/-- WB_ACK frees the die's write-back buffer: its proxy entry names it no more. -/
def State.proxyDrop (s : State) (d line : Nat) : State :=
  let h := s.proxyHub line
  let e := s.dirEnt h line
  let u := s.dieUnit d
  if pkgOfLine line = s.pkg || !(s.holders h e).contains u then s
  else
    let left := (s.holders h e).filter fun v => v != u
    s.dirUpd h line fun e => if s.ownerOf h e = some u then s.entryOf e left .shared none else s.entryOf e left e.ds (s.ownerOf h e)

/-- A write-back or notice reaches hub h (R218). While the 64 entries of the write-back buffer are in use it stays on its channel. -/
def State.wbAt (s : State) (h : Nat) (m : CMsg) : State :=
  if pkgOfLine m.line = s.pkg && s.homedAt h m.line && s.lineBusy h m.line && 64 ≤ countOf s.home.heldWb (fun e => e.1 = h) then s
  else
  let s := s.take (.coh m)
  if s.cutOff h m.src then s
  else if pkgOfLine m.line != s.pkg then s.proxyWb h m
  else if (s.otherHome h m).isSome then s.send (.coh ((s.otherHome h m).getD m))
  else if s.lineBusy h m.line then
    let s := s.onHome fun q => { q with heldWb := q.heldWb ++ [(h, m)] }
    -- what a fenced die held is gone: the open request for it cannot be served (R232)
    if m.op = .wbLost then s.onHome fun q => { q with txns := q.txns.map fun t => if t.hub = h && t.req.line = m.line then { t with failed := true } else t }
    else s
  else s.judgeWb h m

/-! ## Fences at a home (R231 step 3) -/

/-- Close the transactions whose requester is cut off, once their snoops are answered, and answer those outstanding to units that are. A line whose
one dirty value was on its way to the requester is lost with it. -/
def State.fenceTxns (s : State) (h : Nat) : State :=
  let s := each ((s.txnsOf h).filter fun t => s.cutOff h t.req.src) (fun s t =>
    if t.waits != [] then s.setTxn { t with failed := true }
    else
      let gone := !t.ackDue && t.fwdDirty && !t.fwdKept
      let s := s.endTxn { t with failed := true }
      if gone then s.poisonLine t.req.line (s.cutCause h t.req.src) else s) s
  let s := each ((s.txnsOf h).filter fun t => t.waits.any fun u => s.cutOff h u) (fun s t =>
    let e := s.dirEnt h t.req.line
    let own := match s.ownerOf h e with | some u => if s.cutOff h u && t.waits.contains u then some u else none | none => none
    let s := match own with | some u => s.poisonLine t.req.line (s.cutCause h u) | none => s
    let t := { t with waits := t.waits.filter fun u => !s.cutOff h u, failed := t.failed || own.isSome }
    (s.setTxn t).advance t) s
  let s := each ((s.home.proxies.filter fun p => p.hub = h && p.waits.any fun d => s.cutOff h (s.dieUnit d))) (fun s p =>
    let own := match s.ownerOf h (s.dirEnt h p.msg.line) with
      | some u => s.cutOff h u && p.waits.any fun d => s.dieUnit d = u
      | none => false
    let s := if own then s.proxyLost h p.msg.line 1 fun u => s.cutOff h u else s
    let q : ProxySnp := { p with waits := p.waits.filter (fun d => !s.cutOff h (s.dieUnit d)), lost := p.lost || own }
    let s := s.onHome fun k => { k with proxies := k.proxies.map fun x => if x = p then q else x }
    if q.waits = [] then s.proxyEnd q else s) s
  s.takeQueued h

end Sys2Proof.Machine
end

