-- ==== Sys2Proof/Machine/XlatOps.lean ====
section
/-! DEFINITION. Address translation (R151 to R172): TLB lookup and fill, the checks of a leaf, the two walkers of a core,
the fault registers, and invalidation. -/

namespace Sys2Proof.Machine

/-! ## Leaf descriptors (R154 to R156) -/

def lV (d : Word) : Bool := d.getLsbD 0
def lLeaf (d : Word) : Bool := d.getLsbD 1
def lAttr (d : Word) : Attr :=
  match bits d 2 2 with
  | 0 => .wb
  | 1 => .wt
  | 2 => .uc
  | _ => .dev
def lR (d : Word) : Bool := d.getLsbD 4
def lW (d : Word) : Bool := d.getLsbD 5
def lX (d : Word) : Bool := d.getLsbD 6
def lU (d : Word) : Bool := d.getLsbD 7
def lG (d : Word) : Bool := d.getLsbD 8
def lA (d : Word) : Bool := d.getLsbD 9
def lD (d : Word) : Bool := d.getLsbD 10
def lContig (d : Word) : Bool := d.getLsbD 11
/-- NEXT or OA as an address. -/
def lAddr (d : Word) : Nat := bits d 12 40 * 4096

/-- Codes of XLAT_FAULT_STAT. -/
def XLATE_RANGE : Nat := 1
def XLATE_INVALID : Nat := 2
def XLATE_LEVEL : Nat := 3
def XLATE_ENTRY_BAD : Nat := 4
def XLATE_PERM : Nat := 5
def XLATE_ACCESS : Nat := 6
def XLATE_DIRTY : Nat := 7
def WALK_BUS : Nat := 8
def WALK_DEV : Nat := 9

/-- R156 in the order of R160: 0, or the code of the first check that fails. Maintenance is checked as a load (R139). -/
def leafCheck (d : Word) (src : Src) (user : Bool) (pa : Nat) : Nat :=
  let rw := match src with
    | .fetch => lX d && (user || !lU d) && (lAttr d = .wb || lAttr d = .wt) && isDram pa
    | .store => lW d
    | .atomic => lR d && lW d
    | _ => lR d
  if !(rw && (!user || lU d)) then XLATE_PERM
  else if !lA d then XLATE_ACCESS
  else if (src = .store || src = .atomic) && !lD d then XLATE_DIRTY
  else 0

/-! ## TLBs (R163, R164) -/

def TlbEnt.covers (e : TlbEnt) (va : Nat) : Bool := e.valid && va / 2 ^ e.bits = e.va / 2 ^ e.bits

def State.asid (s : State) (c : Nat) : Nat := s.f (R.XLAT_BASE c) F.XLAT_BASE_ASID

def State.tlbMatch (s : State) (c va : Nat) (e : TlbEnt) : Bool :=
  e.covers va && e.part = s.corePart c && (lG e.leaf || e.asid = s.asid c)

def TlbEnt.translate (e : TlbEnt) (va : Nat) : Nat := e.pa + va % 2 ^ e.bits

/-- The smallest matching entry among the keys given. -/
def State.tlbBest (s : State) (m : SMap TlbEnt) (c va : Nat) (keys : List Nat) : Option (Nat × TlbEnt) :=
  keys.foldl (fun b k =>
    let e := m.get k
    if s.tlbMatch c va e then
      match b with
      | some (_, e') => if e.bits < e'.bits then some (k, e) else b
      | none => some (k, e)
    else b) none

def tlbSizes : List Nat := [12, 16, 21, 25, 30]
def tlbL2Key (c va size way : Nat) : Nat := (c * 256 + va / 2 ^ size % 256) * 12 + way
def tlbL2Keys (c va : Nat) : List Nat := tlbSizes.flatMap fun z => (List.range 12).map fun w => tlbL2Key c va z w
def tlbL1Keys (c : Nat) : List Nat := (List.range 64).map fun e => c * 64 + e

def State.tlbL1Touch (s : State) (c e : Nat) : State :=
  s.onXlat fun x => { x with l1Tree := x.l1Tree.put c (plruTouch 6 (x.l1Tree.get c) e) }

/-- Fill an L1 TLB entry: the lowest invalid one, else the tree's choice. DESIGN CHOICE, log entry 83: R163 names the tree only. -/
def State.tlbL1Fill (s : State) (c : Nat) (t : TlbEnt) : State :=
  let e := match (List.range 64).find? fun e => !(s.xlat.l1.get (c * 64 + e)).valid with
    | some e => e
    | none => (plruPick 6 (s.xlat.l1Tree.get c) 1 (fun _ => true) 0).getD 0
  (s.onXlat fun x => { x with l1 := x.l1.put (c * 64 + e) { t with used := false } }).tlbL1Touch c e

/-- Set the use bit of a way of a set; when the last would be set, every other is cleared (R163). -/
def State.tlbL2Use (s : State) (base way : Nat) : State :=
  let all := (List.range 12).all fun w => w = way || (s.xlat.l2.get (base + w)).used
  let s := if all then each (List.range 12) (fun s w =>
      s.onXlat fun x => { x with l2 := x.l2.upd (base + w) fun e => { e with used := false } }) s else s
  s.onXlat fun x => { x with l2 := x.l2.upd (base + way) fun e => { e with used := true } }

def State.tlbL2Fill (s : State) (c : Nat) (t : TlbEnt) : State :=
  let base := tlbL2Key c t.va t.bits 0
  let w := ((List.range 12).find? fun w => !(s.xlat.l2.get (base + w)).used).getD 0
  (s.onXlat fun x => { x with l2 := x.l2.put (base + w) t }).tlbL2Use base w

/-- R165: empty both TLBs of a core, and its walks. -/
def State.emptyTlbs (s : State) (c : Nat) : State :=
  s.onXlat fun x => { x with
    l1 := x.l1.filter (fun e => e.1 / 64 != c), l1Tree := x.l1Tree.put c 0,
    l2 := x.l2.filter (fun e => e.1 / 12 / 256 != c),
    rewalk := x.rewalk.filter (fun e => e.1 != c),
    walks := x.walks.filter (fun w => w.core != c), waits := x.waits.filter (fun w => w.1.core != c) }

/-! ## Faults (R161, R172) -/

def srcCode : Src → Nat
  | .fetch => 0
  | .load => 1
  | .store => 2
  | .atomic => 3
  | .maint => 4

/-- Record a fault of a retired access or of maintenance, and raise the exception on the core for the former. -/
def State.xlatFault (s : State) (c : Nat) (src : Src) (user : Bool) (va code level : Nat) (hit : Bool) (desc : Nat)
    (entry : Word) : State :=
  let r := R.XLAT_FAULT_STAT c
  let s := if s.f r F.XLAT_FAULT_STAT_VALID = 1 then s.setF r F.XLAT_FAULT_STAT_OVERRUN 1 else s
  let s := s.setF r F.XLAT_FAULT_STAT_VALID 1
  let s := s.setF r F.XLAT_FAULT_STAT_CODE code
  let s := s.setF r F.XLAT_FAULT_STAT_LEVEL level
  let s := s.setF r F.XLAT_FAULT_STAT_HIT hit.toNat
  let s := s.setF r F.XLAT_FAULT_STAT_SOURCE (srcCode src)
  let s := s.setF r F.XLAT_FAULT_STAT_USER user.toNat
  let s := s.setF r F.XLAT_FAULT_STAT_ASID (s.asid c)
  let s := s.setF r F.XLAT_FAULT_STAT_BEAT_LO s.now
  let s := s.setReg (R.XLAT_FAULT_VA c) (BitVec.ofNat 64 va)
  let s := s.setReg (R.XLAT_FAULT_DESC c) (BitVec.ofNat 64 (desc / 8 * 8 % 2 ^ 52))
  let s := s.setReg (R.XLAT_FAULT_ENTRY c) entry
  if src = .maint then s else s.toCore c 2 (BitVec.ofNat 512 code)

/-! ## Walks (R158 to R160) -/

/-- The descriptor address at a level (R153). -/
def descAddr (table va level : Nat) : Nat :=
  match level with
  | 0 => table + va / 2 ^ 39 % 8192 * 8
  | 1 => table + va / 2 ^ 30 % 512 * 8
  | 2 => table + va / 2 ^ 21 % 512 * 8
  | _ => table + va / 2 ^ 12 % 512 * 8

def State.tableBase (s : State) (c : Nat) : Nat := s.f (R.XLAT_BASE c) F.XLAT_BASE_BASE * 2 ^ 16

/-- The owner of a DRAM line of any package (R297); other packages' regions stand in the effective configuration. -/
def State.ownerAny (s : State) (line : Nat) : Nat :=
  if pkgOfLine line = s.pkg then s.lineOwner line
  else match s.boot.cfg.regions.find? fun r => r.pkg = pkgOfLine line && r.base ≤ line * 64 && line * 64 < r.base + r.size with
    | some r => r.part
    | none => 0

/-- Steps 1 to 3 of R32 for a descriptor: 0 to read it, else WALK_DEV or WALK_BUS with the record of R33 or R34. An address in the Control
Space or PCIe windows of a package not in the system ends in WALK_DEV: DESIGN CHOICE, log entry 83. The backing of another package's DRAM
is known at its home only, which then refuses the read with the record of R33: DEDUCED, log entry 83. -/
def State.descDecode (s : State) (pa : Nat) : Nat × Option ECode :=
  match paKind pa with
  | .dram p =>
    if !s.inSystem p then (WALK_BUS, some E.PA_NO_PACKAGE)
    else if p = s.pkg && (s.chanOf (offOfLine (pa / 64))).isNone then (WALK_BUS, some E.PA_UNMAPPED)
    else (0, none)
  | .reserved => (WALK_BUS, some E.PA_UNMAPPED)
  | _ => (WALK_DEV, none)

def State.setWalk (s : State) (w : Walk) : State :=
  s.onXlat fun x => { x with walks := x.walks.map fun v => if v.core = w.core && v.n = w.n then w else v }

def State.dropWalk (s : State) (w : Walk) : State :=
  s.onXlat fun x => { x with walks := x.walks.filter fun v => !(v.core = w.core && v.n = w.n) }

/-- End a walk in a fault: nothing is installed. A predicted path records nothing (R128). -/
def State.walkFault (s : State) (w : Walk) (code : Nat) (cause : Option ECode) (entry : Word) : State :=
  let s := s.dropWalk w
  if w.fast then s
  else
    let s := match cause with
      | some e => s.record e 0 w.core [w.part] (some w.desc)
      | none => s
    let s := if code = WALK_BUS then s.record E.WALK_BUS 0 w.core [w.part] (some w.desc)
      else if code = WALK_DEV then s.record E.WALK_DEV 0 w.core [w.part] (some w.desc) else s
    let s := s.xlatFault w.core w.acc.src w.acc.user w.va code w.level false w.desc entry
    match w.cmo with
    | some _ => (each (s.sharers w.core) (fun s k => s.setF (R.CMO_STAT k) F.CMO_STAT_XLATE_FAULT 1) s).coreReply w.core 0
    | none => s

/-- Issue the descriptor read of a walk through the Die Cache (R158, R159). A request of the Die Cache for a line that a maintenance
operation acts on is held (R143), and only a request of an L1 updates the tree (R120). -/
def State.walkRead (s : State) (w : Walk) : State :=
  match s.descDecode w.desc with
  | (0, _) =>
    let d := dieOf w.core
    let line := w.desc / 64
    if s.cmoHeldDc w.core line then s.setWalk { w with got := none, held := true }
    else match s.dcHit d line w.part with
    | some _ =>
      let s := s.cleanL1s d line
      s.setWalk { w with got := some (some (Acc.descWord ((s.dcFind d line).getD default).data w.desc)) }
    | none =>
      let s := s.setWalk { w with got := none }
      if s.f (R.DC_CTL d) F.DC_CTL_EN = 0 then
        s.sendDirect { w.acc with src := .maint, pa := w.desc, size := 8, twin := false } w.core .ucRd
          (maskFor (w.desc % 64) 8) 0 default
      else s.dcRequest d line .rdShared w.part none (some (w.core, w.n)) none
  | (code, e) => s.walkFault w code e 0

/-- The first free walker of a core. -/
def State.freeWalker (s : State) (c : Nat) : Option Nat :=
  (List.range 2).find? fun n => !(s.xlat.walks.any fun w => w.core = c && w.n = n)

/-- A mark of R165 covers an address of core c. -/
def lostAt (c va : Nat) (e : Nat × Nat × Nat) : Bool := e.1 = c && va / 2 ^ e.2.2 = e.2.1 / 2 ^ e.2.2

/-- A TLB miss: a walk on a free walker, which answers the marks of R165 for its address, or a wait for one or for the walk of the same page. -/
def State.startWalk (s : State) (a : Acc) (cmo : Option (Nat × Nat)) (spec : Bool) : State :=
  let c := a.core
  let s := s.count c 0x0B a.user
  let w : Walk := { core := c, n := 0, va := a.va, level := 0, desc := descAddr (s.tableBase c) a.va 0, got := none, denied := false,
                    part := s.corePart c, asid := s.asid c, acc := a, cmo := cmo, fast := spec, held := false }
  if s.xlat.walks.any fun v => v.core = c && v.va / 4096 = a.va / 4096 then
    s.onXlat fun x => { x with waits := x.waits ++ [(w, true)] }
  else match s.freeWalker c with
    | none => s.onXlat fun x => { x with waits := x.waits ++ [(w, false)] }
    | some n => (s.onXlat fun x => { x with walks := x.walks ++ [{ w with n := n }]
                                            rewalk := x.rewalk.filter fun e => !lostAt c a.va e }).walkRead { w with n := n }

/-- What a lookup gives: a physical address under a leaf (none while translation is off), a fault, or a miss. -/
inductive XRes where
  | ok (pa : Nat) (attr : Attr) (leaf : Option Word)
  | fault (code : Nat) (leaf : Word)
  | miss
  deriving DecidableEq, Repr

/-- R152: the attribute while translation is off. -/
def offAttr (pa : Nat) : Attr := if isDram pa then .wb else .dev

/-- Translate an address (R151, R152, R163, R164): the smallest matching entry of both TLBs; an L2 hit fills the L1 TLB. An access to a
range whose entry was lost to a parity error walks again (R165). -/
def State.translate (s : State) (c : Nat) (src : Src) (user : Bool) (va : Nat) : State × XRes :=
  if 2 ^ 52 ≤ va then (s, .fault XLATE_RANGE 0)
  else if s.f (R.XLAT_CTL c) F.XLAT_CTL_EN = 0 then
    (s, if src = .fetch && !isDram va then .fault XLATE_PERM 0 else .ok va (offAttr va) none)
  else if s.xlat.rewalk.any (lostAt c va) then (s, .miss)
  else
    let use (s : State) (e : TlbEnt) : State × XRes :=
      let pa := e.translate va
      match leafCheck e.leaf src user pa with
      | 0 => (s, .ok pa (lAttr e.leaf) (some e.leaf))
      | code => (s, .fault code e.leaf)
    let far := s.tlbBest s.xlat.l2 c va (tlbL2Keys c va)
    let farUse (s : State) : State × XRes :=
      match far with
      | some (k, e) => use ((s.tlbL2Use (k / 12 * 12) (k % 12)).tlbL1Fill c e) e
      | none => (s, .miss)
    match s.tlbBest s.xlat.l1 c va (tlbL1Keys c) with
    | some (k, e) => if far.any fun g => decide (g.2.bits < e.bits) then farUse s else use (s.tlbL1Touch c (k % 64)) e
    | none => farUse (s.count c 0x0A user)

/-- The slot a leaf gives (R162): its page or block, or the group of 16 where the hint holds. -/
def leafEntry (w : Walk) (d : Word) : TlbEnt :=
  let size := match w.level with | 1 => 30 | 2 => 21 | _ => 12
  let idx := w.va / 2 ^ size % 16
  let group := lContig d && w.level != 1 && idx * 2 ^ size ≤ lAddr d && (lAddr d - idx * 2 ^ size) % 2 ^ (size + 4) = 0
  let bits := if group then size + 4 else size
  { valid := true, part := w.part, asid := w.asid, va := w.va / 2 ^ bits * 2 ^ bits, bits := bits,
    pa := if group then lAddr d - idx * 2 ^ size else lAddr d, leaf := d, used := false }

/-- R155 and the level rule: 0, or the code. A descriptor that fails both is reported as malformed: DESIGN CHOICE, log entry 83. -/
def descCheck (level : Nat) (d : Word) : Nat :=
  if bits d 52 4 != 0 || (lLeaf d && level = 1 && lAddr d % 2 ^ 30 != 0) || (lLeaf d && level = 2 && lAddr d % 2 ^ 21 != 0) then
    XLATE_ENTRY_BAD
  else if (lLeaf d && level = 0) || (!lLeaf d && level = 3) then XLATE_LEVEL
  else 0

/-- How a walk stands after its descriptor came: reading the next level, ended, or with its leaf installed. -/
inductive WalkRes where
  | more
  | ended
  | leaf (pa : Nat) (attr : Attr) (d : Word)
  deriving DecidableEq, Repr

/-- Consume the descriptor a walk has read (R160). -/
def State.walkStep (s : State) (w : Walk) : State × WalkRes :=
  match w.got with
  | none => (s, .more)
  | some none => (s.walkFault w (if w.denied then WALK_DEV else WALK_BUS) none 0, .ended)
  | some (some d) =>
    if !lV d then (s.walkFault w XLATE_INVALID none d, .ended)
    else match descCheck w.level d with
      | 0 =>
        if lLeaf d then
          let e := leafEntry w d
          let s := (((s.dropWalk w).tlbL2Fill w.core e).tlbL1Fill w.core e).count w.core 0x0C w.acc.user
          let pa := e.translate w.va
          match leafCheck d w.acc.src w.acc.user pa with
          | 0 => (s, .leaf pa (lAttr d) d)
          | code => (s.walkFault w code none d, .ended)
        else
          let w := { w with level := w.level + 1, desc := descAddr (lAddr d) w.va (w.level + 1), got := none }
          ((s.setWalk w).walkRead w, .more)
      | code => (s.walkFault w code none d, .ended)

/-- The accesses of a core that waited for a walker or a walk; they are tried again. -/
def State.takeWaits (s : State) (c : Nat) : State × List Walk :=
  (s.onXlat fun x => { x with waits := x.waits.filter fun w => w.1.core != c },
   (s.xlat.waits.filter fun w => w.1.core = c).map (·.1))

/-! ## Invalidation (R166 to R168) -/

/-- The entries an operation removes. -/
def tlbiHits (op va asid part : Nat) (e : TlbEnt) : Bool :=
  e.valid && e.part = part && match op with
    | 1 => e.covers va && (e.asid = asid || lG e.leaf)
    | 2 => e.covers va
    | 3 => e.asid = asid && !lG e.leaf
    | 4 => true
    | _ => false

/-- A walk in flight for a matching address. Its leaf may be a block of up to 1 GiB, or global, so every walk within the same 1 GiB is
taken to match. -/
def tlbiWalk (op va asid part : Nat) (w : Walk) : Bool :=
  w.part = part && match op with
    | 1 => w.va / 2 ^ 30 = va / 2 ^ 30
    | 2 => w.va / 2 ^ 30 = va / 2 ^ 30
    | 3 => w.asid = asid
    | 4 => true
    | _ => false

/-- A core applies an invalidation: matching entries go, matching walks start over in the table and under the ASID that hold now. -/
def State.tlbiLocal (s : State) (c op va asid part : Nat) : State :=
  let keep (span : Nat) (e : Nat × TlbEnt) : Bool := e.1 / span != c || !tlbiHits op va asid part e.2
  let s := s.onXlat fun x => { x with l1 := x.l1.filter (keep 64), l2 := x.l2.filter (keep 3072) }
  each (s.xlat.walks.filter fun w => w.core = c && tlbiWalk op va asid part w) (fun s w =>
    let w := { w with level := 0, desc := descAddr (s.tableBase c) w.va 0, asid := s.asid c, got := none, held := false }
    (s.setWalk w).walkRead w) s

end Sys2Proof.Machine
end

