-- ==== Sys2Proof/Machine/CmoOps.lean ====
section
/-! DEFINITION. Cache maintenance (R136 to R145): the operations of CMO_ISSUE at each level, what makes them wait, and the
whole-level walks. -/

namespace Sys2Proof.Machine

/-- A fill in flight that the operation must wait for, or a write-back not yet acknowledged (R143, R144). -/
def State.cmoMustWait (s : State) (c : Nat) (q : Cmo) : Bool :=
  if q.level = 3 then (s.cmoDies c).any fun d =>
    if q.sw then s.dcFilling d (q.line / 32) (q.line % 32)
    else s.inWb d q.line || s.cache.dcMiss.any fun m => m.die = d && m.line = q.line
  else s.cache.l1miss.any fun m => (s.cmoCores c).contains m.core && m.instr = decide (q.level = 2) && q.level != 0 &&
    (if q.sw then l1Set m.line = q.line / 32 && m.way = q.line % 32 else m.line = q.line)

/-- The reads of this package's PCIe windows and configuration registers that have not been answered. -/
def State.segAccs (s : State) : List Acc :=
  s.pcie.segs.flatMap fun e => (e.2.out ++ e.2.waitTag ++ e.2.rrs.map (·.1)).filterMap fun r =>
    if r.kind = 0 then some r.acc
    else if (r.kind = 1 || r.kind = 2) && r.acc.core / 256 = s.pkg then some { r.acc with core := r.acc.core % 256, attr := .dev }
    else none

/-- The Control Space accesses of this package's cores that are held (R392). -/
def State.heldAccs (s : State) : List Acc :=
  s.pwr.heldCs.filterMap fun e => (s.whoCore e.who).map fun c =>
    { (default : Acc) with core := c, src := if e.wr.isSome then .store else .load, pa := s.csAddr e.off, size := 8, attr := .dev,
                           part := s.corePart c, twin := s.paired (s.corePart c) c }

/-- The translated accesses that have not been performed, but for those held at a register. -/
def State.outAccs (s : State) : List Acc :=
  s.cache.waitL1 ++ s.cache.l1miss.flatMap (·.accs) ++ s.cache.direct.map (·.acc) ++ s.segAccs

/-- Core c has an access outstanding: one that waits, misses, walks, is held, or is at a home or target (R142). -/
def State.accsOut (s : State) (c : Nat) (which : Acc → Bool) : Bool :=
  (s.outAccs ++ s.heldAccs ++ s.xlat.walks.map (·.acc) ++ s.xlat.waits.map (·.1.acc)).any fun a =>
    a.src != .maint && a.cores.contains c && which a

/-- R132: an access of a core to a target of this package's own waits, UC or DEV, for what the core has outstanding, where one is DEV; one
that goes to a home or another package waits there for the requests before it. -/
def State.devAhead (s : State) (a : Acc) : Bool :=
  (s.segAccs ++ s.heldAccs ++ (if isDram a.pa then [] else (s.cache.direct.filter fun q => isIo q.op).map (·.acc))).any fun b =>
    b.src != .maint && b.meets a && b.devOrder a

/-- One core's L0 and L1s (R137). -/
def State.cmoL1 (s : State) (c : Nat) (o : Cmo) : State :=
  match o.level, o.kind with
  | 0, 1 => s
  | 0, _ => s.l0Remove c o.line
  | 1, 1 => s.l1Clean c o.line
  | 1, 2 =>
    if o.discard then (s.l1Remove c false o.line).dcUpd (dieOf c) o.line fun l =>
      { l with presence := clearBit l.presence (presBit c false) }
    else s.l1Evict c false o.line
  | 1, _ => s.l1Evict c false o.line
  | _, 1 => s
  | _, _ => s.l1Evict c true o.line

/-- An access record that stands for a maintenance request of core c. -/
def State.maintAcc (s : State) (c line : Nat) : Acc :=
  { (default : Acc) with core := c, src := .maint, pa := line * 64, part := s.corePart c }

/-- A line of the issuing die, of the core's own partition (R141): cleaned through its home, or evicted. The part that has then to be
answered: the unit that sent it, and the line. -/
def State.cmoDieLine (s : State) (c d kind line : Nat) : State × List (Nat × Nat) :=
  match s.dcFind d line with
  | none => (s, [])
  | some l =>
    if l.part != s.corePart c then (s, [])
    else if kind = 1 then
      if l.coh = .s then (s, [])
      else (s.sendDirect (s.maintAcc c line) (0xF0 + d) .cmoClean 0 0 default, [(0xF0 + d, line)])
    else (s.dcEvict d line, [(0xF0 + d, line)])

/-- Act on lines of dies; every part waits for its answer. -/
def State.cmoLines (s : State) (c kind : Nat) (l : List (Nat × Nat)) : State × List (Nat × Nat) :=
  l.foldl (fun r e => let (s, p) := r.1.cmoDieLine c e.1 kind e.2; (s, r.2 ++ p)) (s, [])

/-- The sets (or entries) of a level, and its ways. -/
def cmoSets (level : Nat) : Nat := if level = 0 then 1 else if level = 3 then 65536 else 32
def cmoWays (level : Nat) : Nat := if level = 0 then 32 else if level = 3 then 16 else 8

def State.setBothCmo (s : State) (c : Nat) (fl : Fld) (v : Nat) : State :=
  each (s.cmoCores c) (fun s k => s.setF (R.CMO_STAT k) fl v) s

/-- A whole-level walk has ended, with its write-backs (R142). -/
def State.walkOver (s : State) (c : Nat) : State :=
  let level := s.f (R.CMO_STAT c) F.CMO_STAT_WALK_CMD / 16
  ((s.setBothCmo c F.CMO_STAT_BUSY 0).setBothCmo c F.CMO_STAT_DONE 1).setBothCmo c F.CMO_STAT_PROGRESS
    (if level = 0 then 32 else cmoSets level)

/-- An operation of which no part is outstanding ends: its write of CMO_ISSUE completes, or its walk is over. -/
def State.cmoOver (s : State) (q : CmoOut) (code : Nat) : State := if q.walk then s.walkOver q.core else s.coreReply q.core code

/-- Parts of an operation are outstanding; with none it ends at once. -/
def State.cmoBegin (s : State) (q : CmoOut) : State :=
  if q.parts = [] then s.cmoOver q 0 else s.onCache fun k => { k with cmoOut := k.cmoOut ++ [q] }

/-- A part of maintenance operations has ended: a line that a unit sent has been answered. -/
def State.cmoPart (s : State) (unit line code : Nat) : State :=
  if (s.cache.direct.any fun q => q.unit = unit && q.line = line && q.acc.src = .maint) ||
      s.cache.wb.any fun e => 0xF0 + e.die = unit && e.line = line then s
  else
    let left (o : CmoOut) : CmoOut := { o with parts := o.parts.filter fun p => p != (unit, line) }
    let ended := s.cache.cmoOut.filter fun o => (left o).parts = []
    let s := s.onCache fun k => { k with cmoOut := (k.cmoOut.map left).filter fun o => o.parts != [] }
    each ended (fun s o => s.cmoOver o code) s

/-- End the operations that have nothing left to wait for since a die was lost. -/
def State.cmoSweep (s : State) : State := s.cmoPart noTag 0 0

/-- The four lines of an L1 block at a set and way. -/
def State.l1Lines (s : State) (c : Nat) (i : Bool) (set way : Nat) : List Nat :=
  let b := (s.cache.blks i).get (blkKey c set way)
  if b.used then (List.range 4).map fun q => b.tag * 128 + set * 4 + q else []

/-- An operation by set and way at L0 or an L1 (R137). -/
def State.cmoSetWay (s : State) (c kind level set way : Nat) : State :=
  each (s.cmoCores c) (fun s k =>
    let lines := if level = 0 then
        (match s.cache.l0.get (k * 32 + way) with
         | 0 => []
         | l + 1 => [l])
      else s.l1Lines k (level = 2) set way
    each lines (fun s l => s.cmoL1 k { kind := kind, level := level, line := l, discard := false, sw := false }) s) s

/-- Perform an operation that need not wait. At the Die Cache level the write of CMO_ISSUE completes once every part is answered; one by
address is performed at the home, for a pair by HUB-A (R142, R145). met: it has met a fill. -/
def State.cmoPerform (s : State) (c : Nat) (q : Cmo) (met : Bool) : State :=
  if q.level != 3 then
    (if q.sw then s.cmoSetWay c q.kind q.level (q.line / 32) (q.line % 32) else each (s.cmoCores c) (fun s k => s.cmoL1 k q) s).coreReply c 0
  else if q.sw then
    let (s, parts) := s.cmoLines c q.kind ((s.cmoDies c).filterMap fun d => (s.wayLine d (q.line / 32) (q.line % 32)).map fun l => (d, l))
    s.cmoBegin { core := c, walk := false, hold := met, parts := parts }
  else
    let unit := if s.paired (s.corePart c) c then 0xFC else 0xF0 + dieOf c
    (s.sendDirect (s.maintAcc c q.line) unit (if q.kind = 1 then .cmoClean else .cmoCleanInv) 0 0 default).cmoBegin
      { core := c, walk := false, hold := met, parts := [(unit, q.line)] }

/-- An operation by address at the Die Cache level is decoded as an access would be (R32, R140): what it does where the address has
no backed target. Of an address that is not DRAM the spec says nothing: the operation completes with no effect and no record (DESIGN CHOICE, log
entry 94). -/
def State.cmoDecode (s : State) (c : Nat) (q : Cmo) : Option State :=
  if q.level != 3 || q.sw then none
  else match s.undecoded (q.line * 64) with
    | some e => some ((s.record e 0 c [s.corePart c] (some (q.line * 64))).coreReply c 1)
    | none => if isDram (q.line * 64) then none else some (s.coreReply c 0)

/-- Start an operation, or let it wait for a fill or a write-back. met: it has waited already. -/
def State.cmoStart (s : State) (c : Nat) (q : Cmo) (met : Bool := false) : State :=
  match s.cmoDecode c q with
  | some t => t
  | none =>
    if s.cmoMustWait c q then s.onCache fun k => { k with cmoWait := k.cmoWait ++ [(c, cmoCode q, q.line, true)] }
    else s.cmoPerform c q met

/-- A whole level, when its walk ends: what is left to be answered (R142). -/
def State.cmoWalk (s : State) (c kind level : Nat) : State × List (Nat × Nat) :=
  if level = 3 then
    s.cmoLines c kind ((s.cmoDies c).flatMap fun d =>
      s.cache.dc.filterMap fun e => if e.1 / 16 / 65536 = d && e.2.coh != .i then some (d, e.2.line) else none)
  else (each (List.range (cmoSets level)) (fun s set => each (List.range (cmoWays level)) (fun s way =>
    s.cmoSetWay c kind level set way) s) s, [])

/-- A write of CMO_ISSUE by the core itself: op, by, level and address bits [51:6] (R136 to R142). It waits for the core's earlier accesses. -/
def State.cmoWrite (s : State) (c op byKind level addr : Nat) (user : Bool) : State :=
  if op = 0 then s.coreReply c 0
  else if (s.cmoCores c).any fun k => s.accsOut k fun _ => true then
    s.onCache fun k => { k with cmoWait := k.cmoWait ++ [(c, 64 + op + byKind * 4 + level * 16 + user.toNat * 128, addr, false)] }
  else match byKind with
  | 0 => s.cmoStart c { kind := op, level := level, line := addr, discard := true, sw := false }
  | 1 =>
    match s.translate c .maint user (addr * 64) with
    | (s, .ok pa _ leaf) =>
      let may := match leaf with
        | none => true
        | some d => lW d && (!user || lU d)
      s.cmoStart c { kind := op, level := level, line := pa / 64, discard := may, sw := false }
    | (s, .fault code leaf) =>
      ((s.xlatFault c .maint user (addr * 64) code 0 (code != XLATE_RANGE) 0 leaf).setBothCmo c F.CMO_STAT_XLATE_FAULT 1).coreReply c 0
    | (s, .miss) =>
      let a : Acc := { (default : Acc) with core := c, src := .maint, va := addr * 64, user := user, part := s.corePart c,
                                            twin := s.paired (s.corePart c) c }
      s.startWalk a (some (op, level)) false
  | 2 =>
    let way := addr % 32
    let set := addr / 32 % 65536
    if 2 ^ 21 ≤ addr || cmoSets level ≤ set || cmoWays level ≤ way then (s.setBothCmo c F.CMO_STAT_BAD 1).coreReply c 0
    else s.cmoStart c { kind := op, level := level, line := set * 32 + way, discard := false, sw := true }
  | _ =>
    if addr != 0 then (s.setBothCmo c F.CMO_STAT_BAD 1).coreReply c 0
    else if s.f (R.CMO_STAT c) F.CMO_STAT_BUSY = 1 then (s.setBothCmo c F.CMO_STAT_REJECT 1).coreReply c 0
    else
      (((s.setBothCmo c F.CMO_STAT_BUSY 1).setBothCmo c F.CMO_STAT_WALK_CMD (op + 12 + 16 * level)).setBothCmo c
        F.CMO_STAT_PROGRESS 0).coreReply c 0

/-- The descriptor reads of a die that were held are issued (R143). -/
def State.walksHeld (s : State) (d : Nat) : State :=
  each (s.xlat.walks.filter fun w => w.held && dieOf w.core = d) (fun s w =>
    (s.setWalk { w with held := false }).walkRead { w with held := false }) s

/-- Try the waiting operations of a die again, in order, and then what they held (R143). -/
def State.cmoResume (s : State) (d : Nat) : State :=
  let s := s.cmoSweep
  let mine (e : Nat × Nat × Nat × Bool) : Bool := (s.cmoDies e.1).contains d
  let l := s.cache.cmoWait.filter mine
  let s := s.onCache fun k => { k with cmoWait := k.cmoWait.filter fun e => !mine e }
  (each l (fun s e =>
    let (c, code, arg, _) := e
    if code < 64 then s.cmoStart c (cmoOf code arg) true
    else s.cmoWrite c (code % 4) (code / 4 % 4) (code / 16 % 4) arg (128 ≤ code - 64)) s).retryWaiting d |>.walksHeld d

/-- A write of CMO_ISSUE in core block blk (R136): only that core may issue it. -/
def State.cmoIssue (s : State) (w : Who) (blk op byKind level addr : Nat) (user : Bool) : State :=
  s.csGuard w (R.CMO_ISSUE blk) 8 (some (BitVec.ofNat 64 (op + byKind * 4 + level * 16 + addr * 64))) fun s =>
    match s.ownBlk w blk with
    | some c => s.cmoWrite c op byKind level addr user
    | none => s.csFail w E.CMO_REMOTE (servingUnit .core blk) (R.CMO_ISSUE blk)

/-- The leaf of a walk that a maintenance operation started (R139). -/
def State.cmoLeaf (s : State) (w : Walk) (pa : Nat) (d : Word) : State :=
  match w.cmo with
  | some (op, level) =>
    s.cmoStart w.core { kind := op, level := level, line := pa / 64, discard := lW d && (!w.acc.user || lU d), sw := false }
  | none => s

end Sys2Proof.Machine
end

