-- ==== Sys2Proof/Machine/TlbiOps.lean ====
section
/-! DEFINITION. Broadcast invalidations and syncs (R166 to R171): who must apply one, what it waits for, and its end. -/

namespace Sys2Proof.Machine

/-- The cores that act as one issuer: both members of a pair, else the core (R171). -/
def State.issuers (s : State) (c : Nat) : List Nat := s.cmoCores c

/-- The invalidations that core c issued and that are not applied everywhere; those of a pair are the logical core's (R171). -/
def State.tlbisOf (s : State) (c : Nat) : List Tlbi := s.xlat.tlbis.filter fun t =>
  t.core = c || (s.isTwin (s.corePart c) && t.core % 120 = c % 120)

/-- TLBI_STAT.OUTSTANDING as it stands. -/
def State.tlbiCount (s : State) (c : Nat) : State :=
  each (s.blkCores c) (fun s k => s.setF (R.TLBI_STAT k) F.TLBI_STAT_OUTSTANDING ((s.tlbisOf c).filter fun t => !t.loc).length) s

/-- The cores of a partition a broadcast goes to, but for its issuers: those in RUN or HALT here, and those the partition
owns in every other admitted package (R166, R169). -/
def State.tlbiTargets (s : State) (c p : Nat) : List (Nat × Nat) :=
  let own := (allCores.filter fun k => s.corePart k = p && s.alive k && !(s.issuers c).contains k).map fun k => (s.pkg, k)
  let far := (without (bitsOf (s.f R.SYS_STAT F.SYS_STAT_ADMITTED) 8) [s.pkg]).flatMap fun q =>
    (allCores.filter fun k => s.ownerOfCore q k = p).map fun k => (q, k)
  own ++ far

/-- How a broadcast stands in a twin input: operation, ASID, VA page and source. -/
def tlbiArg (op asid page srcPkg src : Nat) : Nat := op + 8 * asid + 2 ^ 19 * page + 2 ^ 71 * (srcPkg * 256 + src)

/-- Deliver a broadcast to a core of this package: as an input of its pair, or by a message (R171, R94). -/
def State.tlbiDeliver (s : State) (k op va asid p srcPkg src : Nat) : State :=
  if s.paired p k then
    if k < 120 then s.twinInput k 2 (tlbiArg op asid (va / 4096) srcPkg src) 0 false else s
  else s.send (.tlbi s.pkg k op va asid p)

/-- An access outstanding on a core that may use an entry the operation removes (R168). The virtual address of an agreed access of a pair, of
one held at a register and of a configuration access is not kept: each is taken to use it. -/
def State.tlbiBusy (s : State) (c op va : Nat) : Bool :=
  (s.outAccs.any fun a => a.cores.contains c && (op = 3 || op = 4 || a.twin || a.attr = .dev || a.va / 2 ^ 30 = va / 2 ^ 30)) ||
    s.heldAccs.any fun a => a.cores.contains c

/-- Issue an invalidation: removed on the issuing core at once, sent to the others, and held until all have applied it. An issuer with an
access outstanding that used a removed entry applies it once that access is performed (R168). -/
def State.tlbiSend (s : State) (c op va asid : Nat) (loc : Bool) : State :=
  let p := s.corePart c
  let s := each (s.issuers c) (fun s k => s.tlbiLocal k op va asid p) s
  let late := ((s.issuers c).filter fun k => s.tlbiBusy k op va).map fun k => (s.pkg, k)
  let todo := if loc then [] else s.tlbiTargets c p
  let s := each todo (fun s e =>
    if e.1 = s.pkg then s.tlbiDeliver e.2 op va asid p s.pkg c else s.send (.tlbi e.1 e.2 op va asid p)) s
  let s := each late (fun s e => s.send (.tlbi s.pkg e.2 op va asid p)) s
  if late ++ todo = [] then s
  else (s.onXlat fun x => { x with tlbis := x.tlbis ++
    [{ core := c, op := op, va := va, asid := asid, part := p, todo := late ++ todo, loc := loc }] }).tlbiCount c

/-- A store of the issuing core is not yet visible at its home (R167). -/
def State.storesOut (s : State) (c : Nat) : Bool :=
  (s.issuers c).any fun k => s.accsOut k fun a => a.src = .store || a.src = .atomic

/-- A write of TLBI_ISSUE must wait: for an earlier store, an earlier such write, or, as a seventeenth broadcast, for the oldest. -/
def State.tlbiHold (s : State) (c : Nat) (loc : Bool) : Bool :=
  s.storesOut c || (!loc && 16 ≤ ((s.tlbisOf c).filter fun t => !t.loc).length)

/-- A write of TLBI_ISSUE by its core (R167). -/
def State.tlbiIssue (s : State) (c op va asid : Nat) (loc : Bool) : State :=
  if s.tlbiHold c loc || (s.coreH c).tlbiStall != [] then
    (s.updCoreH c fun h => { h with tlbiStall := h.tlbiStall ++ [(op + 8 * loc.toNat, va, asid)] }).coreReply c 3
  else (s.tlbiSend c op va asid loc).coreReply c 0

/-- The first stalled write of a core goes on once nothing holds it. -/
def State.tlbiRelease (s : State) (c : Nat) : State :=
  match (s.coreH c).tlbiStall with
  | [] => s
  | (op, va, asid) :: r =>
    let loc := decide (8 ≤ op)
    if s.tlbiHold c loc then s
    else ((s.updCoreH c fun h => { h with tlbiStall := r }).tlbiSend c (op % 8) va asid loc).coreReply c 0

/-- The cores with a stalled write of TLBI_ISSUE. -/
def State.tlbiStalled (s : State) : List Nat := (s.cores.hid.filter fun e => e.2.tlbiStall != []).map (·.1)

/-- Take out the invalidations that every core has applied, and let stalled writes go on. -/
def State.tlbiSettle (s : State) : State :=
  let ended := ((s.xlat.tlbis.filter fun t => t.todo = []).map (·.core)).eraseDups
  let s := s.onXlat fun x => { x with tlbis := x.tlbis.filter fun t => t.todo != [] }
  let s := each ended State.tlbiCount s
  each s.tlbiStalled State.tlbiRelease s

/-- The first invalidation of a list that core e of a package has still to apply, with e taken out. -/
def tlbiMark (src op va asid : Nat) (e : Nat × Nat) : List Tlbi → List Tlbi
  | [] => []
  | t :: r =>
    if t.core = src && t.op = op && t.va = va && t.asid = asid && t.todo.contains e then { t with todo := t.todo.erase e } :: r
    else t :: tlbiMark src op va asid e r

/-- A core has applied an invalidation that core src of this package issued. -/
def State.tlbiAck (s : State) (src op va asid pkg c : Nat) : State :=
  (s.onXlat fun x => { x with tlbis := tlbiMark src op va asid (pkg, c) x.tlbis }).tlbiSettle

/-- A core has left RUN and HALT, or a package has gone: nothing waits for it (R169). -/
def State.tlbiDrop (s : State) (gone : Nat × Nat → Bool) : State :=
  (s.onXlat fun x => { x with tlbis := x.tlbis.map fun t => { t with todo := t.todo.filter fun e => !gone e } }).tlbiSettle

/-- A core of this package applies a broadcast and tells its source. -/
def State.tlbiDo (s : State) (c op va asid p srcPkg src : Nat) : State :=
  let s := s.tlbiLocal c op va asid p
  if srcPkg = s.pkg then s.tlbiAck src op va asid s.pkg c else s.send (.remote srcPkg src 5 0)

/-- An access of the cores of a die has ended: what waited for earlier accesses goes on, maintenance (R142), invalidations (R167) and
their acknowledgements (R168). -/
def State.accsSettle (s : State) (d : Nat) : State := ((s.cmoResume d).cmoResume ((d + 6) % 12)).tlbiSettle

end Sys2Proof.Machine
end

