-- ==== Sys2Proof/Machine/PcieOps.lean ====
section
/-! DEFINITION. PCIe segments (R349 to R367): requests and posted writes on a link, DMA toward the homes in order, link down,
events, and the copy engine's part in them (R373). -/

namespace Sys2Proof.Machine

def State.updSeg (s : State) (k : Nat) (f : SegH → SegH) : State :=
  s.onPcie fun p => { p with segs := p.segs.upd k f }
def State.fn (s : State) (port f : Nat) : FnH := s.pcie.fns.get (port * 8 + f)
def State.updFn (s : State) (port f : Nat) (g : FnH → FnH) : State :=
  s.onPcie fun p => { p with fns := p.fns.upd (port * 8 + f) g }

def rStat (k : Nat) : Nat := R.SEG_STAT (k / 4) (k % 4)
def rSegCtl (k : Nat) : Nat := R.SEG_CTL (k / 4) (k % 4)
def rHpCtl (k : Nat) : Nat := R.HP_CTL (k / 4) (k % 4)
def rHpStat (k : Nat) : Nat := R.HP_STAT (k / 4) (k % 4)
def rCfgAddr (k : Nat) : Nat := R.CFG_ADDR (k / 4) (k % 4)
def rErrCnt (k : Nat) : Nat := R.SEG_ERR_CNT (k / 4) (k % 4)

def State.owner (s : State) (k : Nat) : Nat := s.segOwner (k / 4) (k % 4)
def State.ltssm (s : State) (k : Nat) : Nat := s.f (rStat k) F.SEG_STAT_LTSSM

/-- LTSSM codes. -/
def L_DISABLED : Nat := 0
def L_DETECT : Nat := 1
def L_TRAINING : Nat := 2
def L_L0 : Nat := 3
def L_RECOVERY : Nat := 4
def L_HOT_RESET : Nat := 5

/-- Kinds of Msg.pcie. -/
def T_MRD : Nat := 0
def T_MWR : Nat := 1
def T_CFGRD : Nat := 2
def T_CFGWR : Nat := 3
def T_CPL : Nat := 4       -- successful completion
def T_UR : Nat := 5
def T_CA : Nat := 6
def T_HOTRESET : Nat := 7
def T_MSG : Nat := 8

/-- Segment k exists: its port is in root mode and SPLIT creates it (R349). -/
def State.segReal (s : State) (k : Nat) : Bool :=
  s.f (R.PCIE_INFO (k / 4)) F.PCIE_INFO_MODE = 1 && k % 4 < 2 ^ s.f (R.PCIE_INFO (k / 4)) F.PCIE_INFO_SPLIT

/-- An event of a slot or link: its HP_STAT bit, a record, and VECTOR where INT_EN = 1 (R366). -/
def State.hpEvent (s : State) (k : Nat) (fl : Fld) : State :=
  if s.isSep (k / 4) then s else
  let s := (s.setF (rHpStat k) fl 1).record E.PCIE_HP_EVENT 4 k [s.owner k]
  if s.f (rHpCtl k) F.HP_CTL_INT_EN = 1 then s.raiseOwn (s.owner k) (s.f (rHpCtl k) F.HP_CTL_VECTOR) else s

/-! ## Non-posted requests and posted writes (R353, R360, R361) -/

/-- The lowest tag neither outstanding nor quarantined. -/
def State.freeTag (s : State) (k : Nat) : Option Nat :=
  let g := s.seg k
  (List.range 1024).find? fun t => !(g.out.any fun r => r.tag = t) && !g.quarantine.contains t

/-- The link kind of a request: reads of cores and of the copy engine are memory reads. -/
def reqKind (r : PcieReq) : Nat := if r.kind = 1 then T_CFGRD else if r.kind = 2 then T_CFGWR else T_MRD

/-- The link takes no new request: neither L0 nor RECOVERY (R363). -/
def State.linkOff (s : State) (k : Nat) : Bool := s.ltssm k != L_L0 && s.ltssm k != L_RECOVERY

/-- The tag that a request may be sent with now; a posted write needs none. -/
def State.tagFor (s : State) (k : Nat) (r : PcieReq) : Option Nat :=
  if s.ltssm k != L_L0 || (s.seg k).waitTag != [] then none else if r.kind = 6 then some 0 else s.freeTag k

/-- Send a request of a segment, or let it wait, behind those that wait (R353, R361, R362). -/
def State.issueReq (s : State) (k : Nat) (r : PcieReq) : State :=
  match s.tagFor k r with
  | some t =>
    if r.kind = 6 then s.send (.pcie k T_MWR 0 r.acc.pa (leBytes r.acc.size r.acc.data.toNat))
    else (s.updSeg k fun g => { g with out := g.out ++ [{ r with tag := t, sent := true }] }).send
      (.pcie k (reqKind r) t (if r.kind = 1 || r.kind = 2 then r.cfg else r.acc.pa)
        (if r.kind = 2 then leBytes 4 r.acc.data.toNat else leBytes 2 r.acc.size))
  | none => s.updSeg k fun g => { g with waitTag := g.waitTag ++ [r] }

/-- Try what waits again, in order. -/
def State.kickReqs (s : State) (k : Nat) : State :=
  each (s.seg k).waitTag (fun s r => s.issueReq k r) (s.updSeg k fun g => { g with waitTag := [] })

/-- A posted write of at most 64 bytes; a link that takes no request discards it (R362, R363). -/
def State.postWrite (s : State) (k addr : Nat) (bytes : List Byte) : State :=
  if s.linkOff k then s.record E.PCIE_LINK_DOWN 4 k [s.owner k] (some addr)
  else s.issueReq k { tag := 0, kind := 6, cfg := 0, sent := false, rsv := false,
                      acc := { (default : Acc) with pa := addr, size := bytes.length, data := bytesLine bytes } }

/-- The requester of a window access: a core of this package, or a unit of another. -/
inductive WinReq where
  | acc (a : Acc)
  | far (m : CMsg) (h : Nat)
  deriving DecidableEq, Repr

def State.winFail (s : State) (r : WinReq) : State :=
  match r with
  | .acc a => s.failAcc a
  | .far m h => s.reply h m .busErr

def State.winDone (s : State) (r : WinReq) : State :=
  match r with
  | .acc a => s.deliver a 0
  | .far m h => s.reply h m .comp

/-- An access to a window of this package (R300, R353, R363). -/
def State.winAccess (s : State) (w : WindowRec) (r : WinReq) (part pa size : Nat) (wr : Option Line) : State :=
  let k := w.port * 4 + w.seg
  let h := hubOfPort w.port
  if part != 0 && s.partFenced part then (s.record E.PART_FENCED 2 h [part] (some pa)).winFail r
  else if part != 0 && w.part != part then (s.record E.OWN_DENIED 2 h [part] (some pa)).winFail r
  else if s.linkOff k then
    let s := s.record E.PCIE_LINK_DOWN 4 k [w.part] (some pa)
    if wr.isSome then s.winDone r else s.winFail r
  else match wr with
    | some v => (s.postWrite k pa (leBytes size v.toNat)).winDone r
    | none =>
      let a : Acc := match r with
        | .acc a => a
        | .far m _ => { (default : Acc) with core := m.src.unit + 256 * m.src.pkg, pa := pa, size := size, part := part }
      s.issueReq k { tag := 0, kind := (match r with | .acc _ => 0 | .far _ _ => 5), acc := a,
                     cfg := (match r with | .acc _ => 0 | .far m _ => m.txn), sent := false,
                     rsv := (match r with | .acc _ => false | .far m _ => m.rsv) }

/-- A UC or DEV access outside DRAM goes to a unit of another package (R36). -/
def State.farSend (s : State) (a : Acc) (dst : Unt) : State :=
  let op : COp := if a.src = .store then .ucWr else .ucRd
  if s.directHeld a a.unit op dst.pkg s.cache.direct then
    s.onCache fun q => { q with direct := q.direct ++ [{ acc := a, unit := a.unit, op := op, line := a.line, txn := noTag, sent := false }] }
  else
  let (s, t) := (s.countTo a.cores a.user a.half dst).newTxn a.unit
  (s.onCache fun q => { q with direct := q.direct ++ [{ acc := a, unit := a.unit, op := op, line := a.line, txn := t,
                                                        sent := true }] }).send
    (.coh { (default : CMsg) with op := op, line := a.line, src := { pkg := s.pkg, unit := a.unit }, dst := dst, txn := t, part := a.part,
                                  mask := maskFor a.off a.size, data := linePut 0 a.off a.size a.data })

/-- The links an access crosses to hub h: its die link and the bridge; an agreed access of a pair is HUB-A's own (R91). -/
def Acc.ioPath (a : Acc) (h : Nat) : List Nat := if a.twin then (if h = 0 then [] else [20]) else ioLinks a.core h

/-- A core's UC or DEV access in the PCIe region: of this package, by its die link and the hub bridge (R25; RETRY while one carries no
flits, R276), or sent to the hub of the window's port (R36). -/
def State.winCore (s : State) (a : Acc) : State :=
  match s.windowOf a.pa with
  | none => (s.record E.PA_UNMAPPED 0 a.core [a.part] (some a.pa)).failAcc a
  | some w =>
    let wr := if a.src = .store then some a.data else none
    let h := hubOfPort w.port
    if a.core != DEBUG_PORT && w.pkg = s.pkg && (a.ioPath h).any fun l => !s.linkCarries l then
      each a.cores (fun s c => s.toCore c 4) (s.countAcc a 0x11)
    else if w.pkg = s.pkg then (s.countTo a.cores a.user a.half { pkg := s.pkg, unit := 0xFC + h }).winAccess w (.acc a) a.part a.pa a.size wr
    else if !s.inSystem w.pkg then (s.record E.PA_NO_PACKAGE 0 a.core [a.part] (some a.pa)).failAcc a
    else
      s.farSend a { pkg := w.pkg, unit := 0xFC + hubOfPort w.port }

/-- The lowest set bit of a mask, and the number of its bits. -/
def maskOff (m : Mask) : Nat := ((List.range 64).find? fun i => m.toNat.testBit i).getD 0
def maskSize (m : Mask) : Nat := countOf (List.range 64) fun i => m.toNat.testBit i

/-- A window access of another package's core arrives at hub h. -/
def State.winFar (s : State) (h : Nat) (m : CMsg) : State :=
  let pa := m.line * 64 + maskOff m.mask
  match s.windowOf pa with
  | none => (s.record E.PA_UNMAPPED 2 h [m.part] (some pa)).reply h m .busErr
  | some w =>
    s.winAccess w (.far m h) m.part pa (maskSize m.mask)
      (if m.op = .ucWr then some (lineGet m.data (maskOff m.mask) (maskSize m.mask)) else none)

/-! ## DMA (R356, R357). A queued request keeps in fwd.pkg what it is for, in fwd.unit its function, in fwdTxn its TLP tag,
and in aop the offset and size of its bytes in the line. -/

def D_READ : Nat := 0      -- a piece of a device's read, not the last
def D_LAST : Nat := 1      -- the last piece
def D_WRITE : Nat := 2
def D_ATOMIC : Nat := 3
def D_COPYRD : Nat := 5    -- the copy engine reads a local line
def D_COPYWR : Nat := 6    -- the copy engine writes a local line

def D_DEAD : Nat := 8      -- a local access of a copy that has ended
def D_REFUSED : Nat := 7   -- a read that is answered with Unsupported Request once the earlier requests are done

/-- Send the completion of a device's read. -/
def State.cpl (s : State) (k kind tag addr : Nat) (bytes : List Byte) : State := s.send (.pcie k kind tag addr bytes)

/-- Refused reads at the front of the queue are answered. -/
def State.dmaRefuse (k : Nat) : List CMsg → State → State × List CMsg
  | [], s => (s, [])
  | m :: r, s => if m.fwd.pkg = D_REFUSED then State.dmaRefuse k r (s.cpl k T_UR m.fwdTxn (m.line * 64 + m.aop.off) []) else (s, m :: r)

/-- Send the first DMA request of a segment to its home, if it is not there already. -/
def State.dmaKick (s : State) (k : Nat) : State :=
  let (s, l) := State.dmaRefuse k (s.seg k).dma s
  let s := s.updSeg k fun g => { g with dma := l }
  match l with
  | [] => s
  | m :: rest =>
    if m.txn != noSlot || (isIo m.op && s.ioHeld m.dst.pkg) then s
    else
      let (s, t) := s.newTxn (0xFC + k / 16)
      let m := { m with txn := t }
      (s.updSeg k fun g => { g with dma := m :: rest }).send (.coh m)

def State.dmaPush (s : State) (k : Nat) (ms : List CMsg) : State :=
  (s.updSeg k fun g => { g with dma := g.dma ++ ms }).dmaKick k

/-- A DMA request of segment k, or of function fn, for size bytes at an address within one line. -/
def State.dmaMsg (s : State) (k : Nat) (op : COp) (pa size part kind fn tag : Nat) (data : Line) : CMsg :=
  { (default : CMsg) with op := op, line := pa / 64, src := s.hubUnit (k / 16), dst := s.homeUnit (pa / 64), txn := noSlot,
                          part := part, mask := maskFor (pa % 64) size, data := linePut 0 (pa % 64) size data,
                          aop := { (default : AtOp) with off := pa % 64, size := size }, fwd := { pkg := kind, unit := fn }, fwdTxn := tag }

/-- The pieces of an address range, one line each. -/
def linePieces : (fuel addr len : Nat) → List (Nat × Nat)
  | 0, _, _ => []
  | f + 1, addr, len =>
    if len = 0 then [] else
      let n := min len (64 - addr % 64)
      (addr, n) :: linePieces f (addr + n) (len - n)

/-- MSI messages whose earlier DMA writes are now all performed (R358). -/
def State.msiDone (s : State) (k : Nat) : State :=
  let l := (s.seg k).msi.map fun e => (e.1, e.2 - 1)
  let s := s.updSeg k fun g => { g with msi := l.filter fun e => e.2 != 0 }
  each (l.filter fun e => e.2 = 0) (fun s e => s.raise (s.owner k) e.1) s

/-- What stops a local access of a copy at its decode: the address has no target, or is not of DRAM (R32 to R34, R373). -/
def State.copyBad (s : State) (pa : Nat) : Option ECode :=
  match s.undecoded pa with
  | some e => some e
  | none => if isDram pa then none else some E.PA_UNMAPPED

/-- The unit number of a Service Endpoint function in a record (R413). -/
def sepUnit (port f : Nat) : Nat := (if port = 3 then 32 else 40) + f

/-- The copy engine stops: DONE, CODE and the function's event (R373, R374). -/
def State.fnEvent (s : State) (port f : Nat) (fl : Fld) : State :=
  let s := s.setF (R.SEP_FN_STAT port f) fl 1
  if s.f (R.SEP_FN_CTL port f) F.SEP_FN_CTL_INT_EN = 1 then
    s.raiseOwn (s.fnPart port f) (s.f (R.SEP_FN_CTL port f) F.SEP_FN_CTL_VECTOR)
  else s

def State.copyEnd (s : State) (port f code : Nat) : State :=
  if s.f (R.SEP_DMA_CTL port f) F.SEP_DMA_CTL_BUSY = 0 then s
  else
    let c := R.SEP_DMA_CTL port f
    let s := ((s.setF c F.SEP_DMA_CTL_BUSY 0).setF c F.SEP_DMA_CTL_DONE 1).setF c F.SEP_DMA_CTL_CODE code
    (s.updFn port f fun g => { g with copy := none }).fnEvent port f F.SEP_FN_STAT_DMA_DONE

/-- A local access of a copy fails at its decode. -/
def State.copyFail (s : State) (port f pa : Nat) (e : ECode) : State :=
  (s.record e 4 (sepUnit port f) [s.fnPart port f] (some pa)).copyEnd port f 1

/-- The copy engine moves on to its next line, or has moved the last (R373). -/
def State.copyNext (s : State) (port f : Nat) : State :=
  match (s.fn port f).copy with
  | none => s
  | some (d, n) =>
    if n ≤ d then s
    else
      let k := port * 4
      let local' := s.f (R.SEP_DMA_LOCAL port f) F.SEP_DMA_LOCAL_PA * 64 + d * 64
      let host := s.f (R.SEP_DMA_HOST port f) F.SEP_DMA_HOST_ADDR * 64 + d * 64
      if s.f (R.SEP_DMA_CTL port f) F.SEP_DMA_CTL_DIR = 1 then
        match s.copyBad local' with
        | some e => s.copyFail port f local' e
        | none => s.dmaPush k [s.dmaMsg k .dmaRd local' 64 (s.fnPart port f) D_COPYRD f d 0]
      else
        s.issueReq k { tag := 0, kind := 3, cfg := f, sent := false, rsv := false,
                       acc := { (default : Acc) with pa := host, size := 64, part := s.fnPart port f } }

/-- The first DMA request of a segment has ended at its home: with the line's data, or in an error (R356). -/
def State.dmaEnd (s : State) (k : Nat) (res : Option Line) (denied : Bool) : State :=
  match (s.seg k).dma with
  | [] => s
  | q :: rest =>
    let pa := q.line * 64 + q.aop.off
    let port := k / 4
    let kind := q.fwd.pkg
    let part := leBytes q.aop.size (lineGet (res.getD 0) q.aop.off q.aop.size).toNat
    let rest := if res = none && (kind = D_READ) then
        rest.filter fun r => !((r.fwd.pkg = D_READ || r.fwd.pkg = D_LAST) && r.fwdTxn = q.fwdTxn && r.fwd.unit = q.fwd.unit) else rest
    let s := s.updSeg k fun g => { g with dma := rest }
    let s :=
      if kind = D_WRITE then s.msiDone k
      else if kind = D_DEAD then s
      else if kind = D_COPYRD then
        match res with
        | none => s.copyEnd port q.fwd.unit 1
        | some _ =>
          if (s.fn port q.fwd.unit).copy.isSome then
            ((s.postWrite k (s.f (R.SEP_DMA_HOST port q.fwd.unit) F.SEP_DMA_HOST_ADDR * 64 + q.fwdTxn * 64) part).updFn port
              q.fwd.unit fun g => { g with copy := g.copy.map fun c => (c.1 + 1, c.2) }).copyNext port q.fwd.unit
          else s
      else if kind = D_COPYWR then
        match res with
        | none => s.copyEnd port q.fwd.unit 1
        | some _ => (s.updFn port q.fwd.unit fun g => { g with copy := g.copy.map fun c => (c.1 + 1, c.2) }).copyNext port
            q.fwd.unit
      else match res with
        | some _ => s.cpl k T_CPL q.fwdTxn pa part
        | none => s.cpl k (if denied && !s.isSep port then T_UR else T_CA) q.fwdTxn pa []
    s.dmaKick k

/-! ## A link goes down (R362, R363, R367) -/

/-- The answer to a configuration access: its requester is kept as a core and its package, or a Service Core. -/
def State.cfgReply (s : State) (r : PcieReq) (v : Word) : State :=
  if r.acc.core = DEBUG_PORT then s.toCore DEBUG_PORT 0 (v.setWidth 512)
  else if 0x800 ≤ r.acc.core then s
  else if r.acc.core / 256 = s.pkg then
    each ((s.sharers (r.acc.core % 256)).filter fun c => !r.acc.lost.contains c) (fun s c => s.toCore c 0 (v.setWidth 512)) s
  else s.send (.remote (r.acc.core / 256) (r.acc.core % 256) 0 (v.setWidth 512))

/-- A read of one of this package's cores has been answered: what waited for it goes on. -/
def State.reqEnd (s : State) (r : PcieReq) : State :=
  if r.kind = 0 && r.acc.core < 240 then s.accsSettle (dieOf r.acc.core)
  else if (r.kind = 1 || r.kind = 2) && r.acc.core < 0x800 && r.acc.core / 256 = s.pkg then s.accsSettle (dieOf (r.acc.core % 256))
  else s

/-- What a requester receives for a non-posted request that ends without data. A configuration read returns all ones. -/
def State.reqTimedOut (s : State) (k : Nat) (r : PcieReq) : State :=
  let s := (s.incF (rErrCnt k) F.SEG_ERR_CNT_CPL_TIMEOUT).record E.PCIE_CPL_TIMEOUT 4 k [s.owner k]
    (if r.kind = 1 || r.kind = 2 then none else some r.acc.pa)
  match r.kind with
  | 0 => (s.failAcc r.acc).reqEnd r
  | 1 => ((s.setF (rCfgAddr k) F.CFG_ADDR_CFG_TIMEOUT 1).cfgReply r 0xFFFFFFFF).reqEnd r
  | 2 => ((s.setF (rCfgAddr k) F.CFG_ADDR_CFG_TIMEOUT 1).cfgReply r 0).reqEnd r
  | 3 => s.copyEnd (k / 4) r.cfg 3
  | 5 => s.send (.coh { (default : CMsg) with op := .busErr, line := r.acc.pa / 64, src := s.hubUnit (k / 16),
                                              dst := { pkg := r.acc.core / 256, unit := r.acc.core % 256 }, txn := r.cfg })
  | _ => s

/-- A link leaves L0: outstanding requests end as timeouts, unsent posted writes are discarded. -/
def State.linkDrop (s : State) (k newState : Nat) : State :=
  let g := s.seg k
  let was := s.f (rStat k) F.SEG_STAT_DLL_ACTIVE
  let s := s.setF (rStat k) F.SEG_STAT_LTSSM newState
  let s := ((s.setF (rStat k) F.SEG_STAT_DLL_ACTIVE 0).setF (rStat k) F.SEG_STAT_SPEED 0).setF (rStat k) F.SEG_STAT_WIDTH 0
  let s := s.updSeg k fun g => { g with out := [], waitTag := [], rrs := [] }
  let s := each (g.out ++ g.waitTag ++ g.rrs.map (·.1)) (fun s r =>
    if r.kind = 6 then s.record E.PCIE_LINK_DOWN 4 k [s.owner k] (some r.acc.pa) else s.reqTimedOut k r) s
  when (was = 1) (fun s => s.hpEvent k F.HP_STAT_DLL_CHANGE) s

/-- PERST is asserted: the register, the level, the land; the link is down (R364), and the segment, which is in reset, is masked at its
port's arbiter (R198). -/
def State.perstOn (s : State) (k : Nat) : State :=
  let s := (s.setF (rSegCtl k) F.SEG_CTL_PERST 1).setF (rStat k) F.SEG_STAT_PERST 1
  let s := s.updSeg k fun g => { g with perstHeld := true, perstRel := false }
  ((s.linkDrop k L_DISABLED).arbMask (42 + k / 4) (k % 4) true).send (.pin "PERST_N" k false)

/-- PERST is released and the link trains, unless it is disabled. -/
def State.perstOff (s : State) (k : Nat) : State :=
  let s := (s.setF (rSegCtl k) F.SEG_CTL_PERST 0).setF (rStat k) F.SEG_STAT_PERST 0
  let s := s.updSeg k fun g => { g with perstRel := false }
  let st := if s.f (rSegCtl k) F.SEG_CTL_LINK_DIS = 1 then L_DISABLED else L_DETECT
  ((s.setF (rStat k) F.SEG_STAT_LTSSM st).arbMask (42 + k / 4) (k % 4) false).send (.pin "PERST_N" k true)

/-- The owner of a segment is fenced (R367). -/
def State.segFence (s : State) (k : Nat) : State :=
  let s := s.perstOn k
  let n := (s.seg k).dma.length
  let s := s.updSeg k fun g => { g with dma := g.dma.filter fun m => m.txn != noSlot, msi := [] }
  when (0 < n) (fun s => s.record E.PCIE_FENCED 4 k [s.owner k]) s

/-- Power a present slot (R365). -/
def State.slotOn (s : State) (k : Nat) : State :=
  if s.f (rHpStat k) F.HP_STAT_PRESENT = 0 then s.setF (rHpCtl k) F.HP_CTL_PWR 0
  else
    let s := (s.setF (rHpCtl k) F.HP_CTL_PWR 1).updSeg k fun g => { g with swren := true, pwrSeq := 1, perstRel := false }
    (s.setF (rSegCtl k) F.SEG_CTL_PERST 1).send (.pin "SLOT_PWREN" k true)

/-- Drop a slot's power at once. -/
def State.slotOff (s : State) (k : Nat) : State :=
  let s := (s.perstOn k).setF (rHpCtl k) F.HP_CTL_PWR 0
  (s.updSeg k fun g => { g with swren := false, pwrSeq := 0 }).send (.pin "SLOT_PWREN" k false)

end Sys2Proof.Machine
end

