-- ==== Sys2Proof/Machine/AgentOps.lean ====
section
/-! DEFINITION. The requests of the crypto service's rings and of the Service Cores to memory: each goes to the line's home as DMA_RD or
DMA_WR, so that the home collects a dirty copy and removes the stale ones (R123, R215), carries the partition it is made for (R299), and is
checked there (R300). What its answer does: descriptors fetched (R332), sources read and outputs written (R335, R336), payloads copied
(R321). An agent's requests go one after another. -/

namespace Sys2Proof.Machine

/-! ## Descriptors -/

/-- The little-endian field of n bytes at an offset of a descriptor. -/
def dfield (d : BitVec 512) (off n : Nat) : Nat := (d.toNat / 2 ^ (8 * off)) % 2 ^ (8 * n)
def dOp (d : BitVec 512) : Nat := dfield d 0 1
def dFlags (d : BitVec 512) : Nat := dfield d 1 1
def dKeyA (d : BitVec 512) : Nat := dfield d 2 2
def dKeyB (d : BitVec 512) : Nat := dfield d 4 2
def dParam (d : BitVec 512) : Nat := dfield d 6 2
def dSrcPa (d : BitVec 512) : Nat := dfield d 8 8
def dDstPa (d : BitVec 512) : Nat := dfield d 16 8
def dSrcLen (d : BitVec 512) : Nat := dfield d 24 4
def dDstLen (d : BitVec 512) : Nat := dfield d 28 4
/-- Bytes of AUX. -/
def dAux (d : BitVec 512) (off n : Nat) : List Byte := (List.range n).map fun i => BitVec.ofNat 8 (dfield d (32 + off + i) 1)

/-! ## Requests -/

def A_FETCH : Nat := 0     -- a descriptor
def A_SRC : Nat := 1       -- a piece of a source
def A_SIG : Nat := 2       -- a piece of the signature for VERIFY
def A_DST : Nat := 3       -- a piece of an output
def A_DONE : Nat := 4      -- a completion word
def A_COPYRD : Nat := 5    -- a piece of a PART_START's payload
def A_COPYWR : Nat := 6    -- a piece of its copy
def A_DROPPED : Nat := 7   -- abandoned while its answer is awaited

def State.agentQ (s : State) (a : Nat) : List CMsg := s.crypto.dma.get a
def State.setAgentQ (s : State) (a : Nat) (l : List CMsg) : State := s.onCrypto fun c => { c with dma := c.dma.put a l }

/-- The Service Core of a hub, as an agent. -/
def svcAgent (h : Nat) : Nat := 64 + h

/-- An agent's request for size bytes within a line; no names the descriptor or the partition it belongs to. -/
def State.agentMsg (s : State) (a : Nat) (wr : Bool) (pa size part kind no : Nat) (data : Line) : CMsg :=
  let m := s.dmaMsg (16 * agentHub a) (if wr then .dmaWr else .dmaRd) (pa % 2 ^ 52) size part kind 0 no data
  match paKind pa with
  | .pcie => { m with op := if wr then .ucWr else .ucRd, dst := match s.windowOf pa with
      | some w => { pkg := w.pkg, unit := 0xFC + hubOfPort w.port }
      | none => m.dst }
  | _ => m

/-- The record of a request that reaches no home and no window of its partition (R33, R34, R300). -/
def State.agentRefusal (s : State) (m : CMsg) : Option ECode :=
  let pa := m.line * 64 + m.aop.off
  match s.undecoded pa with
  | some e => some e
  | none => match paKind pa with
    | .dram _ => none
    | .pcie => match s.windowOf pa with
      | some w => if w.part = m.part then none else some E.OWN_DENIED
      | none => some E.PA_UNMAPPED
    | _ => some E.PA_UNMAPPED

/-- A request that will fail: it reaches no target, or its line's home denies it (R300). -/
def State.agentBarred (s : State) (m : CMsg) : Bool :=
  (s.agentRefusal m).isSome || (isDram (m.line * 64) && m.part != 0 && (s.ownerAny m.line != m.part || s.partFenced m.part)) ||
    (isDram (m.line * 64) && pkgOfLine m.line = s.pkg && s.chanDead m.line)

/-- Requests join the agent's queue. -/
def State.agentAdd (s : State) (a : Nat) (ms : List CMsg) : State := s.setAgentQ a (s.agentQ a ++ ms)

/-- Requests of an agent are abandoned; one that awaits its answer stays until then. -/
def State.agentDrop (s : State) (a : Nat) (f : CMsg → Bool) : State :=
  s.setAgentQ a (((s.agentQ a).filter fun m => m.txn != noSlot || !f m).map fun m =>
    if f m then { m with fwd := { m.fwd with pkg := A_DROPPED } } else m)

/-! ## Rings -/

def State.ringH (s : State) (r : Nat) : RingH := s.crypto.rings.get r
def State.setRing (s : State) (r : Nat) (h : RingH) : State := s.onCrypto fun c => { c with rings := c.rings.put r h }
def State.halted (s : State) (r : Nat) : Bool := s.f (R.RING_STAT r) F.RING_STAT_HALTED = 1

/-- Where the slot of a counter value stands (R332). -/
def State.slotPa (s : State) (r seq : Nat) : Nat := s.f (R.RING_BASE r) F.RING_BASE_BASE * 16384 + seq % 256 * 64

/-- Where a descriptor's completion word stands (R334). -/
def State.complPa (s : State) (r seq : Nat) : Nat := s.slotPa r seq + 56

/-- What was fetched and not issued is abandoned, and what is being fetched (R333). -/
def State.dropFetches (s : State) (r : Nat) : State :=
  (s.setRing r { s.ringH r with fetched := [] }).agentDrop r fun m => m.fwd.pkg = A_FETCH

/-- A ring halts (R332). -/
def State.ringHalt (s : State) (r cause : Nat) : State :=
  ((s.setF (R.RING_STAT r) F.RING_STAT_HALTED 1).setF (R.RING_STAT r) F.RING_STAT_HALT_CAUSE cause).dropFetches r

/-- A descriptor in execution changes. -/
def State.updDesc (s : State) (r seq : Nat) (f : DescH → DescH) : State :=
  let h := s.ringH r
  s.setRing r { h with exec := h.exec.map fun x => if x.seq = seq then f x else x }

/-! ## Completion (R336) -/

/-- The completion word of the ring's first descriptor in execution is written, once that has ended. -/
def State.retire (s : State) (r : Nat) : State :=
  match (s.ringH r).exec with
  | [] => s
  | d :: _ =>
    if !d.done || d.told then s
    else (s.updDesc r d.seq fun x => { x with told := true }).agentAdd r [s.agentMsg r true (s.complPa r d.seq) 8 (s.ringOwner r) A_DONE d.seq
      (bytesLine (leBytes 8 (1 + d.code * 256 + d.outLen * 65536)))]

/-- A descriptor in execution has ended. -/
def State.descDone (s : State) (r : Nat) (d : DescH) (code outLen : Nat) : State :=
  (s.updDesc r d.seq fun x => { x with done := true, code := code, outLen := outLen }).retire r

/-- A completion word is written: DONE rises, and the ring's vector is raised where the word is visible. One whose write fails leaves the
ring as it would be, but for the vector and COMPLETION (DESIGN CHOICE, log entry 29). -/
def State.completed (s : State) (r : Nat) (ok : Bool) : State :=
  match (s.ringH r).exec with
  | [] => s
  | d :: rest =>
    let s := s.setRing r { s.ringH r with exec := rest }
    let s := (s.wrapF (R.RING_HEAD r) F.RING_HEAD_DONE).incF (R.RING_CNT r) F.RING_CNT_COMPLETED
    let s := if d.code != 0 && d.code != 7 then s.incF (R.RING_CNT r) F.RING_CNT_FAILED else s
    let s := if rest = [] then s.setF (R.RING_STAT r) F.RING_STAT_IDLE 1 else s
    let s := if ok && (dFlags d.bytes).testBit 0 && s.f (R.RING_CTL r) F.RING_CTL_INT_EN = 1 then
        (s.setF (R.RING_STAT r) F.RING_STAT_COMPLETION 1).raiseOwn (s.ringOwner r) (s.f (R.RING_CTL r) F.RING_CTL_VECTOR)
      else if ok && (dFlags d.bytes).testBit 0 then s.setF (R.RING_STAT r) F.RING_STAT_COMPLETION 1
      else s
    s.retire r

/-- CRYPTO_ACCESS (R347). -/
def CR_ACCESS : Nat := 5

/-- A key that KEY_GEN has generated enters its slot once its public part is written (R336). -/
def State.keepKey (s : State) (r : Nat) (d : DescH) : State :=
  if dOp d.bytes = 0x0A then s.onCrypto fun c => { c with keys := c.keys.put (s.ringOwner r * 1024 + dKeyB d.bytes) d.keyB } else s

/-- The last piece of an output is written, or has failed. -/
def State.outputDone (s : State) (r seq : Nat) : State :=
  match (s.ringH r).exec.find? fun d => d.seq = seq with
  | none => s
  | some d => if d.wait != 0 then s else if d.bad then s.descDone r d CR_ACCESS 0 else (s.keepKey r d).descDone r d d.code d.outLen

/-! ## Payload copies (R321) -/

def State.updCopy (s : State) (p : Nat) (f : StartCopy → StartCopy) : State :=
  s.onSec fun q => { q with copies := q.copies.map fun c => if c.part = p then f c else c }

/-- A PART_START's copy is over, whatever of it is left. -/
def State.copyStop (s : State) (p : Nat) : State :=
  let s := s.onSec fun q => { q with copies := q.copies.filter fun c => c.part != p }
  each [0, 1] (fun s h => s.agentDrop (svcAgent h) fun m => m.fwdTxn = p) s

/-- The requests of a copy: the payload read for SRC_PART, then written for the partition that starts. -/
def State.copyReads (s : State) (h : Nat) (c : StartCopy) : List CMsg :=
  (linePieces (c.len / 64 + 2) c.src c.len).map fun e => s.agentMsg (svcAgent h) false e.1 e.2 c.srcPart A_COPYRD c.part 0
def State.copyWrites (s : State) (h : Nat) (c : StartCopy) : List CMsg :=
  (linePieces (c.len / 64 + 2) c.load c.len).map fun e =>
    s.agentMsg (svcAgent h) true e.1 e.2 c.part A_COPYWR c.part (bytesLine (slice c.buf (e.1 - c.load) e.2))

/-- The last piece of a payload is read: the copy is written. -/
def State.copyRead (s : State) (h p : Nat) : State :=
  match s.sec.copies.find? fun c => c.part = p with
  | none => s
  | some c =>
    if c.need != 0 || c.bad then s
    else
      let ms := s.copyWrites h c
      (s.updCopy p fun c => { c with wait := ms.length }).agentAdd (svcAgent h) ms

/-! ## Answers -/

/-- What the answer of an agent's request does; none: it failed. -/
def State.agentAct (s : State) (a : Nat) (m : CMsg) (res : Option Line) : State :=
  let kind := m.fwd.pkg
  let no := m.fwdTxn
  let got := leBytes m.aop.size (lineGet (res.getD 0) m.aop.off m.aop.size).toNat
  let bad := res = none
  if kind = A_FETCH then
    match res with
    | none => (s.ringHalt a 1).record E.CRYPTO_RING_FETCH 11 a [s.ringOwner a]
    | some b => s.setRing a { s.ringH a with fetched := (s.ringH a).fetched ++ [{ (default : DescH) with seq := no, bytes := b }] }
  else if kind = A_SRC then s.updDesc a no fun d => { d with need := d.need - 1, src := d.src ++ got, bad := d.bad || bad }
  else if kind = A_SIG then s.updDesc a no fun d => { d with need := d.need - 1, sig := d.sig ++ got, bad := d.bad || bad }
  else if kind = A_DST then (s.updDesc a no fun d => { d with wait := d.wait - 1, bad := d.bad || bad }).outputDone a no
  else if kind = A_DONE then s.completed a (!bad)
  else if kind = A_COPYRD then
    (s.updCopy no fun c => { c with need := c.need - 1, buf := c.buf ++ got, bad := c.bad || bad }).copyRead (a - 64) no
  else if kind = A_COPYWR then s.updCopy no fun c => { c with wait := c.wait - 1, bad := c.bad || bad }
  else s

/-- Send the agent's first request, if it is not on its way; those that reach no target fail at once. n bounds these. -/
def State.agentGo : (n : Nat) → State → Nat → State
  | 0, s, _ => s
  | n + 1, s, a =>
    match s.agentQ a with
    | [] => s
    | m :: rest =>
      if m.txn != noSlot || (isIo m.op && s.ioHeld m.dst.pkg) then s
      else match s.agentRefusal m with
        | some e =>
          let s := s.record e (if a < 64 then 11 else 2) (if a < 64 then a else a - 64) [m.part] (some (m.line * 64 + m.aop.off))
          State.agentGo n ((s.setAgentQ a rest).agentAct a m none) a
        | none =>
          let (s, t) := s.newTxn (0xFC + agentHub a)
          let m := { m with txn := t }
          (s.setAgentQ a (m :: rest)).send (.coh m)

/-- Each failing request ends at most one descriptor, whose completion word is one more; a ring has at most 256. -/
def State.agentKick (s : State) (a : Nat) : State := State.agentGo (2 * (s.agentQ a).length + 1024) s a

def State.agentPush (s : State) (a : Nat) (ms : List CMsg) : State := (s.agentAdd a ms).agentKick a

/-- The agent whose first request a home's answer at hub h belongs to. -/
def State.agentOf (s : State) (h : Nat) (m : CMsg) : Option Nat :=
  (List.range 66).find? fun a => agentHub a = h && match s.agentQ a with
    | q :: _ => q.txn = m.txn && q.line = m.line
    | [] => false

/-- The agent's first request has ended. -/
def State.agentEnd (s : State) (a : Nat) (res : Option Line) : State :=
  match s.agentQ a with
  | [] => s
  | m :: rest => ((s.setAgentQ a rest).agentAct a m res).agentKick a

/-- An answer reaches a hub: of a segment's request, or of an agent's. -/
def State.hubDone (s : State) (m : CMsg) (res : Option Line) (denied : Bool) : State :=
  if m.dst.pkg = s.pkg && 0xFC ≤ m.dst.unit then
    match s.dmaOf (m.dst.unit - 0xFC) m with
    | some k => s.dmaEnd k res denied
    | none => match s.agentOf (m.dst.unit - 0xFC) m with
      | some a => s.agentEnd a res
      | none => s
  else s

end Sys2Proof.Machine
end

