-- ==== Sys2Proof/Machine/SnoopOps.lean ====
section
/-! DEFINITION. Snoops at a die (R214, R216, R217, R225, R392): answers, owner-ordered passing, masked dies, and the inputs
that twin pairs apply first (R94). -/

namespace Sys2Proof.Machine

def isOrdered (op : COp) : Bool := op = .snpOrderShared || op = .snpOrderUnique || op = .snpOrderRecall

/-- The opcodes of snoops (R211), as a TARGET_OFF answer names the snoop it stands for. -/
def snoopCode : COp → Nat
  | .snpShared => 1
  | .snpUnique => 2
  | .snpInv => 3
  | .snpClean => 4
  | .snpRecall => 5
  | .snpOrderShared => 6
  | .snpOrderUnique => 7
  | .snpOrderRecall => 8
  | _ => 0

def snoopOfCode : Nat → Option COp
  | 1 => some .snpShared
  | 2 => some .snpUnique
  | 3 => some .snpInv
  | 4 => some .snpClean
  | 5 => some .snpRecall
  | 6 => some .snpOrderShared
  | 7 => some .snpOrderUnique
  | 8 => some .snpOrderRecall
  | _ => none

/-- The requester a die has passed a line on to (R225). -/
def State.passedTo (s : State) (d line : Nat) : Option Unt :=
  (s.home.passed.find? fun e => e.1 = d && e.2.1 = line).map (·.2.2.1)

def State.holdsLine (s : State) (d line : Nat) : Bool :=
  (s.dcFind d line).isSome || s.cache.wb.any fun e => e.die = d && e.line = line && e.coh != .i

/-- A response of die d to a snoop. mask: bit 0, it keeps a copy; bit 1, it stays the owner (log entry 81). -/
def State.snoopRsp (s : State) (d : Nat) (m : CMsg) (op : COp) (mask : Mask) (data : Line) (fwd : Unt) : State :=
  s.send (.coh { (default : CMsg) with op := op, line := m.line, src := s.dieUnit d, dst := m.src, txn := m.txn, part := m.part,
                                       mask := mask, data := data, fwd := fwd })

/-- Die d answers a snoop. That ownership went to the requester itself, by an earlier request, says nothing of this one. -/
def State.snoopReply (s : State) (d : Nat) (m : CMsg) : State :=
  match if isOrdered m.op && !s.holdsLine d m.line then (s.passedTo d m.line).filter (· != m.fwd) else none with
  | some r => s.snoopRsp d m .snpRspPassed 0 0 r
  | none =>
    let (s, a) := s.snoopDie d m.op m.line
    let keep := (s.dcFind d m.line).isSome
    let s := match a.fwd with
      | some (op, data) => s.send (.coh { (default : CMsg) with op := op, line := m.line, src := s.dieUnit d, dst := m.fwd,
                                                                txn := m.fwdTxn, part := m.part, rsv := m.rsv, data := data })
      | none => s
    let gave := match a.fwd with | some (op, _) => op != .dataS | none => false
    let s := if isOrdered m.op && gave then
        s.onHome fun q => { q with passed := q.passed ++ [(d, m.line, m.fwd, true)] } else s
    s.snoopRsp d m a.rsp (if !keep then 0 else if a.rsp = .snpRspFwdDirty then 3 else 1) (a.back.getD 0) noUnit

/-- The members of alive pairs on die d whose L1s hold a line (R94). -/
def State.twinHolders (s : State) (d line : Nat) : List Nat :=
  match s.dcFind d line with
  | some l => ((presentL1s d l.presence).map (·.1)).eraseDups.filter fun c => s.paired (s.corePart c) c
  | none => []

/-- Member c has still to apply an invalidation of a line. -/
def State.twinWaits (s : State) (c line : Nat) : Bool :=
  (s.cores.twins.get (c % 120)).inputs.any fun i => i.kind = 1 && i.arg = line && (if c < 120 then i.lower else i.upper)

/-- Answer the snoops that waited for members which have now applied them. -/
def State.twinRelease (s : State) : State :=
  let free (e : Nat × CMsg) : Bool := !(coresOfDie e.1).any fun c => s.twinWaits c e.2.line
  let l := s.cores.twinSnp.filter free
  let s := s.onCores fun k => { k with twinSnp := k.twinSnp.filter fun e => !free e }
  each l (fun s e => s.snoopReply e.1 e.2) s

/-- An owner-ordered snoop that this die serves only after its own grant has completed (R225). -/
def State.snoopLater (s : State) (d : Nat) (m : CMsg) : Bool :=
  isOrdered m.op && s.cache.dcMiss.any fun q => q.die = d && q.line = m.line && q.sent &&
    (q.got.isSome || directedTo m != none || s.home.passed.any fun e => e.2.1 = m.line && e.2.2.1 = s.dieUnit d && e.2.2.2)

/-- A snoop arrives at die d. A fenced die's answer is given by its hub; a die powered down answers TARGET_OFF. -/
def State.snoopAt (s : State) (d : Nat) (m : CMsg) : State :=
  if s.snoopLater d m then s
  else
    let s := s.take (.coh m)
    if s.dieFenced d then s
    else if s.dieOff d then
      s.send (.coh { m with op := .targetOff, src := s.dieUnit d, dst := m.src, mask := 1,
                            aop := { m.aop with code := snoopCode m.op } })
    else
      let ws := match s.dcFind d m.line with
        | some l => if (snoopTable m.op l.coh 0).2 = .i then s.twinHolders d m.line else []
        | none => []
      if ws = [] then s.snoopReply d m
      else
        let s := each ws (fun s c => s.twinInput c 1 m.line 0 false) s
        s.onCores fun k => { k with twinSnp := k.twinSnp ++ [(d, m)] }

/-- A snoop arrives at a die, or (units 12 and 13) at a proxy hub, where it waits while the line's entry waits for a way. -/
def State.snoopRow (s : State) (u : Nat) (m : CMsg) : State :=
  if u < 12 then s.snoopAt u m
  else if pkgOfLine m.line = s.pkg || (s.home.proxyWait.any fun e => e.1 = m.line) then s
  else (s.take (.coh m)).proxySnoop (u - 12) m

end Sys2Proof.Machine
end

