-- ==== Sys2Proof/Machine/GongOps.lean ====
section
/-! DEFINITION. The Gong and partition fences (R418 to R421), and a package that fences itself (R48). -/

namespace Sys2Proof.Machine

/-- The packages admitted to the system, as a list. -/
def State.admitted (s : State) : List Nat := bitsOf (s.f R.SYS_STAT F.SYS_STAT_ADMITTED) 8
/-- The admitted packages but this one. -/
def State.others (s : State) : List Nat := without s.admitted [s.pkg]
/-- A hello counts while its port is ACTIVE, until none has come for 16 beats. R279 and R285 speak of hellos received and give no limit; a hello is
due in every beat (R278), and 16 beats is what R292 takes for a package's silence (DESIGN CHOICE, log entry 93). -/
def State.hellosLive (s : State) : SMap Word := s.links.hellos.filter fun e => s.linkActive e.1 && s.links.helloAge.get e.1 < 16

/-- The beat master: the lowest-numbered admitted package (R49); for a package not admitted yet, the lowest of those it hears, and a
package that hears none is its own. -/
def State.master (s : State) : Nat :=
  let heard := (s.hellosLive.filter fun e => bits e.2 10 1 = 1).map fun e => bits e.2 4 3
  s.admitted.headD ((heard.foldl (fun (m : Option Nat) p => some (min p (m.getD p))) none).getD s.pkg)
def State.isMaster (s : State) : Bool := s.master = s.pkg

/-- Partition p holds a core, region, segment or ring in a package, from the effective configuration (R294, R297). -/
def State.heldIn (s : State) (pkg p : Nat) : Bool :=
  let rings := 0 < s.f (R.PART_INFO p) F.PART_INFO_RINGS
  if pkg = s.pkg then
    rings || allCores.any (fun c => s.corePart c = p) || s.ownsRegion p || (List.range 32).any fun k => s.owner k = p
  else
    rings || (s.boot.cfg.coreOwners.any fun e => e.1 = pkg && e.2.contains p) ||
      (s.boot.cfg.regions.any fun r => r.pkg = pkg && r.part = p) || s.boot.cfg.ports.any fun r => r.pkg = pkg && r.segOwner.contains p

def parts15 : List Nat := (List.range 15).map (· + 1)

/-- The partitions of the Gong of a lost or fencing package (R420), as a mask. -/
def State.pkgParts (s : State) (pkg : Nat) : Nat := maskOf (parts15.filter (s.heldIn pkg))

/-- Write the cause record, to be followed by the Gong at the next boundary (R418). -/
def State.raiseGong (s : State) (e : ECode) (kind unit mask : Nat) (parts : List Nat := []) (addr : Option Nat := none)
    (detail : Nat := 0) : State :=
  let s := s.record e kind unit parts addr detail
  let g : Gong := { src := s.pkg, cause := e.val, kind := kind, unit := unit, beat := s.now + 1, mask := mask, done := false }
  s.onErr fun q => { q with raise := q.raise ++ [g] }

/-- The package fences itself (R48, R418); it isolates once the Gong has been raised. -/
def State.selfFence (s : State) (e : ECode) (kind unit : Nat) (detail : Nat := 0) : State :=
  (s.raiseGong e kind unit (s.pkgParts s.pkg) [] none detail).onBeat fun b => { b with selfFenced := true }

/-- The pair of core c waits at a compare point with c's message (R91). -/
def State.atCompare (s : State) (c : Nat) : Bool :=
  let t := s.cores.twins.get (c % 120)
  s.paired (s.corePart c) c && (if c < 120 then t.lowerMsg.isSome else t.upperMsg.isSome)

/-- A core in RUN halts at its next retirement boundary, or once its compare completes (R101, R102). -/
def State.haltOne (s : State) (c : Nat) : State :=
  if s.coreState c != 2 then s
  else if s.atCompare c || s.atCompare (mirror c) then s.updCoreH c fun h => { h with stopping := true }
  else s.enterHalt c

/-- Fence a partition (R421): its cores halt, its segments and rings follow R367 and R347. -/
def State.partFence (s : State) (p : Nat) : State :=
  let s := s.setF (R.PART_STATE p) F.PART_STATE_FENCED 1
  let s := each (s.coresOf p) State.haltOne s
  let s := each ((List.range 32).filter fun k => s.owner k = p) State.segFence s
  let s := each [3, 7] (fun s port => if !s.isSep port then s else
    each ((List.range 8).filter fun f => s.fnPart port f = p) (fun s f => s.arbMask (42 + port) f true) s) s
  each ((List.range 64).filter fun r => s.ringOwner r = p) (fun s r =>
    let s := ((s.setF (R.RING_STAT r) F.RING_STAT_HALTED 1).setF (R.RING_STAT r) F.RING_STAT_HALT_CAUSE 3).setF (R.RING_STAT r)
      F.RING_STAT_IDLE 1
    (s.onCrypto fun q => { q with rings := q.rings.put r default }).agentDrop r fun _ => true) s

/-- Step 3 of R419: fence the masked partitions, record the Gong, raise vector 7 in the others. -/
def State.gongApply (s : State) (g : Gong) : State :=
  let inMask := parts15.filter fun p => bit g.mask p
  let s := each inMask State.partFence s
  let s := s.recordAt { val := g.cause, sev := 5 } (if g.src = s.pkg then unitHost g.kind g.unit else 12) g.kind g.unit inMask none
    (g.src % 8 + g.mask % 2 ^ 16 * 2 ^ 16) true
  s.raiseAll (parts15.filter fun p => !bit g.mask p && s.f (R.PART_INFO p) F.PART_INFO_DEFINED = 1) 7

end Sys2Proof.Machine
end

