-- ==== Sys2Proof/Machine/FabOps.lean ====
section
/-! DEFINITION. Links and credits (R188), how far a message has come, and injection regulators (R189 to R194). -/

namespace Sys2Proof.Machine

/-! ## Links -/

/-- Links: 0-20 as LINK_STAT numbers them; then the mesh links, by mesh, router and direction (west, east, toward row 0,
away from row 0). -/
def meshLink (mesh x y dir : Nat) : Nat := 32 + ((mesh * 16 + y * 4 + x) * 4 + dir)

/-! ## Credits -/

/-- The transit set of fabric port n (R178), kept apart from its ending set, which is link n. -/
def transitSet (n : Nat) : Nat := 21 + n

/-- The credits a receiver advertises (R188). -/
def creditLimit (link vc : Nat) : Nat :=
  let resv := vc = 6 || vc = 7
  if link < 8 || (21 ≤ link && link < 29) then (if resv then 64 else 256)
  else if link < 21 then (if resv then 32 else 64)
  else if vc = 4 || vc = 5 then 8 else 4

def State.creditFree (s : State) (link vc : Nat) : Bool := s.fab.credits.get (link * 8 + vc) < creditLimit link vc
def State.creditUse (s : State) (link vc : Nat) : State :=
  s.onFab fun f => { f with credits := f.credits.upd (link * 8 + vc) (· + 1) }
def State.creditBack (s : State) (link vc : Nat) : State :=
  s.onFab fun f => { f with credits := f.credits.upd (link * 8 + vc) (· - 1) }

/-! ## How far a message has come -/

def State.flitAt (s : State) (m : CMsg) : FlitAt := (s.flits.find? fun f => f.msg = m).getD { (default : FlitAt) with msg := m }

def State.setFlit (s : State) (f : FlitAt) : State := { s with flits := (s.flits.filter fun g => g.msg != f.msg) ++ [f] }

/-! ## Injection regulators -/

/-- The core that a message of, or to, a Die Cache concerns: the one its miss register or its request waits for. -/
def State.dieCacheCore (s : State) (unit txn line : Nat) : Option Nat :=
  match s.cache.dcMiss.find? fun q => 0xF0 + q.die = unit && q.txn = txn && q.line = line with
  | some q => match q.l1s.head? with
    | some e => some e.1
    | none => q.walks.head?.map (·.1)
  | none => (s.cache.direct.find? fun q => q.unit = unit && q.txn = txn && q.line = line).map (·.acc.core)

/-- The regulator at which a request of this package enters the fabric, with its requester number (R190, R202): its core's Die Cache port, also
for what the Die Cache sends for it, or the DMA port of its segment or function. HUB-A's own requests, the Service Cores' and the crypto
service's enter by none. -/
def State.regOf (s : State) (m : CMsg) : Option (Nat × Nat) :=
  match unitDie m.src.unit with
  | some _ => if m.src.unit < 240 then some (corePort m.src.unit) else (s.dieCacheCore m.src.unit m.txn m.line).map corePort
  | none => (s.dmaOf (m.src.unit - 0xFC) m).map fun k => (42 + k / 4, if s.isSep (k / 4) then m.fwd.unit else k % 4)

def State.injShare (s : State) (a p : Nat) : Nat := bits (s.reg (R.INJ_SHR a (p / 4))) (16 * (p % 4)) 16
def State.injRsv (s : State) (a p : Nat) : Nat := bits (s.reg (R.INJ_RSV a (p / 4))) (16 * (p % 4)) 16

def State.regH (s : State) (a : Nat) : RegH := s.fab.regs.get a
def State.setRegH (s : State) (a : Nat) (h : RegH) : State := s.onFab fun f => { f with regs := f.regs.put a h }

/-- The tokens a request takes (R193): the class it travels in and the counts left; none where it must wait. -/
def regTake (h : RegH) (rate p need : Nat) : Option (Bool × RegH) :=
  if need ≤ h.rsv.get p then some (true, { h with rsv := h.rsv.put p (h.rsv.get p - need) })
  else if rate = 0 then some (false, h)
  else
    let a := min need (h.share.get p)
    if need - a ≤ h.spare then some (false, { h with share := h.share.put p (h.share.get p - a), spare := h.spare - (need - a) })
    else none

/-- The regulator holds back requests of partition p: it has tokens to run out of. -/
def State.regulates (s : State) (a p : Nat) : Bool := s.f (R.INJ_CTL a) F.INJ_CTL_RATE != 0 || s.injRsv a p != 0

/-- The message is a request that no regulator has passed yet (R193). Only requests of this package's units for partitions take tokens. -/
def State.unpassed (s : State) (m : CMsg) : Bool :=
  m.src.pkg = s.pkg && m.part != 0 && (vcOf m = 0 || vcOf m = 1) && (s.regOf m).any (fun a => s.regulates a.1 m.part) && !(s.flitAt m).passed

/-- A request flit, or the two of a partial write, at regulator a: it passes, or joins those that wait. A flit that waits does not
keep a later one from the tokens it can use (R193). -/
def State.regPass (s : State) (a p : Nat) (two : Bool) (m : CMsg) : State :=
  let h := s.regH a
  let need := if two then 2 else 1
  match regTake h (s.f (R.INJ_CTL a) F.INJ_CTL_RATE) p need with
  | some (rsv, h') =>
    let s := s.setRegH a h'
    let s := if !rsv && 0 < s.injRsv a p && h.rsv.get p = 0 then s.incF (R.INJ_STAT a) F.INJ_STAT_RSV_FALLBACK need else s
    let m := { m with rsv := rsv }
    (s.send (.coh m)).setFlit { s.flitAt m with passed := true }
  | none => s.setRegH a { h with waiting := h.waiting ++ [(p, two, m)], stalled := true }

/-- Refill a regulator (R192), and pass again what waited, in order. -/
def State.regRefill (s : State) (a : Nat) : State :=
  let h := s.regH a
  let st := R.INJ_STAT a
  let s := (s.setF st F.INJ_STAT_SPARE_LEFT h.spare).setF st F.INJ_STAT_SPARE_USED (h.spareAt - h.spare)
  let s := if h.stalled then s.incF st F.INJ_STAT_STALL_BEATS else s
  let rate := s.f (R.INJ_CTL a) F.INJ_CTL_RATE
  let shares := (List.range 16).map fun p => rate * s.injShare a p / 1024
  let fill (f : Nat → Nat) : SMap Nat := (List.range 16).foldl (fun m p => m.put p (f p)) []
  let spare := rate - sumOf shares
  let s := s.setRegH a { rsv := fill (s.injRsv a), share := fill fun p => shares.getD p 0, spare := spare, spareAt := spare,
                         waiting := [], stalled := false }
  each h.waiting (fun s e => s.regPass a e.1 e.2.1 e.2.2) s

/-- Step 2 of R50. -/
def State.fabricBeat (s : State) : State :=
  let s := each ((List.range 64).filter hasReg) State.regRefill s
  s.onFab fun f => { f with arbs := (f.arbs.map fun e => (e.1, { e.2 with burstLeft := e.2.burstLeft - 1 })).filter fun e => e.2 != default }

end Sys2Proof.Machine
end

