-- ==== Sys2Proof/Machine/CoreOps.lean ====
section
/-! DEFINITION. Losing a core or a die: a core that fails retirement (R88), a twin member that continues alone (R98), die
fencing (R230, R231), and what a Peal waits for (R56, R57). -/

namespace Sys2Proof.Machine

/-! ## Peal slots (R52, R57) -/

def State.pealSlots (s : State) : List (Nat × PealSlot) :=
  (List.range 4).filterMap fun i => let p := s.beat.slots.get i; if p.valid then some (i, p) else none

def State.pealOf (s : State) (seq : Nat) : Option (Nat × PealSlot) := s.pealSlots.find? fun e => e.2.seq = seq

def State.setSlot (s : State) (i : Nat) (p : PealSlot) : State := s.onBeat fun b => { b with slots := b.slots.put i p }

/-- A participant of this package has armed, or has left the participants; the last one's result goes to the master. -/
def State.pealArmed (s : State) (i u : Nat) : State :=
  let p := s.beat.slots.get i
  if !p.valid || !p.waiting.contains u then s
  else
    let p := { p with waiting := p.waiting.filter fun x => x != u }
    let s := s.setSlot i p
    if p.waiting = [] then s.send (.peal s.master 0 p.seq 3 true) else s

/-- R56, R231: a unit leaves the participants of every Peal, and its acknowledgement is not waited for. -/
def State.pealLeave (s : State) (u : Nat) : State :=
  let s := each (List.range 4) (fun s i => s.pealArmed i u) s
  each s.pealSlots (fun s (i, p) => s.setSlot i { p with units := p.units.filter (· != u) }) s

/-! ## Cores -/

/-- The lines of the blocks that an L1 of core c holds. -/
def State.coreL1Lines (s : State) (c : Nat) (i : Bool) : List Nat :=
  (s.cache.blks i).flatMap fun e =>
    if e.1 / 256 = c && e.2.used then (List.range 4).map fun q => e.2.tag * 128 + e.1 / 8 % 32 * 4 + q else []

/-- A die's copies of a line go, with what they hold: its L1 and L0 copies and its Die Cache line (R135). -/
def State.dropLine (s : State) (d line : Nat) : State :=
  let s := match s.dcFind d line with
    | some l => each (presentL1s d l.presence) (fun (s : State) e => s.l1Remove e.1 e.2 line) s
    | none => s
  s.dcUpd d line fun l => { l with coh := .i }

/-- Step 2 of R88: dirty sectors go to the Die Cache, those that fail parity are poisoned; the L1s and L0 end empty. -/
def State.purgeCore (s : State) (c : Nat) (bad : List Nat) : State :=
  let d := dieOf c
  let s := each (s.coreL1Lines c false) (fun s l =>
    match s.l1Find c false l with
    | some (_, x) =>
      if x.dirty && bad.contains l then
        ((s.dropLine d l).poisonAny l 3 (s.dieUnit d)).record E.CACHE_POISON 0 c [s.corePart c] (some (l * 64))
      else s.l1Evict c false l
    | none => s) s
  let s := each (s.coreL1Lines c true) (fun s l => s.l1Evict c true l) s
  s.onCache fun k => { k with
    l0 := k.l0.filter (fun e => e.1 / 32 != c)
    l1d := k.l1d.filter (fun e => e.1 / 256 != c), l1i := k.l1i.filter (fun e => e.1 / 256 != c) }

/-- What arrives for these cores of the accesses that rd names is dropped. -/
def Acc.losing (a : Acc) (cs : List Nat) : Acc :=
  let l := a.makers.filter cs.contains
  if l = [] then a else { a with lost := l.foldl addOnce a.lost }

/-- The reads of PCIe windows and configuration registers that wait at a segment: what arrives for these cores is dropped (R87, R88). -/
def State.segLose (s : State) (cs : List Nat) (of : PcieReq → Bool) : State :=
  let mark (r : PcieReq) : PcieReq :=
    if !of r then r
    else if r.kind = 0 then { r with acc := r.acc.losing cs }
    else if (r.kind = 1 || r.kind = 2) && r.acc.core / 256 = s.pkg && cs.contains (r.acc.core % 256) then
      { r with acc := { r.acc with lost := addOnce r.acc.lost (r.acc.core % 256) } }
    else r
  s.onPcie fun p => { p with segs := p.segs.map fun e => (e.1, { e.2 with
    out := e.2.out.map mark, waitTag := e.2.waitTag.map mark, rrs := e.2.rrs.map fun r => (mark r.1, r.2) }) }

/-- Step 1 of R88: what the core waits for is dropped; outstanding requests complete at the Die Cache, and their data is dropped. The
maintenance of a pair goes on for the member that is left. -/
def State.dropCore (s : State) (c : Nat) : State :=
  let heir := s.paired (s.corePart c) c
  let keeps (k : Nat) : Bool := k != c || heir
  let of (k : Nat) : Nat := if k = c then mirror c else k
  let mark (a : Acc) : Acc := a.losing [c]
  (s.segLose [c] fun _ => true).onCache fun k => { k with
    direct := k.direct.map (fun q => { q with acc := mark q.acc })
    cmoOut := (k.cmoOut.filter fun o => keeps o.core).map fun o => { o with core := of o.core }
    l1miss := k.l1miss.filter (fun m => m.core != c), waitL1 := k.waitL1.filter (fun a => a.core != c)
    dcMiss := k.dcMiss.map (fun m => { m with l1s := m.l1s.filter fun e => e.1 != c })
    cmoWait := (k.cmoWait.filter fun e => keeps e.1).map (fun e => (of e.1, e.2)), predictor := k.predictor.filter (fun e => e.1 / 1024 != c) }

/-- A rollback discards the reads a core has begun: nothing of them reaches it, wherever they wait, and their walks go on as those of a
predicted path (R87, R97). Checked stores and atomics stay, and so does a pair's agreed access. -/
def State.dropLoads (s : State) (c : Nat) : State :=
  let read (a : Acc) : Bool := a.core = c && !a.twin && (a.src = .load || a.src = .fetch)
  let walk (w : Walk) : Walk := if read w.acc then { w with fast := true, acc := { w.acc with lost := addOnce w.acc.lost c } } else w
  ((s.segLose [c] fun r => r.kind != 2 && !r.acc.twin).onCache fun q => { q with
    direct := q.direct.map (fun x => if read x.acc then { x with acc := x.acc.losing [c] } else x)
    l1miss := q.l1miss.map (fun m => { m with accs := m.accs.filter fun a => !read a })
    waitL1 := q.waitL1.filter fun a => !read a }).onXlat fun x => { x with
      walks := x.walks.map walk, waits := x.waits.map fun e => (walk e.1, e.2) }

/-- The logical core's stalled writes of TLBI_ISSUE and its sync pass from a member that goes down to the one that goes on (R171). -/
def State.tlbiHand (s : State) (c : Nat) : State :=
  let m := mirror c
  let h := s.coreH c
  if s.isTwin (s.corePart c) && s.alive m then
    s.updCoreH m fun g => { g with tlbiStall := g.tlbiStall ++ h.tlbiStall, syncWait := g.syncWait || h.syncWait }
  else s

/-- What a core loses on entering OFF or FENCED: its TLBs and walks, XLAT_CTL and XLAT_BASE, its microstate (R165, R172). -/
def State.coreEmpty (s : State) (c : Nat) : State :=
  let s := (((s.tlbiHand c).emptyTlbs c).resetReg (R.XLAT_CTL c)).resetReg (R.XLAT_BASE c)
  (s.updCoreH c fun h => { h with retries := 0, flag := false, tlbiStall := [], syncWait := false, stopping := false }).tlbiDrop
    fun e => e = (s.pkg, c)

/-- The partner of a lost member continues alone (R98); an access it had at a compare point is issued again. -/
def State.goSolo (s : State) (m : Nat) : State :=
  let p := s.corePart m
  let pr := m % 120
  let t := s.cores.twins.get pr
  let waits := if m < 120 then t.lowerMsg.isSome else t.upperMsg.isSome
  let ins := (t.inputs.map fun i => if m < 120 then { i with upper := false } else { i with lower := false }).filter fun i =>
    i.lower || i.upper
  let s := s.setF (R.CORE_STAT m) F.CORE_STAT_SOLO 1
  let r := R.CAR_SOLO p (pr / 64)
  let s := (s.setF r F.CAR_SOLO_SOLO (s.f r F.CAR_SOLO_SOLO ||| 2 ^ (pr % 64))).raise p 1
  let s := s.onCores fun k => { k with twins := k.twins.put pr { (default : TwinH) with
    inputs := ins, retLower := t.retLower, retUpper := t.retUpper } }
  let s := if waits then s.toCore m 4 else s
  s.twinRelease.cmoResume (dieOf m)

/-- Deliveries stamped for a pair of which neither member is left are pending at its logical core (R94, R114). -/
def State.pendStamped (s : State) (c : Nat) : State :=
  let ins := if s.isTwin (s.corePart c) && !s.alive (mirror c) then (s.cores.twins.get (c % 120)).inputs.filter fun i => i.kind = 0 else []
  let s := s.onCores fun k => { k with twins := k.twins.upd (c % 120) fun t => { t with inputs := t.inputs.filter fun i => !ins.contains i } }
  each ins (fun s i => s.pend c { vec := i.arg, prio := i.prio, rsv := i.rsv }) s

/-- Steps 4 and 5 of R88: the core's vectors, CAR_LOST and vector 0, and its partner. -/
def State.coreLost (s : State) (c : Nat) : State :=
  let p := s.corePart c
  let s := (s.pendStamped c).redeliver c
  let r := R.CAR_LOST p (c / 64)
  let s := (s.setF r F.CAR_LOST_LOST (s.f r F.CAR_LOST_LOST ||| 2 ^ (c % 64))).raise p 0
  if s.isTwin p then
    if s.alive (mirror c) then s.goSolo (mirror c)
    else (s.onCores fun k => { k with twins := k.twins.put (c % 120) default }).twinRelease
  else s

/-- A core enters FENCED with a cause; one that was in RUN or HALT is lost to its partition. -/
def State.coreDown (s : State) (c cause : Nat) : State :=
  let was := s.alive c
  let s := (s.setCoreState c 3).setF (R.CORE_STAT c) F.CORE_STAT_FENCE_CAUSE cause
  let s := s.updCoreH c fun h => { h with assayed := false }
  let s := (s.coreEmpty c).maskCore c true
  if was then s.coreLost c else s

/-- R88, and the fences of R97: the core is failed. -/
def State.fenceCore (s : State) (c cause : Nat) (bad : List Nat) : State := (((s.dropCore c).purgeCore c bad).coreDown c cause)

/-! ## Dies -/

/-- Remove everything a die's caches and queues hold. -/
def State.clearDie (s : State) (d : Nat) : State :=
  s.onCache fun k => { k with
    l1d := k.l1d.filter (fun e => e.1 / 5120 != d), l1i := k.l1i.filter (fun e => e.1 / 5120 != d)
    l1dS := k.l1dS.filter (fun e => e.1 / 20480 != d), l1iS := k.l1iS.filter (fun e => e.1 / 20480 != d)
    l1dTree := k.l1dTree.filter (fun e => e.1 / 640 != d), l1iTree := k.l1iTree.filter (fun e => e.1 / 640 != d)
    l0 := k.l0.filter (fun e => e.1 / 640 != d), l0Tree := k.l0Tree.filter (fun e => e.1 / 20 != d)
    l1miss := k.l1miss.filter (fun m => dieOf m.core != d), waitL1 := k.waitL1.filter (fun a => dieOf a.core != d)
    dc := k.dc.filter (fun e => e.1 / 1048576 != d), dcTree := k.dcTree.filter (fun e => e.1 / 65536 != d)
    dcMiss := k.dcMiss.filter (fun m => m.die != d), waitDc := k.waitDc.filter (fun m => m.die != d)
    direct := (k.direct.map fun q => { q with acc := q.acc.losing (coresOfDie d) }).filter (fun q => q.unit = 0xFC || dieOf q.acc.core != d), wb := k.wb.filter (fun e => e.die != d)
    predictor := k.predictor.filter (fun e => e.1 / 20480 != d), cmoWait := k.cmoWait.filter (fun e => dieOf e.1 != d)
    cmoOut := (k.cmoOut.filter fun o => dieOf o.core != d).map fun o => { o with parts := o.parts.filter fun p => p.1 != 0xF0 + d } }

/-- A message from die d of this package, or data on its way to it. -/
def State.dieFlit (s : State) (d : Nat) (m : Msg) : Bool :=
  let fromDie (u : Unt) : Bool := u.pkg = s.pkg && unitDie u.unit = some d
  match m with
  | .coh m => fromDie m.src || (fromDie m.dst && (vcOf m = 4 || vcOf m = 5 || vcOf m = 7))
  | _ => false

/-- Discard the mask flits of a die of a package whose data flits will not come, each with its record (R184). -/
def State.dropTorn (s : State) (pkg d : Nat) : State :=
  let torn (m : CMsg) : Bool := m.src.pkg = pkg && unitDie m.src.unit = some d
  let l := ((s.fab.torn.map (·.2)).filter torn).eraseDups
  let s := s.onFab fun f => { f with torn := f.torn.filter fun e => !torn e.2 }
  each l (fun s m => (s.take (.coh m)).record E.FLIT_TORN (if pkg = s.pkg then 1 else 14) (if pkg = s.pkg then d else pkg % 8) [m.part]
    (some (m.line * 64))) s

/-- Discard a fenced die's flits; a mask flit whose data flit will not come is recorded (R184). -/
def State.dropFlits (s : State) (d : Nat) : State :=
  let s := s.dropTorn s.pkg d
  let s := { s with sent := s.sent.filter (fun m => !s.dieFlit d m), flits := s.flits.filter fun f => !s.dieFlit d (.coh f.msg) }
  let s := s.onFab fun f => { f with regs := (f.regs.filter fun e => e.1 / 2 != d) }
  { s with cores := { s.cores with twinSnp := s.cores.twinSnp.filter fun e => e.1 != d } }

/-- Hub h holds a die of a package in its fence mask: its home acts (R231 steps 3 and 4). -/
def State.fenceMask (s : State) (h pkg d : Nat) : State :=
  let s := if pkg = s.pkg then s else s.dropTorn pkg d
  let s := s.onHome fun q => { q with fencing := addOnce q.fencing (pkg, d), fenceWalk := addOnce q.fenceWalk h }
  let s := if pkg = s.pkg then
      s.setF (R.FENCE_STAT h) F.FENCE_STAT_DIE_FENCED (s.f (R.FENCE_STAT h) F.FENCE_STAT_DIE_FENCED ||| 2 ^ d) else s
  (s.setF (R.FENCE_STAT h) F.FENCE_STAT_WALK_BUSY 1).fenceTxns h

/-- The partitions that own cores of a die. -/
def State.dieParts (s : State) (d : Nat) : List Nat :=
  ((coresOfDie d).map s.corePart).eraseDups.filter fun p => p != 0

/-- Control Space accesses that waited for a die which is now fenced end under R41. -/
def State.failHeld (s : State) (d : Nat) : State :=
  let l := s.pwr.heldCs.filter fun e => e.die = d
  let s := s.onPwr fun q => { q with heldCs := q.heldCs.filter fun e => e.die != d }
  each l (fun s e => s.csFail e.who E.DIE_FENCED (2, hubOfDie d) e.off) s

/-- Fence a die (R231); code is its DL_DIE.CAUSE. One record names the die. -/
def State.fenceDie (s : State) (d code : Nat) (e : ECode) (detail : Nat := 0) : State :=
  if s.dieFenced d then s
  else
    let h := hubOfDie d
    let s := (s.setF (R.DL_DIE d) F.DL_DIE_FENCED 1).setF (R.DL_DIE d) F.DL_DIE_CAUSE code
    let s := s.setF (R.ASSAY_STAT d) F.ASSAY_STAT_PASS_SINCE_FENCE 0
    let s := s.record e 1 d (s.dieParts d) none detail
    let s := s.setF (R.PWR_DIE d) F.PWR_DIE_STATE 4
    let s := ((s.dropFlits d).clearDie d).resetDie d
    let s := (s.arbMaskDie d true).pealLeave d
    let s := each (coresOfDie d) (fun s c => s.coreDown c 4) s
    let s := s.failHeld d
    let s := each (addOnce s.others s.pkg) (fun s p => s.send (.fence p d false)) s
    s.fenceMask h s.pkg d

/-- A flit of a mesh link has failed three replays in a row (R185). -/
def State.meshFail (s : State) (mesh : Nat) : State :=
  if mesh < 12 then (if s.dieOff mesh then s else s.fenceDie mesh 3 E.FLIT_CRC_FAIL)
  else s.selfFence E.FLIT_CRC_FAIL 2 (mesh - 12)

end Sys2Proof.Machine
end

