-- ==== Sys2Proof/Machine/Caches.lean ====
section
/-! DEFINITION. The commands of chapter 05: cache maintenance, the allocation enables, and errors of the arrays. -/

namespace Sys2Proof.Machine

/-- CMO_ISSUE with OP 1 (R136, R137). -/
def execCmoIssueClean (who : Sender) (blk : Core) (byKind level : Fin 4) (addr : LineNo) (user : Bool) (s : State) : Out :=
  .next (s.cmoIssue who.who blk.val 1 byKind.val level.val addr.val user)

/-- CMO_ISSUE with OP 2 (R136, R137, R138). -/
def execCmoIssueInvalidate (who : Sender) (blk : Core) (byKind level : Fin 4) (addr : LineNo) (user : Bool) (s : State) : Out :=
  .next (s.cmoIssue who.who blk.val 2 byKind.val level.val addr.val user)

/-- CMO_ISSUE with OP 3 (R136, R137). -/
def execCmoIssueCleanInval (who : Sender) (blk : Core) (byKind level : Fin 4) (addr : LineNo) (user : Bool) (s : State) : Out :=
  .next (s.cmoIssue who.who blk.val 3 byKind.val level.val addr.val user)

/-- A fill in flight at a level that a whole-level walk acts on (R143). -/
def State.walkMustWait (s : State) (c level : Nat) : Bool :=
  if level = 3 then s.cache.dcMiss.any fun m => (s.cmoDies c).contains m.die
  else if level = 0 then false
  else s.cache.l1miss.any fun m => (s.cmoCores c).contains m.core && m.instr = decide (level = 2)

/-- A whole-level walk has visited its sets; it ends when its write-backs are answered (R142). One that meets a way reserved for a fill waits for the fill. -/
def State.cmoWalkEnd (s : State) (c : Nat) : State :=
  let cmd := s.f (R.CMO_STAT c) F.CMO_STAT_WALK_CMD
  let level := cmd / 16
  if s.f (R.CMO_STAT c) F.CMO_STAT_BUSY = 0 || s.walkMustWait c level || s.cache.cmoOut.any fun o => o.walk && (s.cmoCores c).contains o.core then s
  else
    let (s, parts) := s.cmoWalk c (cmd % 4) level
    s.cmoBegin { core := c, walk := true, hold := false, parts := parts }

def execCmoWalkDone (c : Core) (s : State) : Out := .next (s.cmoWalkEnd c.val)

/-- L1_CTL (R146): allocation in the core's L1s and L0 stops or resumes. -/
def State.l1CtlOp (s : State) (w : Who) (c : Nat) (v : Word) : State :=
  s.csGuard w (R.L1_CTL c) 8 (some v) fun s =>
    (each (s.blkCores c) (fun s k => s.setF (R.L1_CTL k) F.L1_CTL_EN (v.toNat % 2)) s).whoReply w 0

def execL1CtlWrite (who : Sender) (c : Core) (en : Bool) (s : State) : Out :=
  .next (s.l1CtlOp who.who c.val (BitVec.ofNat 64 en.toNat))

/-- DC_CTL (R147): the write takes effect only where every core of the die that is not OFF is the writer's. -/
def State.dcCtlOp (s : State) (w : Who) (d : Nat) (v : Word) : State :=
  s.csGuard w (R.DC_CTL d) 8 (some v) fun s =>
    if (coresOfDie d).all fun c => s.coreState c = 0 || s.corePart c = s.whoPart w then
      (s.setF (R.DC_CTL d) F.DC_CTL_EN (v.toNat % 2)).whoReply w 0
    else (s.record E.DC_SHARED 1 d [s.whoPart w] (some (s.csAddr (R.DC_CTL d)))).whoReply w 0

def execDcCtlWrite (who : Sender) (d : Die) (en : Bool) (s : State) : Out :=
  .next (s.dcCtlOp who.who d.val (BitVec.ofNat 64 en.toNat))

/-! ## Array errors (R135, R165). level: 0 L0, 1 L1D, 2 L1I, 3 Die Cache (of the unit's die), 4 TLB, where sector 0 names entry
way of the L1 TLB and any other a set and way of the L2 TLB. -/

def State.arrayFixed (s : State) (c : Nat) : State := s.incF (R.CORE_FAULT_CNT c) F.CORE_FAULT_CNT_ARRAY_FIXED

/-- A TLB entry with a parity error goes; the access to its range walks again (R165). -/
def State.tlbLost (s : State) (c : Nat) (e : TlbEnt) : State :=
  (s.onXlat fun x => { x with rewalk := addOnce x.rewalk (c, e.va, e.bits) }).arrayFixed c

/-- A parity error in a core's array. A clean copy is discarded and refetched from the level below: an L0 copy equals its L1D sector, an L1
sector is filled again from the Die Cache. A dirty L1D sector poisons its line, and the access that met it completes with a bus error. -/
def State.coreArrayError (s : State) (level c set way sector : Nat) : State :=
  if level = 0 then
    if s.cache.l0.get (c * 32 + way % 32) = 0 then s else s.arrayFixed c
  else if level = 4 then
    if sector = 0 then
      let e := s.xlat.l1.get (c * 64 + way % 64)
      if e.valid then (s.onXlat fun x => { x with l1 := x.l1.del (c * 64 + way % 64) }).tlbLost c e else s
    else
      let k := (c * 256 + set % 256) * 12 + way % 12
      let e := s.xlat.l2.get k
      if e.valid then (s.onXlat fun x => { x with l2 := x.l2.del k }).tlbLost c e else s
  else
    let i := decide (level = 2)
    let line := ((s.cache.blks i).get (blkKey c (set % 32) (way % 8))).tag * 128 + set % 32 * 4 + sector
    match s.l1Find c i line with
    | none => s
    | some (key, x) =>
      if x.dirty then
        (((s.dropLine (dieOf c) line).poisonAny line 3 (s.dieUnit (dieOf c))).record E.CACHE_POISON 0 c [s.corePart c]
          (some (line * 64))).toCore c 1
      else (match s.dcFind (dieOf c) line with
        | some l => s.onCache fun k => k.setSec i key { x with data := l.data }
        | none => s).arrayFixed c

/-- An ECC error that an access of core c meets in its Die Cache. A clean line is invalidated on the die and refetched from its home; a
dirty one is poisoned, and the access completes with a bus error. A way whose line is being filled is not read before the fill. -/
def State.dcArrayError (s : State) (c set way : Nat) (correctable : Bool) : State :=
  let d := dieOf c
  let l := s.cache.dc.get (dcKey d (set % 65536) (way % 16))
  if correctable then s.incF (R.DC_STAT d) F.DC_STAT_ECC_FIXED
  else if l.coh = .i || s.dcFilling d (set % 65536) (way % 16) then s
  else if l.coh = .m || l.coh = .o then
    ((((s.dropLine d l.line).poisonAny l.line 4 (s.dieUnit d)).incF (R.DC_STAT d) F.DC_STAT_ECC_POISON).record E.CACHE_POISON 1 d
      [l.part] (some (l.line * 64))).toCore c 1
  else ((s.dropLine d l.line).dcRequest d l.line .rdShared l.part none none none).incF (R.DC_STAT d) F.DC_STAT_ECC_REFETCH

def execCacheArrayError (level : Fin 5) (unit : Core) (set way : Nat) (sector : Fin 4) (correctable : Bool) (s : State) : Out :=
  .next (if level.val = 3 then s.dcArrayError unit.val set way correctable
    else s.coreArrayError level.val unit.val set way sector.val)

end Sys2Proof.Machine
end

