-- ==== Sys2Proof/Machine/Routes.lean ====
section
/-! DEFINITION. Where units attach to the meshes (R174, R175), and where a message enters and leaves each mesh on its way (R176). -/

namespace Sys2Proof.Machine

abbrev Router := Nat × Nat

/-! ## Compute dies (R174) -/

/-- The router of a local core. -/
def coreRouter (i : Nat) : Router :=
  match i / 2 with
  | 0 => (0, 0)
  | 1 => (1, 0)
  | 2 => (0, 1)
  | 3 => (0, 2)
  | 4 => (1, 2)
  | 5 => (3, 0)
  | 6 => (2, 0)
  | 7 => (3, 1)
  | 8 => (3, 2)
  | _ => (2, 2)

/-- The west Die Cache port and the photonic die port. -/
def westRouter : Router := (1, 1)
/-- The east Die Cache port, the die power controller, the compute-die and core register blocks. -/
def eastRouter : Router := (2, 1)

/-! ## Hubs (R175), by the number of a unit within its hub -/

def dieLinkRouter (l : Nat) : Router := (l / 2, 0)
def bridgeRouter : Router := (3, 0)
def chanRouter (c : Nat) : Router := (c / 2, 1)
def pcieRouter (p : Nat) : Router := (p, 2)
def portRouter (f : Nat) : Router := (f / 2, 3)
/-- Security Island and crypto service ring front. -/
def islandRouter : Router := (2, 3)
/-- Service Core, Carillon, home atomic unit, the blocks of Control Space served by the hub. -/
def serviceRouter : Router := (3, 3)

/-! ## Ends of a message -/

/-- The unit of hub h that serves a UC or DEV access outside DRAM: the blocks of Control Space that the hub serves, the die link that leads to
a compute die's, or the port of a window. -/
def State.ioRouter (s : State) (pa : Nat) : Router :=
  match paKind pa with
  | .cs _ off => match locate off with
    | some (.die, n, _) => dieLinkRouter (n % 6)
    | some (.core, n, _) => dieLinkRouter (n / 20 % 6)
    | some (.arb, n, _) => if n < 24 then dieLinkRouter (n / 2 % 6) else serviceRouter
    | _ => serviceRouter
  | _ => match s.windowOf pa with
    | some w => pcieRouter (w.port % 4)
    | none => serviceRouter

/-- The home agent of a line at its hub; the agent of a line of another package is taken to be the first (log entry 80). -/
def State.homeRouter (s : State) (line : Nat) : Router :=
  match if pkgOfLine line = s.pkg then s.chanOf (offOfLine line) else none with
  | some (c, _) => chanRouter (c % 8)
  | none => chanRouter 0

/-- Where hub h sends from or receives: a segment's DMA port, a Service Core or the crypto service, the unit an access addresses, the home
atomic unit, or the home agent. -/
def State.hubEnd (s : State) (h : Nat) (m : CMsg) (out : Bool) : Router :=
  let req := vcOf m = 0 || vcOf m = 1 || vcOf m = 6
  let answer := m.op = .dataUc || m.op = .comp || m.op = .compContended || m.op = .busErr || m.op = .retry || m.op = .targetOff
  if (req && out) || (answer && !out) then
    match s.dmaOf h m with
    | some k => pcieRouter (k / 4 % 4)
    | none => if s.agentOf h m = some (64 + h) then serviceRouter else islandRouter
  else if m.op = .farAtomic || m.op = .ucAtomic || m.op = .atomicData || m.op = .atomicDataSole then serviceRouter
  else if 2 ^ 40 ≤ m.line then s.ioRouter (m.line * 64)
  else s.homeRouter m.line

/-- The lowest-numbered ACTIVE port to a package. -/
def State.portTo (s : State) (pkg : Nat) : Option Nat :=
  (List.range 8).find? fun n => s.linkActive n && s.f (R.FP_PEER n) F.FP_PEER_CONNECTED = 1 && s.f (R.FP_PEER n) F.FP_PEER_PEER_PKG = pkg

/-- The port by which a message leaves for another package: what this package sends, by the egress of the route in use; what it only passes
on, by its lowest-numbered ACTIVE port to that package (R283). -/
def State.outPort (s : State) (m : CMsg) : Option Nat :=
  if m.src.pkg = s.pkg then
    let r := R.SYS_ROUTE m.dst.pkg
    let n := s.f r F.SYS_ROUTE_EGRESS
    if s.f r F.SYS_ROUTE_VALID = 1 && s.linkActive n then some n else none
  else s.portTo m.dst.pkg

/-- The port at which a message waits that none carries now (R276): the egress of the route in use, else the lowest-numbered port that leads
there, else port p. -/
def State.waitPort (s : State) (m : CMsg) (p : Nat) : Nat :=
  if m.src.pkg = s.pkg && s.f (R.SYS_ROUTE m.dst.pkg) F.SYS_ROUTE_VALID = 1 then s.f (R.SYS_ROUTE m.dst.pkg) F.SYS_ROUTE_EGRESS
  else ((List.range 8).find? fun n => s.f (R.FP_PEER n) F.FP_PEER_CONNECTED = 1 && s.f (R.FP_PEER n) F.FP_PEER_PEER_PKG = m.dst.pkg).getD p

/-- The half of the package a unit belongs to. -/
def unitHub (u : Nat) : Nat := match unitDie u with | some d => hubOfDie d | none => u - 0xFC

/-- Where a message meets hub mesh h on the side of unit u: out, the side it comes from. -/
def State.hubSide (s : State) (h : Nat) (m : CMsg) (u : Unt) (out : Bool) : Router :=
  if u.pkg != s.pkg then
    match if out then s.portTo u.pkg else s.outPort m with
    | some n => if hubOfPort n = h then portRouter (n % 4) else bridgeRouter
    | none => portRouter 0
  else if unitHub u.unit != h then bridgeRouter
  else match unitDie u.unit with
    | some d => dieLinkRouter (d % 6)
    | none => s.hubEnd h m out

/-- Where a message meets die mesh d on the side of unit u: a core's router, the photonic port, or the Die Cache port of the cluster whose core
the message concerns (the west one for what concerns none: DESIGN CHOICE, log entry 80). -/
def State.dieSide (s : State) (d : Nat) (m : CMsg) (u : Unt) : Router :=
  if u.pkg = s.pkg && u.unit < 240 && dieOf u.unit = d then coreRouter (localOf u.unit)
  else if u.pkg = s.pkg && u.unit = 0xF0 + d && (s.dieCacheCore u.unit m.txn m.line).any fun c => 10 ≤ localOf c then eastRouter
  else westRouter

/-- The routers at which a message enters and leaves a mesh (0-11 dies, 12-13 hubs). -/
def State.entryRouter (s : State) (mesh : Nat) (m : CMsg) : Router :=
  if mesh < 12 then s.dieSide mesh m m.src else s.hubSide (mesh - 12) m m.src true
def State.exitRouter (s : State) (mesh : Nat) (m : CMsg) : Router :=
  if mesh < 12 then s.dieSide mesh m m.dst else s.hubSide (mesh - 12) m m.dst false

/-- The link a message takes where it leaves a mesh, if it goes on. -/
def State.exitLink (s : State) (mesh : Nat) (m : CMsg) : Option Nat :=
  if mesh < 12 then (if m.dst.pkg = s.pkg && unitDie m.dst.unit = some mesh then none else some (8 + mesh))
  else if m.dst.pkg != s.pkg then
    match s.outPort m with
    | some n => some (if hubOfPort n = mesh - 12 then n else 20)
    | none => none
  else if unitHub m.dst.unit != mesh - 12 then some 20
  else (unitDie m.dst.unit).map fun d => 8 + d

/-- The router at which the message ends in this package. -/
def State.endRouter (s : State) (m : CMsg) : Router :=
  match unitDie m.dst.unit with
  | some d => s.exitRouter d m
  | none => s.exitRouter (12 + (m.dst.unit - 0xFC)) m

/-! ## The links a message crosses -/

/-- A unit behind a die link in service: neither fenced nor powered down. -/
def State.behindLink (s : State) (u : Unt) : List Nat :=
  if u.pkg != s.pkg then []
  else match unitDie u.unit with
    | some d => if s.dieFenced d || s.dieOff d then [] else [8 + d]
    | none => []

/-- The hub at which a message enters this package's half: that of its sender, or of the ACTIVE port that leads to its package. -/
def State.hubIn (s : State) (m : CMsg) : Option Nat :=
  if m.src.pkg = s.pkg then some (unitHub m.src.unit) else (s.portTo m.src.pkg).map hubOfPort

/-- The links of this package that a message crosses on its way to one of its units. -/
def State.pathLinks (s : State) (m : CMsg) : List Nat :=
  s.behindLink m.src ++ (if m.dst.pkg = s.pkg && (s.hubIn m).any fun h => h != unitHub m.dst.unit then [20] else []) ++
    s.behindLink m.dst

/-- The router a flit reaches in a direction. -/
def stepTo (x y dir : Nat) : Router :=
  match dir with
  | 0 => (x - 1, y)
  | 1 => (x + 1, y)
  | 2 => (x, y - 1)
  | _ => (x, y + 1)

/-! ## Order and credits on the way -/

/-- The coherent messages sent to this package's units before m; none where m was not sent here. -/
def State.ahead (s : State) (m : CMsg) : List CMsg :=
  let l := s.sent.filterMap fun x => match x with
    | .coh x => if x.dst.pkg = s.pkg then some x else none
    | _ => none
  if l.contains m then l.takeWhile fun x => x != m else []

/-- Two messages travel the same way to the same unit on one channel: no bridge lets the later pass the earlier (R179). -/
def State.sameWay (s : State) (a b : CMsg) : Bool :=
  a.src = b.src && a.dst = b.dst && vcOf a = vcOf b && s.endRouter a = s.endRouter b

/-- The message has come to the end of its way: it stands at no router on it, no earlier one is before it in the FIFOs it passes (R179), it holds
a credit of each link (R188: the messages first sent hold them), and its injection regulator has passed it (R193). -/
def State.arrived (s : State) (m : CMsg) : Bool :=
  let before := s.ahead m
  !before.any (s.sameWay m) && !s.unpassed m && (s.flitAt m).router.isNone &&
    (s.pathLinks m).all fun l =>
      sumOf ((before.filter fun x => vcOf x = vcOf m && (s.pathLinks x).contains l).map flitsOf) + flitsOf m ≤ creditLimit l (vcOf m)

end Sys2Proof.Machine
end

