-- ==== Sys2Proof/Machine/CohOps.lean ====
section
/-! DEFINITION. Arrivals of coherent messages: the links they cross (R25, R276), requests at a home, data and completions at
their requesters (R214, R217, R221), retries, and the directory's registers. -/

namespace Sys2Proof.Machine

/-! ## The links a message crosses -/

def State.blockedLink (s : State) (m : CMsg) : Option Nat := (s.pathLinks m).find? fun l => !s.linkActive l

/-- A message cannot cross a link now: a request is answered with RETRY, the rest is held there (R276). -/
def State.holdAt (s : State) (l : Nat) (m : CMsg) : State :=
  let vc := vcOf m
  if vc = 0 || vc = 1 || vc = 6 then
    s.send (.coh { (default : CMsg) with op := .retry, line := m.line, src := m.dst, dst := m.src, txn := m.txn, part := m.part })
  else (s.onLinks fun k => { k with held := k.held ++ [(l, m)] }).setF (R.LINK_STAT l) F.LINK_STAT_HELD 1

/-- A message arrives, unless it is still on its way (R179, R188, R193), a link on its path pauses (R269; it stays on its way), the
package is isolated (R58) or locked (R83), or a link is not ACTIVE: requests are then answered with RETRY, the rest is held (R276). -/
def State.arrive (s : State) (m : CMsg) (act : State → State) : State :=
  if !s.arrived m || s.locked || (s.pathLinks m).any s.paused || (s.beat.isolated && (m.src.pkg != s.pkg || m.dst.pkg != s.pkg)) then s
  else match s.blockedLink m with
  | none => act s
  | some l =>
    (s.take (.coh m)).holdAt l m

/-! ## Requests at a home -/

/-- A request row: to the home here, or (UC and DEV accesses) to a PCIe window of this package (R36). -/
def State.reqRow (s : State) (h : Nat) (m : CMsg) : State :=
  s.arrive m fun s => s.homeReq h m

/-! ## Data and completions at a die -/

/-- What follows once a die may have installed a line: its proxy entry, owner-ordered notes, waiting maintenance. -/
def State.lineSettle (s : State) (d line : Nat) : State :=
  match s.dcFind d line with
  | none => s.cmoResume d
  | some l =>
    let s := if pkgOfLine line = s.pkg then s else s.proxyNote line d l.coh
    (s.onHome fun q => { q with passed := (q.passed.filter fun e => !(e.1 = d && e.2.1 = line)).map fun e =>
      if e.2.1 = line && e.2.2.1 = s.dieUnit d then (e.1, e.2.1, e.2.2.1, false) else e }).cmoResume d

/-- A DAT or RSP message for a masked die is discarded with a record (R392). -/
def State.offDrop (s : State) (d : Nat) (m : CMsg) : State :=
  s.record E.TARGET_OFF_DROP 1 d [m.part] (some (m.line * 64)) (classOfVc (vcOf m) 1)

/-- Data of a grant reaches die d. -/
def State.dataRow (s : State) (d : Nat) (m : CMsg) (c : Coh) : State :=
  s.arrive m fun s =>
    let s := s.take (.coh m)
    if s.dieFenced d then s
    else if s.dieOff d then s.offDrop d m
    else ((s.grantData d m c).lineSettle d m.line).tlbiSettle

/-- The walkers of a core. -/
def walkersOf (c : Nat) : List (Nat × Nat) := [(c, 0), (c, 1)]

/-- A maintenance request at the home has ended with a code: the operation it is a part of goes on, or the WT read it was sent for (R133). -/
def State.cmoDone (s : State) (q : Direct) (code : Nat) : State :=
  let s := s.dropDirect q
  if q.acc.src = .maint then s.cmoPart q.unit q.line code
  else if code = 0 then (s.dcUpd (dieOf q.acc.core) q.line fun l => { l with clean := true }).readAcc q.acc false else s.failAcc q.acc

def isCmo (op : COp) : Bool := op = .cmoClean || op = .cmoCleanInv

/-- The die behind a message's destination, if it is one of this package. -/
def State.dstDie (s : State) (m : CMsg) : Option Nat := if m.dst.pkg = s.pkg then unitDie m.dst.unit else none

/-- Read data of a UC access, a DMA request or a walker reaches its requester (R211). -/
def State.readDone (s : State) (m : CMsg) : State :=
  match s.directOf m with
  | some q =>
    let s := s.dropDirect q
    if q.acc.src = .maint then s.walkGot (dieOf q.acc.core) q.line (walkersOf q.acc.core) (some m.data)
    else s.deliver q.acc (lineGet m.data q.acc.off q.acc.size)
  | none => s.hubDone m (some m.data) false

/-- A grant or completion reaches its requester (R214, R221). -/
def State.compDone (s : State) (m : CMsg) (cont : Bool) : State :=
  match s.missOf m with
  | some q =>
    let s := s.onCache fun k => { k with dcMiss := k.dcMiss.map fun x =>
      if x.die = q.die && x.line = q.line then { x with grant := some cont, due := m.data != 0 } else x }
    (s.missTry q.die q.line).lineSettle q.die q.line
  | none =>
    match s.directOf m with
    | some q =>
      if q.op = .wtWrite then (s.dropDirect q).wtDone q.acc
      else if isCmo q.op then (s.cmoDone q 0).cmoResume (dieOf q.acc.core)
      else (s.dropDirect q).deliver q.acc 0
    | none => s.hubDone m (some 0) false

/-- A bus error reaches its requester; denied: the home refused the partition (R140, R300), and did not find its DRAM unbacked (R33). -/
def State.errDone (s : State) (m : CMsg) : State :=
  let denied := m.data = 1
  match s.missOf m with
  | some q => (s.missFail q denied).cmoResume q.die
  | none =>
    match s.directOf m with
    | some q =>
      if isCmo q.op then
        let refused := denied && q.acc.src = .maint
        ((if refused then s.setBothCmo q.acc.core F.CMO_STAT_DENIED 1 else s).cmoDone q (if refused then 0 else 1)).cmoResume
          (dieOf q.acc.core)
      else if q.acc.src = .maint then (s.dropDirect q).walkGot (dieOf q.acc.core) q.line (walkersOf q.acc.core) none denied
      else (s.dropDirect q).failAcc q.acc
    | none => s.hubDone m none (m.data != 0)

/-- The old value of a far atomic returns to the Die Cache of core c; sole: the line had no other holder (R221). -/
def State.atomicDone (s : State) (c : Nat) (m : CMsg) (sole : Bool) : State :=
  match s.directOf m with
  | some q =>
    let s := s.dropDirect q
    let s := if sole then s.onCache fun k => { k with predictor := k.predictor.upd (predIdx c m.line) (· - 1) } else s
    s.deliver q.acc (lineGet m.data q.acc.off q.acc.size)
  | none => s

/-- Where a UC or DEV access outside DRAM goes: the hub of its window's port, or the hub that serves its Control Space block. -/
def State.ioUnit (s : State) (pa : Nat) : Unt :=
  match paKind pa with
  | .cs pkg off => { pkg := pkg, unit := 0xFC + csHub off }
  | _ => match s.windowOf pa with
    | some w => { pkg := w.pkg, unit := 0xFC + hubOfPort w.port }
    | none => { pkg := s.pkg, unit := 0xFC }

/-- The request of a waiting access, as it was first sent. -/
def State.directMsg (s : State) (q : Direct) : CMsg :=
  let a := q.acc
  let (mask, data, aop) : Mask × Line × AtOp := match q.op with
    | .ucWr | .wtWrite => (maskFor a.off a.size, linePut 0 a.off a.size a.data, default)
    | .ucAtomic | .farAtomic => (maskFor a.off a.size, 0, a.aop)
    | .ucRd => (maskFor a.off a.size, 0, default)
    | _ => (0, 0, default)
  let m := s.forPair a (s.request q.op q.line { pkg := s.pkg, unit := q.unit } q.txn a.part mask data aop)
  if q.line < 2 ^ 40 then m else { m with dst := s.ioUnit a.pa }

/-- A request that was held is sent; it keeps its place. -/
def State.directGo (s : State) (q : Direct) : State :=
  let (s, t) := (s.countTo q.acc.cores q.acc.user q.acc.half (s.directMsg q).dst).newTxn q.unit
  let q' := { q with txn := t, sent := true }
  (s.onCache fun k => { k with direct := k.direct.replace q q' }).send (.coh (s.directMsg q'))

/-- Send the requests that nothing holds any more, in order. -/
def State.directKick (s : State) : State :=
  each (s.cache.direct.filter fun q => q.txn = noTag) (fun s q =>
    if s.directHeld q.acc q.unit q.op (s.directMsg q).dst.pkg (s.cache.direct.takeWhile fun x => x != q) then s else s.directGo q) s

/-- An IO message that a route change found outstanding has not completed (R284). -/
def State.ioLive (s : State) (e : Nat × Nat × Nat × Nat) : Bool :=
  let head (l : List CMsg) : Bool := match l with
    | q :: _ => q.src.unit = e.2.1 && q.txn = e.2.2.1 && q.line = e.2.2.2
    | [] => false
  (s.cache.direct.any fun q => q.unit = e.2.1 && q.txn = e.2.2.1 && q.line = e.2.2.2) ||
    ((List.range 32).any fun k => head (s.seg k).dma) || (List.range 66).any fun a => head (s.agentQ a)

/-- Where every IO message sent on an old route has completed, what was held behind them is sent on the new one (R284). -/
def State.ioSettle (s : State) : State :=
  let done := ((s.links.ioOld.map (·.1)).eraseDups).filter fun p => !(s.links.ioOld.any fun e => e.1 = p && s.ioLive e)
  if done = [] then s
  else
    let s := s.onLinks fun k => { k with ioOld := k.ioOld.filter fun e => !done.contains e.1 }
    each (List.range 66) State.agentKick (each (List.range 32) State.dmaKick s.directKick)

/-- The route to package d has changed: its IO messages wait for those outstanding on the old one (R284). -/
def State.ioFreeze (s : State) (d : Nat) : State :=
  let ds := (s.cache.direct.filter fun q => isIo q.op && q.sent && q.txn != noTag && (s.directMsg q).dst.pkg = d).map fun q => (d, q.unit, q.txn, q.line)
  let head (l : List CMsg) : Option (Nat × Nat × Nat × Nat) := match l with
    | q :: _ => if isIo q.op && q.txn != noSlot && q.dst.pkg = d then some (d, q.src.unit, q.txn, q.line) else none
    | [] => none
  let ms := ((List.range 32).filterMap fun k => head (s.seg k).dma) ++ (List.range 66).filterMap fun a => head (s.agentQ a)
  s.onLinks fun k => { k with ioOld := k.ioOld.filter (fun e => e.1 != d) ++ ds ++ ms }

/-- The die of the core whose access HUB-A made, which a response to HUB-A answers (R91). -/
def State.hubAccDie (s : State) (m : CMsg) : List Nat :=
  match s.directOf m with
  | some q => if q.acc.core < 240 then [dieOf q.acc.core] else []
  | none => []

/-- A response row: discarded at a fenced die, dropped with a record at a masked one, else handled. -/
def State.rspRow (s : State) (m : CMsg) (act : State → State) : State :=
  s.arrive m fun s =>
    let s := s.take (.coh m)
    match s.dstDie m with
    | some d => if s.dieFenced d then s else if s.dieOff d then s.offDrop d m else ((act s).accsSettle d).directKick.ioSettle
    | none => (each (s.hubAccDie m) State.accsSettle (act s)).directKick.ioSettle

/-- WB_ACK frees the write-back buffer entry; what waited for it goes on (R217). -/
def State.wbDone (s : State) (d line : Nat) : State :=
  let s := (s.onCache fun k => { k with wb := k.wb.filter fun e => !(e.die = d && e.line = line) }).proxyDrop d line
  let l := s.cache.dcMiss.filter fun q => q.die = d && q.line = line && !q.sent
  let s := s.onCache fun k => { k with dcMiss := k.dcMiss.filter fun q => !(q.die = d && q.line = line && !q.sent) }
  ((each l State.sendMiss s).directKick.cmoPart (0xF0 + d) line 0).cmoResume d

/-! ## Retries (R276) -/

/-- A requester receives RETRY, which its core counts (R105): its request waits to be issued again. -/
def State.retryMark (s : State) (m : CMsg) : State :=
  match s.missOf m with
  | some q => (s.countMiss q fun s a => s.count a.core 0x11 a.user).onCache fun k => { k with dcMiss := k.dcMiss.map fun x =>
      if x.die = q.die && x.line = q.line then { x with sent := false } else x }
  | none =>
    match s.directOf m with
    | some q => (if q.acc.core < 240 then s.countAcc q.acc 0x11 else s).onCache fun k =>
        { k with direct := k.direct.map fun x => if x = q then { x with sent := false } else x }
    | none =>
      if m.dst.pkg = s.pkg && 0xFC ≤ m.dst.unit then
        match s.dmaOf (m.dst.unit - 0xFC) m with
        | some k => s.updSeg k fun g => { g with dma := match g.dma with
            | q :: r => { q with txn := noSlot } :: r
            | [] => [] }
        | none => match s.agentOf (m.dst.unit - 0xFC) m with
          | some a => s.setAgentQ a (match s.agentQ a with
            | q :: r => { q with txn := noSlot } :: r
            | [] => [])
          | none => s
      else s

/-- 64 fabric cycles later the request is issued again, under the same tag. An IO request whose route has changed waits for those still under way on
the old one (R284). -/
def State.reissue (s : State) (m : CMsg) : State :=
  match s.cache.dcMiss.find? fun q => m.dst = s.dieUnit q.die && q.txn = m.txn && q.line = m.line && !q.sent with
  | some q =>
    if s.inWb q.die q.line then s
    else (s.onCache fun k => { k with dcMiss := k.dcMiss.map fun x =>
      if x.die = q.die && x.line = q.line then { x with sent := true } else x }).send
        (.coh (s.request q.op q.line (s.dieUnit q.die) q.txn q.part 0 0 default))
  | none =>
    match s.cache.direct.find? fun q => m.dst.pkg = s.pkg && m.dst.unit = q.unit && q.txn = m.txn && q.txn != noTag && !q.sent with
    | some q =>
      if isIo q.op && s.ioHeld (s.directMsg q).dst.pkg then
        s.onCache fun k => { k with direct := k.direct.map fun x => if x = q then { x with txn := noTag } else x }
      else (s.onCache fun k => { k with direct := k.direct.map fun x => if x = q then { x with sent := true } else x }).send
        (.coh (s.directMsg q))
    | none =>
      if m.dst.pkg = s.pkg && 0xFC ≤ m.dst.unit then
        let s := each ((List.range 32).filter fun k => k / 16 = m.dst.unit - 0xFC) State.dmaKick s
        each ((List.range 66).filter fun a => agentHub a = m.dst.unit - 0xFC) State.agentKick s
      else s

/-! ## The directory's registers (R209) -/

def dstateCode : DState → Nat
  | .shared => 0
  | .excl => 1
  | .owned => 2

/-- The layout of DIR_PROBE_DATA. -/
def dirWord (e : DirEnt) : Word :=
  if !e.valid then 0
  else BitVec.ofNat 64 (1 + dstateCode e.ds * 2 + e.proxy.toNat * 8 + e.unsure.toNat * 16 + e.busy.toNat * 32 +
    e.ownerDie % 16 * 2 ^ 6 + e.ownerPkg % 8 * 2 ^ 10 + e.dieVec % 4096 * 2 ^ 13 + e.pkgVec % 256 * 2 ^ 25 + e.tag % 2 ^ 27 * 2 ^ 33)

/-- The probe of DIR_PROBE_ADDR: the entry of the kind asked for. -/
def State.dirProbe (s : State) (h : Nat) : Word :=
  let e := s.dirEnt h (s.f (R.DIR_PROBE_ADDR h) F.DIR_PROBE_ADDR_PA)
  if e.proxy = (decide (s.f (R.DIR_PROBE_ADDR h) F.DIR_PROBE_ADDR_PROXY = 1)) then dirWord e else 0

/-- HOME_MODE.UNSURE: valid entries of the slice not yet confirmed. -/
def State.unsureCount (s : State) (h : Nat) : Nat :=
  countOf s.home.dir fun e => e.1 / 16 / 524288 = h && e.2.valid && e.2.unsure

end Sys2Proof.Machine
end

