-- ==== Sys2Proof/Machine/Coherence.lean ====
section
/-! DEFINITION. The commands of chapter 08: requests, snoops, write-backs, data, completions and responses; die fencing and
the directory. -/

namespace Sys2Proof.Machine

/-! ## Requests (R213, R215, R222) -/

def execRdShared (h : Hub) (m : CMsg) (s : State) : Out := .next (s.reqRow h.val { m with op := .rdShared })
def execRdUnique (h : Hub) (m : CMsg) (s : State) : Out := .next (s.reqRow h.val { m with op := .rdUnique })
def execUpgrade (h : Hub) (m : CMsg) (s : State) : Out := .next (s.reqRow h.val { m with op := .upgrade })
def execWtWrite (h : Hub) (m : CMsg) (s : State) : Out := .next (s.reqRow h.val { m with op := .wtWrite })
def execFarAtomic (h : Hub) (m : CMsg) (s : State) : Out := .next (s.reqRow h.val { m with op := .farAtomic })
def execCmoClean (h : Hub) (m : CMsg) (s : State) : Out := .next (s.reqRow h.val { m with op := .cmoClean })
def execCmoCleanInv (h : Hub) (m : CMsg) (s : State) : Out := .next (s.reqRow h.val { m with op := .cmoCleanInv })
def execDmaRd (h : Hub) (m : CMsg) (s : State) : Out := .next (s.reqRow h.val { m with op := .dmaRd })
def execDmaWr (h : Hub) (m : CMsg) (s : State) : Out := .next (s.reqRow h.val { m with op := .dmaWr })
def execUcAtomic (h : Hub) (m : CMsg) (s : State) : Out := .next (s.reqRow h.val { m with op := .ucAtomic })

/-! ## Snoops (R216, R225) -/

def execSnpShared (u : Fin 14) (m : CMsg) (s : State) : Out :=
  let m : CMsg := { m with op := .snpShared }
  .next (s.arrive m fun s => s.snoopRow u.val m)
def execSnpUnique (u : Fin 14) (m : CMsg) (s : State) : Out :=
  let m : CMsg := { m with op := .snpUnique }
  .next (s.arrive m fun s => s.snoopRow u.val m)
def execSnpInv (u : Fin 14) (m : CMsg) (s : State) : Out :=
  let m : CMsg := { m with op := .snpInv }
  .next (s.arrive m fun s => s.snoopRow u.val m)
def execSnpClean (u : Fin 14) (m : CMsg) (s : State) : Out :=
  let m : CMsg := { m with op := .snpClean }
  .next (s.arrive m fun s => s.snoopRow u.val m)
def execSnpRecall (u : Fin 14) (m : CMsg) (s : State) : Out :=
  let m : CMsg := { m with op := .snpRecall }
  .next (s.arrive m fun s => s.snoopRow u.val m)
def execSnpOrderShared (u : Fin 14) (m : CMsg) (s : State) : Out :=
  let m : CMsg := { m with op := .snpOrderShared }
  .next (s.arrive m fun s => s.snoopRow u.val m)
def execSnpOrderUnique (u : Fin 14) (m : CMsg) (s : State) : Out :=
  let m : CMsg := { m with op := .snpOrderUnique }
  .next (s.arrive m fun s => s.snoopRow u.val m)
def execSnpOrderRecall (u : Fin 14) (m : CMsg) (s : State) : Out :=
  let m : CMsg := { m with op := .snpOrderRecall }
  .next (s.arrive m fun s => s.snoopRow u.val m)

/-! ## Write-backs (R217, R218, R232) -/

def execWbDirty (h : Hub) (m : CMsg) (s : State) : Out :=
  let m : CMsg := { m with op := .wbDirty }
  .next (s.arrive m fun s => s.wbAt h.val m)
def execEvictClean (h : Hub) (m : CMsg) (s : State) : Out :=
  let m : CMsg := { m with op := .evictClean }
  .next (s.arrive m fun s => s.wbAt h.val m)
def execWbLost (h : Hub) (m : CMsg) (s : State) : Out :=
  let m : CMsg := { m with op := .wbLost }
  .next (s.arrive m fun s => s.wbAt h.val m)

/-! ## Data (R211, R212, R214) -/

def execDataS (d : Die) (m : CMsg) (s : State) : Out := .next (s.dataRow d.val { m with op := .dataS } .s)
def execDataE (d : Die) (m : CMsg) (s : State) : Out := .next (s.dataRow d.val { m with op := .dataE } .e)
def execDataM (d : Die) (m : CMsg) (s : State) : Out := .next (s.dataRow d.val { m with op := .dataM } .m)
def execDataO (d : Die) (m : CMsg) (s : State) : Out := .next (s.dataRow d.val { m with op := .dataO } .o)
def execSnpData (h : Hub) (m : CMsg) (s : State) : Out :=
  let m : CMsg := { m with op := .snpData }
  .next (s.arrive m fun s => s.rspAt h.val m)
def execDataUc (m : CMsg) (s : State) : Out :=
  let m : CMsg := { m with op := .dataUc }
  .next (s.rspRow m fun s => s.readDone m)
def execAtomicData (c : Core) (m : CMsg) (s : State) : Out :=
  let m : CMsg := { m with op := .atomicData }
  .next (s.rspRow m fun s => s.atomicDone c.val m false)
def execAtomicDataSole (c : Core) (m : CMsg) (s : State) : Out :=
  let m : CMsg := { m with op := .atomicDataSole }
  .next (s.rspRow m fun s => s.atomicDone c.val m true)

/-! ## Completions and responses (R212 to R215, R221, R225) -/

def execComp (m : CMsg) (s : State) : Out :=
  let m : CMsg := { m with op := .comp }
  .next (s.rspRow m fun s => s.compDone m false)
def execCompContended (m : CMsg) (s : State) : Out :=
  let m : CMsg := { m with op := .compContended }
  .next (s.rspRow m fun s => s.compDone m true)
def execCompAck (h : Hub) (m : CMsg) (s : State) : Out :=
  let m : CMsg := { m with op := .compAck }
  .next (s.arrive m fun s => (s.take (.coh m)).compAckAt h.val m)
def execSnpRspI (h : Hub) (m : CMsg) (s : State) : Out :=
  let m : CMsg := { m with op := .snpRspI }
  .next (s.arrive m fun s => s.rspAt h.val m)
def execSnpRspS (h : Hub) (m : CMsg) (s : State) : Out :=
  let m : CMsg := { m with op := .snpRspS }
  .next (s.arrive m fun s => s.rspAt h.val m)
def execSnpRspFwdClean (h : Hub) (m : CMsg) (s : State) : Out :=
  let m : CMsg := { m with op := .snpRspFwdClean }
  .next (s.arrive m fun s => s.rspAt h.val m)
def execSnpRspFwdDirty (h : Hub) (m : CMsg) (s : State) : Out :=
  let m : CMsg := { m with op := .snpRspFwdDirty }
  .next (s.arrive m fun s => s.rspAt h.val m)
def execSnpRspPassed (h : Hub) (m : CMsg) (s : State) : Out :=
  let m : CMsg := { m with op := .snpRspPassed }
  .next (s.arrive m fun s => s.rspAt h.val m)
def execWbAck (d : Die) (m : CMsg) (s : State) : Out :=
  let m : CMsg := { m with op := .wbAck }
  .next (s.rspRow m fun s => if m.dst = s.dieUnit d.val then s.wbDone d.val m.line
    else if m.dst.pkg = s.pkg && 0xFC ≤ m.dst.unit then s.proxyWbDone (m.dst.unit - 0xFC) m.line else s)
def execRetry (m : CMsg) (s : State) : Out :=
  let m : CMsg := { m with op := .retry }
  .next (s.arrive m fun s => (s.take (.coh m)).retryMark m)
def execRetryReissue (m : CMsg) (s : State) : Out := .next (s.reissue m)
def execBusErr (m : CMsg) (s : State) : Out :=
  let m : CMsg := { m with op := .busErr }
  .next (s.rspRow m fun s => s.errDone m)

/-! ## Owner-ordered mode (R226) -/

/-- The sweep has set UNSURE in every valid entry of the slice. -/
def execDirSweepDone (h : Hub) (s : State) : Out :=
  if s.f (R.HOME_MODE h.val) F.HOME_MODE_SWEEP_BUSY = 0 then .next s
  else
    let s := s.onHome fun q => { q with
      dir := q.dir.map fun e => if e.1 / 16 / 524288 = h.val then (e.1, { e.2 with unsure := e.2.valid }) else e
      sweeps := q.sweeps.filter fun x => x != h.val }
    .next (s.setF (R.HOME_MODE h.val) F.HOME_MODE_SWEEP_BUSY 0)

/-- The dies of this package that hold a line, and their states. -/
def State.dieCopies (s : State) (line : Nat) : List (Nat × Coh) :=
  s.openDies.filterMap fun d => (s.dcFind d line).map fun l => (d, l.coh)

/-- The directory state of an entry whose owner, if any, holds the line in state c. -/
def ownState : Option Coh → DState
  | some .o => .owned
  | some _ => .excl
  | none => .shared

/-- A proxy entry is confirmed by asking this package's dies (R226): it names those that hold the line. -/
def State.proxyConfirm (s : State) (h line : Nat) : State :=
  let held := s.dieCopies line
  let own := held.find? fun x => x.2 != Coh.s
  s.dirUpd h line fun e =>
    { s.entryOf e (held.map fun x => s.dieUnit x.1) (ownState (own.map (·.2))) (own.map fun x => s.dieUnit x.1) with unsure := false }

/-- One UNSURE entry is resolved by an owner-ordered snoop of every possible holder. -/
def execUnsureResolve (h : Hub) (set : Fin (2 ^ 19)) (way : Fin 16) (s : State) : Out :=
  let e := s.home.dir.get (dirKey h.val set.val way.val)
  let line := dirLine set.val e.tag
  if !(e.valid && e.unsure) || s.ordered h.val then .next s
  else if e.proxy then .next (s.proxyConfirm h.val line)
  else if !s.lineBusy h.val line then .next (s.homeOwn h.val .cmoCleanInv line 0)
  else .next s

/-! ## Die fencing (R230, R231) -/

def execDieReset (d : Die) (s : State) : Out :=
  .next (if s.dieState d.val = 0 then s else s.fenceDie d.val 1 E.DIE_RESET)
def execDieClockLost (d : Die) (s : State) : Out :=
  .next (if s.dieState d.val = 0 then s else s.fenceDie d.val 2 E.DIE_CLOCK_LOST)

/-- Hub h receives a fence notice of a package, or the notice that clears one (R231 step 2, R234); an isolated package takes only its own
(R58). -/
def State.fenceNoticeIn (s : State) (h pkg d : Nat) (clear : Bool) : State :=
  s.fromPkg pkg fun s =>
    let s := s.take (.fence s.pkg d clear)
    if !clear then
      let s := if pkg = s.pkg then s else each (coresOfDie d) (fun s c => s.setFar pkg c 3) s
      s.fenceMask h pkg d
    else
      let s := s.onHome fun q => { q with fencing := q.fencing.filter fun e => e != (pkg, d) }
      if pkg = s.pkg then
        s.setF (R.FENCE_STAT h) F.FENCE_STAT_DIE_FENCED (clearBit (s.f (R.FENCE_STAT h) F.FENCE_STAT_DIE_FENCED) d)
      else s

def execFenceNotice (h : Hub) (pkg : Pkg) (d : Die) (clear : Bool) (s : State) : Out := .next (s.fenceNoticeIn h.val pkg.val d.val clear)

/-- The walk of a slice has ended; every entry it met is clean (R231 step 4). -/
def execFenceWalkDone (h : Hub) (s : State) : Out :=
  if s.f (R.FENCE_STAT h.val) F.FENCE_STAT_WALK_BUSY = 0 then .next s
  else
    let s := s.dirWalk h.val
    let s := s.onHome fun q => { q with fenceWalk := q.fenceWalk.filter fun x => x != h.val }
    .next (s.setF (R.FENCE_STAT h.val) F.FENCE_STAT_WALK_BUSY 0)

/-! ## Registers with an effect (R209, R229) -/

/-- A write of LINE_CLEAR. -/
def State.lineClearOp (s : State) (w : Who) (h line : Nat) : State :=
  s.csGuard w (R.LINE_CLEAR h) 8 (some (BitVec.ofNat 64 (line * 64))) fun s =>
    if !s.homedAt h line then s.csFail w E.CLEAR_WRONG_HOME (2, h) (R.LINE_CLEAR h)
    else if s.whoPart w != 0 && s.lineOwner line != s.whoPart w then s.csFail w E.CLEAR_DENIED (2, h) (R.LINE_CLEAR h)
    else (s.homeOwn h .dmaWr line 0).whoReply w 0

def execLineClear (who : Sender) (h : Hub) (line : LineNo) (s : State) : Out := .next (s.lineClearOp who.who h.val line.val)

/-- A read of DIR_PROBE_DATA: it changes no entry. -/
def State.dirProbeOp (s : State) (w : Who) (h : Nat) : State :=
  s.csGuard w (R.DIR_PROBE_DATA h) 8 none fun s =>
    s.whoReply w 0 (s.dirProbe h)

def execDirProbeData (who : Sender) (h : Hub) (s : State) : Out := .next (s.dirProbeOp who.who h.val)

end Sys2Proof.Machine
end

