-- ==== Sys2Proof/Machine/Cores.lean ====
section
/-! DEFINITION. The commands of chapter 04 on core states, checked retirement, twin inputs, counters and interrupts; the twin
compare, which performs accesses, stands in Machine/Twin.lean. -/

namespace Sys2Proof.Machine

/-! ## Checked retirement (R87, R88) -/

/-- Steps 1 to 5 of R88. -/
def State.retireFail (s : State) (c : Nat) (bad : List Nat) : State :=
  (((s.dropCore c).purgeCore c bad).record E.CORE_RETIRE_FAIL 0 c [s.corePart c]).coreDown c 1

/-- A mismatch at the checker of a core that runs: a retry, which discards the reads begun since the checkpoint, or the core's failure where
the third retry mismatches too. -/
def State.checkerOp (s : State) (c : Nat) (fresh : Bool) (bad : List Nat) : State :=
  if s.coreState c != 2 then s
  else
    let n := if fresh then 0 else (s.coreH c).retries
    if 3 ≤ n then s.retireFail c bad
    else ((s.dropLoads c).updCoreH c fun h => { h with retries := n + 1, flag := true }).incF (R.CORE_RETRY_CNT c) F.CORE_RETRY_CNT_RETRIES

def execCheckerMismatch (c : Core) (freshCheckpoint : Bool) (badLines : List Nat) (s : State) : Out :=
  .next (s.checkerOp c.val freshCheckpoint badLines)

/-! ## CORE_CTL (R89, R102) -/

/-- The cores that a write to core c's CORE_CTL acts on: in a twin partition both members; none while the lower member
whose block it is is FENCED. -/
def State.ctlCores (s : State) (c : Nat) : List Nat :=
  if !s.isTwin (s.corePart c) then [c]
  else if s.coreState c = 3 then [] else [c % 120, c % 120 + 120]

/-- GO; it is ignored while the partition is fenced (R421). -/
def State.goCore (s : State) (c : Nat) : State :=
  let pc := s.f (R.CORE_START_PC c) F.CORE_START_PC_PC * 4
  if s.partFenced (s.corePart c) then s
  else each ((s.ctlCores c).filter fun k => s.coreState k = 1) (fun s k => s.enterRun k pc) s

def State.stopCore (s : State) (c : Nat) : State := each (s.ctlCores c) (fun s k => s.haltOne k) s

/-- A write to CORE_CTL. -/
def State.coreCtlOp (s : State) (w : Who) (c : Nat) (v : Word) : State :=
  s.csGuard w (R.CORE_CTL c) 8 (some v) fun s =>
    if s.isTwin (s.corePart c) && 120 ≤ c && s.coreState (c - 120) != 3 then s.csFail w E.TWIN_UPPER (1, dieOf c) (R.CORE_CTL c)
    else
      let run := s.coreState c = 2
      let s' := if !run && F.CORE_CTL_GO.get v = 1 then s.goCore c
        else if run && F.CORE_CTL_STOP.get v = 1 then s.stopCore c else s
      s'.whoReply w 0

def execCoreGo (who : Sender) (c : Core) (s : State) : Out := .next (s.coreCtlOp who.who c.val 1)

def execCoreStop (who : Sender) (c : Core) (s : State) : Out := .next (s.coreCtlOp who.who c.val 2)

/-! ## Performance counters (R105) -/

/-- A counter counts: it is enabled, at some level, for an event of R105. -/
def State.pmuRuns (s : State) (c n : Nat) : Bool :=
  let r := R.PMU_CTL c n
  s.f r F.PMU_CTL_EN = 1 && (s.f r F.PMU_CTL_USER = 1 || s.f r F.PMU_CTL_SUPER = 1) && 1 ≤ s.f r F.PMU_CTL_EVENT && s.f r F.PMU_CTL_EVENT ≤ 0x18

/-- A counter that runs wraps from its maximum to 0. -/
def execPmuOverflow (c : Core) (n : Fin 8) (s : State) : Out :=
  .next (when (s.pmuRuns c.val n.val)
    (fun s => (s.setF (R.PMU_CNT c.val n.val) F.PMU_CNT_COUNT 0).pmuWrap c.val n.val) s)

/-! ## Twin inputs (R94) -/

/-- The input with the lower delivery count; of equal ones the earlier stamped. -/
def TwinInput.first (b : Option TwinInput) (i : TwinInput) : Option TwinInput :=
  match b with
  | none => some i
  | some j => if i.d < j.d then some i else some j

/-- The first input that a member has still to apply: that of the lowest D, in the order they were stamped (R94). -/
def State.firstInput (s : State) (c : Nat) : Option TwinInput :=
  ((s.cores.twins.get (c % 120)).inputs.filter fun i => if c < 120 then i.lower else i.upper).foldl TwinInput.first none

/-- The input is applied by a member; one that both have applied is gone. -/
def markInput (c : Nat) (i : TwinInput) : List TwinInput → List TwinInput
  | [] => []
  | x :: r =>
    if x = i then
      let y := if c < 120 then { x with lower := false } else { x with upper := false }
      if y.lower || y.upper then y :: r else r
    else x :: markInput c i r

/-- A member removes a line that its die gives up; the sectors removed count (R122). -/
def State.inputInval (s : State) (c line : Nat) : State :=
  each [false, true] (fun s i =>
    when (s.l1Find c i line).isSome (fun s => s.incF (R.DC_STAT (dieOf c)) F.DC_STAT_BACK_INVAL) (s.l1Evict c i line)) s

/-- A member takes new bytes into the copies its L1s hold (R93, R94). -/
def State.inputUpdate (s : State) (c line : Nat) (u : Option (Mask × Line)) : State :=
  match u with
  | none => s
  | some (mask, data) => each [false, true] (fun s i =>
      match s.l1Find c i line with
      | some (key, x) => s.onCache fun k => k.setSec i key { x with data := merge x.data data mask }
      | none => s) s

/-- TWIN_INPUT_APPLY: a member whose count has reached the delivery count of its first input applies it. A TLB invalidation is applied only
once the accesses that used a removed entry are performed (R168). -/
def State.inputOp (s : State) (c count : Nat) : State :=
  match s.firstInput c with
  | none => s
  | some i =>
    let op := i.arg % 8
    let va := i.arg / 2 ^ 19 % 2 ^ 52 * 4096
    let asid := i.arg / 8 % 2 ^ 16
    if count < i.d then s
    else if i.kind = 2 && s.tlbiBusy c op va then s.tlbiLocal c op va asid (s.corePart c)
    else
      let s := s.onCores fun k => { k with twins := k.twins.upd (c % 120) fun t => { t with inputs := markInput c i t.inputs } }
      let s := match i.kind with
        | 0 => s.pend c { vec := i.arg, prio := i.prio, rsv := i.rsv }
        | 1 => s.inputInval c i.arg
        | 3 => s.inputUpdate c i.arg i.upd
        | _ => s.tlbiDo c op va asid (s.corePart c) (i.arg / 2 ^ 71 / 256) (i.arg / 2 ^ 71 % 256)
      s.twinRelease

def execTwinInputApply (c : Core) (count : Nat) (s : State) : Out := .next (s.inputOp c.val count)

/-! ## The Carillon (R107 to R114) -/

def elsewhereOf (e : Option (Pkg × Core)) : Option (Nat × Nat) := e.map fun x => (x.1.val, x.2.val)

/-- A delivery of another package's Carillon arrives at a core: one that no longer runs is redirected (R108, R114). -/
def State.farDelivery (s : State) (p v c prio : Nat) (rsv : Bool) (elsewhere : Option (Nat × Nat)) : State :=
  if s.logicalUp p c then s.place p v s.pkg c prio rsv
  else match s.redirect p s.pkg elsewhere with
    | some (q, d) =>
      let (s, cls) := s.classOf p rsv (s.lateTo q d)
      (s.incF (R.CAR_STAT p) F.CAR_STAT_REDIRECT).place p v q d prio cls
    | none => (s.incF (R.CAR_STAT p) F.CAR_STAT_REDIRECT).latch p v

/-- CARILLON_MESSAGE. kind 0: a source message sent by a unit of this package; 1: an inter-processor interrupt of another
package; 2: a delivery of another package. -/
def State.carillonOp (s : State) (p v kind : Nat) (core : Option Nat) (prio : Nat) (rsv late up : Bool)
    (elsewhere : Option (Nat × Nat)) : State :=
  match kind, core with
  | 0, c =>
    if s.sent.contains (.source p v c) then
      (s.take (.source p v c)).carMessage p v c late up (elsewhere.orElse fun _ => s.farRun p (s.carTarget p v c).1)
    else s
  | 1, some c => if v < 32 then s else s.ifHeard fun s => s.carIpi p v c
  | _, some c => if noSource v then s else s.ifHeard fun s => s.farDelivery p v c prio rsv (elsewhere.orElse fun _ => s.farRun p s.pkg)
  | _, none => s

def execCarillonMessage (p : Part) (v : Fin 2048) (kind : Fin 3) (core : Option Core) (prio : Fin 16) (rsv late up : Bool)
    (elsewhere : Option (Pkg × Core)) (s : State) : Out :=
  .next (s.carillonOp p.val v.val kind.val (core.map (·.val)) prio.val rsv late up (elsewhereOf elsewhere))

/-- The LATCHED entries of a partition. -/
def State.latchedOf (s : State) (p : Nat) : List Nat :=
  s.regs.filterMap fun e =>
    if R.CAR_VEC p 0 ≤ e.1 && e.1 ≤ R.CAR_VEC p 2047 && F.CAR_VEC_LATCHED.get e.2 = 1 then some ((e.1 - R.CAR_VEC p 0) / 8) else none

/-- CORE_RUN_NOTICE: core c of package pkg has entered RUN, and every LATCHED entry of its partition is rechecked. -/
def State.runNoticeOp (s : State) (pkg c p : Nat) : State :=
  if pkg = s.pkg then
    if s.sent.contains (.runNotice pkg c p) then
      each (s.latchedOf p) (fun s v => s.carRecheck p v) (s.take (.runNotice pkg c p)) else s
  else each (s.latchedOf p) (fun s v => s.carRecheck p v) (s.setFar pkg c 2)

def execCoreRunNotice (pkg : Pkg) (c : Core) (p : Part) (s : State) : Out := .next (s.fromPkg pkg.val fun s => s.runNoticeOp pkg.val c.val p.val)

/-- INT_ACK: the vector presented moves from pending to active (R110). -/
def State.intAckOp (s : State) (w : Who) (c : Nat) : State :=
  s.csGuard w (R.INT_ACK c) 8 none fun s =>
    let v := s.presented c
    let s := match v with
      | none => s
      | some q => (each (s.sharers c) (fun (s : State) k => s.updCoreH k fun h =>
          { h with pend := h.pend.filter (fun x => x.vec != q.vec), active := h.active ++ [q] }) s) |> each (s.sharers c) fun s k => s.count k 0x17 false
    s.whoReply w 0 (intWord v)

/-- INT_EOI: the highest-priority active vector ends; any other name sets EOI_ERR (R110). -/
def State.intEoiOp (s : State) (w : Who) (c : Nat) (v : Word) : State :=
  s.csGuard w (R.INT_EOI c) 8 (some v) fun s =>
    let n := F.INT_EOI_VECTOR.get v
    let top := (bestVec (s.coreH c).active).map (·.vec)
    (if top = some n then
      each (s.sharers c) (fun (s : State) k => s.updCoreH k fun h => { h with active := h.active.filter fun x => x.vec != n }) s
    else each (s.sharers c) (fun s k => s.setF (R.INT_STAT k) F.INT_STAT_EOI_ERR 1) s).whoReply w 0

/-- INT_IPI (R112). -/
def State.intIpiOp (s : State) (w : Who) (c : Nat) (word : Word) : State :=
  s.csGuard w (R.INT_IPI c) 8 (some word) fun s =>
    let v := F.INT_IPI_VECTOR.get word
    let tgt := F.INT_IPI_TGT_CORE.get word
    let pkg := F.INT_IPI_TGT_PKG.get word
    let p := s.corePart c
    let reject (e : ECode) : State :=
      (each (s.sharers c) (fun s k => s.setF (R.INT_STAT k) F.INT_STAT_IPI_REJECT 1) s).record e 0 c [p] none (intDetail v tgt)
    (if v < 32 then reject E.INT_BAD_VECTOR
     else if 240 ≤ tgt || s.ownerOfCore pkg tgt != p then reject E.INT_XPART
     else if pkg = s.pkg then s.carIpi p v tgt
     else s.send (.vector pkg tgt p v IPI_PRIO false)).whoReply w 0

/-- A core of this package as the one that makes an access. -/
def State.selfWho (s : State) (c : Core) : Who := .core (Fin.ofNat 8 s.pkg) c (Fin.ofNat 16 (s.corePart c.val))

def execIntAck (c : Core) (s : State) : Out := .next (s.intAckOp (s.selfWho c) c.val)

def execIntEoi (c : Core) (v : Fin 2048) (s : State) : Out :=
  .next (s.intEoiOp (s.selfWho c) c.val (BitVec.ofNat 64 v.val))

def execIntIpi (c : Core) (v : Fin 2048) (tgtPkg : Pkg) (tgtCore : Fin 256) (s : State) : Out :=
  .next (s.intIpiOp (s.selfWho c) c.val (BitVec.ofNat 64 (v.val + tgtCore.val * 2 ^ 16 + tgtPkg.val * 2 ^ 24)))

/-- A write to CAR_VEC_v: a LATCHED entry is rechecked, and interrupts held while MASK was 1 are delivered (R108, R112). -/
def State.carVecOp (s : State) (w : Who) (p v : Nat) (x : Word) : State :=
  s.csGuard w (R.CAR_VEC p v) 8 (some x) fun s =>
    let off := R.CAR_VEC p v
    let was := s.f off F.CAR_VEC_MASK
    let s := (s.plainWrite off x (s.whoPart w)).carRecheck p v
    (if was = 1 && s.f off F.CAR_VEC_MASK = 0 then s.releaseHeld p v else s).whoReply w 0

def execCarVecWrite (who : Sender) (p : Part) (v : Fin 2048) (value : Word) (s : State) : Out :=
  .next (s.carVecOp who.who p.val v.val value)

end Sys2Proof.Machine
end

