-- ==== Sys2Proof/Machine/ImageOps.lean ====
section
/-! DEFINITION. The configuration image: its records (R69 to R73), the conditions it must meet (R35, R42, R241, R282, R298, R343,
R345, R350), and one Island's verdict on one copy (R74). -/

namespace Sys2Proof.Machine

/-! ## Records (R70, R71) -/

def pad8 (n : Nat) : Nat := (n + 7) / 8 * 8
def zeros (l : List Byte) (off n : Nat) : Bool := (slice l off n).all (· == 0)
def byteAt (l : List Byte) (i : Nat) : Nat := field l i 1

/-- Image records, by type and value; none where a header, a length or padding is wrong. n bounds their number. -/
def recsOf : Nat → List Byte → Option (List (Nat × List Byte))
  | 0, _ => none
  | n + 1, b =>
    if b.isEmpty then some []
    else
      let len := field b 4 4
      if b.length < 8 + pad8 len || field b 2 2 != 1 || !zeros b (8 + len) (pad8 len - len) then none
      else (recsOf n (b.drop (8 + pad8 len))).map fun r => (field b 0 2, slice b 8 len) :: r

/-- n entries of k bytes. -/
def cut : Nat → Nat → List Byte → List (List Byte)
  | 0, _, _ => []
  | n + 1, k, b => b.take k :: cut n k (b.drop k)

def recVal (recs : List (Nat × List Byte)) (t : Nat) : List Byte := ((recs.find? fun r => r.1 = t).map (·.2)).getD []
def partVals (recs : List (Nat × List Byte)) : List (List Byte) := (recs.filter fun r => r.1 = 4).map (·.2)

/-- Numbers rise strictly. -/
def rising : List Nat → Bool
  | a :: b :: r => decide (a < b) && rising (b :: r)
  | _ => true

def distinct {α : Type} [DecidableEq α] (l : List α) : Bool := l.eraseDups.length = l.length

/-- The entries of CRYPTO_KEYS: header and blob; none where they do not fill the value, or padding or reserved bytes are not 0. -/
def keyEntries : Nat → List Byte → Option (List (List Byte × List Byte))
  | 0, b => if b.isEmpty then some [] else none
  | n + 1, b =>
    let len := field b 4 2
    if b.length < 8 + pad8 len || !zeros b 6 2 || !zeros b (8 + len) (pad8 len - len) then none
    else (keyEntries n (b.drop (8 + pad8 len))).map fun r => (b.take 8, slice b 8 len) :: r

/-- The entries of a record whose value is an 8-byte head and n entries of k bytes. -/
def entriesOf (v : List Byte) (n k : Nat) : List (List Byte) := cut n k (v.drop 8)

def topoEntries (recs : List (Nat × List Byte)) : List (List Byte) := let v := recVal recs 3; entriesOf v (byteAt v 0) 24
def ownerEntries (recs : List (Nat × List Byte)) : List (List Byte) := let v := recVal recs 5; entriesOf v (byteAt v 0) 248
def groupEntries (recs : List (Nat × List Byte)) : List (List Byte) := let v := recVal recs 6; entriesOf v (byteAt v 0) 16
def regionEntries (recs : List (Nat × List Byte)) : List (List Byte) :=
  let v := recVal recs 6; cut (field v 2 2) 24 (v.drop (8 + 16 * byteAt v 0))
def portEntries (recs : List (Nat × List Byte)) : List (List Byte) := let v := recVal recs 9; entriesOf v (byteAt v 0) 16
def windowEntries (recs : List (Nat × List Byte)) : List (List Byte) :=
  let v := recVal recs 9; cut (field v 2 2) 24 (v.drop (8 + 16 * byteAt v 0))
def officerEntries (recs : List (Nat × List Byte)) : List (List Byte) := let v := recVal recs 0xC; entriesOf v (byteAt v 0) 104
def sigEntries (recs : List (Nat × List Byte)) : List (List Byte) := let v := recVal recs 0xE; entriesOf v (field v 0 2) 16

def moduleLenOk (v : List Byte) : Bool := v.length = 32 + field v 4 4 + field v 8 4 && zeros v 2 2 && zeros v 24 8

/-- R71: the record types in order, lengths, reserved bytes. -/
def formatOk (recs : List (Nat × List Byte)) : Bool :=
  let v := recVal recs
  let ps := partVals recs
  recs.map (·.1) = [1, 2, 3] ++ List.replicate ps.length 4 ++ [5, 6, 7, 8, 9, 0xA, 0xB, 0xC, 0xD, 0xE, 0xF, 0xFF] &&
  ps.length ≤ 15 && rising (ps.map fun p => byteAt p 0) &&
  (v 1).length = 64 && zeros (v 1) 37 3 && zeros (v 1) 56 8 &&
  (v 2).length = 8 && zeros (v 2) 2 6 &&
  (v 3).length = 8 + 24 * byteAt (v 3) 0 && zeros (v 3) 1 7 && (topoEntries recs).all (fun e => zeros e 2 2 && zeros e 6 2) &&
  ps.all (fun p => p.length = 64 + field p 12 4 && zeros p 3 1 && zeros p 10 2 && zeros p 40 24) &&
  (v 5).length = 8 + 248 * byteAt (v 5) 0 && zeros (v 5) 1 7 && (ownerEntries recs).all (fun e => zeros e 1 7) &&
  (v 6).length = 8 + 16 * byteAt (v 6) 0 + 24 * field (v 6) 2 2 && zeros (v 6) 1 1 && zeros (v 6) 4 4 &&
  (groupEntries recs).all (fun e => zeros e 1 3 && zeros e 6 2 && zeros e 13 3) && (regionEntries recs).all (fun e => zeros e 3 5) &&
  moduleLenOk (v 7) && moduleLenOk (v 8) &&
  (v 9).length = 8 + 16 * byteAt (v 9) 0 + 24 * field (v 9) 2 2 && zeros (v 9) 1 1 && zeros (v 9) 4 4 &&
  (portEntries recs).all (fun e => zeros e 5 3 && zeros e 12 4) && (windowEntries recs).all (fun e => zeros e 4 4) &&
  (v 0xA).length = 64 && (cut 8 8 (v 0xA)).all (fun e => zeros e 6 2) &&
  (v 0xB).length = 24 && zeros (v 0xB) 2 2 && zeros (v 0xB) 20 4 &&
  (v 0xC).length = 8 + 104 * byteAt (v 0xC) 0 && zeros (v 0xC) 1 7 && (officerEntries recs).all (fun e => zeros e 2 6) &&
  8 ≤ (v 0xD).length && zeros (v 0xD) 2 6 && (keyEntries (field (v 0xD) 0 2) ((v 0xD).drop 8)).isSome &&
  (v 0xE).length = 8 + 16 * field (v 0xE) 0 2 && zeros (v 0xE) 2 6 && (sigEntries recs).all (fun e => zeros e 2 6) &&
  (v 0xF).length = 8 && zeros (v 0xF) 3 5 && (v 0xFF).length = 192

/-! ## The parsed image (R72) -/

def moduleOf (v : List Byte) : ModuleRec :=
  { codeLen := field v 4 4, dataLen := field v 8 4, fullEntry := field v 12 4, resumeEntry := field v 16 4,
    timeLimit := field v 20 4, body := v.drop 32 }

def bytesNat (l : List Byte) : List Nat := l.map (·.toNat)

def topoEntry (e : List Byte) : TopoEntry :=
  { pkg := byteAt e 0, board := byteAt e 1, widthMin := field e 4 2, peer := bytesNat (slice e 8 8), route := bytesNat (slice e 16 8) }

def partEntry (v : List Byte) : PartRec :=
  { id := byteAt v 0, flags := byteAt v 1, rings := byteAt v 2, startDelay := field v 4 4, bootCore := field v 8 2,
    loadPa := field v 16 8, entryPa := field v 24 8, memBw := field v 32 2, inj := field v 34 2, crypto := field v 36 4,
    head := v.take 64, payload := v.drop 64 }

def regionEntry (e : List Byte) : RegionRec :=
  { pkg := byteAt e 0, part := byteAt e 1, strength := byteAt e 2, base := field e 8 8, size := field e 16 8, raw := e }

def groupEntry (e : List Byte) : GroupRec := { pkg := byteAt e 0, order := field e 4 2, dimms := field e 8 4, carve := byteAt e 12 }

def portEntry (e : List Byte) : PortRec :=
  { pkg := byteAt e 0, port := byteAt e 1, mode := byteAt e 2, split := byteAt e 3, maxGen := byteAt e 4,
    segOwner := bytesNat (slice e 8 4) }

def windowEntry (e : List Byte) : WindowRec :=
  { pkg := byteAt e 0, port := byteAt e 1, seg := byteAt e 2, part := byteAt e 3, base := field e 8 8, size := field e 16 8, raw := e }

def officerEntry (e : List Byte) : Officer := { id := byteAt e 0, role := byteAt e 1, key := slice e 8 96 }

def keyRec (e : List Byte × List Byte) : KeyRec :=
  { pkg := byteAt e.1 0, part := byteAt e.1 1, slot := field e.1 2 2, blob := e.2, raw := e.1 }

def sigRec (e : List Byte) : SigRec := { block := byteAt e 0, test := byteAt e 1, sig := field e 8 8 }

/-- Bytes before the SIGNATURE record, which takes 200 (R60). -/
def imageBody (raw : List Byte) : List Byte := raw.take (raw.length - 200)

def imageOf (raw : List Byte) (recs : List (Nat × List Byte)) : Image :=
  let v := recVal recs
  { rollback := field (v 1) 12 4, imageId := field (v 1) 16 8, systemId := field (v 1) 24 8, pkgMask := byteAt (v 1) 36,
    n := field (v 2) 0 2, topo := (topoEntries recs).map topoEntry, parts := (partVals recs).map partEntry,
    coreOwners := (ownerEntries recs).map (fun e => (byteAt e 0, bytesNat (slice e 8 240))),
    groups := (groupEntries recs).map groupEntry, regions := (regionEntries recs).map regionEntry,
    memTrain := moduleOf (v 7), linkTrain := moduleOf (v 8),
    ports := (portEntries recs).map portEntry, windows := (windowEntries recs).map windowEntry,
    perf := (cut 8 8 (v 0xA)).map (fun e => (field e 0 2, field e 2 2, field e 4 2)),
    capW := field (v 0xB) 0 2, plCeil := bytesNat (slice (v 0xB) 4 16),
    officers := (officerEntries recs).map officerEntry,
    keys := ((keyEntries (field (v 0xD) 0 2) ((v 0xD).drop 8)).getD []).map keyRec, sigs := (sigEntries recs).map sigRec,
    mgmtAddr := byteAt (v 0xF) 0, wakeAddr := byteAt (v 0xF) 1, pec := byteAt (v 0xF) 2 % 2 = 1,
    body := imageBody raw, pubkey := (v 0xFF).take 96, sig := (v 0xFF).drop 96 }

/-- The smallest legal image: no PARTITION, one package, two officers, and no entry where a record may hold none. -/
def minImage : Nat := 1096

/-- R69: IMAGE_LEN is one that the hub reads on to. -/
def imageLenOk (len flashSize : Nat) : Bool := minImage ≤ len && len ≤ 2 ^ 23 && len ≤ flashSize

/-- A copy's records, where it meets R71. -/
def imageRecs (raw : List Byte) : Option (List (Nat × List Byte)) :=
  match recsOf 40 raw with
  | some recs => if formatOk recs then some recs else none
  | none => none

/-! ## Value conditions (R73) -/

def between (a lo hi : Nat) : Bool := lo ≤ a && a ≤ hi
def strengthOk (n : Nat) : Bool := [0, 1, 2, 4, 8].contains n

/-- Spans given by base and size do not overlap. -/
def disjoint : List (Nat × Nat) → Bool
  | [] => true
  | (b, n) :: r => r.all (fun e => b + n ≤ e.1 || e.1 + e.2 ≤ b) && disjoint r

def Image.topoFor (i : Image) (p : Nat) : Option TopoEntry := i.topo.find? fun e => e.pkg = p
def Image.part (i : Image) (p : Nat) : Option PartRec := i.parts.find? fun r => r.id = p
/-- The partition has a PARTITION record, or is 0. -/
def Image.partOk (i : Image) (p : Nat) : Bool := p = 0 || (i.part p).isSome
def Image.ownersOf (i : Image) (pkg : Nat) : List Nat := ((i.coreOwners.find? fun e => e.1 = pkg).map (·.2)).getD []
def PartRec.twin (r : PartRec) : Bool := r.flags.testBit 0

/-- Where a CONNECTED port leads. -/
def TopoEntry.peerOf (e : TopoEntry) (n : Nat) : Option (Nat × Nat) :=
  let b := e.peer.getD n 0
  if b.testBit 7 then some (b / 16 % 8, b % 8) else none

def Image.linked (i : Image) (p d : Nat) : Bool :=
  match i.topoFor p with
  | some e => (List.range 8).any fun n => (e.peerOf n).map (·.1) = some d
  | none => false

/-- R282: an egress port leads to d at once or by one package more. -/
def Image.leads (i : Image) (e : TopoEntry) (port d : Nat) : Bool :=
  match e.peerOf port with
  | some (m, _) => m = d || i.linked m d
  | none => false

def Image.topologyOk (i : Image) (pkg : Nat) : Bool :=
  between i.topo.length 1 8 && rising (i.topo.map (·.pkg)) && (i.topoFor pkg).isSome &&
  distinct (i.topo.map fun e => (e.board, e.pkg % 4)) &&
  i.topo.all fun e =>
    e.pkg ≤ 7 && e.board ≤ 1 && (List.range 8).all (fun k => e.widthMin / 4 ^ k % 4 != 3) &&
    (e.peer.all fun b => !b.testBit 3) &&
    ((List.range 8).all fun k => match e.peerOf k with
      | some (q, j) => (i.topoFor q).any fun f => f.peerOf j = some (e.pkg, k)
      | none => true) &&
    (List.range 8).all fun d =>
      let b := e.route.getD d 0
      if d = e.pkg || (i.topoFor d).isNone then b = 0
      else b.testBit 7 && i.leads e (b % 8) d && (!b.testBit 6 || i.leads e (b / 8 % 8) d)

/-- A range lies in memory of a partition. n bounds the regions it runs through. -/
def Image.covered (i : Image) (p : Nat) : Nat → Nat → Nat → Bool
  | 0, base, stop => stop ≤ base
  | n + 1, base, stop =>
    stop ≤ base || match i.regions.find? fun r => r.part = p && r.base ≤ base && base < r.base + r.size with
      | some r => i.covered p n (r.base + r.size) stop
      | none => false

def Image.partitionsOk (i : Image) : Bool :=
  (i.parts.all fun r =>
    between r.id 1 15 && r.flags < 16 && r.rings ≤ 4 && 8 ≤ r.startDelay && r.bootCore < 2048 && r.bootCore % 256 < 240 &&
    (!r.twin || r.bootCore % 256 < 120) && (i.topoFor (r.bootCore / 256)).isSome &&
    (i.ownersOf (r.bootCore / 256)).getD (r.bootCore % 256) 0 = r.id && between r.payload.length 1 (2 ^ 18) &&
    r.loadPa % 4096 = 0 && r.loadPa ≤ r.entryPa && r.entryPa < r.loadPa + r.payload.length &&
    i.covered r.id i.regions.length r.loadPa (r.loadPa + r.payload.length)) &&
  sumOf (i.parts.map (·.memBw)) ≤ 1024 && sumOf (i.parts.map (·.inj)) ≤ 1024 && sumOf (i.parts.map (·.crypto)) ≤ 24 * i.n / 100 &&
  countOf i.parts (fun r => r.flags.testBit 3) ≤ 8

def Image.coresOk (i : Image) (pkg : Nat) : Bool :=
  distinct (i.coreOwners.map (·.1)) && (i.coreOwners.any fun e => e.1 = pkg) &&
  i.coreOwners.all fun e => e.2.zipIdx.all fun (o, c) =>
    i.partOk o && (!(i.part o).any PartRec.twin || e.2.getD (if c < 120 then c + 120 else c - 120) 0 = o)

def GroupRec.orderOf (g : GroupRec) (k : Nat) : Nat := g.order / 16 ^ k % 16
def GroupRec.dimmsOf (g : GroupRec) (c : Nat) : Nat := g.dimms / 4 ^ c % 4
def Image.group (i : Image) (pkg : Nat) : Option GroupRec := i.groups.find? fun g => g.pkg = pkg

/-- A region lies within the DRAM window of its package, which is one of 0 to 7 (R30). -/
def inWindow (pkg base size : Nat) : Bool := pkg ≤ 7 && pkg * 2 ^ 43 ≤ base && base + size ≤ (pkg + 1) * 2 ^ 43

def Image.memoryOk (i : Image) (pkg : Nat) : Bool :=
  distinct (i.groups.map (·.pkg)) && (i.group pkg).isSome &&
  (i.groups.all fun g =>
    strengthOk g.carve && ((List.range 16).all fun c => g.dimmsOf c ≤ 2) &&
    (List.range 4).all fun k =>
      g.orderOf k ≤ 3 && (g.orderOf k = 3 || (List.range 4).all fun j => g.dimmsOf (4 * k + j) = g.dimmsOf (4 * k))) &&
  (i.regions.all fun r =>
    r.part != 0 && i.partOk r.part && strengthOk r.strength && ((i.group r.pkg).any fun g => r.strength ≤ g.carve) &&
    r.base % 2 ^ 21 = 0 && r.size % 2 ^ 21 = 0 && r.size != 0 && inWindow r.pkg r.base r.size) &&
  (List.range 8).all (fun p => countOf i.regions (fun r => r.pkg = p) ≤ 64) && disjoint (i.regions.map fun r => (r.base, r.size))

/-- Segments that a SPLIT creates (R349). -/
def segsOf (split : Nat) : Nat := 2 ^ split

def isPow2 (n : Nat) : Bool := n != 0 && n &&& (n - 1) = 0

/-- R35 for one window. -/
def windowOk (w : WindowRec) : Bool :=
  isPow2 w.size && 2 ^ 20 ≤ w.size && w.base % w.size = 0 && 0x1000000000000 ≤ w.base && w.base + w.size ≤ 0xFF00000000000

def Image.port (i : Image) (pkg n : Nat) : Option PortRec := i.ports.find? fun r => r.pkg = pkg && r.port = n

def Image.pcieOk (i : Image) : Bool :=
  distinct (i.ports.map fun r => (r.pkg, r.port)) &&
  (i.ports.all fun r =>
    r.port ≤ 7 && r.mode ≤ 2 && r.split ≤ 2 && between r.maxGen 1 6 &&
    (r.mode != 2 || ((r.port = 3 || r.port = 7) && r.split = 0 && r.segOwner.all (· = 0))) &&
    r.segOwner.zipIdx.all fun (o, k) => o = 0 || (k < segsOf r.split && i.partOk o)) &&
  (i.windows.all fun w => windowOk w && i.partOk w.part && match i.port w.pkg w.port with
    | some r => r.mode = 1 && w.seg < segsOf r.split && r.segOwner.getD w.seg 0 = w.part
    | none => false) &&
  disjoint (i.windows.map fun w => (w.base, w.size))

/-- Each element and its successor satisfy f. -/
def chain {α : Type} (f : α → α → Bool) : List α → Bool
  | a :: b :: r => f a b && chain f (b :: r)
  | _ => true

def Image.perfOk (i : Image) (grade28 : Bool) : Bool :=
  chain (fun a b => a.1 < b.1 && a.2.1 ≤ b.2.1 && a.2.2 ≤ b.2.2) i.perf &&
  (i.perf.getD 7 (0, 0, 0)).1 ≤ (if grade28 then 2800 else 3200) &&
  i.perf.all fun e => between e.2.1 600 950 && between e.2.2 650 900

def Image.officersOk (i : Image) : Bool :=
  between i.officers.length 2 8 && distinct (i.officers.map (·.id)) && (i.officers.all fun o => o.id ≤ 7 && between o.role 1 2) &&
  (i.officers.any fun o => o.role = 1) && i.officers.any fun o => o.role = 2

def Image.keysOk (i : Image) : Bool :=
  distinct (i.keys.map fun k => (k.pkg, k.part, k.slot)) &&
  i.keys.all fun k => between k.part 1 15 && i.partOk k.part && k.slot < 1024 && between k.blob.length 1 4096

def busAddrOk (a : Nat) : Bool := between a 0x08 0x70

def Image.mgmtOk (i : Image) : Bool :=
  busAddrOk i.mgmtAddr && busAddrOk i.wakeAddr && (i.mgmtAddr + 8 ≤ i.wakeAddr || i.wakeAddr + 8 ≤ i.mgmtAddr)

def moduleOk (v : List Byte) (m : ModuleRec) : Bool := field v 0 2 = 1 && m.codeLen + m.dataLen ≤ 384 * 1024 && 1 ≤ m.timeLimit

/-- R73 for the image, in package pkg. -/
def Image.valueOk (i : Image) (recs : List (Nat × List Byte)) (pkg : Nat) (grade28 : Bool) : Bool :=
  (recVal recs 1).take 8 = ("ZL240IMG".toList.map fun c => BitVec.ofNat 8 c.toNat) && field (recVal recs 1) 8 4 = 1 &&
  i.rollback ≤ 255 && between i.n 50 400 && i.topologyOk pkg && i.partitionsOk && i.coresOk pkg && i.memoryOk pkg &&
  moduleOk (recVal recs 7) i.memTrain && moduleOk (recVal recs 8) i.linkTrain && i.pcieOk && i.perfOk grade28 &&
  i.capW ≤ 700 && i.plCeil.all (· ≤ 7) && i.officersOk && i.keysOk &&
  distinct (i.sigs.map fun e => (e.block, e.test)) && (i.sigs.all fun e => e.block ≤ 13) &&
  i.mgmtOk && byteAt (recVal recs 0xF) 2 < 2

/-! ## Verdict on a copy (R74) -/

def IMG_FLASH : Nat := 1
def IMG_FORMAT : Nat := 2
def IMG_VALUE : Nat := 3
def IMG_SIG : Nat := 4
def IMG_ROLLBACK : Nat := 5
def IMG_NOT_FOR_PKG : Nat := 6
def IMG_DISAGREE : Nat := 7

/-- The fault of a copy's bytes as LOCK_CAUSE codes it, and the image; fault 0 means that it passes. -/
def verifyImage (raw : List Byte) (pkg fused : Nat) : Nat × Image :=
  match imageRecs raw with
  | none => (IMG_FORMAT, default)
  | some recs =>
    let i := imageOf raw recs
    if Config.sha384 i.pubkey != Config.signerHash || !Config.ecdsaOk i.pubkey (Config.sha384 i.body) i.sig then (IMG_SIG, i)
    else if !i.pkgMask.testBit pkg then (IMG_NOT_FOR_PKG, i)
    else if !i.valueOk recs pkg Config.grade28 then (IMG_VALUE, i)
    else if i.rollback < fused then (IMG_ROLLBACK, i)
    else (0, i)

end Sys2Proof.Machine
end

