-- ==== Sys2Proof/Machine/PealOps.lean ====
section
/-! DEFINITION. Peals: requests, acceptance and arming by the master (R52 to R57), what PEAL_LAST shows, and the triggers of
owner-ordered mode that ask for Peals of kind 1 (R223, R224, R226). -/

namespace Sys2Proof.Machine

/-! ## BEAT_STAT (R64, R107) -/

/-- The partitions granted access to the package and beat block. -/
def State.beatParts (s : State) : List Nat :=
  parts15.filter fun p => s.hasSystem p || s.f (R.PART_INFO p) F.PART_INFO_BEAT = 1

/-- A bit of BEAT_STAT is set, and vector 4 is raised. -/
def State.beatEvent (s : State) (fl : Fld) : State := (s.setF R.BEAT_STAT fl 1).raiseAll s.beatParts 4

/-! ## PEAL_LAST -/

def PEAL_APPLIED : Nat := 1
def PEAL_CANCELLED : Nat := 2
def PEAL_TOO_LATE : Nat := 3
def PEAL_TOO_FAR : Nat := 4
def PEAL_BUSY : Nat := 5
def PEAL_NONE : Nat := 6

/-- PEAL_LAST takes an outcome; cause is the lowest missing participant, package and unit. -/
def State.pealLast (s : State) (res kind seq target : Nat) (cause : Nat × Nat := (0, 0)) : State :=
  (s.setReg R.PEAL_LAST (BitVec.ofNat 64
    (res + kind % 16 * 2 ^ 4 + seq % 2 ^ 16 * 2 ^ 8 + cause.1 % 8 * 2 ^ 24 + cause.2 % 32 * 2 ^ 27 + target % 2 ^ 32 * 2 ^ 32))).beatEvent
    F.BEAT_STAT_PEAL_DONE

/-! ## Participants (R54) -/

/-- Die d takes part: it is neither fenced nor off. -/
def State.dieIn (s : State) (d : Nat) : Bool := !s.dieFenced d && !s.dieOff d

/-- The participants of this package: its hubs and dies, or the always-on domain in Rest. -/
def State.pealUnits (s : State) : List Nat :=
  if s.f R.REST_STAT F.REST_STAT_STATE = 3 then [14] else allDies.filter s.dieIn ++ [12, 13]

/-- The units a package's arming message goes to first. -/
def State.pealHubs (s : State) : List Nat := s.pealUnits.filter fun u => 12 ≤ u

/-- The dies of a Peal that hub h forwards to. -/
def State.hubDies (s : State) (q : PealSlot) (h : Nat) : List Nat := (allDies.filter s.dieIn).filter fun d => q.units.contains d && hubOfDie d = h

/-- Unit u takes part in a Peal, and it is neither fenced nor off. -/
def State.takesPart (s : State) (q : PealSlot) (u : Nat) : Bool := q.units.contains u && (12 ≤ u || s.dieIn u)

/-! ## Requests and arming (R52, R53, R57 step 1) -/

def State.anyPeal (s : State) : Bool := s.pealSlots != []
def State.joinArmed (s : State) : Bool := s.pealSlots.any fun e => e.2.change.kind = 2
def State.freePeal (s : State) : Option Nat := (List.range 4).find? fun i => !(s.beat.slots.get i).valid

/-- PEAL_INFO.TICKET. -/
def changeTicket (c : Change) : Nat := if c.kind = 0 then field c.body 8 4 else 0

/-- The packages whose units take part in a change: the admitted ones, and the one that joins by it. -/
def State.changePkgs (s : State) (c : Change) : List Nat :=
  let pkgs := addOnce s.admitted s.pkg
  if c.kind = 2 then addOnce pkgs (c.arg % 8) else pkgs

/-- The slot of a Peal just armed: its participants are those of this moment (R54), and none has acknowledged. -/
def State.newPeal (s : State) (seq target : Nat) (c : Change) : PealSlot :=
  { valid := true, target := target, seq := seq, ticket := changeTicket c, change := c, units := s.pealUnits,
    waiting := s.pealUnits, waitPkgs := s.changePkgs c, missing := none, decided := none, verdicts := [] }

/-- The next sequence number in order that no Peal in flight has (R52). -/
def State.freshSeq (s : State) : Nat :=
  let cand := (List.range 5).map fun k => (s.beat.nextSeq + k) % 65535 + 1
  (cand.find? fun n => !s.pealSlots.any fun e => e.2.seq = n).getD (s.beat.nextSeq % 65535 + 1)

/-- The master arms a Peal in a free slot and sends the arming message to every package. -/
def State.armPeal (s : State) (i target : Nat) (c : Change) : State :=
  let seq := s.freshSeq
  let pkgs := s.changePkgs c
  let p := s.newPeal seq target c
  let s := (s.setSlot i p).onBeat fun b => { b with nextSeq := seq }
  each pkgs (fun s q =>
    if q = s.pkg then each s.pealHubs (fun s u => s.send (.pealArm q u seq target c)) s
    else (s.send (.pealArm q 12 seq target c)).send (.pealArm q 13 seq target c)) s

/-- The code with which the master refuses a request, if it does (R53, R55). -/
def State.pealRefusal (s : State) (target : Nat) (c : Change) : Option Nat :=
  if target < s.now + 4 then some PEAL_TOO_LATE
  else if s.now + 65536 < target then some PEAL_TOO_FAR
  else if s.freePeal.isNone || (s.joinArmed && c.kind != 2) || (s.anyPeal && c.kind = 2) then some PEAL_BUSY
  else none

/-- The package of a planned leave that a change of kind 1 begins. -/
def leaving (c : Change) : Option Nat := if c.kind = 1 && c.arg % 2 = 1 && 0 < c.arg / 32 % 32 then some (c.arg / 32 % 32 - 1) else none

/-- A source's request has settled without a Peal. -/
def State.reqOver (s : State) (c : Change) : State :=
  if c.kind = 1 && (leaving c).isNone then s.onHome fun q => { q with modeReq := false } else s

/-- The earliest legal target beat of a request made now. -/
def State.earliest (s : State) : Nat := s.now + 4

/-- Tell a source that its request is refused: PEAL_LAST of its own package. -/
def State.pealRefuse (s : State) (src code target : Nat) (c : Change) : State :=
  if src = s.pkg then (s.pealLast code c.kind 0 target).reqOver c else s.send (.peal src c.kind code 5 false)

/-- The master accepts a request or refuses it. -/
def State.tryPeal (s : State) (src target : Nat) (c : Change) : State :=
  match s.pealRefusal target c, s.freePeal with
  | some code, _ => s.pealRefuse src code target c
  | none, some i => s.armPeal i target c
  | none, none => s

/-- A partition other than 0 owns a core, region, segment or Service Endpoint function of a package (R290). -/
def State.ownsIn (s : State) (pkg p : Nat) : Bool :=
  if pkg = s.pkg then
    allCores.any (fun c => s.corePart c = p) || s.ownsRegion p || (List.range 32).any (fun k => s.owner k = p) ||
      [3, 7].any fun n => (List.range 8).any fun f => s.fnPart n f = p
  else
    (s.boot.cfg.coreOwners.any fun e => e.1 = pkg && e.2.contains p) || (s.boot.cfg.regions.any fun r => r.pkg = pkg && r.part = p) ||
      s.boot.cfg.ports.any fun r => r.pkg = pkg && (r.segOwner.contains p ||
        (r.mode = 2 && s.f (R.PART_INFO p) F.PART_INFO_SEP_GRANT = 1))

/-- A return from the mode of every admitted package, as one package reports it. -/
def isReport (c : Change) : Bool := c.kind = 1 && c.arg % 32 = 0

/-- The master arms the route change of a reported port at the earliest legal beat, as soon as a Peal can be armed; a cancelled one is armed again
(R284). -/
def State.portArm (s : State) : State :=
  match s.links.portReports.find? fun a => !s.pealSlots.any fun e => e.2.change.kind = 4 && e.2.change.arg = a with
  | none => s
  | some a =>
    let c : Change := { kind := 4, body := [], arg := a }
    match s.freePeal with
    | some i => if s.isMaster && (s.pealRefusal s.earliest c).isNone then s.armPeal i s.earliest c else s
    | none => s

/-- A failed port is reported to this package as the master. -/
def State.portReport (s : State) (a : Nat) : State := (s.onLinks fun k => { k with portReports := addOnce k.portReports a }).portArm

/-- A request reaches the master from a package. A failed port's route change is armed when it can be, at the master's own target. A planned leave is accepted only where R290 allows it, and
none while another runs: the spec is silent on a second one, and it is refused with LEAVE_BUSY (DESIGN CHOICE, log entry 94); a return for every
package waits for the reports of them all; a master in Rest refuses (R398). -/
def State.acceptPeal (s : State) (src target : Nat) (c : Change) : State :=
  if c.kind = 4 then s.portReport c.arg
  else if s.f R.REST_STAT F.REST_STAT_STATE = 3 then s.pealRefuse src PEAL_BUSY target c
  else match leaving c with
  | some q =>
    if parts15.any (s.ownsIn q) || s.links.leave.isSome then
      let s := s.record E.LEAVE_BUSY 14 q
      if src = s.pkg then s else s.send (.peal src 1 0 5 false)
    else
      let s := s.tryPeal src target c
      if s.pealSlots.any fun e => leaving e.2.change = some q then s.onLinks fun k => { k with leave := some (q, 1, 0) } else s
  | none =>
    if isReport c then
      let s := s.onHome fun q => { q with reports := addOnce q.reports src }
      if s.admitted.all s.home.reports.contains then
        (s.onHome fun q => { q with reports := [] }).tryPeal s.pkg s.earliest c
      else s
    else s.tryPeal src target c

/-- A unit of this package requests a Peal (R52). -/
def State.requestPeal (s : State) (target : Nat) (c : Change) : State :=
  if s.isMaster then s.acceptPeal s.pkg target c else s.send (.pealReq s.master target c)

/-- This package reports its failed port to the master, and again to a new one (R49, R284). -/
def State.reportPort (s : State) (a : Nat) : State :=
  (s.onLinks fun k => { k with portReports := addOnce k.portReports a }).requestPeal s.earliest { kind := 4, body := [], arg := a }

/-- Another package's master has refused a request of this one: this package's PEAL_LAST takes it (R53). -/
def State.refusedIn (s : State) (code target : Nat) (c : Change) : State :=
  let m : Msg := .pealReq s.master target c
  if !s.sent.contains m then s
  else (when (code != 0) (fun s => s.pealLast code c.kind 0 target) (s.take m)).reqOver c

/-! ## Triggers of owner-ordered mode (R223, R224) -/

def TRG_START : Nat := 0
def TRG_ASSAY : Nat := 1
def TRG_DIE_LINK : Nat := 2
def TRG_BRIDGE : Nat := 3
def TRG_PORT : Nat := 4
def TRG_JOIN : Nat := 5
def TRG_LEAVE : Nat := 6

def State.triggers (s : State) (h : Nat) : Nat := s.f (R.HOME_MODE h) F.HOME_MODE_TRIGGERS
def State.setTrig (s : State) (b : Nat) (on : Bool) : State :=
  each [0, 1] (fun s h => s.setF (R.HOME_MODE h) F.HOME_MODE_TRIGGERS
    (if on then s.triggers h ||| 2 ^ b else clearBit (s.triggers h) b)) s

/-- A trigger whose scope is every admitted package is active here. -/
def State.wideTrig (s : State) : Bool :=
  [0, 1].any fun h => bit (s.triggers h) TRG_PORT || bit (s.triggers h) TRG_JOIN || bit (s.triggers h) TRG_LEAVE

/-- Every home of this package may return to home-ordered mode (R224). -/
def State.mayReturn (s : State) : Bool :=
  [0, 1].all fun h => s.ordered h && s.triggers h = 0 && s.f (R.HOME_MODE h) F.HOME_MODE_SWEEP_BUSY = 0

/-- What this package's homes ask of the master: the entry Peal of an active trigger whose scope is not owner-ordered yet, or
the return once its condition holds; one request at a time. A return from the mode of every package is a report, which the
master gathers. Asked again at each boundary while it has not settled. -/
def State.modeAsk (s : State) : State :=
  if s.home.modeReq || s.f R.PKG_INFO F.PKG_INFO_ADMITTED = 0 then s
  else
    let ord := s.ordered 0 && s.ordered 1
    let ask (s : State) (arg : Nat) : State :=
      (s.onHome fun q => { q with modeReq := true }).requestPeal s.earliest { kind := 1, body := [], arg := arg }
    if s.wideTrig && !(ord && s.home.scopeAll) then ask s 1
    else if !(s.triggers 0 = 0 && s.triggers 1 = 0) && !ord then ask s (1 + 2 * (s.pkg + 1))
    else if s.mayReturn then ask s (if s.home.scopeAll then 0 else 2 * (s.pkg + 1))
    else s

/-- A trigger begins: in home-ordered mode its entry Peal is requested. -/
def State.trigOn (s : State) (b : Nat) : State := (s.setTrig b true).modeAsk

def State.trigOff (s : State) (b : Nat) : State := s.setTrig b false

/-- Each home enters owner-ordered mode, and its sweep starts (R226), also where a wider entry Peal meets a home already in it. -/
def State.modeEnter (s : State) : State :=
  each [0, 1] (fun s h =>
    ((s.setF (R.HOME_MODE h) F.HOME_MODE_MODE 1).setF (R.HOME_MODE h) F.HOME_MODE_SWEEP_BUSY 1).onHome fun q =>
      { q with sweeps := addOnce q.sweeps h }) s

/-- A change of kind 1 concerns this package's homes. -/
def State.inScope (s : State) (c : Change) : Bool := c.arg / 2 % 16 = 0 || c.arg / 2 % 16 = s.pkg + 1

end Sys2Proof.Machine
end

