-- ==== Sys2Proof/Machine/LinkOps.lean ====
section
/-! DEFINITION. Photonic links: widths and capability, training steps, retraining, links that go out of service, laser tiles
(R268 to R277). Links 0 to 7 are the fabric ports, 8 to 19 the die links, 20 the hub bridge. Where the receivers of a link are meant, 20
stands for HUB-A's end of the hub bridge and 21 for HUB-B's (R295). -/

namespace Sys2Proof.Machine

/-! ## States of LINK_STAT (R295) -/

def LK_DOWN : Nat := 0
def LK_LIGHT : Nat := 1
def LK_LOCK : Nat := 2
def LK_ADVERTISE : Nat := 3
def LK_CONFIRM : Nat := 4
def LK_ACTIVE : Nat := 5
def LK_MISMATCH : Nat := 6
def LK_FAILED : Nat := 7
def LK_UNUSED : Nat := 8

def State.linkState (s : State) (l : Nat) : Nat := s.f (R.LINK_STAT l) F.LINK_STAT_STATE
def State.setLink (s : State) (l v : Nat) : State := s.setF (R.LINK_STAT l) F.LINK_STAT_STATE v

/-- Only an ACTIVE link has a width and wavelengths in use. -/
def State.linkClear (s : State) (l : Nat) : State := (s.setF (R.LINK_STAT l) F.LINK_STAT_WIDTH 0).setReg (R.LINK_MAP l) 0

/-- Wavelengths per direction (R271). -/
def lanesOf (l : Nat) : Nat := if l = 20 then 64 else 16

/-- The least width a fabric port's topology entry accepts. -/
def State.widthMin (s : State) (l : Nat) : Nat := 16 / 2 ^ s.f (R.FP_PEER l) F.FP_PEER_WIDTH_MIN

/-- The permitted widths of a link, widest first; a port's WIDTH_MIN bounds what it may come up at. -/
def widthsOf (l : Nat) : List Nat := if l = 20 then [64, 32, 16] else if l < 8 then [16, 8, 4] else [16, 8]

/-- Receive wavelengths neither bad nor mapped out. -/
def State.goodLanes (s : State) (l : Nat) : List Nat :=
  (List.range (lanesOf l)).filter fun w => bit (s.f (R.LT_GOOD l) F.LT_GOOD_GOOD) w && !bit (s.f (R.LINK_BAD l) F.LINK_BAD_BAD) w

/-- A width that link l may still come up at: it never rises before the next power-on (R275). -/
def State.widthLeft (s : State) (l w : Nat) : Bool := s.links.lastWidth.get l = 0 || w ≤ s.links.lastWidth.get l

/-- R272 step 3: the largest permitted width within the good wavelengths; 0 where there is none. -/
def State.capability (s : State) (l : Nat) : Nat :=
  ((widthsOf l).find? fun w => w ≤ (s.goodLanes l).length && s.widthLeft l w).getD 0

/-! ## Tasks of the Service Cores (R79, R264, R274) -/

def TASK_BRIDGE : Nat := 8
def taskPort (n : Nat) : Nat := 0x20 + n
def taskDieLink (d : Nat) : Nat := 0x10 + d

/-- The LINK_TRAIN task of a link (R274). -/
def linkTask (l : Nat) : Nat := if l = 20 then TASK_BRIDGE else if l < 8 then taskPort l else taskDieLink (l - 8)

/-- A LINK_TRAIN task number's link; none for the tiles' tasks and numbers no task has (R274). -/
def taskLink (t : Nat) : Option Nat :=
  if t = TASK_BRIDGE then some 20
  else if 0x10 ≤ t && t < 0x1C then some (8 + (t - 0x10))
  else if 0x20 ≤ t && t < 0x28 then some (t - 0x20)
  else none

/-- The hub whose Service Core runs a task (R264, R274). -/
def taskHub (mem : Bool) (t : Nat) : Nat :=
  if mem then t % 16 / 8
  else match taskLink t with
    | some l => if l = 20 then 0 else if l < 8 then l / 4 else (l - 8) / 6
    | none => t / 2

def State.moduleFor (s : State) (mem : Bool) : ModuleRec := if mem then s.boot.cfg.memTrain else s.boot.cfg.linkTrain

def State.taskOf (s : State) (mem : Bool) (t : Nat) : Option SvcTask := s.boot.svcTasks.find? fun k => k.mem = mem && k.task = t

/-- A task is called for: the module will be entered at FULL_ENTRY (full) or at RESUME_ENTRY. One that is called for already goes on. -/
def State.beginTask (s : State) (mem : Bool) (t : Nat) (full : Bool) : State :=
  if (s.taskOf mem t).isSome then s
  else
    let m := s.moduleFor mem
    let h := taskHub mem t
    let k : SvcTask := { mem := mem, task := t, hub := h, entry := if full then m.fullEntry else m.resumeEntry,
                         data := (Config.moduleBase h mem).toNat + m.codeLen, start := s.now,
                         full := full }
    s.onBoot fun b => { b with svcTasks := b.svcTasks ++ [k] }

/-- A task ends. Its Service Core runs one task at a time (DEDUCED, log entry 86): the next of its tasks begins now. -/
def State.endTask (s : State) (k : SvcTask) : State :=
  s.onBoot fun b => { b with svcTasks := (b.svcTasks.erase k).map fun x => if x.hub = k.hub then { x with start := s.now } else x }

/-- A task has run longer than TIME_LIMIT beats, or may have within the beat in progress. -/
def State.overTime (s : State) (k : SvcTask) (sure : Bool) : Bool :=
  let l := k.start + (s.moduleFor k.mem).timeLimit
  if sure then l < s.now else l ≤ s.now

/-- The trigger of owner-ordered mode that retraining a link of this kind gives (R223). -/
def linkTrig (l : Nat) : Nat := if l < 8 then TRG_PORT else if l < 20 then TRG_DIE_LINK else TRG_BRIDGE

/-- Links that train again and are not yet ACTIVE: they hold a retraining trigger. The link of a die that returns to service is one
(R234 step 1). -/
def State.retraining (s : State) (l : Nat) : Bool :=
  let x := s.linkState l
  (x != LK_ACTIVE && x != LK_FAILED && 8 ≤ l && s.home.returning.contains (l - 8)) ||
  0 < s.f (R.LINK_STAT l) F.LINK_STAT_RETRAINS && (x = LK_LIGHT || x = LK_LOCK || x = LK_ADVERTISE || x = LK_CONFIRM || x = LK_MISMATCH)

/-- The retraining trigger of a kind of link ends once no link of that kind retrains. -/
def State.linkTrigEnd (s : State) (l : Nat) : State :=
  if (List.range 21).any fun k => linkTrig k = linkTrig l && s.retraining k then s else s.trigOff (linkTrig l)

/-- An ACTIVE link retrains from a step (R275); it carries nothing meanwhile. -/
def State.retrain (s : State) (l step : Nat) : State :=
  let s := (s.incF (R.LINK_STAT l) F.LINK_STAT_RETRAINS).setLink l step
  let s := (s.setF (R.LINK_STAT l) F.LINK_STAT_WIDTH 0).setReg (R.LINK_MAP l) 0
  ((s.onFab fun f => { f with replays := if l = 20 then (f.replays.del 20).del 21 else f.replays.del l }).beginTask false (linkTask l) false).trigOn (linkTrig l)

/-- Held flits cross, in order, once their link is ACTIVE (R276). -/
def State.releaseLink (s : State) (l : Nat) : State :=
  let out := s.links.held.filter fun e => e.1 = l
  let s := s.onLinks fun k => { k with held := k.held.filter fun e => e.1 != l }
  let s := s.setF (R.LINK_STAT l) F.LINK_STAT_HELD 0
  each out (fun s e => s.send (.coh e.2)) s

/-- Both confirmed widths are equal: the link is ACTIVE (R272). -/
def State.linkUp (s : State) (l width : Nat) : State :=
  let s := (s.setLink l LK_ACTIVE).setF (R.LINK_STAT l) F.LINK_STAT_WIDTH width
  let s := s.setReg (R.LINK_MAP l) (BitVec.ofNat 64 (maskOf ((s.goodLanes l).take width)))
  let s := s.onLinks fun k => { k with mismRow := k.mismRow.del l, lastWidth := k.lastWidth.put l width }
  (s.releaseLink l).linkTrigEnd l

/-! ## Out of service (R271, R277, R284) -/

/-- A failed fabric port is reported to the master, which arms a route change. -/
def State.portFail (s : State) (n : Nat) : State :=
  let s := s.setLink n LK_FAILED
  let s := (s.setF (R.LINK_STAT n) F.LINK_STAT_WIDTH 0).setReg (R.LINK_MAP n) 0
  if s.links.failedPorts.contains (s.pkg, n) then s
  else
    let s := (s.onLinks fun k => { k with failedPorts := k.failedPorts ++ [(s.pkg, n)] }).linkTrigEnd n
    if s.f R.PKG_INFO F.PKG_INFO_ADMITTED = 1 then s.reportPort (s.pkg * 8 + n) else s

/-- The full training of a link at start-up runs: its end has the consequences of R80. -/
def State.stageLink (s : State) (l : Nat) : Bool := s.boot.svcTasks.any fun k => !k.mem && k.full && k.task = linkTask l

/-- A link cannot stay in service (R271). While its training of start-up runs it is only FAILED: the end of that task has the consequences
(R80). -/
def State.linkOut (s : State) (l : Nat) : State :=
  if s.stageLink l then
    ((s.setLink l LK_FAILED).setReg (R.LINK_MAP l) 0).setF (R.LINK_STAT l) F.LINK_STAT_WIDTH 0
  else if l < 8 then s.portFail l
  else if l < 20 then
    let s := (s.setLink l LK_FAILED).setReg (R.LINK_MAP l) 0
    let s := s.setF (R.LINK_STAT l) F.LINK_STAT_WIDTH 0
    let s := s.onLinks fun k => { k with held := k.held.filter fun e => e.1 != l }
    ((s.setF (R.LINK_STAT l) F.LINK_STAT_HELD 0).linkTrigEnd l).fenceDie (l - 8) 4 E.DIE_LINK_FAIL
  else
    let s := ((s.setLink l LK_FAILED).setReg (R.LINK_MAP l) 0).setF (R.LINK_STAT l) F.LINK_STAT_WIDTH 0
    (s.linkTrigEnd l).selfFence E.BRIDGE_FAIL 7 0

/-! ## Training steps (R272, R273, R296) -/

/-- A step may follow the state the link is in: the steps run in their order, one may be run again or earlier ones anew, and after a
mismatch the training begins at LIGHT (R272, R273; DEDUCED, log entry 86). -/
def stepMay (x step : Nat) : Bool := if x = LK_MISMATCH then step = 1 else x = LK_ACTIVE || step ≤ x + 1

/-- Run the step of LT_CTL, where it may follow. A link out of use runs none, nor one whose step still runs. -/
def State.trainGo (s : State) (l : Nat) : State :=
  let step := s.f (R.LT_CTL l) F.LT_CTL_STEP
  let x := s.linkState l
  if step = 0 || 5 ≤ step || x = LK_FAILED || x = LK_UNUSED || !stepMay x step || s.f (R.LT_STAT l) F.LT_STAT_BUSY = 1 then s
  else
    let s := (s.setLink l step).setF (R.LT_STAT l) F.LT_STAT_BUSY 1
    let s := (s.setF (R.LINK_STAT l) F.LINK_STAT_WIDTH 0).setReg (R.LINK_MAP l) 0
    if step = 3 then
      let c := s.capability l
      (s.setF (R.LINK_STAT l) F.LINK_STAT_CAP c).send (.train l 3 c (maskOf (s.goodLanes l)))
    else if step = 4 then
      s.send (.train l 4 (min (s.f (R.LINK_STAT l) F.LINK_STAT_CAP) (s.f (R.LINK_STAT l) F.LINK_STAT_PEER_CAP)) 0)
    else s

/-- A write to LT_CTL. -/
def State.ltCtlWrite (s : State) (w : Who) (l : Nat) (v : Word) : State :=
  s.csGuard w (R.LT_CTL l) 8 (some v) fun s =>
    let s := s.plainWrite (R.LT_CTL l) v (s.whoPart w)
    (if F.LT_CTL_GO.get v = 1 then s.trainGo l else s).whoReply w 0

def ltWord (step : Nat) (v : Word) : Word := F.LT_CTL_GO.set (F.LT_CTL_STEP.set v step) 1

/-- The confirmed widths differ (R273): the task that trains the link, or one called for now, begins again at LIGHT. -/
def State.mismatch (s : State) (l : Nat) : State :=
  let s := (s.setLink l LK_MISMATCH).incF (R.LINK_STAT l) F.LINK_STAT_MISMATCHES
  let s := s.onLinks fun k => { k with mismRow := k.mismRow.upd l (· + 1) }
  if 3 ≤ s.links.mismRow.get l then s.linkOut l else s.beginTask false (linkTask l) false

/-- CONFIRM ends with the width the peer confirmed. -/
def State.confirmEnd (s : State) (l peer : Nat) : State :=
  let own := min (s.f (R.LINK_STAT l) F.LINK_STAT_CAP) (s.f (R.LINK_STAT l) F.LINK_STAT_PEER_CAP)
  if own = 0 then s.linkOut l
  else if peer != own then s.mismatch l
  else if l < 8 && own < s.widthMin l then s.linkOut l
  else s.linkUp l own

/-- The wavelengths that the peer advertises as good; at HUB-B's end of the bridge none is that has been mapped out there. -/
def State.peerGood (s : State) (l good : Nat) : Nat :=
  (BitVec.ofNat 64 (good % 2 ^ lanesOf l) &&& if l = 20 then ~~~s.links.bridgeBad else -1).toNat

/-- A training step ends: the good wavelengths of LOCK, the peer's width of ADVERTISE, with the wavelengths it is good on, or of CONFIRM, or a
failure. -/
def State.stepEnd (s : State) (l : Nat) (good peer : Nat) (peerConfirm fail : Bool) (delay : Nat) : State :=
  let st := R.LT_STAT l
  if s.f st F.LT_STAT_BUSY = 0 then s
  else
    let s := ((s.setF st F.LT_STAT_BUSY 0).setF st F.LT_STAT_DONE 1).setF st F.LT_STAT_FAIL fail.toNat
    if fail then s
    else
      let x := s.linkState l
      if x = LK_LOCK then s.setReg (R.LT_GOOD l) (BitVec.ofNat 64 (good % 2 ^ lanesOf l))
      else if x = LK_ADVERTISE || x = LK_CONFIRM then
        let s := (s.setF st F.LT_STAT_PEER peer).setF st F.LT_STAT_PEER_CONFIRM peerConfirm.toNat
        if x = LK_ADVERTISE then
          let s := (s.setF (R.LINK_STAT l) F.LINK_STAT_PEER_CAP peer).onLinks fun k => { k with txMap := k.txMap.put l (s.peerGood l good) }
          if l < 8 then s.setF (R.FP_SYNC l) F.FP_SYNC_DELAY delay else s
        else if peerConfirm then s.confirmEnd l peer
        else s
      else s

/-! ## Lane checks and replays (R275, R185) -/

/-- LINK_MAP at an end: HUB-B's receivers carry the lanes on the lowest wavelengths that end advertised as good (R272). -/
def State.endMap (s : State) (e : Nat) : Word :=
  if e = 21 then
    BitVec.ofNat 64 (maskOf (((List.range 64).filter (bit (s.links.txMap.get 20))).take (s.f (R.LINK_STAT 20) F.LINK_STAT_WIDTH)))
  else s.reg (R.LINK_MAP e)

/-- A wavelength is mapped out at an end. -/
def State.markBad (s : State) (e w : Nat) : State :=
  if e = 21 then s.onLinks fun k => { k with bridgeBad := k.bridgeBad ||| BitVec.ofNat 64 (2 ^ w) }
  else s.setReg (R.LINK_BAD e) (s.reg (R.LINK_BAD e) ||| BitVec.ofNat 64 (2 ^ w))

/-- An end counts an error in its LINK_ERR. -/
def State.countErr (s : State) (e : Nat) (fl : Fld) : State :=
  if e = 21 then s.onLinks fun k => { k with bridgeErr := fl.set k.bridgeErr (min (fl.get k.bridgeErr + 1) fl.max) }
  else s.incF (R.LINK_ERR e) fl

def laneKey (l w : Nat) : Nat := l * 64 + w

/-- The package at one end of a fabric port rests (R398): this one, or the port's peer. -/
def State.portRests (s : State) (l : Nat) : Bool :=
  l < 8 && (s.f R.REST_STAT F.REST_STAT_STATE = 3 || bit (s.f R.REST_STAT F.REST_STAT_RESTING) (s.f (R.FP_PEER l) F.FP_PEER_PEER_PKG))

/-- A wavelength of such a port is dark, but for the lowest in use, which is the vigil lane where the port has one (R398). -/
def State.darkLane (s : State) (l w : Nat) : Bool :=
  s.portRests l && ((List.range 16).find? fun k => bit (s.f (R.LINK_MAP l) F.LINK_MAP_USED) k) != some w

/-- A wavelength in use at an end fails its lane check; a dark one counts none. -/
def State.laneFail (s : State) (l w : Nat) : State :=
  if s.linkState (linkOf l) != LK_ACTIVE || s.paused (linkOf l) || !(s.endMap l).getLsbD w || s.darkLane l w then s
  else s.onLinks fun k => { k with
    laneFails := k.laneFails.upd (laneKey l w) (· + 1)
    replayLanes := if s.fab.replays.get l = 0 then k.replayLanes else k.replayLanes.upd (laneKey l w) (· + 1) }

/-- The permitted width below the one a link last came up at; no link comes up at 1. -/
def State.narrower (s : State) (l : Nat) : Nat := ((widthsOf l).find? fun w => w < s.links.lastWidth.get l).getD 1

/-- Map a wavelength out at an end until power-on. The link comes up at the next lower width, or lower still, also where its good wavelengths would
carry the width it had (R275; DEDUCED, log entry 88). -/
def State.laneOut (s : State) (l w : Nat) : State :=
  ((s.markBad l w).countErr l F.LINK_ERR_LANE_TRIPS).onLinks fun k =>
    { k with lastWidth := k.lastWidth.put (linkOf l) (s.narrower (linkOf l)) }

/-- LANE_MAP_OUT: a wavelength over LANE_LIMIT in this window. -/
def State.laneOutOp (s : State) (l w : Nat) : State :=
  if s.linkState (linkOf l) = LK_ACTIVE && !s.paused (linkOf l) &&
      s.f (R.LINK_CTL (linkOf l)) F.LINK_CTL_LANE_LIMIT < s.links.laneFails.get (laneKey l w) then
    ((s.laneOut l w).onLinks fun k => { k with laneFails := k.laneFails.del (laneKey l w) }).retrain (linkOf l) LK_LOCK
  else s

/-- The wavelength of an end with the most lane-check failures since the replays began, if any failed. -/
def State.worstLane (s : State) (l : Nat) : Option Nat :=
  let n (w : Nat) : Nat := s.links.replayLanes.get (laneKey l w)
  let m := maxOf ((List.range (lanesOf (linkOf l))).map n)
  if m = 0 then none else (List.range (lanesOf (linkOf l))).find? fun w => n w = m

def State.replaysEnd (s : State) (l : Nat) : State :=
  (s.onFab fun f => { f with replays := f.replays.del l }).onLinks fun k =>
    { k with replayLanes := k.replayLanes.filter fun e => e.1 / 64 != l }

/-- A flit has failed three replays at an end of a photonic link. -/
def State.replayFail (s : State) (l : Nat) : State :=
  let s := s.countErr l F.LINK_ERR_REPLAY_FAIL
  let s := match s.worstLane l with
    | some w => s.laneOut l w
    | none => s
  (s.replaysEnd l).retrain (linkOf l) LK_LOCK

/-- What a replay sends again: of the sender's buffer, the flit whose header the bad one shows and every later one; all of it, where the header
itself is bad. -/
def State.replayed (s : State) (l : Nat) (payload : BitVec 608) : List CMsg :=
  let buf := s.fab.replayBuf.get l
  let r := buf.dropWhile fun m => !(formsOf m).any fun f => flitHeader m f = payload.setWidth 96
  if r = [] then buf else r

/-- A link replays: the receiver has discarded the bad flit and every later one, and those flits are at the sender again (R185): at the
router before a mesh link, at the exit of the mesh before any other. -/
def State.replayLink (s : State) (l : Nat) (payload : BitVec 608) : State :=
  let again := s.replayed l payload
  let k := (l - 32) / 4
  let n := stepTo (k % 4) (k / 4 % 4) ((l - 32) % 4)
  let back (f : FlitAt) : FlitAt :=
    let m := f.left.getLast?.getD 0
    if !again.contains f.msg then f
    else if 32 ≤ l then
      if f.router = some (k / 16, n.1, n.2) then { f with router := some (k / 16, k % 4, k / 4 % 4) } else f
    else if f.router = none && f.left ≠ [] && s.exitLink m f.msg = some l then
      { f with router := some (m, s.exitRouter m f.msg), goal := s.exitRouter m f.msg, left := f.left.dropLast }
    else f
  { s with flits := s.flits.map back }

/-- A flit arrives with a link CRC, at an end of a link: replay on a mismatch. A flit of a mesh link (links from 32 up) whose third replay fails ends the
link's use. -/
def State.crcOp (s : State) (l : Nat) (payload : BitVec 608) (crc : BitVec 32) : State :=
  if l < 22 && (s.linkState (linkOf l) != LK_ACTIVE || s.paused (linkOf l)) then s
  else if flitCrc payload = crc then s.replaysEnd l
  else
    let s := if l < 22 then s.countErr l F.LINK_ERR_CRC else s
    let n := s.fab.replays.get l + 1
    let s := s.onFab fun f => { f with replays := f.replays.put l n }
    if l < 22 then (if 4 ≤ n then s.replayFail l else s.replayLink (linkOf l) payload)
    else if l < 32 then s
    else if 4 ≤ n then (s.replaysEnd l).meshFail ((l - 32) / 64)
    else s.replayLink l payload

/-- All receivers of a link lose their light; where a package rests the port keeps its state (R398). -/
def State.lightLoss (s : State) (l : Nat) : State :=
  if s.paused l || s.portRests l then s
  else if s.linkState l = LK_ACTIVE then s.retrain l LK_LIGHT
  else s

/-! ## Laser tiles (R268 to R270) -/

def State.tile (s : State) (t : Nat) : Nat := bits (s.reg R.LASER_STAT) (8 * t) 8
def State.setTile (s : State) (t v : Nat) : State := s.setF R.LASER_STAT { lo := 8 * t, width := 8 } v

/-- The optical power of an active tile falls below its floor. -/
def State.laserLoss (s : State) (t : Nat) : State :=
  let role := s.tile t % 4
  if !(role = 1 || role = 2) then s
  else
    let s := s.setTile t 4
    match (List.range 4).find? fun k => s.tile k = 3 with
    | some k =>
      let s := ((s.setTile k role).incF R.LASER_STAT F.LASER_STAT_SWITCHES).record E.LASER_SWITCH 12 t
      s.onLinks fun q => { q with pause := addOnce q.pause (role - 1) }
    | none => s.selfFence E.LASER_FAIL 12 t

end Sys2Proof.Machine
end

