-- ==== Sys2Proof/Machine/PowerOps.lean ====
section
/-! DEFINITION. Performance levels, the regulator handshake, the budget of each beat (R379 to R388), and powering compute-die
domains down and up (R389 to R393). Units 0-11 are the dies, 12 and 13 the hubs. -/

namespace Sys2Proof.Machine

/-! ## Units -/

def rUnit (u : Nat) : Nat := if u < 12 then R.PWR_DIE u else R.PWR_HUB (u - 12)
def State.unitPwr (s : State) (u : Nat) : UnitPwr := s.pwr.units.get u
def State.updUnit (s : State) (u : Nat) (f : UnitPwr → UnitPwr) : State := s.onPwr fun p => { p with units := p.units.upd u f }
def State.level (s : State) (u : Nat) : Nat := s.f (rUnit u) F.PWR_DIE_LEVEL
/-- The thermal limit of a unit (R388). -/
def State.thermLimit (s : State) (u : Nat) : Nat := 7 - (s.unitPwr u).thermal

/-- The hub whose bus feeds a unit's rail, and the rail's number on it (R381). -/
def railHub (u : Nat) : Nat := if u < 12 then u / 6 else u - 12
def railNo (u : Nat) : Nat := if u < 12 then u % 6 else 6
def rFault (u : Nat) : Fld := if railHub u = 0 then F.AVS_STAT_FAULT_A else F.AVS_STAT_FAULT_B
/-- The rail is held after three failures (R383). -/
def State.railFault (s : State) (u : Nat) : Bool := (s.f R.AVS_STAT (rFault u)).testBit (railNo u)

/-- V(b): the voltage of a level, from PERF_LEVELS (R379). -/
def State.voltage (s : State) (u b : Nat) : Nat :=
  match s.boot.cfg.perf[b]? with
  | some (_, vcd, vhub) => if u < 12 then vcd else vhub
  | none => 0

/-- The unit as a record names it. -/
def unitId (u : Nat) : Nat × Nat := if u < 12 then (1, u) else (2, u - 12)

/-- LEVEL, with the estimate at it. -/
def State.setLevel (s : State) (u b : Nat) : State :=
  (s.setF (rUnit u) F.PWR_DIE_LEVEL b).setF (rUnit u) F.PWR_DIE_EST_HW (min ((s.unitPwr u).est.getD b 0) F.PWR_DIE_EST_HW.max)

/-! ## The regulator handshake (R382, R383) -/

/-- A change to level b begins: a lower level's clocks are switched first, a higher level's when VDone has come. -/
def State.startChange (s : State) (u b : Nat) : State :=
  let a := s.level u
  let b := if s.railFault u then min a b else b
  if b = a then s
  else
    let s := if b < a then s.setLevel u b else s
    let s := (s.setF (rUnit u) F.PWR_DIE_CHANGING 1).updUnit u fun p => { p with goal := b, first := false }
    s.send (.avs u (s.voltage u b))

/-- A change has ended; the latest grant kept meanwhile is applied. -/
def State.endChange (s : State) (u : Nat) : State :=
  let s := s.setF (rUnit u) F.PWR_DIE_CHANGING 0
  match (s.unitPwr u).kept with
  | some b => (s.updUnit u fun p => { p with kept := none }).startChange u b
  | none => s

def State.changing (s : State) (u : Nat) : Bool := s.f (rUnit u) F.PWR_DIE_CHANGING = 1

/-- The voltage write of the change in progress is no longer outstanding. -/
def State.takeAvs (s : State) (u : Nat) : State := s.take (.avs u (s.voltage u (s.unitPwr u).goal))

/-- VDone: the change in progress ends, or, in step 1 of a wake, the rail stands at V(PL0) (R403). -/
def State.avsDone (s : State) (u : Nat) : State :=
  if s.pwr.wakeStep = 1 then s.take (.avs u (s.voltage u 0))
  else if !s.changing u then s
  else
    let b := (s.unitPwr u).goal
    let s := (s.takeAvs u).updUnit u fun p => { p with fails := 0 }
    (if s.level u < b then s.setLevel u b else s).endChange u

/-- No acknowledgement within 10 µs or no VDone within 1 ms: the write is made once more; a second failure is recorded, and
the third change in a row to fail holds the rail (log entry 20). -/
def State.avsFail (s : State) (u : Nat) : State :=
  if !s.changing u then s
  else if !(s.unitPwr u).first then
    ((s.takeAvs u).updUnit u fun p => { p with first := true }).send (.avs u (s.voltage u (s.unitPwr u).goal))
  else
    let n := (s.unitPwr u).fails + 1
    let s := (s.takeAvs u).updUnit u fun p => { p with fails := n }
    let s := (s.record E.AVS_TIMEOUT (unitId u).1 (unitId u).2).incF R.AVS_STAT F.AVS_STAT_TIMEOUTS
    let s := if 3 ≤ n then s.setF R.AVS_STAT (rFault u) (s.f R.AVS_STAT (rFault u) ||| 2 ^ railNo u) else s
    s.endChange u

/-- A grant reaches its unit. -/
def State.grant (s : State) (u b : Nat) : State :=
  if !s.sent.contains (.power u b) then s
  else
    let s := (s.take (.power u b)).setF (rUnit u) F.PWR_DIE_TARGET b
    if s.changing u then s.updUnit u fun p => { p with kept := some b } else s.startChange u b

/-! ## Requests and reports (R380, R384) -/

/-- CD_PL_REQ of a core; a value of 8 to 15 is treated as 7. -/
def State.plReq (s : State) (c : Nat) : Nat :=
  let j := c % 20
  min 7 (bits (s.reg (if j < 16 then R.CD_PL_REQ_0 (dieOf c) else R.CD_PL_REQ_1 (dieOf c))) (4 * (j % 16)) 4)
def State.ceil (s : State) (p : Nat) : Nat := bits (s.reg R.PWR_CEIL) (4 * p) 4
/-- PWR_HUB_REQ of a partition; a value of 8 to 15 is treated as 7, there being eight levels. -/
def State.hubReq (s : State) (p : Nat) : Nat := min 7 (bits (s.reg R.PWR_HUB_REQ) (4 * p) 4)

/-- A partition has a core in RUN or HALT in this package. -/
def State.partAlive (s : State) (p : Nat) : Bool := (s.coresOf p).any s.alive

/-- The requested level of a unit (R380). -/
def State.request380 (s : State) (u : Nat) : Nat :=
  if u < 12 then maxOf (((coresOfDie u).filter fun c => s.coreState c = 2).map fun c => min (s.plReq c) (s.ceil (s.corePart c)))
  else maxOf (((List.range 16).filter s.partAlive).map fun p => min (s.hubReq p) (s.ceil p))

/-- Dies d and d + 6 are coupled (R386). -/
def State.coupled (s : State) (d : Nat) : Bool :=
  (coresOfDie (d % 6) ++ coresOfDie (d % 6 + 6)).any fun c => s.corePart c != 0 && s.isTwin (s.corePart c)

/-- The unit is under test (R427). -/
def State.underTest (s : State) (u : Nat) : Bool := s.f (R.ASSAY_STAT u) F.ASSAY_STAT_STATE = 3

/-- The dies that report to hub h: those powered, and one under test. -/
def State.reporters (s : State) (h : Nat) : List Nat :=
  (List.range 6).map (· + 6 * h) |>.filter fun d => s.dieIn d || s.underTest d

/-- Drop the reports on their way. -/
def State.dropReports (s : State) : State :=
  let isReport : Msg → Bool
    | .report _ _ => true
    | _ => false
  { s with sent := s.sent.filter fun m => !isReport m }

/-- Step 4 of R50: every unit's request, temperature and estimates, and the reports sent. A die that sends no report (powered
off, fenced) adds no estimate. -/
def State.sendReports (s : State) (temps : List Nat) (ests : List (List Nat)) : State :=
  let told (u : Nat) : Bool := 12 ≤ u || s.dieIn u || s.underTest u
  let s := each (List.range 14) (fun s u =>
    let s := s.updUnit u fun p => { p with
      est := (List.range 8).map fun t => if told u then (ests.getD u []).getD t 0 else 0, reported := false }
    let s := (s.setF (rUnit u) F.PWR_DIE_REQ (s.request380 u)).setF (rUnit u) F.PWR_DIE_TEMP (min (temps.getD u 0) 255)
    let s := if u < 12 then s.setF (rUnit u) F.PWR_DIE_COUPLED (s.coupled u).toNat else s
    s.setLevel u (s.level u)) s.dropReports
  each [0, 1] (fun s h => each (s.reporters h) (fun s d => s.send (.report h d)) s) s

/-- THERMTRIP_N is asserted, and stays so until RESET_N is asserted (R444). -/
def State.thermtripOn (s : State) : State :=
  if s.pwr.thermtrip then s else (s.onPwr fun q => { q with thermtrip := true }).send (.pin "THERMTRIP_N" 0 false)

/-- R388: the thermal limits move, and a unit at 110 °C or above trips the package, once. -/
def State.thermalRead (s : State) (temps : List Nat) : State :=
  each (List.range 14) (fun s u =>
    let t := temps.getD u 0
    let s := s.updUnit u fun p => { p with
      thermal := if 100 ≤ t then min 7 (p.thermal + 1) else if t < 95 then p.thermal - 1 else p.thermal }
    let s := s.setF (rUnit u) F.PWR_DIE_THERM (decide (s.thermLimit u < 7)).toNat
    let told := (s.err.raise ++ s.err.gongs).any fun g => g.src = s.pkg && g.cause = E.THERMAL_TRIP.val
    if 110 ≤ t && !told then (s.selfFence E.THERMAL_TRIP (unitId u).1 (unitId u).2).thermtripOn else s) s

/-! ## The settlement (R385 to R387) -/

/-- A unit, or a coupled pair, in the budget loop: its members, its estimates at each level in twentieths of a watt, its level, and
whether the loop may lower it. -/
structure Lot where
  units : List Nat
  est : List Nat
  lvl : Nat
  free : Bool
  deriving DecidableEq, Repr, Inhabited

def lotEst (l : Lot) : Nat := l.est.getD l.lvl 0
def lotSum (ls : List Lot) : Nat := sumOf (ls.map lotEst)

/-- The place of the lot to lower: the highest level, then the highest estimate, then the first. -/
def lotPick : List Lot → Nat → Option (Nat × Lot) → Option (Nat × Lot)
  | [], _, b => b
  | l :: r, i, b =>
    let better := match b with
      | none => true
      | some (_, k) => k.lvl < l.lvl || (k.lvl = l.lvl && lotEst k < lotEst l)
    lotPick r (i + 1) (if l.free && l.lvl != 0 && better then some (i, l) else b)

/-- The loop of R385; n bounds its turns. -/
def lotLoop : Nat → Nat → List Lot → List Lot
  | 0, _, ls => ls
  | n + 1, avail, ls =>
    if lotSum ls ≤ avail then ls
    else match lotPick ls 0 none with
      | none => ls
      | some (i, l) => lotLoop n avail (ls.set i { l with lvl := l.lvl - 1 })

/-- The estimates of a unit in twentieths of a watt; a unit under test gives 1.4 times its estimate (R427). -/
def State.unitEst (s : State) (u : Nat) : List Nat :=
  (List.range 8).map fun t => (s.unitPwr u).est.getD t 0 * if s.underTest u then 14 else 10

/-- A held rail's unit is granted no level above the one it holds (R383). -/
def State.avsLimit (s : State) (u : Nat) : Nat := if s.railFault u then s.level u else 7

def State.target0 (s : State) (u : Nat) : Nat :=
  if s.underTest u then s.level u else min (min (s.f (rUnit u) F.PWR_DIE_REQ) (s.thermLimit u)) (s.avsLimit u)

/-- The lots in rank order: a coupled pair ranks by its lower number and takes the higher target (R386), though none above the level that a held
rail of either die allows (R383; DEDUCED, log entry 20). -/
def State.lots (s : State) : List Lot :=
  (List.range 14).filterMap fun u =>
    let one : Lot := { units := [u], est := s.unitEst u, lvl := s.target0 u, free := !s.underTest u }
    if u < 12 && s.coupled u && !s.underTest (u % 6) && !s.underTest (u % 6 + 6) then
      if 6 ≤ u then none
      else some { units := [u, u + 6], est := List.zipWith (· + ·) (s.unitEst u) (s.unitEst (u + 6)),
                  lvl := min (max (s.target0 u) (s.target0 (u + 6))) (min (s.avsLimit u) (s.avsLimit (u + 6))), free := true }
    else some one

/-- The sum of the estimates at the requested levels, in 0.5 W (DEMAND_HW). -/
def State.demand (s : State) : Nat := sumOf ((List.range 14).map fun u => (s.unitEst u).getD (s.f (rUnit u) F.PWR_DIE_REQ) 0) / 10

/-- The share of the package cap that the loop divides, in twentieths of a watt. -/
def State.avail (s : State) : Nat := (s.f R.PWR_CAP F.PWR_CAP_CAP_W - 20) * 20

/-- The block under test cannot be powered at this cap: its tests are not run. -/
def State.assayPower (s : State) : State :=
  if !s.err.assayFresh then s
  else
    let floor := lotSum (s.lots.map fun l => if l.free then { l with lvl := 0 } else l)
    s.onErr fun e => { e with assayFresh := false, assayRes := if s.avail < floor then some 4 else e.assayRes }

/-- POWER_SETTLEMENT: both hubs run the loop on the same reports. -/
def State.settle (s : State) : State :=
  let s := s.assayPower
  let ls := s.lots
  let out := lotLoop 100 s.avail ls
  let high := decide (s.avail < lotSum out)
  let s := ((((s.setF R.PWR_STAT F.PWR_STAT_DEMAND_HW (min s.demand 4095)).setF R.PWR_STAT F.PWR_STAT_GRANT_HW
    (min (lotSum out / 10) 4095)).setF R.PWR_STAT F.PWR_STAT_OVER high.toNat).setF R.PWR_STAT F.PWR_STAT_STALE 0)
  let s := if high && (s.pwr.floorAt = 0 || s.pwr.floorAt + 1023 ≤ s.now) then
      (s.record E.POWER_CAP_FLOOR 2 0).onPwr fun p => { p with floorAt := s.now + 1 } else s
  each out (fun s l => each l.units (fun s u => s.send (.power u l.lvl)) s) s

/-- BUDGET_REPORT at hub h: a die's report, or (unit 12 or 13) the other hub's seven. -/
def State.reportIn (s : State) (h u : Nat) : State :=
  if !s.sent.contains (.report h u) then s
  else if 12 ≤ u && !s.linkActive 20 then s
  else
    let s := (s.take (.report h u)).updUnit u fun p => { p with reported := true }
    if u < 12 then
      if (s.reporters h).all fun d => (s.unitPwr d).reported then s.send (.report (1 - h) (12 + h)) else s
    else if (s.unitPwr 12).reported && (s.unitPwr 13).reported then s.settle else s

/-- BUDGET_STALE: cycle 400 has come and the reports have not been exchanged. -/
def State.staleOp (s : State) : State :=
  let isReport : Msg → Bool
    | .report _ _ => true
    | _ => false
  if s.sent.any isReport then s.dropReports.setF R.PWR_STAT F.PWR_STAT_STALE 1 else s

/-! ## Powering compute-die domains (R389 to R391, R393) -/

def State.clkOn (s : State) (n : Nat) (on : Bool) : State :=
  let v := s.f R.CLKD_ON F.CLKD_ON_ON
  s.setF R.CLKD_ON F.CLKD_ON_ON (if on then v ||| 2 ^ n else clearBit v n)

/-- The cores of a cluster: 0 west, 1 east. -/
def clusterCores (d k : Nat) : List Nat := (List.range 10).map fun i => 20 * d + 10 * k + i
/-- The cores of a domain: 0 and 1 the clusters, 2 the whole die. -/
def domainCores (d k : Nat) : List Nat := if k = 2 then coresOfDie d else clusterCores d k
def State.clusterOn (s : State) (d k : Nat) : Bool := s.f (R.PWR_DIE d) (if k = 0 then F.PWR_DIE_WEST_ON else F.PWR_DIE_EAST_ON) = 1
def State.setCluster (s : State) (d k : Nat) (on : Bool) : State :=
  (s.setF (R.PWR_DIE d) (if k = 0 then F.PWR_DIE_WEST_ON else F.PWR_DIE_EAST_ON) on.toNat).clkOn (4 * d + k) on

/-- The Die Cache cleans and invalidates itself (R137, R142): its L1s' data with it. -/
def State.dcFlush (s : State) (d : Nat) : State :=
  let lines := s.cache.dc.filterMap fun e => if e.1 / 1048576 = d && e.2.coh != .i then some e.2.line else none
  each lines (fun s l => s.dcEvict d l) s

/-- A domain begins to stop and drain. -/
def State.beginDrain (s : State) (d k : Nat) : State :=
  let s := s.onPwr fun p => { p with drain := addOnce p.drain (d, k) }
  if k = 2 then (s.setF (R.PWR_DIE d) F.PWR_DIE_STATE 3).dcFlush d else s

/-- R389: at a boundary, the domains whose cores are all OFF begin to power down; a die that drains cleans what has been filled since. -/
def State.powerDowns (s : State) : State :=
  each allDies (fun s d =>
    if s.dieState d = 3 then s.dcFlush d
    else if s.dieState d != 2 then s
    else if (coresOfDie d).all (fun c => s.coreState c = 0) then s.beginDrain d 2
    else each [0, 1] (fun s k =>
      if s.clusterOn d k && !s.pwr.waking.contains d && (clusterCores d k).all (fun c => s.coreState c = 0) then s.beginDrain d k
      else s) s) s

/-- The die started or holds no transaction, and its Die Cache is empty. -/
def State.dieQuiet (s : State) (d : Nat) : Bool :=
  let k := s.cache
  !(k.dc.any fun e => e.1 / 1048576 = d && e.2.coh != .i) && !(k.dcMiss.any fun m => m.die = d) && !(k.wb.any fun e => e.die = d) &&
    !(k.direct.any fun q => dieOf q.acc.core = d) && !(s.sent.any fun m => s.dieFlit d m)

/-- Free every directory entry that names a die (step 2 of R390). -/
def State.dirForget (s : State) (d : Nat) : State :=
  let gone (u : Unt) : Bool := u = s.dieUnit d
  each [0, 1] (fun s h => each (s.dirLines h) (fun s l => s.dirClean h l gone 1) s) s

/-- A whole die is masked, isolated and switched off. -/
def State.dieDown (s : State) (d : Nat) : State :=
  let s := (s.dirForget d).clearDie d
  let s := (s.arbMaskDie d true).pealLeave d
  let s := ((s.setCluster d 0 false).setCluster d 1 false).setF (R.PWR_DIE d) F.PWR_DIE_STATE 0
  (s.clkOn (4 * d + 2) false).clkOn (4 * d + 3) false

/-- Mask the requesters of a cluster's cores, or lift the masks; that of a FENCED core stays (R198). -/
def State.maskCluster (s : State) (d k : Nat) (on : Bool) : State :=
  each (List.range 10) (fun s n => s.arbMask (2 * d + k) n (on || s.coreState (20 * d + 10 * k + n) = 3)) s

/-- The link of die d resumes with a LINK_TRAIN resume task (R274, R393). -/
def State.resumeLink (s : State) (l : Nat) : State := ((s.setLink l LK_DOWN).linkClear l).beginTask false (linkTask l) false

/-- DOMAIN_DRAIN_DONE; the link of a die drained for Assay resumes (R426). A domain whose cores were assigned meanwhile stays on (log entry 21). -/
def State.drainDone (s : State) (d k : Nat) : State :=
  if !s.pwr.drain.contains (d, k) || (k = 2 && !s.dieQuiet d) then s
  else
    let s := s.onPwr fun p => { p with drain := p.drain.erase (d, k) }
    if !(domainCores d k).all (fun c => s.coreState c = 0) then (if k = 2 then s.setF (R.PWR_DIE d) F.PWR_DIE_STATE 2 else s)
    else if k = 2 then
      let s := (s.resetDie d).dieDown d
      if s.f (R.ASSAY_STAT d) F.ASSAY_STAT_STATE = 2 then s.resumeLink (8 + d) else s
    else ((s.resetCluster d k).setCluster d k false).maskCluster d k true

/-- The clusters of a die that hold a core of a partition. -/
def State.wantedClusters (s : State) (d : Nat) : List Nat := [0, 1].filter fun k => (clusterCores d k).any fun c => s.corePart c != 0

/-- R393: a die or a cluster that is powered down, one of whose cores has been assigned, starts to wake. -/
def State.startWake (s : State) (d : Nat) : State :=
  if s.dieFenced d || s.pwr.waking.contains d || s.underTest d || s.err.assayPrior.get d = 4 then s
  else
    let dark := (s.wantedClusters d).filter fun k => !s.clusterOn d k
    if s.dieState d = 0 && s.wantedClusters d != [] || (s.dieState d = 2 && dark != []) then
      let s := if s.dieState d = 0 then s.resumeLink (8 + d) else s
      (s.onPwr fun p => { p with waking := addOnce p.waking d }).setF (R.PWR_DIE d) F.PWR_DIE_STATE 1
    else s

/-- DIE_WAKE_DONE: powered, invalidated, loaded; the isolation and the mask are lifted and the notice is sent. -/
def State.wakeDone (s : State) (d : Nat) : State :=
  if !s.pwr.waking.contains d || !s.linkActive (8 + d) then s
  else
    let whole := s.dieOff d
    let s := s.onPwr fun p => { p with waking := p.waking.erase d, woken := addOnce p.woken d }
    let s := if whole then ((s.clearDie d).clkOn (4 * d + 2) true).clkOn (4 * d + 3) true else s
    let ks := s.wantedClusters d
    let ks := if ks = [] then [0, 1] else ks
    let s := each ks (fun s k => (if s.clusterOn d k then s else s.resetCluster d k).setCluster d k true) s
    let s := if whole then s.arbMaskDie d false else s
    let s := each [0, 1] (fun s k => s.maskCluster d k (!s.clusterOn d k)) s
    let s := s.setF (R.PWR_DIE d) F.PWR_DIE_STATE 2
    each (addOnce s.others s.pkg) (fun s p => s.send (.rest p (16 + d))) s

end Sys2Proof.Machine
end

