-- ==== Sys2Proof/Machine/SysOps.lean ====
section
/-! DEFINITION. The system of packages: topology and routes (R282 to R284), membership and mastership (R49, R285, R286), sockets
and their sponsor (R287 to R289), planned leave (R291) and loss of a package (R292 to R294). -/

namespace Sys2Proof.Machine

/-! ## Topology and routes -/

def State.topoOf (s : State) (p : Nat) : Option TopoEntry := s.boot.cfg.topo.find? fun e => e.pkg = p
def State.listed (s : State) : List Nat := s.boot.cfg.topo.map (·.pkg)

/-- The package and port at the far end of a CONNECTED port. -/
def State.peerOf (s : State) (p n : Nat) : Option (Nat × Nat) :=
  match s.topoOf p with
  | some e => let b := e.peer.getD n 0; if b.testBit 7 then some (b / 16 % 8, b % 8) else none
  | none => none

def State.routeByte (s : State) (p d : Nat) : Nat :=
  match s.topoOf p with
  | some e => e.route.getD d 0
  | none => 0

/-- The ports of p that lead to d. -/
def State.portsTo (s : State) (p d : Nat) : List Nat := (List.range 8).filter fun n => (s.peerOf p n).map (·.1) = some d

def State.portDead (s : State) (p n : Nat) : Bool := s.links.failedPorts.contains (p, n)

/-- The egress port of the route in force from p to d. -/
def State.egress (s : State) (p d : Nat) : Nat :=
  if s.links.moved.contains (p, d) then s.routeByte p d / 8 % 8 else s.routeByte p d % 8

/-- The route from p to d uses port fn of package fp, at its first hop or at the intermediate. -/
def State.routeUses (s : State) (p d fp fn : Nat) : Bool :=
  let e := s.egress p d
  (p = fp && e = fn) ||
    match s.peerOf p e with
    | some (m, _) => m != d && m = fp && (s.portsTo m d).contains fn && (s.portsTo m d).all fun n => fn ≤ n || s.portDead m n
    | none => false

/-- The route in force from p to d leads there. -/
def State.routeUsable (s : State) (p d : Nat) : Bool :=
  let e := s.egress p d
  (s.routeByte p d).testBit 7 && !s.portDead p e &&
    match s.peerOf p e with
    | some (m, _) => m = d || (s.portsTo m d).any fun n => !s.portDead m n
    | none => false

/-- The intermediate package of the route from p to d. -/
def State.viaOf (s : State) (p d : Nat) : Option Nat :=
  match s.peerOf p (s.egress p d) with
  | some (m, _) => if m = d then none else some m
  | none => none

/-- SYS_ROUTE of every package, from the routes in force. -/
def State.setRoutes (s : State) : State :=
  each (List.range 8) (fun s d =>
    let r := R.SYS_ROUTE d
    if d = s.pkg && s.listed.contains d then s.setReg r 1
    else if s.admitted.contains d && s.routeUsable s.pkg d then
      let hop := match s.viaOf s.pkg d with | some m => 4 + m * 2 ^ 8 | none => 2
      s.setReg r (BitVec.ofNat 64 (1 + hop + s.egress s.pkg d * 8 + (if s.links.moved.contains (s.pkg, d) then 2 ^ 6 else 0)))
    else s.setReg r 0) s

/-! ## Sockets and the sponsor (R287 to R289) -/

def SK_EMPTY : Nat := 0
def SK_PRESENT : Nat := 1
def SK_POWERING : Nat := 2
def SK_BOOTING : Nat := 3
def SK_ADMITTED : Nat := 4
def SK_LEAVING : Nat := 5
def SK_DETACHED : Nat := 6
def SK_FAULT : Nat := 7

def State.boardOf (s : State) (p : Nat) : Option Nat := (s.topoOf p).map (·.board)
/-- The listed packages of this package's board. -/
def State.boardPkgs (s : State) : List Nat := s.listed.filter fun p => s.boardOf p = s.boardOf s.pkg
/-- The package at position i of this board. -/
def State.socketPkg (s : State) (i : Nat) : Option Nat := s.boardPkgs.find? fun p => p % 4 = i
/-- The position of a package of this board. -/
def State.socketOf (s : State) (p : Nat) : Option Nat := if s.boardPkgs.contains p then some (p % 4) else none
/-- The sponsor of this board. -/
def State.sponsorPkg (s : State) : Option Nat := s.boardPkgs.find? fun p => s.admitted.contains p
def State.isSponsor (s : State) : Bool := s.sponsorPkg = some s.pkg

def State.sktState (s : State) (i : Nat) : Nat := s.f (R.SKT_STAT i) F.SKT_STAT_STATE
def State.setSkt (s : State) (i v : Nat) : State := s.setF (R.SKT_STAT i) F.SKT_STAT_STATE v

/-- An event bit of a socket: its record and vector. -/
def State.sktEvent (s : State) (i : Nat) (fl : Fld) : State := (s.setF (R.SKT_STAT i) fl 1).record E.SKT_EVENT 13 i

/-- The level of PWR_EN of a socket. Only the sponsor drives the land; in another package the field follows what the sponsor does there, as its
other lands tell (R287; DEDUCED, log entry 22). -/
def State.pwrEn (s : State) (i : Nat) (on : Bool) : State :=
  if (s.f (R.SKT_STAT i) F.SKT_STAT_PWR_EN = 1) = on then s
  else
    let s := s.setF (R.SKT_STAT i) F.SKT_STAT_PWR_EN on.toNat
    if s.isSponsor then s.send (.pin "PWR_EN" i on) else s

def State.led (s : State) (i : Nat) (on : Bool) : State := s.send (.pin "ATTN_LED" i on)
def State.blink (s : State) (i : Nat) : State := s.send (.pin "ATTN_LED_1HZ" i true)

/-- The socket of a package at its sponsor: a new sponsor shows an admitted package ADMITTED, or LEAVING while its leave runs; one that stays
sponsor admits a package that was coming up; a present, powered package that is not admitted is BOOTING (log entry 22). -/
def State.sponsorSkt (s : State) (i q : Nat) (was : Bool) : State :=
  let st := s.sktState i
  if s.admitted.contains q then
    if was && !between st SK_PRESENT SK_BOOTING then s
    else if s.links.leave.any fun e => e.1 = q then ((s.setSkt i SK_LEAVING).pwrEn i true).blink i
    else ((s.setSkt i SK_ADMITTED).pwrEn i true).led i false
  else if st ≤ SK_PRESENT && s.f (R.SKT_STAT i) F.SKT_STAT_PRSNT = 1 && s.f (R.SKT_STAT i) F.SKT_STAT_PWR_GOOD = 1 then
    (s.setSkt i SK_BOOTING).pwrEn i true
  else s

/-- Sponsorship as membership stands (R288). A package that becomes sponsor drives PWR_EN and ATTN_LED of its board; one that is sponsor no longer
leaves them at high impedance, and the pull-downs hold a board without a sponsor inactive (R287). -/
def State.setSponsor (s : State) : State :=
  let me := s.isSponsor
  each (List.range 4) (fun s i =>
    let was := decide (s.f (R.SKT_STAT i) F.SKT_STAT_SPONSOR = 1)
    let s := s.setF (R.SKT_STAT i) F.SKT_STAT_SPONSOR me.toNat
    let s := if was = me then s else (s.send (.pin "PWR_EN_DRIVEN" i me)).send (.pin "ATTN_LED_DRIVEN" i me)
    if me then match s.socketPkg i with
      | some q => s.sponsorSkt i q was
      | none => s
    else if s.sponsorPkg.isNone then s.pwrEn i false
    else if (s.socketPkg i).any s.admitted.contains then s.pwrEn i true
    else s) s

/-! ## Membership (R49) -/

/-- A package whose participants have all armed a Peal without a verdict sends its result to the new master, which gathers the results of
every package anew (R49, R57; DEDUCED, log entry 85). -/
def State.pealResend (s : State) : State :=
  each s.pealSlots (fun s (_, q) => if q.decided.isNone && q.waiting = [] then s.send (.peal s.master 0 q.seq 3 true) else s) s

/-- The failed ports of this package whose route change is still to come are reported to the new master, and its part of a drain will be. -/
def State.reportAgain (s : State) : State :=
  each (s.links.portReports.filter fun a => a / 8 = s.pkg) State.reportPort (s.onLinks fun k => { k with leaveDone := [] })

/-- The admitted packages change: SYS_STAT, PKG_INFO, the beat master, routes and sponsorship. -/
def State.setMembers (s : State) (ps : List Nat) : State :=
  let was := s.admitted
  let oldM := s.master
  let s := s.setF R.SYS_STAT F.SYS_STAT_ADMITTED (maskOf ps)
  let me := ps.contains s.pkg
  let s := (s.setF R.PKG_INFO F.PKG_INFO_ADMITTED me.toNat).setF R.PKG_INFO F.PKG_INFO_PKG_COUNT (if me then s.admitted.length else 0)
  let s := (s.setF R.PKG_INFO F.PKG_INFO_MASTER (me && s.isMaster).toNat).setF R.BEAT_SYNC F.BEAT_SYNC_MASTER_ID s.master
  let s := if me && s.isMaster then s.setF R.BEAT_SYNC F.BEAT_SYNC_OFFSET 0 else s
  let s := if me && was.contains s.pkg && s.master != oldM then
      ((s.beatEvent F.BEAT_STAT_MASTER_CHANGE).onHome fun q => { q with modeReq := false, reports := [] }).pealResend.reportAgain else s
  s.setRoutes.setSponsor

/-- A partition's cores that belong to this package enter HALT. -/
def State.haltCores (s : State) (p : Nat) : State :=
  each (s.coresOf p) (fun s c => if s.coreState c = 0 && s.dieIn (dieOf c) then s.setCoreState c 1 else s) s

/-! ## Partition start (R81, R82) -/

def State.part (s : State) (p : Nat) : Option PartRec := s.boot.cfg.parts.find? fun r => r.id = p
def bootPkg (r : PartRec) : Nat := r.bootCore / 256 % 8
def bootCoreNo (r : PartRec) : Nat := r.bootCore % 256

/-- The packages that hold a core of a partition. -/
def State.corePkgs (s : State) (p : Nat) : List Nat :=
  s.listed.filter fun q => if q = s.pkg then s.coresOf p != [] else s.boot.cfg.coreOwners.any fun e => e.1 = q && e.2.contains p

/-- The Service Core of hub h writes bytes to memory from an address, under partition p's key; lines homed in other packages are
written by UC_WR. The address is a multiple of 64. -/
def State.serviceWrite (s : State) (h p pa : Nat) (bytes : List Byte) : State :=
  each (List.range ((bytes.length + 63) / 64)) (fun s i =>
    let chunk := slice bytes (64 * i) 64
    let line := pa / 64 + i
    let mask := maskFor 0 chunk.length
    if pkgOfLine line = s.pkg then s.queueWrite line p (bytesLine chunk) mask false
    else s.send (.coh (s.request .ucWr line (s.hubUnit h) noSlot 0 mask (bytesLine chunk) default))) s

/-- Before the start beat: the payload is written and the cores are placed in HALT. -/
def State.prepPart (s : State) (r : PartRec) : State :=
  let s := s.haltCores r.id
  if bootPkg r = s.pkg then s.serviceWrite (hubOfDie (dieOf (bootCoreNo r))) r.id r.loadPa r.payload else s

def State.setPartState (s : State) (p v : Nat) : State := s.setF (R.PART_STATE p) F.PART_STATE_STATE v

/-- A partition awaits its start beat. -/
def State.awaitStart (s : State) (p b : Nat) : State :=
  ((s.setReg (R.PART_START_BEAT p) (BitVec.ofNat 64 b)).setPartState p 1).onBoot fun k => { k with startBeats := k.startBeats.put p b }

/-- The start of a partition has been settled. -/
def State.startOver (s : State) (p : Nat) : State :=
  s.onBoot fun k => { k with startBeats := k.startBeats.del p, started := addOnce k.started p }

/-- Package q has been admitted: every partition it is the last to hold cores of has its start beat; cores of partitions that already run enter
HALT (R81, R286). -/
def State.scheduleStarts (s : State) (q : Nat) : State :=
  each s.boot.cfg.parts (fun s r =>
    let st := s.f (R.PART_STATE r.id) F.PART_STATE_STATE
    if st = 0 then
      if r.payload != [] && (s.corePkgs r.id).contains q && (s.corePkgs r.id).all s.admitted.contains then
        (s.prepPart r).awaitStart r.id (s.now + r.startDelay)
      else s
    else s.haltCores r.id) s

/-- How the partitions of the system stand, for a package that joins: PART_STATE and PART_START_BEAT of each (DESIGN CHOICE, log entry 86). -/
def State.startTable (s : State) : List Byte :=
  parts15.flatMap fun p => leBytes 8 (s.reg (R.PART_STATE p)).toNat ++ leBytes 8 (s.reg (R.PART_START_BEAT p)).toNat

/-- A joining package takes the table that its join carries. -/
def State.takeStarts (s : State) (b : List Byte) : State :=
  each parts15 (fun s p =>
    let w : Word := BitVec.ofNat 64 (field b (16 * (p - 1)) 8)
    let st := F.PART_STATE_STATE.get w
    if st = 0 || s.f (R.PART_STATE p) F.PART_STATE_STATE != 0 then s
    else
      let s := (s.setPartState p st).setF (R.PART_STATE p) F.PART_STATE_FENCED (F.PART_STATE_FENCED.get w)
      if st = 1 then s.awaitStart p (field b (16 * (p - 1) + 8) 8)
      else (s.startOver p).setReg (R.PART_START_BEAT p) (BitVec.ofNat 64 (field b (16 * (p - 1) + 8) 8))) s

/-- A partition does not start (R82). -/
def State.startFail (s : State) (p h : Nat) : State := ((s.startOver p).record E.PART_START_FAIL 9 h [p]).setPartState p 3

/-- A lost core's mirror that survives runs alone (R82, R98). -/
def State.soloSurvivors (s : State) (p : Nat) : State :=
  if !s.isTwin p then s
  else each (s.coresOf p) (fun s c =>
    if s.alive c && !s.alive (mirror c) && s.f (R.CORE_STAT c) F.CORE_STAT_SOLO = 0 then s.goSolo c else s) s

/-- Core c of package q is a core of partition p that survives: in HALT here, or on a die of another package that no fence notice names. -/
def State.startUp (s : State) (p q c : Nat) : Bool :=
  if q = s.pkg then s.corePart c = p && s.coreState c = 1
  else (s.boot.cfg.ownersOf q).getD c 0 = p && !s.home.fencing.contains (q, dieOf c)

/-- The packages that hold cores of a partition, and package b, b first. -/
def State.startPkgs (s : State) (p b : Nat) : List Nat := b :: without (s.corePkgs p) [b]

/-- Some core of a partition has been lost (R82). -/
def State.coresLost (s : State) (p : Nat) : Bool :=
  (s.coresOf p).any (fun c => s.coreState c != 1) ||
    s.home.fencing.any fun e => e.1 != s.pkg && (coresOfDie e.2).any fun c => (s.boot.cfg.ownersOf e.1).getD c 0 = p

/-- A partition that has lost a core does not start: its flag forbids it, or no core survives (R82). -/
def State.noStart (s : State) (p : Nat) : Bool :=
  s.f (R.PART_INFO p) F.PART_INFO_ALLOW_DEGRADED = 0 ||
    !(s.startPkgs p s.pkg).any fun q => allCores.any fun c => s.startUp p q c

/-- The package and core that a partition starts on (R82): its boot core, or a substitute where ALLOW_DEGRADED permits one. The
lowest-numbered survivor is taken from the boot core's package before others: DESIGN CHOICE, log entry 86. -/
def State.startCore (s : State) (p pkg boot : Nat) : Option (Nat × Nat) :=
  if s.startUp p pkg boot && !s.coresLost p then some (pkg, boot)
  else if s.noStart p then none
  else if s.startUp p pkg boot then some (pkg, boot)
  else if s.isTwin p && s.startUp p pkg (mirror boot) then some (pkg, mirror boot)
  else (s.startPkgs p pkg).findSome? fun q => (allCores.find? fun c => s.startUp p q c).map fun c => (q, c)

/-- The boundary that begins a partition's start beat; entry is where its software begins. -/
def State.startPart (s : State) (p pkg boot entry : Nat) : State :=
  let h := hubOfDie (dieOf boot)
  let s := s.startOver p
  if s.partFenced p then s.startFail p h
  else match s.startCore p pkg boot with
    | none => s.startFail p h
    | some (q, c) =>
      let s := (s.setPartState p 2).soloSurvivors p
      if q != s.pkg then s
      else if s.paired p c then (s.enterRun (c % 120) entry).enterRun (c % 120 + 120) entry else s.enterRun c entry

/-- Step 9 of R66: the image buffers are cleared once every partition whose boot core lies here has started or failed. -/
def State.setPhase (s : State) (v : Nat) : State := s.onBoot fun k => { k with stat := F.BOOT_STAT_PHASE.set k.stat v }
def State.phase (s : State) : Nat := F.BOOT_STAT_PHASE.get s.boot.stat

def State.bufferClear (s : State) : State :=
  if s.phase = 6 && (s.boot.cfg.parts.all fun r => r.payload = [] || bootPkg r != s.pkg || s.boot.started.contains r.id) then
    (s.onBoot fun k => { k with copies := [], flashEnabled := s.sec.imgUpd.isSome, bufferCleared := true }).setPhase 7
  else s

/-! ## Admission (R285, R286) -/

/-- What follows this package's own admission. -/
def State.admitSelf (s : State) : State :=
  (((s.setF R.BEAT_SYNC F.BEAT_SYNC_ADOPTED 1).onCores fun k => { k with timeRead := 0 }).trigOff TRG_START).setPhase 6

/-- The tag of a hallmark: its first four digest bytes (R61). -/
def tagOf (d : Digest) : Nat := d.toNat / 2 ^ 352

/-- The packages this one receives hellos from that carry its own tag (HEARD, R279). -/
def State.peersHeard (s : State) : List Nat :=
  ((s.hellosLive.filter fun e => bits e.2 32 32 = tagOf s.beat.h0).map fun e => bits e.2 4 3).eraseDups

/-- The candidate set C: this package, the senders of hellos with its own tag that are not admitted, and the packages these hear. -/
def State.candidates (s : State) : Nat :=
  let l := s.hellosLive.filter fun e => bits e.2 32 32 = tagOf s.beat.h0 && bits e.2 10 1 = 0
  maskOf ((s.pkg :: l.map (fun e => bits e.2 4 3) ++ l.flatMap fun e => bitsOf (bits e.2 12 8) 8).eraseDups)

def State.admittedHeard (s : State) : Bool := s.hellosLive.any fun e => bits e.2 10 1 = 1

/-- The conditions of founding but their duration. -/
def State.mayFound (s : State) : Bool :=
  let c := bitsOf s.links.cand 8
  let l := s.listed
  s.phase = 5 && !s.links.h0Heard && c.head? = some s.pkg &&
    (decide (l.length < 2 * c.length) || (2 * c.length = l.length && c.head? = l.head?))

/-- At a boundary: the candidates, and the beats for which the founding conditions have held. -/
def State.foundTick (s : State) : State :=
  let s := s.onLinks fun k => { k with helloAge := each k.hellos (fun m e => m.upd e.1 (· + 1)) k.helloAge }
  let c := s.candidates
  let s := s.onLinks fun k => { k with cand := c, candSince := if c = k.cand then k.candSince else 0 }
  s.onLinks fun k => { k with candSince := if s.mayFound then k.candSince + 1 else 0 }

/-- A word from a fabric port: the sender's hello (R279, R285). -/
def State.helloIn (s : State) (p : Nat) (w : Word) : State :=
  if bits w 0 4 != 3 || !s.linkActive p then s
  else
    let ok := decide (bits w 4 3 = s.f (R.FP_PEER p) F.FP_PEER_PEER_PKG) && decide (bits w 7 3 = s.f (R.FP_PEER p) F.FP_PEER_PEER_PORT)
    let s := s.setF (R.FP_PEER p) F.FP_PEER_CONFIRMED ok.toNat
    let s := s.onLinks fun k => { k with hellos := k.hellos.put p w, helloAge := k.helloAge.del p }
    let c := s.candidates
    let s := if s.admitted = [] then s.setF R.BEAT_SYNC F.BEAT_SYNC_MASTER_ID s.master else s
    s.onLinks fun k => { k with cand := c, candSince := if c = k.cand then k.candSince else 0,
                                h0Heard := k.h0Heard || s.admittedHeard }

/-- SYSTEM_FOUND. -/
def State.found (s : State) : State :=
  if s.mayFound && 1024 ≤ s.links.candSince then ((s.setMembers [s.pkg]).admitSelf).scheduleStarts s.pkg else s

/-- A joining package sends its request to the master it hears. -/
def State.joinAsk (s : State) : State :=
  (s.onLinks fun k => { k with joinWait := some (s.now + 16) }).send (.join s.master 0 s.beat.h0)

def State.joinable (s : State) : Bool :=
  s.phase = 5 && s.links.h0Heard && s.f R.BEAT_SYNC F.BEAT_SYNC_ADOPTED = 1 && s.f R.BEAT_SYNC F.BEAT_SYNC_LOCKED = 1

/-- At a boundary: the first request of a package that may join. -/
def State.joinTick (s : State) : State := if s.joinable && s.links.joinWait.isNone then s.joinAsk else s

/-- JOIN_RETRY. -/
def State.joinAgain (s : State) : State :=
  match s.links.joinWait with
  | some b => if s.joinable && b ≤ s.now then s.joinAsk else s
  | none => s

def JOIN_DIVERGE : Nat := 2
def JOIN_BUSY : Nat := 3
def JOIN_FULL : Nat := 4

/-- A join ends without admission. -/
def State.joinOver (s : State) : State :=
  (s.setF R.SYS_STAT F.SYS_STAT_JOIN_BUSY 0).onLinks fun k => { k with join := none }

/-- The sponsor of package p's board. -/
def State.sponsorFor (s : State) (p : Nat) : Option Nat := (s.listed.filter fun q => s.boardOf q = s.boardOf p).find? fun q => s.admitted.contains q

/-- The sponsor shows the socket of a package whose hallmark differs in FAULT (R286). -/
def State.joinFault (s : State) (p : Nat) : State :=
  match s.isSponsor, s.socketOf p with
  | true, some i => s.setSkt i SK_FAULT
  | _, _ => s

/-- Step 3 of R286: the hallmark differs. The joining package is told, and the sponsor of its board (DESIGN CHOICE of the messages: log entry
93). -/
def State.joinRefuse (s : State) (src : Nat) : State :=
  let s := ((s.record E.HALLMARK_DIVERGE 14 src).send (.join src JOIN_DIVERGE s.beat.h0)).joinFault src
  match s.sponsorFor src with
  | some q => if q = s.pkg then s else s.send (.join q JOIN_DIVERGE s.beat.h0)
  | none => s

/-- The log so far has been sent to a joining package: it returns the hallmark that results. An empty ticket stands for its end (log entry 93). -/
def State.logEnd (s : State) (src : Nat) : State :=
  (s.onLinks fun k => { k with join := k.join.map fun j => { j with ready := false, ends := j.ends + 1 } }).send (.ticket src 16 [] 0)

/-- JOIN_REQUEST at the master; at a sponsor that is not the master, the master's notice that a package's hallmark differs. -/
def State.joinReq (s : State) (src : Nat) (h0 : Digest) : State :=
  if !s.isMaster && s.isSponsor && !s.admitted.contains src && h0 != s.beat.h0 then s.joinFault src
  else if !s.isMaster || !s.admitted.contains s.pkg || !s.listed.contains src || s.admitted.contains src then s
  else if h0 != s.beat.h0 then s.joinRefuse src
  else if s.anyPeal || s.links.join.isSome then s.send (.join src JOIN_BUSY h0)
  else if 4096 < s.links.ticketLog.length then (s.record E.JOIN_LOG_FULL 14 src).send (.join src JOIN_FULL h0)
  else
    let s := (s.setF R.SYS_STAT F.SYS_STAT_JOINING src).setF R.SYS_STAT F.SYS_STAT_JOIN_BUSY 1
    let s := s.onLinks fun k => { k with join := some { pkg := src, h0 := h0, ready := false, ends := 0 } }
    (each s.links.ticketLog (fun s t => s.send (.ticket src 16 t 0)) s).logEnd src

/-- The join Peal is armed once no other Peal is. -/
def State.joinArm (s : State) : State :=
  match s.links.join with
  | some j => if j.ready && !s.anyPeal then s.tryPeal s.pkg s.earliest { kind := 2, body := s.startTable, arg := j.pkg + 8 * maskOf s.admitted } else s
  | none => s

/-- JOIN_LOG_DONE at the master: the hallmark that the joining package's replay gave; a ticket applied meanwhile has a later end of the log. At the
joining package it is the master's refusal of step 3, which writes its record there too. -/
def State.joinLog (s : State) (src : Nat) (h : Digest) : State :=
  if !s.admitted.contains s.pkg then
    (if s.links.joinWait.isSome && src = s.master then s.record E.HALLMARK_DIVERGE 14 s.pkg else s)
  else match s.links.join with
  | some j =>
    if j.pkg != src || j.ready || j.ends = 0 then s
    else if 1 < j.ends then s.onLinks fun k => { k with join := some { j with ends := j.ends - 1 } }
    else if h != s.beat.hallmark.getD 0 0 then (s.joinRefuse src).joinOver
    else (s.onLinks fun k => { k with join := some { j with ready := true, ends := 0 } }).joinArm
  | none => s

/-- A Peal of kind 2 applies: package p is a member beside those of a mask. -/
def State.joinMembers (s : State) (p mask : Nat) : State :=
  (s.setMembers ((List.range 8).filter fun q => s.admitted.contains q || q = p || (p = s.pkg && bit mask q))).joinOver

/-- Packages that meet at an admission tell each other which of their dies are fenced (DESIGN CHOICE, log entry 86). -/
def State.tellFences (s : State) (qs : List Nat) : State :=
  each (allDies.filter s.dieFenced) (fun s d => each qs (fun s q => s.send (.fence q d false)) s) s

/-- What an admission changes in the homes and the partitions of this package; body: how the partitions stand. -/
def State.admitPackage (s : State) (p : Nat) (body : List Byte) : State :=
  let s := if p = s.pkg then (s.admitSelf.takeStarts body).tellFences s.others else s.tellFences [p]
  let s := s.modeEnter.onHome fun q => { q with scopeAll := true }
  s.scheduleStarts p

/-! ## Loss of a package (R292 to R294) -/

/-- This package suspects one: it tells the master, or the lowest-numbered other package where the master is suspected. -/
def State.suspect (s : State) (p : Nat) : State :=
  if !s.admitted.contains p then s
  else
    let m := (s.admitted.filter fun q => q != p && !s.links.suspects.contains q).headD s.pkg
    if m = s.pkg then s.onLinks fun k => { k with suspects := addOnce k.suspects p }
    else (s.onLinks fun k => { k with suspects := addOnce k.suspects p }).send (.suspect m p)

/-- Free the proxy entries of lines homed in a lost package; the dies' copies go without write-back. -/
def State.dropProxies (s : State) (p : Nat) : State :=
  each [0, 1] (fun s h =>
    each ((s.dirLines h).filter fun l => pkgOfLine l = p) (fun s l =>
      let s := each allDies (fun s d => s.dropLine d l) s
      s.dirFree h l) s) s

def State.lostRecord (s : State) (kind unit part line : Nat) : State :=
  s.record E.PKG_LOST_ACCESS kind unit [part] (some (line * 64))

/-- Every request outstanding to a lost package ends in a bus error. -/
def State.failLost (s : State) (p : Nat) : State :=
  let far (l : Nat) : Bool := l < 2 ^ 40 && pkgOfLine l = p
  let ms := s.cache.dcMiss.filter fun m => far m.line
  let s := each ms (fun s m => (s.missFail m).lostRecord 1 m.die m.part m.line) s
  let toward (q : Direct) : Bool := (s.directMsg q).dst.pkg = p
  let ds := s.cache.direct.filter toward
  let s := each ds (fun s q =>
    let s := s.lostRecord 0 q.acc.core q.acc.part q.line
    s.errDone { (default : CMsg) with op := .busErr, line := q.line, dst := { pkg := s.pkg, unit := q.unit }, txn := q.txn }) s
  let s := each (List.range 32) (fun s k =>
    match ((s.pcie.segs.get k).dma).head? with
    | some m => if m.dst.pkg = p && m.txn != noSlot then (s.lostRecord 4 k m.part m.line).dmaEnd k none false else s
    | none => s) s
  each (List.range 66) (fun s a =>
    match (s.agentQ a).head? with
    | some m =>
      if m.dst.pkg = p && m.txn != noSlot then (s.lostRecord (if a < 64 then 11 else 2) (if a < 64 then a else a - 64) m.part m.line).agentEnd a none
      else s
    | none => s) s

/-- LINK_STAT.HELD of every link that holds nothing any more reads 0 (R276). -/
def State.heldStat (s : State) : State :=
  each (List.range 21) (fun s l => if s.links.held.any fun e => e.1 = l then s else s.setF (R.LINK_STAT l) F.LINK_STAT_HELD 0) s

/-- Messages held for a lost package, and flits on their way to it through this one. -/
def State.dropTransit (s : State) (p : Nat) : State :=
  let lostTo (m : CMsg) : Bool := m.dst.pkg = p
  let l := ((s.fab.transit.map (·.2)).filter lostTo) ++ ((s.links.held.map (·.2)).filter lostTo)
  let s := s.onFab fun f => { f with transit := f.transit.filter fun e => !lostTo e.2 }
  let s := (s.onLinks fun k => { k with held := k.held.filter fun e => !lostTo e.2 }).heldStat
  let s := s.onPwr fun q => { q with heldIo := q.heldIo.filter (fun m => !lostTo m),
                                     restPkgs := q.restPkgs.filter (· != p) }
  let s := { s with sent := s.sent.filter fun m => match m with | .coh q => !lostTo q | _ => true }
  each l (fun s m =>
    if m.src.pkg = s.pkg || !(vcOf m = 0 || vcOf m = 1 || vcOf m = 6) then s
    else (s.lostRecord 14 p m.part m.line).send (.coh { (default : CMsg) with op := .busErr, line := m.line, src := m.dst, dst := m.src,
                                                                              txn := m.txn, part := m.part })) s

/-- The package is no participant of a Peal whose verdict has not been given. -/
def State.pealForget (s : State) (p : Nat) : State :=
  each (List.range 4) (fun s i =>
    let q := s.beat.slots.get i
    if q.valid && q.decided.isNone then s.setSlot i { q with
      waitPkgs := q.waitPkgs.filter (· != p), missing := q.missing.filter fun e => e.1 != p } else s) s

/-- The declaration reaches this package. -/
def State.lostApply (s : State) (p beat : Nat) : State :=
  if !s.admitted.contains p || p = s.pkg then s
  else
    let s := (s.setMembers (without s.admitted [p])).setF R.SYS_STAT F.SYS_STAT_LOST (s.f R.SYS_STAT F.SYS_STAT_LOST ||| 2 ^ p)
    let s := s.onLinks fun k => { k with suspects := k.suspects.filter (· != p), lostAt := k.lostAt.put p (beat + 1) }
    let s := ((s.failLost p).dropTransit p).dropProxies p
    let s := each [0, 1] (fun s h =>
      let s := s.onHome fun q => { q with fenceWalk := addOnce q.fenceWalk h }
      let s := s.setF (R.FENCE_STAT h) F.FENCE_STAT_PKG_LOST (s.f (R.FENCE_STAT h) F.FENCE_STAT_PKG_LOST ||| 2 ^ p)
      (s.setF (R.FENCE_STAT h) F.FENCE_STAT_WALK_BUSY 1).fenceTxns h) s
    let s := ((s.tlbiDrop fun e => e.1 = p).pealForget p).dropFar p
    let s := s.setF R.REST_STAT F.REST_STAT_RESTING (clearBit (s.f R.REST_STAT F.REST_STAT_RESTING) p)
    s.onSec fun q => { q with ticket := q.ticket.map fun t => { t with waitPkgs := t.waitPkgs.filter (· != p) } }

/-- R293: declare a set lost, where the remaining set has quorum; else that set fences itself. -/
def State.declareLost (s : State) (ps : List Nat) : State :=
  let ps := ps.filter s.admitted.contains
  if ps = [] then s
  else
    let rem := without s.admitted ps
    let ok := decide (s.admitted.length < 2 * rem.length) || (2 * rem.length = s.admitted.length && rem.head? = s.admitted.head?)
    if ok then
      each ps (fun s p =>
        let mask := s.pkgParts p
        let s := each (without rem [s.pkg]) (fun s q => s.send (.lost q p s.now)) s
        (s.lostApply p s.now).raiseGong E.PKG_LOST 14 p mask) s
    else (each (without rem [s.pkg]) (fun s q => s.send (.lost q (8 + ps.headD 0) s.now)) s).selfFence E.PKG_QUORUM_LOST 14 (ps.headD 0)

/-- At a boundary: the package that declares acts on what is suspected. -/
def State.lossTick (s : State) : State :=
  if s.links.suspects = [] then s
  else if (without s.admitted s.links.suspects).head? = some s.pkg then s.declareLost s.links.suspects else s

/-! ## Planned leave and detachment (R291) -/

/-- Recall the lines of a package that this package's dies hold. -/
def State.recallPkg (s : State) (p : Nat) : State :=
  each [0, 1] (fun s h =>
    each ((s.dirLines h).filter fun l => pkgOfLine l = p) (fun s l => s.recallVictim h 0 l (s.dirEnt h l) none) s) s

/-- No proxy entry of a line of a package is left. -/
def State.proxiesFree (s : State) (p : Nat) : Bool := [0, 1].all fun h => !(s.dirLines h).any fun l => pkgOfLine l = p

/-- At the target beat of the leave's entry Peal. -/
def State.leaveBegin (s : State) (p : Nat) : State :=
  let s := (s.setTrig TRG_LEAVE true).onLinks fun k => { k with leave := some (p, 1, 0), leaveDone := [] }
  let s := match s.isSponsor, s.socketOf p with
    | true, some i => (s.setSkt i SK_LEAVING).blink i
    | _, _ => s
  if p = s.pkg then each (allDies.filter fun d => s.dieState d = 2) (fun s d => s.beginDrain d 2) s else s.recallPkg p

/-- LEAVE_DRAINED at the master. -/
def State.leaveArm (s : State) : State :=
  match s.links.leave with
  | some (p, 2, _) => if s.pealSlots.any fun e => e.2.change.kind = 3 then s
      else s.tryPeal s.pkg s.earliest { kind := 3, body := [], arg := p }
  | _ => s

/-- This package's part of the drain is complete: the leaving package's hubs hold no valid directory entry, any other's no proxy entry of its
lines (R291 step 3). -/
def State.leaveDrained (s : State) (p : Nat) : Bool := if p = s.pkg then [0, 1].all fun h => s.dirLines h = [] else s.proxiesFree p

/-- Every package's report is in: the master arms the detach Peal. -/
def State.leaveGo (s : State) : State :=
  match s.links.leave with
  | some (p, 1, n) =>
    if s.isMaster && s.admitted.all s.links.leaveDone.contains then (s.onLinks fun k => { k with leave := some (p, 2, n) }).leaveArm else s
  | _ => s

/-- A package's drained report reaches the master: that of the leaving package, or another's that its proxy entries are freed. -/
def State.leaveReady (s : State) (src : Nat) : State :=
  if !s.isMaster || (src = s.pkg && !(s.links.leave.any fun e => s.leaveDrained e.1)) then s
  else (s.onLinks fun k => { k with leaveDone := addOnce k.leaveDone src }).leaveGo

/-- At a boundary a package reports its part of the drain once. -/
def State.leaveTick (s : State) : State :=
  match s.links.leave with
  | some (p, 1, _) =>
    if s.links.leaveDone.contains s.pkg || !bit (s.f (R.HOME_MODE 0) F.HOME_MODE_TRIGGERS) TRG_LEAVE || !s.leaveDrained p then s.leaveGo
    else if s.isMaster then s.leaveReady s.pkg
    else (s.onLinks fun k => { k with leaveDone := addOnce k.leaveDone s.pkg }).send (.leaveDone s.master)
  | _ => s

/-- The planned leave is over: its trigger ends in this package's homes. -/
def State.leaveEnd (s : State) : State := (s.setTrig TRG_LEAVE false).onLinks fun k => { k with leave := none }

/-- A Peal of kind 3 applies: package p is no member. -/
def State.detachMembers (s : State) (p : Nat) : State :=
  let lone := (s.boardPkgs.filter s.admitted.contains) = [p]
  if p = s.pkg then
    let s := s.setMembers []
    let s := each (List.range 8) (fun s n => if s.linkState n = LK_UNUSED then s else (s.setLink n LK_DOWN).linkClear n) s
    let s := (s.setF R.CLKD_ON F.CLKD_ON_ON (2 ^ 62 + 2 ^ 63)).onBoot fun k => { k with detached := true }
    if lone then (s.setF (R.SKT_STAT (s.pkg % 4)) F.SKT_STAT_PWR_EN 0).send (.pin "PWR_EN" (s.pkg % 4) false) else s
  else
    let s := ((s.setMembers (without s.admitted [p])).tlbiDrop fun e => e.1 = p).dropFar p
    match s.isSponsor, s.socketOf p with
    | true, some i => ((s.setSkt i SK_DETACHED).led i true).onLinks fun k => { k with pwrEnDrop := addOnce k.pwrEnDrop (i, s.now + 1) }
    | false, some i => s.onLinks fun k => { k with pwrEnDrop := addOnce k.pwrEnDrop (i, s.now + 1) }
    | _, none => s

/-- A leave that does not come about: the socket is ADMITTED. -/
def State.sktStay (s : State) (p : Nat) : State :=
  match s.isSponsor, s.socketOf p with
  | true, some i => if s.sktState i = SK_LEAVING then (s.setSkt i SK_ADMITTED).led i false else s
  | _, _ => s

/-- A Peal of kind 3 is cancelled: it is armed again, and abandoned after three cancellations. -/
def State.leaveCancel (s : State) (p : Nat) : State :=
  match s.links.leave with
  | some (q, st, n) =>
    if q != p then s
    else if 2 ≤ n then
      let s := (s.setTrig TRG_LEAVE false).onLinks fun k => { k with leave := none }
      (if s.isMaster then s.record E.LEAVE_FAILED 14 p else s).sktStay p
    else s.onLinks fun k => { k with leave := some (q, st, n + 1) }
  | none => s

/-- The command or press that begins a planned leave: its entry Peal is requested of the master. -/
def State.leaveAsk (s : State) (i : Nat) : State :=
  match s.socketPkg i with
  | some p => s.requestPeal s.earliest { kind := 1, body := [], arg := 1 + 32 * (p + 1) }
  | none => s

/-! ## Route changes (R284) -/

/-- A Peal of kind 4 applies: port fn of package fp has failed. -/
def State.routeChange (s : State) (fp fn : Nat) : State :=
  let pairs := s.listed.flatMap fun p => (s.listed.filter (· != p)).map fun d => (p, d)
  let mv := pairs.filter fun e => s.routeUses e.1 e.2 fp fn && (s.routeByte e.1 e.2).testBit 6 && !s.links.moved.contains e
  let s := s.onLinks fun k => { k with
    moved := k.moved ++ mv, failedPorts := addOnce k.failedPorts (fp, fn), portReports := k.portReports.erase (fp * 8 + fn) }
  let s := s.setRoutes
  let held := if fp = s.pkg then s.links.held.filter fun e => e.1 = fn else []
  let s := if fp = s.pkg then (s.onLinks fun k => { k with held := k.held.filter fun e => e.1 != fn }).setF (R.LINK_STAT fn)
    F.LINK_STAT_HELD 0 else s
  let s := each held (fun s e => s.send (.coh e.2)) s
  let s := each (mv.filter fun e => e.1 = s.pkg) (fun s e => s.ioFreeze e.2) s
  let cut := pairs.filter fun e => s.admitted.contains e.1 && s.admitted.contains e.2 && !s.routeUsable e.1 e.2
  if s.isMaster then
    each cut (fun s e =>
      if s.admitted.contains (max e.1 e.2) then (s.record E.PKG_UNREACHABLE 14 (max e.1 e.2)).declareLost [max e.1 e.2] else s) s
  else s

/-! ## The changes of Peals (R57 step 5) -/

/-- A committed change of kind 1: the homes in its scope enter owner-ordered mode, or return from it (R223, R224). -/
def State.modeChange (s : State) (c : Change) : State :=
  let s := if s.inScope c then s.onHome fun q => { q with modeReq := false } else s
  if c.arg % 2 = 1 then
    let s := if s.inScope c then s.modeEnter else s
    let s := if c.arg / 2 % 16 = 0 then s.onHome fun q => { q with scopeAll := true } else s
    match leaving c with
    | some p => s.leaveBegin p
    | none => s
  else if s.inScope c then
    ((s.setF (R.HOME_MODE 0) F.HOME_MODE_MODE 0).setF (R.HOME_MODE 1) F.HOME_MODE_MODE 0).onHome fun q =>
      { q with scopeAll := false, passed := [] }
  else s

/-- What a change that is no ticket makes of this package's hubs and dies. -/
def State.changeEffect (s : State) (c : Change) : State :=
  match c.kind with
  | 1 => s.modeChange c
  | 2 => s.admitPackage (c.arg % 8) c.body
  | 3 => s.leaveEnd
  | 4 => s.routeChange (c.arg / 8) (c.arg % 8)
  | _ => s

end Sys2Proof.Machine
end

