-- ==== Sys2Proof/Machine/CryptoOps.lean ====
section
/-! DEFINITION. The crypto service (chapter 12): Island agreement (R307), key slots and key blocks (R341 to R343), tokens (R344 to
R346), rings, issue and completion (R331 to R336). -/

namespace Sys2Proof.Machine

/-! ## The Island pair (R307) -/

/-- The Islands reach different results: the operation is refused; the third refusal in a row fences the package. -/
def State.disagree (s : State) : State :=
  let n := s.sec.disagreeRow + 1
  let s := (s.incF R.MB_INFO F.MB_INFO_DISAGREE).record E.ISLAND_DISAGREE 8 0
  let s := s.onSec fun q => { q with disagreeRow := n }
  if 3 ≤ n && !s.beat.selfFenced then s.selfFence E.ISLAND_FAULT 8 0 else s

/-- A command within which the Islands' results of what it has them compute are equal, or differ (R307). -/
def State.comparing (s : State) (agree : Bool) (act : State → State) : State :=
  (act (s.onSec fun q => { q with differ := !agree })).onSec fun q => { q with differ := false }

def State.agreed (s : State) : State := s.onSec fun q => { q with disagreeRow := 0 }

/-- n bytes from the random source: free values. -/
def State.randomBytes : Nat → State → List Byte × State
  | 0, s => ([], s)
  | n + 1, s =>
    let b : Byte := s.free.setWidth 8
    let (r, s) := State.randomBytes n s.tick
    (b :: r, s)

/-! ## Keys (R341 to R343) -/

/-- A partition's key slot; a number beyond 1023 names none (R341). -/
def State.keySlot (s : State) (p slot : Nat) : KeyEnt := if slot < 1024 then s.crypto.keys.get (p * 1024 + slot) else default
def State.setKey (s : State) (p slot : Nat) (k : KeyEnt) : State := s.onCrypto fun c => { c with keys := c.keys.put (p * 1024 + slot) k }

def KeyEnt.empty (k : KeyEnt) : Bool := k.header = []
def KeyEnt.byte (k : KeyEnt) (i : Nat) : Nat := (k.header.getD i 0).toNat
/-- Key usage: header characters 5 and 6. -/
def KeyEnt.usage (k : KeyEnt) : Nat := k.byte 5 * 256 + k.byte 6
/-- Algorithm: header character 7. -/
def KeyEnt.alg (k : KeyEnt) : Nat := k.byte 7
/-- Mode of use: header character 8. -/
def KeyEnt.mode (k : KeyEnt) : Nat := k.byte 8
/-- Exportability: header character 11. -/
def KeyEnt.export (k : KeyEnt) : Nat := k.byte 11

/-- Two ASCII characters as KeyEnt.usage gives them. -/
def ascii2 (a b : Char) : Nat := a.toNat * 256 + b.toNat
def algA : Nat := 'A'.toNat
def algT : Nat := 'T'.toNat
def algR : Nat := 'R'.toNat
def algE : Nat := 'E'.toNat
def algH : Nat := 'H'.toNat

/-- The pairs of usage and algorithm of R341. -/
def usageOk (u a : Nat) : Bool :=
  (u = ascii2 'B' '0' && a = algA) || (u = ascii2 'D' '0' && (a = algA || a = algT)) || (u = ascii2 'D' '1' && a = algR) ||
  (u = ascii2 'K' '1' && a = algA) || (u = ascii2 'M' '1' && (a = algA || a = algT)) || (u = ascii2 'M' '3' && a = algT) ||
  (u = ascii2 'M' '6' && a = algA) || (u = ascii2 'M' '7' && a = algH) || (u = ascii2 'P' '0' && (a = algA || a = algT)) ||
  (u = ascii2 'S' '0' && (a = algR || a = algE))

/-- The decimal value of ASCII digits. -/
def asciiNum (l : List Byte) : Option Nat :=
  l.foldl (fun a b => a.bind fun n => if 48 ≤ b.toNat && b.toNat ≤ 57 then some (n * 10 + (b.toNat - 48)) else none) (some 0)

/-- The hexadecimal value of ASCII characters. -/
def asciiHex (l : List Byte) : Option Nat :=
  l.foldl (fun a b => a.bind fun n =>
    if 48 ≤ b.toNat && b.toNat ≤ 57 then some (n * 16 + (b.toNat - 48))
    else if 65 ≤ b.toNat && b.toNat ≤ 70 then some (n * 16 + (b.toNat - 55)) else none) (some 0)

/-- The length of n optional blocks that open a byte string: each is a 2-character identifier and a 2-character length. -/
def optLen : Nat → List Byte → Option Nat
  | 0, _ => some 0
  | n + 1, l =>
    match asciiHex (slice l 2 2) with
    | some k => if k < 4 || l.length < k then none else (optLen n (l.drop k)).map (· + k)
    | none => none

/-- A supported header: version D, a usage with its algorithm. -/
def headerOk (h : List Byte) : Bool :=
  let k : KeyEnt := { header := h, opt := [], key := [] }
  h.length = 16 && k.byte 0 = 'D'.toNat && usageOk k.usage k.alg

/-- A key of a kind and length that R338 supports. -/
def keyLenOk (k : KeyEnt) : Bool :=
  let n := k.key.length
  if k.alg = algA then n = 32 || (k.usage != ascii2 'K' '1' && (n = 16 || n = 24))
  else if k.alg = algT then n = 16 || (k.usage != ascii2 'M' '3' && n = 24)
  else if k.alg = algH then between n 16 128
  else if k.alg = algR then (Config.asymKind k.key).val < 3
  else 3 ≤ (Config.asymKind k.key).val

/-- Open an X9.143 key block under a protection key: none where its header is not supported, its MAC fails, or its key is of a length that R338
leaves out: R342 gives no code of its own for that, and the block counts as not supported (DEDUCED, log entry 24). -/
def openBlock (prot : List Byte) (b : List Byte) : Option KeyEnt :=
  let h := b.take 16
  if !headerOk h then none
  else match (asciiNum (slice h 12 2)).bind fun n => optLen n (b.drop 16) with
    | some n => if 256 < n then none else ((Config.kbOpen prot b).map fun k => ({ header := h, opt := slice b 16 n, key := k } : KeyEnt)).filter keyLenOk
    | none => none

/-- Open a CRYPTO_KEYS or KEY_IMPORT blob for a partition's slot (R343). -/
def openBlob (p slot : Nat) (blob : List Byte) : Option KeyEnt :=
  if blob.length < 112 then none else openBlock (Config.importKey (blob.take 96) p slot) (blob.drop 96)

/-! ## Tokens (R344 to R346) -/

def State.cap7 (s : State) : Nat := 24 * s.f R.BEAT_CFG F.BEAT_CFG_N / 100
def State.mhz (s : State) (l : Nat) : Nat := match s.boot.cfg.perf[l]? with | some (m, _) => m | none => 0
/-- The capacity of the current beat. -/
def State.cryptoCap (s : State) : Nat := s.cap7 * s.mhz (min (s.level 12) (s.level 13)) / s.mhz 7
def State.cryptoTokens (s : State) (p : Nat) : Nat := match s.boot.cfg.parts.find? fun r => r.id = p with | some r => r.crypto | none => 0
/-- S of a partition. -/
def State.cryptoShare (s : State) (p : Nat) : Nat := s.cryptoTokens p * s.cryptoCap / s.cap7

/-- Step 3 of R50 at the crypto service. -/
def State.refillTokens (s : State) : State :=
  let s := s.onCrypto fun c => { c with
    counts := each parts15 (fun m p => m.put p ((s.cryptoShare p : Int) + min (c.counts.get p) 0)) c.counts
    spare := s.cryptoCap - sumOf (parts15.map s.cryptoShare), capNow := s.cryptoCap }
  s.onCrypto fun c => { c with rings := c.rings.map fun e => (e.1, { e.2 with tokWait := false }) }

/-! ## Descriptors -/

/-- The slot that a descriptor writes or erases. -/
def slotWritten (d : BitVec 512) : Option Nat :=
  if dOp d = 0x0A || dOp d = 0x0B then some (dKeyB d) else if dOp d = 0x0D then some (dKeyA d) else none

/-- The slots a descriptor names. -/
def slotsNamed (d : BitVec 512) : List Nat :=
  let o := dOp d
  (if o = 2 || o = 6 || o = 0x0A then [] else [dKeyA d]) ++ (if o = 5 || o = 0x0A || o = 0x0B || o = 0x0C then [dKeyB d] else [])

def blocks64 (n : Nat) : Nat := (n + 63) / 64

/-- The asymmetric table of R337. -/
def asymCost (kind : Nat) (priv : Bool) : Nat :=
  match kind with
  | 0 => if priv then 2400 else 60
  | 1 => if priv then 7200 else 130
  | 2 => if priv then 16000 else 200
  | 3 => if priv then 480 else 960
  | 4 => if priv then 960 else 1920
  | _ => if priv then 300 else 720

/-- The token cost of a descriptor under key A. -/
def descCost (d : BitVec 512) (k : KeyEnt) : Nat :=
  let b := blocks64 (dSrcLen d)
  let t := decide (k.alg = algT)
  let kind := (Config.asymKind k.key).val
  let hashed := if (dParam d).testBit 8 then 0 else b
  match dOp d with
  | 0x01 => 2 + (if t then 3 else 1) * b
  | 0x02 => 1 + b
  | 0x03 | 0x04 => 3 + (if t then 3 else 1) * b + (if (dParam d).testBit 15 then 4 else 0)
  | 0x05 => 6 + (if (dParam d).testBit 8 then 4 else 0)
  | 0x06 => 1 + b
  | 0x07 => asymCost kind true + hashed
  | 0x08 => asymCost kind false + hashed
  | 0x09 => asymCost kind ((dParam d).testBit 0)
  | 0x0A => 20
  | 0x0B | 0x0C => 40
  | 0x0D => 1
  | 0x0E | 0x0F => 2
  | _ => 0

/-! ## Rings -/

def State.ringOn (s : State) (r : Nat) : Bool :=
  s.f (R.RING_CTL r) F.RING_CTL_EN = 1 && !s.halted r && s.ringOwner r != 0 && s.f R.REST_STAT F.REST_STAT_STATE < 2

/-- Slots from HEAD to a counter value. -/
def State.fromHead (s : State) (r c : Nat) : Nat := (c % 65536 + 65536 - s.f (R.RING_HEAD r) F.RING_HEAD_HEAD) % 65536

/-- The slots from HEAD up to TAIL are the ring's (R332): what was fetched from TAIL on, where TAIL has been written back, is abandoned. -/
def State.fetchesTo (s : State) (r : Nat) : State :=
  let n := s.fromHead r (s.f (R.RING_TAIL r) F.RING_TAIL_TAIL)
  let h := s.ringH r
  if s.fromHead r h.fetchAt ≤ n then s
  else (s.setRing r { h with fetched := h.fetched.filter (fun d => decide (s.fromHead r d.seq < n)), fetchAt := s.f (R.RING_TAIL r) F.RING_TAIL_TAIL }).agentDrop r
    fun m => m.fwd.pkg = A_FETCH && n ≤ s.fromHead r m.fwdTxn

/-- A write to RING_TAIL (R332). -/
def State.ringTailOp (s : State) (w : Who) (r tail : Nat) : State :=
  s.csGuard w (R.RING_TAIL r) 8 (some (BitVec.ofNat 64 tail)) fun s =>
    let s := s.setF (R.RING_TAIL r) F.RING_TAIL_TAIL tail
    let head := s.f (R.RING_HEAD r) F.RING_HEAD_HEAD
    let s := if 256 < (tail % 65536 + 65536 - head) % 65536 then
        (s.ringHalt r 2).record E.CRYPTO_RING_OVERRUN 11 r [s.ringOwner r] else s.fetchesTo r
    s.whoReply w 0

/-- A write to RING_CTL (R333). -/
def State.ringCtlOp (s : State) (w : Who) (r : Nat) (v : Word) : State :=
  s.csGuard w (R.RING_CTL r) 8 (some v) fun s =>
    let was := s.f (R.RING_CTL r) F.RING_CTL_EN
    let s := s.plainWrite (R.RING_CTL r) v (s.whoPart w)
    let en := F.RING_CTL_EN.get v
    let tail := s.f (R.RING_TAIL r) F.RING_TAIL_TAIL
    let s := if was = 0 && en = 1 then
        let s := (s.setF (R.RING_HEAD r) F.RING_HEAD_HEAD tail).setF (R.RING_HEAD r) F.RING_HEAD_DONE tail
        let s := (s.setF (R.RING_STAT r) F.RING_STAT_HALTED 0).setF (R.RING_STAT r) F.RING_STAT_HALT_CAUSE 0
        let s := s.dropFetches r
        s.setRing r { s.ringH r with fetchAt := tail }
      else if en = 0 then s.dropFetches r
      else s
    s.whoReply w 0

/-- RING_FETCH: the front reads the next slots, at most n, as the ring's owner (R299, R332). -/
def State.ringFetchOp (s : State) (r n : Nat) : State :=
  let h := s.ringH r
  let k := min n (s.fromHead r (s.f (R.RING_TAIL r) F.RING_TAIL_TAIL) - s.fromHead r h.fetchAt)
  if !s.ringOn r then s
  else
    let ms := (List.range k).map fun i =>
      s.agentMsg r false (s.slotPa r ((h.fetchAt + i) % 65536)) 64 (s.ringOwner r) A_FETCH ((h.fetchAt + i) % 65536) 0
    (s.setRing r { h with fetchAt := (h.fetchAt + k) % 65536 }).agentPush r ms

/-! ## Issue (R335, R346) -/

/-- Descriptors in execution in all. -/
def State.inExec (s : State) : Nat := sumOf (s.crypto.rings.map fun e => e.2.exec.length)

/-- The next descriptor of a ring, if nothing but tokens holds it back. -/
def State.issuable (s : State) (r : Nat) : Option DescH :=
  let h := s.ringH r
  match h.fetched with
  | [] => none
  | d :: _ =>
    let busy := h.exec.any fun x => match slotWritten x.bytes with | some k => (slotsNamed d.bytes).contains k | none => false
    let order := (dFlags d.bytes).testBit 1 && h.exec != []
    if !s.ringOn r || s.partFenced (s.ringOwner r) || 8 ≤ h.exec.length || 32 ≤ s.inExec || busy || order then none else some d

def State.costOf (s : State) (r : Nat) (d : DescH) : Nat := descCost d.bytes (s.keySlot (s.ringOwner r) (dKeyA d.bytes))

def State.canPay (s : State) (p cost : Nat) : Bool := decide (0 < s.crypto.counts.get p) || decide (cost ≤ s.crypto.spare)

/-- The rings of partition p at a front, starting after the one served last. -/
def State.frontRings (s : State) (front p : Nat) : List Nat :=
  let l := ((List.range 2).map fun i => 4 * p + 2 * front + i).filter fun r => s.ringOwner r = p
  let after := l.filter fun r => s.crypto.lastRing.get (front * 16 + p) < r + 1
  after ++ l.filter fun r => !after.contains r

/-- The ring of partition p that may issue at a front. -/
def State.ringToIssue (s : State) (front p : Nat) : Option (Nat × DescH) :=
  (s.frontRings front p).findSome? fun r => match s.issuable r with
    | some d => if s.canPay p (s.costOf r d) then some (r, d) else none
    | none => none

/-- The partitions eligible at a ring front. -/
def State.frontParts (s : State) (front : Nat) : List Nat := parts15.filter fun p => (s.ringToIssue front p).isSome

/-- The rings whose next descriptor waits for tokens: counted once a beat. -/
def State.tokenWaits (s : State) (front : Nat) : State :=
  each parts15 (fun s p =>
    each (s.frontRings front p) (fun s r =>
      match s.issuable r with
      | some d =>
        if s.canPay p (s.costOf r d) || (s.ringH r).tokWait then s
        else (s.incF (R.RING_CNT r) F.RING_CNT_TOKEN_WAITS).setRing r { s.ringH r with tokWait := true }
      | none => s) s) s

/-- Step 3 of R50: a descriptor that has waited in the beat now over is counted (R348), and the tokens of the next are set. -/
def State.cryptoRefill (s : State) : State := ((s.tokenWaits 0).tokenWaits 1).refillTokens

/-- The operations with a source. -/
def hasSrc (o : Nat) : Bool := between o 1 5 || between o 7 0x0B

/-- The lengths, flags and key slots that every operation allows (R334, R337). -/
def lensOk (d : BitVec 512) : Bool :=
  dSrcLen d ≤ 65536 && dDstLen d ≤ 65536 && dFlags d < 4 && (slotsNamed d).all fun k => k < 1024

/-- The reads that a descriptor needs, as its owner: its source, and for VERIFY the signature at DST_PA (R337). -/
def State.descReads (s : State) (r : Nat) (d : DescH) : List CMsg :=
  let p := s.ringOwner r
  let o := dOp d.bytes
  let get (pa len kind : Nat) : List CMsg := (linePieces (len / 64 + 2) pa len).map fun e => s.agentMsg r false e.1 e.2 p kind d.seq 0
  if !lensOk d.bytes || !hasSrc o then []
  else get (dSrcPa d.bytes) (dSrcLen d.bytes) A_SRC ++ if o = 8 then get (dDstPa d.bytes) (dDstLen d.bytes) A_SIG else []

/-- The front issues the next descriptor of partition p: its keys are read, and its source is asked for (R335). One with no operation
ends at once (log entry 23). -/
def State.issueDesc (s : State) (front p : Nat) : State :=
  match s.ringToIssue front p with
  | none => s
  | some (r, d) =>
    let cost := s.costOf r d
    let s := if 0 < s.crypto.counts.get p then s.onCrypto fun c => { c with counts := c.counts.put p (c.counts.get p - cost) }
      else s.onCrypto fun c => { c with spare := c.spare - cost }
    let h := s.ringH r
    let ms := s.descReads r d
    let x : DescH := { d with keyA := s.keySlot p (dKeyA d.bytes), keyB := s.keySlot p (dKeyB d.bytes), need := ms.length }
    let s := s.setRing r { h with fetched := h.fetched.drop 1, exec := h.exec ++ [x] }
    let s := (s.wrapF (R.RING_HEAD r) F.RING_HEAD_HEAD).setF (R.RING_STAT r) F.RING_STAT_IDLE 0
    let s := s.onCrypto fun c => { c with lastRing := c.lastRing.put (front * 16 + p) (r + 1) }
    let o := dOp d.bytes
    if o = 0 || 0x0F < o then (s.descDone r x 1 0).agentKick r else s.agentPush r ms

end Sys2Proof.Machine
end

