-- ==== Sys2Proof/Machine/Crypto.lean ====
section
/-! DEFINITION. The commands of chapter 12: the rings, and the operations of R337 with the rules of R338 to R343. A descriptor is
checked in this order: its format, its keys, its source access, the operation, the length of its result, its destination access
(log entry 24). -/

namespace Sys2Proof.Machine

def execRingTailWrite (who : Sender) (r : Ring) (tail : BitVec 16) (s : State) : Out := .next (s.ringTailOp who.who r.val tail.toNat)

def execRingCtlWrite (who : Sender) (r : Ring) (v : Word) (s : State) : Out := .next (s.ringCtlOp who.who r.val v)

/-- n: how many slots the front asks for at once. -/
def execRingFetch (r : Ring) (n : Fin 257) (s : State) : Out := .next (s.ringFetchOp r.val n.val)

/-! ## Completion codes (R347) -/

def CR_FORMAT : Nat := 2
def CR_KEY_EMPTY : Nat := 3
def CR_KEY_USAGE : Nat := 4
def CR_LENGTH : Nat := 6
def CR_VERIFY_FAIL : Nat := 7
def CR_PIN_FORMAT : Nat := 8
def CR_DUKPT_COUNTER : Nat := 9
def CR_KEYBLOCK : Nat := 10
def CR_SLOT_USED : Nat := 11
def CR_DISAGREE : Nat := 12

/-! ## Running a descriptor -/

/-- What an operation gives: a completion code and its output. -/
abbrev Res := Nat × List Byte

/-- The first descriptor of the ring in execution with an opcode whose buffers have been read. -/
def State.execDesc (s : State) (r op : Nat) : Option DescH :=
  (s.ringH r).exec.find? fun d => !d.done && d.need = 0 && d.wait = 0 && dOp d.bytes = op

/-- The result is staged and written (R336); a failure completes the descriptor. Where one line of the destination is barred, no other is written:
that line's request alone is made, for the record of R300. -/
def State.descEnd (s : State) (r : Nat) (d : DescH) (res : Res) : State :=
  let (code, out) := res
  if code != 0 then s.descDone r d code 0
  else if out = [] then s.descDone r d 0 0
  else if dDstLen d.bytes < out.length then s.descDone r d CR_LENGTH 0
  else
    let pa := dDstPa d.bytes
    let ms := (linePieces (out.length / 64 + 2) pa out.length).map fun e =>
      s.agentMsg r true e.1 e.2 (s.ringOwner r) A_DST d.seq (bytesLine (slice out (e.1 - pa) e.2))
    let ms := match ms.find? s.agentBarred with
      | some m => [m]
      | none => ms
    (s.updDesc r d.seq fun x => { x with code := 0, outLen := out.length, wait := ms.length }).agentAdd r ms

/-- Run the ring's descriptor with an opcode: pre checks format and keys, act performs the operation on the source's bytes. -/
def State.runOp (s : State) (r op : Nat) (agree : Bool) (pre : DescH → Nat) (act : DescH → List Byte → State → State × Res) : State :=
  match s.execDesc r op with
  | none => s
  | some d =>
    let stop (s : State) (code : Nat) : State := (s.descDone r d code 0).agentKick r
    if !agree then stop s.disagree CR_DISAGREE
    else
      let s := s.agreed
      let code := if lensOk d.bytes then pre d else CR_FORMAT
      if code != 0 then stop s code
      else if d.bad then stop s CR_ACCESS
      else
        let (s, res) := act d d.src s
        (s.descEnd r d res).agentKick r

/-! ## Keys -/

/-- A key's usage, algorithm and mode of use against those permitted (R341). -/
def keyUse (k : KeyEnt) (usages algs modes : List Nat) : Nat :=
  if k.empty then CR_KEY_EMPTY
  else if usages.contains k.usage && algs.contains k.alg && (modes = [] || modes.contains k.mode) then 0 else CR_KEY_USAGE

def modes (l : List Char) : List Nat := l.map Char.toNat
def U (a b : Char) : List Nat := [ascii2 a b]

/-- The block size of a key's cipher. -/
def blockOf (k : KeyEnt) : Nat := if k.alg = algT then 8 else 16

def encipher (k : KeyEnt) (mode : Nat) (iv data : List Byte) : List Byte :=
  (Config.blockCipher (k.alg = algT) mode true k.key iv data ++ List.replicate data.length 0).take data.length
def decipher (k : KeyEnt) (mode : Nat) (iv data : List Byte) : List Byte :=
  (Config.blockCipher (k.alg = algT) mode false k.key iv data ++ List.replicate data.length 0).take data.length

/-- Bytes of a result whose length the standard fixes. -/
def sized (n : Nat) (l : List Byte) : List Byte := (l ++ List.replicate n 0).take n

/-! ## CIPHER -/

def cipherPre (d : DescH) : Nat :=
  let b := d.bytes
  let p := dParam b
  let mode := p % 4
  let enc := p.testBit 2
  let aad := leNat (dAux b 16 4)
  let n := dSrcLen b
  if 8 ≤ p then CR_FORMAT
  else if mode = 3 && (n < aad || (!enc && n < aad + 16)) then CR_FORMAT
  else
    let k := keyUse d.keyA (U 'D' '0') (if mode < 2 then [algA, algT] else [algA]) (if enc then modes ['E', 'B'] else modes ['D', 'B'])
    if k != 0 then k else if mode < 2 && n % blockOf d.keyA != 0 then CR_FORMAT else 0

def cipherAct (d : DescH) (src : List Byte) (s : State) : State × Res :=
  let b := d.bytes
  let mode := dParam b % 4
  let enc := (dParam b).testBit 2
  let iv := dAux b 0 16
  if mode = 3 then
    let n := leNat (dAux b 16 4)
    match Config.gcm enc d.keyA.key (iv.take 12) (src.take n) (src.drop n) with
    | some o => (s, 0, sized (if enc then src.length - n + 16 else src.length - n - 16) o)
    | none => (s, CR_VERIFY_FAIL, [])
  else (s, 0, if enc then encipher d.keyA mode iv src else decipher d.keyA mode iv src)

def execCipher (r : Ring) (agree : Bool) (s : State) : Out :=
  .next (s.runOp r.val 0x01 agree cipherPre cipherAct)

/-! ## HASH -/

def hashLen (a : Nat) : Nat := [28, 32, 48, 64, 32, 48, 64].getD a 0

def execHash (r : Ring) (agree : Bool) (s : State) : Out :=
  .next (s.runOp r.val 0x02 agree (fun d => if 7 ≤ dParam d.bytes then CR_FORMAT else 0)
    fun d b s => (s, 0, sized (hashLen (dParam d.bytes)) (Config.hash (dParam d.bytes) b)))

/-! ## MAC_GEN and MAC_VERIFY -/

def macAlg (d : DescH) : Nat := dParam d.bytes % 8
def macPad (d : DescH) : Nat := dParam d.bytes / 8 % 4
def macLen (d : DescH) : Nat := dParam d.bytes / 256 % 128
def macDukpt (d : DescH) : Bool := (dParam d.bytes).testBit 15

/-- The KSN of a descriptor: its transaction counter has more than 16 bits set (R340). -/
def ksn (d : DescH) : List Byte := dAux d.bytes 12 12
def counterBad (d : DescH) : Bool := 16 < (bitsOf (beNat ((ksn d).drop 8)) 32).length

/-- The MAC lengths of R338. -/
def macLenOk (alg : Nat) (k : KeyEnt) (n : Nat) : Bool :=
  match alg with
  | 0 => 4 ≤ n && n ≤ (if k.alg = algT then 8 else 16)
  | 1 => 4 ≤ n && n ≤ 8
  | 2 => 4 ≤ n && n ≤ 16
  | 3 => 16 ≤ n && n ≤ 32
  | 4 => 16 ≤ n && n ≤ 48
  | _ => 16 ≤ n && n ≤ 64

def macPre (verify : Bool) (d : DescH) : Nat :=
  let a := macAlg d
  let n := macLen d
  let m := if verify then modes ['V', 'C'] else modes ['G', 'C']
  if 5 < a || dParam d.bytes / 32 % 8 != 0 || n < 4 || 64 < n || (verify && dSrcLen d.bytes < n) || (a < 2 && (macPad d = 0 || macPad d = 3))
      || (macDukpt d && a != 2) then CR_FORMAT
  else
    let k := if macDukpt d then keyUse d.keyA (U 'B' '0') [algA] []
      else match a with
        | 0 => keyUse d.keyA (U 'M' '1') [algA, algT] m
        | 1 => if !d.keyA.empty && d.keyA.key.length != 16 then CR_KEY_USAGE else keyUse d.keyA (U 'M' '3') [algT] m
        | 2 => keyUse d.keyA (U 'M' '6') [algA] m
        | _ => keyUse d.keyA (U 'M' '7') [algH] m
    if k != 0 then k else if !macLenOk a d.keyA n then CR_FORMAT else if macDukpt d && counterBad d then CR_DUKPT_COUNTER else 0

/-- The MAC of data under the descriptor's key; use: 1 MAC generation of the originating device, 2 its verification (R340). -/
def macOf (d : DescH) (use : Nat) (data : List Byte) : List Byte :=
  let k := if macDukpt d then Config.dukpt d.keyA.key use (ksn d) else d.keyA.key
  sized (macLen d) (Config.mac (macAlg d) (macPad d) k data)

def execMacGen (r : Ring) (agree : Bool) (s : State) : Out :=
  .next (s.runOp r.val 0x03 agree (macPre false) fun d b s => (s, 0, macOf d 2 b))

def execMacVerify (r : Ring) (agree : Bool) (s : State) : Out :=
  .next (s.runOp r.val 0x04 agree (macPre true) fun d b s =>
    let n := b.length - macLen d
    (s, if macOf d 1 (b.take n) = b.drop n then 0 else CR_VERIFY_FAIL, []))

/-! ## PIN_TRANSLATE (R339): PIN blocks of ISO 9564-1 (log entry 25) -/

def pinIn (d : DescH) : Nat := dParam d.bytes % 8
def pinOut (d : DescH) : Nat := dParam d.bytes / 16 % 8
def pinDukpt (d : DescH) : Bool := (dParam d.bytes).testBit 8

/-- The half-bytes of a byte string, high half first. -/
def nibbles (l : List Byte) : List Nat := l.flatMap fun b => [b.toNat / 16, b.toNat % 16]
def unnibble : List Nat → List Byte
  | a :: b :: r => BitVec.ofNat 8 (a % 16 * 16 + b % 16) :: unnibble r
  | _ => []
def xorN (a b : List Nat) : List Nat := List.zipWith (fun x y => x ^^^ y) a b

/-- The digits of the descriptor's PAN. -/
def panDigits (d : DescH) : List Nat := (nibbles (dAux d.bytes 0 10)).take (leNat (dAux d.bytes 10 1))

/-- The PAN field of formats 0 and 3: four zeros and the twelve rightmost digits but the check digit; a PAN of 12 digits has eleven, after a further
zero. -/
def panField0 (pan : List Nat) : List Nat :=
  let l := pan.take (pan.length - 1)
  let d := l.drop (l.length - 12)
  List.replicate (16 - d.length) 0 ++ d

/-- The PAN field of format 4: its length less 12, its digits, zeros. -/
def panField4 (pan : List Nat) : List Nat := ((pan.length - 12) :: pan ++ List.replicate 32 0).take 32

/-- The PIN of a clear PIN field, or none where a check of R339 fails. -/
def pinOf (fmt : Nat) (f : List Nat) : Option (List Nat) :=
  let n := f.getD 1 0
  let pin := (f.drop 2).take n
  let fill := ((f.drop 2).drop n).take (14 - n)
  if f.getD 0 16 != fmt || n < 4 || 12 < n || !(pin.all fun x => x < 10) then none
  else if fmt = 0 && !(fill.all fun x => x = 15) then none
  else if fmt = 3 && !(fill.all fun x => 10 ≤ x) then none
  else some pin

/-- The clear PIN field of an input block. -/
def pinField (fmt : Nat) (k : KeyEnt) (pan : List Nat) (src : List Byte) : List Nat :=
  let plain := nibbles (decipher k 0 [] src)
  match fmt with
  | 1 => plain
  | 4 => nibbles (decipher k 0 [] (unnibble (xorN plain (panField4 pan))))
  | _ => xorN plain (panField0 pan)

/-- The output block of a PIN; rnd is the random fill. -/
def pinBlock (fmt : Nat) (k : KeyEnt) (pan pin : List Nat) (rnd : List Nat) : List Byte :=
  let open' := fmt :: pin.length :: pin
  match fmt with
  | 0 => encipher k 0 [] (unnibble (xorN ((open' ++ List.replicate 16 15).take 16) (panField0 pan)))
  | 1 => encipher k 0 [] (unnibble ((open' ++ rnd).take 16))
  | 3 => encipher k 0 [] (unnibble (xorN ((open' ++ rnd.map fun x => 10 + x % 6).take 16) (panField0 pan)))
  | _ =>
    let f := (open' ++ List.replicate 16 10).take 16 ++ rnd.take 16
    encipher k 0 [] (unnibble (xorN (nibbles (encipher k 0 [] (unnibble f))) (panField4 pan)))

def pinFmtOk (f : Nat) : Bool := f = 0 || f = 1 || f = 3 || f = 4

/-- The algorithm a format's key uses. -/
def pinAlg (f : Nat) : Nat := if f = 4 then algA else algT

def pinPre (d : DescH) : Nat :=
  let i := pinIn d
  let o := pinOut d
  let n := leNat (dAux d.bytes 10 1)
  if dParam d.bytes &&& 0xFE88 != 0 || !pinFmtOk i || !pinFmtOk o || (o = 1 && i != 1) then CR_FORMAT
  else if dSrcLen d.bytes != (if i = 4 then 16 else 8) || (pinDukpt d && i != 4) then CR_FORMAT
  else if (if i = 1 && o = 1 then n != 0 else n < 12 || 19 < n) then CR_FORMAT
  else if !d.keyA.empty && !pinDukpt d && d.keyA.alg != pinAlg i then CR_FORMAT
  else if !d.keyB.empty && d.keyB.alg != pinAlg o then CR_FORMAT
  else
    let a := if pinDukpt d then keyUse d.keyA (U 'B' '0') [algA] [] else keyUse d.keyA (U 'P' '0') [algA, algT] (modes ['D', 'B'])
    let b := keyUse d.keyB (U 'P' '0') [algA, algT] (modes ['E', 'B'])
    if a != 0 then a else if b != 0 then b else if pinDukpt d && counterBad d then CR_DUKPT_COUNTER else 0

def pinAct (d : DescH) (src : List Byte) (s : State) : State × Res :=
  let k := if pinDukpt d then { d.keyA with key := Config.dukpt d.keyA.key 0 (ksn d) } else d.keyA
  match pinOf (pinIn d) (pinField (pinIn d) k (panDigits d) src) with
  | none => (s, CR_PIN_FORMAT, [])
  | some pin =>
    let (rnd, s) := State.randomBytes 16 s
    (s, 0, pinBlock (pinOut d) d.keyB (panDigits d) pin (nibbles rnd))

def execPinTranslate (r : Ring) (agree : Bool) (s : State) : Out :=
  .next (s.runOp r.val 0x05 agree pinPre pinAct)

/-! ## RANDOM -/

def randomPre (d : DescH) : Nat :=
  if dParam d.bytes != 0 || dDstLen d.bytes < 1 || 4096 < dDstLen d.bytes then CR_FORMAT else 0

def execRandom (r : Ring) (agree : Bool) (s : State) : Out :=
  .next (s.runOp r.val 0x06 agree randomPre fun d _ s =>
    let (b, s) := State.randomBytes (dDstLen d.bytes) s
    (s, 0, b))

/-! ## SIGN and VERIFY -/

def sigScheme (d : DescH) : Nat := dParam d.bytes % 4
def sigHash (d : DescH) : Nat := dParam d.bytes / 4 % 2
def sigDigest (d : DescH) : Bool := (dParam d.bytes).testBit 8
def kindOf (k : KeyEnt) : Nat := (Config.asymKind k.key).val

/-- The key of a scheme: RSA for PSS and v1_5, P-256 or P-384 for ECDSA, Ed25519. -/
def schemeKey (scheme kind : Nat) : Bool :=
  if scheme < 2 then kind < 3 else if scheme = 2 then kind = 3 || kind = 4 else kind = 5

def sigLen (kind : Nat) : Nat := [256, 384, 512, 64, 96, 64].getD kind 0

def sigPre (verify : Bool) (d : DescH) : Nat :=
  let sc := sigScheme d
  let n := dSrcLen d.bytes
  if dParam d.bytes &&& 0xFEF8 != 0 || (sc = 3 && sigDigest d) || (sigDigest d && n != (if sigHash d = 0 then 32 else 48)) then CR_FORMAT
  else
    let k := keyUse d.keyA (U 'S' '0') [if sc < 2 then algR else algE] (if verify then modes ['V', 'S'] else modes ['S'])
    if k != 0 then k
    else if !schemeKey sc (kindOf d.keyA) then CR_KEY_USAGE
    else if sc = 2 && (kindOf d.keyA = 3) != (sigHash d = 0) then CR_FORMAT
    else 0

def execSign (r : Ring) (agree : Bool) (s : State) : Out :=
  .next (s.runOp r.val 0x07 agree (sigPre false) fun d b s =>
    (s.tick, 0, sized (sigLen (kindOf d.keyA)) (Config.sign (sigScheme d) (sigHash d) (sigDigest d) d.keyA.key b s.free)))

/-- VERIFY reads the signature from DST_PA and DST_LEN. -/
def execVerify (r : Ring) (agree : Bool) (s : State) : Out :=
  .next (s.runOp r.val 0x08 agree (sigPre true) fun d b s =>
    (s, if Config.verify (sigScheme d) (sigHash d) (sigDigest d) d.keyA.key b d.sig then 0 else CR_VERIFY_FAIL, []))

/-! ## ASYM_CRYPT -/

def asymPre (d : DescH) : Nat :=
  let m := sigLen (kindOf d.keyA)
  let dec := (dParam d.bytes).testBit 0
  if 2 ≤ dParam d.bytes then CR_FORMAT
  else
    let k := keyUse d.keyA (U 'D' '1') [algR] (if dec then modes ['D', 'B'] else modes ['E', 'B', 'D'])
    if k != 0 then k
    else if (if dec then dSrcLen d.bytes != m else m < dSrcLen d.bytes + 66) then CR_FORMAT else 0

def execAsymCrypt (r : Ring) (agree : Bool) (s : State) : Out :=
  .next (s.runOp r.val 0x09 agree asymPre fun d b s =>
    let dec := (dParam d.bytes).testBit 0
    match Config.oaep dec d.keyA.key b s.free with
    | some o => (s.tick, 0, if dec then o else sized (sigLen (kindOf d.keyA)) o)
    | none => (s.tick, CR_VERIFY_FAIL, []))

/-! ## Key operations -/

/-- A header that KEY_GEN can serve: supported, no optional block, not TDEA, not RSA (R338). -/
def genOk (h : List Byte) : Bool :=
  let k : KeyEnt := { header := h, opt := [], key := [] }
  headerOk h && k.alg != algT && k.alg != algR

/-- Whether slot B of the ring's owner is free, and no key generated is about to enter it: a number outside the table is no slot. -/
def slotPre (s : State) (r : Nat) (d : DescH) : Nat :=
  let p := s.ringOwner r
  let promised := (List.range 64).any fun q => s.ringOwner q = p &&
    (s.ringH q).exec.any fun x => dOp x.bytes = 0x0A && dKeyB x.bytes = dKeyB d.bytes && x.wait != 0
  if 1024 ≤ dKeyB d.bytes then CR_FORMAT else if (s.keySlot p (dKeyB d.bytes)).empty && !promised then 0 else CR_SLOT_USED

/-- What KEY_GEN of an asymmetric key costs beyond what its issue was charged: only its source tells (R337; log entry 29). -/
def State.chargeMore (s : State) (p n : Nat) : State := s.onCrypto fun c => { c with counts := c.counts.put p (c.counts.get p - n) }

def keyGenAct (r : Nat) (d : DescH) (b : List Byte) (s : State) : State × Res :=
  if !genOk b then (s, CR_KEYBLOCK, [])
  else
    let k : KeyEnt := { header := b, opt := [], key := Config.genKey b s.free }
    let out := if k.alg = algE then Config.publicKey k.key else []
    let s := if k.alg = algE then s.chargeMore (s.ringOwner r) (asymCost (kindOf k) true - descCost d.bytes k) else s
    let s := s.tick
    if dDstLen d.bytes < out.length then (s, CR_LENGTH, [])
    else if out = [] then (s.setKey (s.ringOwner r) (dKeyB d.bytes) k, 0, [])
    else (s.updDesc r d.seq fun x => { x with keyB := k }, 0, out)

def execKeyGen (r : Ring) (agree : Bool) (s : State) : Out :=
  .next (s.runOp r.val 0x0A agree
    (fun d => if dParam d.bytes != 0 || dSrcLen d.bytes != 16 then CR_FORMAT else slotPre s r.val d) (keyGenAct r.val))

def execKbImport (r : Ring) (agree : Bool) (s : State) : Out :=
  .next (s.runOp r.val 0x0B agree
    (fun d =>
      let k := keyUse d.keyA (U 'K' '1') [algA] []
      if dParam d.bytes != 0 then CR_FORMAT else if k != 0 then k
      else if d.keyA.key.length != 32 then CR_KEY_USAGE else slotPre s r.val d)
    fun d b s => match openBlock d.keyA.key b with
      | some k => (s.setKey (s.ringOwner r.val) (dKeyB d.bytes) k, 0, [])
      | none => (s, CR_KEYBLOCK, []))

def execKbExport (r : Ring) (agree : Bool) (s : State) : Out :=
  .next (s.runOp r.val 0x0C agree
    (fun d =>
      let k := keyUse d.keyB (U 'K' '1') [algA] []
      if dParam d.bytes != 0 then CR_FORMAT else if d.keyA.empty then CR_KEY_EMPTY
      else if d.keyA.export != 'E'.toNat then CR_KEY_USAGE else if k != 0 then k
      else if d.keyB.key.length != 32 then CR_KEY_USAGE else 0)
    fun d _ s => (s.tick, 0, Config.kbWrap d.keyB.key d.keyA.header d.keyA.opt d.keyA.key s.free))

/-- An empty slot completes with CRYPTO_KEY_EMPTY, as in every operation that names one. -/
def execKeyErase (r : Ring) (agree : Bool) (s : State) : Out :=
  .next (s.runOp r.val 0x0D agree
    (fun d => if dParam d.bytes != 0 || 1024 ≤ dKeyA d.bytes then CR_FORMAT
      else if (s.keySlot (s.ringOwner r.val) (dKeyA d.bytes)).empty then CR_KEY_EMPTY else 0)
    fun d _ s => (s.setKey (s.ringOwner r.val) (dKeyA d.bytes) default, 0, []))

/-- The check value of KEY_INFO; for a key that is neither AES nor TDEA the spec states none: a free value. -/
def checkValue (k : KeyEnt) (s : State) : List Byte × State :=
  if k.alg = algA then (sized 8 (sized 5 (Config.mac 2 0 k.key (List.replicate 16 0))), s)
  else if k.alg = algT then (sized 8 ((encipher k 0 [] (List.replicate 8 0)).take 3), s)
  else State.randomBytes 8 s

def execKeyInfo (r : Ring) (agree : Bool) (s : State) : Out :=
  .next (s.runOp r.val 0x0E agree
    (fun d => if dParam d.bytes != 0 then CR_FORMAT else if d.keyA.empty then CR_KEY_EMPTY else 0)
    fun d _ s =>
      let (v, s) := checkValue d.keyA s
      (s, 0, sized 16 d.keyA.header ++ v))

def execPubExport (r : Ring) (agree : Bool) (s : State) : Out :=
  .next (s.runOp r.val 0x0F agree
    (fun d => if dParam d.bytes != 0 then CR_FORMAT else keyUse d.keyA (U 'S' '0' ++ U 'D' '1') [algR, algE] [])
    fun d _ s => (s, 0, Config.publicKey d.keyA.key))

end Sys2Proof.Machine
end

