-- ==== Sys2Proof/Machine/Fabric.lean ====
section
/-! DEFINITION. The commands of chapter 07 on meshes, transit, credits, regulators and arbiters; a round of an arbiter stands
in Machine/Scheduler.lean. -/

namespace Sys2Proof.Machine

/-! ## Routers (R174 to R177, R184, R392) -/

/-- Dimension order: along x first, then along y (R176). None at the destination. -/
def routeDir (x y dx dy : Nat) : Option Nat :=
  if dx < x then some 0 else if x < dx then some 1 else if dy < y then some 2 else if y < dy then some 3 else none

/-- The router exists and its mesh runs. -/
def State.meshUp (s : State) (mesh y : Nat) : Bool :=
  if mesh < 12 then decide (y < 3) && !s.dieFenced mesh && !s.dieOff mesh else true

/-- The die a message comes from is fenced at this package's hubs. -/
def State.srcFenced (s : State) (m : CMsg) : Bool :=
  match unitDie m.src.unit with
  | some d => if m.src.pkg = s.pkg then s.dieFenced d else s.home.fencing.contains (m.src.pkg, d)
  | none => false

/-- A mask flit whose data flit will not come is discarded, with its record (R184). -/
def State.tornFlit (s : State) (m : CMsg) : State :=
  (s.take (.coh m)).record E.FLIT_TORN (if m.src.pkg = s.pkg then 1 else 14)
    (if m.src.pkg = s.pkg then (unitDie m.src.unit).getD 0 else m.src.pkg % 8) [m.part] (some (m.line * 64))

/-- A mask flit holds link l: on its channel the data flit comes next (R184). -/
def State.heldFor (s : State) (l vc : Nat) : Option CMsg := (s.fab.torn.find? fun e => e.1 = l && vcOf e.2 = vc).map (·.2)

/-- A flit of message m takes link l: a mask flit opens the pair, its data flit closes it; the sender keeps the last 16 flits for a
replay (R185). -/
def State.onLink (s : State) (l form : Nat) (m : CMsg) : State :=
  s.onFab fun f => { f with
    torn := if form = 1 then f.torn ++ [(l, m)] else if form = 2 then f.torn.erase (l, m) else f.torn
    replayBuf := f.replayBuf.upd l fun b => (b ++ [m]).drop (b.length - 15) }

/-- A hub's router meets a message of a class that a masked die's hub discards (R392). -/
def State.maskedDrop (s : State) (mesh vc : Nat) (m : CMsg) : Option Nat :=
  if 12 ≤ mesh && 3 ≤ vc && vc != 6 then
    match s.dstDie m with
    | some d => if s.dieOff d && !s.dieFenced d then some d else none
    | none => none
  else none

/-- The flit stands at this router: it was forwarded here, or enters the mesh here. It never enters a mesh twice (R176). -/
def State.standsAt (s : State) (mesh : Nat) (r : Router) (form : Nat) (m : CMsg) : Bool :=
  s.sent.contains (.coh m) && (form = 2 ||
    match (s.flitAt m).router with
    | some p => p = (mesh, r.1, r.2)
    | none => s.entryRouter mesh m = r && !(s.flitAt m).left.contains mesh)

/-- The credit set of port n that a message leaving by it uses: the ending set of the neighbour it ends at, else its transit set
(R178, R188). -/
def State.creditSet (s : State) (n : Nat) (m : CMsg) : Nat := if s.f (R.FP_PEER n) F.FP_PEER_PEER_PKG = m.dst.pkg then n else transitSet n

/-- Where the flit leaves the mesh: fixed as it enters. -/
def State.goalOf (s : State) (mesh form : Nat) (m : CMsg) : Router :=
  if form != 2 && (s.flitAt m).router.isSome then (s.flitAt m).goal else s.exitRouter mesh m

/-- The credit set that link l takes for a message, at its receiver (R178, R188). -/
def State.linkSet (s : State) (l : Nat) (m : CMsg) : Nat := if l < 8 then s.creditSet l m else l

/-- The arbiter of the egress that a hub's link is (R202). -/
def egressArb (mesh l : Nat) : Option Nat := if l < 8 then some (50 + l) else if l = 20 then some (58 + (mesh - 12)) else none

/-- The egress arbiter of a hub's link lets a flit's source port pass (R199, R202): a second flit goes with its first. none: it waits. -/
def State.passEgress (s : State) (mesh l form : Nat) (m : CMsg) : Option State :=
  if form = 2 then some s
  else match egressArb mesh l with
  | some a => s.arbPass a (s.srcPort (mesh - 12) m)
  | none => some s

/-- Link l takes a flit where it leaves a mesh: the egress arbiter lets its source port pass, the link does not pause, no other pair holds the
channel, and the receiver has a credit (R177, R184, R188, R199, R269). A link that is not ACTIVE takes none: the message is answered or held
there (R276). -/
def State.exitBy (s : State) (mesh l vc form : Nat) (free : Bool) (m : CMsg) : Option State :=
  if !s.linkActive l then some s
  else if !free || s.paused l || !s.creditFree (s.linkSet l m) vc then none
  else match s.passEgress mesh l form m with
  | some s => some ((s.creditUse (s.linkSet l m) vc).onLink l form m)
  | none => none

/-- A flit at its exit router leaves the mesh, by a link or to a unit there. none: it waits. -/
def State.exitMesh (s : State) (mesh vc form : Nat) (free : Nat → Bool) (m : CMsg) : Option State :=
  match s.exitLink mesh m with
  | some l => s.exitBy mesh l vc form (free l) m
  | none => some s

/-- A router forwards a flit of message m toward its exit router (R176, R177), by one credit of the next router's input, unless another
message's mask flit holds the channel (R184). At its exit router the flit leaves the mesh. The operands x, y, dx, dy, vc and form describe
the flit; where they do not, nothing moves. -/
def State.routerOp (s : State) (mesh x y dx dy vc form : Nat) (m : CMsg) : State :=
  if !s.meshUp mesh y || s.goalOf mesh form m != (dx, dy) || vcOf m != vc || !(formsOf m).contains form || s.unpassed m
    || !s.standsAt mesh (x, y) form m then s
  else if form = 1 && s.srcFenced m then s.tornFlit m
  else match s.maskedDrop mesh vc m with
    | some d => (s.take (.coh m)).offDrop d m
    | none =>
      let free (l : Nat) : Bool := match s.heldFor l vc with
        | some k => decide (k = m) && form = 2
        | none => form != 2
      match routeDir x y dx dy with
      | none =>
        match s.exitMesh mesh vc form free m with
        | none => s
        | some s => if form = 2 then s else s.setFlit { s.flitAt m with router := none, left := addOnce (s.flitAt m).left mesh }
      | some dir =>
        let l := meshLink mesh x y dir
        if free l && s.creditFree l vc then
          let s := (s.creditUse l vc).onLink l form m
          let n := stepTo x y dir
          if form = 2 then s else s.setFlit { s.flitAt m with router := some (mesh, n.1, n.2), goal := (dx, dy) }
        else s

def execRouterForward (mesh : Fin 14) (x y dx dy : Fin 4) (vc : Fin 8) (form : Fin 4) (m : CMsg) (s : State) : Out :=
  .next (s.routerOp mesh.val x.val y.val dx.val dy.val vc.val form.val m)

/-! ## Transit (R178, R283) -/

/-- R392 for a message whose target does not take it: an answer, or a record. wait is the class's own. -/
def State.offAnswer (s : State) (m : CMsg) : State :=
  let vc := vcOf m
  if vc = 0 || vc = 1 || vc = 2 || vc = 6 then
    s.send (.coh { m with op := .targetOff, src := m.dst, dst := m.src,
                          mask := if vc = 0 || (vc = 6 && !(m.op = .ucRd || m.op = .ucWr || m.op = .ucAtomic)) then 0 else 1,
                          aop := { m.aop with code := if vc = 2 then snoopCode m.op else m.aop.code } })
  else s.record E.TARGET_OFF_DROP 14 (m.dst.pkg % 8) [m.part] (some (m.line * 64)) (classOfVc vc 1)

def State.resting (s : State) : Bool := s.f R.REST_STAT F.REST_STAT_STATE = 3

/-- The target of a message of this package rests: from its REST notice on for a new request, from its RESTING notice on for all; the hub here is the
masking unit (R392, R397). -/
def State.targetRests (s : State) (m : CMsg) : Bool :=
  decide (m.src.pkg = s.pkg) && s.pwr.restPkgs.contains m.dst.pkg &&
    (vcOf m = 0 || vcOf m = 1 || vcOf m = 6 || bit (s.f R.REST_STAT F.REST_STAT_RESTING) m.dst.pkg)

/-- A flit for another package leaves by port n, or waits there for a credit. -/
def State.transitSend (s : State) (n : Nat) (m : CMsg) : State :=
  let k := s.creditSet n m
  if s.linkCarries n && s.creditFree k (vcOf m) && !(s.fab.transit.any fun e => s.creditSet e.1 e.2 = k && vcOf e.2 = vcOf m) then
    (s.creditUse k (vcOf m)).send (.coh m)
  else s.onFab fun f => { f with transit := f.transit ++ [(n, m)] }

/-- Flits that wait in transit, in order: each leaves once its port carries it and its receiver has a credit (R188, R269). -/
def State.transitKick (s : State) : State :=
  each s.fab.transit (fun s e =>
    let k := s.creditSet e.1 e.2
    let first := (s.fab.transit.find? fun x => s.creditSet x.1 x.2 = k && vcOf x.2 = vcOf e.2) = some e
    if first && s.linkCarries e.1 && s.creditFree k (vcOf e.2) then
      ((s.onFab fun f => { f with transit := f.transit.erase e }).creditUse k (vcOf e.2)).send (.coh e.2)
    else s) s

/-- The links of this package that a message for another one crosses before port n: its die's, and the bridge between its hub, or the hub of the
port it came in by, and that of port n (R25). -/
def State.wayOut (s : State) (p n : Nat) (m : CMsg) : List Nat :=
  let own := m.src.pkg = s.pkg
  let h := if own then unitHub m.src.unit else hubOfPort p
  s.behindLink m.src ++ if h = hubOfPort n then [] else [20]

/-- TRANSIT_FORWARD: a message for another package leaves by a fabric port. Where no port carries it, or a link before the port is not ACTIVE, a
request is answered with RETRY and the rest is held (R276, R283). -/
def State.transitOp (s : State) (p : Nat) (m : CMsg) : State :=
  if m.dst.pkg = s.pkg || s.paused p || s.beat.isolated || s.locked then s
  else
    let s := s.take (.coh m)
    if s.resting || s.targetRests m then s.offAnswer m
    else match s.outPort m with
      | some n => match (s.wayOut p n m).find? fun l => !s.linkActive l with
        | some l => s.holdAt l m
        | none => s.transitSend n m
      | none => s.holdAt (s.waitPort m p) m

def execTransitForward (p : FabPort) (m : CMsg) (s : State) : Out := .next (s.transitOp p.val m)

/-- A receiver frees a flit of buffer: the sender's credit returns, and a transit flit that waited for it leaves (R188). Links 21 to 28
are the transit sets of the fabric ports. -/
def State.creditOp (s : State) (l vc : Nat) : State :=
  if (l < 21 && s.paused l) || (21 ≤ l && l < 29 && s.paused (l - 21)) then s
  else
  (s.creditBack l vc).transitKick

def execCreditReturn (link : Nat) (vc : Fin 8) (s : State) : Out := .next (s.creditOp link vc.val)

/-! ## A mesh link that fails three replays (R185) -/

def execFlitCrcFail (mesh : Fin 14) (s : State) : Out := .next (s.meshFail mesh.val)

/-! ## Regulators (R189, R193) -/

/-- A REQ or IO flit of a partition other than 0 takes tokens or waits, once the port's arbiter lets its requester pass (R199); every other flit
passes. p and two are the message's own partition and whether it is a partial write. -/
def State.regulatorOp (s : State) (a p : Nat) (two : Bool) (m : CMsg) : State :=
  let vc := vcOf m
  if !hasReg a || p = 0 || !(vc = 0 || vc = 1 || vc = 6) || p != m.part || two != partialWrite m || !s.sent.contains (.coh m)
    || (s.flitAt m).passed || m.rsv then s
  else match s.regOf m with
    | none => s
    | some (b, n) => if a != b then s else match s.arbPass a n with
      | some s => (s.take (.coh m)).regPass a p two m
      | none => s

def execRegulatorPass (a : Arb) (p : Part) (partialWr : Bool) (m : CMsg) (s : State) : Out :=
  .next (s.regulatorOp a.val p.val partialWr m)

/-! ## Arbiters (R197, R199, R203) -/

/-- A backoff ends: the requester requests again. At the home atomic unit that is a far atomic it holds (R197, R222). -/
def State.backoffOp (s : State) (a n : Nat) : State :=
  let s := s.setF (rReq a n) F.ARB_REQ_WAIT_LEFT 0
  if a = 60 || a = 61 then s.takeQueued (a - 60) else s

def execArbiterBackoffEnd (a : Arb) (n : Fin 16) (s : State) : Out := .next (s.backoffOp a.val n.val)

/-- The link an egress arbiter serves (R202). -/
def arbLink (a : Nat) : Option Nat := if 50 ≤ a && a < 58 then some (a - 50) else if a = 58 || a = 59 then some 20 else none

/-- A grant ends: by expiry while its owner still requests, once a message has passed under it and its burst limit has run out by fabric cycle
cycle, or because the owner dropped its request; never between the two flits of a message, which pass a regulator and the home's queues
together (R184, R199). -/
def State.burstOp (s : State) (a : Nat) (still : Bool) (cycle : Nat) : State :=
  let rr := R.ARB_RR a
  let o := s.f rr F.ARB_RR_OWNER
  let q := rReq a o
  if s.f rr F.ARB_RR_HELD = 0 then s
  else if s.fab.torn.any fun e => arbLink a = some e.1 then s
  else if still && (!(s.arbH a).served || (if s.f q F.ARB_REQ_UNIT = 1 then (s.arbH a).burstLeft != 0
    else cycle < (s.arbH a).grantAt + s.f q F.ARB_REQ_BURST)) then s
  else
    let s := s.setF rr F.ARB_RR_HELD 0
    let s := if still then
      (s.setF q F.ARB_REQ_ECLASS (s.f q F.ARB_REQ_CLASS)).incF (R.ARB_STAT a) F.ARB_STAT_EXPIRED
    else s
    if a = 60 || a = 61 then s.takeQueued (a - 60) else s

def execBurstExpiry (a : Arb) (still : Bool) (cycle : Nat) (s : State) : Out := .next (s.burstOp a.val still cycle)

/-- A write of 1 to ARB_CLR.CLEAR. -/
def State.arbClrOp (s : State) (w : Who) (a : Nat) : State :=
  s.csGuard w (R.ARB_CLR a) 8 (some 1) fun s => (s.setReg (R.ARB_STAT a) 0).whoReply w 0

def execArbClr (who : Sender) (a : Arb) (s : State) : Out := .next (s.arbClrOp who.who a.val)

end Sys2Proof.Machine
end

