-- ==== Sys2Proof/Machine/PortOps.lean ====
section
/-! DEFINITION. Root segments and the Service Endpoint: completions (R360, R361), configuration requests (R354, R355), requests and
messages of devices (R356 to R359), resets and slots (R364 to R366), functions and the copy engine (R372 to R375). -/

namespace Sys2Proof.Machine

/-! ## Configuration requests -/

def State.clearCfg (s : State) (k : Nat) : State :=
  each [F.CFG_ADDR_CFG_UR, F.CFG_ADDR_CFG_TIMEOUT, F.CFG_ADDR_CFG_RANGE, F.CFG_ADDR_CFG_RRS] (fun s f => s.setF (rCfgAddr k) f 0) s

/-- The kind of request that CFG_ADDR asks for: Type 0, Type 1, or none (R354). -/
def State.cfgType (s : State) (k : Nat) : Option Nat :=
  let a := rCfgAddr k
  let bus := s.f a F.CFG_ADDR_BUS
  let sec := s.f (rSegCtl k) F.SEG_CTL_SEC_BUS
  if bus = sec then (if s.f a F.CFG_ADDR_DEV = 0 || s.f (rSegCtl k) F.SEG_CTL_ARI = 1 then some 0 else none)
  else if sec < bus && bus ≤ s.f (rSegCtl k) F.SEG_CTL_SUB_BUS then some 1
  else none

/-- The requester of a configuration access, as the reply names it. -/
def cfgWho : Who → Nat
  | .core pkg c _ => pkg.val * 256 + c.val
  | .debug _ => DEBUG_PORT
  | _ => 0x800

/-- The value a configuration access that sends no request answers with: all ones to a read. -/
def cfgNone (wr : Bool) : Word := if wr then 0 else 0xFFFFFFFF

/-- Issue a configuration request of type t. -/
def State.cfgIssue (s : State) (k : Nat) (w : Who) (wr : Option (BitVec 32)) (t : Nat) : State :=
  let a : Acc := { (default : Acc) with core := cfgWho w, part := s.whoPart w, size := 4, data := (wr.getD 0).setWidth 512 }
  s.issueReq k { tag := 0, kind := if wr.isSome then 2 else 1, acc := a, sent := false, rsv := false,
                 cfg := bits (s.reg (rCfgAddr k)) 0 36 + t * 2 ^ 40 }

/-- The type of the configuration request that CFG_ADDR asks for, while the link is up. -/
def State.cfgTarget (s : State) (k : Nat) : Option Nat := if s.linkOff k then none else s.cfgType k

/-- A configuration access whose status bits are clear: it sends its request, or completes at once. -/
def State.cfgGo (s : State) (k : Nat) (w : Who) (wr : Option (BitVec 32)) : State :=
  match s.cfgTarget k with
  | none => (s.setF (rCfgAddr k) F.CFG_ADDR_CFG_RANGE 1).whoReply w 0 (cfgNone wr.isSome)
  | some t => s.cfgIssue k w wr t

/-- A configuration access begins: it sends its request, or completes at once (R354, R363). -/
def State.cfgAccess (s : State) (k : Nat) (w : Who) (wr : Option (BitVec 32)) : State := (s.clearCfg k).cfgGo k w wr

/-- A configuration request is answered with Request Retry Status (R355). -/
def State.cfgRrs (s : State) (k : Nat) (r : PcieReq) : State :=
  if r.kind = 1 && r.cfg / 4 % 1024 = 0 && r.cfg / 2 ^ 32 % 16 = 15 && s.f (rSegCtl k) F.SEG_CTL_RRS_SV = 1 then
    ((s.setF (rCfgAddr k) F.CFG_ADDR_CFG_RRS 1).cfgReply r 0xFFFF0001).reqEnd r
  else s.updSeg k fun g => { g with rrs := g.rrs ++ [(r, r.acc.va)] }

/-- 1 ms later it is issued again; after 1 s it ends as a timeout. -/
def State.cfgAgain (s : State) (k : Nat) : State :=
  each (s.seg k).rrs (fun s (r, n) => if 1000 ≤ n + 1 then s.reqTimedOut k r else s.issueReq k { r with acc := { r.acc with va := n + 1 } })
    (s.updSeg k fun g => { g with rrs := [] })

/-! ## Completions (R360, R361) -/

def ST_SC : Nat := 0
def ST_RRS : Nat := 2

/-- The completion of an outstanding request. -/
def State.cplFor (s : State) (k : Nat) (r : PcieReq) (status : Nat) (data : Line) : State :=
  match r.kind with
  | 0 => (if status = ST_SC then s.deliver r.acc (lineGet data 0 r.acc.size) else s.failAcc r.acc).reqEnd r
  | 3 =>
    if status = ST_SC then
      let pa := s.f (R.SEP_DMA_LOCAL (k / 4) r.cfg) F.SEP_DMA_LOCAL_PA * 64 + ((s.fn (k / 4) r.cfg).copy.map (·.1)).getD 0 * 64
      match s.copyBad pa with
      | some e => s.copyFail (k / 4) r.cfg pa e
      | none => s.dmaPush k [s.dmaMsg k .dmaWr pa 64 r.acc.part D_COPYWR r.cfg 0 data]
    else s.copyEnd (k / 4) r.cfg 2
  | 4 => s.incF (R.SEP_FN_INFO (k / 4) r.cfg) F.SEP_FN_INFO_LATE_CPL_CNT
  | 5 =>
    let m : CMsg := { (default : CMsg) with op := if status = ST_SC then .dataUc else .busErr, line := r.acc.pa / 64,
                                            src := s.hubUnit (k / 16), txn := r.cfg, part := r.acc.part, rsv := r.rsv,
                                            data := if status = ST_SC then linePut 0 (r.acc.pa % 64) r.acc.size data else 0 }
    s.send (.coh { m with dst := { pkg := r.acc.core / 256, unit := r.acc.core % 256 } })
  | _ =>
    if status = ST_SC then (s.cfgReply r (if r.kind = 1 then (data.setWidth 32).setWidth 64 else 0)).reqEnd r
    else if status = ST_RRS then s.cfgRrs k r
    else ((s.setF (rCfgAddr k) F.CFG_ADDR_CFG_UR 1).cfgReply r 0xFFFFFFFF).reqEnd r

def State.cplIn (s : State) (k tag status : Nat) (data : Line) : State :=
  let g := s.seg k
  match g.out.find? fun r => r.tag = tag with
  | some r => (((s.updSeg k fun g => { g with out := g.out.erase r }).cplFor k r status data)).kickReqs k
  | none =>
    if g.quarantine.contains tag then s.incF (rErrCnt k) F.SEG_ERR_CNT_LATE_CPL_CNT
    else (s.incF (rErrCnt k) F.SEG_ERR_CNT_UNEXP_CPL).record E.PCIE_UNEXP_CPL 4 k [s.owner k]

/-- CPL_TO has passed since the request with this tag was sent. -/
def State.cplLate (s : State) (k tag : Nat) : State :=
  match (s.seg k).out.find? fun r => r.tag = tag with
  | none => s
  | some r => (s.updSeg k fun g => { g with out := g.out.erase r, quarantine := addOnce g.quarantine tag }).reqTimedOut k r

def State.tagFree (s : State) (k tag : Nat) : State :=
  (s.updSeg k fun g => { g with quarantine := g.quarantine.erase tag }).kickReqs k

/-! ## Requests and messages of devices -/

/-- A device's request is taken only while its segment's link is up. -/
def State.devUp (s : State) (k : Nat) : Bool := s.segReal k && s.ltssm k = L_L0

def MSI_ADDR : Nat := 0x0FFFFFFFFF000

/-- What stops a device's request at its decode (R32); no target lies above the 52 bits of a physical address. -/
def State.devDecode (s : State) (pa : Nat) : Option ECode := if 2 ^ 52 ≤ pa then some E.PA_UNMAPPED else s.undecoded pa

/-- Where one piece of a device's request goes: the message, or the record of its refusal (R356). -/
def State.devPiece (s : State) (k : Nat) (wr : Bool) (kind tag pa n : Nat) (data : Line) : CMsg ⊕ ECode :=
  let p := s.owner k
  match s.devDecode pa with
  | some e => .inr e
  | none =>
  match paKind pa with
  | .dram _ => .inl (s.dmaMsg k (if wr then .dmaWr else .dmaRd) pa n p kind 0 tag data)
  | .pcie =>
    match s.windowOf pa with
    | none => .inr E.PA_UNMAPPED
    | some w =>
      if w.part != p then .inr E.OWN_DENIED
      else .inl { s.dmaMsg k (if wr then .ucWr else .ucRd) pa n p kind 0 tag data with dst := { pkg := w.pkg, unit := 0xFC + hubOfPort w.port } }
  | _ => .inr E.PA_UNMAPPED

/-- The requester's bus lies outside the segment's (R356). -/
def State.busOutside (s : State) (k bus : Nat) : Bool :=
  bus < s.f (rSegCtl k) F.SEG_CTL_SEC_BUS || s.f (rSegCtl k) F.SEG_CTL_SUB_BUS < bus

/-- A queued answer of Unsupported Request, after the record of its cause. -/
def State.devRefuse (s : State) (k : Nat) (e : ECode) (pa tag : Nat) : State :=
  (s.record e 4 k [s.owner k] (some pa)).dmaPush k [s.dmaMsg k .dmaRd pa 1 (s.owner k) D_REFUSED 0 tag 0]

def State.devRead (s : State) (k bus addr len tag : Nat) : State :=
  if !s.devUp k then s
  else if s.busOutside k bus then s.devRefuse k E.OWN_DENIED addr tag
  else
    let ps := linePieces 65 addr (min len 4096)
    let l := ps.zipIdx.map fun (e, i) => s.devPiece k false (if i + 1 = ps.length then D_LAST else D_READ) tag e.1 e.2 0
    match l.findSome? fun e => match e with | .inr c => some c | .inl _ => none with
    | some c => s.devRefuse k c addr tag
    | none => s.dmaPush k (l.filterMap fun e => match e with | .inl m => some m | .inr _ => none)

/-- An MSI or MSI-X message (R358), forwarded under R106 once the earlier DMA writes are performed. -/
def State.devMsi (s : State) (k addr : Nat) (bytes : List Byte) : State :=
  let v := leNat bytes
  if !s.devUp k then s
  else if addr != MSI_ADDR || bytes.length != 4 then s.record E.PCIE_MSI_FORMAT 4 k [s.owner k] (some addr)
  else if v < 32 || 2048 ≤ v then s.record E.INT_BAD_VECTOR 4 k [s.owner k] none (v % 2048)
  else
    let n := countOf (s.seg k).dma fun m => m.fwd.pkg = D_WRITE
    if n = 0 then s.raise (s.owner k) v else s.updSeg k fun g => { g with msi := g.msi ++ [(v, n)] }

def State.devWrite (s : State) (k bus addr : Nat) (bytes : List Byte) (poisoned : Bool) : State :=
  if !s.devUp k then s
  else if poisoned then s.record E.PCIE_POISONED_TLP 4 k [s.owner k] (some addr)
  else if MSI_ADDR ≤ addr && addr < MSI_ADDR + 4096 then s.devMsi k addr bytes
  else if s.busOutside k bus then s.record E.OWN_DENIED 4 k [s.owner k] (some addr)
  else
    let ps := linePieces 9 addr (min bytes.length 512)
    each ps (fun s (e : Nat × Nat) =>
      match s.devPiece k true D_WRITE 0 e.1 e.2 (bytesLine (slice bytes (e.1 - addr) e.2)) with
      | .inl m => s.dmaPush k [m]
      | .inr c => s.record c 4 k [s.owner k] (some e.1)) s

def State.devAtomic (s : State) (k bus addr op size : Nat) (arg arg2 : Word) (tag : Nat) : State :=
  if !s.devUp k then s
  else if s.busOutside k bus then s.devRefuse k E.OWN_DENIED addr tag
  else match s.devDecode addr with
  | some e => s.devRefuse k e addr tag
  | none => match paKind addr with
    | .dram _ =>
      if !(size = 4 || size = 8) || addr % size != 0 then s.devRefuse k E.ATOMIC_ATTR addr tag
      else
        let m := s.dmaMsg k .ucAtomic addr size (s.owner k) D_ATOMIC 0 tag 0
        let o : AtOp := { code := AT_FETCHADD + op, size := size, off := addr % 64, arg := arg.setWidth 128, arg2 := arg2.setWidth 128 }
        s.dmaPush k [{ m with aop := o }]
    | .pcie => s.devRefuse k E.ATOMIC_ATTR addr tag
    | _ => s.devRefuse k E.PA_UNMAPPED addr tag

/-- A received error message (R359). -/
def State.devErr (s : State) (k reqId sev : Nat) : State :=
  if !s.devUp k then s
  else
    let s := ((s.setF (rHpStat k) F.HP_STAT_ERR_MSG 1).setF (rHpStat k) F.HP_STAT_ERR_SEV sev).incF (rErrCnt k) F.SEG_ERR_CNT_ERR_RECV
    let s := s.record E.PCIE_ERR_MSG 4 k [s.owner k] none (reqId + sev * 2 ^ 16)
    if s.f (rHpCtl k) F.HP_CTL_INT_EN = 1 then s.raiseOwn (s.owner k) (s.f (rHpCtl k) F.HP_CTL_VECTOR) else s

def State.devIntx (s : State) (k : Nat) : State :=
  if s.devUp k then s.record E.PCIE_INTX 4 k [s.owner k] else s

/-! ## Functions of the Service Endpoint -/

/-- The segment number of an endpoint port's link. -/
def sepSeg (port : Nat) : Nat := port * 4
def State.fnInfo (s : State) (port f : Nat) (fl : Fld) : Nat := s.f (R.SEP_FN_INFO port f) fl
def State.setFn (s : State) (port f : Nat) (fl : Fld) (v : Nat) : State := s.setF (R.SEP_FN_INFO port f) fl v
def State.fnPresent (s : State) (port f : Nat) : Bool := s.isSep port && s.fnInfo port f F.SEP_FN_INFO_PRESENT = 1
def State.sepUp (s : State) (port : Nat) : Bool := s.ltssm (sepSeg port) = L_L0

/-- The functions a port presents. -/
def State.sepFns (s : State) (port : Nat) : List Nat := (List.range 8).filter (s.fnPresent port)

/-- An answer of a word to the host. -/
def State.hostReply (s : State) (port f kind : Nat) (v : Word) : State := s.send (.host port f kind (leBytes 8 v.toNat))

/-- An earlier host request of the function waits at a home (R372). -/
def State.hostBusy (s : State) (port f : Nat) : Bool :=
  (s.seg (sepSeg port)).dma.any fun m => m.fwd.unit = f && (m.fwd.pkg = D_READ || m.fwd.pkg = D_LAST || m.fwd.pkg = D_WRITE)

/-- A partition's function takes host requests: it is present, its link is up and its partition is not fenced (R421). -/
def State.fnFenced (s : State) (port f : Nat) : Bool := s.fnPart port f != 0 && s.partFenced (s.fnPart port f)

/-- INTA follows the pending host interrupts while it is in use (R372). -/
def State.setInta (s : State) (port f : Nat) : State :=
  let g := s.fn port f
  let on := decide (g.hostStat != 0) && s.fnInfo port f F.SEP_FN_INFO_MSIX_EN = 0 && s.fnInfo port f F.SEP_FN_INFO_INTX_DIS = 0
  if on = g.inta then s
  else (s.updFn port f fun g => { g with inta := on }).hostReply port f H_INTA (BitVec.ofNat 64 on.toNat)

/-- Entry v's message may be sent now. -/
def State.msixOpen (s : State) (port f v : Nat) : Bool :=
  bit (s.fn port f).msixMask v && s.fnInfo port f F.SEP_FN_INFO_BME = 1 && s.sepUp port && !s.fnFenced port f

/-- Host interrupt v acts: its message, its PBA bit, or INTA. -/
def State.hostIntAct (s : State) (port f v : Nat) : State :=
  if s.fnInfo port f F.SEP_FN_INFO_MSIX_EN = 0 then s.setInta port f
  else
    let g := s.fn port f
    if s.msixOpen port f v then
      (s.updFn port f fun g => { g with pba := clearBit g.pba v }).postWrite (sepSeg port) (g.msixAddr.get v).toNat (leBytes 4 (g.msixData.get v))
    else s.updFn port f fun g => { g with pba := g.pba ||| 2 ^ v }

/-- Pending messages leave once nothing holds them back. -/
def State.msixKick (s : State) (port f : Nat) : State :=
  if s.fnInfo port f F.SEP_FN_INFO_MSIX_EN = 0 then s.setInta port f
  else each ((bitsOf (s.fn port f).pba 4).filter (s.msixOpen port f)) (fun s v => s.hostIntAct port f v) s

/-- A partition's write of SEP_HOST_INT. -/
def State.hostIntOp (s : State) (w : Who) (port f : Nat) (v : Word) : State :=
  s.csGuard w (R.SEP_HOST_INT port f) 8 (some v) fun s =>
    let vs := bitsOf (v.toNat % 16) 4
    let s := s.updFn port f fun g => { g with hostStat := g.hostStat ||| maskOf vs }
    (each vs (fun s v => s.hostIntAct port f v) s).whoReply w 0

/-- The function stops its copy; completions that arrive later are discarded (R374). -/
def State.copyAbort (s : State) (port f : Nat) : State :=
  let k := sepSeg port
  let s := s.updSeg k fun g => { g with
    out := g.out.map (fun r => if r.kind = 3 && r.cfg = f then { r with kind := 4 } else r)
    waitTag := g.waitTag.filter (fun r => !(r.kind = 3 && r.cfg = f))
    dma := g.dma.map fun m => if (m.fwd.pkg = D_COPYRD || m.fwd.pkg = D_COPYWR) && m.fwd.unit = f then
      { m with fwd := { m.fwd with pkg := D_DEAD } } else m }
  s.copyEnd port f 4

/-- Bus Master Enable takes a value the host wrote. -/
def State.setBme (s : State) (port f : Nat) (on : Bool) : State :=
  if s.fnInfo port f F.SEP_FN_INFO_BME = on.toNat then s
  else
    let s := (s.setFn port f F.SEP_FN_INFO_BME on.toNat).fnEvent port f F.SEP_FN_STAT_BME_CHANGE
    if on then s.msixKick port f else s.copyAbort port f

def State.bmeClear (s : State) (port f : Nat) : State := if s.fnPresent port f then s.setBme port f false else s

/-- What a function-level reset resets (R374). -/
def State.fnReset (s : State) (port f : Nat) : State :=
  let s := each [F.SEP_FN_INFO_BME, F.SEP_FN_INFO_MSIX_EN, F.SEP_FN_INFO_INTX_DIS] (fun s fl => s.setFn port f fl 0) s
  let s := (s.copyAbort port f).updFn port f fun g => { (default : FnH) with inta := g.inta }
  (s.setInta port f).setFn port f F.SEP_FN_INFO_FLR_BUSY 1

def State.flr (s : State) (port f : Nat) : State :=
  if s.fnPresent port f then ((s.fnReset port f).arbMask (42 + port) f true).fnEvent port f F.SEP_FN_STAT_FLR else s

def State.flrDone (s : State) (port f : Nat) : State := if s.fnPresent port f then (s.setFn port f F.SEP_FN_INFO_FLR_BUSY 0).arbMask (42 + port) f false else s

def State.setLinkUp (s : State) (port v : Nat) : State := each (s.sepFns port) (fun s f => s.setFn port f F.SEP_FN_INFO_LINK_UP v) s

/-- The masks of an endpoint's functions once its link is up: one that is absent or fenced, or in its own reset, stays masked (R198). -/
def State.fnMasks (s : State) (port : Nat) : State :=
  each (List.range 8) (fun s f => s.arbMask (42 + port) f
    (!s.fnPresent port f || s.fnFenced port f || s.fnInfo port f F.SEP_FN_INFO_FLR_BUSY = 1)) s

/-- The host asserts its reset, or the link goes down (R375): the functions are in reset, and masked (R198). -/
def State.sepDown (s : State) (port newState : Nat) : State :=
  if !s.isSep port then s
  else
    let s := each (s.sepFns port) (fun s f => (s.fnReset port f).fnEvent port f F.SEP_FN_STAT_PERST) s
    each (List.range 8) (fun s f => s.arbMask (42 + port) f true) ((s.linkDrop (sepSeg port) newState).setLinkUp port 0)

/-- A host write of doorbell bits; an earlier request of the function that waits at a home goes first. -/
def State.hostDb (s : State) (port f : Nat) (v : BitVec 32) : State :=
  if !s.fnPresent port f || !s.sepUp port || s.hostBusy port f then s
  else if s.fnFenced port f then s.hostReply port f H_UR 0
  else (s.setReg (R.SEP_DB port f) (s.reg (R.SEP_DB port f) ||| v.setWidth 64)).fnEvent port f F.SEP_FN_STAT_DOORBELL

/-- The dwords of the header and capabilities that act (log entry 30). -/
def CFG_COMMAND : Nat := 1
def CFG_DEVCTL : Nat := 0x12
def CFG_MSIX : Nat := 0x1C

/-- A dword of a function's header and capabilities (R369). The values are the rule's; the places of the fields and capabilities are the
PCI specification's (PRESUMED, log entry 30). A BAR shows its size in the address bits that keep 0. -/
def State.cfgDword (s : State) (port f reg : Nat) : Nat :=
  let g := s.fn port f
  let w := g.cfg.get reg
  let p := s.fnPart port f
  match reg with
  | 0x00 => Config.vendorId.val + 0x0240 * 2 ^ 16
  | 0x01 => w % 4 + s.fnInfo port f F.SEP_FN_INFO_BME * 4 + s.fnInfo port f F.SEP_FN_INFO_INTX_DIS * 2 ^ 10 +
      (decide (g.hostStat != 0)).toNat * 2 ^ 19 + 2 ^ 20
  | 0x02 => Config.stepping.val + 0x108000 * 2 ^ 8
  | 0x03 => w % 2 ^ 8 + (decide (1 < s.f (R.PCIE_INFO port) F.PCIE_INFO_NFUNC)).toNat * 2 ^ 23
  | 0x04 => w / 2 ^ 16 * 2 ^ 16 + 4
  | 0x05 => w
  | 0x06 => if p = 0 then 0 else w / 2 ^ 30 * 2 ^ 30 + 0xC
  | 0x07 => if p = 0 then 0 else w
  | 0x0B => Config.vendorId.val + p * 2 ^ 16
  | 0x0C => w / 2 ^ 13 * 2 ^ 13 + w % 2
  | 0x0D => 0x40
  | 0x0F => w % 2 ^ 8 + 2 ^ 8
  | 0x10 => 0x00027010
  | 0x11 => 0x10008002
  | 0x12 => w % 2 ^ 15
  | 0x1C => 0x11 + 0x80 * 2 ^ 8 + 3 * 2 ^ 16 + s.fnInfo port f F.SEP_FN_INFO_MSIX_EN * 2 ^ 31
  | 0x1D => 0x6000
  | 0x1E => 0x7000
  | 0x20 => 0x00030001
  | 0x21 => w % 4
  | _ => 0

/-- MSI-X is enabled, or disabled. Every host interrupt that is pending acts as it now must: INTA ends or begins, and each sends its message or
is marked (R372). -/
def State.setMsix (s : State) (port f : Nat) (on : Bool) : State :=
  let was := s.fnInfo port f F.SEP_FN_INFO_MSIX_EN
  let s := (s.setFn port f F.SEP_FN_INFO_MSIX_EN on.toNat).setInta port f
  if on && was = 0 then each (bitsOf (s.fn port f).hostStat 4) (fun s v => s.hostIntAct port f v) s else s.msixKick port f

/-- A configuration request of the host: a write, or a read; an earlier request of the function that waits at a home goes first. -/
def State.hostCfg (s : State) (port f reg : Nat) (wr : Option (BitVec 32)) : State :=
  if !s.fnPresent port f || !s.sepUp port then s
  else if s.fnFenced port f then s.hostReply port f H_UR 0
  else if s.fnInfo port f F.SEP_FN_INFO_FLR_BUSY = 1 then s.hostReply port f H_RRS 0
  else if s.hostBusy port f then s
  else match wr with
  | none => s.hostReply port f H_CPL (BitVec.ofNat 64 (s.cfgDword port f reg))
  | some v =>
    let s := s.updFn port f fun g => { g with cfg := g.cfg.put reg v.toNat }
    let s :=
      if reg = CFG_COMMAND then
        ((s.setFn port f F.SEP_FN_INFO_INTX_DIS (v.toNat / 2 ^ 10 % 2)).setBme port f (v.toNat.testBit 2)).setInta port f
      else if reg = CFG_MSIX then s.setMsix port f (v.toNat.testBit 31)
      else if reg = CFG_DEVCTL && v.toNat.testBit 15 then s.flr port f
      else s
    s.hostReply port f H_CPL 0

/-- A write of SEP_DMA_CTL (R373). -/
def State.copyCtl (s : State) (w : Who) (port f : Nat) (v : Word) : State :=
  let c := R.SEP_DMA_CTL port f
  s.csGuard w c 8 (some v) fun s =>
    let s := (s.plainWrite c v (s.whoPart w)).whoReply w 0
    if F.SEP_DMA_CTL_GO.get v = 0 || s.f c F.SEP_DMA_CTL_BUSY = 1 || !s.fnPresent port f then s
    else
      let s := ((s.setF c F.SEP_DMA_CTL_BUSY 1).setF c F.SEP_DMA_CTL_CODE 0).updFn port f fun g =>
        { g with copy := some (0, max 1 (F.SEP_DMA_CTL_LINES.get v)) }
      if s.fnInfo port f F.SEP_FN_INFO_BME = 0 then s.copyEnd port f 4
      else if s.linkOff (sepSeg port) && s.f c F.SEP_DMA_CTL_DIR = 0 then s.copyEnd port f 3
      else s.copyNext port f

def State.copyOver (s : State) (port f code : Nat) : State :=
  match (s.fn port f).copy with
  | some (d, n) => if code = 0 && d < n then s else s.copyEnd port f code
  | none => s

/-! ## Links, resets and slots -/

/-- The Data Link Layer comes up; at 64 GT/s always in flit mode (R352). A locked package trains no link (R83). -/
def State.linkUpK (s : State) (k speed width : Nat) (flit : Bool) : State :=
  let port := k / 4
  let gen := min speed (s.f (R.PCIE_INFO port) F.PCIE_INFO_MAX_GEN)
  let flit := flit || gen = 6
  let lanes := if s.isSep port then 16 else 16 / 2 ^ s.f (R.PCIE_INFO port) F.PCIE_INFO_SPLIT
  if s.locked || !(s.segReal k || (s.isSep port && k % 4 = 0)) || !(s.ltssm k = L_DETECT || s.ltssm k = L_TRAINING) then s
  else
    let s := (s.setF (rStat k) F.SEG_STAT_LTSSM L_L0).setF (rStat k) F.SEG_STAT_DLL_ACTIVE 1
    let s := ((s.setF (rStat k) F.SEG_STAT_SPEED gen).setF (rStat k) F.SEG_STAT_WIDTH (min width lanes)).setF (rStat k) F.SEG_STAT_FLIT flit.toNat
    let s := (s.setLinkUp port 1).hpEvent k F.HP_STAT_DLL_CHANGE
    let s := if s.isSep port then s.fnMasks port else s.arbMask (42 + port) (k % 4) (s.owner k != 0 && s.partFenced (s.owner k))
    s.kickReqs k

/-- A link leaves L0: state 0 DISABLED, 1 DETECT, 2 HOT_RESET. -/
def State.linkDownK (s : State) (k st : Nat) : State :=
  let new := if st = 2 then L_HOT_RESET else st
  if s.linkOff k then s
  else if s.isSep (k / 4) then s.sepDown (k / 4) new
  else if s.segReal k then when (new = L_HOT_RESET) (fun s => s.arbMask (42 + k / 4) (k % 4) true) (s.linkDrop k new)
  else s

def State.recoverIn (s : State) (k : Nat) : State := if s.ltssm k = L_L0 then s.setF (rStat k) F.SEG_STAT_LTSSM L_RECOVERY else s
def State.recoverOut (s : State) (k : Nat) : State :=
  if s.ltssm k = L_RECOVERY then (s.setF (rStat k) F.SEG_STAT_LTSSM L_L0).kickReqs k else s

/-- A write of SEG_CTL (R364). -/
def State.segCtlOp (s : State) (w : Who) (k : Nat) (v : Word) : State :=
  s.csGuard w (rSegCtl k) 8 (some v) fun s =>
    let was := s.reg (rSegCtl k)
    let s := (s.plainWrite (rSegCtl k) v (s.whoPart w)).whoReply w 0
    let s :=
      if F.SEG_CTL_PERST.get v = 1 then (if F.SEG_CTL_PERST.get was = 1 && s.f (rStat k) F.SEG_STAT_PERST = 1 then
          s.updSeg k fun g => { g with perstRel := false } else s.perstOn k)
      else if s.f (rStat k) F.SEG_STAT_PERST = 0 then s
      else if (s.seg k).perstHeld then s.updSeg k fun g => { g with perstRel := true }
      else s.perstOff k
    let s :=
      if F.SEG_CTL_LINK_DIS.get v = 1 then (if s.ltssm k = L_DISABLED then s else s.linkDrop k L_DISABLED)
      else if F.SEG_CTL_LINK_DIS.get was = 1 && s.f (rStat k) F.SEG_STAT_PERST = 0 then s.setF (rStat k) F.SEG_STAT_LTSSM L_DETECT
      else s
    if F.SEG_CTL_HOT_RESET.get v = 1 && !s.linkOff k then ((s.linkDrop k L_HOT_RESET).arbMask (42 + k / 4) (k % 4) true).send (.pcie k T_HOTRESET 0 0 []) else s

def State.hotResetOver (s : State) (k : Nat) : State :=
  if s.ltssm k = L_HOT_RESET then s.setF (rStat k) F.SEG_STAT_LTSSM L_DETECT else s

def State.perstHoldOver (s : State) (k : Nat) : State :=
  let rel := (s.seg k).perstRel
  let s := s.updSeg k fun g => { g with perstHeld := false }
  if rel then s.perstOff k else s

/-- An indicator output takes its register's value. -/
def State.indicator (s : State) (name blink : String) (k v : Nat) : State := s.send (.pin (if v = 2 then blink else name) k (v = 1 || v = 2))

/-- A write of HP_CTL (R365, R366). -/
def State.hpCtlOp (s : State) (w : Who) (k : Nat) (v : Word) : State :=
  s.csGuard w (rHpCtl k) 8 (some v) fun s =>
    let was := s.reg (rHpCtl k)
    let s := (s.plainWrite (rHpCtl k) v (s.whoPart w)).whoReply w 0
    let s := if F.HP_CTL_ATTN_IND.get v = F.HP_CTL_ATTN_IND.get was then s
      else s.indicator "SLOT_ATTN_LED" "SLOT_ATTN_LED_1HZ" k (F.HP_CTL_ATTN_IND.get v)
    let s := if F.HP_CTL_PWR_IND.get v = F.HP_CTL_PWR_IND.get was then s
      else s.indicator "SLOT_PWR_LED" "SLOT_PWR_LED_1HZ" k (F.HP_CTL_PWR_IND.get v)
    match F.HP_CTL_PWR.get was, F.HP_CTL_PWR.get v with
    | 0, 1 =>
      if s.f (rHpStat k) F.HP_STAT_PRESENT = 0 then s.setF (rHpCtl k) F.HP_CTL_PWR 0
      else (if s.f (rStat k) F.SEG_STAT_PERST = 1 then s else s.perstOn k).slotOn k
    | 1, 0 => (s.perstOn k).updSeg k fun g => { g with pwrSeq := 3 }
    | _, _ => s

def State.swren (s : State) (k : Nat) (on : Bool) : State := (s.updSeg k fun g => { g with swren := on, pwrSeq := 0 }).send (.pin "SLOT_PWREN" k on)

/-- SLOT_PWRGD is not high 100 ms after power on. -/
def State.pwrgdLate (s : State) (k : Nat) : State :=
  if (s.seg k).pwrSeq = 1 && s.f (rHpStat k) F.HP_STAT_PWR_GOOD = 0 then
    ((s.swren k false).setF (rHpCtl k) F.HP_CTL_PWR 0).hpEvent k F.HP_STAT_PWR_FAULT
  else s

/-- 100 ms after SLOT_PWRGD rose. -/
def State.slotRelease (s : State) (k : Nat) : State :=
  if (s.seg k).pwrSeq = 1 then
    let s := (s.setF (rHpStat k) F.HP_STAT_PWR_GOOD 1).updSeg k fun g => { g with pwrSeq := 0, perstHeld := false }
    -- PERST stays while the owner is fenced (R367)
    if s.partFenced (s.owner k) then s else s.perstOff k
  else s

def State.pwrenDrop (s : State) (k : Nat) : State := if (s.seg k).pwrSeq = 3 then s.swren k false else s

def State.slotPresence (s : State) (k : Nat) (on : Bool) : State :=
  if (s.f (rHpStat k) F.HP_STAT_PRESENT = 1) = on then s
  else
    let s := (s.setF (rHpStat k) F.HP_STAT_PRESENT on.toNat).setF (rStat k) F.SEG_STAT_PRESENT on.toNat
    let s := if !on && s.f (rHpCtl k) F.HP_CTL_PWR = 1 then s.slotOff k else s
    if s.segReal k then s.hpEvent k F.HP_STAT_PRESENCE_CHANGE else s

def State.pwrgdFall (s : State) (k : Nat) : State :=
  if !s.segReal k then s
  else ((s.setF (rHpStat k) F.HP_STAT_PWR_GOOD 0).slotOff k).hpEvent k F.HP_STAT_PWR_FAULT

def State.slotPress (s : State) (k : Nat) : State := if s.segReal k then s.hpEvent k F.HP_STAT_BUTTON else s

end Sys2Proof.Machine
end

