-- ==== Sys2Proof/Machine/MemOps.lean ====
section
/-! DEFINITION. The memory channels: what a channel serves next, page locks, the scrubber's walk, the restripe, tokens,
channel failure and the training helpers (R249 to R266). -/

namespace Sys2Proof.Machine

/-! ## States of MC_STAT (R267) -/

def CH_ABSENT : Nat := 0
def CH_UNTRAINED : Nat := 1
def CH_TRAINING : Nat := 2
def CH_INITIALISING : Nat := 3
def CH_READY : Nat := 4
def CH_SELF_REFRESH : Nat := 5
def CH_FAILED : Nat := 6

def State.chState (s : State) (c : Nat) : Nat := s.f (R.MC_STAT c) F.MC_STAT_STATE
def State.setChState (s : State) (c v : Nat) : State := s.setF (R.MC_STAT c) F.MC_STAT_STATE v

/-- Package ranks of a channel. -/
def State.ranks (s : State) (c : Nat) : Nat := s.f (R.MC_INFO c) F.MC_INFO_MODULES * s.f (R.MC_INFO c) F.MC_INFO_PRANKS
/-- Lines a channel holds, the carve-out included. -/
def State.chanLines (s : State) (c : Nat) : Nat := s.f (R.MC_INFO c) F.MC_INFO_CAP_GIB * 2 ^ 24

/-! ## Back from a channel's line to the package's offsets (R239, R248) -/

/-- Usable lines of the channels of the group before channel c. -/
def State.usableBefore (s : State) (c : Nat) : Nat := sumOf ((List.range (c % 4)).map fun i => s.usable (c / 4 * 4 + i))

/-- The offset of a usable channel-local line. -/
def State.offOf (s : State) (c l : Nat) : Nat :=
  let a := match s.groupOrder (c / 4) with
    | 0 => l / 4 * 16 + c % 4 * 4 + l % 4
    | 3 => s.usableBefore c + l
    | _ => l / 64 * 256 + c % 4 * 64 + l % 64
  s.groupBase (c / 4) + a

/-- The first offset of the page whose parity lies at a carve-out line, and the row; none for a slot beyond the last page. -/
def State.slotPage (s : State) (c l : Nat) : Option (Nat × Nat) :=
  let cv := s.carve c
  if cv = 0 then none
  else if s.groupOrder (c / 4) = 3 then
    let q := l - s.usable c
    if q / cv * 64 < s.usable c then some (s.groupBase (c / 4) + s.usableBefore c + q / cv * 64, q % cv) else none
  else
    let q := (l - s.usable c) * 4 + c % 4
    if q / cv * 64 < s.groupUsable (c / 4) then some (s.groupBase (c / 4) + q / cv * 64, q % cv) else none

/-! ## Page locks (R251) -/

/-- The lock holder of a page: its channel for order 3, else its group's first channel. -/
def State.lockGroup (s : State) (c : Nat) : Nat := if s.groupOrder (c / 4) = 3 then c else c / 4 * 4

def State.pageLocked (s : State) (off : Nat) : Bool :=
  match s.pageOf off with
  | some (g, P, _) => s.dram.locks.any fun k => k.group = g && k.page = P
  | none => false

/-! ## What a channel serves next -/

/-- R257: the line's key slot is loaded. -/
def State.keyReady (s : State) (c line : Nat) : Bool := bit (s.f (R.MC_STAT c) F.MC_STAT_KEYS) (s.keySlotOf line)

def State.serveable (s : State) (c : Nat) (r : ChanReq) : Bool :=
  r.ch = c && r.passed && !s.pageLocked (offOfLine r.line) && s.keyReady c r.line

/-- The first access passed to the channel that may proceed, if it is a read (or a write). A failed channel answers what is sent to it, and
performs nothing (R266). -/
def State.nextReq (s : State) (c : Nat) (wr : Bool) : Option ChanReq :=
  if s.chState c != CH_READY && !s.chanGone c then none
  else match s.dram.queue.find? (fun r => if s.chanGone c then r.ch = c else s.serveable c r) with
    | some r => if r.wr = wr then some r else none
    | none => none

def State.unqueue (s : State) (r : ChanReq) : State := s.onDram fun d => { d with queue := d.queue.erase r }

/-- Answer the home for a served access. -/
def State.served (s : State) (r : ChanReq) (res : Option Line) : State :=
  match r.slot with
  | some n => s.memBack r.hub n r.wr res
  | none => s

/-- A read of stored bytes delivered in plaintext. -/
def State.giveLine (s : State) (r : ChanReq) (x : Stored) : State := s.served r (some (s.decrypt r.line (storedData x)))

/-! ## Reads and writes -/

/-- Lock the page of an access for its rebuild; its page reads wait for their schedulers (R249, R251). l is the line it serves. -/
def State.lockPage (s : State) (off n c l : Nat) (r : ChanReq) (own : Option Nat) : State :=
  match s.pageOf off with
  | none => s
  | some (g, P, _) =>
    s.onDram fun d => { d with locks := d.locks ++ [{ group := g, page := P, req := r, own := own, reads := s.pageReads off n (c, l),
                                                      done := false }] }

/-- A read of a line of strength 0, or of one that needs no rebuild (R244). -/
def State.readNow (s : State) (c l : Nat) (r : ChanReq) : State :=
  match s.readLine c l with
  | (s, .poisoned, _) => (s.record E.POISON_ACCESS 2 r.hub [r.part] (some (r.line * 64))).served r none
  | (s, .failed, _) => (s.memUe c l (some (r.line * 64)) r.part).served r none
  | (s, _, x) => s.giveLine r x

/-- A write, with the rebuilds it needs (R252, R253). -/
def State.writeNow (s : State) (r : ChanReq) : State :=
  if r.poison then (s.writePoison r.line).served r (some 0)
  else
    let marked := s.isPoisoned r.line
    match s.writeData r.line r.part r.mask r.data with
    | (s, .done) => (if marked then s.incF (R.POISON_STAT r.hub) F.POISON_STAT_CLEARED else s).served r (some 0)
    | (s, .ue) => s.served r none
    | (s, .poisoned) => (s.record E.POISON_ACCESS 2 r.hub [r.part] (some (r.line * 64))).served r none

/-- An access taken from the channel's queue: one that needs page reads locks its page, any other is served; a failed channel answers
BUS_ERR (R266). -/
def State.accessOp (s : State) (c : Nat) (wr : Bool) : State :=
  match s.nextReq c wr with
  | none => s
  | some r =>
    let s := s.unqueue r
    if s.chanGone c then s.served r none
    else match s.chanOf (offOfLine r.line) with
    | none => s
    | some (c, l) =>
      if s.needsPage r.line wr (r.full || r.poison) then s.lockPage (offOfLine r.line) (s.pageStrength r.line) c l r none
      else if wr then s.writeNow r else s.readNow c l r

/-- DRAM_READ: the first access passed to the channel, a read, is decoded (R244). -/
def State.dramReadOp (s : State) (c : Nat) : State := s.accessOp c false

/-- DRAM_WRITE: the first access passed to the channel, a write (R252, R253). -/
def State.dramWriteOp (s : State) (c : Nat) : State := s.accessOp c true

/-- A failed read after its page reads: solved and delivered, or uncorrectable (R249, R250). -/
def State.rebuiltRead (s : State) (c l : Nat) (r : ChanReq) : State :=
  match s.rebuildPage (offOfLine r.line) (s.pageStrength r.line) (some (c, l)) with
  | (s, some n) => (s.record E.MEM_PAGE_REBUILD 3 c [r.part] (some (r.line * 64)) (n % 16)).giveLine r (s.stored c l)
  | (s, none) => (s.memUe c l (some (r.line * 64)) r.part).served r none

/-- What the scrubber knows of a line: its page, the page's strength, and the physical address of a data line; none for a slot that no
page uses. -/
def State.scrubPage (s : State) (c l : Nat) : Option (Nat × Nat × Option Nat) :=
  if l < s.usable c then some (s.offOf c l, s.pageStrength (s.lineOf (s.offOf c l)), some (s.lineOf (s.offOf c l) * 64))
  else match s.slotPage c l with
    | some (off, j) => if j < s.pageStrength (s.lineOf off) then some (off, s.pageStrength (s.lineOf off), none) else none
    | none => none

/-- A failed line under the scrubber after its page reads (R262): it has no requester. -/
def State.rebuiltScrub (s : State) (c l : Nat) : State :=
  match s.scrubPage c l with
  | none => s
  | some (off, n, addr) =>
    let part := s.lineOwner (s.lineOf off)
    match s.rebuildPage off n (some (c, l)) with
    | (s, some k) => s.record E.MEM_PAGE_REBUILD 3 c [part] (some (addr.getD (s.lineOf off * 64))) (k % 16)
    | (s, none) => s.memUe c l addr part

/-- The work of a page's lock is complete. -/
def State.lockDone (s : State) (k : PageLock) : State :=
  s.onDram fun d => { d with locks := d.locks.map fun x => if x = k then { x with done := true } else x }

/-- MEM_PAGE_REBUILD: the page reads for the channel's oldest waiting rebuild complete, and what waited for them is served. -/
def State.rebuildOp (s : State) (c : Nat) : State :=
  match s.dram.locks.find? fun k => k.req.ch = c && !k.done && k.reads = [] with
  | none => s
  | some k =>
    let r := k.req
    let s := s.lockDone k
    match k.own, s.chanOf (offOfLine r.line) with
    | some l, _ => s.rebuiltScrub c l
    | none, none => s
    | none, some (c, l) => if r.wr then s.writeNow r else s.rebuiltRead c l r

/-! ## Parity cache errors (R254) -/

/-- The region of an offset's page gives the strength under which it is resynchronised. -/
def State.resyncSlot (s : State) (c l : Nat) : State :=
  match s.slotPage c l with
  | none => s
  | some (off, _) =>
    let line := s.lineOf off
    s.resyncPage off (s.pageStrength line) c (line * 64) (s.lineOwner line)

/-- The page of a parity slot is locked. -/
def State.slotLocked (s : State) (c l : Nat) : Bool := (s.slotPage c l).any fun e => s.pageLocked e.1

/-- The resynchronisations that waited for a lock (R251, R254). -/
def State.resyncWaiting (s : State) : State :=
  each s.dram.resyncs (fun s e =>
    if s.slotLocked e.1 e.2 then s else (s.onDram fun d => { d with resyncs := d.resyncs.erase e }).resyncSlot e.1 e.2) s

/-- PAGE_LOCK_RELEASE: the lock of a page whose work is complete is released. -/
def State.unlockOp (s : State) (c page : Nat) : State :=
  let g := s.lockGroup c
  (s.onDram fun d => { d with locks := d.locks.filter fun k => !(k.group = g && k.page = page && k.done) }).resyncWaiting

def State.parityErrorOp (s : State) (h set way : Nat) (correctable : Bool) : State :=
  let p := s.dram.pcache.get (pcKey h set way)
  if correctable || !p.valid then s
  else
    let s := s.onDram fun d => { d with pcache := d.pcache.del (pcKey h set way) }
    if !p.dirty then s
    else if s.slotLocked p.ch p.addr then s.onDram fun d => { d with resyncs := d.resyncs ++ [(p.ch, p.addr)] }
    else s.resyncSlot p.ch p.addr

/-! ## The restripe (R255) -/

/-- Begin the restripe of the next region that waits for one. -/
def State.restripeNext (s : State) : State :=
  if s.f (R.MC_RESTRIPE 0) F.MC_RESTRIPE_BUSY = 1 then s
  else match s.dram.restripePend with
    | [] => s
    | r :: rest =>
      let s := s.onDram fun d => { d with restripePend := rest }
      let q := R.MC_RESTRIPE 0
      ((s.setF q F.MC_RESTRIPE_BUSY 1).setF q F.MC_RESTRIPE_REGION r).setF q F.MC_RESTRIPE_DONE_PAGES 0

/-- The restripe of a region ends: PREV_S takes the value of STRENGTH. -/
def State.restripeEnd (s : State) (r : Nat) : State :=
  let s := s.setF (R.MR_BASE 0 r) F.MR_BASE_PREV_S (s.f (R.MR_BASE 0 r) F.MR_BASE_STRENGTH)
  ((s.setF (R.MC_RESTRIPE 0) F.MC_RESTRIPE_BUSY 0).setF (R.MC_RESTRIPE 0) F.MC_RESTRIPE_DONE_PAGES 0).restripeNext

/-- Write rows m to n - 1 of a page, computed from its stored bytes. -/
def State.writeRows (s : State) (off m n : Nat) : State :=
  let full := (s.pageLoc off).map fun e => s.pageBytes e.1 e.2
  each (((s.rowLoc off n).zipIdx).drop m) (fun s e =>
    let x := rsEncode (pageRow full e.2)
    (s.pcPut e.1.1 e.1.2 x false).setStored e.1.1 e.1.2 x) s

/-- One page of a restripe: failed lines rebuilt with the PREV_S rows, then the new rows; or all rows afresh. -/
def State.restripeAt (s : State) (r line : Nat) : State :=
  let off := offOfLine line
  let old := s.f (R.MR_BASE 0 r) F.MR_BASE_PREV_S
  let new := s.f (R.MR_BASE 0 r) F.MR_BASE_STRENGTH
  let part := s.f (R.MR_BASE 0 r) F.MR_BASE_PART
  let ch := match s.chanOf off with | some (c, _) => c | none => 0
  match s.rebuildPage off old none with
  | (s, some n) =>
    let s := if n = 0 then s else s.record E.MEM_PAGE_REBUILD 3 ch [part] (some (line * 64)) (n % 16)
    s.writeRows off old new
  | (s, none) => s.resyncPage off new ch (line * 64) part

/-- RESTRIPE_PAGE: the next page of the region being restriped, once its lock is free. -/
def State.restripeOp (s : State) : State :=
  let q := R.MC_RESTRIPE 0
  if s.f q F.MC_RESTRIPE_BUSY = 0 then s
  else
    let r := s.f q F.MC_RESTRIPE_REGION
    let done := s.f q F.MC_RESTRIPE_DONE_PAGES
    let pages := s.f (R.MR_SIZE 0 r) F.MR_SIZE_SIZE * 512
    if pages ≤ done then s.restripeEnd r
    else
      let line := s.f (R.MR_BASE 0 r) F.MR_BASE_BASE * 2 ^ 15 + done * 64
      if s.pageLocked (offOfLine line) then s
      else
        let s := (s.restripeAt r line).setF q F.MC_RESTRIPE_DONE_PAGES (done + 1)
        if done + 1 = pages then s.restripeEnd r else s

/-! ## Ranks (R259) -/

/-- Commands of Msg.dram: what the controller sends to a channel's ranks. A refresh is at double rate while HOT is 1 (R236). -/
def DRAM_REFRESH_DOUBLE : Nat := 5
def DRAM_REFRESH : Nat := 1
def DRAM_CALIBRATE : Nat := 2
def DRAM_SELF_REFRESH : Nat := 3
def DRAM_POWER_DOWN : Nat := 4

/-- A rank with no command for IDLE cycles enters power-down; it has none waiting. -/
def State.powerDownOp (s : State) (c rank : Nat) : State :=
  let inPd := s.f (R.MC_PD_STAT c) F.MC_PD_STAT_IN_PD
  let waits := s.dram.queue.any fun r => r.ch = c && match s.chanOf (offOfLine r.line) with
    | some (c, l) => s.rankOf c l = rank
    | none => false
  if s.f (R.MC_PD_CTL c) F.MC_PD_CTL_IDLE = 0 || s.chState c != CH_READY || s.ranks c ≤ rank || bit inPd rank || waits then s
  else (((s.setF (R.MC_PD_STAT c) F.MC_PD_STAT_IN_PD (inPd ||| 2 ^ rank))).incF (R.MC_PD_STAT c) F.MC_PD_STAT_ENTRIES).send
    (.dram c DRAM_POWER_DOWN rank)

/-- The controller of a channel refreshes and calibrates this rank. -/
def State.rankRuns (s : State) (c rank : Nat) : Bool :=
  rank < s.ranks c && (s.chState c = CH_READY || s.chState c = CH_INITIALISING)

/-- The refresh command of a channel: at double rate while a module reports a temperature above 85 degrees (R236). -/
def State.refreshCmd (s : State) (c : Nat) : Nat := if s.f (R.MC_STAT c) F.MC_STAT_HOT = 1 then DRAM_REFRESH_DOUBLE else DRAM_REFRESH

/-- A refresh of a rank; a rank in power-down leaves it for the refresh and returns. -/
def State.refreshRank (s : State) (c rank : Nat) : State :=
  if s.rankRuns c rank then s.send (.dram c (s.refreshCmd c) rank) else s

/-- The calibration of a rank is due: 1024 beats have passed since its last (R259). -/
def State.calDue (s : State) (c rank : Nat) : Bool := s.rankRuns c rank && s.dram.calAt.get (c * 4 + rank) + 1024 ≤ s.now

/-- A calibration of a rank that is due. -/
def State.calRank (s : State) (c rank : Nat) : State :=
  if s.calDue c rank then (s.onDram fun d => { d with calAt := d.calAt.put (c * 4 + rank) s.now }).send (.dram c DRAM_CALIBRATE rank) else s

/-! ## The scrubber (R261, R262) -/

/-- A line the scrubber passes over: its page is locked, or it is a slot whose parity line is dirty in the parity cache. -/
def State.scrubSkips (s : State) (c l : Nat) : Bool :=
  if l < s.usable c then s.pageLocked (s.offOf c l)
  else
    (match s.pcWay c l with
      | some w => (s.dram.pcache.get (pcKey (hubOfChan c) (pcSet l) w)).dirty
      | none => false)
    || (match s.slotPage c l with
      | some (off, _) => s.pageLocked off
      | none => false)

/-- The first line at or after l that is not passed over; at most n are. -/
def State.scrubFrom (s : State) (c : Nat) : Nat → Nat → Nat
  | 0, l => l
  | n + 1, l => if l < s.chanLines c && s.scrubSkips c l then State.scrubFrom s c n (l + 1) else l

/-- Handle the line under the scrubber (R262). -/
def State.scrubLine (s : State) (c l : Nat) : State :=
  match s.readLine c l with
  | (s, .failed, _) =>
    match s.scrubPage c l with
    | none => s.memUe c l none 0
    | some (off, n, addr) =>
      if n = 0 || s.isLost c l then s.memUe c l addr (s.lineOwner (s.lineOf off))
      else s.lockPage off n c l { (default : ChanReq) with ch := c, line := s.lineOf off } (some l)
  | (s, _, _) => s

/-- The scrubber passes the top of the channel: the lap is recorded and the next begins. LAST_LAP saturates; LAPS wraps, since the spec says
nothing of its limit (DESIGN CHOICE, log entry 92). -/
def State.scrubLap (s : State) (c : Nat) : State :=
  let s := s.setF (R.MC_SCRUB_STAT c) F.MC_SCRUB_STAT_LAST_LAP
    (min (s.now - s.dram.scrubStart.get c) F.MC_SCRUB_STAT_LAST_LAP.max)
  let s := (s.wrapF (R.MC_SCRUB_STAT c) F.MC_SCRUB_STAT_LAPS).setF (R.MC_SCRUB_POS c) F.MC_SCRUB_POS_ADDR 0
  s.onDram fun d => { d with scrubStart := d.scrubStart.put c s.now }

/-- SCRUB_READ: one line read of the scrubber, where the channel is idle, no calibration is due and grant remains. -/
def State.scrubOp (s : State) (c : Nat) : State :=
  if s.chState c != CH_READY || s.f (R.MC_SCRUB_CTL c) F.MC_SCRUB_CTL_EN = 0 || s.dram.scrubLeft.get c = 0
      || s.dram.queue.any (fun r => r.ch = c) || s.dram.locks.any (fun k => !k.done && (k.req.ch = c || k.reads.contains c))
      || (List.range 4).any (s.calDue c) then s
  else
    let l := s.scrubFrom c (s.dram.pcache.length + 64 * s.dram.locks.length) (s.f (R.MC_SCRUB_POS c) F.MC_SCRUB_POS_ADDR)
    let top := s.chanLines c
    let s := if l < top then (s.onDram fun d => { d with scrubLeft := d.scrubLeft.upd c (· - 1) }).scrubLine c l else s
    if top ≤ l + 1 then s.scrubLap c else s.setF (R.MC_SCRUB_POS c) F.MC_SCRUB_POS_ADDR (l + 1)

/-! ## Tokens (R237, R258) -/

/-- Lines per beat of a channel at its trained rate (R237). -/
def State.chanTokens (s : State) (c : Nat) : Nat := s.f (R.MC_INFO c) F.MC_INFO_RATE * s.f R.BEAT_CFG F.BEAT_CFG_N / 800

/-- MEM_BW_SHARE of a partition at a channel. -/
def State.memShare (s : State) (c p : Nat) : Nat := bits (s.reg (R.MC_SHARE c (p / 4))) (p % 4 * 16) 16

/-- Step 3 of R50 at a channel: the partitions whose tokens ran out in the beat are shown, and every count is set. -/
def State.tokenRefill (s : State) (c : Nat) : State :=
  let out := maskOf (parts15.filter fun p => s.dram.ranOut.contains (c * 16 + p))
  let s := s.setF (R.MC_TOK c) F.MC_TOK_EXHAUSTED out
  s.onDram fun d => { d with
    tokens := each parts15 (fun m p => m.put (c * 16 + p) (s.chanTokens c * s.memShare c p / 1024)) d.tokens
    ranOut := d.ranOut.filter fun k => k / 16 != c }

/-- Step 5 of R50: the scrubber's grant of the beat. -/
def State.scrubGrant (s : State) (c : Nat) : State :=
  let g := min (s.f (R.MC_SCRUB_CTL c) F.MC_SCRUB_CTL_GRANT) (s.chanTokens c)
  s.onDram fun d => { d with scrubLeft := d.scrubLeft.put c g }

/-- R258: the requests of a round at a memory scheduler that are eligible by tokens. -/
def State.tokenFilter (s : State) (c : Nat) (reqs : List (Nat × Bool)) : List (Nat × Bool) :=
  let has (p : Nat) : Bool := p = 0 || s.dram.tokens.get (c * 16 + p) != 0
  let some1 := reqs.any fun r => !r.2 && r.1 != 0 && has r.1 && s.arbOpen (24 + c) r.1
  if some1 then reqs.filter fun r => r.2 || has r.1 else reqs

/-- The oldest request of a partition that a memory scheduler may pass: requests for one line keep the order of their home (R251). -/
def State.passable (s : State) (c p : Nat) : Option ChanReq :=
  s.dram.queue.find? fun r => r.ch = c && r.part = p && !r.passed && (s.dram.queue.find? fun q => q.line = r.line && !q.passed) = some r

/-- Page reads of a rebuild wait at a memory scheduler: they rank as its requester 0 and take no tokens (R249). -/
def State.rebuildReads (s : State) (c : Nat) : Bool := s.dram.locks.any fun k => k.reads.contains c

/-- The scheduler passes a page read of the oldest rebuild that waits there. -/
def State.passRead (s : State) (c : Nat) : State :=
  match s.dram.locks.find? fun k => k.reads.contains c with
  | none => s
  | some k => s.onDram fun d => { d with locks := d.locks.map fun x => if x = k then { x with reads := x.reads.erase c } else x }

/-- The memory scheduler passes the winner's oldest request to the channel; it takes one of the partition's tokens. -/
def State.passReq (s : State) (c p : Nat) : State :=
  match s.passable c p with
  | none => s
  | some r =>
    s.onDram fun d => { d with
      queue := d.queue.erase r ++ [{ r with passed := true }]
      tokens := d.tokens.upd (c * 16 + p) (· - 1)
      ranOut := if d.tokens.get (c * 16 + p) = 1 then addOnce d.ranOut (c * 16 + p) else d.ranOut }

/-! ## Channel failure (R266) -/

/-- The regions with a line or parity on a channel. -/
def State.chanRegions (s : State) (c : Nat) : List Nat :=
  let g := c / 4
  let (lo, n) := if s.groupOrder g = 3 then (s.groupBase g + s.usableBefore c, s.usable c) else (s.groupBase g, s.groupUsable g)
  let lo := s.lineOf lo
  (List.range 64).filter fun r =>
    let b := s.f (R.MR_BASE 0 r) F.MR_BASE_BASE * 2 ^ 15
    s.f (R.MR_BASE 0 r) F.MR_BASE_VALID = 1 && b < lo + n && lo < b + s.f (R.MR_SIZE 0 r) F.MR_SIZE_SIZE * 2 ^ 15

/-- A channel fails: its requests receive BUS_ERR, and the Gong fences the owners of its regions. -/
def State.chanFail (s : State) (c : Nat) : State :=
  if s.chState c = CH_FAILED then s
  else
    let s := s.setChState c CH_FAILED
    let parts := (((s.chanRegions c).map fun r => s.f (R.MR_BASE 0 r) F.MR_BASE_PART).filter fun p => p != 0).eraseDups
    let lost := (s.dram.queue.filter fun r => r.ch = c) ++ ((s.dram.locks.filter fun k => k.req.ch = c && !k.done).map (·.req))
    let s := s.onDram fun d => { d with
      queue := d.queue.filter fun r => r.ch != c
      locks := (d.locks.filter fun k => k.req.ch != c).map fun k => { k with reads := k.reads.filter (· != c) } }
    let s := each lost (fun s r => s.served r none) s
    s.raiseGong E.MEM_CHANNEL_FAIL 3 c (maskOf parts) parts

/-- CA_PARITY_ERROR: the command is retried; an error that persists through 3 retries fails the channel. -/
def State.caParityOp (s : State) (c : Nat) : State :=
  if !(s.chState c = CH_READY || s.chState c = CH_INITIALISING || s.chState c = CH_TRAINING) then s
  else if s.dram.caRetry.get c < 3 then
    (s.incF (R.MC_ERR_CNT c) F.MC_ERR_CNT_CA_RETRY).onDram fun d => { d with caRetry := d.caRetry.upd c (· + 1) }
  else s.chanFail c

/-- A command was carried out: its retries are over. -/
def State.cmdDone (s : State) (c : Nat) : State := s.onDram fun d => { d with caRetry := d.caRetry.del c }

/-! ## Rest (R260) -/

/-- At Rest entry a hub writes every dirty parity line of its channels to its slot. -/
def State.flushParity (s : State) (h : Nat) : State :=
  each ((s.dram.pcache.map (·.1)).filter fun k => k / 16384 = h) State.pcFlush s

/-! ## The training helpers (R263) -/

/-- Line k of a pattern: PRBS23 has no stated bit order, so its lines are free values (log entry 2). -/
def patLine (pat seed k ctr : Nat) : Stored :=
  match pat with
  | 1 => if k % 2 = 0 then 0 else BitVec.allOnes 640
  | 2 => BitVec.ofNat 640 (2 ^ (k % 640))
  | 3 => BitVec.ofNat 640 ((List.range 20).foldl (fun a _ => a * 2 ^ 32 + seed) 0)
  | _ => BitVec.ofNat 640 ((List.range 10).foldl (fun a i => a * 2 ^ 64 + (Config.freeValue (ctr + i)).toNat) 0)

/-- Write line k of a pattern at channel line l; a line of free values takes ten. -/
def State.patStep (s : State) (c l pat seed k : Nat) : State :=
  let x := patLine pat seed k s.freeCtr
  let s := if l < s.chanLines c then s.setStored c l x else s
  each (if pat = 0 then List.range 10 else []) (fun s _ => s.tick) s

/-- Write n lines of one rank and subchannel, from line l upward; two neighbouring lines lie in the two subchannels. -/
def State.writePattern (s : State) (c l pat seed k : Nat) : Nat → State
  | 0 => s
  | n + 1 => State.writePattern (s.patStep c l pat seed k) c (l + 2) pat seed (k + 1) n

/-- The first line at or after the address that lies in the rank and the subchannel. -/
def State.trnStart (s : State) (c addr rank sub : Nat) : Nat :=
  let a := max addr (rank * s.rankLines c)
  if a % 2 = sub then a else a + 1

/-- Start the helper operation that TRN_CTL describes. -/
def State.trnGo (s : State) (c : Nat) : State :=
  let q := R.TRN_CTL c
  let op := s.f q F.TRN_CTL_OP
  if s.chState c = CH_READY || op = 3 || s.f (R.TRN_STAT c) F.TRN_STAT_BUSY = 1 then s
  else
    let s := s.setF (R.TRN_STAT c) F.TRN_STAT_BUSY 1
    if op = 1 then s
    else s.writePattern c (s.trnStart c (s.f (R.TRN_ADDR c) F.TRN_ADDR_ADDR) (s.f q F.TRN_CTL_RANK) (s.f q F.TRN_CTL_SUBCH))
      (s.f q F.TRN_CTL_PATTERN) (s.f q F.TRN_CTL_SEED) 0 (s.f q F.TRN_CTL_LINES)

/-- A write to TRN_CTL: its RW fields, then the operation where GO is 1. -/
def State.trnCtlWrite (s : State) (w : Who) (c : Nat) (v : Word) : State :=
  s.csGuard w (R.TRN_CTL c) 8 (some v) fun s =>
    let s := s.plainWrite (R.TRN_CTL c) v (s.whoPart w)
    (if F.TRN_CTL_GO.get v = 1 then s.trnGo c else s).whoReply w 0

/-- A write of GO with a given OP. -/
def trnWord (op : Nat) (v : Word) : Word := F.TRN_CTL_GO.set (F.TRN_CTL_OP.set v op) 1

/-- TRN_DONE: the operation ends; what the compare helper found is shown. -/
def State.trnDoneOp (s : State) (c bad lanes strobe : Nat) : State :=
  let st := R.TRN_STAT c
  if s.f st F.TRN_STAT_BUSY = 0 then s
  else
    let s := (s.setF st F.TRN_STAT_BUSY 0).setF st F.TRN_STAT_DONE 1
    if s.f (R.TRN_CTL c) F.TRN_CTL_OP = 0 then s.setF st F.TRN_STAT_MISMATCH 0
    else
      let e := R.TRN_LANE_ERR c (s.f (R.TRN_CTL c) F.TRN_CTL_SUBCH)
      let s := s.setF st F.TRN_STAT_MISMATCH bad
      (s.setF e F.TRN_LANE_ERR_LANE (s.f e F.TRN_LANE_ERR_LANE ||| lanes)).setF e F.TRN_LANE_ERR_STROBE
        (s.f e F.TRN_LANE_ERR_STROBE ||| strobe)

end Sys2Proof.Machine
end

