-- ==== Sys2Proof/Machine/AssayOps.lean ====
section
/-! DEFINITION. Assay (R424 to R430): the queue of blocks, their preparation, tests, results and return. Blocks 0-11 are the
dies, 12 and 13 the hubs. -/

namespace Sys2Proof.Machine

def ASSAY_IDLE : Nat := 0
def ASSAY_QUEUED : Nat := 1
def ASSAY_PREPARING : Nat := 2
def ASSAY_TESTING : Nat := 3

def RES_PASS : Nat := 1
def RES_FAIL : Nat := 2
def RES_LIVE : Nat := 3
def RES_POWER : Nat := 4
def RES_STATE : Nat := 5
def RES_ABORTED : Nat := 6

def State.assayState (s : State) (i : Nat) : Nat := s.f (R.ASSAY_STAT i) F.ASSAY_STAT_STATE
def State.setAssay (s : State) (i v : Nat) : State := s.setF (R.ASSAY_STAT i) F.ASSAY_STAT_STATE v
/-- The block at the head of the queue. -/
def State.assayHead (s : State) : Option Nat := s.err.assayQ.head?
/-- The block in preparation or under test. -/
def State.assayNow (s : State) : Option Nat := s.assayHead.filter fun i => ASSAY_PREPARING ≤ s.assayState i

/-- A core enters OFF: what it holds is cleaned and dropped, its pending vectors are redelivered (R101, R114). -/
def State.coreOff (s : State) (c : Nat) : State :=
  if s.alive c then (((((s.dropCore c).purgeCore c []).coreEmpty c).setCoreState c 0).pendStamped c).redeliver c else s

/-! ## The queue (R424) -/

def State.live (s : State) (i : Nat) : Bool :=
  s.f R.PKG_INFO F.PKG_INFO_ADMITTED = 1 && (if i < 12 then (coresOfDie i).any s.alive else allCores.any s.alive)

/-- A block's result, its counts and its record. -/
def State.assayResult (s : State) (i res : Nat) : State :=
  let r := R.ASSAY_STAT i
  let s := ((s.setF r F.ASSAY_STAT_RESULT res).setF r F.ASSAY_STAT_BEAT_LO s.now).incF (R.ASSAY_CNT i) F.ASSAY_CNT_RUNS
  let s := if res = RES_FAIL then s.incF (R.ASSAY_CNT i) F.ASSAY_CNT_FAILS else s
  s.record (if res = RES_PASS then E.ASSAY_PASS else if res = RES_FAIL then E.ASSAY_FAIL else E.ASSAY_ABORTED) 15 i
    (if i < 12 then s.dieParts i else []) none (s.f r F.ASSAY_STAT_RUN + s.f r F.ASSAY_STAT_FAILED * 16 + res * 256)

/-- RUN, FAILED and NO_REF start at 0. -/
def State.assayClear (s : State) (i : Nat) : State :=
  let r := R.ASSAY_STAT i
  ((s.setF r F.ASSAY_STAT_RUN 0).setF r F.ASSAY_STAT_FAILED 0).setF r F.ASSAY_STAT_NO_REF 0

/-- Queue a block behind what is queued. -/
def State.assayPush (s : State) (i tests level : Nat) : State :=
  if s.err.assayQ.contains i then s
  else (s.setAssay i ASSAY_QUEUED).onErr fun e => { e with
    assayQ := e.assayQ ++ [i], assayTests := e.assayTests.put i tests, assayLevel := e.assayLevel.put i level }

/-- Blocks named by a command, which skips live ones, or by a ticket, which does not. -/
def State.assayRequest (s : State) (blocks : List Nat) (tests level : Nat) (skipLive : Bool) : State :=
  let s := each blocks (fun s i =>
    if skipLive && s.live i && !s.err.assayQ.contains i then (s.assayClear i).assayResult i RES_LIVE else s.assayPush i tests level) s
  if s.err.assayQ = [] then s else s.trigOn TRG_ASSAY

/-! ## Tests (R425, R426) -/

/-- DIR_SLICE runs only in a package not admitted. -/
def State.canRun (s : State) (i t : Nat) : Bool := !(12 ≤ i && t = 2 && s.f R.PKG_INFO F.PKG_INFO_ADMITTED = 1)

/-- The next selected test at or after t begins; after the last one the result is due at the boundary. -/
def State.assayNext (s : State) (i t : Nat) : State :=
  match (List.range 4).find? fun k => t ≤ k && bit (s.err.assayTests.get i) k && s.canRun i k with
  | some k =>
    let s := s.onErr fun e => { e with assayTest := k }
    if 12 ≤ i && k = 1 then
      (s.flushParity (i - 12)).onDram fun d => { d with pcache := d.pcache.filter fun e => e.1 / 16384 != i - 12 }
    else s
  | none => s.onErr fun e => { e with assayRes := some (e.assayRes.getD 0) }

/-- A die in service drains and powers down, its cores OFF (R390); one that is waking does so once it is on. -/
def State.assayDrain (s : State) (i : Nat) : State :=
  if i < 12 && s.err.assayPrior.get i = 1 && s.dieState i = 2 then (each (coresOfDie i) State.coreOff s).beginDrain i 2 else s

/-- Step 2 of R426: a block starts. -/
def State.assayStart (s : State) (i : Nat) : State :=
  let s := (s.setAssay i ASSAY_PREPARING).assayClear i
  let prior := if 12 ≤ i then 3 else if s.dieFenced i then 2 else 1
  let s := s.onErr fun e => { e with assayRes := none, assayFresh := false, assayPrior := e.assayPrior.put i prior }
  if i < 12 && (s.dieState i = 0 || prior = 2) then s.resumeLink (8 + i) else s.assayDrain i

/-- The clocks and power switches of a die in service, for its tests. -/
def State.assayClocks (s : State) (i : Nat) (on : Bool) : State :=
  (((s.setCluster i 0 on).setCluster i 1 on).clkOn (4 * i + 2) on).clkOn (4 * i + 3) on

/-- ASSAY_PREPARED: the block is drained, and a die's link has resumed. -/
def State.assayReady (s : State) (i : Nat) : State :=
  if s.assayNow != some i || s.assayState i != ASSAY_PREPARING ||
    (i < 12 && (s.dieState i != 0 && !s.dieFenced i || (s.taskOf false (linkTask (8 + i))).isSome)) then s
  else
    let s := (s.setAssay i ASSAY_TESTING).setLevel i (s.err.assayLevel.get i)
    let s := if s.err.assayPrior.get i = 1 then s.assayClocks i true else s
    (s.onErr fun e => { e with assayFresh := true }).assayNext i 0

/-- ASSAY_TEST_DONE: a test's signature is compared with its reference (R428). -/
def State.assayDone (s : State) (i : Nat) (sig : Word) : State :=
  if s.assayNow != some i || s.assayState i != ASSAY_TESTING || s.err.assayFresh || s.err.assayRes.isSome then s
  else
    let t := s.err.assayTest
    let r := R.ASSAY_STAT i
    let ref := s.boot.cfg.sigs.find? fun e => e.block = i && e.test = t
    let s := (s.setReg (R.ASSAY_SIG i t) sig).setF r F.ASSAY_STAT_RUN (s.f r F.ASSAY_STAT_RUN ||| 2 ^ t)
    let s := match ref with
      | none => s.setF r F.ASSAY_STAT_NO_REF (s.f r F.ASSAY_STAT_NO_REF ||| 2 ^ t)
      | some _ => s
    let ok := (ref.map (·.sig)) = some sig.toNat
    let s := if ok then s else s.setF r F.ASSAY_STAT_FAILED (s.f r F.ASSAY_STAT_FAILED ||| 2 ^ t)
    s.assayNext i (t + 1)

/-! ## Results and return (R428, R429) -/

/-- A result of 0 is read off the tests. -/
def State.assayVerdict (s : State) (i : Nat) : Nat :=
  if s.f (R.ASSAY_STAT i) F.ASSAY_STAT_RUN = 0 then RES_STATE
  else if s.f (R.ASSAY_STAT i) F.ASSAY_STAT_FAILED = 0 then RES_PASS else RES_FAIL

/-- A block ends and returns. -/
def State.assayEnd (s : State) (i res : Nat) : State :=
  let res := if res = 0 then s.assayVerdict i else res
  let prior := s.err.assayPrior.get i
  let s := (s.setAssay i ASSAY_IDLE).assayResult i res
  let kept := if prior = 1 && res != RES_PASS && s.dieState i = 0 then 4 else 0
  let s := s.onErr fun e => { e with
    assayQ := e.assayQ.erase i, assayRes := none, assayFresh := false, assayPrior := e.assayPrior.put i kept
    assayTests := e.assayTests.del i, assayLevel := e.assayLevel.del i }
  let s := if i < 12 && prior = 1 && s.dieState i = 0 then s.assayClocks i false else s
  if i < 12 && res = RES_PASS then
    let s := s.setF (R.ASSAY_STAT i) F.ASSAY_STAT_PASS_SINCE_FENCE 1
    let s := each (coresOfDie i) (fun s c => if s.coreState c = 3 then s.updCoreH c fun h => { h with assayed := true } else s) s
    if prior = 1 then s.startWake i else s
  else s

/-- A Service Core task of hub i - 12 is called for while its Service Core is under test. -/
def State.taskCalled (s : State) (i : Nat) : Bool :=
  12 ≤ i && s.assayState i = ASSAY_TESTING && s.err.assayTest = 0 && bit (s.err.assayTests.get i) 0 && s.err.assayRes.isNone &&
    (s.boot.svcTasks.any (fun k => k.hub = i - 12) || s.sec.copies.any fun k => !k.done && k.pkg = s.pkg && hubOfDie (dieOf k.boot) = i - 12)

/-- What ends the block in progress at this boundary. -/
def State.assayDue (s : State) (i : Nat) : Option Nat :=
  if s.beat.selfFenced then some RES_ABORTED
  else if i < 12 && s.err.assayPrior.get i = 1 && s.dieFenced i then some RES_ABORTED
  else if s.taskCalled i then some RES_ABORTED
  else if s.assayState i = ASSAY_TESTING then s.err.assayRes else none

/-- The boundary's Assay work: the block in progress ends where its result is due, the next begins once the homes are
owner-ordered, and an empty queue ends the trigger. -/
def State.assayTick (s : State) : State :=
  let had := s.err.assayQ != []
  let s := match s.assayNow with
    | some i => (match s.assayDue i with | some r => s.assayEnd i r | none => s)
    | none => s
  let s := if s.beat.selfFenced then each s.err.assayQ (fun s i => s.assayEnd i RES_ABORTED) s else s
  match s.assayHead with
  | some i =>
    if s.assayState i = ASSAY_QUEUED && s.ordered 0 && s.ordered 1 then s.assayStart i
    else if s.assayState i = ASSAY_PREPARING then s.assayDrain i else s
  | none => if had then s.trigOff TRG_ASSAY else s

end Sys2Proof.Machine
end

