-- ==== Sys2Proof/Machine/BootOps.lean ====
section
/-! DEFINITION. Start-up (R65 to R83): reset, the Islands, the flash copies and the choice between them, the locked state, the
image applied at a boundary (R66 step 5), and the training stages (R80, R242, R264, R265). -/

namespace Sys2Proof.Machine

/-! ## The locked state (R83) -/

def State.setStat (s : State) (fl : Fld) (v : Nat) : State := s.onBoot fun k => { k with stat := fl.set k.stat v }

/-- The clock domains of the always-on domain, the timebase and the Security Islands. -/
def CLK_LOCKED : Nat := 2 ^ 53 + 2 ^ 60 + 2 ^ 62 + 2 ^ 63

/-- Every die and its cores are off. -/
def State.diesOff (s : State) : State :=
  let s := each allDies (fun s d => if s.dieFenced d then s else
    ((s.setF (R.PWR_DIE d) F.PWR_DIE_STATE 0).setF (R.PWR_DIE d) F.PWR_DIE_WEST_ON 0).setF (R.PWR_DIE d) F.PWR_DIE_EAST_ON 0) s
  each allCores (fun s c => if s.coreState c = 3 then s else s.setCoreState c 0) s

/-- Enter the locked state; its record is already written. -/
def State.lock (s : State) (cause : Nat) : State :=
  let s := ((s.setStat F.BOOT_STAT_LOCKED 1).setStat F.BOOT_STAT_LOCK_CAUSE cause).setStat F.BOOT_STAT_PHASE 15
  let s := s.onBoot fun k => { k with flashHiZ := true, flashEnabled := false, stage := 6, svcTasks := [], selected := none }
  let s := each (List.range 21) (fun s l => if s.linkState l = LK_UNUSED then s
    else ((s.setLink l LK_DOWN).setF (R.LINK_STAT l) F.LINK_STAT_WIDTH 0).setReg (R.LINK_MAP l) 0) s
  let s := each (List.range 32) (fun s k => each [F.SEG_STAT_LTSSM, F.SEG_STAT_DLL_ACTIVE, F.SEG_STAT_SPEED, F.SEG_STAT_WIDTH, F.SEG_STAT_FLIT]
    (fun s fl => s.setF (rStat k) fl 0) (s.updSeg k fun _ => default)) s
  s.diesOff.setReg R.CLKD_ON (BitVec.ofNat 64 CLK_LOCKED)

/-! ## Reset and the Islands (R65, R66 steps 1 and 2) -/

/-- RESET_N is released: the strap is sampled, the always-on domain and the timebase leave reset, the beat counter is 0. -/
def State.deassert (s : State) (strap : Nat) : State :=
  if !s.boot.inReset then s
  else
    let s := s.onBoot fun k => { k with inReset := false, flashHiZ := false, strap := strap }
    let s := s.onBeat fun b => { b with now := 0, running := true }
    s.setReg R.CLKD_ON (BitVec.ofNat 64 (2 ^ 64 - 2 ^ 48))

/-- The Islands draw a new command nonce. -/
def State.newNonce (s : State) : State :=
  let s := (s.setReg (R.MB_CMD_NONCE 0) s.free).tick
  (s.setReg (R.MB_CMD_NONCE 1) s.free).tick

/-- The package waits for its Islands. -/
def State.awaitsIslands (s : State) : Bool := !s.boot.inReset && !s.locked && s.phase = 0

def State.islandFault (s : State) : State := (s.record E.ISLAND_FAULT 8 0).lock 14

def State.islands (s : State) (ok : Bool) : State :=
  if !s.awaitsIslands then s
  else if !ok then s.islandFault
  else (s.newNonce.setPhase 1).onBoot fun k => { k with flashEnabled := true }

/-! ## Reading and verifying the flash (R69, R74 to R76) -/

/-- A hub's read ends: with the flash's bytes from offset 0, or with no answer. -/
def State.flashDone (s : State) (h : Nat) (bytes : Option (List Byte)) (flashSize : Nat) : State :=
  if s.phase != 1 || (s.boot.copies.get h).done then s
  else
    let c : ImgCopy := match bytes with
      | none => { done := true, fault := IMG_FLASH, bytes := [] }
      | some b =>
        let len := field b 40 4
        if !imageLenOk len flashSize then { done := true, fault := IMG_FORMAT, bytes := [] }
        else if b.length < len then { done := true, fault := IMG_FLASH, bytes := [] }
        else { done := true, fault := 0, bytes := b.take len }
    let s := s.onBoot fun k => { k with copies := k.copies.put h c }
    if (s.boot.copies.get 0).done && (s.boot.copies.get 1).done then
      (s.setPhase 2).onBoot fun k => { k with flashEnabled := false }
    else s

/-- The anti-rollback counter. -/
def State.fusedRollback (s : State) : Nat := max Config.fusedRollback.val s.boot.advanced

/-- Both Islands' verdict on a copy; flip says that they reached different results. -/
def State.copyVerdict (s : State) (h : Nat) (flip : Bool) : Nat × Image :=
  let c := s.boot.copies.get h
  if flip then (IMG_DISAGREE, default) else if c.fault != 0 then (c.fault, default) else verifyImage c.bytes s.pkg s.fusedRollback

/-- The chosen copy is applied at the next boundary. -/
def State.select (s : State) (h : Nat) (i : Image) : State :=
  let s := (s.setStat F.BOOT_STAT_COPY_USED h).setStat F.BOOT_STAT_IMAGE_ROLLBACK i.rollback
  s.onBoot fun k => { k with selected := some i }

/-- The table of R76. A record of a copy that fails gives its fault in DETAIL, coded as LOCK_CAUSE: DEDUCED, log entry 50. -/
def State.choose (s : State) (va vb : Nat × Image) : State :=
  let bad (s : State) (h : Nat) : State := s.record E.IMAGE_COPY_BAD 2 h [] none (if h = 0 then va.1 else vb.1)
  match decide (va.1 = 0), decide (vb.1 = 0) with
  | true, true =>
    if (s.boot.copies.get 0).bytes = (s.boot.copies.get 1).bytes then s.select 0 va.2
    else if va.2.rollback = vb.2.rollback && va.2.imageId = vb.2.imageId then (s.record E.IMAGE_AMBIGUOUS 8 0).lock 8
    else
      let s := s.record E.IMAGE_COPY_DIFFER 8 0
      if vb.2.rollback < va.2.rollback || (va.2.rollback = vb.2.rollback && vb.2.imageId < va.2.imageId) then s.select 0 va.2
      else s.select 1 vb.2
  | true, false => (bad s 1).select 0 va.2
  | false, true => (bad s 0).select 1 vb.2
  | false, false => (bad (bad s 0) 1).lock 13

def State.verifyDone (s : State) (flipA flipB : Bool) : State :=
  if s.phase != 2 || s.boot.selected.isSome then s
  else
    let va := s.copyVerdict 0 flipA
    let vb := s.copyVerdict 1 flipB
    let s := if flipA then s.disagree else s.agreed
    let s := if flipB then s.disagree else s.agreed
    let s := (s.setStat F.BOOT_STAT_COPY_A_OK (decide (va.1 = 0)).toNat).setStat F.BOOT_STAT_COPY_B_OK (decide (vb.1 = 0)).toNat
    ((s.setStat F.BOOT_STAT_FAULT_A va.1).setStat F.BOOT_STAT_FAULT_B vb.1).choose va vb

/-! ## What a configuration writes (R22, R194, R258, R310, R328) -/

/-- A 512-bit value of the random source. -/
def State.draw512 (s : State) : BitVec 512 × State :=
  each (List.range 8) (fun (x : BitVec 512 × State) _ => (x.1 <<< 64 ||| x.2.free.setWidth 512, x.2.tick)) (0, s)

/-- A new memory key for a partition (R308), where the Islands have generated the same one; else it keeps the key it has (R307). -/
def State.newKey (s : State) (p : Nat) : State :=
  if s.sec.differ then s.disagree
  else
  let (k, s) := s.agreed.draw512
  s.onDram fun d => { d with keysOf := d.keysOf.put p k }

/-- A field of 16 bits of a partition in a group of four per register. -/
def fld16 (p : Nat) : Fld := { lo := p % 4 * 16, width := 16 }

/-- MEM_BW_SHARE and INJ_SHARE reach the channels and the regulators. -/
def State.setShares (s : State) (p mem inj : Nat) : State :=
  let s := each (List.range 16) (fun s c => s.setF (R.MC_SHARE c (p / 4)) (fld16 p) mem) s
  each ((List.range 64).filter hasReg) (fun s a => s.setF (R.INJ_SHR a (p / 4)) (fld16 p) inj) s

def State.setPartInfo (s : State) (p flags rings mem inj : Nat) : State :=
  let r := R.PART_INFO p
  let s := ((s.setF r F.PART_INFO_DEFINED 1).setF r F.PART_INFO_TWIN (flags % 2)).setF r F.PART_INFO_MAILBOX (flags / 2 % 2)
  let s := (s.setF r F.PART_INFO_ALLOW_DEGRADED (flags / 4 % 2)).setF r F.PART_INFO_SEP_GRANT (flags / 8 % 2)
  let s := ((s.setF r F.PART_INFO_RINGS rings).setF r F.PART_INFO_MEM_BW_SHARE mem).setF r F.PART_INFO_INJ_SHARE inj
  s.setShares p mem inj

/-- The Service Endpoint functions: the f-th granting partition (R368). -/
def State.setFns (s : State) : State :=
  let ps := parts15.filter fun p => s.f (R.PART_INFO p) F.PART_INFO_SEP_GRANT = 1
  each [3, 7] (fun s n =>
    let sep := s.f (R.PCIE_INFO n) F.PCIE_INFO_MODE = 2
    let s := s.setF (R.PCIE_INFO n) F.PCIE_INFO_NFUNC (if sep then max 1 (min 8 ps.length) else 0)
    each (List.range 8) (fun s f =>
      let p := if sep then ps.getD f 0 else 0
      (s.setF (R.SEP_FN_INFO n f) F.SEP_FN_INFO_PART p).setF (R.SEP_FN_INFO n f) F.SEP_FN_INFO_PRESENT
        (sep && (p != 0 || f = 0)).toNat) s) s

/-- Core c takes partition p; its twin bits follow (R38, R89). -/
def State.ownCore (s : State) (c p : Nat) : State :=
  let s := s.setF (R.CORE_STAT c) F.CORE_STAT_PARTITION p
  let tw := p != 0 && s.isTwin p
  (s.setF (R.CORE_STAT c) F.CORE_STAT_TWIN tw.toNat).setF (R.CORE_STAT c) F.CORE_STAT_UPPER (tw && 120 ≤ c).toNat

/-- Entry r of the region table of this package, which every channel block shows (R267); size 0 removes it. -/
def State.setRegion (s : State) (r : Nat) (part strength prev base size : Nat) : State :=
  if size = 0 then (s.setReg (R.MR_BASE 0 r) 0).setReg (R.MR_SIZE 0 r) 0
  else
    (s.setReg (R.MR_BASE 0 r) (BitVec.ofNat 64 (1 + part * 2 ^ 4 + strength * 2 ^ 8 + prev * 2 ^ 12 + base))).setReg
      (R.MR_SIZE 0 r) (BitVec.ofNat 64 size)

def State.setOfficers (s : State) (os : List Officer) : State :=
  let s := s.onBoot fun k => { k with cfg := { k.cfg with officers := os } }
  let s := s.setF R.MB_INFO F.MB_INFO_PRESENT (maskOf (os.map (·.id)))
  s.setF R.MB_INFO F.MB_INFO_SECURITY (maskOf ((os.filter fun o => o.role = 1).map (·.id)))

/-- The resource descriptor of a partition (R310). -/
def Image.descriptor (i : Image) (r : PartRec) : List Byte :=
  let bitmap (pkg : Nat) : List Byte := leBytes 32 (maskOf ((List.range 240).filter fun c => (i.ownersOf pkg).getD c 0 = r.id))
  r.head ++
  ((i.topo.map fun e => leBytes 8 e.pkg ++ bitmap e.pkg).flatten) ++
  (((i.regions.filter fun x => x.part = r.id).map (·.raw)).flatten) ++
  ((i.ports.map fun q => ((List.range 4).filter fun k => q.segOwner.getD k 0 = r.id).map fun k =>
    leBytes 1 q.pkg ++ leBytes 1 q.port ++ leBytes 1 k ++ leBytes 5 q.mode).flatten.flatten) ++
  (((i.windows.filter fun w => w.part = r.id).map (·.raw)).flatten) ++
  (((i.keys.filter fun k => k.part = r.id).map (·.raw)).flatten)

/-- Partition p's Touchmark at start-up; a partition without a record has zeros. -/
def Image.touchmark (i : Image) (r : PartRec) : Digest :=
  Config.sha384 (i.descriptor r ++ digestBytes (Config.sha384 r.payload))

/-- Clock domains of a hub whose units the image leaves unconfigured are gated (R378). -/
def State.gateClocks (s : State) (i : Image) : State :=
  let dimms (c : Nat) : Nat := ((i.group s.pkg).map fun g => g.dimmsOf c).getD 0
  let mode (n : Nat) : Nat := ((i.port s.pkg n).map (·.mode)).getD 0
  let linked (n : Nat) : Bool := (i.topoFor s.pkg).any fun e => (e.peerOf n).isSome
  each [0, 1] (fun s h =>
    let s := s.clkOn (49 + 7 * h) ((List.range 4).any fun j => dimms (8 * h + j) != 0)
    let s := s.clkOn (50 + 7 * h) ((List.range 4).any fun j => dimms (8 * h + 4 + j) != 0)
    let s := s.clkOn (51 + 7 * h) ((List.range 4).any fun j => mode (4 * h + j) != 0)
    s.clkOn (52 + 7 * h) ((List.range 4).any fun j => linked (4 * h + j))) s

/-- The image's entries for channels, regions and keys. -/
def State.applyMemory (s : State) (i : Image) : State :=
  let s := match i.group s.pkg with
    | some g => each (List.range 16) (fun s c =>
        let s := ((s.setF (R.MC_CFG c) F.MC_CFG_ORDER (g.orderOf (c / 4))).setF (R.MC_CFG c) F.MC_CFG_CARVE_S g.carve).setF
          (R.MC_CFG c) F.MC_CFG_DIMMS (g.dimmsOf c)
        if g.dimmsOf c = 0 then s.setChState c CH_ABSENT else s) s
    | none => s
  let s := each (i.regions.filter fun r => r.pkg = s.pkg).zipIdx (fun s (r, k) => s.setRegion k r.part r.strength r.strength r.base r.size) s
  let s := each (List.range 16) State.newKey s
  each (List.range 16) (fun s c => s.setF (R.MC_STAT c) F.MC_STAT_KEYS 0xFFFF) s

/-- The image's crypto service keys (R343). -/
def State.applyKeys (s : State) (i : Image) : State :=
  each (i.keys.filter fun k => k.pkg = s.pkg) (fun s k =>
    match openBlob k.part k.slot k.blob with
    | some e => s.setKey k.part k.slot e
    | none => s.record E.KEY_UNWRAP_FAIL 8 0 [k.part]) s

def State.applyPcie (s : State) (i : Image) : State :=
  let s := each (i.ports.filter fun r => r.pkg = s.pkg) (fun s r =>
    let s := (s.setF (R.PCIE_INFO r.port) F.PCIE_INFO_MODE r.mode).setF (R.PCIE_INFO r.port) F.PCIE_INFO_SPLIT r.split
    let s := s.setF (R.PCIE_INFO r.port) F.PCIE_INFO_MAX_GEN r.maxGen
    each (List.range 4) (fun s k => s.setF (R.SEG_STAT r.port k) F.SEG_STAT_OWNER (r.segOwner.getD k 0)) s) s
  s.setFns

/-- Topology: ports and their peers, the listed packages, routes, and the sockets of this board. -/
def State.applyTopology (s : State) (i : Image) : State :=
  let s := match i.topoFor s.pkg with
    | some e => each (List.range 8) (fun (s : State) n =>
        let s := s.setF (R.FP_PEER n) F.FP_PEER_WIDTH_MIN (e.widthMin / 4 ^ n % 4)
        match e.peerOf n with
        | some (q, j) => ((s.setF (R.FP_PEER n) F.FP_PEER_PEER_PKG q).setF (R.FP_PEER n) F.FP_PEER_PEER_PORT j).setF
            (R.FP_PEER n) F.FP_PEER_CONNECTED 1
        | none => s.setLink n LK_UNUSED) s
    | none => s
  let s : State := (s.setF R.SYS_STAT F.SYS_STAT_LISTED (maskOf s.listed)).setRoutes
  each (List.range 4) (fun s k =>
    match s.socketPkg k with
    | some q => (s.setF (R.SKT_STAT k) F.SKT_STAT_PKG q).setF (R.SKT_STAT k) F.SKT_STAT_LISTED 1
    | none => s) s

/-- A stage of R80 begins with its tasks, each a full training. -/
def State.startStage (s : State) (n : Nat) (mem : Bool) (tasks : List Nat) : State :=
  each tasks (fun s t => s.beginTask mem t true) (s.onBoot fun k => { k with stage := n })

/-- Step 5 of R66: the selected image is applied, and H0 is computed. -/
def State.applyImage (s : State) (i : Image) : State :=
  let mods := [i.memTrain.body, i.linkTrain.body]
  let s := s.onBoot fun k => { k with cfg := i, selected := none, applied := true, svcMods := [(0, mods), (1, mods)] }
  let s := s.setF R.BEAT_CFG F.BEAT_CFG_N i.n
  let s := each i.parts (fun s r => s.setPartInfo r.id r.flags r.rings r.memBw r.inj) s
  let s := each i.parts (fun s r => s.onSec fun k => { k with touchmarks := k.touchmarks.put r.id (i.touchmark r) }) s
  let s := each (i.ownersOf s.pkg).zipIdx (fun s (p, c) => s.ownCore c p) s
  let s := (((s.applyMemory i).applyPcie i).applyTopology i).setOfficers i.officers
  let s := (s.setF R.PWR_CAP F.PWR_CAP_CAP_W i.capW).setReg R.PWR_CEIL
    (BitVec.ofNat 64 (sumOf (i.plCeil.zipIdx.map fun (v, p) => v * 16 ^ p)))
  let s := (s.applyKeys i).gateClocks i
  let h := Config.sha384 i.body
  let s := s.onBeat fun b => { b with h0 := h, hallmark := [h, h] }
  let s := (s.setF R.HALLMARK_INFO F.HALLMARK_INFO_VALID 1).setF R.HALLMARK_INFO F.HALLMARK_INFO_BEAT_LO s.now
  (s.startStage 1 false [0, 1, 2, 3]).setPhase 4

/-! ## Training (R79, R80) -/

/-- The unit a task's record names. -/
def taskUnit (mem : Bool) (t : Nat) : Nat × Nat :=
  if mem then (3, t % 16)
  else match taskLink t with
    | some l => if l = 20 then (7, 0) else if l < 8 then (5, l) else (6, l - 8)
    | none => (12, t % 4)

def taskDetail (t : Nat) (ret : Word) : Nat := ret.toNat % 2 ^ 32 + t * 2 ^ 32

/-- The record of a task that failed: none is its return value where it exceeded TIME_LIMIT. -/
def State.taskRecord (s : State) (mem : Bool) (t : Nat) (ret : Option Word) : State :=
  let u := taskUnit mem t
  match ret with
  | some r => s.record (if mem then E.MEM_TRAIN_FAIL else E.LINK_TRAIN_FAIL) u.1 u.2 [] none (taskDetail t r)
  | none => s.record E.MODULE_TIMEOUT u.1 u.2 [] none (taskDetail t 0)

/-- What a module's task ended with: its return value (none: stopped at TIME_LIMIT), and what the SPDs of the modules report where the next
task is the first full one of a memory channel (R264). -/
structure TaskEnd where
  task : Nat
  ret : Option Word
  spd : List Spd
  deriving DecidableEq, Repr, Inhabited

def TaskEnd.ok (e : TaskEnd) : Bool := e.ret = some 0

/-- A link's training has succeeded: the task returned 0, and the hardware of both ends has made the link ACTIVE, which the module cannot
do in its place (R272, R274). -/
def State.linkTrained (s : State) (l : Nat) (e : TaskEnd) : Bool := e.ok && s.linkActive l

/-- R268: roles of the tiles: the two lowest-numbered good ones are active. -/
def State.setTiles (s : State) (good : List Nat) : State :=
  each (List.range 4) (fun s t =>
    s.setTile t (if !good.contains t then 4 else if good.head? = some t then 1 else if good.getD 1 9 = t then 2 else 3)) s

def State.declared (s : State) : List Nat := (List.range 16).filter fun c => s.f (R.MC_CFG c) F.MC_CFG_DIMMS != 0

/-- R82 after training: every partition that has lost cores here and cannot start without them fails. -/
def State.trainFails (s : State) : State :=
  each s.boot.cfg.parts (fun s r => if s.coresLost r.id && s.noStart r.id then s.startFail r.id
    (if bootPkg r = s.pkg then hubOfDie (dieOf (bootCoreNo r)) else 0) else s) s

/-- Stage 5 ends: PCIe segments are powered where a slot is present (R366), and the package awaits admission. -/
def State.trained (s : State) : State :=
  let s := (s.startStage 6 false []).trainFails
  let s := each (List.range 32) (fun s k => if s.owner k != 0 && s.f (rHpStat k) F.HP_STAT_PRESENT = 1 then s.slotOn k else s) s
  s.setPhase 5

def State.stage5 (s : State) : State :=
  let ps := (List.range 8).filter fun n => s.f (R.FP_PEER n) F.FP_PEER_CONNECTED = 1
  if ps = [] then s.trained else s.startStage 5 false (ps.map taskPort)

/-- The rates of R236 for a number of modules per channel, highest first. -/
def ratesOf (modules : Nat) : List Nat := if modules = 2 then [5600, 5200, 4800] else [6400, 5600, 5200, 4800]

/-- The trained rate of a channel: the highest of R236 that every module reports and their number allows; 0 where there is none (R237). -/
def rateOf (l : List Spd) : Nat := ((ratesOf l.length).find? fun r => l.all fun m => m.rates.contains r).getD 0

/-- A module's capacity in GiB: ranks, dies per stack, 16 data devices, density (R236). -/
def spdCap (m : Spd) : Nat := m.ranks * m.dies * 16 * m.density / 8

/-- The module's type is supported (R236). -/
def spdTypeOk (m : Spd) : Bool :=
  m.ecc && m.rdimm && m.width = 4 && between m.ranks 1 2 && [1, 2, 4].contains m.dies && [16, 24, 32].contains m.density && spdCap m ≤ 256

/-- STACK and DENSITY of MC_INFO; 3 for a module outside R236, whose package locks (log entry 87). -/
def stackCode (d : Nat) : Nat := if d = 1 then 0 else if d = 2 then 1 else if d = 4 then 2 else 3
def densityCode (d : Nat) : Nat := if d = 16 then 0 else if d = 24 then 1 else if d = 32 then 2 else 3

/-- MC_INFO from the SPDs of a channel's modules (R264). -/
def State.fillInfo (s : State) (c : Nat) (l : List Spd) : State :=
  let r := R.MC_INFO c
  let m : Spd := l.headD default
  let s := s.setF r F.MC_INFO_MODULES (min l.length 3)
  let s := if l = [] then s else ((s.setF r F.MC_INFO_PRANKS (min m.ranks 3)).setF r F.MC_INFO_STACK (stackCode m.dies)).setF r
    F.MC_INFO_DENSITY (densityCode m.density)
  let s := (s.setF r F.MC_INFO_CAP_GIB (sumOf (l.map spdCap))).setF r F.MC_INFO_RATE (rateOf l)
  s.onBoot fun k => { k with chFound := k.chFound.put c l }

/-- Before the full tasks of the channels the SPD of every module is read (R264), in channels without a task too. -/
def State.readSpds (s : State) (l : List Spd) : State :=
  each ((List.range 16).filter fun d => s.f (R.MC_CFG d) F.MC_CFG_DIMMS != 0 || l.any fun m => m.chan.val = d) (fun s d =>
    s.fillInfo d (l.filter fun m => m.chan.val = d)) s

/-- MC_MAP: usable capacities and group bases (R238). -/
def State.fillMap (s : State) : State :=
  let s := each (List.range 16) (fun s c =>
    s.setF (R.MC_MAP c) F.MC_MAP_USABLE_MIB (s.f (R.MC_INFO c) F.MC_INFO_CAP_GIB * 1024 * (64 - s.carve c) / 64)) s
  each (List.range 16) (fun s c =>
    s.setF (R.MC_MAP c) F.MC_MAP_GROUP_BASE_MIB (sumOf ((List.range (c / 4)).map fun g => s.groupUsable g / 2 ^ 14))) s

/-- R236: a channel's modules are of supported types, of one type, and share a rate. -/
def spdOk (l : List Spd) : Bool :=
  l = [] || (l.all spdTypeOk && rateOf l != 0 && l.all fun m => { m with rates := [] } = { (l.headD default) with rates := [] })

/-- R242: two channels of a group hold modules of the same capacity, ranks and density. -/
def sameModules (a b : List Spd) : Bool :=
  let x : Spd := a.headD default
  let y : Spd := b.headD default
  spdCap x = spdCap y && x.ranks = y.ranks && x.density = y.density

/-- R242: the first channel whose modules are not the declared number or not of a supported type, or else the first that differs from
another channel of its group. -/
def State.badPopulation (s : State) : Option Nat :=
  match (List.range 16).find? fun c =>
      (s.boot.chFound.get c).length != s.f (R.MC_CFG c) F.MC_CFG_DIMMS || !spdOk (s.boot.chFound.get c) with
  | some c => some c
  | none => s.declared.find? fun c =>
      s.groupOrder (c / 4) != 3 &&
        s.declared.any fun d => d / 4 = c / 4 && !sameModules (s.boot.chFound.get c) (s.boot.chFound.get d)

/-- A region of this package extends beyond U. -/
def State.mapTooBig (s : State) : Bool :=
  s.boot.cfg.regions.any fun r => r.pkg = s.pkg && s.usableDram * 64 < r.base - s.pkg * 2 ^ 43 + r.size

/-- Stage 4 ends: lock, or the checks of R242 and then initialisation (R265). Stage 5 follows when every channel is READY. -/
def State.memTrained (s : State) : State :=
  match s.boot.memFails with
  | f :: r => s.lock (r.foldl (fun a b => if b.1 < a.1 then b else a) f).2
  | [] =>
    match s.badPopulation with
    | some c => (s.record E.MEM_POPULATION 3 c).lock 11
    | none =>
      let s := s.fillMap
      if s.mapTooBig then (s.record E.MEM_MAP_SIZE 2 0).lock 11
      else if s.declared = [] then s.stage5
      else each s.declared (fun s c => s.setChState c CH_INITIALISING) s

/-- CHANNEL_INIT_DONE: every line is 64 zero stored bytes with their check bytes, which are 0. -/
def State.chanInit (s : State) (c : Nat) : State :=
  if s.chState c != CH_INITIALISING || s.locked then s
  else
    let s := (s.setChState c CH_READY).onDram fun d => { d with mem := d.mem.filter fun e => e.1 / (2 ^ 34 * 128) != c, lost := d.lost.filter fun k => k / 2 ^ 34 != c }
    if s.boot.stage = 4 && !s.boot.svcTasks.any (·.full) && s.declared.all fun c => s.chState c = CH_READY then s.stage5 else s

/-- A full task of the stage in progress is left. -/
def State.stageBusy (s : State) : Bool := s.boot.svcTasks.any (·.full)

def State.stage4 (s : State) (spd : List Spd) : State :=
  let cs := s.declared
  let s := (s.readSpds spd).startStage 4 true cs
  let s := each cs (fun s c => s.setChState c CH_TRAINING) s
  if cs = [] then s.memTrained else s

/-- A die's link has trained at start-up: the die is on, its caches are invalid (R121), its assigned cores are in HALT (R101). -/
def State.dieTrained (s : State) (d : Nat) : State :=
  let s := (s.clearDie d).setF (R.PWR_DIE d) F.PWR_DIE_STATE 2
  let s := each [0, 1] (fun s k => s.setCluster d k true) s
  let s := (s.clkOn (4 * d + 2) true).clkOn (4 * d + 3) true
  each (coresOfDie d) (fun s c => if s.corePart c != 0 then s.setCoreState c 1 else s) s

/-- A full task of the stage in progress ends. -/
def State.stageTask (s : State) (mem : Bool) (e : TaskEnd) : State :=
  match s.boot.stage with
  | 1 =>
    let s := if e.ok then s.onBoot fun k => { k with tilesOk := addOnce k.tilesOk e.task } else s.taskRecord mem e.task e.ret
    if s.stageBusy then s
    else
      let good := (List.range 4).filter s.boot.tilesOk.contains
      let s := s.setTiles good
      if good.length < 2 then (s.record E.LASER_FAIL 2 0).lock 9 else s.startStage 2 false [TASK_BRIDGE]
  | 2 =>
    if s.linkTrained 20 e then s.startStage 3 false ((List.range 12).map taskDieLink)
    else (s.taskRecord mem e.task e.ret).lock (if e.ret.isNone then 12 else 10)
  | 3 =>
    let d := e.task - 0x10
    let s := if s.linkTrained (8 + d) e then s.dieTrained d
      else ((if e.ret.isNone then s.taskRecord mem e.task none else s).setLink (8 + d) LK_FAILED).fenceDie d 6 E.LINK_TRAIN_FAIL
        (taskDetail e.task (e.ret.getD 0))
    if s.stageBusy then s else s.stage4 e.spd
  | 4 =>
    let c := e.task % 16
    let s := if e.ok then s
      else (s.taskRecord mem c e.ret).onBoot fun k => { k with memFails := k.memFails ++ [(c, if e.ret.isNone then 12 else 11)] }
    if s.stageBusy then s else s.memTrained
  | 5 =>
    let n := e.task - 0x20
    let s := if s.linkTrained n e then s else (s.setLink n LK_DOWN).taskRecord mem e.task e.ret
    if s.stageBusy then s else s.trained
  | _ => s

/-- A task beside the stages ends: a retraining or the resume of a link, or of a channel at wake (R266, R274). One that fails, or that leaves
its link not ACTIVE, takes the link out of service; where the link is out already, what is left is the record of the task. -/
def State.resumeTask (s : State) (mem : Bool) (e : TaskEnd) : State :=
  if mem then
    let c := e.task % 16
    if e.ok then s.setChState c CH_READY else (s.taskRecord mem e.task e.ret).chanFail c
  else match taskLink e.task with
    | none => s
    | some l =>
      if s.linkTrained l e then s
      else
        let s := if e.ok then s else s.taskRecord mem e.task e.ret
        if s.linkState l = LK_UNUSED || s.linkState l = LK_FAILED then s else s.linkOut l

/-- A module's task ends (R79). One that runs longer than TIME_LIMIT beats is stopped, and returns nothing. -/
def State.taskEnd (s : State) (mem : Bool) (e : TaskEnd) : State :=
  match s.taskOf mem e.task with
  | none => s
  | some k =>
    if s.locked || !s.boot.applied || s.overTime k (e.ret.isSome) != e.ret.isNone then s
    else
      let s := s.endTask k
      if k.full then s.stageTask mem e else s.resumeTask mem e

/-! ## Reading BOOT_STAT over the management bus (R83, R401) -/

/-- The address at which the management-bus target answers. -/
def State.busAddr (s : State) : Nat := if s.boot.applied then s.boot.cfg.mgmtAddr + s.pkg else 0x60 + s.pkg

/-- The package error code of SMBus: CRC-8 with x^8 + x^2 + x + 1, most significant bit first. -/
def pecByte (crc b : Nat) : Nat :=
  (List.range 8).foldl (fun c _ => if c.testBit 7 then (c * 2 % 256) ^^^ 7 else c * 2) (crc ^^^ b)

def pec (l : List Nat) : Nat := l.foldl pecByte 0

/-- The target acknowledges a write, or does not. -/
def State.busAck (s : State) (ack : Bool) : State := s.send (.smbus ack [])

/-- The answer to a Block Read: its count, its bytes, and a PEC byte where MGMT.FLAGS asks for one (R330). -/
def State.busRead (s : State) (addr code : Nat) (bytes : List Byte) : State :=
  let l := BitVec.ofNat 8 bytes.length :: bytes
  s.send (.smbus true (if s.boot.applied && s.boot.cfg.pec then
    l ++ leBytes 1 (pec ([2 * addr, code, 2 * addr + 1] ++ l.map (·.toNat))) else l))

/-- A transaction addressed to the target. -/
def State.busHit (s : State) (addr : Nat) : Bool := !s.boot.inReset && addr = s.busAddr

def State.readBootStat (s : State) (addr : Nat) : State :=
  if !s.busHit addr then s
  else s.busRead addr 0xB0 (leBytes 8 (F.BOOT_STAT_FUSED_ROLLBACK.set s.boot.stat s.fusedRollback).toNat)

end Sys2Proof.Machine
end

