-- ==== Sys2Proof/Machine/Power.lean ====
section
/-! DEFINITION. The commands of chapter 14 on budgets, levels, domains and their request registers; Rest and wake stand in
Machine/Rest.lean. -/

namespace Sys2Proof.Machine

def execBudgetReport (h : Hub) (unit : Fin 14) (s : State) : Out := .next (s.reportIn h.val unit.val)

def execBudgetStale (s : State) : Out := .next s.staleOp

def execPowerGrant (unit : Fin 14) (level : Fin 8) (s : State) : Out := .next (s.grant unit.val level.val)

def execAvsVdone (unit : Fin 14) (s : State) : Out := .next (s.avsDone unit.val)

def execAvsTimeout (unit : Fin 14) (s : State) : Out := .next (s.avsFail unit.val)

/-- cluster: none for the whole die. -/
def execDomainDrainDone (d : Die) (cluster : Option (Fin 2)) (s : State) : Out :=
  .next (s.drainDone d.val (match cluster with | some k => k.val | none => 2))

def execDieWakeDone (d : Die) (s : State) : Out := .next (s.wakeDone d.val)

/-! ## Request registers (R405, R406) -/

/-- A write takes effect in the bits of keep only. -/
def Fld.blend (old v : Word) (take : Word) : Word := (old &&& ~~~ take) ||| (v &&& take)

/-- A write to REST_REQ: the writer's own bit. -/
def State.restReqOp (s : State) (w : Who) (v : Word) : State :=
  s.csGuard w R.REST_REQ 8 (some v) fun s =>
    (s.setReg R.REST_REQ (Fld.blend (s.reg R.REST_REQ) v (BitVec.ofNat 64 (2 ^ s.whoPart w)))).whoReply w 0

def execRestReqWrite (who : Sender) (v : Word) (s : State) : Out := .next (s.restReqOp who.who v)

/-- A write to PWR_HUB_REQ: the writer's own field. -/
def State.hubReqOp (s : State) (w : Who) (v : Word) : State :=
  s.csGuard w R.PWR_HUB_REQ 8 (some v) fun s =>
    (s.setReg R.PWR_HUB_REQ (Fld.blend (s.reg R.PWR_HUB_REQ) v (BitVec.ofNat 64 (15 * 2 ^ (4 * s.whoPart w))))).whoReply w 0

def execPwrHubReqWrite (who : Sender) (v : Word) (s : State) : Out := .next (s.hubReqOp who.who v)

/-- A write to CD_PL_REQ_k of a die: the fields of cores that the writer's partition owns. -/
def State.plReqOp (s : State) (w : Who) (d k : Nat) (v : Word) : State :=
  let r := if k = 0 then R.CD_PL_REQ_0 d else R.CD_PL_REQ_1 d
  s.csGuard w r 8 (some v) fun s =>
    let mine := (List.range (if k = 0 then 16 else 4)).filter fun j => s.corePart (20 * d + 16 * k + j) = s.whoPart w
    let m := BitVec.ofNat 64 (sumOf (mine.map fun j => 15 * 2 ^ (4 * j)))
    (s.setReg r (Fld.blend (s.reg r) v m)).whoReply w 0

def execCdPlReqWrite (who : Sender) (d : Die) (k : Fin 2) (v : Word) (s : State) : Out := .next (s.plReqOp who.who d.val k.val v)

/-- A field of CD_PL_REQ returns to 7 when its core changes partition. -/
def State.plReqReset (s : State) (c : Nat) : State :=
  let j := c % 20
  let r := if j < 16 then R.CD_PL_REQ_0 (dieOf c) else R.CD_PL_REQ_1 (dieOf c)
  s.setF r { lo := 4 * (j % 16), width := 4 } 7

end Sys2Proof.Machine
end

