-- ==== Sys2Proof/Machine/TicketOps.lean ====
section
/-! DEFINITION. Change tickets as data: their format (R316, R317), what a record does to the effective configuration (R314,
R320), the static conditions of R318 step 7 (R313, R451, R452), the partitions a record names (R311, R433), and the format of
officer commands (R325). -/

namespace Sys2Proof.Machine

/-! ## Records (R317) -/

def T_CORE_MOVE : Nat := 0x01
def T_REGION_SET : Nat := 0x02
def T_PCIE_SEG : Nat := 0x03
def T_PART_SET : Nat := 0x04
def T_PART_START : Nat := 0x05
def T_REG_SET : Nat := 0x06
def T_OFFICER_SET : Nat := 0x07
def T_KEY_IMPORT : Nat := 0x08
def T_DEBUG_SET : Nat := 0x09
def T_POWER_CAPS : Nat := 0x0A
def T_IMAGE_UPDATE : Nat := 0x0B
def T_ASSAY_LIVE : Nat := 0x0C

/-- PKG of a record for every admitted package. -/
def ANY_PKG : Nat := 0xFF

/-- A change record: its type, PKG and value, and all its bytes. -/
structure TRec where
  ty : Nat
  pkg : Nat
  val : List Byte
  raw : List Byte
  deriving DecidableEq, Repr, Inhabited

def TRec.b (r : TRec) (i : Nat) : Nat := byteAt r.val i
def TRec.f (r : TRec) (off n : Nat) : Nat := field r.val off n

/-- The records a string of bytes holds. n bounds their number. -/
def ticketRecs : Nat → List Byte → Option (List TRec)
  | 0, b => if b.isEmpty then some [] else none
  | n + 1, b =>
    if b.isEmpty then some []
    else
      let len := field b 2 2
      let all := 8 + pad8 len
      if b.length < all || !zeros b 5 3 || !zeros b (8 + len) (pad8 len - len) then none
      else (ticketRecs n (b.drop all)).map fun l =>
        { ty := field b 0 2, pkg := byteAt b 4, val := slice b 8 len, raw := b.take all } :: l

/-- The PKG values a record may have. -/
def TRec.pkgOk (r : TRec) : Bool :=
  if [T_CORE_MOVE, T_REGION_SET, T_PCIE_SEG, T_KEY_IMPORT, T_ASSAY_LIVE].contains r.ty then r.pkg ≤ 7
  else if [T_PART_SET, T_PART_START, T_OFFICER_SET].contains r.ty then r.pkg = ANY_PKG
  else r.pkg ≤ 7 || r.pkg = ANY_PKG

/-- The length of a record's value, and its reserved bytes: from, count. -/
def TRec.shape (r : TRec) : Option (Nat × List (Nat × Nat)) :=
  match r.ty with
  | 0x01 => some (40, [(1, 7)])
  | 0x02 => some (24, [(3, 5)])
  | 0x03 => some (8, [(3, 5)])
  | 0x04 => some (16, [(12, 4)])
  | 0x05 => some (88, [(3, 5)])
  | 0x06 => some (24, [(4, 4)])
  | 0x07 => some (104, [(2, 6)])
  | 0x08 =>
    if r.b 1 = 0 then some (8 + r.f 4 2, [(6, 2)])
    else if r.b 1 = 1 then some (72, [(6, 2), (9, 7)]) else none
  | 0x09 => some (16, [(3, 13)])
  | 0x0A => some (24, [(2, 2), (20, 4)])
  | 0x0B => some (72, [(1, 7)])
  | 0x0C => some (16, [(4, 12)])
  | _ => none

def TRec.formatOk (r : TRec) : Bool :=
  r.pkgOk && match r.shape with
    | some (len, gaps) => r.val.length = len && gaps.all fun g => zeros r.val g.1 g.2
    | none => false

/-! ## Tickets (R316) -/

structure Ticket where
  no : Nat
  system : Nat
  prior : Digest
  target : Nat
  body : List Byte
  recs : List TRec
  sigs : List (Nat × List Byte)   -- officer and signature
  deriving DecidableEq, Repr, Inhabited

def ascii (t : String) : List Byte := t.toList.map fun c => BitVec.ofNat 8 c.toNat

/-- The ticket that bytes hold; none where the format is wrong. -/
def ticketOf (b : List Byte) : Option Ticket :=
  let n := field b 80 4
  if 2048 < b.length || n < 88 || b.length != n + 208 || b.take 4 != ascii "ZTKT" || field b 4 2 != 1 || !zeros b 84 4 ||
      !between (field b 6 2) 1 64 || !zeros b (n + 1) 7 || !zeros b (n + 105) 7 then none
  else match ticketRecs 64 (slice b 88 (n - 88)) with
    | some recs =>
      if recs.length != field b 6 2 || !recs.all TRec.formatOk then none
      else some { no := field b 8 8, system := field b 16 8, prior := BitVec.ofNat 384 (beNat (slice b 24 48)),
                  target := field b 72 8, body := b.take n, recs := recs,
                  sigs := [(byteAt b n, slice b (n + 8) 96), (byteAt b (n + 104), slice b (n + 112) 96)] }
    | none => none

/-! ## What a record names -/

/-- The cores of a CORE_MOVE. -/
def TRec.cores (r : TRec) : List Nat := bitsOf (r.f 8 32) 240

/-- The register a REG_SET names: its block, instance and indexes. -/
def TRec.regRow (r : TRec) : Option (Blk × Nat × List Nat × RegRow) := regAt (r.f 0 4)

/-- The bits of a register's RWL fields. -/
def rwlBits (l : List FldRow) : Word :=
  l.foldl (fun m f => if f.ty = .rwl then m ||| ({ lo := f.lo, width := f.width } : Fld).mask else m) 0

/-- The dies and hubs of an ASSAY_LIVE. -/
def TRec.blocks (r : TRec) : List Nat := bitsOf (r.f 0 2) 14

/-! ## The effective configuration (R314, R320) -/

/-- The entries of MEM_MAP for a package, by INDEX; an entry of size 0 is unused. -/
def Image.pkgRegions (i : Image) (pkg : Nat) : List RegionRec := i.regions.filter fun r => r.pkg = pkg

def noRegion (pkg : Nat) : RegionRec := { pkg := pkg, part := 0, strength := 0, base := 0, size := 0, raw := [] }

def Image.region (i : Image) (pkg idx : Nat) : RegionRec := (i.pkgRegions pkg).getD idx (noRegion pkg)

def Image.setRegionAt (i : Image) (pkg idx : Nat) (r : RegionRec) : Image :=
  let l := i.pkgRegions pkg
  let l := l ++ List.replicate (idx + 1 - l.length) (noRegion pkg)
  { i with regions := i.regions.filter (fun x => x.pkg != pkg) ++ l.set idx r }

def Image.setOwners (i : Image) (pkg : Nat) (l : List Nat) : Image :=
  if i.coreOwners.any fun e => e.1 = pkg then
    { i with coreOwners := i.coreOwners.map fun e => if e.1 = pkg then (pkg, l) else e }
  else { i with coreOwners := i.coreOwners ++ [(pkg, l)] }

/-- The owners of a package's 240 cores. -/
def Image.allOwners (i : Image) (pkg : Nat) : List Nat := (List.range 240).map fun c => (i.ownersOf pkg).getD c 0

/-- A PARTITION record's place for a partition that a PART_SET defines. -/
def newPart (id : Nat) : PartRec := { (default : PartRec) with id := id }

/-- A region of a REGION_SET; size 0 removes the entry. -/
def TRec.region (r : TRec) : RegionRec :=
  if r.f 16 8 = 0 then noRegion r.pkg
  else { pkg := r.pkg, part := r.b 1, strength := r.b 2, base := r.f 8 8, size := r.f 16 8, raw := [] }

/-- A record changes the effective configuration of every package. -/
def Image.applyRec (i : Image) (r : TRec) : Image :=
  match r.ty with
  | 0x01 => i.setOwners r.pkg ((i.allOwners r.pkg).zipIdx.map fun (o, c) => if (r.f 8 32).testBit c then r.b 0 else o)
  | 0x02 => i.setRegionAt r.pkg (r.b 0) r.region
  | 0x03 =>
    let hit (q : PortRec) : Bool := q.pkg = r.pkg && q.port = r.b 0
    let own (w : WindowRec) : Bool := w.pkg = r.pkg && w.port = r.b 0 && w.seg = r.b 1
    { i with ports := i.ports.map (fun q => if hit q then { q with segOwner := q.segOwner.set (r.b 1) (r.b 2) } else q)
             windows := i.windows.map fun w => if own w then { w with part := r.b 2 } else w }
  | 0x04 =>
    let p := (i.part (r.b 0)).getD (newPart (r.b 0))
    let p := { p with flags := r.b 1, rings := r.b 2, memBw := r.f 4 2, inj := r.f 6 2, crypto := r.f 8 4 }
    { i with parts := if (i.part p.id).isSome then i.parts.map fun q => if q.id = p.id then p else q else i.parts ++ [p] }
  | 0x07 =>
    let rest := i.officers.filter fun o => o.id != r.b 0
    { i with officers := if r.b 1 = 0 then rest else rest ++ [{ id := r.b 0, role := r.b 1, key := slice r.val 8 96 }] }
  | _ => i

/-! ## Static conditions (R318 step 7) -/

/-- Every core of a twin partition is owned with its mirror (R89, R297). -/
def Image.pairsOk (i : Image) : Bool :=
  i.coreOwners.all fun e => e.2.zipIdx.all fun (o, c) =>
    o = 0 || !(i.part o).any PartRec.twin || e.2.getD (if c < 120 then c + 120 else c - 120) 0 = o

/-- The static conditions of one record; i is the configuration the records before it leave. -/
def Image.recOk (i : Image) (r : TRec) : Bool :=
  match r.ty with
  | 0x01 => r.b 0 ≤ 15 && r.f 8 32 < 2 ^ 240 && (i.applyRec r).pairsOk
  | 0x02 =>
    let base := r.f 8 8
    let size := r.f 16 8
    r.b 0 ≤ 63 && (between (r.b 1) 1 15 || size = 0) && strengthOk (r.b 2) && base % 2 ^ 21 = 0 && size % 2 ^ 21 = 0 &&
      (size = 0 || inWindow r.pkg base size)
  | 0x03 => r.b 2 ≤ 15 && (i.port r.pkg (r.b 0)).any fun q => q.mode = 1 && r.b 1 < segsOf q.split
  | 0x04 => between (r.b 0) 1 15 && r.b 1 < 16 && r.b 2 ≤ 4 && r.b 3 < 16 && (i.applyRec r).pairsOk
  | 0x05 =>
    let core := r.f 0 2
    let own := (i.ownersOf (core / 256 % 8)).getD (core % 256) 0
    core < 2048 && core % 256 < 240 && (i.topoFor (core / 256)).isSome && (!(i.part own).any PartRec.twin || core % 256 < 120) &&
      r.b 2 ≤ 15 && between (r.f 32 4) 1 (2 ^ 18) && 8 ≤ r.f 36 4 && r.f 8 8 % 4096 = 0 && r.f 8 8 ≤ r.f 16 8 &&
      r.f 16 8 < r.f 8 8 + r.f 32 4
  | 0x06 =>
    let off := r.f 0 4
    match r.regRow with
    | some (b, _, _, row) =>
      b != .part && off != R.BEAT_CFG && !(b = .mc && (row.off = 0x8 || 0x2000 ≤ row.off && row.off < 0x2400)) &&
        BitVec.ofNat 64 (r.f 8 8) &&& ~~~ (rwlBits row.flds) = 0
    | none => false
  | 0x07 => r.b 0 ≤ 7 && r.b 1 ≤ 2
  | 0x08 => between (r.b 0) 1 15 && r.f 2 2 < 1024 && between (r.f 4 2) 1 4096 && (r.b 1 = 0 || r.b 8 ≤ 15)
  | 0x09 => r.b 0 ≤ 2 && r.b 2 < 8 && (r.b 0 != 1 || between (r.b 1) 1 15)
  | 0x0A => r.f 0 2 ≤ 700 && (slice r.val 4 16).all fun v => v.toNat ≤ 7
  | 0x0B => r.b 0 ≤ 15
  | 0x0C => r.f 0 2 < 2 ^ 14 && r.b 2 < 16 && r.b 3 ≤ 7
  | _ => false

/-- Every record in its turn, and the officers that are left (R313). A record for a package not admitted changes nothing. -/
def Image.recsOk (i : Image) (admitted : List Nat) : List TRec → Bool
  | [] => (i.officers.any fun o => o.role = 1) && i.officers.any fun o => o.role = 2
  | r :: rest =>
    i.recOk r && (if r.pkg = ANY_PKG || admitted.contains r.pkg then i.applyRec r else i).recsOk admitted rest

/-! ## The partitions a record names (R311) -/

/-- The partition's own fields that a REG_SET selects. -/
def regSetNames (r : TRec) : List Nat :=
  let m := r.f 8 8
  match r.regRow with
  | some (b, n, ix, row) =>
    let k := ix.headD 0
    let four := ((List.range 4).filter fun j => m / 2 ^ (16 * j) % 2 ^ 16 != 0).map fun j => 4 * k + j
    if b = .arb && (row.off = 0x40 || row.off = 0x60) then four
    else if b = .mc && row.off = 0x70 then four
    else if b = .arb && row.off = 0x80 && between n 24 41 && m != 0 then [k]
    else if b = .pwr && row.off = 8 then (List.range 16).filter fun p => m / 16 ^ p % 16 != 0
    else []
  | none => []

/-- The partition that a PART_START starts, under the ownership of i (R321). -/
def Image.startOf (i : Image) (r : TRec) : Nat := (i.ownersOf (r.f 0 2 / 256 % 8)).getD (r.f 0 2 % 256) 0

/-- The partitions that a record names; ceil gives PWR_CEIL in force of a package the record applies to, i the configuration before it,
and i0 the one in force when its Peal was armed. -/
def Image.names (i0 i : Image) (applies : List Nat) (ceil : Nat → Nat) (r : TRec) : List Nat :=
  let l := match r.ty with
    | 0x01 => r.b 0 :: r.cores.map fun c => (i.ownersOf r.pkg).getD c 0
    | 0x02 => [r.b 1, (i.region r.pkg (r.b 0)).part]
    | 0x03 => [r.b 2, ((i.port r.pkg (r.b 0)).map fun (q : PortRec) => q.segOwner.getD (r.b 1) 0).getD 0]
    | 0x04 => [r.b 0]
    | 0x05 => [r.b 2, i0.startOf r]
    | 0x06 => regSetNames r
    | 0x08 => if r.b 1 = 1 then [r.b 0, r.b 8] else [r.b 0]
    | 0x09 => if r.b 0 = 2 then List.range 16 else [r.b 1]
    | 0x0A => (List.range 16).filter fun p => applies.any fun q => ceil q / 16 ^ p % 16 != r.b (4 + p)
    | 0x0B => [r.b 0]
    | 0x0C => (r.blocks.filter fun d => d < 12).flatMap fun d => (List.range 20).map fun c => (i.ownersOf r.pkg).getD (20 * d + c) 0
    | _ => []
  (l.filter fun p => between p 1 15).eraseDups

/-! ## Officer commands (R325) -/

structure Command where
  kind : Nat
  nonce : List Byte
  system : Nat
  pkg : Nat
  args : List Byte
  officer : Nat
  sig : List Byte
  body : List Byte
  deriving DecidableEq, Repr, Inhabited

def CMD_REST : Nat := 0x0101
def CMD_ASSAY : Nat := 0x0201

def commandOf (b : List Byte) : Command :=
  { kind := field b 6 2, nonce := slice b 8 16, system := field b 24 8, pkg := byteAt b 32, args := slice b 40 56,
    officer := byteAt b 96, sig := slice b 104 96, body := b.take 96 }

/-- Bytes of ARGS that a kind uses. -/
def argsUsed (kind : Nat) : Nat := if kind = CMD_ASSAY then 4 else 0

/-- The first check of R325, but for the package and system. -/
def commandOk (b : List Byte) : Bool :=
  let c := commandOf b
  b.length = 200 && b.take 4 = ascii "ZCMD" && field b 4 2 = 1 && (c.kind = CMD_REST || c.kind = CMD_ASSAY) && zeros b 33 7 &&
    zeros b 97 7 && zeros c.args (argsUsed c.kind) (56 - argsUsed c.kind) &&
    (c.kind != CMD_ASSAY || (field c.args 0 2 < 2 ^ 14 && byteAt c.args 2 < 16 && byteAt c.args 3 ≤ 7))

end Sys2Proof.Machine
end

