-- ==== Sys2Proof/Machine/ChangeOps.lean ====
section
/-! DEFINITION. A change ticket at work: what the Islands read for it, the conditions its records meet at acknowledgement (R319), and
its application at the target beat (R303, R304, R311, R320 to R323). -/

namespace Sys2Proof.Machine

/-! ## Which records concern this package (R320) -/

/-- A record for a package not admitted is skipped. A joining package replays the log without the records for itself. -/
def State.recLive (s : State) (r : TRec) : Bool :=
  if s.admitted.contains s.pkg then r.pkg = ANY_PKG || s.admitted.contains r.pkg else r.pkg != s.pkg

/-- A record changes this package's own registers and units. -/
def State.recMine (s : State) (r : TRec) : Bool := r.pkg = ANY_PKG || r.pkg = s.pkg

/-- The packages a record applies to. -/
def State.recPkgs (s : State) (r : TRec) : List Nat :=
  (List.range 8).filter fun q => (r.pkg = ANY_PKG || r.pkg = q) && (if s.admitted.contains s.pkg then s.admitted.contains q else true)

/-- The configuration-wide PL_CEIL values of an image, as PWR_CEIL holds them. -/
def Image.ceilWord (i : Image) : Nat := sumOf (i.plCeil.zipIdx.map fun (v, p) => v * 16 ^ p)

/-- PWR_CEIL in force in a package. -/
def State.ceilOf (s : State) (q : Nat) : Nat :=
  if q = s.pkg then (s.reg R.PWR_CEIL).toNat
  else if s.boot.ceils.get q = 0 then s.boot.cfg.ceilWord else s.boot.ceils.get q - 1

/-! ## Reading memory for the Islands (R317, R323) -/

/-- The newest copy of a line of this package: a dirty L1 sector, a Die Cache line, a write-back, a queued write, or memory. -/
def State.viewLine (s : State) (line : Nat) : State × Option Line :=
  match s.chanOf (offOfLine line) with
  | none => (s, none)
  | some (c, l) =>
    if s.chState c != CH_READY then (s, none)
    else
      let l1 := allCores.findSome? fun k => match s.l1Find k false line with
        | some (_, x) => if x.dirty then some x.data else none
        | none => none
      let dc := allDies.findSome? fun d => match s.dcFind d line with
        | some x => if x.coh = .m || x.coh = .o then some x.data else none
        | none => none
      let wb := (s.cache.wb.find? fun e => e.line = line && (e.coh = .m || e.coh = .o)).map (·.data)
      match l1 <|> dc <|> wb with
      | some v => (s, some v)
      | none =>
        let queued (v : Line) : Line := (s.dram.queue.filter fun q => q.wr && q.line = line).foldl (fun v q => merge v q.data q.mask) v
        let part := s.lineOwner line
        let n := s.pageStrength line
        if s.poisonSeen line then (s, none)
        else if s.dram.queue.any fun q => q.wr && q.line = line && q.full then (s, some (queued 0))
        else match s.readLine c l with
        | (s, .clean, x) => (s, some (queued (s.decrypt line (storedData x))))
        | (s, .failed, _) =>
          if n = 0 then (s.memUe c l (some (line * 64)) part, none)
          else match s.rebuildPage (offOfLine line) n (some (c, l)) with
          | (s, some k) => ((s.record E.MEM_PAGE_REBUILD 3 c [part] (some (line * 64)) (k % 16)),
              some (queued (s.decrypt line (storedData (s.stored c l)))))
          | (s, none) => (s.memUe c l (some (line * 64)) part, none)
        | (s, _, _) => (s, none)

/-- One piece of a read made for partition p, checked at the line's home under R300: a line of another package is read there, and what it holds is
a free value here. -/
def State.viewPiece (s : State) (p addr n : Nat) : State × Option (List Byte) :=
  let line := addr / 64
  if !isDram addr then (s, none)
  else if !(p = 0 || s.ownerAny line = p) then
    (if pkgOfLine line = s.pkg then s.record E.OWN_DENIED 2 (s.homeHub line) [p] (some (line * 64)) else s, none)
  else
    let (s, v) := if pkgOfLine line = s.pkg then s.viewLine line
      else if s.admitted.contains (pkgOfLine line) then let (v, s) := s.draw512; (s, some v) else (s, none)
    (s, v.map fun x => leBytes n (lineGet x (addr % 64) n).toNat)

/-- Bytes of memory, checked under R300. -/
def State.viewBytes (s : State) (p addr len : Nat) : State × Option (List Byte) :=
  (linePieces (len / 64 + 2) addr len).foldl (fun (a : State × Option (List Byte)) e =>
    match a.2 with
    | none => a
    | some l => match a.1.viewPiece p e.1 e.2 with
      | (s, some x) => (s, some (l ++ x))
      | (s, none) => (s, none)) (s, some [])

/-- What a record has the Islands read: the partition, SRC_PA and the length. -/
def TRec.src (r : TRec) : Option (Nat × Nat × Nat) :=
  if r.ty = T_KEY_IMPORT && r.b 1 = 1 then some (r.b 8, r.f 16 8, r.f 4 2)
  else if r.ty = T_IMAGE_UPDATE && between (r.f 16 8) 1 (2 ^ 23) then some (r.b 0, r.f 8 8, r.f 16 8) else none

/-- A read of the Islands waits: a line of this package that it needs is locked, or an earlier access to it is not served (R251). -/
def State.srcHeld (s : State) (r : TRec) : Bool :=
  match r.src with
  | none => false
  | some (_, pa, len) => (linePieces (len / 64 + 2) pa len).any fun e =>
      let line := e.1 / 64
      isDram e.1 && pkgOfLine line = s.pkg && (s.pageLocked (offOfLine line) || s.dram.queue.any fun q => q.line = line)

/-- The bytes at a record's SRC_PA, where they match its DIGEST. -/
def State.readFor (s : State) (r : TRec) : State × Option (List Byte) :=
  match r.src with
  | none => (s, none)
  | some (p, pa, len) =>
    match s.viewBytes p pa len with
    | (s, some l) => (s, if Config.sha384 l = BitVec.ofNat 384 (beNat (slice r.val 24 48)) then some l else none)
    | (s, none) => (s, none)

/-- Reads for a ticket's records wait. -/
def State.fetchHeld (s : State) (b : List Byte) : Bool :=
  match ticketOf b with
  | none => false
  | some t => t.recs.any fun r => s.recLive r && s.recMine r && s.srcHeld r

/-- The Islands read what the armed ticket's records refer to. -/
def State.fetchFor (s : State) (t : Ticket) : State :=
  each t.recs.zipIdx (fun s (r, k) =>
    if s.recLive r && s.recMine r then
      match s.readFor r with
      | (s, some l) => s.onSec fun q => { q with fetched := q.fetched.filter (fun e => e.1 != k) ++ [(k, l)] }
      | (s, none) => s
    else s) (s.onSec fun q => { q with fetched := [] })

def State.fetchedAt (s : State) (k : Nat) : Option (List Byte) := (s.sec.fetched.find? fun e => e.1 = k).map (·.2)

/-- The blob of a KEY_IMPORT. -/
def State.blobOf (s : State) (k : Nat) (r : TRec) : Option (List Byte) := if r.b 1 = 0 then some (r.val.drop 8) else s.fetchedAt k

/-- The image of an IMAGE_UPDATE, where it passes R74 for this package. -/
def State.newImage (s : State) (k : Nat) (r : TRec) : Option (List Byte) :=
  (s.fetchedAt k).filter fun l => l.length = r.f 16 8 && field l 40 4 = l.length && imageLenOk l.length l.length &&
    (verifyImage l s.pkg s.fusedRollback).1 = 0

/-! ## What a record writes into the registers -/

/-- The region table's entry takes a REGION_SET (R255). -/
def State.regionRegs (s : State) (r : TRec) : State :=
  let k := r.b 0
  let b := s.reg (R.MR_BASE 0 k)
  let valid := F.MR_BASE_VALID.get b = 1
  let old := F.MR_BASE_STRENGTH.get b
  let moved := !valid || F.MR_BASE_BASE.get b * 2 ^ 21 != r.f 8 8 || s.f (R.MR_SIZE 0 k) F.MR_SIZE_SIZE * 2 ^ 21 != r.f 16 8
  let n := r.b 2
  if r.f 16 8 = 0 then
    let s := (s.setRegion k 0 0 0 0 0).onDram fun d => { d with restripePend := d.restripePend.filter (· != k) }
    if s.f (R.MC_RESTRIPE 0) F.MC_RESTRIPE_BUSY = 1 && s.f (R.MC_RESTRIPE 0) F.MC_RESTRIPE_REGION = k then
      (s.setF (R.MC_RESTRIPE 0) F.MC_RESTRIPE_BUSY 0).setF (R.MC_RESTRIPE 0) F.MC_RESTRIPE_DONE_PAGES 0
    else s
  else
    let prev := if moved then 0 else if old < n then old else if n < old then n else F.MR_BASE_PREV_S.get b
    let s := s.setRegion k (r.b 1) n prev (r.f 8 8) (r.f 16 8)
    if (moved && 0 < n) || (!moved && old < n) then s.onDram fun d => { d with restripePend := addOnce d.restripePend k } else s

/-- A PART_SET reaches PART_INFO, the shares, the twin bits and the Service Endpoint functions. -/
def State.partRegs (s : State) (r : TRec) : State :=
  let p := r.b 0
  let s := s.setPartInfo p (r.b 1) (r.b 2) (r.f 4 2) (r.f 6 2)
  let s := (s.setF (R.PART_INFO p) F.PART_INFO_BEAT (r.b 3 / 4 % 2)).setF (R.PART_INFO p) F.PART_INFO_SYSTEM (r.b 3 / 8 % 2)
  (each (s.coresOf p) (fun s c => s.ownCore c p) s).setFns

/-- A REG_SET: the selected bits take the value; an arbiter requester's effective class follows its new ceiling (R201). That E of a requester with
LOSSES = 0 takes a new CLASS at once is not stated: DESIGN CHOICE, log entry 94. -/
def State.regSetRegs (s : State) (r : TRec) : State :=
  let m := BitVec.ofNat 64 (r.f 8 8)
  let off := canonOff (r.f 0 4)
  let s := s.setReg off ((s.reg off &&& ~~~m) ||| (BitVec.ofNat 64 (r.f 16 8) &&& m))
  match r.regRow with
  | some (.arb, _, _, row) =>
    if row.off = 0x80 then
      let top := max (s.f off F.ARB_REQ_CLASS) (s.f off F.ARB_REQ_CEIL)
      s.setF off F.ARB_REQ_ECLASS (if s.f off F.ARB_REQ_LOSSES = 0 then s.f off F.ARB_REQ_CLASS else min (s.f off F.ARB_REQ_ECLASS) top)
    else s
  | _ => s

/-- Another package's PWR_CEIL changes. -/
def State.farCeil (s : State) (q v : Nat) : State :=
  if q = s.pkg then s else s.onBoot fun k => { k with ceils := k.ceils.put q (v % 2 ^ 64 + 1) }

/-- The effective configuration and this package's registers take a record. -/
def State.recRegs (s : State) (r : TRec) : State :=
  let mine := s.recMine r
  let s := s.onBoot fun k => { k with cfg := k.cfg.applyRec r }
  match r.ty with
  | 0x01 => if mine then each r.cores (fun s c => s.ownCore c (r.b 0)) s else s
  | 0x02 => if mine then s.regionRegs r else s
  | 0x03 => if mine then s.setF (rStat (4 * r.b 0 + r.b 1)) F.SEG_STAT_OWNER (r.b 2) else s
  | 0x04 => s.partRegs r
  | 0x06 =>
    let s := if r.f 0 4 = R.PWR_CEIL then
        each (s.recPkgs r) (fun s q => s.farCeil q ((s.ceilOf q &&& (2 ^ 64 - 1 - r.f 8 8)) ||| (r.f 16 8 &&& r.f 8 8))) s else s
    if mine then s.regSetRegs r else s
  | 0x07 => s.setOfficers s.boot.cfg.officers
  | 0x0A =>
    let w := sumOf ((List.range 16).map fun p => r.b (4 + p) * 16 ^ p)
    let s := each (s.recPkgs r) (fun s q => s.farCeil q w) s
    if mine then (s.setF R.PWR_CAP F.PWR_CAP_CAP_W (r.f 0 2)).setReg R.PWR_CEIL (BitVec.ofNat 64 w) else s
  | _ => s

/-! ## Conditions at acknowledgement (R319) -/

/-- A condition not met: the withholding hub (12 or 13), which its record names, its code and the partitions concerned. -/
structure Hold where
  hub : Nat
  code : ECode
  parts : List Nat
  deriving DecidableEq, Repr, Inhabited

/-- A package-wide condition: HUB-A's. -/
def holdA (b : Bool) (e : ECode) (p : Nat) : List Hold :=
  if b then [{ hub := 12, code := e, parts := if p = 0 then [] else [p] }] else []

/-- A condition that each hub checks for itself. -/
def holdBoth (b : Bool) (e : ECode) (p : Nat) : List Hold :=
  if b then [{ hub := 12, code := e, parts := [p] }, { hub := 13, code := e, parts := [p] }] else []

/-- A condition of units, by the hub that serves each: one record for each hub, for every partition concerned. -/
def holdUnits (us : List Nat) (hub : Nat → Nat) (e : ECode) (parts : Nat → List Nat) : List Hold :=
  [12, 13].filterMap fun h =>
    let mine := us.filter fun u => hub u = h
    if mine = [] then none else some { hub := h, code := e, parts := ((mine.flatMap parts).filter (· != 0)).eraseDups }

/-- The hub that serves an arbiter, on a die or in the hub itself. -/
def arbHub (a : Nat) : Nat := if unitHost 10 a < 12 then 12 + hubOfDie (unitHost 10 a) else unitHost 10 a

def State.anyRun (s : State) (p : Nat) : Bool := (s.coresOf p).any fun c => s.coreState c = 2

/-- A restripe runs in the package. -/
def State.restriping (s : State) : Bool := s.f (R.MC_RESTRIPE 0) F.MC_RESTRIPE_BUSY = 1 || s.dram.restripePend != []

/-- The regions of a partition, as base and size in lines. -/
def State.spansOf (s : State) (p : Nat) : List (Nat × Nat) :=
  ((List.range 64).filter fun k => s.f (R.MR_BASE 0 k) F.MR_BASE_VALID = 1 && s.f (R.MR_BASE 0 k) F.MR_BASE_PART = p).map fun k =>
    (s.f (R.MR_BASE 0 k) F.MR_BASE_BASE * 2 ^ 15, s.f (R.MR_SIZE 0 k) F.MR_SIZE_SIZE * 2 ^ 15)

def meets (a b : Nat × Nat) : Bool := a.1 < b.1 + b.2 && b.1 < a.1 + a.2

/-- A transfer of a region of the partition runs. -/
def State.xferOf (s : State) (p : Nat) : Bool := (s.spansOf p).any fun r => s.sec.xfers.any fun x => x.ranges.any (meets r)

/-- A segment's link is down for R305. -/
def State.segDown (s : State) (k : Nat) : Bool := s.f (rHpCtl k) F.HP_CTL_PWR = 0 || s.f (rSegCtl k) F.SEG_CTL_LINK_DIS = 1

/-- A ring holds an outstanding descriptor. -/
def State.ringBusy (s : State) (r : Nat) : Bool :=
  (s.ringH r).exec != [] || (s.ringH r).fetched != [] ||
    (s.ringOn r && s.f (R.RING_HEAD r) F.RING_HEAD_HEAD != s.f (R.RING_TAIL r) F.RING_TAIL_TAIL)

/-- A partition's shares at one regulator's registers. -/
def State.sumFields (s : State) (reg : Nat → Nat) : Nat :=
  sumOf ((List.range 4).map fun k => sumOf ((List.range 4).map fun j => bits (s.reg (reg k)) (16 * j) 16))

/-- R422: the partition owns something out of reach. -/
def State.outOfReach (s : State) (p : Nat) : Bool :=
  (s.listed.any fun q => !s.admitted.contains q && s.ownsIn q p) ||
    (List.range 16).any fun c => s.chState c = CH_FAILED && (s.chanRegions c).any fun k => s.f (R.MR_BASE 0 k) F.MR_BASE_PART = p

/-- The regulators, for R191 and R194. -/
def regArbs : List Nat := (List.range 64).filter hasReg

/-- The conditions that record k of a ticket does not meet. s0 is the package as it stands; s holds the configuration that the records
before this one leave. -/
def State.holds (s0 s : State) (k : Nat) (r : TRec) : List Hold :=
  let after := s.recRegs r
  match r.ty with
  | 0x01 =>
    let run := r.cores.filter fun c => s0.coreState c = 2
    let bad := r.cores.filter fun c => s0.coreState c = 3 && !(s0.coreH c).assayed
    let hub (c : Nat) : Nat := 12 + hubOfDie (dieOf c)
    holdUnits run hub E.PART_BUSY (fun c => [s.corePart c]) ++ holdUnits bad hub E.CORE_NOT_ASSAYED (fun c => [s.corePart c])
  | 0x02 =>
    let base := r.f 8 8
    let size := r.f 16 8
    let b := s.reg (R.MR_BASE 0 (r.b 0))
    let valid := F.MR_BASE_VALID.get b = 1
    let was := F.MR_BASE_PART.get b
    let old := F.MR_BASE_STRENGTH.get b
    let moved := !valid || F.MR_BASE_BASE.get b * 2 ^ 21 != base || s.f (R.MR_SIZE 0 (r.b 0)) F.MR_SIZE_SIZE * 2 ^ 21 != size
    let other := (List.range 64).any fun j => j != r.b 0 && s.f (R.MR_BASE 0 j) F.MR_BASE_VALID = 1 &&
      meets (base / 64, size / 64) (s.f (R.MR_BASE 0 j) F.MR_BASE_BASE * 2 ^ 15, s.f (R.MR_SIZE 0 j) F.MR_SIZE_SIZE * 2 ^ 15)
    if size = 0 then []
    else
      holdA (decide (s.pkg * 2 ^ 43 + s.usableDram * 64 < base + size)) E.MEM_MAP_SIZE was ++ holdA other E.REGION_OVERLAP was ++
      holdA (decide (s.carve 0 < r.b 2)) E.STRENGTH_OVER_CARVE was ++
      holdA (s0.restriping && ((valid && r.b 2 != old) || (moved && 0 < r.b 2))) E.RESTRIPE_BUSY was
  | 0x03 =>
    let g := 4 * r.b 0 + r.b 1
    holdUnits (if s0.segDown g then [] else [g]) (fun g => 12 + g / 16) E.PART_BUSY (fun g => [s.owner g])
  | 0x04 =>
    let p := r.b 0
    let run := s0.anyRun p
    let rings := (List.range 4).filter fun j => r.b 2 ≤ j && j < s.f (R.PART_INFO p) F.PART_INFO_RINGS
    let full := regArbs.filter fun a => 1024 < after.sumFields (R.INJ_SHR a)
    let sep := [3, 7].filter fun n => s.f (R.PCIE_INFO n) F.PCIE_INFO_MODE = 2 && s0.ltssm (4 * n) = L_L0
    holdA (run && s.isTwin p != after.isTwin p) E.TWIN_BUSY p ++ holdA (run && r.b 3 % 2 = 1) E.PART_BUSY p ++
    holdA (decide (1024 < sumOf (after.boot.cfg.parts.map (·.memBw)))) E.SHARE_OVERBOOK 0 ++
    holdA (decide (after.cap7 < sumOf (after.boot.cfg.parts.map (·.crypto)))) E.CRYPTO_OVERBOOK 0 ++
    holdUnits full arbHub E.SHARE_OVERBOOK (fun _ => []) ++
    holdUnits ((rings.map fun j => 4 * p + j).filter s0.ringBusy) (unitHost 11) E.PART_BUSY (fun _ => [p]) ++
    (if r.b 1 / 8 % 2 = s.f (R.PART_INFO p) F.PART_INFO_SEP_GRANT then []
      else holdUnits (sep.map fun n => if n = 3 then 32 else 40) (unitHost 4) E.PART_BUSY (fun _ => [p]))
  | 0x05 =>
    let p := s0.boot.cfg.startOf r
    holdA ((p = 0 && r.f 0 2 / 256 % 8 = s.pkg) || (p != 0 && (s0.anyRun p || s0.xferOf p || (s0.partFenced p && s.outOfReach p))))
      E.PART_BUSY p
  | 0x06 =>
    match r.regRow with
    | some (.arb, a, _, row) =>
      if row.off = 0x60 && 5 * s.f R.BEAT_CFG F.BEAT_CFG_N < after.sumFields (R.INJ_RSV a) then
        holdUnits [a] arbHub E.RSV_OVERBOOK (fun _ => [])
      else if row.off = 0x40 && 1024 < after.sumFields (R.INJ_SHR a) then
        holdUnits [a] arbHub E.SHARE_OVERBOOK (fun _ => [])
      else []
    | _ => []
  | 0x08 =>
    let ok := ((s0.blobOf k r).bind fun b => openBlob (r.b 0) (r.f 2 2) b).isSome
    holdBoth (!ok) E.KEY_UNWRAP_FAIL (r.b 0) ++ holdBoth (!(s0.keySlot (r.b 0) (r.f 2 2)).empty) E.KEY_SLOT_USED (r.b 0)
  | 0x0B => holdA (s0.newImage k r).isNone E.IMAGE_UPDATE_BAD (r.b 0)
  | 0x0C =>
    let ds := r.blocks.filter fun d => d < 12 && (coresOfDie d).any fun c => s0.coreState c = 2
    holdUnits ds (fun d => 12 + hubOfDie d) E.PART_BUSY s.dieParts
  | _ => []

/-- Every condition that a ticket's records do not meet in this package. -/
def State.ticketHolds (s : State) (t : Ticket) : List Hold :=
  (t.recs.zipIdx.foldl (fun (a : State × List Hold) (r, k) =>
    if s.recLive r then
      (a.1.recRegs r, if s.recMine r then a.2 ++ s.holds a.1 k r else a.2)
    else a) (s, [])).2.eraseDups

/-! ## Application -/

/-- Registers that a moved core returns to Reset. -/
def State.moveRegs (s : State) (c : Nat) : State :=
  let s := ((s.resetReg (R.CORE_START_PC c)).resetReg (R.CORE_WAKE_PC c)).resetReg (R.PMU_OVF c)
  let s := each (List.range 8) (fun s n => (s.resetReg (R.PMU_CTL c n)).resetReg (R.PMU_CNT c n)) s
  ((s.setF (R.CORE_STAT c) F.CORE_STAT_SOLO 0).setF (R.CORE_STAT c) F.CORE_STAT_FENCE_CAUSE 0).plReqReset c

/-- A fenced twin member that a CORE_MOVE into its own partition rejoins to its solo partner (R99, R304). -/
def State.rejoins (s : State) (c p : Nat) : Bool :=
  s.coreState c = 3 && s.corePart c = p && s.isTwin p && s.alive (mirror c) && s.f (R.CORE_STAT (mirror c)) F.CORE_STAT_SOLO = 1

/-- The cluster and die of a core are on. -/
def State.corePowered (s : State) (c : Nat) : Bool :=
  !s.dieFenced (dieOf c) && !s.dieOff (dieOf c) && s.clusterOn (dieOf c) (localOf c / 10)

/-- CORE_MOVE of one core (R304). The partner of a rejoining member keeps what the pair holds. The interrupts held for a core (R112) go to the
core that rule 4 of R108 chooses, with the last member of a pair: DESIGN CHOICE, log entry 90. -/
def State.moveCore (s : State) (c p : Nat) : State :=
  let rejoin := s.rejoins c p
  let twinStays := s.isTwin (s.corePart c) && s.alive (mirror c) && s.corePart (mirror c) = s.corePart c
  let s := if twinStays || rejoin || !s.alive c then s else s.moveHeld c
  let s := ((s.dropCore c).purgeCore c []).coreEmpty c
  let s := s.setCoreH c { (default : CoreH) with held := if twinStays || rejoin then (s.coreH c).held else [] }
  let s := s.moveRegs c
  let s := if rejoin then s.onCores fun k => { k with twins := k.twins.upd (c % 120) fun t => { t with rejoin := some c } }
    else (s.onCores fun k => { k with twins := k.twins.put (c % 120) default }).twinRelease
  let s := s.ownCore c p
  if s.dieFenced (dieOf c) || rejoin then s
  else (when (s.corePowered c) (fun s => s.maskCore c false) s).setCoreState c (if p != 0 && s.corePowered c then 1 else 0)

/-- Step 1 of R234: a fenced die whose cores a ticket names leaves reset, and its link is to be resumed. -/
def State.dieReturn (s : State) (d : Nat) : State :=
  if !s.dieFenced d || s.home.returning.contains d then s
  else
    let s := ((s.clearDie d).resumeLink (8 + d)).incF (R.LINK_STAT (8 + d)) F.LINK_STAT_RETRAINS
    (s.onHome fun q => { q with returning := q.returning ++ [d] }).trigOn (linkTrig (8 + d))

def State.moveCores (s : State) (r : TRec) : State :=
  let s := each r.cores (fun s c => s.moveCore c (r.b 0)) s
  let ds := (r.cores.map dieOf).eraseDups
  let s := each ds State.dieReturn s
  each ds State.startWake s

def State.setXferBusy (s : State) : State := s.setF R.MB_INFO F.MB_INFO_XFER_BUSY (decide (s.sec.xfers != [])).toNat

/-- The lines of a range that the directories of this package hold. -/
def State.xferLines (s : State) (h : Nat) (x : Xfer) : List Nat :=
  (s.dirLines h).filter fun l => x.ranges.any fun r => r.1 ≤ l && l < r.1 + r.2

/-- A transfer begins: its requests are held, and both hubs recall every copy (R303). -/
def State.xferBegin (s : State) (x : Xfer) : State :=
  if x.ranges = [] then s
  else
    let s := (s.onSec fun q => { q with xfers := q.xfers ++ [x] }).setXferBusy
    each [0, 1] (fun s h => each (s.xferLines h x) (fun s l => s.homeOwn h .cmoCleanInv l 0) s) s

/-- REGION_SET in this package. -/
def State.regionApply (s : State) (r : TRec) (old : Word) (oldSize : Nat) : State :=
  let valid := F.MR_BASE_VALID.get old = 1
  let was := F.MR_BASE_PART.get old
  let o : List (Nat × Nat) := if valid then [(F.MR_BASE_BASE.get old * 2 ^ 15, oldSize * 2 ^ 15)] else []
  let n : List (Nat × Nat) := if r.f 16 8 = 0 then [] else [(r.f 8 8 / 64, r.f 16 8 / 64)]
  let same := o = n && (!valid || was = r.b 1)
  if same then s
  else s.xferBegin { ranges := (o ++ n).eraseDups, newKey := none, olds := (o.map fun e => (e.1, e.2, was)) ++ n.map fun e => (e.1, e.2, 0) }

/-- PART_SET in this package. -/
def State.partApply (s : State) (r : TRec) (twinWas : Bool) : State :=
  let p := r.b 0
  let s := if r.b 3 / 2 % 2 = 1 then each (s.coresOf p) State.haltOne s else s
  let s := if s.isTwin p = twinWas then s
    else each (s.coresOf p) (fun s c => (s.setF (R.CORE_STAT c) F.CORE_STAT_SOLO 0).onCores fun k =>
      { k with twins := k.twins.put (c % 120) default }) s
  if r.b 3 % 2 = 0 then s
  else if s.spansOf p = [] then s.newKey p
  else s.xferBegin { ranges := s.spansOf p, newKey := some p, olds := [] }

/-- The functions of a partition that is no longer fenced pass requests again, and their pending messages leave (R198, R421). -/
def State.fnsStart (s : State) (p : Nat) : State :=
  each [3, 7] (fun s port => each ((s.sepFns port).filter fun f => s.fnPart port f = p) (fun s f =>
    (when (s.sepUp port && s.fnInfo port f F.SEP_FN_INFO_FLR_BUSY = 0) (fun s => s.arbMask (42 + port) f false) s).msixKick port f) s) s

/-- PART_START (R321): p is the partition it starts. In the log that a joining package replays, the start lies in the past. -/
def State.startApply (s : State) (r : TRec) (p : Nat) : State :=
  if p = 0 then s
  else
    let s := ((s.setF (R.PART_STATE p) F.PART_STATE_FENCED 0).haltCores p).fnsStart p
    let boot := r.f 0 2
    let c : StartCopy := { part := p, pkg := boot / 256 % 8, boot := boot % 256, src := r.f 24 8, srcPart := r.b 2, load := r.f 8 8,
                           len := r.f 32 4, digest := BitVec.ofNat 384 (beNat (slice r.val 40 48)), entry := r.f 16 8,
                           need := 0, buf := [], wait := 0, bad := false, done := false, ok := false }
    let h := hubOfDie (dieOf c.boot)
    let ms := if c.pkg = s.pkg && s.admitted.contains s.pkg then s.copyReads h c else []
    let s := (s.copyStop p).onSec fun q => { q with copies := q.copies ++ [{ c with need := ms.length }] }
    let s := s.agentPush (svcAgent h) ms
    if s.admitted.contains s.pkg then s.awaitStart p (s.now + r.f 36 4) else s.setPartState p 2

/-- DEBUG_SET (R433); a selected core that the new scope leaves out is selected no more (DEDUCED, log entry 73). -/
def State.debugApply (s : State) (r : TRec) (no : Nat) : State :=
  let v := r.b 0 + r.b 1 % 16 * 16 + r.b 2 % 8 * 256
  let s := each (List.range 32) (fun s n => s.setReg (R.DBG_STAT n) (BitVec.ofNat 64 (v + no % 2 ^ 32 * 2 ^ 32))) s
  let inScope (c : Nat) : Bool := r.b 0 = 2 || (r.b 0 = 1 && r.b 1 = s.corePart c)
  let s := s.onErr fun e => { e with dbgCore := e.dbgCore.filter inScope }
  s.record E.DEBUG_ENABLED 15 15 (if r.b 0 = 1 then [r.b 1] else if r.b 0 = 2 then parts15 else []) none v

/-- IMAGE_UPDATE (R323): the Islands write HUB-B's flash first. -/
def State.updateApply (s : State) (img : List Byte) : State :=
  (((s.setF R.MB_INFO F.MB_INFO_IMG_UPD 1).onSec fun q => { q with imgUpd := some img }).onBoot fun k => { k with flashEnabled := true }).send
    (.flash 1 img)

/-- Extend a Touchmark (R311). -/
def State.extend (s : State) (p no : Nat) (raw : List Byte) : State :=
  let next (t : Digest) : Digest := Config.sha384 (digestBytes t ++ digestBytes (Config.sha384 raw))
  let s := s.onSec fun q => { q with touchmarks := q.touchmarks.upd p next }
  (s.wrapF (R.TM_INFO p) F.TM_INFO_EXTENSIONS).setF (R.TM_INFO p) F.TM_INFO_TICKET no

/-- Record k of a ticket is applied; i0 is the configuration in force when the ticket's Peal was armed. A record that is skipped, its PKG not
admitted, still extends the Touchmarks of the partitions it names: R311 extends by the applied ticket's records, and R320 does not say what a skipped
one does (DESIGN CHOICE, log entry 94). -/
def State.applyRec (s : State) (i0 : Image) (no k : Nat) (r : TRec) : State :=
  let mine := s.recMine r
  let names := i0.names s.boot.cfg (s.recPkgs r) s.ceilOf r
  let s :=
    if !s.recLive r then s
    else match r.ty with
    | 0x01 => (if mine then s.moveCores r else s).recRegs r
    | 0x02 =>
      let old := s.reg (R.MR_BASE 0 (r.b 0))
      let size := s.f (R.MR_SIZE 0 (r.b 0)) F.MR_SIZE_SIZE
      if mine then (s.recRegs r).regionApply r old size else s.recRegs r
    | 0x04 => (s.recRegs r).partApply r (s.isTwin (r.b 0))
    | 0x05 => s.startApply r (i0.startOf r)
    | 0x08 =>
      if !mine then s
      else match (s.blobOf k r).bind fun b => openBlob (r.b 0) (r.f 2 2) b with
        | some e => s.setKey (r.b 0) (r.f 2 2) e
        | none => s
    | 0x09 => if mine then s.debugApply r no else s
    | 0x0B =>
      if !mine then s
      else match s.newImage k r with
        | some l => s.updateApply l
        | none => s
    | 0x0C => if mine then s.assayRequest r.blocks (r.b 2) (r.b 3) false else s
    | _ => s.recRegs r
  each names (fun s p => s.extend p no r.raw) s

/-- R61: the two hubs compare their hallmarks. -/
def State.hubCompare (s : State) : State :=
  if s.beat.hallmark.getD 0 0 = s.beat.hallmark.getD 1 0 || s.beat.selfFenced then s
  else s.selfFence E.HALLMARK_DIVERGE 2 0

/-- A ticket extends the hallmark (R60). -/
def State.extendHallmark (s : State) (t : Ticket) : State :=
  let s := s.onBeat fun b => { b with
    hallmark := b.hallmark.map (fun h => Config.sha384 (digestBytes h ++ t.body)), exchanges := addOnce b.exchanges (s.now + 2) }
  let s := (s.setF R.HALLMARK_INFO F.HALLMARK_INFO_TICKET t.no).setF R.HALLMARK_INFO F.HALLMARK_INFO_BEAT_LO s.now
  (s.setReg R.MB_LAST_TICKET (BitVec.ofNat 64 t.no)).hubCompare

/-- A committed ticket is applied (R320); a package that is joining receives it as well (R286). -/
def State.applyTicket (s : State) (bytes : List Byte) : State :=
  match ticketOf bytes with
  | none => s
  | some t =>
    let i0 := s.boot.cfg
    let s := each t.recs.zipIdx (fun s (r, k) => s.applyRec i0 t.no k r) s
    let s := (s.restripeNext.onLinks fun k => { k with ticketLog := k.ticketLog ++ [bytes] }).onSec fun q => { q with fetched := [] }
    let s := match s.links.join with
      | some j => (s.send (.ticket j.pkg 16 bytes 0)).logEnd j.pkg
      | none => s
    s.extendHallmark t

end Sys2Proof.Machine
end

