-- ==== Sys2Proof/Machine/SecOps.lean ====
section
/-! DEFINITION. The Security Islands at work: mailbox slots (R326 to R329), vetting and the passage of a ticket to its Peal (R318, R319,
R324), officer commands (R325), attestation (R312), transfers and copies that end (R303, R321, R323), and the management bus's
access to slot 0 (R330). -/

namespace Sys2Proof.Machine

/-! ## Slots (R326, R327) -/

def SLOT_EMPTY : Nat := 0
def SLOT_VETTING : Nat := 1
def SLOT_ARMED : Nat := 2
def SLOT_APPLIED : Nat := 3
def SLOT_REFUSED : Nat := 4
def SLOT_CANCELLED : Nat := 5
def SLOT_DONE : Nat := 6

def CODE_FORMAT : Nat := 1
def CODE_SYSTEM : Nat := 2
def CODE_NUMBER : Nat := 3
def CODE_STALE : Nat := 4
def CODE_SIG : Nat := 5
def CODE_ROLES : Nat := 6
def CODE_RECORD : Nat := 7
def CODE_BUSY : Nat := 8
def CODE_TIMEOUT : Nat := 9
def CODE_DISAGREE : Nat := 10
def CODE_DENIED : Nat := 11
def CODE_TOO_LATE : Nat := 12
def CODE_CANCELLED : Nat := 15
def CODE_NO_VERDICT : Nat := 16
def CODE_CMD_FORMAT : Nat := 17
def CODE_CMD_NONCE : Nat := 18
def CODE_CMD_ROLE : Nat := 19

def State.slotState (s : State) (sl : Nat) : Nat := s.f (R.SLOT_STAT sl) F.SLOT_STAT_STATE

/-- STATE and CODE of a slot; a change of STATE sets CHANGED and raises vector 6. -/
def State.slotTo (s : State) (sl st code : Nat) : State :=
  let was := s.slotState sl
  let s := (s.setF (R.SLOT_STAT sl) F.SLOT_STAT_STATE st).setF (R.SLOT_STAT sl) F.SLOT_STAT_CODE code
  if was = st then s else (s.setF (R.SLOT_STAT sl) F.SLOT_STAT_CHANGED 1).raise sl 6

/-- The slot's ticket or command is in flight: its registers do not take writes. -/
def State.slotHeld (s : State) (sl : Nat) : Bool := s.slotState sl = SLOT_VETTING || s.slotState sl = SLOT_ARMED

/-- The first n bytes of a slot's buffer. -/
def State.slotBytes (s : State) (sl n : Nat) : List Byte :=
  (((List.range 256).map fun w => leBytes 8 (s.reg (R.MB_BUF sl w)).toNat).flatten).take n

/-- A slot is refused, and what it submitted is forgotten. -/
def State.slotRefuse (s : State) (sl code : Nat) : State :=
  (s.onSec fun q => { q with
    vetting := q.vetting.filter (fun e => e.1 != sl), forwarded := q.forwarded.filter (fun e => e.1 != sl)
    commands := q.commands.filter (fun e => e.1 != sl) }).slotTo sl SLOT_REFUSED code

/-- Partition sl may submit. -/
def State.maySubmit (s : State) (sl : Nat) : Bool := sl = 0 || s.f (R.PART_INFO sl) F.PART_INFO_MAILBOX = 1

/-- SLOT_CTL takes LEN and a command, from the slot's partition or the management bus. -/
def State.slotCommand (s : State) (sl cmd len : Nat) : State :=
  if s.slotHeld sl then s
  else
    let s := s.setF (R.SLOT_CTL sl) F.SLOT_CTL_LEN len
    match cmd with
    | 1 =>
      if !s.maySubmit sl then s.slotTo sl SLOT_REFUSED CODE_DENIED
      else
        let b := s.slotBytes sl len
        let s := (s.setReg (R.SLOT_TICKET sl) (BitVec.ofNat 64 (field b 8 8))).setReg (R.SLOT_TARGET sl) 0
        (s.onSec fun q => { q with vetting := q.vetting ++ [(sl, b)] }).slotTo sl SLOT_VETTING 0
    | 2 =>
      if !s.maySubmit sl then s.slotTo sl SLOT_REFUSED CODE_DENIED
      else (s.onSec fun q => { q with commands := q.commands ++ [(sl, s.slotBytes sl len)] }).slotTo sl SLOT_VETTING 0
    | 3 =>
      if s.slotState sl = SLOT_EMPTY then s
      else (each (List.range 256) (fun s w => s.setReg (R.MB_BUF sl w) 0) s).slotTo sl SLOT_EMPTY 0
    | _ => s

/-- A write to SLOT_CTL. -/
def State.slotCtlOp (s : State) (w : Who) (sl : Nat) (v : Word) : State :=
  s.csGuard w (R.SLOT_CTL sl) 8 (some v) fun s =>
    (s.slotCommand sl (F.SLOT_CTL_CMD.get v) (F.SLOT_CTL_LEN.get v)).whoReply w 0

/-- A write to a word of MB_BUF or ATT_NONCE, ignored while the slot is held. -/
def State.slotWordOp (s : State) (w : Who) (sl off : Nat) (v : Word) : State :=
  s.csGuard w off 8 (some v) fun s => (if s.slotHeld sl then s else s.setReg off v).whoReply w 0

/-! ## Vetting (R318) -/

/-- Step 5: two valid signatures by two present officers. -/
def State.sigsOk (s : State) (t : Ticket) : Bool :=
  let d := Config.sha384 t.body
  distinct (t.sigs.map (·.1)) && t.sigs.all fun e => s.boot.cfg.officers.any fun o => o.id = e.1 && Config.ecdsaOk o.key d e.2

/-- Step 6: the roles differ. -/
def State.rolesOk (s : State) (t : Ticket) : Bool :=
  distinct (t.sigs.map fun e => ((s.boot.cfg.officers.find? fun o => o.id = e.1).map (·.role)).getD 0)

/-- The first check that fails, as SLOT_STAT codes it; 0 where all pass. last and prior: the number of the last ticket and the hallmark that the
ticket must follow. -/
def State.vetAfter (s : State) (last : Nat) (prior : Digest) (b : List Byte) : Nat :=
  match ticketOf b with
  | none => CODE_FORMAT
  | some t =>
    if t.system != s.boot.cfg.systemId then CODE_SYSTEM
    else if t.no != (last + 1) % 2 ^ 64 then CODE_NUMBER
    else if t.prior != prior then CODE_STALE
    else if !s.sigsOk t then CODE_SIG
    else if !s.rolesOk t then CODE_ROLES
    else if !s.boot.cfg.recsOk (if s.admitted.contains s.pkg then s.admitted else s.listed) t.recs then CODE_RECORD
    else 0

/-- Vetting against the ticket number and hallmark in force. -/
def State.vet (s : State) (b : List Byte) : Nat := s.vetAfter (s.reg R.MB_LAST_TICKET).toNat (s.beat.hallmark.getD 0 0) b

/-- The first check of a command that fails (R325). -/
def State.vetCommand (s : State) (b : List Byte) : Nat :=
  let c := commandOf b
  let nonce := leBytes 8 (s.reg (R.MB_CMD_NONCE 0)).toNat ++ leBytes 8 (s.reg (R.MB_CMD_NONCE 1)).toNat
  if !commandOk b || c.system != s.boot.cfg.systemId || c.pkg != s.pkg then CODE_CMD_FORMAT
  else if c.nonce != nonce then CODE_CMD_NONCE
  else if !(s.boot.cfg.officers.any fun o => o.id = c.officer && o.role = 2 && Config.ecdsaOk o.key (Config.sha384 c.body) c.sig) then
    CODE_CMD_ROLE
  else 0

/-! ## The ticket at the master (R318, R319, R324) -/

/-- Slot numbers of ticket messages beside the mailbox slots: the log of a join, a copy to be vetted, an answer, the end of a ticket. -/
def TK_LOG : Nat := 16
def TK_VET : Nat := 17
def TK_ANSWER : Nat := 18
def TK_OVER : Nat := 19

def State.setTicketBusy (s : State) (on : Bool) : State := s.setF R.MB_INFO F.MB_INFO_TICKET_BUSY on.toNat

/-- Refuse a package's slot. -/
def State.refuseSlot (s : State) (src sl code : Nat) : State :=
  if src = s.pkg then s.slotRefuse sl code else s.send (.ticket src sl [] code)

/-- The master refuses the ticket in progress. -/
def State.ticketRefuse (s : State) (code : Nat) : State :=
  match s.sec.ticket with
  | none => s
  | some t =>
    let s := (s.onSec fun q => { q with ticket := none }).setTicketBusy false
    let s := s.refuseSlot t.origin t.slot code
    each (without s.others [t.origin]) (fun s q => s.send (.ticket q TK_OVER [] 0)) s

/-- Every package has answered: the ticket is refused, or its Peal is requested. -/
def State.ticketDecide (s : State) : State :=
  match s.sec.ticket with
  | none => s
  | some t =>
    if t.waitPkgs != [] || t.seq != 0 then s
    else match (t.refusals.foldl (fun (a : Option (Nat × Nat)) e => match a with
        | some b => if e.1 < b.1 then some e else a
        | none => some e) none) with
      | some e => s.ticketRefuse e.2
      | none =>
        let want := ((ticketOf t.bytes).map (·.target)).getD 0
        let target := if want = 0 then s.now + 16 else want
        let c : Change := { kind := 0, body := t.bytes, arg := 0 }
        match s.pealRefusal target c with
        | some code => (if t.origin = s.pkg then s.pealRefuse s.pkg code target c else s).ticketRefuse (code + 9)
        | none =>
          let s := s.tryPeal s.pkg target c
          s.onSec fun q => { q with ticket := some { t with seq := s.beat.nextSeq } }

/-- A ticket reaches the master. -/
def State.ticketArrive (s : State) (src sl : Nat) (b : List Byte) : State :=
  if !s.isMaster || !s.admitted.contains s.pkg || !s.admitted.contains src then s
  else if s.sec.ticket.isSome then s.refuseSlot src sl CODE_BUSY
  else
    let resting := s.f R.REST_STAT F.REST_STAT_RESTING
    let ps := s.admitted.filter fun q => !bit resting q && !(q = s.pkg && s.f R.REST_STAT F.REST_STAT_STATE = 3)
    let t : TicketProg := { origin := src, slot := sl, bytes := b, waitPkgs := ps, refusals := [], seq := 0 }
    let s := (s.onSec fun q => { q with ticket := some t }).setTicketBusy true
    (each ps (fun s q => s.send (.ticket q TK_VET b 0)) s).ticketDecide

/-- A package's answer is in. -/
def State.ticketAnswer (s : State) (src code : Nat) : State :=
  match s.sec.ticket with
  | none => s
  | some t =>
    if !t.waitPkgs.contains src then s
    else
      let t := { t with waitPkgs := t.waitPkgs.filter (· != src), refusals := if code = 0 then t.refusals else t.refusals ++ [(src, code)] }
      (s.onSec fun q => { q with ticket := some t }).ticketDecide

/-- TICKET_VETTED: the receiving package's Islands have vetted a ticket, or checked a command. -/
def State.slotVetted (s : State) (sl : Nat) (agree : Bool) : State :=
  match s.sec.vetting.find? fun e => e.1 = sl, s.sec.commands.find? fun e => e.1 = sl with
  | some (_, b), _ =>
    if !agree then s.disagree.slotRefuse sl CODE_DISAGREE
    else
      let s := s.agreed
      let code := s.vet b
      if code != 0 then s.slotRefuse sl code
      else if !s.admitted.contains s.pkg then s.slotRefuse sl CODE_BUSY
      else
        let s := s.onSec fun q => { q with
          vetting := q.vetting.filter (fun e => e.1 != sl), forwarded := q.forwarded ++ [(sl, b)] }
        s.send (.ticket s.master sl b 0)
  | none, some (_, b) =>
    if !agree then s.disagree.slotRefuse sl CODE_DISAGREE
    else
      let s := s.agreed
      let code := s.vetCommand b
      if code != 0 then s.slotRefuse sl code else s
  | none, none => s

/-- TICKET_AT_MASTER: the sender's own message is taken where it is this package's. -/
def State.ticketIn (s : State) (src sl : Nat) (b : List Byte) : State :=
  if src != s.pkg then s.ticketArrive src sl b
  else if s.sent.contains (.ticket s.pkg sl b 0) && sl < 16 then (s.take (.ticket s.pkg sl b 0)).ticketArrive src sl b
  else s

/-- A ticket of the log that a joining package replays (R286): verified against the officers in force, then applied. At the end of the log the
hallmark that results is returned. -/
def State.replayTicket (s : State) (src : Nat) (b : List Byte) (agree : Bool) : State :=
  if b = [] then s.send (.join src 1 (s.beat.hallmark.getD 0 0))
  else if !agree then s.disagree
  else
    let s := s.agreed
    if s.vet b = 0 then s.applyTicket b else s

/-- TICKET_REMOTE_VET: a ticket sent by the master to be vetted; a package not admitted receives the log of its join. -/
def State.remoteVet (s : State) (src : Nat) (b : List Byte) (agree : Bool) : State :=
  if !s.admitted.contains s.pkg then (if s.boot.applied then s.replayTicket src b agree else s)
  else if src != s.master || s.f R.REST_STAT F.REST_STAT_STATE = 3 then s
  else if s.isMaster then
    if !s.sent.contains (.ticket s.pkg TK_VET b 0) then s
    else
      let s := s.take (.ticket s.pkg TK_VET b 0)
      if !agree then s.disagree.ticketAnswer s.pkg CODE_DISAGREE else s.agreed.ticketAnswer s.pkg (s.vet b)
  else
    let s := s.setTicketBusy true
    if !agree then s.disagree.send (.ticket src TK_ANSWER [] CODE_DISAGREE)
    else s.agreed.send (.ticket src TK_ANSWER [] (s.vet b))

/-- TICKET_VET_RESULT: at the master a package's answer; elsewhere the master's refusal, of this package's slot where one is named. -/
def State.vetResult (s : State) (src : Nat) (sl : Option Nat) (code : Nat) : State :=
  if s.isMaster then s.ticketAnswer src code
  else if src != s.master then s
  else match sl with
    | none => s.setTicketBusy false
    | some k =>
      let s := if code = CODE_BUSY then s else s.setTicketBusy false
      match s.sec.forwarded.find? fun e => e.1 = k with
      | some (_, b) => (when (CODE_TOO_LATE ≤ code && code < CODE_CANCELLED) (fun s => s.pealLast (code - 9) 0 0 (((ticketOf b).map (·.target)).getD 0)) s).slotRefuse k code
      | none => s

/-- TICKET_VET_TIMEOUT: a package has not answered within 4 ms. -/
def State.vetTimeout (s : State) : State :=
  match s.sec.ticket with
  | some t => if t.waitPkgs != [] && t.seq = 0 then s.ticketRefuse CODE_TIMEOUT else s
  | none => s

/-! ## A ticket's Peal in this package -/

/-- The arming message of a ticket: the slot it came from shows it. -/
def State.slotArm (s : State) (seq target : Nat) (b : List Byte) : State :=
  match s.sec.forwarded.find? fun e => e.2 = b with
  | some (sl, _) =>
    let s := s.onSec fun q => { q with forwarded := q.forwarded.filter (fun e => e.1 != sl), mine := some (sl, seq) }
    (s.setReg (R.SLOT_TARGET sl) (BitVec.ofNat 64 target)).slotTo sl SLOT_ARMED 0
  | none => s

/-- The Islands check the records once per Peal: they read what the records refer to, and every unmet condition is recorded. The
hubs that withhold are the result. Where the Islands' openings of a blob, or verifications of an image, differ, the check is refused (R307). -/
def State.ticketCheck (s : State) (seq : Nat) (b : List Byte) : State × List Nat :=
  match ticketOf b with
  | none => (s, [])
  | some t =>
    if s.sec.differ && t.recs.any fun r => s.recLive r && s.recMine r && (r.ty = T_KEY_IMPORT || r.ty = T_IMAGE_UPDATE) then
      (s.disagree, [12, 13])
    else
    let s := if s.sec.ackPeals.contains seq then s else s.fetchFor t
    let hs := s.ticketHolds t
    let s := if s.sec.ackPeals.contains seq then s
      else each hs (fun s h => s.record h.code 2 (h.hub - 12) h.parts none seq) s
    (s.onSec fun q => { q with ackPeals := addOnce q.ackPeals seq }, (hs.map (·.hub)).eraseDups)

/-- A ticket's Peal settles in this package: applied, cancelled, or without a verdict. -/
def State.ticketOver (s : State) (seq st code : Nat) : State :=
  let s := match s.sec.mine with
    | some (sl, n) => if n = seq then (s.slotTo sl st code).onSec fun q => { q with mine := none } else s
    | none => s
  let s := match s.sec.ticket with
    | some t => if t.seq = seq then s.onSec fun q => { q with ticket := none } else s
    | none => s
  (s.onSec fun q => { q with ackPeals := q.ackPeals.erase seq, fetched := [] }).setTicketBusy false

/-! ## Officer commands (R325, R395, R424) -/

/-- The command of a slot, where it is of a kind and still passes every check: it is performed, and a new nonce is drawn. -/
def State.perform (s : State) (sl kind : Nat) (act : State → Command → State) : State :=
  match s.sec.commands.find? fun e => e.1 = sl with
  | none => s
  | some (_, b) =>
    if (commandOf b).kind != kind then s
    else
      let code := s.vetCommand b
      if code != 0 then s.slotRefuse sl code
      else
        let s := s.onSec fun q => { q with commands := q.commands.filter fun e => e.1 != sl }
        ((act s (commandOf b)).newNonce).slotTo sl SLOT_DONE 0

def State.cmdRest (s : State) (sl : Nat) : State := s.perform sl CMD_REST fun s _ => s.setF R.REST_STAT F.REST_STAT_CMD 1

def State.cmdAssay (s : State) (sl : Nat) : State := s.perform sl CMD_ASSAY fun s c =>
  s.assayRequest (bitsOf (field c.args 0 2) 14) (byteAt c.args 2) (byteAt c.args 3) true

/-! ## Attestation (R312) -/

def State.attGo (s : State) (w : Who) (sl : Nat) (v : Word) : State :=
  s.csGuard w (R.ATT_CTL sl) 8 (some v) fun s =>
    (if F.ATT_CTL_GO.get v = 0 || s.f (R.ATT_STAT sl) F.ATT_STAT_BUSY = 1 then s
     else (s.setF (R.ATT_STAT sl) F.ATT_STAT_BUSY 1).onSec fun q => { q with attesting := addOnce q.attesting sl }).whoReply w 0

/-- The report, with its signature. -/
def State.report (s : State) (sl : Nat) : List Byte :=
  let b := ascii "ZL240ATT" ++ leBytes 1 s.pkg ++ leBytes 1 sl ++ leBytes 6 0 ++ leBytes 8 s.now ++
    digestBytes (s.sec.touchmarks.get sl) ++ digestBytes (s.beat.hallmark.getD 0 0) ++
    ((List.range 4).map fun k => leBytes 8 (s.reg (R.ATT_NONCE sl k)).toNat).flatten ++ leBytes 8 (s.reg R.MB_LAST_TICKET).toNat
  b ++ (Config.attestSign (Config.sha384 b)).take 96

def State.attDone (s : State) (sl : Nat) (agree : Bool) : State :=
  if !s.sec.attesting.contains sl then s
  else
    let s := (s.onSec fun q => { q with attesting := q.attesting.erase sl }).setF (R.ATT_STAT sl) F.ATT_STAT_BUSY 0
    if !agree then s.disagree.setF (R.ATT_STAT sl) F.ATT_STAT_REFUSED 1
    else
      let b := s.report sl
      let s := each (List.range 32) (fun s k => s.setReg (R.ATT_REPORT sl k) (BitVec.ofNat 64 (field b (8 * k) 8))) s.agreed
      s.setF (R.ATT_STAT sl) F.ATT_STAT_DONE 1

/-! ## Work of the Islands and Service Cores that ends -/

/-- Copies of a transfer's lines are left. -/
def State.xferLeft (s : State) (x : Xfer) : Bool := [0, 1].any fun h => s.xferLines h x != []

/-- One transfer ends: a new key applies, and its requests are taken (R303). -/
def State.xferEnd (s : State) (x : Xfer) : State :=
  let s := s.onSec fun q => { q with xfers := q.xfers.erase x }
  let s := match x.newKey with
    | some p => s.newKey p
    | none => s
  let freed := s.sec.heldReq.filter fun e => !s.inXfer e.2.line
  let s := s.onSec fun q => { q with heldReq := q.heldReq.filter fun e => s.inXfer e.2.line }
  (each freed (fun s e => s.takeReq e.1 e.2) s).setXferBusy

/-- REGION_TRANSFER_DONE: the walks end. A transfer with copies still out recalls them and goes on. -/
def State.xfersDone (s : State) : State :=
  each s.sec.xfers (fun s x =>
    if s.xferLeft x then each [0, 1] (fun s h => each (s.xferLines h x) (fun s l => s.homeOwn h .cmoCleanInv l 0) s) s
    else s.xferEnd x) s

/-- IMAGE_UPDATE_DONE: a flash's write and readback end; HUB-B's flash is written first, then HUB-A's. -/
def State.updateDone (s : State) (ok : Bool) : State :=
  match s.sec.imgUpd with
  | none => s
  | some img =>
    let ended (s : State) (st : Nat) : State :=
      ((s.setF R.MB_INFO F.MB_INFO_IMG_UPD st).onSec fun q => { q with imgUpd := none }).onBoot fun k => { k with flashEnabled := false }
    if !ok then (ended s 3).record E.IMAGE_UPDATE_FAIL 8 0
    else if s.sent.contains (.flash 1 img) then (s.take (.flash 1 img)).send (.flash 0 img)
    else ended (s.take (.flash 0 img)) 2

/-- PART_START_COPY_DONE (R321): every read and write of the copy is answered, or one has failed; the digest is checked. -/
def State.copyDone (s : State) (p : Nat) : State :=
  match s.sec.copies.find? fun c => c.part = p && !c.done && c.pkg = s.pkg with
  | none => s
  | some c =>
    if !c.bad && (c.need != 0 || c.wait != 0) then s
    else s.updCopy p fun c => { c with done := true, ok := !c.bad && Config.sha384 c.buf = c.digest }

/-! ## The management bus (R330, R401) -/

/-- The target answers commands 0xC0 to 0xC4. -/
def State.busOpen (s : State) (addr : Nat) : Bool :=
  s.busHit addr && !between (s.f R.REST_STAT F.REST_STAT_STATE) 2 3

/-- A write transaction: refused at the first byte that breaks a rule, or for a wrong PEC byte; one that stops without its PEC byte has
no effect. pec: none where no PEC byte was sent, else whether it was right. -/
def State.busWrite (s : State) (addr : Nat) (legal : Bool) (pec : Option Bool) (act : State → State) : State :=
  if !s.busHit addr then s
  else if !s.busOpen addr || !legal then s.busAck false
  else if s.boot.applied && s.boot.cfg.pec then
    match pec with
    | some true => (act s).busAck true
    | some false => s.busAck false
    | none => s.busAck true
  else (act s).busAck true

def State.busOffset (s : State) (addr v : Nat) (pec : Option Bool) : State :=
  s.busWrite addr (v % 8 = 0 && v < 2048) pec fun s => if s.slotHeld 0 then s else s.onSec fun q => { q with mgmtOff := v }

def State.busBuffer (s : State) (addr : Nat) (bytes : List Byte) (pec : Option Bool) : State :=
  let n := bytes.length
  s.busWrite addr (between n 8 32 && n % 8 = 0 && s.sec.mgmtOff + n ≤ 2048) pec fun s =>
    if s.slotHeld 0 then s
    else
      let off := s.sec.mgmtOff
      let s := each (List.range (n / 8)) (fun s k => s.setReg (R.MB_BUF 0 (off / 8 + k)) (BitVec.ofNat 64 (field bytes (8 * k) 8))) s
      s.onSec fun q => { q with mgmtOff := off + n }

def State.busCommand (s : State) (addr v : Nat) (pec : Option Bool) : State :=
  s.busWrite addr true pec fun s => s.slotCommand 0 (v % 4) s.sec.mgmtOff

def State.busSlotStat (s : State) (addr : Nat) : State :=
  if !s.busHit addr then s
  else if !s.busOpen addr then s.busAck false else s.busRead addr 0xC3 (leBytes 8 (s.reg (R.SLOT_STAT 0)).toNat)

def State.busLast (s : State) (addr : Nat) : State :=
  if !s.busHit addr then s
  else if !s.busOpen addr then s.busAck false
  else s.busRead addr 0xC4 (leBytes 8 (s.reg R.MB_LAST_TICKET).toNat ++ (digestBytes (s.beat.hallmark.getD 0 0)).take 4 ++
    leBytes 8 (s.reg (R.MB_CMD_NONCE 0)).toNat ++ leBytes 8 (s.reg (R.MB_CMD_NONCE 1)).toNat)

def State.busRest (s : State) (addr : Nat) : State :=
  if s.busHit addr then s.busRead addr 0xD1 (leBytes 8 (s.reg R.REST_STAT).toNat) else s

end Sys2Proof.Machine
end

