-- ==== Sys2Proof/Machine/RestOps.lean ====
section
/-! DEFINITION. Rest (R394 to R404): when a package enters it, what entry and each step of a wake do, and which registers are kept
(R399); messages that meet a resting package or a powered-down die (R392). -/

namespace Sys2Proof.Machine

def ST_AWAKE : Nat := 0
def ST_DEFERRED : Nat := 1
def ST_ENTERING : Nat := 2
def ST_REST : Nat := 3

def State.restState (s : State) : Nat := s.f R.REST_STAT F.REST_STAT_STATE
def State.setRest (s : State) (v : Nat) : State := s.setF R.REST_STAT F.REST_STAT_STATE v

/-! ## When a package enters Rest (R395, R396) -/

/-- Partitions whose request counts. -/
def State.activeParts (s : State) : List Nat :=
  parts15.filter fun p => s.f (R.PART_STATE p) F.PART_STATE_STATE = 2 && (s.coresOf p).any s.alive

def State.restWanted (s : State) : Bool :=
  s.f R.REST_STAT F.REST_STAT_CMD = 1 ||
    (s.activeParts != [] && s.activeParts.all fun p => bit (s.f R.REST_REQ F.REST_REQ_REQ) p)

/-- The admitted packages that are awake, but this one. -/
def State.awakeOthers (s : State) : List Nat := s.others.filter fun p => !s.pwr.restPkgs.contains p

/-- DEFER_CAUSE. -/
def State.deferCauses (s : State) : Nat :=
  let busy := s.f R.MB_INFO F.MB_INFO_TICKET_BUSY = 1 || s.sec.ticket.isSome || s.sec.xfers != [] || s.restriping || s.home.fenceWalk != [] ||
    s.ordered 0 || s.ordered 1
  let transit := s.awakeOthers.any fun p => s.awakeOthers.any fun d => p != d && s.routeUsable p d && s.viaOf p d = some s.pkg
  maskOf (([(s.anyPeal, 0), (busy, 1), (s.isMaster && s.awakeOthers != [], 2), (transit, 3)].filter (·.1)).map (·.2))

/-! ## Entry (R397) -/

/-- The lines homed at hub h that a die of another package holds. -/
def State.linesAway (s : State) (h : Nat) : List Nat :=
  (s.dirLines h).filter fun l => pkgOfLine l = s.pkg && ((s.dirEnt h l).pkgVec != 0 || (s.dirEnt h l).ds != .shared && (s.dirEnt h l).ownerPkg != s.pkg)

/-- Step 3: the Die Caches clean and invalidate themselves, and the lines away are recalled; at a later boundary, those that have been filled or
granted since. -/
def State.restFlush (s : State) : State :=
  let s := each (allDies.filter fun d => !s.dieFenced d) State.dcFlush s
  let open' (h l : Nat) : Bool := s.home.txns.any (fun t => t.hub = h && t.req.line = l) || s.home.lineq.any fun e => e.1 = h && e.2.1.line = l
  each [0, 1] (fun s h => each ((s.linesAway h).filter fun l => !open' h l) (fun s l => s.homeOwn h .cmoCleanInv l 0) s) s

/-- Steps 1 to 3, begun at boundary E. -/
def State.restEnter (s : State) : State :=
  let s := ((s.setRest ST_ENTERING).setF R.REST_STAT F.REST_STAT_DEFER_CAUSE 0).setF R.REST_STAT F.REST_STAT_CMD 0
  let s := each s.others (fun s q => s.send (.rest q 1)) s
  let s := each (allCores.filter s.alive) (fun s c => (s.updCoreH c fun h => { h with restState := s.coreState c }).coreOff c) s
  let s := each ((List.range 32).filter s.segReal) (fun s k =>
    ((s.perstOn k).setF (rHpCtl k) F.HP_CTL_PWR 0).updSeg k fun g =>
      { g with pwrSeq := if g.swren then 3 else 0 }) s
  let s := (s.sepDown 3 L_DISABLED).sepDown 7 L_DISABLED
  let s := each (List.range 64) State.dropFetches s
  s.restFlush

/-- At a boundary: REST_STAT.STATE, and entry once nothing defers it. -/
def State.restTick (s : State) : State :=
  if s.restState = ST_ENTERING then s.restFlush
  else if s.f R.PKG_INFO F.PKG_INFO_ADMITTED = 0 || ST_ENTERING ≤ s.restState || s.beat.selfFenced then s
  else if !s.restWanted then (s.setRest ST_AWAKE).setF R.REST_STAT F.REST_STAT_DEFER_CAUSE 0
  else
    let c := s.deferCauses
    if c = 0 then s.restEnter else (s.setRest ST_DEFERRED).setF R.REST_STAT F.REST_STAT_DEFER_CAUSE c

/-! ## What is kept (R399) -/

/-- Registers kept whole, by block and offset in it, besides those that hold a kept RW or RWL field. -/
def keptReg (b : Blk) (rel : Nat) : Bool :=
  match b with
  | .pkg => true
  | .core => 0x10 ≤ rel && rel ≤ 0x30
  | .mc => rel = 0 || rel = 0x10 || rel = 0x18 || rel = 0x28 || rel = 0x38 || rel = 0x48 || rel = 0x50 || rel = 0x90 || (0x1100 ≤ rel && rel < 0x1408)
  | .home => rel < 0x20 || rel = 0x200 || rel = 0x208 || rel = 0x308
  | .pcie => rel = 0 || (0x1000 ≤ rel && rel < 0x5000 && rel % 0x1000 = 0x30)
  | .fp => !(0x1000 ≤ rel && rel < 0x1018)
  | .dl => !(0x1000 ≤ rel && rel < 0x1018)
  | .hb => !(0x1000 ≤ rel && rel < 0x1018)
  | .arb => rel = 0x08 || rel = 0x28 || 0x80 ≤ rel
  | .part => rel < 0x100 || rel = 0x230 || (0x4000 ≤ rel && rel < 0x8010)
  | .ring => true
  | .pwr => rel != 0x18 && rel < 0x40
  | .assay => rel = 0x10
  | .mb => rel < 0x30
  | _ => false

/-- Fields kept of registers that are not kept whole: the owner and present level of a segment, SEG_CTL's five fields, a slot's
present level, a function's partition, presence and count; a die's power state. -/
def keptPart (b : Blk) (rel lo : Nat) : Bool :=
  match b with
  | .pcie =>
    if 0x8000 ≤ rel then rel % 0x100 = 0 && (lo = 0 || lo = 4 || lo = 48)
    else match rel % 0x1000 with
      | 0x00 => lo = 0 || lo = 18
      | 0x08 => lo = 3 || lo = 4 || lo = 16 || lo = 32 || lo = 40
      | 0x18 => lo = 0
      | _ => false
  | .pwr => 0x100 ≤ rel && lo = 0
  | _ => false

/-- The blocks whose RW fields are kept. -/
def keptRw (b : Blk) : Bool := b = .part || b = .ring || b = .pwr || b = .mc

/-- A register's value at wake. -/
def keptWord (off : Nat) (w : Word) : Word :=
  match locate off, regAt off with
  | some (b, _, rel), some (_, _, _, r) =>
    if keptReg b rel || r.flds.any (fun f => f.ty = .rwl || (f.ty = .rw && keptRw b)) then w
    else r.flds.foldl (fun a f => if keptPart b rel f.lo then ({ lo := f.lo, width := f.width } : Fld).set a (({ lo := f.lo, width := f.width } : Fld).get w) else a)
      (regReset off)
  | _, _ => regReset off

def keptRegs (l : SMap Word) : SMap Word :=
  (l.map fun e => (e.1, keptWord e.1 e.2)).filter fun e => e.2 != regReset e.1

/-! ## The end of entry (R397 steps 4 and 5) -/

/-- Nothing is left to drain: no directory entry, no line, no transaction, no memory access, no descriptor in execution, no
slot whose power has still to drop. -/
def State.restDrained (s : State) : Bool :=
  s.dram.queue = [] && (s.dram.locks.all fun k => k.done) && s.dram.resyncs = [] && s.dirLines 0 = [] && s.dirLines 1 = [] && s.home.txns = [] && !(s.cache.dc.any fun e => e.2.coh != .i) && s.cache.dcMiss = [] &&
    s.cache.wb = [] && (s.crypto.rings.all fun e => e.2.exec = []) && s.crypto.dma.all (fun e => e.2 = []) &&
    s.pcie.segs.all fun e => e.2.pwrSeq != 3

/-- T0: the rail enables are asserted, and every rail is set to V(PL0); the channels in self-refresh are to be READY by the end of step 3. -/
def State.wakeBegin (s : State) : State :=
  let s := s.onPwr fun p => { p with
    wakeStep := 1, wakeLatched := false, vrEn := true, wakeChans := (List.range 16).filter fun c => s.chState c = CH_SELF_REFRESH }
  let s := each (List.range 4) (fun s i => s.send (.pin "VR_EN" i true)) s
  each (List.range 14) (fun s u => s.send (.avs u (s.voltage u 0))) s

/-- A message of the budget or of the regulator handshake. -/
def budgetMsg : Msg → Bool
  | .power _ _ => true
  | .report _ _ => true
  | .avs _ _ => true
  | _ => false

/-- Steps 4 and 5 of R397. Where the Islands' wrapped keys differ the wrapping is refused (R307), and the entry waits until it is done again (DESIGN
CHOICE, log entry 94). The parity cache keeps its clean lines: R260 has only the dirty ones written, and says nothing of what the cache holds
after a wake (DESIGN CHOICE, log entry 94). -/
def State.restDrain (s : State) : State :=
  if s.restState != ST_ENTERING || !s.restDrained then s
  else if s.sec.differ then s.disagree
  else
    let s := (s.agreed.flushParity 0).flushParity 1
    let s := each ((List.range 16).filter fun c => s.chState c = CH_READY) (fun s c =>
      (each (List.range (s.ranks c)) (fun s k => s.send (.dram c DRAM_SELF_REFRESH k)) s).setChState c CH_SELF_REFRESH) s
    let s := each s.others (fun s q => s.send (.rest q 2)) s
    let s := each (allDies.filter fun d => !s.dieFenced d) State.dieDown s
    let s := (s.setF R.CLKD_ON F.CLKD_ON_ON (2 ^ 62 + 2 ^ 63)).setRest ST_REST
    let s := { s with
      sent := s.sent.filter fun m => !budgetMsg m, regs := keptRegs s.regs, cache := { s.cache with predictor := [] },
      xlat := default, fab := default, cores := { s.cores with twins := [], twinSnp := [] } }
    let s := (s.onSec fun q => { q with wrapped := true }).onPcie fun _ => default
    let s := s.onPwr fun p => { p with
      vrEn := false, drain := [], waking := [], woken := [],
      units := p.units.map fun e => (e.1, { (default : UnitPwr) with fails := e.2.fails }) }
    let s := each (List.range 4) (fun s i => s.send (.pin "VR_EN" i false)) s
    if s.pwr.wakeLatched then s.wakeBegin else s

/-! ## Wake (R402 to R404) -/

/-- A transaction's address on the management bus meets the wake matcher. -/
def State.wakeAddr (s : State) (addr : Nat) : State :=
  if !s.boot.applied || addr != s.boot.cfg.wakeAddr + s.pkg then s
  else
    let s := s.send (.smbus true [])
    if s.restState = ST_REST && s.pwr.wakeStep = 0 then s.wakeBegin
    else if s.restState = ST_ENTERING then s.onPwr fun p => { p with wakeLatched := true }
    else s

def State.wakeFail (s : State) : State := (s.onPwr fun p => { p with wakeStep := 0 }).selfFence E.WAKE_FAIL 2 0

/-- Dies that wake: those with an assigned core, but for fenced dies and dies kept down by Assay. -/
def State.wakeDies (s : State) : List Nat :=
  allDies.filter fun d => !s.dieFenced d && s.wantedClusters d != [] && s.err.assayPrior.get d != 4

/-- Step 3: hub domains, keys, and the channels' resume tasks. Where the Islands' unwrapped keys differ they are not loaded (R307). -/
def State.wakeMemory (s : State) : State :=
  let s := (s.setReg R.CLKD_ON (regReset R.CLKD_ON &&& BitVec.ofNat 64 (0xFFFF * 2 ^ 48))).gateClocks s.boot.cfg
  let s := if s.sec.differ then s.disagree else s.agreed.onSec fun q => { q with wrapped := false }
  each ((List.range 16).filter fun c => s.chState c = CH_SELF_REFRESH) (fun s c => s.beginTask true (0x10 + c) false) s

/-- A held ticket passes every check of R318. -/
def State.vetHeld (s : State) (c : HeldChange) : Bool := s.vetAfter c.last c.prior c.change.body = 0

/-- The changes of one ticket held in Rest; its hallmark was extended at its target beat. -/
def State.applyHeld (s : State) (b : List Byte) : State :=
  match ticketOf b with
  | none => s
  | some t =>
    let i0 := s.boot.cfg
    let s := each t.recs.zipIdx (fun s (r, k) => s.applyRec i0 t.no k r) s
    s.restripeNext.onLinks fun k => { k with ticketLog := k.ticketLog ++ [b] }

/-- The changes held in Rest take effect, in the order of their Peals (R54, R318). -/
def State.applyAllHeld (s : State) : State :=
  let l := s.sec.heldChanges
  let s := s.onSec fun q => { q with heldChanges := [] }
  each l (fun s c =>
    if s.beat.selfFenced then s
    else if c.change.kind != 0 then s.changeEffect c.change
    else if s.sec.differ then s.disagree.selfFence E.HALLMARK_DIVERGE 2 0
    else if s.agreed.vetHeld c then s.agreed.applyHeld c.change.body
    else s.agreed.selfFence E.HALLMARK_DIVERGE 2 0) s

/-- Step 4: held changes; the dies of assigned cores are powered, and their links and the hub bridge resume. -/
def State.wakeLogic (s : State) : State :=
  let s := s.applyAllHeld
  let s := each s.wakeDies (fun s d =>
    ((s.clearDie d).resumeLink (8 + d)).setF (R.PWR_DIE d) F.PWR_DIE_STATE 1) s
  s.resumeLink 20

def State.linksReady (s : State) : Bool := s.linkActive 20 && s.wakeDies.all fun d => s.linkActive (8 + d)

/-- A core takes its state (R103, R423). -/
def State.coreWake (s : State) (c : Nat) : State :=
  let st := (s.coreH c).restState
  let s := s.updCoreH c fun h => { h with restState := 0 }
  if st = 0 || s.coreState c != 0 || s.dieFenced (dieOf c) || s.dieOff (dieOf c) then s
  else if st = 2 && !s.partFenced (s.corePart c) then s.enterRun c (s.reg (R.CORE_WAKE_PC c)).toNat
  else s.setCoreState c 1

/-- A Gong held in Rest is recorded with its original beat (R411). -/
def State.gongHeld (s : State) (g : Gong) : State :=
  let n := s.now
  (((s.onBeat fun b => { b with now := g.beat }).gongApply g).onBeat fun b => { b with now := n })

def State.lateGongs (s : State) : State :=
  let l := s.err.gongs.filter fun g => !g.done
  let s := s.emptyLogs.onErr fun q => { q with gongs := q.gongs.map fun g => { g with done := true } }
  let s := each l State.gongHeld s
  let n := s.pwr.heldGongs
  let s := s.onPwr fun p => { p with heldGongs := 0 }
  s.onErr fun q => { q with logs := q.logs.upd ELOG_GONG fun g => { g with lost := min (g.lost + n) 0xFFFF } }

/-- T0 + 2.0 ms. -/
def State.wakeEnd (s : State) : State :=
  let s := s.onPwr fun p => { p with wakeStep := 0 }
  let s := each s.wakeDies (fun s d =>
    let s := (s.clkOn (4 * d + 2) true).clkOn (4 * d + 3) true
    let s := each (s.wantedClusters d) (fun s k => s.setCluster d k true) s
    let s := each [0, 1] (fun s k => s.maskCluster d k (!s.clusterOn d k)) (s.arbMaskDie d false)
    s.setF (R.PWR_DIE d) F.PWR_DIE_STATE 2) s
  let s := each s.others (fun s q => s.send (.rest q 3)) s
  let s := ((s.setReg R.REST_REQ 0).setRest ST_AWAKE).incF R.REST_STAT F.REST_STAT_WAKES
  let s := s.lateGongs
  let s := each allCores State.coreWake s
  let s := each (List.range 32) (fun s k => if s.owner k != 0 && s.f (rHpStat k) F.HP_STAT_PRESENT = 1 then s.slotOn k else s) s
  s.onCrypto fun q => { q with rings := (List.range 64).foldl (fun m r =>
    m.put r { (default : RingH) with fetchAt := s.f (R.RING_HEAD r) F.RING_HEAD_HEAD }) q.rings }

/-- Every rail has answered VDone (R403). -/
def State.railsSet (s : State) : Bool :=
  s.sent.all fun m => match m with
    | .avs _ _ => false
    | _ => true

/-- Every channel that was in self-refresh is READY. -/
def State.chansReady (s : State) : Bool := s.pwr.wakeChans.all fun c => s.chState c = CH_READY

/-- The end of a step of the wake (R403): its ready condition holds, and the next step begins; or the wake fails. ready: what only the lands and
the PLLs show of the condition. -/
def State.wakeStepDone (s : State) (ready : Bool) : State :=
  let next (n : Nat) (s : State) : State := s.onPwr fun p => { p with wakeStep := n }
  match s.pwr.wakeStep with
  | 1 => if ready && s.railsSet then next 2 s else s.wakeFail
  | 2 => if ready then (next 3 s).wakeMemory else s.wakeFail
  | 3 =>
    if ready && !s.sec.wrapped && s.chansReady then (next 4 s).wakeLogic
    else s.wakeFail
  | 4 => if ready && s.linksReady then s.wakeEnd else s.wakeFail
  | _ => s

/-! ## Notices and held messages (R392, R397) -/

def State.restNoticeIn (s : State) (q : Nat) : State :=
  if s.others.contains q then s.onPwr fun p => { p with restPkgs := addOnce p.restPkgs q } else s

def State.restingIn (s : State) (q : Nat) : State :=
  if s.others.contains q then
    ((s.restNoticeIn q).dropFar q).setF R.REST_STAT F.REST_STAT_RESTING (s.f R.REST_STAT F.REST_STAT_RESTING ||| 2 ^ q)
  else s

/-- The answer TARGET_OFF reaches a requester. wait: it holds its message until the wake notice; a home holds its snoop. -/
def State.offIn (s : State) (m : CMsg) (wait : Bool) : State :=
  let s := s.take (.coh m)
  let own := decide (m.dst.pkg = s.pkg)
  if !wait then
    let u : Nat × Nat := if m.src.pkg = s.pkg then (1, m.src.unit % 16) else (14, m.src.pkg)
    let s := (s.record E.TARGET_OFF u.1 u.2 [m.part] (some (m.line * 64)) (classOfVc (if m.rsv then 6 else 0) 0)).errDone { m with op := .busErr, data := 0 }
    match s.dstDie m with
    | some d => (s.accsSettle d).ioSettle
    | none => s.ioSettle
  else if own && 0xFC ≤ m.dst.unit && m.aop.code != 0 then s.onHome fun q => { q with heldSnp := q.heldSnp ++ [m] }
  else
    (s.retryMark m).onPwr fun p => { p with heldIo := p.heldIo ++ [m] }

/-- The wake notice of a package, or of die d of a package: what was held for it is issued again. -/
def State.wakeIn (s : State) (q : Nat) (d : Option Nat) : State :=
  let s := match d with
    | none => (s.setF R.REST_STAT F.REST_STAT_RESTING (clearBit (s.f R.REST_STAT F.REST_STAT_RESTING) q)).onPwr fun p =>
        { p with restPkgs := p.restPkgs.filter (· != q) }
    | some _ => s
  let from' (u : Unt) : Bool := u.pkg = q && match d with
    | none => true
    | some d => (if q = s.pkg then unitDie u.unit else some d) = some d
  let io := s.pwr.heldIo.filter fun m => from' m.src
  let sn := s.home.heldSnp.filter fun m => from' m.src
  let s := s.onPwr fun p => { p with heldIo := p.heldIo.filter fun m => !from' m.src }
  let s := s.onHome fun h => { h with heldSnp := h.heldSnp.filter fun m => !from' m.src }
  let s := each io State.reissue s
  each sn (fun s m => match snoopOfCode m.aop.code with
    | some op => s.send (.coh { m with op := op, src := m.dst, dst := m.src, mask := 0, aop := { m.aop with code := 0 } })
    | none => s) s

end Sys2Proof.Machine
end

