-- ==== Sys2Proof/Machine/Flags.lean ====
section
/-! DEFINITION. What a read of a Control Space register shows: the status and flags that are computed from the rest of the state when
they are read, and the values that an instance number, a strap or manufacture fixes (R17, R21, and the layout tables). -/

namespace Sys2Proof.Machine

/-- Word k of a digest: bytes 8k to 8k + 7, byte 8k in bits [63:56] (R64, R328). -/
def digestWord (d : Digest) (k : Nat) : Word := BitVec.ofNat 64 (d.toNat / 2 ^ (64 * (5 - k)))

/-! ## Peals (R64) -/

/-- PEAL_INFO.STATE: 0 armed; 1 all acknowledgements of this package in; 2 COMMIT received. -/
def PealSlot.state (p : PealSlot) : Nat :=
  if p.verdicts.any (fun v => 12 ≤ v.1 && v.2) then 2 else if p.waiting = [] then 1 else 0

def State.pealInfo (s : State) (i : Nat) : Word :=
  let p := s.beat.slots.get i
  if p.valid then BitVec.ofNat 64 (1 + p.state * 2 + min p.change.kind 15 * 2 ^ 4 + p.seq % 2 ^ 16 * 2 ^ 8 +
    (if p.change.kind = 0 then p.ticket % 2 ^ 32 * 2 ^ 24 else 0))
  else 0

def State.pealTgt (s : State) (i : Nat) : Word :=
  let p := s.beat.slots.get i
  if p.valid then BitVec.ofNat 64 p.target else 0

/-! ## Instances (R38, R104, R202, R203, R348, R405, R417, R430) -/

def State.coreId (s : State) (c : Nat) : Word :=
  BitVec.ofNat 64 (c + dieOf c * 2 ^ 8 + localOf c * 2 ^ 12 + localOf c / 10 * 2 ^ 17 + s.pkg * 2 ^ 18)

/-- R202: what an arbiter serves, its host, and its requesters. -/
def arbKind (a : Nat) : Nat :=
  if a < 24 then 0 else if a < 40 then 1 else if a < 42 then 2 else if a < 50 then 3 else if a < 58 then 4 else if a < 60 then 5
  else if a < 62 then 6 else 7

def State.arbInfo (s : State) (a : Nat) : Word :=
  BitVec.ofNat 64 (a + s.arbNreq a * 2 ^ 8 + arbKind a * 2 ^ 16 + arbHost a * 2 ^ 20 + (hasReg a).toNat * 2 ^ 24)

def State.ringInfo (s : State) (r : Nat) : Word :=
  BitVec.ofNat 64 (r + s.ringOwner r * 2 ^ 8 + (decide (r % 4 < s.f (R.PART_INFO (r / 4)) F.PART_INFO_RINGS)).toNat * 2 ^ 12 +
    r % 4 / 2 * 2 ^ 16)

def State.csTok (s : State) (r : Nat) : Word :=
  let p := r / 4
  BitVec.ofNat 64 (s.crypto.capNow % 2 ^ 16 + (if s.cap7 = 0 then 0 else s.cryptoTokens p * s.crypto.capNow / s.cap7) % 2 ^ 16 * 2 ^ 16 +
    (BitVec.ofInt 32 (s.crypto.counts.get p)).toNat * 2 ^ 32)

/-! ## Error logs (R412, R417) -/

def Rec.src (r : Rec) (n : Nat) : Word :=
  BitVec.ofNat 64 (n % 2 ^ 16 + r.kind % 16 * 2 ^ 16 + r.unit % 256 * 2 ^ 20 + r.part % 16 * 2 ^ 28 + r.code % 2 ^ 12 * 2 ^ 32 +
    r.sev % 8 * 2 ^ 44 + r.addr.isSome.toNat * 2 ^ 47 + min r.count 0xFFFF * 2 ^ 48)

/-- The number of the record that slot i of a log with w records written holds. -/
def slotNumber (w i : Nat) : Nat := if w ≤ i then i else w - 1 - (w - 1 - i) % 120

/-- Word k (0 BEAT, 1 SRC, 2 ADDR, 3 DETAIL) of the record in slot i of log n; 0 where none stands there. -/
def State.elogWord (s : State) (n i k : Nat) : Word :=
  let l := s.err.logs.get n
  if l.written ≤ i then 0
  else
    let r := l.recs.get i
    match k with
    | 0 => BitVec.ofNat 64 r.beat
    | 1 => r.src (slotNumber l.written i)
    | 2 => BitVec.ofNat 64 (r.addr.getD 0)
    | _ => BitVec.ofNat 64 r.detail

def elogKind (n : Nat) : Nat := if n < 16 then 0 else if n = 16 then 1 else if n = 17 then 2 else 3
def elogScope (n : Nat) : Nat := if n < 16 then n else n - 18

/-! ## Partitions and dies (R295, R328) -/

/-- Bits [64k + 63 : 64k] of the cores a partition owns. -/
def State.partCores (s : State) (p k : Nat) : Word :=
  BitVec.ofNat 64 (maskOf (((List.range 64).filter fun b => 64 * k + b < 240 && s.corePart (64 * k + b) = p)))

def State.partCounts (s : State) (p : Nat) : Word :=
  let of (v : Nat) : Nat := countOf allCores fun c => s.corePart c = p && s.coreState c = v
  BitVec.ofNat 64 (of 2 * 2 ^ 4 + of 1 * 2 ^ 12 + of 3 * 2 ^ 20)

def State.dieCores (s : State) (d : Nat) : Word :=
  BitVec.ofNat 64 (sumOf ((List.range 20).map fun i => s.coreState (20 * d + i) * 2 ^ (8 + 2 * i)))

/-! ## The view of a register -/

/-- R203, R377: an offset of the layout that holds no register in this instance. -/
def State.absent (s : State) (b : Blk) (n rel : Nat) : Bool :=
  match b with
  | .arb => !hasReg n && 0x20 ≤ rel && rel < 0x80
  | .pcie =>
    if s.isSep n then 0x1000 ≤ rel && rel < 0x5000 && rel != 0x1000 && rel != 0x1030
    else 0x8000 ≤ rel
  | _ => false

/-- What HUB-B's end of the hub bridge shows in a link register (R295): the two ends move together, each with its own receivers; none for a register
that the ends share. -/
def State.endB (s : State) (rel : Nat) : Option Word :=
  let own := s.f (R.LINK_STAT 20) F.LINK_STAT_CAP
  let peer := s.f (R.LINK_STAT 20) F.LINK_STAT_PEER_CAP
  if rel = 0 then some (F.LINK_STAT_PEER_CAP.set (F.LINK_STAT_CAP.set (s.reg (R.LINK_STAT 20)) peer) own)
  else if rel = 8 then some (s.endMap 21)
  else if rel = 0x10 then some s.links.bridgeBad
  else if rel = 0x18 then some s.links.bridgeErr
  else if rel = 0x1008 then
    some (F.LT_STAT_PEER.set (s.reg (R.LT_STAT 20)) (if s.f (R.LT_STAT 20) F.LT_STAT_PEER_CONFIRM = 1 then min own peer else own))
  else if rel = 0x1010 then some (BitVec.ofNat 64 (s.links.txMap.get 20))
  else none

/-- What a read of the register at an offset of this package shows to a requester, all checks passed. -/
def State.view (s : State) (w : Who) (off : Nat) : Word :=
  match regAt off with
  | none => 0
  | some (b, n, ix, r) =>
    let i := ix.headD 0
    let own := s.reg (canonOff off)
    if s.absent b n (r.off + i * (r.idx.headD (0, 0)).1) then 0
    else match b, r.off with
    | .pkg, 0x0 => own ||| BitVec.ofNat 64 (s.pkg + Config.stepping.val * 2 ^ 16 + Config.grade28.toNat * 2 ^ 24)
    | .pkg, 0x10 => BitVec.ofNat 64 s.now
    | .pkg, 0x100 => s.pealTgt i
    | .pkg, 0x108 => s.pealInfo i
    | .pkg, 0x200 => digestWord (s.beat.hallmark.getD (s.whoHub w) 0) i
    | .die, 0x0 => BitVec.ofNat 64 (n + n / 6 * 2 ^ 4 + (n + 6) % 12 * 2 ^ 8)
    | .core, 0x0 => s.coreId n
    | .core, 0xC18 => intWord (s.presented n)
    | .mc, 0x0 => own ||| BitVec.ofNat 64 (n + hubOfChan n * 2 ^ 4)
    | .mc, 0x68 => own ||| BitVec.ofNat 64 (s.chanTokens n % 2 ^ 16)
    | .home, 0x0 => own ||| BitVec.ofNat 64 n
    | .home, 0x8 => own ||| BitVec.ofNat 64 (min (s.unsureCount n) (2 ^ 24 - 1) * 2 ^ 24)
    | .dl, 0x40 => own ||| s.dieCores n
    | .hb, rel => if s.whoHub w = 1 then (s.endB rel).getD own else own
    | .arb, 0x0 => s.arbInfo n
    | .pcie, 0x0 => own ||| BitVec.ofNat 64 (n + hubOfPort n * 2 ^ 3)
    | .part, 0x0 => own ||| BitVec.ofNat 64 n
    | .part, 0x8 => own ||| s.partCounts n
    | .part, 0x100 => s.partCores n i
    | .part, 0x200 => digestWord (s.sec.touchmarks.get n) i
    | .ring, 0x0 => s.ringInfo n
    | .ring, 0x38 => s.csTok n
    | .ring, 0x100 => Config.importPub i
    | .ring, 0x180 => Config.importSig i
    | .mb, 0x3000 => Config.attPub i
    | .mb, 0x3060 => Config.serial
    | .mb, 0x3080 => Config.endorse i
    | .elog, 0x0 => BitVec.ofNat 64 (n + elogKind n * 2 ^ 8 + elogScope n * 2 ^ 16 * (if elogKind n = 0 || elogKind n = 3 then 1 else 0) + 120 * 2 ^ 24)
    | .elog, 0x8 => BitVec.ofNat 64 ((s.err.logs.get n).written % 120 + (s.err.logs.get n).written % 2 ^ 32 * 2 ^ 32)
    | .elog, 0x10 => BitVec.ofNat 64 ((s.err.logs.get n).tail % 2 ^ 32)
    | .elog, 0x18 =>
      let l := s.err.logs.get n
      BitVec.ofNat 64 (l.lost + (decide (n = ELOG_GONG) && l.full).toNat * 2 ^ 16 + l.merged * 2 ^ 32)
    | .elog, 0x100 => s.elogWord n i 0
    | .elog, 0x108 => s.elogWord n i 1
    | .elog, 0x110 => s.elogWord n i 2
    | .elog, 0x118 => s.elogWord n i 3
    | .assay, 0x0 => BitVec.ofNat 64 (n + (decide (12 ≤ n)).toNat * 2 ^ 4)
    | _, _ => own

end Sys2Proof.Machine
end

