-- ==== Sys2Proof/Machine/Links.lean ====
section
/-! DEFINITION. The commands of chapter 10 on laser tiles, link training, lane checks and replays. -/

namespace Sys2Proof.Machine

/-- LASER_POWER_LOSS (R269, R270). -/
def execLaserPowerLoss (t : Fin 4) (s : State) : Out := .next (s.laserLoss t.val)

/-- LASER_SWITCH_DONE (R269): the pause of a half ends, and what waited for it leaves. -/
def execLaserSwitchDone (half : Fin 2) (s : State) : Out :=
  .next (s.onLinks fun k => { k with pause := k.pause.filter fun h => h != half.val }).transitKick

/-- LT_CTL.GO with STEP 1 (R272). -/
def execLtLight (who : Sender) (link : Fin 21) (v : Word) (s : State) : Out := .next (s.ltCtlWrite who.who link.val (ltWord 1 v))

/-- LT_CTL.GO with STEP 2 (R272). -/
def execLtLock (who : Sender) (link : Fin 21) (v : Word) (s : State) : Out := .next (s.ltCtlWrite who.who link.val (ltWord 2 v))

/-- LT_CTL.GO with STEP 3 (R272). -/
def execLtAdvertise (who : Sender) (link : Fin 21) (v : Word) (s : State) : Out := .next (s.ltCtlWrite who.who link.val (ltWord 3 v))

/-- LT_CTL.GO with STEP 4 (R272). -/
def execLtConfirm (who : Sender) (link : Fin 21) (v : Word) (s : State) : Out := .next (s.ltCtlWrite who.who link.val (ltWord 4 v))

/-- LT_STEP_DONE (R272, R273). -/
def execLtStepDone (link : Fin 21) (good : Word) (peer : Nat) (peerConfirm fail : Bool) (delay : Nat) (s : State) : Out :=
  .next (s.stepEnd link.val good.toNat peer peerConfirm fail delay)

/-- LANE_CHECK_FAIL (R275). -/
def execLaneCheckFail (link : Fin 22) (wave : Fin 64) (s : State) : Out := .next (s.laneFail link.val wave.val)

/-- LANE_MAP_OUT (R275). -/
def execLaneMapOut (link : Fin 22) (wave : Fin 64) (s : State) : Out := .next (s.laneOutOp link.val wave.val)

/-- LINK_LIGHT_LOSS (R275). -/
def execLinkLightLoss (link : Fin 21) (s : State) : Out := .next (s.lightLoss link.val)

/-- LINK_CRC_ERROR (R185, R275). -/
def execLinkCrcError (link : Nat) (payload : BitVec 608) (crc : BitVec 32) (s : State) : Out :=
  .next (s.crcOp link payload crc)

end Sys2Proof.Machine
end

