-- ==== Sys2Proof/Machine/Memory.lean ====
section
/-! DEFINITION. The commands of chapter 09: memory channels, page code, parity cache, restripe, ranks, scrubber, training
helpers, initialisation and channel failure. -/

namespace Sys2Proof.Machine

/-- DRAM_READ (R244). -/
def execDramRead (ch : Chan) (s : State) : Out := .next ((s.cmdDone ch.val).dramReadOp ch.val)

/-- MEM_DEV_OUT (R245): a device at the threshold is mapped out, one per subchannel and rank. -/
def execMemDevOut (ch : Chan) (rank : Fin 4) (sub : Fin 2) (dev : Fin 10) (s : State) : Out :=
  let th := s.f (R.MC_PD_CTL ch.val) F.MC_PD_CTL_DEV_THRESH
  .next (when (th != 0 && th ≤ s.dram.devCnt.get (devKey ch.val rank.val sub.val dev.val))
    (fun s => s.mapOutDev ch.val rank.val sub.val dev.val) s)

/-- MEM_PAGE_REBUILD (R249, R250). -/
def execMemPageRebuild (ch : Chan) (s : State) : Out := .next (s.rebuildOp ch.val)

/-- DRAM_WRITE (R252, R253). -/
def execDramWrite (ch : Chan) (s : State) : Out := .next ((s.cmdDone ch.val).dramWriteOp ch.val)

/-- PAGE_LOCK_RELEASE (R251). -/
def execPageLockRelease (ch : Chan) (page : Nat) (s : State) : Out := .next (s.unlockOp ch.val page)

/-- A parity-cache ECC error (R254). -/
def execParityCacheError (h : Hub) (set : Fin 1024) (way : Fin 16) (correctable : Bool) (s : State) : Out :=
  .next (s.parityErrorOp h.val set.val way.val correctable)

/-- RESTRIPE_PAGE (R255). -/
def execRestripePage (s : State) : Out := .next s.restripeOp

/-- RANK_POWER_DOWN (R259). -/
def execRankPowerDown (ch : Chan) (rank : Fin 4) (s : State) : Out := .next (s.powerDownOp ch.val rank.val)

/-- RANK_REFRESH (R259). -/
def execRankRefresh (ch : Chan) (rank : Fin 4) (s : State) : Out := .next (s.refreshRank ch.val rank.val)

/-- RANK_CALIBRATION (R259). -/
def execRankCalibration (ch : Chan) (rank : Fin 4) (s : State) : Out := .next (s.calRank ch.val rank.val)

/-- SCRUB_READ (R261, R262). -/
def execScrubRead (ch : Chan) (s : State) : Out := .next (s.scrubOp ch.val)

/-- A write to TRN_CTL with GO and OP 0 (R263). -/
def execTrnWritePattern (who : Sender) (ch : Chan) (v : Word) (s : State) : Out := .next (s.trnCtlWrite who.who ch.val (trnWord 0 v))

/-- A write to TRN_CTL with GO and OP 1 (R263). -/
def execTrnReadCompare (who : Sender) (ch : Chan) (v : Word) (s : State) : Out := .next (s.trnCtlWrite who.who ch.val (trnWord 1 v))

/-- A write to TRN_CTL with GO and OP 2 (R263). -/
def execTrnWriteReadCompare (who : Sender) (ch : Chan) (v : Word) (s : State) : Out :=
  .next (s.trnCtlWrite who.who ch.val (trnWord 2 v))

/-- TRN_DONE (R263): badLines are the lines that compared unequal. -/
def execTrnDone (ch : Chan) (badLines : List Nat) (lanes : BitVec 40) (strobe : BitVec 2) (s : State) : Out :=
  .next (s.trnDoneOp ch.val badLines.length lanes.toNat strobe.toNat)

/-- CHANNEL_INIT_DONE (R265): every line of the channel is 64 zero stored bytes with their check bytes, which are 0. -/
def execChannelInitDone (ch : Chan) (s : State) : Out :=
  .next (s.chanInit ch.val)

/-- CA_PARITY_ERROR (R266). -/
def execCaParityError (ch : Chan) (s : State) : Out := .next (s.caParityOp ch.val)

/-- MODULE_NOT_ANSWERING (R266): a module stops answering. -/
def execModuleNotAnswering (ch : Chan) (s : State) : Out :=
  .next (when (s.chState ch.val != CH_ABSENT && s.chState ch.val != CH_UNTRAINED) (fun s => s.chanFail ch.val) s)

/-- MODULE_TEMPERATURE (R267, HOT): a module reports above 85 degrees, or no longer does. -/
def execModuleTemperature (ch : Chan) (hot : Bool) (s : State) : Out :=
  .next (s.setF (R.MC_STAT ch.val) F.MC_STAT_HOT hot.toNat)

end Sys2Proof.Machine
end

