-- ==== Sys2Proof/Machine/Partitions.lean ====
section
/-! DEFINITION. The commands of chapter 11: transfers, tickets, officer commands, attestation and the management bus. -/

namespace Sys2Proof.Machine

def execRegionTransferDone (agree : Bool) (s : State) : Out := .next (s.comparing agree State.xfersDone)

def execImageUpdateDone (ok : Bool) (s : State) : Out := .next (s.updateDone ok)

def execPartStartCopyDone (p : Part) (s : State) : Out := .next (s.copyDone p.val)

def execAttGo (who : Sender) (sl : Slot) (s : State) : Out := .next (s.attGo who.who sl.val 1)

def execAttReportDone (sl : Slot) (agree : Bool) (s : State) : Out := .next (s.attDone sl.val agree)

/-- The value of SLOT_CTL that carries a command and a length. -/
def slotWord (cmd len : Nat) : Word := BitVec.ofNat 64 (cmd + 16 * len)

def execSlotSubmitTicket (who : Sender) (sl : Slot) (len : Fin 4096) (s : State) : Out :=
  .next (s.slotCtlOp who.who sl.val (slotWord 1 len.val))

def execSlotSubmitCommand (who : Sender) (sl : Slot) (len : Fin 4096) (s : State) : Out :=
  .next (s.slotCtlOp who.who sl.val (slotWord 2 len.val))

def execSlotClear (who : Sender) (sl : Slot) (len : Fin 4096) (s : State) : Out :=
  .next (s.slotCtlOp who.who sl.val (slotWord 3 len.val))

def execTicketVetted (sl : Slot) (agree : Bool) (s : State) : Out := .next (s.slotVetted sl.val agree)

def execTicketAtMaster (src : Pkg) (sl : Slot) (bytes : List Byte) (s : State) : Out := .next (s.fromPkg src.val fun s => s.ticketIn src.val sl.val bytes)

def execTicketRemoteVet (src : Pkg) (bytes : List Byte) (agree : Bool) (s : State) : Out := .next (s.fromPkg src.val fun s => s.remoteVet src.val bytes agree)

def execTicketVetResult (src : Pkg) (sl : Option Slot) (code : Nat) (s : State) : Out :=
  .next (s.fromPkg src.val fun s => s.vetResult src.val (sl.map (·.val)) code)

def execTicketVetTimeout (s : State) : Out := .next s.vetTimeout

def execOfficerCmdRest (sl : Slot) (s : State) : Out := .next (s.cmdRest sl.val)

def execOfficerCmdAssay (sl : Slot) (s : State) : Out := .next (s.cmdAssay sl.val)

def execMgmtSetOffset (addr : Fin 128) (v : BitVec 16) (pec : Option Bool) (s : State) : Out :=
  .next (s.busOffset addr.val v.toNat pec)

def execMgmtBufferWrite (addr : Fin 128) (bytes : List Byte) (pec : Option Bool) (s : State) : Out :=
  .next (s.busBuffer addr.val bytes pec)

def execMgmtSlotCmd (addr : Fin 128) (v : Byte) (pec : Option Bool) (s : State) : Out := .next (s.busCommand addr.val v.toNat pec)

def execMgmtReadSlotStat (addr : Fin 128) (s : State) : Out := .next (s.busSlotStat addr.val)

def execMgmtReadLastTicket (addr : Fin 128) (s : State) : Out := .next (s.busLast addr.val)

def execMgmtReadRestStat (addr : Fin 128) (s : State) : Out := .next (s.busRest addr.val)

end Sys2Proof.Machine
end

