-- ==== Sys2Proof/Machine/Pcie.lean ====
section
/-! DEFINITION. The commands of chapter 13 on root ports and the Service Endpoint; the host's access to a BAR stands in HostAccess.lean. -/

namespace Sys2Proof.Machine

/-! ## Completions (R360, R361) -/

def execPcieCompletion (k : Fin 32) (tag : Fin 1024) (status : Fin 8) (data : Line) (s : State) : Out :=
  .next (s.cplIn k.val tag.val status.val data)

def execPcieCplTimeout (k : Fin 32) (tag : Fin 1024) (s : State) : Out := .next (s.cplLate k.val tag.val)

def execTagQuarantineEnd (k : Fin 32) (tag : Fin 1024) (s : State) : Out := .next (s.tagFree k.val tag.val)

/-! ## Configuration requests (R354, R355) -/

def execCfgRead (who : Sender) (k : Fin 32) (s : State) : Out :=
  .next (s.csGuard who.who (R.CFG_DATA (k.val / 4) (k.val % 4)) 8 none fun s => s.cfgAccess k.val who.who none)

def execCfgWrite (who : Sender) (k : Fin 32) (v : BitVec 32) (s : State) : Out :=
  .next (s.csGuard who.who (R.CFG_DATA (k.val / 4) (k.val % 4)) 8 (some (v.setWidth 64)) fun s => s.cfgAccess k.val who.who (some v))

def execCfgRrsRetry (k : Fin 32) (s : State) : Out := .next (s.cfgAgain k.val)

/-! ## Devices (R356 to R359) -/

def execPcieMemoryRead (k : Fin 32) (bus : Byte) (addr : Word) (len tag : Nat) (s : State) : Out :=
  .next (s.devRead k.val bus.toNat addr.toNat len tag)

def execPcieMemoryWrite (k : Fin 32) (bus : Byte) (addr : Word) (bytes : List Byte) (poisoned : Bool) (s : State) : Out :=
  .next (s.devWrite k.val bus.toNat addr.toNat bytes poisoned)

/-- op: 0 FetchAdd, 1 Swap, 2 CAS. -/
def execPcieAtomicop (k : Fin 32) (bus : Byte) (addr : Word) (op : Fin 3) (size : Nat) (arg arg2 : Word) (tag : Nat) (s : State) : Out :=
  .next (s.devAtomic k.val bus.toNat addr.toNat op.val size arg arg2 tag)

def execPcieMsi (k : Fin 32) (addr : Word) (bytes : List Byte) (s : State) : Out := .next (s.devMsi k.val addr.toNat bytes)

def execPcieErrMsg (k : Fin 32) (reqId : BitVec 16) (sev : Fin 3) (s : State) : Out := .next (s.devErr k.val reqId.toNat sev.val)

def execPcieIntx (k : Fin 32) (_ : BitVec 16) (s : State) : Out := .next (s.devIntx k.val)

/-! ## Links, resets, slots (R362, R364 to R366) -/

def execPcieLinkDown (k : Fin 32) (state : Fin 3) (s : State) : Out := .next (s.linkDownK k.val state.val)

def execPcieLinkUp (k : Fin 32) (speed : Fin 8) (width : Fin 32) (flit : Bool) (s : State) : Out :=
  .next (s.linkUpK k.val speed.val width.val flit)

def execPcieRecoveryEntry (k : Fin 32) (s : State) : Out := .next (s.recoverIn k.val)

def execPcieRecoveryExit (k : Fin 32) (s : State) : Out := .next (s.recoverOut k.val)

def execSegCtlWrite (who : Sender) (k : Fin 32) (v : Word) (s : State) : Out := .next (s.segCtlOp who.who k.val v)

def execSegHotReset (who : Sender) (k : Fin 32) (v : Word) (s : State) : Out :=
  .next (s.segCtlOp who.who k.val (F.SEG_CTL_HOT_RESET.set v 1))

def execHotResetEnd (k : Fin 32) (s : State) : Out := .next (s.hotResetOver k.val)

def execPerstHoldExpiry (k : Fin 32) (s : State) : Out := .next (s.perstHoldOver k.val)

def execSlotPowerOn (who : Sender) (k : Fin 32) (v : Word) (s : State) : Out := .next (s.hpCtlOp who.who k.val (F.HP_CTL_PWR.set v 1))

def execSlotPowerOff (who : Sender) (k : Fin 32) (v : Word) (s : State) : Out := .next (s.hpCtlOp who.who k.val (F.HP_CTL_PWR.set v 0))

def execSlotPwrgdTimeout (k : Fin 32) (s : State) : Out := .next (s.pwrgdLate k.val)

def execSlotPerstRelease (k : Fin 32) (s : State) : Out := .next (s.slotRelease k.val)

def execSlotPwrenDrop (k : Fin 32) (s : State) : Out := .next (s.pwrenDrop k.val)

def execSlotPresenceChange (k : Fin 32) (present : Bool) (s : State) : Out := .next (s.slotPresence k.val present)

def execSlotPwrgdFall (k : Fin 32) (s : State) : Out := .next (s.pwrgdFall k.val)

def execSlotButton (k : Fin 32) (s : State) : Out := .next (s.slotPress k.val)

/-! ## The Service Endpoint (R372 to R375). The ports with one are P3 and P7. -/

def sepPort (i : Nat) : Nat := if i = 0 then 3 else 7

def execSepHostDb (port : Fin 2) (f : Fin 8) (v : BitVec 32) (s : State) : Out := .next (s.hostDb (sepPort port.val) f.val v)

def execSepHostInt (who : Sender) (port : Fin 2) (f : Fin 8) (v : BitVec 4) (s : State) : Out :=
  .next (s.hostIntOp who.who (sepPort port.val) f.val (v.setWidth 64))

def execSepCopyGo (who : Sender) (port : Fin 2) (f : Fin 8) (v : Word) (s : State) : Out :=
  .next (s.copyCtl who.who (sepPort port.val) f.val (F.SEP_DMA_CTL_GO.set v 1))

def execSepCopyDone (port : Fin 2) (f : Fin 8) (code : Fin 5) (s : State) : Out :=
  .next (s.copyOver (sepPort port.val) f.val code.val)

def execSepBmeClear (port : Fin 2) (f : Fin 8) (s : State) : Out := .next (s.bmeClear (sepPort port.val) f.val)

def execSepFlr (port : Fin 2) (f : Fin 8) (s : State) : Out := .next (s.flr (sepPort port.val) f.val)

def execSepFlrDone (port : Fin 2) (f : Fin 8) (s : State) : Out := .next (s.flrDone (sepPort port.val) f.val)

/-- linkDown: the link went down; else the host asserts PERST_N. -/
def execSepHostPerst (port : Fin 2) (linkDown : Bool) (s : State) : Out :=
  .next (if !s.isSep (sepPort port.val) then s
    else if linkDown then (if s.linkOff (sepSeg (sepPort port.val)) then s else s.sepDown (sepPort port.val) L_DETECT)
    else (s.sepDown (sepPort port.val) L_DISABLED).setF (rStat (sepSeg (sepPort port.val))) F.SEG_STAT_PERST 1)

def execSepHostPerstRelease (port : Fin 2) (s : State) : Out :=
  let k := sepSeg (sepPort port.val)
  .next (if !s.locked && s.isSep (sepPort port.val) && s.ltssm k = L_DISABLED then
    (s.setF (rStat k) F.SEG_STAT_PERST 0).setF (rStat k) F.SEG_STAT_LTSSM L_DETECT else s)

def execSepHostConfig (port : Fin 2) (f : Fin 8) (reg : Nat) (wr : Option (BitVec 32)) (s : State) : Out :=
  .next (s.hostCfg (sepPort port.val) f.val reg wr)

end Sys2Proof.Machine
end

