-- ==== Sys2Proof/Machine/System.lean ====
section
/-! DEFINITION. The commands of chapter 10 on the system of packages: hellos, founding, joining, sockets, planned leave, loss. -/

namespace Sys2Proof.Machine

/-! ## Forming the system -/

def execHelloReceived (p : FabPort) (word : Word) (s : State) : Out := .next (s.helloIn p.val word)

def execSystemFound (s : State) : Out := .next s.found

def execJoinRequest (src : Pkg) (h0 : Digest) (s : State) : Out := .next (s.fromPkg src.val fun s => s.joinReq src.val h0)

def execJoinLogDone (src : Pkg) (hallmark : Digest) (s : State) : Out := .next (s.fromPkg src.val fun s => s.joinLog src.val hallmark)

def execJoinRetry (s : State) : Out := .next s.joinAgain

/-! ## Sockets (R289) -/

/-- PRESENT: power the socket. -/
def State.sktOn (s : State) (i : Nat) : State :=
  if s.isSponsor && s.sktState i = SK_PRESENT then ((s.setSkt i SK_POWERING).pwrEn i true).blink i else s

/-- ADMITTED: start the planned leave of the socket's package. Where the master refuses it the socket stays ADMITTED (R290). -/
def State.sktLeave (s : State) (i : Nat) : State :=
  if s.isSponsor && s.sktState i = SK_ADMITTED then
    let s := ((s.setSkt i SK_LEAVING).blink i).leaveAsk i
    match s.socketPkg i with
    | some p => if s.isMaster && !(s.links.leave.any fun e => e.1 = p) then s.sktStay p else s
    | none => s
  else s

def State.sktGone (s : State) (i : Nat) : Nat := if s.f (R.SKT_STAT i) F.SKT_STAT_PRSNT = 1 then SK_PRESENT else SK_EMPTY

/-- CMD 3, or a press in FAULT or DETACHED. -/
def State.sktOff (s : State) (i : Nat) : State :=
  let st := s.sktState i
  if s.isSponsor && (st = SK_FAULT || st = SK_DETACHED || st = SK_PRESENT || st = SK_BOOTING) then
    (s.pwrEn i false).setSkt i (s.sktGone i)
  else s

/-- A socket command at this package: the sponsor acts; any other package forwards it to its board's sponsor. -/
def State.sktCmd (s : State) (i cmd : Nat) : State :=
  if cmd = 0 then s
  else match s.sponsorPkg with
    | none => s
    | some q =>
      if q != s.pkg then s.send (.socket q i cmd)
      else if cmd = 1 then s.sktOn i else if cmd = 2 then s.sktLeave i else s.sktOff i

/-- A write to SKT_CTL. -/
def State.sktCtlOp (s : State) (w : Who) (i : Nat) (v : Word) : State :=
  s.csGuard w (R.SKT_CTL i) 8 (some v) fun s =>
    ((s.setF (R.SKT_CTL i) F.SKT_CTL_BUTTON_EN (F.SKT_CTL_BUTTON_EN.get v)).sktCmd i (F.SKT_CTL_CMD.get v)).whoReply w 0

/-- The word that writes a command and leaves BUTTON_EN as it is. -/
def State.sktWord (s : State) (i cmd : Nat) : Word := F.SKT_CTL_CMD.set (s.reg (R.SKT_CTL i)) cmd

def execSktPowerOn (who : Sender) (i : Fin 4) (s : State) : Out := .next (s.sktCtlOp who.who i.val (s.sktWord i.val 1))

def execSktLeave (who : Sender) (i : Fin 4) (s : State) : Out := .next (s.sktCtlOp who.who i.val (s.sktWord i.val 2))

def execSktPowerOff (who : Sender) (i : Fin 4) (s : State) : Out := .next (s.sktCtlOp who.who i.val (s.sktWord i.val 3))

/-- An admitted package whose socket has lost its module or its power is suspected lost (R292). -/
def State.sktSuspect (s : State) (i : Nat) : State :=
  match s.socketPkg i with
  | some p => if s.isSponsor then s.suspect p else s
  | none => s

def State.presence (s : State) (i : Nat) (here : Bool) : State :=
  if (s.f (R.SKT_STAT i) F.SKT_STAT_PRSNT = 1) = here then s
  else
    let s := (s.setF (R.SKT_STAT i) F.SKT_STAT_PRSNT here.toNat).sktEvent i F.SKT_STAT_PRSNT_CHANGE
    if !s.isSponsor then (if here then s else s.pwrEn i false)
    else if here then (if s.sktState i = SK_EMPTY then s.setSkt i SK_PRESENT else s)
    else ((s.pwrEn i false).setSkt i SK_EMPTY).sktSuspect i

def execSocketPresence (i : Fin 4) (present : Bool) (s : State) : Out := .next (s.presence i.val present)

/-- A press of at least 20 ms. -/
def State.button (s : State) (i : Nat) : State :=
  let s := s.sktEvent i F.SKT_STAT_BUTTON
  let st := s.sktState i
  if s.f (R.SKT_CTL i) F.SKT_CTL_BUTTON_EN = 0 then s
  else if st = SK_FAULT || st = SK_DETACHED then s.sktOff i
  else (s.sktOn i).sktLeave i

def execSocketButton (i : Fin 4) (s : State) : Out := .next (s.button i.val)

def State.pwrGood (s : State) (i : Nat) : State :=
  let s := s.setF (R.SKT_STAT i) F.SKT_STAT_PWR_GOOD 1
  if !s.isSponsor then s.pwrEn i s.sponsorPkg.isSome
  else if s.sktState i = SK_POWERING then s.setSkt i SK_BOOTING else s

def execSocketPwrGood (i : Fin 4) (s : State) : Out := .next (s.pwrGood i.val)

/-- The socket is at fault: its power drops. -/
def State.sktFault (s : State) (i : Nat) : State := ((s.pwrEn i false).sktEvent i F.SKT_STAT_PWR_FAULT).setSkt i SK_FAULT

def State.pwrGoodFall (s : State) (i : Nat) : State :=
  if s.f (R.SKT_STAT i) F.SKT_STAT_PWR_GOOD = 0 then s
  else
    let s := s.setF (R.SKT_STAT i) F.SKT_STAT_PWR_GOOD 0
    if !s.isSponsor then s.pwrEn i false
    else if s.f (R.SKT_STAT i) F.SKT_STAT_PWR_EN = 1 then (s.sktFault i).sktSuspect i else s

def execSocketPwrGoodFall (i : Fin 4) (s : State) : Out := .next (s.pwrGoodFall i.val)

def State.pwrTimeout (s : State) (i : Nat) : State :=
  if s.isSponsor && s.sktState i = SK_POWERING then (s.sktFault i).led i true else s

def execSocketPowerTimeout (i : Fin 4) (s : State) : Out := .next (s.pwrTimeout i.val)

/-! ## Planned leave and loss -/

def execLeaveDrained (src : Pkg) (s : State) : Out := .next (s.fromPkg src.val fun s => s.leaveReady src.val)

/-- One beat after the detach. -/
def State.dropEn (s : State) (i : Nat) : State :=
  if s.links.pwrEnDrop.any fun e => e.1 = i && e.2 ≤ s.now then
    (s.onLinks fun k => { k with pwrEnDrop := k.pwrEnDrop.filter fun e => e.1 != i }).pwrEn i false
  else s

def execSocketPwrEnDrop (i : Fin 4) (s : State) : Out := .next (s.dropEn i.val)

/-- No admitted package has received a marker from src for 16 beats. -/
def State.markerTimeout (s : State) (p : Nat) : State := if 16 ≤ s.links.lastMarker.get p then s.suspect p else s

def execPkgMarkerTimeout (src : Pkg) (s : State) : Out := .next (s.markerTimeout src.val)

/-- A report reaches the package that declares. -/
def State.lostReport (s : State) (p : Nat) : State :=
  if s.admitted.contains p && s.admitted.contains s.pkg then s.onLinks fun k => { k with suspects := addOnce k.suspects p } else s

def execPkgLostReport (src : Pkg) (s : State) : Out := .next (s.ifHeard fun s => s.lostReport src.val)

/-- The declaration of R293 arrives: package src is lost, or (from 8 up) the remaining set lacks quorum, and src - 8 is the lowest package it
would have lost. -/
def State.lostIn (s : State) (src beat : Nat) : State :=
  s.ifHeard fun s =>
    if src < 8 then s.lostApply src beat
    else if s.admitted.contains s.pkg && !s.beat.selfFenced then s.selfFence E.PKG_QUORUM_LOST 14 (src - 8) else s

def execPkgLostReceived (src : Fin 16) (beat : Nat) (s : State) : Out := .next (s.lostIn src.val beat)

/-- At L + 64 the sponsor drops PWR_EN of the lost package's socket if it is still driven. -/
def State.lostDrop (s : State) (p : Nat) : State :=
  match s.socketOf p with
  | some i => if 0 < s.links.lostAt.get p && s.links.lostAt.get p + 63 ≤ s.now then s.pwrEn i false else s
  | none => s

def execPkgLostPwrEnDrop (src : Pkg) (s : State) : Out := .next (s.lostDrop src.val)

end Sys2Proof.Machine
end

