-- ==== Sys2Proof/Machine/Translation.lean ====
section
/-! DEFINITION. The commands of chapter 06 on XLAT_CTL, XLAT_BASE and invalidation; the walkers' commands, which end in an
access, stand in Machine/Access.lean. -/

namespace Sys2Proof.Machine

/-- A write to a translation register of its own core; from any other it fails with XLATE_REMOTE (R173). -/
def State.xlatGuard (s : State) (w : Who) (c off : Nat) (v : Word) (act : State → Nat → State) : State :=
  s.csGuard w off 8 (some v) fun s =>
    match s.ownBlk w c with
    | some k => act s k
    | none => s.csFail w E.XLATE_REMOTE (servingUnit .core c) off

/-- XLAT_CTL: it acts on both members of a pair (R171). -/
def State.xlatCtlOp (s : State) (w : Who) (c : Nat) (v : Word) : State :=
  s.xlatGuard w c (R.XLAT_CTL c) v fun s k =>
    (each (s.blkCores k) (fun s k => s.setF (R.XLAT_CTL k) F.XLAT_CTL_EN (v.toNat % 2)) s).whoReply w 0

def execXlatCtlWrite (who : Sender) (c : Core) (en : Bool) (s : State) : Out :=
  .next (s.xlatCtlOp who.who c.val (BitVec.ofNat 64 en.toNat))

/-- XLAT_BASE. -/
def State.xlatBaseOp (s : State) (w : Who) (c : Nat) (v : Word) : State :=
  s.xlatGuard w c (R.XLAT_BASE c) v fun s k =>
    (each (s.blkCores k) (fun s k => s.plainWrite (R.XLAT_BASE k) v (s.whoPart w)) s).whoReply w 0

def execXlatBaseWrite (who : Sender) (c : Core) (v : Word) (s : State) : Out := .next (s.xlatBaseOp who.who c.val v)

/-- TLBI_ISSUE (R166): OP 0 is ignored; OP 5 to 7 or a reserved bit sets BAD. -/
def State.tlbiWrite (s : State) (w : Who) (c : Nat) (v : Word) : State :=
  s.xlatGuard w c (R.TLBI_ISSUE c) v fun s k =>
    let op := F.TLBI_ISSUE_OP.get v
    if bits v 60 4 != 0 || 5 ≤ op then
      (each (s.blkCores k) (fun s k => s.setF (R.TLBI_STAT k) F.TLBI_STAT_BAD 1) s).whoReply w 0
    else if op = 0 then s.whoReply w 0
    else s.tlbiIssue k op (F.TLBI_ISSUE_VA.get v * 4096) (F.TLBI_ISSUE_ASID.get v) (F.TLBI_ISSUE_LOCAL.get v = 1)

def tlbiWord (op va asid : Nat) (loc : Bool) : Word := BitVec.ofNat 64 (op + loc.toNat * 8 + asid * 16 + va * 2 ^ 20)

def execTlbiByVaAsid (who : Sender) (c : Core) (va : Fin (2 ^ 40)) (asid : BitVec 16) (loc : Bool) (s : State) : Out :=
  .next (s.tlbiWrite who.who c.val (tlbiWord 1 va.val asid.toNat loc))

def execTlbiByVa (who : Sender) (c : Core) (va : Fin (2 ^ 40)) (loc : Bool) (s : State) : Out :=
  .next (s.tlbiWrite who.who c.val (tlbiWord 2 va.val 0 loc))

def execTlbiByAsid (who : Sender) (c : Core) (asid : BitVec 16) (loc : Bool) (s : State) : Out :=
  .next (s.tlbiWrite who.who c.val (tlbiWord 3 0 asid.toNat loc))

def execTlbiAll (who : Sender) (c : Core) (loc : Bool) (s : State) : Out :=
  .next (s.tlbiWrite who.who c.val (tlbiWord 4 0 0 loc))

/-- An invalidation reaches core c of package pkg (R168): a core of another package says that it has applied one of ours; a
core of this package applies it, and acknowledges once the accesses that used a removed entry are performed. -/
def State.tlbiApplyOp (s : State) (pkg c srcPkg src op va asid p : Nat) : State :=
  if pkg != s.pkg then if srcPkg = s.pkg then s.tlbiAck src op va asid pkg c else s
  else
    let m : Msg := .tlbi s.pkg c op va asid p
    if srcPkg = s.pkg && !s.sent.contains m then s
    else if !s.alive c || s.corePart c != p then
      let s := s.take m
      if srcPkg = s.pkg then s else s.send (.remote srcPkg src 5 0)
    else if s.paired p c && srcPkg != s.pkg then s.tlbiDeliver c op va asid p srcPkg src
    else
      let s := s.tlbiLocal c op va asid p
      if s.tlbiBusy c op va then s else (s.take m).tlbiDo c op va asid p srcPkg src

def execTlbiApply (pkg : Pkg) (c : Core) (srcPkg : Pkg) (src : Core) (op : Fin 8) (va : Fin (2 ^ 40)) (asid : BitVec 16)
    (p : Part) (s : State) : Out :=
  .next (s.fromPkg srcPkg.val fun s => s.tlbiApplyOp pkg.val c.val srcPkg.val src.val op.val (va.val * 4096) asid.toNat p.val)

/-- Nothing that core c issued is outstanding. -/
def State.tlbiQuiet (s : State) (c : Nat) : Bool := s.tlbisOf c = [] && (s.coreH c).tlbiStall = []

/-- TLBI_SYNC (R169): the write completes when every earlier invalidation has been applied. -/
def State.tlbiSyncOp (s : State) (w : Who) (c : Nat) (v : Word) : State :=
  s.xlatGuard w c (R.TLBI_SYNC c) v fun s k =>
    if v.toNat % 2 = 0 || s.tlbiQuiet k then s.whoReply w 0
    else (s.updCoreH k fun h => { h with syncWait := true }).whoReply w 3

def execTlbiSync (who : Sender) (c : Core) (s : State) : Out := .next (s.tlbiSyncOp who.who c.val 1)

/-- The sync of core c ends. -/
def State.tlbiSyncEnd (s : State) (c : Nat) : State :=
  if (s.coreH c).syncWait && s.tlbiQuiet c then (s.updCoreH c fun h => { h with syncWait := false }).coreReply c 0 else s

def execTlbiSyncDone (c : Core) (s : State) : Out := .next (s.tlbiSyncEnd c.val)

end Sys2Proof.Machine
end

