-- ==== Sys2Proof/Machine/ControlSpace.lean ====
section
/-! DEFINITION. Reads and writes of Control Space registers of this package by any requester: the register's own effect where its
chapter gives one, else R17 and R18. -/

namespace Sys2Proof.Machine

/-! ## Registers whose write has an effect of its own -/

/-- A permitted write of ELOG_TAIL (R417): v lies from WRITTEN - 120 to WRITTEN modulo 2^32, and from 0 while fewer are stored. -/
def ELog.setTail (l : ELog) (v : Nat) : ELog :=
  let d := (l.written % 2 ^ 32 + 2 ^ 32 - v % 2 ^ 32) % 2 ^ 32
  if d ≤ min 120 l.written then { l with tail := l.written - d } else l

def State.elogTailOp (s : State) (w : Who) (n v : Nat) : State :=
  s.csGuard w (R.ELOG_TAIL n) 8 (some (BitVec.ofNat 64 v)) fun s =>
    (s.onErr fun e => { e with logs := e.logs.upd n fun l => l.setTail v }).whoReply w 0

/-- A register without an effect of its own takes each field by its type. Both members of a twin pair hold INT_CTL alike. -/
def State.plainOp (s : State) (w : Who) (off : Nat) (v : Word) : State :=
  s.csGuard w off 8 (some v) fun s =>
    let p := s.whoPart w
    (match regAt off with
    | some (b, n, ix, r) =>
      if s.absent b n (r.off + ix.headD 0 * (r.idx.headD (0, 0)).1) then s
      else match b, r.off with
        | .core, 0xC00 => each (s.blkCores n) (fun s k => s.plainWrite (R.INT_CTL k) v p) s
        | .ring, 0x8 => if s.f (R.RING_CTL n) F.RING_CTL_EN = 1 then s else s.plainWrite off v p
        | _, _ => s.plainWrite off v p
    | none => s).whoReply w 0

/-- A write to a register of this package; user: the privilege level of a core's write (R139). -/
def State.csStore (s : State) (w : Who) (off size : Nat) (v : Word) (user : Bool := false) : State :=
  if size != 8 || off % 8 != 0 then s.csGuard w off size (some v) id
  else match regAt off with
  | none => s.plainOp w off v
  | some (b, n, ix, r) =>
    let i := ix.headD 0
    let k := 4 * n + i
    if s.absent b n (r.off + i * (r.idx.headD (0, 0)).1) then s.plainOp w off v
    else match b, r.off with
    | .die, 0x10 => s.plReqOp w n 0 v
    | .die, 0x18 => s.plReqOp w n 1 v
    | .die, 0x8000 => s.dcCtlOp w n v
    | .core, 0x8 => s.coreCtlOp w n v
    | .core, 0x800 => s.l1CtlOp w n v
    | .core, 0x808 =>
      s.cmoIssue w n (F.CMO_ISSUE_OP.get v) (F.CMO_ISSUE_BY.get v) (F.CMO_ISSUE_LEVEL.get v) (F.CMO_ISSUE_ADDR.get v) user
    | .core, 0x900 => s.xlatCtlOp w n v
    | .core, 0x908 => s.xlatBaseOp w n v
    | .core, 0x910 => s.tlbiWrite w n v
    | .core, 0x918 => s.tlbiSyncOp w n v
    | .core, 0xC10 => s.intEoiOp w n v
    | .core, 0xC20 => s.intIpiOp w n v
    | .mc, 0x1000 => s.trnCtlWrite w n v
    | .home, 0x218 => s.lineClearOp w n (F.LINE_CLEAR_PA.get v)
    | .pcie, 0x1008 => s.segCtlOp w k v
    | .pcie, 0x1010 => s.hpCtlOp w k v
    | .pcie, 0x1028 => s.csGuard w off 8 (some v) fun s => s.cfgAccess k w (some (v.setWidth 32))
    | .pcie, 0x8020 => s.hostIntOp w n i v
    | .pcie, 0x8040 => s.copyCtl w n i v
    | .fp, 0x1000 => s.ltCtlWrite w n v
    | .dl, 0x1000 => s.ltCtlWrite w (8 + n) v
    | .hb, 0x1000 => s.ltCtlWrite w 20 v
    | .hb, 0x8140 => s.sktCtlOp w i v
    | .arb, 0x10 => if v.toNat % 2 = 1 then s.arbClrOp w n else s.plainOp w off v
    | .part, 0x4000 => s.carVecOp w n i v
    | .ring, 0x10 => s.ringCtlOp w n v
    | .ring, 0x18 => s.ringTailOp w n (F.RING_TAIL_TAIL.get v)
    | .elog, 0x10 => s.elogTailOp w n (F.ELOG_TAIL_TAIL.get v)
    | .pwr, 0x10 => s.hubReqOp w v
    | .pwr, 0x20 => s.restReqOp w v
    | .mb, 0x1000 => s.slotCtlOp w i v
    | .mb, 0x1020 => s.attGo w i v
    | .mb, 0x1040 => s.slotWordOp w i off v
    | .mb, 0x8000 => s.slotWordOp w i off v
    | _, _ => s.plainOp w off v

/-- A read of a register of this package. -/
def State.csLoad (s : State) (w : Who) (off size : Nat) : State :=
  let plain : State := s.csGuard w off size none fun s => s.whoReply w 0 (s.view w off)
  if size != 8 || off % 8 != 0 then plain
  else match regAt off with
  | none => plain
  | some (b, n, ix, r) =>
    if s.absent b n (r.off + ix.headD 0 * (r.idx.headD (0, 0)).1) then plain
    else match b, r.off with
    | .core, 0xC08 => s.intAckOp w n
    | .home, 0x108 => s.dirProbeOp w n
    | .pcie, 0x1028 => s.csGuard w off 8 none fun s => s.cfgAccess (4 * n + ix.headD 0) w none
    | _, _ => plain

/-- An access held under R392 is performed again. -/
def State.csAgain (s : State) (h : HeldCs) : State :=
  let act (s : State) : State := match h.wr with
    | some v => s.csStore h.who h.off 8 v
    | none => s.csLoad h.who h.off 8
  match s.whoCore h.who with
  | some c => s.asAgreed c act
  | none => act s

/-- A write to a register that has no row of its own. -/
def execCsRegisterWrite (who : Sender) (off : Fin (2 ^ 32)) (size : Nat) (v : Word) (s : State) : Out :=
  .next (s.csStore who.who off.val size v)

def execElogTailWrite (who : Sender) (n : Fin 32) (v : BitVec 32) (s : State) : Out := .next (s.elogTailOp who.who n.val v.toNat)

end Sys2Proof.Machine
end

