-- ==== Sys2Proof/Machine/AccessOps.lean ====
section
/-! DEFINITION. Accesses of cores: decoding of the physical address (R32 to R36), what each target does (R130 to R134), the compare
points of a twin pair (R90), accesses on a predicted path (R128, R132), and the walks they start (R158 to R161). -/

namespace Sys2Proof.Machine

/-- The detecting unit of an access that fails at its issuer: its core, or the TAP. -/
def Acc.detector (a : Acc) : Nat × Nat := if a.core = DEBUG_PORT then (15, 15) else (0, a.core)

/-- An access fails with a record. -/
def State.accFail (s : State) (a : Acc) (e : ECode) : State := (s.record e a.detector.1 a.detector.2 [a.part] (some a.pa)).failAcc a

/-- The requester of a Control Space access. -/
def State.accWho (s : State) (a : Acc) : Who :=
  if a.core = DEBUG_PORT then .debug (Fin.ofNat 240 (s.err.dbgCore.getD 0))
  else .core (Fin.ofNat 8 s.pkg) (Fin.ofNat 240 a.core) (Fin.ofNat 16 a.part)

/-- A Control Space access of this package's own, or sent to another package. -/
def State.csAcc (s : State) (a : Acc) (pkg off : Nat) : State :=
  if pkg != s.pkg then s.farSend a { pkg := pkg, unit := 0xFC + csHub off }
  else
  let s := if a.core = DEBUG_PORT then s
    else if s.csRetried (s.accWho a) off (a.src = .store) then s.countAcc a 0x11
    else s.countTo a.cores a.user (hubOfDie (dieOf a.core)) { pkg := s.pkg, unit := 0xFC + csHub off }
  if a.src = .store then s.csStore (s.accWho a) off a.size (a.data.setWidth 64) a.user
  else s.csLoad (s.accWho a) off a.size

/-- The attribute an access is performed under (R134): Control Space is always DEV, and the PCIe region is never cached. -/
def effAttr (pa : Nat) (a : Attr) : Attr :=
  match paKind pa with
  | .cs _ _ => .dev
  | .pcie => if a = .wb || a = .wt then .uc else a
  | _ => a

/-- Perform an access whose address passed decoding. -/
def State.performNow (s : State) (a : Acc) : State :=
  match paKind a.pa with
  | .dram _ => if a.core = DEBUG_PORT then s.ucSend a else s.dramReq a
  | .pcie => each a.pieces (fun s p => s.winCore p) s
  | .cs pkg off => each a.pieces.zipIdx (fun s p => s.csAcc p.1 pkg (off + 8 * p.2)) s
  | .reserved => s

/-- An atomic operation on a target that takes none (R134). -/
def Acc.atomicBad (a : Acc) : Bool := a.src = .atomic && (!isDram a.pa || a.attr = .dev)

/-- R90: the access is a compare point of a pair. -/
def Acc.compared (a : Acc) : Bool :=
  a.src = .store || a.src = .atomic || !isDram a.pa || a.attr = .uc || a.attr = .dev

/-- Perform a translated access. On a predicted path only a cached read goes on. A UC or DEV access that an earlier one must precede is issued
again (R132; log entry 91). A member of a pair waits at a compare point. -/
def State.performAcc (s : State) (a : Acc) (spec : Bool) : State :=
  let a := { a with attr := effAttr a.pa a.attr }
  match s.undecoded a.pa with
  | some e => if spec then s else s.accFail a e
  | none =>
    if spec && (a.src = .store || a.src = .atomic || a.attr = .uc || a.attr = .dev) then s
    else if a.atomicBad then s.accFail a E.ATOMIC_ATTR
    else if !a.twin && s.devAhead a then s.toCore a.core 4
    else if !a.twin && s.paired a.part a.core && a.compared then s.toCore a.core 3
    else s.performNow a

/-- Translate an access and perform it, or start its walk, or fault. -/
def State.access (s : State) (a : Acc) (spec : Bool) : State :=
  match s.translate a.core a.src a.user a.va with
  | (s, .ok pa attr _) => s.performAcc { a with pa := pa, attr := attr } spec
  | (s, .fault code leaf) =>
    if spec then s else s.xlatFault a.core a.src a.user a.va code 0 (decide (leaf ≠ 0)) 0 leaf
  | (s, .miss) => s.startWalk a none spec

/-- An access of a core in RUN; while a write of CMO_ISSUE, TLBI_ISSUE or TLBI_SYNC of the core has not completed, it is issued again
(R142, R169). -/
def State.coreAccess (s : State) (a : Acc) (spec : Bool) : State :=
  if s.coreState a.core != 2 then s
  else if s.coreBlocked a.core then s.toCore a.core 4
  else s.access { a with part := s.corePart a.core } spec

/-- A maintenance operation by address whose translation waited for a walk is tried again. -/
def State.walkAgain (s : State) (w : Walk) : State :=
  match w.cmo with
  | some (op, level) => s.cmoWrite w.core op 1 level (w.va / 64) w.acc.user
  | none => s.access w.acc w.fast

/-- The accesses that waited for a walker, or for this walk, are tried again. -/
def State.walksAgain (s : State) (c : Nat) : State :=
  let (s, ws) := s.takeWaits c
  each ws State.walkAgain s

/-- A descriptor read has returned: the walk goes on, ends, or gives its leaf to what started it; what waited for the access may go on. -/
def State.walkOp (s : State) (c n : Nat) : State :=
  match s.xlat.walks.find? fun w => w.core = c && w.n = n && w.got.isSome with
  | none => s
  | some w =>
    (match s.walkStep w with
    | (s, .more) => if s.xlat.walks.any fun v => v.core = c && v.n = n then s else s.walksAgain c
    | (s, .ended) => s.walksAgain c
    | (s, .leaf pa attr d) =>
      (match w.cmo with
       | some _ => s.cmoLeaf w pa d
       | none => s.performAcc { w.acc with pa := pa, attr := attr } w.fast).walksAgain c).accsSettle (dieOf c)

/-! ## UC and DEV accesses that arrive (R36, R211) -/

/-- The data that answers a reserved read travels on RSV_DAT (R189): what was sent after the first n messages to its core. -/
def State.asReserved (s : State) (n : Nat) (m : CMsg) : State :=
  let mark (x : Msg) : Msg := match x with
    | .remote p c code v _ => if p = m.src.pkg && c = m.src.unit then .remote p c code v true else x
    | _ => x
  if m.rsv then { s with sent := s.sent.take n ++ (s.sent.drop n).map mark } else s

/-- A UC_RD or UC_WR arrives: of DRAM at its home, of a PCIe window, or of Control Space for another package's core. -/
def State.ucRow (s : State) (h : Nat) (m : CMsg) : State :=
  s.arrive m fun s =>
    if m.line < 2 ^ 40 then s.homeReq h m
    else match paKind (m.line * 64) with
      | .cs _ base =>
        let s := s.take (.coh m)
        let w : Who := .core (Fin.ofNat 8 m.src.pkg) (Fin.ofNat 240 m.src.unit) (Fin.ofNat 16 m.part)
        let off := base + maskOff m.mask
        if m.src.pkg = s.pkg then s
        else if m.op = .ucWr then s.csStore w off (maskSize m.mask) ((lineGet m.data (maskOff m.mask) 8).setWidth 64)
        else (s.csLoad w off (maskSize m.mask)).asReserved s.sent.length m
      | _ => (s.take (.coh m)).winFar h m

/-! ## Wake notices (R392) -/

/-- A wake notice: what was held for the domain is issued again. -/
def State.wakeNoticeOp (s : State) (q : Nat) (d : Option Nat) : State :=
  let s := s.wakeIn q d
  match d with
  | some d =>
    if q = s.pkg then
      let l := s.pwr.heldCs.filter fun e => e.die = d
      each l State.csAgain (s.onPwr fun p => { p with heldCs := p.heldCs.filter fun e => e.die != d })
    else s
  | none => s

end Sys2Proof.Machine
end

