-- ==== Sys2Proof/Machine/Access.lean ====
section
/-! DEFINITION. The commands that perform accesses: loads, stores, atomics and fetches of cores, the walkers, uncached requests at a hub,
and wake notices. -/

namespace Sys2Proof.Machine

/-- A load of size bytes; spec: issued on a predicted path. -/
def execCoreLoad (c : Core) (va : Word) (size : Nat) (user spec : Bool) (s : State) : Out :=
  .next (s.coreAccess { (default : Acc) with core := c.val, src := .load, va := va.toNat, size := size, user := user } spec)

/-- A checked store. -/
def execCoreStore (c : Core) (va : Word) (size : Nat) (v : Line) (user : Bool) (s : State) : Out :=
  .next (s.coreAccess { (default : Acc) with core := c.val, src := .store, va := va.toNat, size := size, data := v, user := user } false)

def execCoreAtomic (c : Core) (va : Word) (op size : Nat) (arg arg2 : BitVec 128) (user : Bool) (s : State) : Out :=
  .next (s.coreAccess { (default : Acc) with core := c.val, src := .atomic, va := va.toNat, size := size, user := user, aop :=
    { code := op, size := size, off := va.toNat % 64, arg := arg, arg2 := arg2 } } false)

/-- An instruction fetch of 4 bytes. -/
def execCoreFetch (c : Core) (va : Word) (user spec : Bool) (s : State) : Out :=
  .next (s.coreAccess { (default : Acc) with core := c.val, src := .fetch, va := va.toNat, size := 4, user := user } spec)

def execWalkDescriptor (c : Core) (w : Fin 2) (s : State) : Out := .next (s.walkOp c.val w.val)

def execUcRd (h : Hub) (m : CMsg) (s : State) : Out := .next (s.ucRow h.val { m with op := .ucRd })

def execUcWr (h : Hub) (m : CMsg) (s : State) : Out := .next (s.ucRow h.val { m with op := .ucWr })

/-- d: the die that woke; none: the package. -/
def execWakeNotice (pkg : Pkg) (d : Option Die) (s : State) : Out := .next (s.wakeNoticeOp pkg.val (d.map (·.val)))

end Sys2Proof.Machine
end

