-- ==== Sys2Proof/Machine/BeatOps.lean ====
section
/-! DEFINITION. The beat (R42 to R51), the units' part in a Peal (R54 to R59), hallmark exchanges (R60 to R63), the Gong at a boundary
(R418, R419), and what else a boundary carries out. -/

namespace Sys2Proof.Machine

/-! ## Peals at the units of this package (R57) -/

def State.isIn (s : State) : Bool := s.f R.PKG_INFO F.PKG_INFO_ADMITTED = 1

/-- The message is one this package's own units sent. -/
def State.sentBy (s : State) (m : Msg) : Bool := s.sent.contains m

/-- The arming message of this package's master, or from outside at a hub of a package that takes part. -/
def State.armKnown (s : State) (u seq target : Nat) (c : Change) : Bool :=
  s.sentBy (.pealArm s.pkg u seq target c) || (12 ≤ u && !(s.isMaster && s.isIn) && !s.beat.isolated && !s.locked && (s.isIn || (c.kind = 2 && c.arg % 8 = s.pkg)))

/-- A unit cannot apply the change: it withholds its acknowledgement, with a record (R57, R224, R317). The flag says so. -/
def State.armCheck (s : State) (u seq : Nat) (c : Change) : State × Bool :=
  if c.kind = 0 && (u = 12 || u = 13) then
    let (s, hs) := s.ticketCheck seq c.body
    (s, hs.contains u)
  else if c.kind = 1 && c.arg % 2 = 0 && (u = 12 || u = 13) && s.inScope c && s.triggers (u - 12) != 0 then
    (s.record E.DIR_NOT_READY 2 (u - 12) [] none (seq + 2 ^ 16), true)
  else (s, false)

/-- Sequence number a was given before b, among numbers in flight together (R52). -/
def seqBefore (a b : Nat) : Bool := (b + 65535 - a) % 65535 < 32768

/-- This package goes on from the latest sequence number it has seen, should it become the master (R52). -/
def State.seqSeen (s : State) (seq : Nat) : State :=
  if s.beat.nextSeq = 0 || seqBefore s.beat.nextSeq seq then s.onBeat fun b => { b with nextSeq := seq } else s

/-- A hub's check of a ticket waits for what the Islands must read first (R251, R317). -/
def State.checkHeld (s : State) (u seq : Nat) (c : Change) : Bool :=
  c.kind = 0 && (u = 12 || u = 13) && !s.sec.ackPeals.contains seq && s.fetchHeld c.body

/-- A unit receives the arming message, checks the change and acknowledges it. -/
def State.armIn (s : State) (u seq target : Nat) (c : Change) : State :=
  if s.checkHeld u seq c || !s.armKnown u seq target c || target ≤ s.now || !s.takesPart (((s.pealOf seq).map (·.2)).getD (s.newPeal seq target c)) u then s
  else
    let s := s.take (.pealArm s.pkg u seq target c)
    let s := match s.pealOf seq, s.freePeal with
      | none, some i => ((s.setSlot i (s.newPeal seq target c)).take (.pealReq s.master target c)).seqSeen seq
      | _, _ => s
    match s.pealOf seq with
    | none => s
    | some (_, q) =>
      let s := if u = 12 || u = 13 then each (s.hubDies q (u - 12)) (fun s d => s.send (.pealArm s.pkg d seq target c)) s else s
      let s := if c.kind = 0 && (u = 12 || u = 14) then s.slotArm seq target c.body else s
      let (s, held) := s.armCheck u seq c
      if held then s else s.send (.peal s.pkg u seq 2 true)

/-- An acknowledgement reaches its hub before the boundary that begins T - 2. -/
def State.ackIn (s : State) (u seq : Nat) : State :=
  let m : Msg := .peal s.pkg u seq 2 true
  match s.pealOf seq with
  | some (i, q) => if s.sentBy m && s.now + 2 < q.target then (s.take m).pealArmed i u else s
  | none => s

/-- A package's result reaches the master before the boundary that begins T - 1. -/
def State.resultIn (s : State) (src seq : Nat) (missing : Option Nat) : State :=
  let m : Msg := .peal s.pkg 0 seq 3 true
  match s.pealOf seq with
  | some (i, q) =>
    if !s.isMaster || q.target ≤ s.now + 1 || (src = s.pkg && !s.sentBy m) then s
    else match missing with
      | none => (s.take m).setSlot i { q with waitPkgs := q.waitPkgs.filter (· != src) }
      | some u =>
        let lowest := match q.missing with
          | some (p, _) => decide (src < p)
          | none => true
        if lowest then s.setSlot i { q with missing := some (src, u) } else s
  | none => s

/-- The lowest missing participant of a slot, as the master knows it. A package that sent no result at all, though none of its participants
is known to be missing, is named by its HUB-A, which sends the result: DESIGN CHOICE, log entry 85. -/
def State.pealCause (s : State) (q : PealSlot) : Nat × Nat :=
  let p := q.waitPkgs.foldl min 7
  let unit := if p = s.pkg then (if q.waiting = [] then 12 else q.waiting.foldl min 14) else match q.missing with
    | some (r, u) => if r = p then u else 12
    | none => 12
  (p, unit)

/-- Step 4: at the boundary that begins T - 1 the master gives the verdict. -/
def State.pealDecide (s : State) : State :=
  if !s.isMaster then s
  else each s.pealSlots (fun s (i, q) =>
    if q.target != s.now + 1 || q.decided.isSome then s
    else
      let ok := decide (q.waitPkgs = [])
      let s := s.setSlot i { q with decided := some ok, missing := if ok then none else some (s.pealCause q) }
      let pkgs := addOnce s.admitted s.pkg
      let pkgs := if q.change.kind = 2 then addOnce pkgs (q.change.arg % 8) else pkgs
      each pkgs (fun s p => s.send (.peal p 12 q.seq 4 ok)) s) s

/-- At the boundary that begins T - 2 a package with a missing participant reports it. -/
def State.pealReport (s : State) : State :=
  if s.isMaster then s
  else each s.pealSlots (fun s (_, q) =>
    if q.target = s.now + 2 && q.waiting != [] then s.send (.peal s.master (q.waiting.foldl min 14) q.seq 3 false) else s) s

/-- A unit receives the verdict and passes it on. -/
def State.verdictIn (s : State) (u seq : Nat) (ok : Bool) (cause : Nat × Nat) : State :=
  let m : Msg := .peal s.pkg (if u = 14 then 12 else u) seq 4 ok
  match s.pealOf seq with
  | some (i, q) =>
    if q.target ≤ s.now || !(s.sentBy m || ((u = 12 || u = 14) && !(s.isMaster && s.isIn) && !s.beat.isolated)) || !s.takesPart q u then s
    else
      let q := { q with verdicts := q.verdicts.filter (fun e => e.1 != u) ++ [(u, ok)] }
      let q := if ok || q.decided.isSome || !(u = 12 || u = 14) then q else { q with missing := some cause }
      let s := (s.take m).setSlot i q
      let pass (s : State) (us : List Nat) : State := each us (fun s v => s.send (.peal s.pkg v seq 4 ok)) s
      if u = 12 then pass s (13 :: s.hubDies q 0) else if u = 13 then pass s (s.hubDies q 1) else s
  | none => s

/-! ## The boundary that begins T -/

def seqInsert (e : Nat × PealSlot) : List (Nat × PealSlot) → List (Nat × PealSlot)
  | [] => [e]
  | x :: r => if seqBefore e.2.seq x.2.seq then e :: x :: r else x :: seqInsert e r

/-- What the always-on domain of a resting package does at the target beat, so that the package stays part of its system (R398): the chain of
hallmarks and the membership follow the change; the rest of it is held (R54; DEDUCED, log entry 85). -/
def State.pealHold (s : State) (c : Change) : State :=
  let s := s.onSec fun q => { q with heldChanges := q.heldChanges ++
    [{ change := c, last := (s.reg R.MB_LAST_TICKET).toNat, prior := s.beat.hallmark.getD 0 0 }] }
  match c.kind with
  | 0 => match ticketOf c.body with
    | some t => s.extendHallmark t
    | none => s
  | 2 => s.joinMembers (c.arg % 8) (c.arg / 8)
  | 3 => s.detachMembers c.arg
  | _ => s

/-- A committed change takes effect; in Rest the always-on domain holds what the units will load (R54). -/
def State.pealEffect (s : State) (seq : Nat) (c : Change) : State :=
  let resting := decide (s.restState = ST_REST)
  let s := if resting then s.pealHold c
    else match c.kind with
    | 0 => s.applyTicket c.body
    | 2 => (s.joinMembers (c.arg % 8) (c.arg / 8)).changeEffect c
    | 3 => (s.detachMembers c.arg).changeEffect c
    | _ => s.changeEffect c
  if c.kind = 0 then s.ticketOver seq SLOT_APPLIED 0 else s

/-- What a source does about its cancelled change. -/
def State.pealUndone (s : State) (seq : Nat) (c : Change) : State :=
  match c.kind with
  | 0 => s.ticketOver seq SLOT_CANCELLED CODE_CANCELLED
  | 1 =>
    let s := s.onHome fun q => { q with modeReq := false }
    match leaving c with
    | some p =>
      (s.onLinks fun k => { k with leave := none }).sktStay p
    | none => s
  | 2 => if c.arg % 8 = s.pkg then s.onLinks fun k => { k with joinWait := some (s.now + 16) } else s.joinOver
  | 3 => s.leaveCancel c.arg
  | _ => s

/-- The record of a cancelled Peal names the lowest missing participant (R57 step 5). -/
def State.cancelRecord (s : State) (q : PealSlot) : State :=
  let (p, u) := q.missing.getD (s.pkg, 12)
  let (k, n) : Nat × Nat := if p != s.pkg then (14, p) else if u < 12 then (1, u) else if u = 14 then (2, 0) else (2, u - 12)
  s.record E.PEAL_CANCELLED k n [] none (q.seq + q.change.kind * 2 ^ 16)

/-- One Peal reaches its target beat in this package (R57 step 5, R58). -/
def State.pealEnd (s : State) (i : Nat) (q : PealSlot) : State :=
  let c := q.change
  let s := s.setSlot i default
  let verdict (u : Nat) : Option Bool := (q.verdicts.find? fun e => e.1 = u).map (·.2)
  let hubs := q.units.filter fun u => 12 ≤ u
  match hubs.find? fun u => (verdict u).isNone with
  | some h =>
    let s := (s.raiseGong E.PEAL_NO_VERDICT 2 (h % 2) 0).onBeat fun b =>
      { b with isolated := true, exchanges := addOnce b.exchanges (b.now + 2) }
    let s := (s.pealLast PEAL_NONE c.kind q.seq q.target).wrapF R.PEAL_CNT F.PEAL_CNT_CANCELLED
    if c.kind = 0 then s.ticketOver q.seq SLOT_CANCELLED CODE_NO_VERDICT else s.pealUndone q.seq c
  | none =>
    let s := each (allDies.filter fun d => s.takesPart q d && (verdict d).isNone) (fun s d => s.fenceDie d 5 E.PEAL_NO_VERDICT) s
    if hubs.all fun u => verdict u = some true then
      ((s.pealEffect q.seq c).pealLast PEAL_APPLIED c.kind q.seq q.target).wrapF R.PEAL_CNT F.PEAL_CNT_APPLIED
    else
      let s := (s.pealLast PEAL_CANCELLED c.kind q.seq q.target (q.missing.getD (0, 0))).wrapF R.PEAL_CNT F.PEAL_CNT_CANCELLED
      (s.cancelRecord q).pealUndone q.seq c

/-- Step 1 of R50: every Peal whose target is the beat now beginning, in order of sequence number (R59). -/
def State.pealApply (s : State) : State :=
  let due := (s.pealSlots.filter fun e => e.2.target = s.now).foldl (fun l e => seqInsert e l) []
  each due (fun s (i, q) => s.pealEnd i q) s

/-! ## Hallmark exchange (R62, R63) -/

/-- The boundary begins an exchange. -/
def State.exchangeDue (s : State) : Bool := s.isIn && (s.now % 1024 = 0 || s.beat.exchanges.contains s.now)

def ownTag (s : State) : Nat := tagOf (s.beat.hallmark.getD 0 0)

/-- Package p took part with a hallmark. -/
def State.peerHeard (s : State) (p : Nat) (h : Digest) : State :=
  let r := R.HALLMARK_PEER p
  let eq := decide (h = s.beat.hallmark.getD 0 0)
  let s := ((s.setF r F.HALLMARK_PEER_TAG (tagOf h)).setF r F.HALLMARK_PEER_PRESENT 1).setF r F.HALLMARK_PEER_MATCH eq.toNat
  s.onBeat fun b => { b with peers := b.peers.put p h, heardFrom := addOnce b.heardFrom p }

/-- The majority among the packages of an exchange: the largest group, among equals the one with the lowest package. -/
def majority (l : List (Nat × Digest)) : Option Digest :=
  let size (h : Digest) : Nat := countOf l fun e => e.2 = h
  let best := maxOf (l.map fun e => size e.2)
  let low := (l.filter fun e => size e.2 = best).map (·.1)
  (l.find? fun e => e.1 = low.foldl min 7 && size e.2 = best).map (·.2)

/-- R78: the anti-rollback counter advances to the used image's ROLLBACK where that exceeds it. -/
def State.raiseFuse (s : State) : State :=
  if s.fusedRollback < s.boot.cfg.rollback then s.onBoot fun k => { k with advanced := s.boot.cfg.rollback } else s

/-- The exchange of beat b ends: groups, the majority, and this package's place in it. -/
def State.exchangeEnd (s : State) (b : Nat) : State :=
  let l := s.beat.heardFrom.map fun p => (p, s.beat.peers.get p)
  let s := s.onBeat fun b => { b with heardFrom := [] }
  match majority l with
  | none => s
  | some h =>
    let s := each l (fun s (p, d) => s.setF (R.HALLMARK_PEER p) F.HALLMARK_PEER_MAJORITY (decide (d = h)).toNat) s
    if s.beat.hallmark.getD 0 0 != h then (if s.beat.selfFenced then s else s.selfFence E.HALLMARK_DIVERGE 2 0)
    else
      let s := if s.beat.isolated && !s.beat.selfFenced then s.onBeat fun b => { b with resume := true } else s
      if b % 1024 = 0 then s.raiseFuse else s

def State.exchange (s : State) : State :=
  let s := s.onBeat fun b => { b with exchanges := b.exchanges.filter (s.now < ·), peers := [], heardFrom := [] }
  let s := each (List.range 8) (fun s p => s.setReg (R.HALLMARK_PEER p) (s.reg (R.HALLMARK_PEER p) &&& 0xFFFFFFFF)) s
  let s := s.hubCompare
  let h := s.beat.hallmark.getD 0 0
  let s := each s.others (fun s p => s.send (.hallmark p h (s.reg R.MB_LAST_TICKET).toNat s.now)) s
  let s := s.peerHeard s.pkg h
  if s.others = [] then s.exchangeEnd s.now else s

/-- A hallmark arrives (R63). -/
def State.hallmarkIn (s : State) (src : Nat) (h : Digest) (beat : Nat) : State :=
  if !s.others.contains src || s.beat.heardFrom = [] || s.beat.heardFrom.contains src || beat != s.now then s
  else
    let s := s.peerHeard src h
    let s := if h = s.beat.hallmark.getD 0 0 then s else s.beatEvent F.BEAT_STAT_HALLMARK_MISMATCH
    if s.admitted.all s.beat.heardFrom.contains then s.exchangeEnd s.now else s

/-- At the next boundary, whose beat has begun, an exchange that some package sent nothing in is judged, and that package is suspected lost. -/
def State.exchangeLate (s : State) : State :=
  if s.beat.heardFrom = [] then s
  else
    let silent := without s.admitted s.beat.heardFrom
    each silent State.suspect (s.exchangeEnd (s.now - 1))

/-! ## Markers (R44, R47, R48, R279 to R281) -/

def signed16 (n : Nat) : Int := (BitVec.ofNat 16 n).toInt

/-- The port a package steers by. -/
def State.steerPort (s : State) : Option Nat :=
  let cand := (List.range 8).filter fun n => s.linkActive n && bits (s.links.markers.get n) 0 4 = 1 && bits (s.links.markers.get n) 12 1 = 1 &&
    bits (s.links.markers.get n) 10 2 < 3
  let best := (cand.map fun n => bits (s.links.markers.get n) 10 2).foldl min 3
  cand.find? fun n => bits (s.links.markers.get n) 10 2 = best

/-- This package's HOPS. -/
def State.hops (s : State) : Nat :=
  if s.isMaster && s.isIn then 0
  else match s.steerPort with
    | some n => min 3 (bits (s.links.markers.get n) 10 2 + 1)
    | none => 3

/-- BEAT_SYNC.WORST: the largest magnitude of OFFSET over the last 1024 beats (R64). -/
def State.worstNow (s : State) : State :=
  let l := s.beat.offsets.filter fun e => s.now < e.1 + 1024
  (s.onBeat fun b => { b with offsets := l }).setF R.BEAT_SYNC F.BEAT_SYNC_WORST (maxOf (l.map (·.2)))

/-- The marker on port p comes from the master or is relayed from it (R48). -/
def State.fromMaster (s : State) (w : Word) : Bool := bits w 4 3 = s.master || bits w 10 2 < 3

/-- The sender of what arrives on port p says by its hello that it is admitted (R44). -/
def State.admittedAt (s : State) (p : Nat) (w : Word) : Bool :=
  let h := s.hellosLive.get p
  bits h 0 4 = 3 && bits h 10 1 = 1 && bits h 4 3 = bits w 4 3

/-- The offset from the master is measured anew. -/
def State.steer (s : State) (off : Int) : State :=
  let mag := off.natAbs
  let s := (s.onBeat fun b => { b with offsets := b.offsets ++ [(b.now, (signed16 (twos16 off)).natAbs)] }).worstNow
  let s := (s.setF R.BEAT_SYNC F.BEAT_SYNC_OFFSET (twos16 off)).setF R.BEAT_SYNC F.BEAT_SYNC_LOCKED (decide (mag ≤ 20000)).toNat
  if 10000 < mag then s.beatEvent F.BEAT_STAT_SKEW_WARN else s

/-- A marker, with the beat word on every 1024th; arrival is in picoseconds from this package's boundary. -/
def State.markerIn (s : State) (p : Nat) (w : Word) (beat : Option Word) (arrival : Int) : State :=
  if bits w 0 4 != 1 || !s.linkActive p || !s.beat.running then s
  else
    let r := R.FP_SYNC p
    let b : Int := arrival - 10 * (s.f r F.FP_SYNC_DELAY : Int) - (bits w 32 16 : Int)
    let s := ((s.setF r F.FP_SYNC_OFFSET (twos16 b)).setF r F.FP_SYNC_HOPS (bits w 10 2)).setF r F.FP_SYNC_MISSED 0
    let s := s.onLinks fun k => { k with markers := k.markers.put p w, lastMarker := k.lastMarker.put (bits w 4 3) 0 }
    let s := match beat with
      | some n => if s.f R.BEAT_SYNC F.BEAT_SYNC_ADOPTED = 0 && s.admittedAt p w then s.onBeat fun t => { t with adopt := some n.toNat } else s
      | none => s
    let s := if s.fromMaster w then s.onBeat fun t => { t with noMaster := 0 } else s
    if s.isMaster || s.steerPort != some p then s else s.steer (signed16 (bits w 48 16) - b)

def State.markerGone (s : State) (p : Nat) : State :=
  if s.linkActive p then (s.incF (R.FP_SYNC p) F.FP_SYNC_MISSED).beatEvent F.BEAT_STAT_MARKER_MISS else s

/-- BEAT_LOST: one of the two cases of R48 holds. -/
def State.beatGone (s : State) : State :=
  if s.isIn && !s.isMaster && (16 ≤ s.beat.over20 || 64 ≤ s.beat.noMaster) && !s.beat.selfFenced then s.selfFence E.BEAT_LOST 2 0 else s

/-- The counts of R48 and R292 at a boundary. -/
def State.markerCounts (s : State) : State :=
  let off := (signed16 (s.f R.BEAT_SYNC F.BEAT_SYNC_OFFSET)).natAbs
  let s := if s.isIn && s.isMaster then s.setF R.BEAT_SYNC F.BEAT_SYNC_LOCKED 1 else s
  let s := s.onBeat fun b => if s.isIn && !s.isMaster then
      { b with over20 := if 20000 < off then b.over20 + 1 else 0, noMaster := b.noMaster + 1 }
    else { b with over20 := 0, noMaster := 0 }
  let s := s.worstNow
  let near := s.others.filter fun q => (s.portsTo s.pkg q) != []
  s.onLinks fun k => { k with lastMarker := near.foldl (fun m q => m.put q (k.lastMarker.get q + 1)) [] }

/-- The control slot of a port (R278): marker, beat word on every 1024th boundary, hello from PHASE 5. -/
def State.ctlWords (s : State) (n : Nat) : List Word :=
  let full := s.now % 1024 = 0
  let marker := BitVec.ofNat 64 (1 + s.pkg % 8 * 2 ^ 4 + n * 2 ^ 7 + s.hops * 2 ^ 10 + s.f R.BEAT_SYNC F.BEAT_SYNC_LOCKED * 2 ^ 12 +
    (if full then 2 ^ 13 else 0) + s.now % 2 ^ 16 * 2 ^ 16 + bits s.free 0 16 * 2 ^ 32 + s.f R.BEAT_SYNC F.BEAT_SYNC_OFFSET * 2 ^ 48)
  let hello := BitVec.ofNat 64 (3 + s.pkg % 8 * 2 ^ 4 + n * 2 ^ 7 + s.f R.PKG_INFO F.PKG_INFO_ADMITTED * 2 ^ 10 +
    maskOf s.peersHeard * 2 ^ 12 + tagOf s.beat.h0 * 2 ^ 32)
  [marker] ++ (if full then [BitVec.ofNat 64 s.now] else []) ++ (if 5 ≤ s.phase then [hello] else [])

/-- The ports that send control slots: every ACTIVE one that does not pause (R269), or in Rest the lowest of each half (R398). -/
def State.ctlPorts (s : State) : List Nat :=
  let l := (List.range 8).filter s.linkCarries
  if s.restState = ST_REST then ([0, 1].filterMap fun h => l.find? fun n => n / 4 = h) else l

def State.ctlSlots (s : State) : State := each s.ctlPorts (fun s n => (s.send (.ctlSlot n (s.ctlWords n))).tick) s

/-! ## The Gong at a boundary (R418, R419) -/

/-- Gongs held are applied after every other step; then those raised are sent, and a package that fences itself isolates. -/
def State.gongTick (s : State) : State :=
  let s := if s.restState = ST_REST then s
    else
      let l := s.err.gongs.filter fun g => !g.done
      let s := s.onErr fun q => { q with gongs := q.gongs.map fun g => { g with done := true } }
      each l State.gongApply s
  let l := s.err.raise.filter fun g => g.beat ≤ s.now
  let s := s.onErr fun q => { q with raise := q.raise.filter (fun g => s.now < g.beat), gongs := q.gongs ++ l }
  let s := each l (fun s g => each (addOnce s.others s.pkg) (fun s p => s.send (.gong p g)) s) s
  if s.beat.selfFenced && s.err.raise = [] then (s.onBeat fun b => { b with isolated := true }).setF R.REST_STAT F.REST_STAT_CMD 0 else s

/-- A GONG message arrives at a hub: one not yet seen is held and forwarded on every ACTIVE port; in Rest 8 are kept (R411). -/
def State.gongIn (s : State) (g : Gong) : State :=
  let s := s.take (.gong s.pkg g)
  if s.err.gongs.any fun o => o.src = g.src && o.cause = g.cause && o.beat = g.beat then s
  else
    let s := if g.cause = E.PEAL_NO_VERDICT.val then s.onBeat fun b => { b with exchanges := addOnce b.exchanges (g.beat + 1) } else s
    let s := each ((List.range 8).filter s.linkActive) (fun s n => s.send (.gong (s.f (R.FP_PEER n) F.FP_PEER_PEER_PKG) g)) s
    if s.restState = ST_REST && 8 ≤ countOf s.err.gongs (fun o => !o.done) then s.onPwr fun p => { p with heldGongs := p.heldGongs + 1 }
    else s.onErr fun q => { q with gongs := q.gongs ++ [{ g with done := false }] }

/-! ## Twin pairs at a boundary (R95, R99) -/

/-- HUB-A copies the solo core's state into the rejoining member; the inputs that the solo core has still to apply are the pair's. -/
def State.rejoinPair (s : State) (c : Nat) : State :=
  match (s.cores.twins.get c).rejoin with
  | none => s
  | some m =>
    let o := mirror m
    if s.dieFenced (dieOf m) || s.dieOff (dieOf m) then s
    else
      let h : CoreH := { s.coreH o with retries := 0, flag := false, assayed := false, restState := 0, held := (s.coreH m).held }
      let s := (s.setCoreH m h).setCoreState m (s.coreState o)
      let s := ((s.setReg (R.XLAT_CTL m) (s.reg (R.XLAT_CTL o))).setReg (R.XLAT_BASE m) (s.reg (R.XLAT_BASE o))).setReg (R.INT_CTL m)
        (s.reg (R.INT_CTL o))
      let s := ((s.setF (R.CORE_STAT m) F.CORE_STAT_FENCE_CAUSE 0).setF (R.CORE_STAT o) F.CORE_STAT_SOLO 0).maskCore m false
      s.onCores fun k => { k with twins := k.twins.upd c fun t => { (default : TwinH) with
        inputs := t.inputs.map fun i => { i with lower := true, upper := true }
        retLower := max t.retLower t.retUpper, retUpper := max t.retLower t.retUpper } }

/-- The state compare of each pair in RUN; a rejoining member whose partner is halted rejoins at once. -/
def State.twinBeat (s : State) : State :=
  each (List.range 120) (fun s c =>
    let t := s.cores.twins.get c
    match t.rejoin with
    | some m => if s.coreState (mirror m) = 1 then s.rejoinPair c
        else s.onCores fun k => { k with twins := k.twins.put c { t with stateCmp := some (max t.retLower t.retUpper + 256) } }
    | none =>
      if s.paired (s.corePart c) c && s.coreState c = 2 then
        let usual := max t.retLower t.retUpper + 256
        s.onCores fun k => { k with twins := k.twins.put c { t with stateCmp := some (match t.badPoint with
          | some b => max usual (b + 256)
          | none => usual) } }
      else s) s

/-! ## Dies that return or wake (R234, R393) -/

/-- Step 3 and 4 of R234: the die is loaded and no walk runs. -/
def State.unfence (s : State) (d : Nat) : State :=
  let s := s.onHome fun q => { q with returning := q.returning.erase d, fencing := q.fencing.filter fun e => e != (s.pkg, d) }
  let s := each [0, 1] (fun s h => s.setF (R.FENCE_STAT h) F.FENCE_STAT_DIE_FENCED (clearBit (s.f (R.FENCE_STAT h) F.FENCE_STAT_DIE_FENCED) d)) s
  let s := each s.others (fun s p => s.send (.fence p d true)) s
  let s := ((s.setReg (R.DL_DIE d) 0).setF (R.PWR_DIE d) F.PWR_DIE_STATE 2).arbMaskDie d false
  each (coresOfDie d) (fun s c =>
    (s.setF (R.CORE_STAT c) F.CORE_STAT_FENCE_CAUSE 0).setCoreState c (if s.corePart c = 0 then 0 else 1)) s

def State.diesBack (s : State) : State :=
  each s.home.returning (fun s d =>
    if s.linkActive (8 + d) && s.home.fenceWalk = [] then s.unfence d else s) s

/-- The cores of woken dies and clusters enter HALT. -/
def State.wokenCores (s : State) : State :=
  let l := s.pwr.woken
  let s := s.onPwr fun p => { p with woken := [] }
  each l (fun s d => each (coresOfDie d) (fun s c =>
    if s.coreState c = 0 && s.corePart c != 0 && s.corePowered c then s.setCoreState c 1 else s) s) s

/-! ## Partition starts at a boundary (R81, R82, R321); a Gong to be applied at the same boundary stops one -/

def State.startDue (s : State) : State :=
  each (s.boot.startBeats.filter fun e => e.2 ≤ s.now) (fun s (p, _) =>
    if s.err.gongs.any fun g => !g.done && bit g.mask p then
      s.startFail p 0
    else match s.sec.copies.find? fun c => c.part = p with
    | some c =>
      let s := s.copyStop p
      if c.pkg = s.pkg && !(c.done && c.ok) then
        s.startFail p (hubOfDie (dieOf c.boot))
      else s.startPart p c.pkg c.boot c.entry
    | none =>
      match s.part p with
      | some r => s.startPart p (bootPkg r) (bootCoreNo r) r.entryPa
      | none => s) s

/-! ## The boundary -/

/-- The counter: it advances, or takes the system's number once (R44). -/
def State.beatNext (s : State) : State :=
  match s.beat.adopt with
  | some b => (s.onBeat fun t => { t with now := (b + 1) % 2 ^ 64, adopt := none }).setF R.BEAT_SYNC F.BEAT_SYNC_ADOPTED 1 |>.onCores fun k => { k with timeRead := 0 }
  | none => s.onBeat fun t => { t with now := (t.now + 1) % 2 ^ 64 }

/-- Steps 2 to 5 of R50, in a package that is not in Rest. -/
def State.beatRefill (s : State) (temps : List Nat) (ests : List (List Nat)) : State :=
  let s := s.fabricBeat
  let s := (each (List.range 16) State.tokenRefill s).cryptoRefill
  -- the first grant comes with the first settlement after admission (R379); a block under Assay needs one before (R427)
  let s := (if s.f R.PKG_INFO F.PKG_INFO_ADMITTED = 1 || s.assayNow.isSome then s.sendReports temps ests else s).thermalRead temps
  each (List.range 16) State.scrubGrant s

/-- What else an awake package's boundary begins. -/
def State.beatAwake (s : State) : State :=
  let s := (s.wokenCores.diesBack).powerDowns.ioSettle
  let s := s.modeAsk.foundTick.joinTick.joinArm.portArm.leaveTick.leaveArm
  let s := match s.boot.selected with
    | some i => s.applyImage i
    | none => s
  let s := s.startDue.bufferClear.assayTick.twinBeat
  s.restTick

/-- BEAT_BOUNDARY (R50). The verdicts of Peals are given before a loss that is declared at the same boundary changes the master or the participants:
the spec gives no order between R57 step 4 and R293 (DESIGN CHOICE, log entry 93). -/
def State.boundary (s : State) (temps : List Nat) (ests : List (List Nat)) : State :=
  if !s.beat.running then s
  else
    let s := s.beatNext.exchangeLate
    let s := if s.beat.resume then s.onBeat fun b => { b with resume := false, isolated := false } else s
    let s := s.onCores fun k => { k with rsvSent := [] }
    let s := s.pealApply
    let awake := decide (s.restState != ST_REST)
    let s := when awake (fun s => s.beatRefill temps ests) s
    let s := s.pealReport.pealDecide
    let s := s.markerCounts.lossTick
    let s := when awake State.beatAwake s
    let s := if s.now % 1024 = 0 then s.onLinks fun k => { k with laneFails := [] } else s
    let s := if s.exchangeDue then s.exchange else s
    s.ctlSlots.gongTick

end Sys2Proof.Machine
end

