-- ==== Sys2Proof/Machine/Beat.lean ====
section
/-! DEFINITION. The commands of chapter 02: the beat boundary, markers, Peals and hallmark exchanges. -/

namespace Sys2Proof.Machine

/-- temps: the junction temperature of each die and hub; ests: each unit's estimates per level. agree: the Islands' results of what the boundary has them compute are equal (R307); so in the commands below that carry it. -/
def execBeatBoundary (temps : List Nat) (ests : List (List Nat)) (agree : Bool) (s : State) : Out :=
  .next (s.comparing agree fun s => s.boundary temps ests)

/-- arrivalPs: when the slot arrived, in picoseconds after this package's boundary. -/
def execBeatMarker (p : FabPort) (marker : Word) (beat : Option Word) (arrivalPs : Int) (s : State) : Out :=
  .next (s.markerIn p.val marker beat arrivalPs)

def execMarkerMiss (p : FabPort) (s : State) : Out := .next (s.markerGone p.val)

def execBeatLost (s : State) : Out := .next s.beatGone

/-! ## Peals (R52 to R58) -/

/-- Where the refused request was a planned leave, its socket stays ADMITTED (R290); r is the state the refusal leaves, s the one before it. -/
def State.leaveRefused (r s : State) (target : Nat) (c : Change) : State :=
  match leaving c with
  | some p => if s.sent.contains (.pealReq s.master target c) then r.sktStay p else r
  | none => r

/-- A request reaches the master, or (from a source here) is forwarded to it; refusal: the code with which another package's master has
answered the forwarded request. -/
def execPealRequest (src : Pkg) (target : Nat) (kind : Fin 16) (body : List Byte) (arg : Nat) (refusal : Option (Fin 16)) (s : State) : Out :=
  let c : Change := { kind := kind.val, body := body, arg := arg }
  .next (if src.val = s.pkg then (match refusal with
      | some code => (s.refusedIn code.val target c).leaveRefused s target c
      | none => s.requestPeal target c)
    else if s.isMaster && s.others.contains src.val && !s.beat.isolated then s.acceptPeal src.val target c else s)

/-- unit: 0-11 dies, 12-13 hubs, 14 the always-on domain. -/
def execPealArming (unit : Fin 15) (seq target : Nat) (kind : Fin 16) (body : List Byte) (arg : Nat) (agree : Bool) (s : State) : Out :=
  .next (s.comparing agree fun s => s.armIn unit.val seq target { kind := kind.val, body := body, arg := arg })

def execPealAck (unit : Fin 15) (seq : Nat) (s : State) : Out := .next (s.ackIn unit.val seq)

/-- missing: none where every participant of the package has armed. -/
def execPealPackageResult (src : Pkg) (seq : Nat) (missing : Option (Fin 15)) (s : State) : Out :=
  .next (s.fromPkg src.val fun s => s.resultIn src.val seq (missing.map (·.val)))

def execPealVerdict (unit : Fin 15) (seq : Nat) (commit : Bool) (causePkg : Pkg) (causeUnit : Fin 15) (s : State) : Out :=
  .next (s.verdictIn unit.val seq commit (causePkg.val, causeUnit.val))

/-! ## Hallmark (R62, R63) -/

def execHallmarkReceived (src : Pkg) (hallmark : Digest) (_ : Nat) (beat : Nat) (s : State) : Out :=
  .next (s.hallmarkIn src.val hallmark beat)

end Sys2Proof.Machine
end

