-- ==== Sys2Proof/Machine/Debug.lean ====
section
/-! DEFINITION. The test access port (R431, R432): boundary-scan instructions, and debug access under DBG_STAT (R433). -/

namespace Sys2Proof.Machine

/-! ## Instruction codes -/

def TAP_IDCODE : Nat := 0x01
def TAP_SAMPLE : Nat := 0x02
def TAP_EXTEST : Nat := 0x03
def TAP_CLAMP : Nat := 0x04
def TAP_HIGHZ : Nat := 0x05
def TAP_DBG_SELECT : Nat := 0x10
def TAP_DBG_HALT : Nat := 0x11
def TAP_DBG_REGS : Nat := 0x12
def TAP_DBG_MEM : Nat := 0x13
def TAP_DBG_ARRAY : Nat := 0x14
def TAP_BYPASS : Nat := 0xFF

/-- An instruction is in the instruction register; pins: 0 the lands carry their own signals, 1 EXTEST or CLAMP, 2 HIGHZ. -/
def State.tapLoad (s : State) (code pins : Nat) : State := s.onErr fun e => { e with tapIr := code, pinsDriven := pins }

def State.tapData (s : State) (l : List Word) : State := s.onErr fun e => { e with tapDr := l }

/-- The package runs: RESET_N is high and it is not locked. -/
def State.pkgRuns (s : State) : Bool := !s.boot.inReset && !s.locked

/-- An instruction whose condition does not hold acts as BYPASS; in a running package the attempt is recorded. -/
def State.tapDenied (s : State) : State := when s.pkgRuns (fun s => s.record E.DEBUG_DENIED 15 15) (s.tapLoad TAP_BYPASS 0)

/-- An instruction that drives the lands: while RESET_N is asserted, or in the locked state. -/
def State.tapDrive (s : State) (code pins : Nat) : State := if s.pkgRuns then s.tapDenied else s.tapLoad code pins

/-- Bits as words, the first bit in bit 0 of the first word. -/
def packBits : (fuel : Nat) → List Bool → List Word
  | 0, _ => []
  | n + 1, l => if l = [] then [] else
      BitVec.ofNat 64 (maskOf ((List.range 64).filter fun i => l.getD i false)) :: packBits n (l.drop 64)

def idcode : Word :=
  BitVec.ofNat 64 (1 + Config.manufacturer.val * 2 + (0x2400 + Config.grade28.toNat) * 2 ^ 12 + Config.stepping.val % 16 * 2 ^ 28)

def execTapIdcode (s : State) : Out := .next ((s.tapLoad TAP_IDCODE 0).tapData [idcode])

/-- pins: the levels sampled; load: what is shifted into the boundary register. -/
def execTapSamplePreload (pins load : List Bool) (s : State) : Out :=
  .next (((s.tapLoad TAP_SAMPLE 0).tapData (packBits pins.length pins)).onErr fun e => { e with boundary := load })

def execTapExtest (s : State) : Out := .next (s.tapDrive TAP_EXTEST 1)

def execTapClamp (s : State) : Out := .next (s.tapDrive TAP_CLAMP 1)

def execTapHighz (s : State) : Out := .next (s.tapDrive TAP_HIGHZ 2)

def execTapBypass (s : State) : Out := .next (s.tapLoad TAP_BYPASS 0)

/-! ## Debug instructions -/

def State.dbg (s : State) (fl : Fld) : Nat := s.f (R.DBG_STAT 0) fl

/-- A partition lies in the scope of DBG_STAT. -/
def State.dbgScope (s : State) (p : Nat) : Bool :=
  s.dbg F.DBG_STAT_SCOPE = 2 || (s.dbg F.DBG_STAT_SCOPE = 1 && s.dbg F.DBG_STAT_PART = p)

/-- A debug instruction under TAP_PRIVATE and a further permission, on the selected core; with none selected it is BYPASS. -/
def State.dbgInstr (s : State) (code : Nat) (perm : Bool) (act : State → Nat → State) : State :=
  if s.dbg F.DBG_STAT_TAP_PRIVATE = 0 || !perm then s.tapDenied
  else match s.err.dbgCore with
    | none => s.tapLoad TAP_BYPASS 0
    | some c => act (s.tapLoad code 0) c

/-- CORE_PROBE, which the instructions on cores and memory need. -/
def State.probes (s : State) : Bool := s.dbg F.DBG_STAT_CORE_PROBE = 1

/-- DBG_SELECT: a core outside the scope selects nothing. -/
def execDbgSelect (c : Core) (s : State) : Out :=
  .next (if s.dbg F.DBG_STAT_TAP_PRIVATE = 0 then s.tapDenied
    else (s.tapLoad TAP_DBG_SELECT 0).onErr fun e => { e with dbgCore := if s.dbgScope (s.corePart c.val) then some c.val else none })

/-- DBG_HALT: as STOP, or as GO, which starts the core afresh. -/
def State.dbgHaltOp (s : State) (c : Nat) (halt : Bool) : State :=
  let run := s.coreState c = 2
  if halt then (if run then s.stopCore c else s)
  else if run then s
  else s.goCore c

def execDbgHalt (halt : Bool) (s : State) : Out :=
  .next (s.dbgInstr TAP_DBG_HALT s.probes fun s c => s.dbgHaltOp c halt)

/-- DBG_REGS on the halted selected core: a register the port has not written holds a free value; both members of a pair take a write. -/
def State.dbgRegsOp (s : State) (c reg : Nat) (wr : Option Word) : State :=
  if s.coreState c != 1 then s
  else match wr with
    | some v => each (s.sharers c) (fun (s : State) k => s.updCoreH k fun h => { h with debugRegs := SMap.ins (SMap.del h.debugRegs reg) reg v }) s
    | none => match regFind (s.coreH c).debugRegs reg with
      | some v => s.tapData [v]
      | none => (s.tapData [s.free]).tick

def execDbgRegs (reg : Nat) (wr : Option Word) (s : State) : Out :=
  .next (s.dbgInstr TAP_DBG_REGS s.probes fun s c => s.dbgRegsOp c reg wr)

/-- DBG_MEM: 8 bytes at a physical address, for the selected core's partition. -/
def State.dbgMemOp (s : State) (c pa : Nat) (wr : Option Word) : State :=
  let a : Acc :=
    { (default : Acc) with
      core := DEBUG_PORT
      src := (if wr.isSome then .store else .load)
      va := pa
      pa := pa
      size := 8
      data := (wr.getD 0).setWidth 512
      attr := .uc
      part := s.corePart c }
  let cs := match paKind pa with | .cs _ _ => true | _ => false
  if 2 ^ 52 ≤ pa || (pa % 8 != 0 && !cs) then s.tapData [0]
  else match s.undecoded pa with
    | some e => s.accFail a e
    | none => s.performNow a

def execDbgMem (pa : Word) (wr : Option Word) (s : State) : Out :=
  .next (s.dbgInstr TAP_DBG_MEM s.probes fun s c => s.dbgMemOp c pa.toNat wr)

/-- The words of a line, low word first. -/
def lineWords (l : Line) : List Word := (List.range 8).map fun i => (l >>> (64 * i)).setWidth 64

def tlbWords (e : TlbEnt) : List Word :=
  if e.valid then [BitVec.ofNat 64 (1 + e.part * 2 + e.asid * 2 ^ 8 + e.bits * 2 ^ 24), BitVec.ofNat 64 e.va, BitVec.ofNat 64 e.pa, e.leaf] else [0]

/-- DBG_ARRAY: one entry of an array of core c or of its die, coded as CACHE_ARRAY_ERROR codes levels; set 256 of level 4 is the L1 TLB.
An entry of a partition outside the scope reads as 0. -/
def State.dbgArrayOp (s : State) (c level set way : Nat) : State :=
  let own := s.dbgScope (s.corePart c)
  let show' (ok : Bool) (l : List Word) : State := s.tapData (if ok then l else [0])
  match level with
  | 0 => show' own [BitVec.ofNat 64 (s.cache.l0.get (c * 32 + way % 32))]
  | 3 =>
    let e := s.cache.dc.get ((dieOf c * 65536 + set % 65536) * 16 + way % 16)
    if e.coh = .i then s.tapData [0]
    else show' (s.dbgScope e.part) (BitVec.ofNat 64 (e.line + e.part * 2 ^ 48 + (match e.coh with | .i => 0 | .s => 1 | .e => 2 | .o => 3 | .m => 4) * 2 ^ 52) ::
      BitVec.ofNat 64 e.presence :: lineWords e.data)
  | 4 =>
    let e := if set = 256 then s.xlat.l1.get (c * 64 + way % 64) else s.xlat.l2.get ((c * 256 + set % 256) * 12 + way % 12)
    show' (s.dbgScope e.part) (tlbWords e)
  | l =>
    let k := (c * 32 + set % 32) * 8 + way % 8
    let b := if l = 2 then s.cache.l1i.get k else s.cache.l1d.get k
    let sec (q : Nat) : Sector := if l = 2 then s.cache.l1iS.get (k * 4 + q) else s.cache.l1dS.get (k * 4 + q)
    show' own (BitVec.ofNat 64 (b.used.toNat + b.tag * 2) :: (List.range 4).flatMap fun q =>
      BitVec.ofNat 64 ((sec q).valid.toNat + (sec q).dirty.toNat * 2) :: lineWords (sec q).data)

def execDbgArray (level : Fin 5) (set way : Nat) (s : State) : Out :=
  .next (s.dbgInstr TAP_DBG_ARRAY (s.dbg F.DBG_STAT_ARRAY_READ = 1) fun s c => s.dbgArrayOp c level.val set way)

end Sys2Proof.Machine
end

