-- ==== Sys2Proof/Machine/Errors.lean ====
section
/-! DEFINITION. The commands of chapter 15 on Gongs and Assay. -/

namespace Sys2Proof.Machine

/-- A Gong reaches a hub (R419); those of other packages only while this package is not isolated. -/
def execGongMessage (_ : Hub) (src : Pkg) (cause unitKind unitNum beat : Nat) (mask : BitVec 16) (s : State) : Out :=
  .next (s.fromPkg src.val fun s => s.gongIn { src := src.val, cause := cause, kind := unitKind, unit := unitNum, beat := beat,
                                               mask := mask.toNat, done := false })

/-- The preparation of an assay block is complete (R427). -/
def execAssayPrepared (i : Fin 14) (s : State) : Out := .next (s.assayReady i.val)

/-- A test of an assay block ends with a signature (R426, R428). -/
def execAssayTestDone (i : Fin 14) (sig : Word) (s : State) : Out := .next (s.assayDone i.val sig)

end Sys2Proof.Machine
end

