-- ==== Sys2Proof/Machine/HostAccess.lean ====
section
/-! DEFINITION. A Service Endpoint host's access to a function's BARs and expansion ROM (R370 to R372). -/

namespace Sys2Proof.Machine

/-! ## The expansion ROM (R371) -/

def romAscii (t : String) : List Byte := t.toList.map fun c => BitVec.ofNat 8 c.toNat

/-- The ROM header and the PCI Data Structure (log entry 31). -/
def romHead : List Byte :=
  leBytes 2 0xAA55 ++ leBytes 22 0 ++ leBytes 2 0x1C ++ leBytes 2 0 ++ romAscii "PCIR" ++ leBytes 2 Config.vendorId.val ++
  leBytes 2 0x0240 ++ leBytes 2 0 ++ leBytes 2 0x1C ++ leBytes 1 3 ++ leBytes 3 0x108000 ++ leBytes 2 16 ++ leBytes 2 0 ++
  leBytes 1 0xFF ++ leBytes 1 0x80 ++ leBytes 6 0

structure SdtEntry where
  kind : Nat
  bar : Nat
  index : Nat
  off : Nat
  size : Nat
  deriving DecidableEq, Repr

/-- The entries of a function's Service Descriptor Table, by its present state. -/
def State.sdtEntries (s : State) (port f : Nat) : List SdtEntry :=
  let p := s.fnPart port f
  if p = 0 then []
  else (List.range (min 4 (s.f (R.PART_INFO p) F.PART_INFO_RINGS))).map (fun i => ⟨1, 0, i, i * 0x1000, 0x1000⟩) ++
    [⟨2, 0, 0, 0x4000, 0x200⟩, ⟨3, 0, 0, 0x4800, 0x800⟩, ⟨4, 0, 0, 0x5000, 0x10⟩] ++
    (if s.f (R.SEP_WIN port f) F.SEP_WIN_VALID = 1 then [⟨5, 2, 0, 0, 0x40000000⟩] else []) ++ [⟨6, 0, 0, 0x6000, 0x40⟩]

def State.sdt (s : State) (port f : Nat) : List Byte :=
  let p := s.fnPart port f
  let es := s.sdtEntries port f
  romAscii "ZL240SDT" ++ leBytes 2 1 ++ leBytes 1 s.pkg ++ leBytes 1 p ++ leBytes 1 f ++ leBytes 1 es.length ++ leBytes 2 0 ++
    es.flatMap fun e => leBytes 1 e.kind ++ leBytes 1 e.bar ++ leBytes 1 e.index ++
      leBytes 1 (s.f (R.PART_INFO p) F.PART_INFO_MAILBOX) ++ leBytes 4 0 ++ leBytes 4 e.off ++ leBytes 4 e.size

/-- Byte i of the expansion ROM. -/
def State.romByte (s : State) (port f i : Nat) : Byte :=
  if i < 0x100 then romHead.getD i 0 else (s.sdt port f).getD (i - 0x100) 0

/-! ## BAR0 (R370) -/

/-- The Control Space offset behind a BAR0 offset: a ring of the partition, its slot's registers, or its buffer. -/
def State.barCs (s : State) (port f off : Nat) : Option Nat :=
  let p := s.fnPart port f
  if off < 0x4000 then
    (if off / 0x1000 < s.f (R.PART_INFO p) F.PART_INFO_RINGS then some (0x8000000 + (4 * p + off / 0x1000) * 0x1000 + off % 0x1000) else none)
  else if off < 0x4200 then some (0xC001000 + p * 0x200 + (off - 0x4000))
  else if 0x4800 ≤ off && off < 0x5000 then some (0xC008000 + p * 0x800 + (off - 0x4800))
  else none

/-- An 8-byte word of the host registers, the MSI-X table and the PBA. -/
def State.barWord (s : State) (port f off : Nat) : Word :=
  let g := s.fn port f
  if off = 0x5008 then BitVec.ofNat 64 g.hostStat
  else if 0x6000 ≤ off && off < 0x6040 then
    let e := (off - 0x6000) / 16
    if off % 16 = 0 then g.msixAddr.get e
    else BitVec.ofNat 64 (g.msixData.get e % 2 ^ 32 + (!bit g.msixMask e).toNat * 2 ^ 32)
  else if off = 0x7000 then BitVec.ofNat 64 g.pba
  else 0

/-- Write a word of those: SEP_HOST_STAT is RW1C, the PBA is read only. -/
def State.barPut (s : State) (port f off : Nat) (v : Word) : State :=
  if off = 0x5008 then
    (s.updFn port f fun g => { g with hostStat := maskOf (without (bitsOf g.hostStat 4) (bitsOf v.toNat 4)) }).setInta port f
  else if 0x6000 ≤ off && off < 0x6040 then
    let e := (off - 0x6000) / 16
    if off % 16 = 0 then s.updFn port f fun g => { g with msixAddr := g.msixAddr.put e v }
    else (s.updFn port f fun g => { g with
      msixData := g.msixData.put e (v.toNat % 2 ^ 32)
      msixMask := if v.toNat.testBit 32 then clearBit g.msixMask e else g.msixMask ||| 2 ^ e }).msixKick port f
  else s

/-- The half of a word that a 4-byte access at an offset means. -/
def halfOf4 (w : Word) (off : Nat) : Word := BitVec.ofNat 64 (w.toNat / 2 ^ (off % 8 * 8) % 2 ^ 32)
def putHalf (w : Word) (off : Nat) (v : Word) : Word :=
  ({ lo := off % 8 * 8, width := 32 } : Fld).set w (v.toNat % 2 ^ 32)

/-- An access meets the MSI-X table, the PBA or the host registers, which take 4-byte and 8-byte accesses. -/
def hostRange (off size : Nat) : Bool :=
  let meets (lo n : Nat) : Bool := off < lo + n && lo < off + size
  meets 0x5000 16 || meets 0x6000 0x40 || meets 0x7000 8

/-- The answer to a host read of these bytes, or to a write. -/
def State.hostData (s : State) (port f : Nat) (bytes : List Byte) (wr : Bool) : State :=
  s.send (.host port f H_CPL (if wr then [] else bytes))

/-- BAR0 (R370). An access of the host registers, the MSI-X table or the PBA of another size than they take is answered with Completer
Abort: DESIGN CHOICE, log entry 89. -/
def State.bar0 (s : State) (port f off size : Nat) (wr : Bool) (v : Word) : State :=
  match s.barCs port f off with
  | some cs =>
    let w : Who := .host (Fin.ofNat 8 port) (Fin.ofNat 8 f)
    if wr then s.csStore w cs size v else s.csLoad w cs size
  | none =>
    if !hostRange off size then s.hostData port f (List.replicate size 0) wr
    else if (size != 4 && size != 8) || off % size != 0 then s.hostReply port f H_CA 0
    else if off / 8 * 8 = 0x5000 then (if wr && off = 0x5000 then s.hostDb port f (v.setWidth 32) else s.hostReply port f H_CPL 0)
    else
      let a := off / 8 * 8
      let old := s.barWord port f a
      if wr then
        -- a 4-byte write of a RW1C word clears nothing in its other half
        let base : Word := if a = 0x5008 then 0 else old
        (s.barPut port f a (if size = 8 then v else putHalf base off v)).hostReply port f H_CPL 0
      else s.hostReply port f H_CPL (if size = 8 then old else halfOf4 old off)

/-! ## The access -/

/-- A request of partition p's function for DRAM; an address that has none fails at its decode (R32, R33). -/
def State.hostDram (s : State) (port f p pa size : Nat) (wr : Bool) (bytes : List Byte) : State :=
  let fail (e : ECode) : State := (s.record e 4 (sepUnit port f) [p] (some pa)).hostReply port f H_UR 0
  match s.undecoded pa with
  | some e => fail e
  | none =>
    if !isDram pa then fail E.PA_UNMAPPED
    else
      let k := sepSeg port
      let ps := linePieces 66 pa size
      let tag := maxOf ((s.seg k).dma.map (·.fwdTxn)) + 1
      let msgs := ps.zipIdx.map fun (e, i) =>
        s.dmaMsg k (if wr then .dmaWr else .dmaRd) e.1 e.2 p (if wr then D_WRITE else if i + 1 = ps.length then D_LAST else D_READ) f tag
          (bytesLine (slice bytes (e.1 - pa) e.2))
      s.dmaPush k msgs

/-- BAR2: the partition's DRAM at SEP_WIN.BASE, as a request of the function that its home checks. -/
def State.bar2 (s : State) (port f off size : Nat) (wr : Bool) (bytes : List Byte) : State :=
  let p := s.fnPart port f
  if p = 0 || s.f (R.SEP_WIN port f) F.SEP_WIN_VALID = 0 || 2 ^ 30 < off + size then s.hostReply port f H_UR 0
  else s.hostDram port f p (s.f (R.SEP_WIN port f) F.SEP_WIN_BASE * 2 ^ 30 + off) size wr bytes

/-- A host access: bar 0 for BAR0, 2 for BAR2, 3 for the expansion ROM. -/
def State.hostAccess (s : State) (port f bar off size : Nat) (wr : Bool) (bytes : List Byte) : State :=
  if !s.fnPresent port f || !s.sepUp port then s
  else if s.fnFenced port f || s.fnInfo port f F.SEP_FN_INFO_FLR_BUSY = 1 then s.hostReply port f H_UR 0
  else if bar = 2 then s.bar2 port f off size wr bytes
  else if s.hostBusy port f then s
  else match bar with
    | 0 => s.bar0 port f off size wr (BitVec.ofNat 64 (leNat (bytes.take 8)))
    | 3 => s.hostData port f ((List.range size).map fun i => s.romByte port f (off + i)) wr
    | _ => s.hostReply port f H_UR 0

def execSepHostAccess (port : Fin 2) (f : Fin 8) (bar : Fin 4) (off size : Nat) (wr : Bool) (bytes : List Byte) (s : State) : Out :=
  .next (s.hostAccess (sepPort port.val) f.val bar.val off size wr bytes)

end Sys2Proof.Machine
end

