-- ==== Sys2Proof/Machine/Pins.lean ====
section
/-! DEFINITION. Events of the lands and of the board (R400, R438 to R444). -/

namespace Sys2Proof.Machine

/-- An analog sensor reads 115 degrees: THERMTRIP_N is asserted even if no logic runs. -/
def execThermtripAnalog (s : State) : Out := .next s.thermtripOn

/-- The rail of a powered die falls: the die resets and is fenced. In Rest every rail is off by design. -/
def execVrPgFall (d : Die) (s : State) : Out :=
  .next (if s.dieState d.val = 0 || s.restState = ST_REST then s else s.fenceDie d.val 1 E.DIE_RESET)

/-- RESET_N is asserted: the package is as after power-on, but for its fuses, the test access port, which RESET_N does not reset,
and what is the model's own. THERMTRIP_N is released. -/
def State.resetIn (s : State) : State :=
  { State.reset with
    boot := { State.reset.boot with advanced := s.boot.advanced }
    err := { State.reset.err with tapIr := s.err.tapIr, tapDr := s.err.tapDr, boundary := s.err.boundary, pinsDriven := s.err.pinsDriven }
    sent := if s.pwr.thermtrip then [.pin "THERMTRIP_N" 0 true] else []
    freeCtr := s.freeCtr
    pending := s.pending }

def execResetAssert (s : State) : Out := .next s.resetIn

/-- The reference clock stops, and with it the beat timebase. -/
def execRefclkLoss (s : State) : Out := .next (s.onBeat fun b => { b with running := false })

/-- A management-bus transaction held for 35 ms is abandoned. Each command of the management bus stands for a whole transaction, so
nothing of an abandoned one has taken effect. -/
def execMgmtBusTimeout (s : State) : Out := .next s

end Sys2Proof.Machine
end

