-- ==== Sys2Proof/Machine/Rest.lean ====
section
/-! DEFINITION. The commands of chapter 14 on Rest, wake and domains that are off (R392 to R404). WAKE_NOTICE stands in Access.lean. -/

namespace Sys2Proof.Machine

/-- m: the answer, from the unit that is off to its requester; wait: its WAIT bit. -/
def execTargetOff (m : CMsg) (wait : Bool) (s : State) : Out := .next (s.arrive m fun s => s.offIn m wait)

def execRestNotice (src : Pkg) (s : State) : Out := .next (s.fromPkg src.val fun s => s.restNoticeIn src.val)

def execRestDrainDone (agree : Bool) (s : State) : Out := .next (s.comparing agree State.restDrain)

def execRestingNotice (src : Pkg) (s : State) : Out := .next (s.fromPkg src.val fun s => s.restingIn src.val)

def execWakeMatch (addr : Fin 128) (s : State) : Out := .next (s.wakeAddr addr.val)

def execWakeStepEnd (ready agree : Bool) (s : State) : Out := .next (s.comparing agree fun s => s.wakeStepDone ready)

end Sys2Proof.Machine
end

