-- ==== Sys2Proof/Machine/Scheduler.lean ====
section
/-! DEFINITION. ARBITER_ROUND: a round of an arbiter (R196), with what a grant of a memory scheduler (R251, R258) or of a crypto ring front
(R346) sets in motion. -/

namespace Sys2Proof.Machine

/-- Who passes a message in this cycle: the winner of a round, or, while a grant lasts, its owner (R199). A burst of no message more
than one, and one counted in fabric cycles or beats that has run out, covers none. -/
def State.arbPasser (s : State) (a : Nat) (reqs : List (Nat × Bool)) (cycle : Nat) : State × Option Nat :=
  let held := s.f (R.ARB_RR a) F.ARB_RR_HELD = 1
  let o := s.f (R.ARB_RR a) F.ARB_RR_OWNER
  let k := s.f (rReq a o) F.ARB_REQ_BURST
  let lasts := if s.f (rReq a o) F.ARB_REQ_UNIT = 1 then (s.arbH a).burstLeft != 0 else k != 0 && cycle < (s.arbH a).grantAt + k
  match s.arbRound a reqs cycle with
  | (s, some w) => (s.updArb a fun h => { h with served := true }, some w)
  | (s, none) => (s, if held && lasts && reqs.any (fun r => r.1 = o) then some o else none)

/-- A round of memory scheduler c: the partitions with a request waiting, filtered by their tokens. Page reads of a rebuild go before other
requests of requester 0 (DESIGN CHOICE, log entry 92). -/
def State.schedRound (s : State) (a : Nat) (reqs : List (Nat × Bool)) (cycle : Nat) : State :=
  let c := a - 24
  let here := reqs.filter fun r => (s.passable c r.1).isSome || (r.1 = 0 && s.rebuildReads c)
  match s.arbPasser a (s.tokenFilter c here) cycle with
  | (s, some p) => if p = 0 && s.rebuildReads c then s.passRead c else s.passReq c p
  | (s, none) => s

/-- A round of a ring front, held when the Island pair can accept a descriptor. Its requesters are the eligible partitions, whatever the operand
says (R346). -/
def State.frontRound (s : State) (a : Nat) (cycle : Nat) : State :=
  let front := a - 40
  let s := s.tokenWaits front
  if 32 ≤ s.inExec then s
  else match s.arbPasser a ((s.frontParts front).map fun p => (p, false)) cycle with
  | (s, some p) => (s.issueDesc front p).tokenWaits front
  | (s, none) => s

/-- reqs: the requesters with a message, and whether its head is reserved; cycle: the fabric cycle. -/
def execArbiterRound (a : Arb) (reqs : List (Nat × Bool)) (cycle : Nat) (s : State) : Out :=
  .next (if 24 ≤ a.val && a.val < 40 then s.schedRound a.val reqs cycle
    else if a.val = 40 || a.val = 41 then s.frontRound a.val cycle
    else (s.arbRound a.val reqs cycle).1)

end Sys2Proof.Machine
end

