-- ==== Sys2Proof/Machine/Startup.lean ====
section
/-! DEFINITION. The commands of start-up (03). -/

namespace Sys2Proof.Machine

/-- RESET_DEASSERT (R65, R66 step 1). -/
def execResetDeassert (strap : Pkg) (s : State) : Out := .next (s.deassert strap.val)

/-- ISLAND_CONFIRM (R66 step 2): each operand says that an Island's fuse read or key derivation succeeded. -/
def execIslandConfirm (fuseA fuseB derA derB : Bool) (s : State) : Out := .next (s.islands (fuseA && fuseB && derA && derB))

/-- ISLAND_CONFIRM_TIMEOUT (R66 step 2): 100 ms from beat 0 without confirmation. -/
def execIslandConfirmTimeout (s : State) : Out := .next (when s.awaitsIslands State.islandFault s)

/-- FLASH_READ_DONE (R69). -/
def execFlashReadDone (h : Hub) (bytes : Option (List Byte)) (flashSize : Nat) (s : State) : Out :=
  .next (s.flashDone h.val bytes flashSize)

/-- IMAGE_VERIFY_DONE (R74 to R76): each operand says that the two Islands reached different results for that hub's copy. -/
def execImageVerifyDone (flipA flipB : Bool) (s : State) : Out := .next (s.verifyDone flipA flipB)

/-- TRAINING_TASK_DONE (R79, R80). -/
def execTrainingTaskDone (task : Nat) (memTask : Bool) (ret : Word) (spd : List Spd) (s : State) : Out :=
  .next (s.taskEnd memTask { task := task, ret := some ret, spd := spd })

/-- MODULE_TIMEOUT (R79): a task runs longer than TIME_LIMIT beats and is stopped. -/
def execModuleTimeout (task : Nat) (memTask : Bool) (spd : List Spd) (s : State) : Out :=
  .next (s.taskEnd memTask { task := task, ret := none, spd := spd })

/-- MGMT_READ_BOOT_STAT (R83). -/
def execMgmtReadBootStat (addr : Fin 128) (s : State) : Out := .next (s.readBootStat addr.val)

end Sys2Proof.Machine
end

