-- ==== Sys2Proof/Machine/Twin.lean ====
section
/-! DEFINITION. The compares of twin pairs (R90 to R99): messages at the hubs, agreement, mismatch and its resolution, the state compare of
a beat, and a member that rejoins. -/

namespace Sys2Proof.Machine

/-! ## Kinds of a compare message: 0 store to cacheable memory, 1 UC or DEV read, 2 UC or DEV write, 3 Control Space read, 4 Control Space
write, 5 atomic operation (operands in data bits [127:0] and [255:128], code above), 6 INT_ACK, 7 INT_EOI, 8 a read of the time register,
9 of the cycle register. -/

def TwinMsg.acc (m : TwinMsg) (core part : Nat) (twin : Bool) : Acc :=
  { core := core, src := if m.kind = 5 then .atomic else if m.kind = 1 || m.kind = 3 then .load else .store, va := m.addr, pa := m.addr,
    size := m.size, data := m.data, attr := m.attr, user := m.user, part := part, twin := twin, lost := [],
    aop := if m.kind = 5 then { code := m.data.toNat / 2 ^ 256, size := m.size, off := m.addr % 64, arg := m.data.setWidth 128,
                                arg2 := (m.data >>> 128).setWidth 128 } else default }

/-- The time register (R85): reference cycles from the beat number once it is adopted, before that since the clock was stable. The cycles of
the beat in progress, and those before adoption, are free; a later read gives no lower value. -/
def State.timeNow (s : State) : Nat :=
  let n := s.f R.BEAT_CFG F.BEAT_CFG_N
  if s.f R.BEAT_SYNC F.BEAT_SYNC_ADOPTED = 1 then max (s.now * n + s.free.toNat % n) (min s.cores.timeRead (s.now * n + (n - 1)))
  else max s.free.toNat s.cores.timeRead

/-- A read of the time register is answered. -/
def State.timeReply (s : State) (core : Nat) : State :=
  let v := s.timeNow
  ((s.coreReply core 0 (BitVec.ofNat 512 (v % 2 ^ 64))).onCores fun k => { k with timeRead := v }).tick

/-- The access of a compare point takes effect, for the pair or for a member that continues alone (R91, R97). -/
def State.twinEffect (s : State) (core : Nat) (m : TwinMsg) (twin : Bool) : State :=
  let c : Core := Fin.ofNat 240 core
  match m.kind with
  | 6 => s.intAckOp (s.selfWho c) core
  | 7 => s.intEoiOp (s.selfWho c) core (m.data.setWidth 64)
  | 8 => s.timeReply core
  | 9 => (s.coreReply core 0 (s.free.setWidth 512)).tick
  | _ => s.performAcc (m.acc core (s.corePart core) twin) false

def State.twinPerform (s : State) (core : Nat) (m : TwinMsg) (twin : Bool) : State := s.asAgreed core fun s => s.twinEffect core m twin

/-- A member that was to stop halts once its compare has completed (R102). -/
def State.twinStop (s : State) (k : Nat) : State :=
  if (s.coreH k).stopping then
    (if s.coreState k = 2 then s.enterHalt k else s).updCoreH k fun h => { h with stopping := false }
  else s

def pairOf (c : Nat) : List Nat := [c, c + 120]

/-- An agreed compare point: the pair's checkpoint (R95, R96). -/
def State.twinAgreed (s : State) (c : Nat) : State :=
  let s := each (pairOf c) (fun (s : State) k => s.updCoreH k fun h => { h with flag := false }) s
  let clear : TwinH → TwinH := fun t => { t with lowerMsg := none, upperMsg := none, mismatched := false, badPoint := none }
  s.onCores fun q => { q with twins := q.twins.upd c clear }

/-- The first mismatch since the last agreed checkpoint: both members roll back (R97, R171). -/
def State.twinRollback (s : State) (c bad : Nat) : State :=
  let roll : TwinH → TwinH := fun t => { t with lowerMsg := none, upperMsg := none, mismatched := true, badPoint := some bad }
  let s := s.onCores fun q => { q with twins := q.twins.upd c roll }
  each (pairOf c) (fun (s : State) k => ((s.dropLoads k).emptyTlbs k).toCore k 4) s

/-- One member is fenced; the other's pending access takes effect, and it continues alone (R97, R98). -/
def State.twinDrop (s : State) (c out : Nat) : State :=
  let t := s.cores.twins.get c
  let m := mirror out
  let msg := if m = c then t.lowerMsg else t.upperMsg
  let s := s.onCores fun q => { q with twins := q.twins.upd c fun t => { t with lowerMsg := none, upperMsg := none } }
  let s := (s.record E.TWIN_DROP 0 out [s.corePart out]).fenceCore out 2 []
  let s := match msg with
    | some x => s.twinPerform m x false
    | none => s
  s.twinStop m

/-- Both members are fenced, and the logical core is lost. -/
def State.twinLost (s : State) (c : Nat) : State :=
  let p := s.corePart c
  let s := s.record E.TWIN_LOST 0 c [p]
  let s := each (pairOf c) (fun s k => (s.dropCore k).purgeCore k []) s
  let s := each (pairOf c) (fun (s : State) k =>
    (((s.setCoreState k 3).setF (R.CORE_STAT k) F.CORE_STAT_FENCE_CAUSE 3).updCoreH k fun h => { h with assayed := false }).maskCore k true) s
  let s := s.updCoreH (c + 120) fun h => { h with pend := [], active := [] }
  let s := each (pairOf c) State.coreEmpty s
  (s.coreLost c).coreLost (c + 120)

/-- A compare point of retired count bad mismatches, or its window expires (R92, R97). -/
def State.twinMismatch (s : State) (c bad : Nat) (timeout : Bool) : State :=
  let fl := if timeout then F.CORE_FAULT_CNT_TWIN_TIMEOUT else F.CORE_FAULT_CNT_TWIN_MISMATCH
  let s := each (pairOf c) (fun s k => s.incF (R.CORE_FAULT_CNT k) fl) s
  if !(s.cores.twins.get c).mismatched then s.twinRollback c bad
  else match (s.coreH c).flag, (s.coreH (c + 120)).flag with
    | true, false => s.twinDrop c c
    | false, true => s.twinDrop c (c + 120)
    | _, _ => s.twinLost c

/-- Both messages are at the hubs: they agree, or mismatch. -/
def State.twinDecide (s : State) (c : Nat) : State :=
  let t := s.cores.twins.get c
  match t.lowerMsg, t.upperMsg with
  | some a, some b =>
    if a = b then
      let s := (s.twinAgreed c).twinPerform c a true
      each (pairOf c) State.twinStop s
    else s.twinMismatch c (max a.retired b.retired) false
  | _, _ => s

/-- A pair whose members both run. -/
def State.pairRuns (s : State) (c : Nat) : Bool := s.paired (s.corePart c) c && s.coreState c = 2 && s.coreState (c + 120) = 2

/-- A member's message reaches the hubs. Its access is issued again while a write of the pair has not completed (R142, R169), or an earlier
access must precede it (R132); the time and cycle registers are no access. -/
def State.twinIn (s : State) (c : Nat) (upper : Bool) (m : TwinMsg) : State :=
  let t := s.cores.twins.get c
  let a := m.acc c (s.corePart c) true
  if !s.pairRuns c || (if upper then t.upperMsg else t.lowerMsg).isSome then s
  else if m.kind < 8 && (s.coreBlocked c || s.devAhead { a with attr := effAttr a.pa a.attr }) then s.toCore (if upper then c + 120 else c) 4
  else
    let t' := if upper then { t with upperMsg := some m, retUpper := m.retired } else { t with lowerMsg := some m, retLower := m.retired }
    let s := s.onCores fun q => { q with twins := q.twins.put c t' }
    (s.count (if upper then c + 120 else c) 0x15 m.user).twinDecide c

def execTwinCompare (c : Fin 120) (upper : Bool) (kind : Nat) (addr : Word) (size : Nat) (attr : Attr) (mask : Mask) (data : Line)
    (retired : Nat) (user : Bool) (s : State) : Out :=
  .next (s.twinIn c.val upper
    { kind := kind, addr := addr.toNat, size := size, attr := attr, mask := mask, data := data, retired := retired, user := user })

/-- 4096 fabric cycles have passed since the first member's message. -/
def State.twinLate (s : State) (c : Nat) : State :=
  let t := s.cores.twins.get c
  match t.lowerMsg, t.upperMsg with
  | some a, none => s.twinMismatch c a.retired true
  | none, some b => s.twinMismatch c b.retired true
  | _, _ => s

def execTwinCompareTimeout (c : Fin 120) (s : State) : Out := .next (s.twinLate c.val)

/-- The signatures of a state compare reach the hubs; a rejoining member takes the solo core's state (R95, R99). -/
def State.stateCompare (s : State) (c : Nat) (a b : Word) (ra rb : Nat) : State :=
  let t := s.cores.twins.get c
  match t.stateCmp with
  | none => s
  | some n =>
    if t.rejoin.isSome then
      let s := s.onCores fun q => { q with twins := q.twins.put c { t with stateCmp := none, retLower := ra, retUpper := rb } }
      s.rejoinPair c
    else if !s.pairRuns c then s
    else
      let s := s.onCores fun q => { q with twins := q.twins.put c { t with retLower := ra, retUpper := rb } }
      if a = b then
        let s := s.onCores fun q => { q with twins := q.twins.upd c fun t => { t with stateCmp := none } }
        each (pairOf c) State.twinStop (s.twinAgreed c)
      else s.twinMismatch c n false

def execTwinStateCompare (c : Fin 120) (sigLower sigUpper : Word) (retLower retUpper : Nat) (s : State) : Out :=
  .next (s.stateCompare c.val sigLower sigUpper retLower retUpper)

end Sys2Proof.Machine
end

