-- ==== Sys2Proof/Machine/Dispatch.lean ====
section
/-! DEFINITION. One arm per command. -/

namespace Sys2Proof.Machine

def exec (i : Instr) (s : State) : Host.Outcome State Fault Refusal :=
  match i with
  | .csRegisterWrite who off size v => Sys2Proof.Machine.execCsRegisterWrite who off size v s
  | .coreLoad c va size user spec => Sys2Proof.Machine.execCoreLoad c va size user spec s
  | .coreStore c va size v user => Sys2Proof.Machine.execCoreStore c va size v user s
  | .coreAtomic c va op size arg arg2 user => Sys2Proof.Machine.execCoreAtomic c va op size arg arg2 user s
  | .coreFetch c va user spec => Sys2Proof.Machine.execCoreFetch c va user spec s
  | .beatBoundary temps ests agree => Sys2Proof.Machine.execBeatBoundary temps ests agree s
  | .budgetReport h unit => Sys2Proof.Machine.execBudgetReport h unit s
  | .budgetStale => Sys2Proof.Machine.execBudgetStale s
  | .powerGrant unit level => Sys2Proof.Machine.execPowerGrant unit level s
  | .avsVdone unit => Sys2Proof.Machine.execAvsVdone unit s
  | .avsTimeout unit => Sys2Proof.Machine.execAvsTimeout unit s
  | .beatMarker p marker beat arrivalPs => Sys2Proof.Machine.execBeatMarker p marker beat arrivalPs s
  | .markerMiss p => Sys2Proof.Machine.execMarkerMiss p s
  | .beatLost => Sys2Proof.Machine.execBeatLost s
  | .pealRequest src target kind body arg refusal => Sys2Proof.Machine.execPealRequest src target kind body arg refusal s
  | .pealArming unit seq target kind body arg agree => Sys2Proof.Machine.execPealArming unit seq target kind body arg agree s
  | .pealAck unit seq => Sys2Proof.Machine.execPealAck unit seq s
  | .pealPackageResult src seq missing => Sys2Proof.Machine.execPealPackageResult src seq missing s
  | .pealVerdict unit seq commit causePkg causeUnit => Sys2Proof.Machine.execPealVerdict unit seq commit causePkg causeUnit s
  | .hallmarkReceived src hallmark ticket beat => Sys2Proof.Machine.execHallmarkReceived src hallmark ticket beat s
  | .resetDeassert strap => Sys2Proof.Machine.execResetDeassert strap s
  | .islandConfirm fuseA fuseB derA derB => Sys2Proof.Machine.execIslandConfirm fuseA fuseB derA derB s
  | .islandConfirmTimeout => Sys2Proof.Machine.execIslandConfirmTimeout s
  | .flashReadDone h bytes flashSize => Sys2Proof.Machine.execFlashReadDone h bytes flashSize s
  | .imageVerifyDone flipA flipB => Sys2Proof.Machine.execImageVerifyDone flipA flipB s
  | .trainingTaskDone task memTask ret spd => Sys2Proof.Machine.execTrainingTaskDone task memTask ret spd s
  | .moduleTimeout task memTask spd => Sys2Proof.Machine.execModuleTimeout task memTask spd s
  | .mgmtReadBootStat addr => Sys2Proof.Machine.execMgmtReadBootStat addr s
  | .checkerMismatch c freshCheckpoint badLines => Sys2Proof.Machine.execCheckerMismatch c freshCheckpoint badLines s
  | .twinCompare c upper kind addr size attr mask data retired user => Sys2Proof.Machine.execTwinCompare c upper kind addr size attr mask data retired user s
  | .twinCompareTimeout c => Sys2Proof.Machine.execTwinCompareTimeout c s
  | .twinInputApply c count => Sys2Proof.Machine.execTwinInputApply c count s
  | .twinStateCompare c sigLower sigUpper retLower retUpper => Sys2Proof.Machine.execTwinStateCompare c sigLower sigUpper retLower retUpper s
  | .coreGo who c => Sys2Proof.Machine.execCoreGo who c s
  | .coreStop who c => Sys2Proof.Machine.execCoreStop who c s
  | .pmuOverflow c n => Sys2Proof.Machine.execPmuOverflow c n s
  | .carillonMessage p v kind core prio rsv late up elsewhere => Sys2Proof.Machine.execCarillonMessage p v kind core prio rsv late up elsewhere s
  | .coreRunNotice pkg c p => Sys2Proof.Machine.execCoreRunNotice pkg c p s
  | .intAck c => Sys2Proof.Machine.execIntAck c s
  | .intEoi c v => Sys2Proof.Machine.execIntEoi c v s
  | .intIpi c v tgtPkg tgtCore => Sys2Proof.Machine.execIntIpi c v tgtPkg tgtCore s
  | .carVecWrite who p v value => Sys2Proof.Machine.execCarVecWrite who p v value s
  | .cmoIssueClean who blk byKind level addr user => Sys2Proof.Machine.execCmoIssueClean who blk byKind level addr user s
  | .cmoIssueInvalidate who blk byKind level addr user => Sys2Proof.Machine.execCmoIssueInvalidate who blk byKind level addr user s
  | .cmoIssueCleanInval who blk byKind level addr user => Sys2Proof.Machine.execCmoIssueCleanInval who blk byKind level addr user s
  | .cmoWalkDone c => Sys2Proof.Machine.execCmoWalkDone c s
  | .l1CtlWrite who c en => Sys2Proof.Machine.execL1CtlWrite who c en s
  | .dcCtlWrite who d en => Sys2Proof.Machine.execDcCtlWrite who d en s
  | .cacheArrayError level unit set way sector correctable => Sys2Proof.Machine.execCacheArrayError level unit set way sector correctable s
  | .walkDescriptor c w => Sys2Proof.Machine.execWalkDescriptor c w s
  | .xlatCtlWrite who c en => Sys2Proof.Machine.execXlatCtlWrite who c en s
  | .xlatBaseWrite who c v => Sys2Proof.Machine.execXlatBaseWrite who c v s
  | .tlbiByVaAsid who c va asid loc => Sys2Proof.Machine.execTlbiByVaAsid who c va asid loc s
  | .tlbiByVa who c va loc => Sys2Proof.Machine.execTlbiByVa who c va loc s
  | .tlbiByAsid who c asid loc => Sys2Proof.Machine.execTlbiByAsid who c asid loc s
  | .tlbiAll who c loc => Sys2Proof.Machine.execTlbiAll who c loc s
  | .tlbiApply pkg c srcPkg src op va asid p => Sys2Proof.Machine.execTlbiApply pkg c srcPkg src op va asid p s
  | .tlbiSync who c => Sys2Proof.Machine.execTlbiSync who c s
  | .tlbiSyncDone c => Sys2Proof.Machine.execTlbiSyncDone c s
  | .routerForward mesh x y dx dy vc form m => Sys2Proof.Machine.execRouterForward mesh x y dx dy vc form m s
  | .transitForward p m => Sys2Proof.Machine.execTransitForward p m s
  | .linkCrcError link payload crc => Sys2Proof.Machine.execLinkCrcError link payload crc s
  | .flitCrcFail mesh => Sys2Proof.Machine.execFlitCrcFail mesh s
  | .creditReturn link vc => Sys2Proof.Machine.execCreditReturn link vc s
  | .regulatorPass a p partialWr m => Sys2Proof.Machine.execRegulatorPass a p partialWr m s
  | .arbiterRound a reqs cycle => Sys2Proof.Machine.execArbiterRound a reqs cycle s
  | .arbiterBackoffEnd a n => Sys2Proof.Machine.execArbiterBackoffEnd a n s
  | .burstExpiry a still cycle => Sys2Proof.Machine.execBurstExpiry a still cycle s
  | .arbClr who a => Sys2Proof.Machine.execArbClr who a s
  | .rdShared h m => Sys2Proof.Machine.execRdShared h m s
  | .rdUnique h m => Sys2Proof.Machine.execRdUnique h m s
  | .upgrade h m => Sys2Proof.Machine.execUpgrade h m s
  | .wtWrite h m => Sys2Proof.Machine.execWtWrite h m s
  | .farAtomic h m => Sys2Proof.Machine.execFarAtomic h m s
  | .cmoClean h m => Sys2Proof.Machine.execCmoClean h m s
  | .cmoCleanInv h m => Sys2Proof.Machine.execCmoCleanInv h m s
  | .dmaRd h m => Sys2Proof.Machine.execDmaRd h m s
  | .dmaWr h m => Sys2Proof.Machine.execDmaWr h m s
  | .ucRd h m => Sys2Proof.Machine.execUcRd h m s
  | .ucWr h m => Sys2Proof.Machine.execUcWr h m s
  | .ucAtomic h m => Sys2Proof.Machine.execUcAtomic h m s
  | .snpShared u m => Sys2Proof.Machine.execSnpShared u m s
  | .snpUnique u m => Sys2Proof.Machine.execSnpUnique u m s
  | .snpInv u m => Sys2Proof.Machine.execSnpInv u m s
  | .snpClean u m => Sys2Proof.Machine.execSnpClean u m s
  | .snpRecall u m => Sys2Proof.Machine.execSnpRecall u m s
  | .snpOrderShared u m => Sys2Proof.Machine.execSnpOrderShared u m s
  | .snpOrderUnique u m => Sys2Proof.Machine.execSnpOrderUnique u m s
  | .snpOrderRecall u m => Sys2Proof.Machine.execSnpOrderRecall u m s
  | .wbDirty h m => Sys2Proof.Machine.execWbDirty h m s
  | .evictClean h m => Sys2Proof.Machine.execEvictClean h m s
  | .wbLost h m => Sys2Proof.Machine.execWbLost h m s
  | .dataS d m => Sys2Proof.Machine.execDataS d m s
  | .dataE d m => Sys2Proof.Machine.execDataE d m s
  | .dataM d m => Sys2Proof.Machine.execDataM d m s
  | .dataO d m => Sys2Proof.Machine.execDataO d m s
  | .snpData h m => Sys2Proof.Machine.execSnpData h m s
  | .dataUc m => Sys2Proof.Machine.execDataUc m s
  | .atomicData c m => Sys2Proof.Machine.execAtomicData c m s
  | .atomicDataSole c m => Sys2Proof.Machine.execAtomicDataSole c m s
  | .comp m => Sys2Proof.Machine.execComp m s
  | .compContended m => Sys2Proof.Machine.execCompContended m s
  | .compAck h m => Sys2Proof.Machine.execCompAck h m s
  | .snpRspI h m => Sys2Proof.Machine.execSnpRspI h m s
  | .snpRspS h m => Sys2Proof.Machine.execSnpRspS h m s
  | .snpRspFwdClean h m => Sys2Proof.Machine.execSnpRspFwdClean h m s
  | .snpRspFwdDirty h m => Sys2Proof.Machine.execSnpRspFwdDirty h m s
  | .snpRspPassed h m => Sys2Proof.Machine.execSnpRspPassed h m s
  | .wbAck d m => Sys2Proof.Machine.execWbAck d m s
  | .retry m => Sys2Proof.Machine.execRetry m s
  | .retryReissue m => Sys2Proof.Machine.execRetryReissue m s
  | .busErr m => Sys2Proof.Machine.execBusErr m s
  | .dirSweepDone h => Sys2Proof.Machine.execDirSweepDone h s
  | .unsureResolve h set way => Sys2Proof.Machine.execUnsureResolve h set way s
  | .dieReset d => Sys2Proof.Machine.execDieReset d s
  | .dieClockLost d => Sys2Proof.Machine.execDieClockLost d s
  | .fenceNotice h pkg d clear => Sys2Proof.Machine.execFenceNotice h pkg d clear s
  | .fenceWalkDone h => Sys2Proof.Machine.execFenceWalkDone h s
  | .lineClear who h line => Sys2Proof.Machine.execLineClear who h line s
  | .dirProbeData who h => Sys2Proof.Machine.execDirProbeData who h s
  | .dramRead ch => Sys2Proof.Machine.execDramRead ch s
  | .memDevOut ch rank sub dev => Sys2Proof.Machine.execMemDevOut ch rank sub dev s
  | .memPageRebuild ch => Sys2Proof.Machine.execMemPageRebuild ch s
  | .dramWrite ch => Sys2Proof.Machine.execDramWrite ch s
  | .pageLockRelease ch page => Sys2Proof.Machine.execPageLockRelease ch page s
  | .parityCacheError h set way correctable => Sys2Proof.Machine.execParityCacheError h set way correctable s
  | .restripePage => Sys2Proof.Machine.execRestripePage s
  | .rankPowerDown ch rank => Sys2Proof.Machine.execRankPowerDown ch rank s
  | .rankRefresh ch rank => Sys2Proof.Machine.execRankRefresh ch rank s
  | .rankCalibration ch rank => Sys2Proof.Machine.execRankCalibration ch rank s
  | .scrubRead ch => Sys2Proof.Machine.execScrubRead ch s
  | .trnWritePattern who ch v => Sys2Proof.Machine.execTrnWritePattern who ch v s
  | .trnReadCompare who ch v => Sys2Proof.Machine.execTrnReadCompare who ch v s
  | .trnWriteReadCompare who ch v => Sys2Proof.Machine.execTrnWriteReadCompare who ch v s
  | .trnDone ch badLines lanes strobe => Sys2Proof.Machine.execTrnDone ch badLines lanes strobe s
  | .channelInitDone ch => Sys2Proof.Machine.execChannelInitDone ch s
  | .caParityError ch => Sys2Proof.Machine.execCaParityError ch s
  | .laserPowerLoss t => Sys2Proof.Machine.execLaserPowerLoss t s
  | .ltLight who link v => Sys2Proof.Machine.execLtLight who link v s
  | .ltLock who link v => Sys2Proof.Machine.execLtLock who link v s
  | .ltAdvertise who link v => Sys2Proof.Machine.execLtAdvertise who link v s
  | .ltConfirm who link v => Sys2Proof.Machine.execLtConfirm who link v s
  | .ltStepDone link good peer peerConfirm fail delay => Sys2Proof.Machine.execLtStepDone link good peer peerConfirm fail delay s
  | .laneCheckFail link wave => Sys2Proof.Machine.execLaneCheckFail link wave s
  | .laneMapOut link wave => Sys2Proof.Machine.execLaneMapOut link wave s
  | .linkLightLoss link => Sys2Proof.Machine.execLinkLightLoss link s
  | .helloReceived p word => Sys2Proof.Machine.execHelloReceived p word s
  | .systemFound => Sys2Proof.Machine.execSystemFound s
  | .joinRequest src h0 => Sys2Proof.Machine.execJoinRequest src h0 s
  | .joinLogDone src hallmark => Sys2Proof.Machine.execJoinLogDone src hallmark s
  | .joinRetry => Sys2Proof.Machine.execJoinRetry s
  | .socketPresence n present => Sys2Proof.Machine.execSocketPresence n present s
  | .socketButton n => Sys2Proof.Machine.execSocketButton n s
  | .socketPwrGood n => Sys2Proof.Machine.execSocketPwrGood n s
  | .socketPwrGoodFall n => Sys2Proof.Machine.execSocketPwrGoodFall n s
  | .socketPowerTimeout n => Sys2Proof.Machine.execSocketPowerTimeout n s
  | .sktPowerOn who n => Sys2Proof.Machine.execSktPowerOn who n s
  | .sktLeave who n => Sys2Proof.Machine.execSktLeave who n s
  | .sktPowerOff who n => Sys2Proof.Machine.execSktPowerOff who n s
  | .leaveDrained src => Sys2Proof.Machine.execLeaveDrained src s
  | .socketPwrEnDrop n => Sys2Proof.Machine.execSocketPwrEnDrop n s
  | .pkgMarkerTimeout src => Sys2Proof.Machine.execPkgMarkerTimeout src s
  | .pkgLostReport src => Sys2Proof.Machine.execPkgLostReport src s
  | .pkgLostReceived src beat => Sys2Proof.Machine.execPkgLostReceived src beat s
  | .pkgLostPwrEnDrop src => Sys2Proof.Machine.execPkgLostPwrEnDrop src s
  | .regionTransferDone agree => Sys2Proof.Machine.execRegionTransferDone agree s
  | .imageUpdateDone ok => Sys2Proof.Machine.execImageUpdateDone ok s
  | .partStartCopyDone p => Sys2Proof.Machine.execPartStartCopyDone p s
  | .attGo who sl => Sys2Proof.Machine.execAttGo who sl s
  | .attReportDone sl agree => Sys2Proof.Machine.execAttReportDone sl agree s
  | .slotSubmitTicket who sl len => Sys2Proof.Machine.execSlotSubmitTicket who sl len s
  | .slotSubmitCommand who sl len => Sys2Proof.Machine.execSlotSubmitCommand who sl len s
  | .slotClear who sl len => Sys2Proof.Machine.execSlotClear who sl len s
  | .ticketVetted sl agree => Sys2Proof.Machine.execTicketVetted sl agree s
  | .ticketAtMaster src sl bytes => Sys2Proof.Machine.execTicketAtMaster src sl bytes s
  | .ticketRemoteVet src bytes agree => Sys2Proof.Machine.execTicketRemoteVet src bytes agree s
  | .ticketVetResult src sl code => Sys2Proof.Machine.execTicketVetResult src sl code s
  | .ticketVetTimeout => Sys2Proof.Machine.execTicketVetTimeout s
  | .officerCmdRest sl => Sys2Proof.Machine.execOfficerCmdRest sl s
  | .officerCmdAssay sl => Sys2Proof.Machine.execOfficerCmdAssay sl s
  | .mgmtSetOffset addr v pec => Sys2Proof.Machine.execMgmtSetOffset addr v pec s
  | .mgmtBufferWrite addr bytes pec => Sys2Proof.Machine.execMgmtBufferWrite addr bytes pec s
  | .mgmtSlotCmd addr v pec => Sys2Proof.Machine.execMgmtSlotCmd addr v pec s
  | .mgmtReadSlotStat addr => Sys2Proof.Machine.execMgmtReadSlotStat addr s
  | .mgmtReadLastTicket addr => Sys2Proof.Machine.execMgmtReadLastTicket addr s
  | .mgmtReadRestStat addr => Sys2Proof.Machine.execMgmtReadRestStat addr s
  | .ringTailWrite who r tail => Sys2Proof.Machine.execRingTailWrite who r tail s
  | .ringCtlWrite who r v => Sys2Proof.Machine.execRingCtlWrite who r v s
  | .ringFetch r n => Sys2Proof.Machine.execRingFetch r n s
  | .cipher r agree => Sys2Proof.Machine.execCipher r agree s
  | .hash r agree => Sys2Proof.Machine.execHash r agree s
  | .macGen r agree => Sys2Proof.Machine.execMacGen r agree s
  | .macVerify r agree => Sys2Proof.Machine.execMacVerify r agree s
  | .pinTranslate r agree => Sys2Proof.Machine.execPinTranslate r agree s
  | .random r agree => Sys2Proof.Machine.execRandom r agree s
  | .sign r agree => Sys2Proof.Machine.execSign r agree s
  | .verify r agree => Sys2Proof.Machine.execVerify r agree s
  | .asymCrypt r agree => Sys2Proof.Machine.execAsymCrypt r agree s
  | .keyGen r agree => Sys2Proof.Machine.execKeyGen r agree s
  | .kbImport r agree => Sys2Proof.Machine.execKbImport r agree s
  | .kbExport r agree => Sys2Proof.Machine.execKbExport r agree s
  | .keyErase r agree => Sys2Proof.Machine.execKeyErase r agree s
  | .keyInfo r agree => Sys2Proof.Machine.execKeyInfo r agree s
  | .pubExport r agree => Sys2Proof.Machine.execPubExport r agree s
  | .pcieCompletion k tag status data => Sys2Proof.Machine.execPcieCompletion k tag status data s
  | .pcieCplTimeout k tag => Sys2Proof.Machine.execPcieCplTimeout k tag s
  | .tagQuarantineEnd k tag => Sys2Proof.Machine.execTagQuarantineEnd k tag s
  | .cfgRead who k => Sys2Proof.Machine.execCfgRead who k s
  | .cfgWrite who k v => Sys2Proof.Machine.execCfgWrite who k v s
  | .cfgRrsRetry k => Sys2Proof.Machine.execCfgRrsRetry k s
  | .pcieMemoryRead k bus addr len tag => Sys2Proof.Machine.execPcieMemoryRead k bus addr len tag s
  | .pcieMemoryWrite k bus addr bytes poisoned => Sys2Proof.Machine.execPcieMemoryWrite k bus addr bytes poisoned s
  | .pcieAtomicop k bus addr op size arg arg2 tag => Sys2Proof.Machine.execPcieAtomicop k bus addr op size arg arg2 tag s
  | .pcieMsi k addr bytes => Sys2Proof.Machine.execPcieMsi k addr bytes s
  | .pcieErrMsg k reqId sev => Sys2Proof.Machine.execPcieErrMsg k reqId sev s
  | .pcieIntx k reqId => Sys2Proof.Machine.execPcieIntx k reqId s
  | .pcieLinkDown k state => Sys2Proof.Machine.execPcieLinkDown k state s
  | .pcieLinkUp k speed width flit => Sys2Proof.Machine.execPcieLinkUp k speed width flit s
  | .segCtlWrite who k v => Sys2Proof.Machine.execSegCtlWrite who k v s
  | .segHotReset who k v => Sys2Proof.Machine.execSegHotReset who k v s
  | .hotResetEnd k => Sys2Proof.Machine.execHotResetEnd k s
  | .slotPowerOn who k v => Sys2Proof.Machine.execSlotPowerOn who k v s
  | .slotPowerOff who k v => Sys2Proof.Machine.execSlotPowerOff who k v s
  | .slotPwrgdTimeout k => Sys2Proof.Machine.execSlotPwrgdTimeout k s
  | .slotPerstRelease k => Sys2Proof.Machine.execSlotPerstRelease k s
  | .slotPwrenDrop k => Sys2Proof.Machine.execSlotPwrenDrop k s
  | .slotPresenceChange k present => Sys2Proof.Machine.execSlotPresenceChange k present s
  | .slotPwrgdFall k => Sys2Proof.Machine.execSlotPwrgdFall k s
  | .slotButton k => Sys2Proof.Machine.execSlotButton k s
  | .sepHostAccess port f bar off size wr bytes => Sys2Proof.Machine.execSepHostAccess port f bar off size wr bytes s
  | .sepHostDb port f v => Sys2Proof.Machine.execSepHostDb port f v s
  | .sepHostInt who port f v => Sys2Proof.Machine.execSepHostInt who port f v s
  | .sepCopyGo who port f v => Sys2Proof.Machine.execSepCopyGo who port f v s
  | .sepCopyDone port f code => Sys2Proof.Machine.execSepCopyDone port f code s
  | .sepBmeClear port f => Sys2Proof.Machine.execSepBmeClear port f s
  | .sepFlr port f => Sys2Proof.Machine.execSepFlr port f s
  | .sepFlrDone port f => Sys2Proof.Machine.execSepFlrDone port f s
  | .sepHostPerst port linkDown => Sys2Proof.Machine.execSepHostPerst port linkDown s
  | .domainDrainDone d cluster => Sys2Proof.Machine.execDomainDrainDone d cluster s
  | .targetOff m wait => Sys2Proof.Machine.execTargetOff m wait s
  | .wakeNotice pkg d => Sys2Proof.Machine.execWakeNotice pkg d s
  | .dieWakeDone d => Sys2Proof.Machine.execDieWakeDone d s
  | .restNotice src => Sys2Proof.Machine.execRestNotice src s
  | .restDrainDone agree => Sys2Proof.Machine.execRestDrainDone agree s
  | .restingNotice src => Sys2Proof.Machine.execRestingNotice src s
  | .restReqWrite who v => Sys2Proof.Machine.execRestReqWrite who v s
  | .pwrHubReqWrite who v => Sys2Proof.Machine.execPwrHubReqWrite who v s
  | .cdPlReqWrite who d k v => Sys2Proof.Machine.execCdPlReqWrite who d k v s
  | .wakeMatch addr => Sys2Proof.Machine.execWakeMatch addr s
  | .wakeStepEnd ready agree => Sys2Proof.Machine.execWakeStepEnd ready agree s
  | .elogTailWrite who n v => Sys2Proof.Machine.execElogTailWrite who n v s
  | .gongMessage h src cause unitKind unitNum beat mask => Sys2Proof.Machine.execGongMessage h src cause unitKind unitNum beat mask s
  | .assayPrepared n => Sys2Proof.Machine.execAssayPrepared n s
  | .assayTestDone n sig => Sys2Proof.Machine.execAssayTestDone n sig s
  | .tapIdcode => Sys2Proof.Machine.execTapIdcode s
  | .tapSamplePreload pins load => Sys2Proof.Machine.execTapSamplePreload pins load s
  | .tapExtest => Sys2Proof.Machine.execTapExtest s
  | .tapClamp => Sys2Proof.Machine.execTapClamp s
  | .tapHighz => Sys2Proof.Machine.execTapHighz s
  | .dbgSelect c => Sys2Proof.Machine.execDbgSelect c s
  | .dbgHalt halt => Sys2Proof.Machine.execDbgHalt halt s
  | .dbgRegs reg wr => Sys2Proof.Machine.execDbgRegs reg wr s
  | .dbgMem pa wr => Sys2Proof.Machine.execDbgMem pa wr s
  | .dbgArray level set way => Sys2Proof.Machine.execDbgArray level set way s
  | .tapBypass => Sys2Proof.Machine.execTapBypass s
  | .thermtripAnalog => Sys2Proof.Machine.execThermtripAnalog s
  | .vrPgFall d => Sys2Proof.Machine.execVrPgFall d s
  | .resetAssert => Sys2Proof.Machine.execResetAssert s
  | .refclkLoss => Sys2Proof.Machine.execRefclkLoss s
  | .laserSwitchDone half => Sys2Proof.Machine.execLaserSwitchDone half s
  | .pcieRecoveryEntry k => Sys2Proof.Machine.execPcieRecoveryEntry k s
  | .pcieRecoveryExit k => Sys2Proof.Machine.execPcieRecoveryExit k s
  | .sepHostPerstRelease port => Sys2Proof.Machine.execSepHostPerstRelease port s
  | .sepHostConfig port f reg wr => Sys2Proof.Machine.execSepHostConfig port f reg wr s
  | .moduleNotAnswering ch => Sys2Proof.Machine.execModuleNotAnswering ch s
  | .moduleTemperature ch hot => Sys2Proof.Machine.execModuleTemperature ch hot s
  | .mgmtBusTimeout => Sys2Proof.Machine.execMgmtBusTimeout s
  | .perstHoldExpiry k => Sys2Proof.Machine.execPerstHoldExpiry k s

end Sys2Proof.Machine
end

