-- ==== Sys2Proof/Safety.lean ====
section
/-! DEFINITION. What a sound state is: the stored bytes and the registers are in their canonical forms, and what two states
are compared by in the statements about frames. -/

namespace Sys2Proof.Machine

/-- Offsets rise strictly and no listed register equals its Reset value (R21). -/
def regsWf (m : SMap Word) : Prop := m.Pairwise (fun a b => a.1 < b.1) ∧ ∀ e ∈ m, e.2 ≠ regReset e.1

/-- The invariant that every command keeps: equal register files and equal DRAM contents are equal data. -/
def State.Inv (s : State) : Prop := Mem.wf s.dram.mem = true ∧ regsWf s.regs

/-- No DRAM byte differs between two states. -/
def State.SameMem (s t : State) : Prop := ∀ c l b, Mem.byte t.dram.mem (cellKey c l b) = Mem.byte s.dram.mem (cellKey c l b)

/-- Every Control Space register but those listed keeps its value. -/
def State.SameRegs (s t : State) (but : List Nat) : Prop := ∀ off, off ∉ but → t.reg off = s.reg off

/-- A command completes with a next state of which P holds. -/
def Completes (c : Instr) (s : State) (P : State → Prop) : Prop := ∃ t, exec c s = .next t ∧ P t

/-- The newest record of an error log (R410). -/
def State.newest (s : State) (log : Nat) : Rec := (s.err.logs.get log).recs.get (((s.err.logs.get log).written - 1) % 120)

/-- The newest record of the package log has this code and names this unit (R407, R409); while RESET_N is asserted no log accepts a
record (R66). -/
def State.Logged (s : State) (e : ECode) (kind unit : Nat) : Prop :=
  s.boot.inReset = false → (s.newest ELOG_PKG).code = e.val ∧ (s.newest ELOG_PKG).kind = kind ∧ (s.newest ELOG_PKG).unit = unit

/-- Nothing changed but the error logs and the messages sent. -/
def State.SameButLogs (s t : State) : Prop := ∃ l m, t = { s with err := { s.err with logs := l }, sent := m }

/-- A requester whose accesses are performed now: it runs, no write of it is outstanding (R142, R169), and it is not a member of a pair
that has still to compare (R91). -/
def State.Issues (s : State) (w : Who) : Prop :=
  s.whoRuns w = true ∧ ∀ c, s.whoCore w = some c → s.coreBlocked c = false ∧ s.unagreed c = false

/-- A core in RUN of which no write is outstanding: its accesses are performed now (R142, R169). -/
def State.Runs (s : State) (c : Nat) : Prop := s.coreState c = 2 ∧ s.coreBlocked c = false

/-- An access of the requester reaches the block of a Control Space offset (R14, R16, R41): the requester issues accesses, its partition is not
fenced, the serving die neither fenced nor powered down, every link on the way carrying flits (R25, R276). -/
def State.Reaches (s : State) (w : Who) (off : Nat) (wr : Bool) : Prop :=
  s.Issues w ∧ off % 8 = 0 ∧ s.partFenced (s.whoPart w) = false ∧
    ∃ b n rel, locate off = some (b, n, rel) ∧ (∀ d, servingDie b n = some d → s.dieFenced d = false ∧ s.dieOff d = false) ∧
      ∀ l ∈ s.csLinks w b n rel wr, s.linkCarries l = true

/-- Control Space lets the requester read (or write) the register at an offset: its access reaches the block, and the right is granted (R306). -/
def State.Admitted (s : State) (w : Who) (off : Nat) (wr : Bool) : Prop :=
  s.Reaches w off wr ∧ whoService w = false ∧ ∃ b n rel, locate off = some (b, n, rel) ∧ trainOnly b n rel = none ∧
    s.csRight (s.whoPart w) b n rel wr = true

/-- Nothing waits for an access of a core to end: no access for a place, no maintenance operation (R142, R143), no invalidation (R167, R168),
no IO message for its route (R284), no access for those before it (R132), no descriptor read for a maintenance operation (R143). -/
def State.NoneWait (s : State) : Prop :=
  s.cache.waitL1 = [] ∧ s.cache.waitDc = [] ∧ s.cache.cmoWait = [] ∧ s.cache.cmoOut = [] ∧ (∀ e ∈ s.cores.hid, e.2.tlbiStall = []) ∧
    (∀ t ∈ s.xlat.tlbis, t.todo ≠ []) ∧ s.links.ioOld = [] ∧ (∀ q ∈ s.cache.direct, q.txn ≠ noTag) ∧ ∀ w ∈ s.xlat.walks, w.held = false

/-- Nothing on its path stops a coherent message of this package: it has come to the end of its way (R179, R188, R193), every link it
crosses is ACTIVE and none pauses (R269, R276), and the package is neither isolated (R58) nor locked (R83). -/
def State.Arrives (s : State) (m : CMsg) : Prop :=
  s.arrived m = true ∧ s.locked = false ∧ (∀ l ∈ s.pathLinks m, s.linkActive l = true ∧ s.paused l = false) ∧ s.beat.isolated = false

/-- A home in home-ordered mode opens a request of a partition for a line at once, in a free slot: the line is homed there, is the
partition's, is in no transfer and is not poisoned, its channel works, nobody holds it, no transaction is open for it and no recall for a
way is, the home's input arbiter holds no grant, and its directory set has an invalid way (R199, R210, R213, R228, R300). -/
def State.Opens (s : State) (h line part slot : Nat) : Prop :=
  s.homedAt h line = true ∧ (part = 0 ∨ (s.inXfer line = false ∧ s.partFenced part = false ∧ s.lineOwner line = part)) ∧
    s.chanDead line = false ∧ s.ordered h = false ∧ s.lineBusy h line = false ∧ s.freeSlot h = some slot ∧
    s.poisonSeen line = false ∧ s.f (R.ARB_RR (62 + h)) F.ARB_RR_HELD = 0 ∧ (∀ t ∈ s.home.txns, t.recallFor = none) ∧ s.dirWay h line = none ∧
    ∃ w < 16, (s.home.dir.get (dirKey h (dirSet line) w)).valid = false

/-- A way of a die's Die Cache. -/
def State.dcAt (s : State) (d line w : Nat) : DcLine := s.cache.dc.get (dcKey d (dcSetOf line) w)

/-- A snoop meets a line that die d holds in its Die Cache only: it arrives, the die is in service, none of its L1s has a copy, and
neither a write-back nor a miss is outstanding for the line (R214, R216, R217). -/
def State.Snooped (s : State) (d : Nat) (m : CMsg) (w : Nat) (l : DcLine) : Prop :=
  s.Arrives m ∧ s.dieFenced d = false ∧ s.dieOff d = false ∧ s.dcWay d m.line = some w ∧
    s.dcAt d m.line w = l ∧ l.presence = 0 ∧ (∀ e ∈ s.cache.wb, e.die = d → e.line ≠ m.line) ∧
    ∀ q ∈ s.cache.dcMiss, q.die = d → q.line ≠ m.line

/-- A message of this opcode for this line is on the fabric. -/
def State.Sends (s : State) (op : COp) (line : Nat) (dst : Unt) (txn : Nat) (data : Line) : Prop :=
  ∃ r, .coh r ∈ s.sent ∧ r.op = op ∧ r.line = line ∧ r.dst = dst ∧ r.txn = txn ∧ r.data = data

/-- A physical address that lies in DRAM which some channel backs (R32). -/
def State.Backed (s : State) (pa : Nat) : Prop := pa < 2 ^ 52 ∧ s.undecoded pa = none ∧ ∃ p, paKind pa = .dram p

/-- An agent's requests now are these, but for the tag of the first, which is on its way to its home (R123, R299). -/
def State.Asks (t : State) (a : Nat) (ms : List CMsg) : Prop :=
  (t.agentQ a).map (fun q => { q with txn := noSlot }) = ms ∧ ∀ q, (t.agentQ a).head? = some q → .coh q ∈ t.sent

/-- Descriptor d of this opcode is the ring's only one in execution, its buffers have been read without error, its lengths and flags are
ones that the service accepts, no request of the ring is outstanding, and its completion word lies in DRAM (R335, R337). -/
def State.Executes (s : State) (r op : Nat) (d : DescH) : Prop :=
  (s.ringH r).exec = [d] ∧ d.done = false ∧ d.told = false ∧ d.need = 0 ∧ d.wait = 0 ∧ d.bad = false ∧ dOp d.bytes = op ∧
    lensOk d.bytes = true ∧ s.agentQ r = [] ∧ s.Backed (s.complPa r d.seq)

/-- The requests that write these bytes at an address for the ring's owner, a line at a time (R335, R336). -/
def State.puts (s : State) (r pa seq : Nat) (bytes : List Byte) : List CMsg :=
  (linePieces (bytes.length / 64 + 2) pa bytes.length).map fun e =>
    s.agentMsg r true e.1 e.2 (s.ringOwner r) A_DST seq (bytesLine (slice bytes (e.1 - pa) e.2))

/-- The destination of ring r's descriptor d takes n bytes, at least one, and lies in DRAM to which the ring's owner has access (R300, R337). -/
def State.Takes (s : State) (r : Nat) (d : DescH) (n : Nat) : Prop :=
  0 < n ∧ n ≤ dDstLen d.bytes ∧ s.Backed (dDstPa d.bytes) ∧ ∀ e ∈ linePieces (n / 64 + 2) (dDstPa d.bytes) n,
    s.agentBarred (s.agentMsg r true e.1 e.2 (s.ringOwner r) A_DST d.seq 0) = false

/-- The result of d, the ring's only descriptor in execution, is staged: its bytes are being written to the destination, and d ends with code
0 and their number once they are (R336). -/
def State.Stages (s t : State) (r : Nat) (d : DescH) (out : List Byte) : Prop :=
  (t.ringH r).exec = [{ d with code := 0, outLen := out.length, wait := (s.puts r (dDstPa d.bytes) d.seq out).length }] ∧
    t.Asks r (s.puts r (dDstPa d.bytes) d.seq out)

/-- The request that writes the completion word of d, with its code and output length (R334, R336). -/
def State.tells (s : State) (r : Nat) (d : DescH) (code n : Nat) : CMsg :=
  s.agentMsg r true (s.complPa r d.seq) 8 (s.ringOwner r) A_DONE d.seq (bytesLine (leBytes 8 (1 + code * 256 + n * 65536)))

/-- d, the ring's only descriptor in execution, has ended with this code and output length, and its completion word is being written (R336). -/
def State.Ended (s t : State) (r : Nat) (d : DescH) (code n : Nat) : Prop :=
  (t.ringH r).exec = [{ d with done := true, told := true, code := code, outLen := n }] ∧ t.Asks r [s.tells r d code n]

/-- An answer to the first request q of the ring's agent arrives at its hub (R335, R336). -/
def State.Answers (s : State) (r : Nat) (m q : CMsg) : Prop :=
  s.Arrives m ∧ m.dst = s.hubUnit (agentHub r) ∧ s.dmaOf (agentHub r) m = none ∧ s.agentOf (agentHub r) m = some r ∧
    (s.agentQ r).head? = some q

/-- The parts of the state that statements about frames name. -/
inductive Component where
  | registers | beat | start | cores | caches | translation | fabric | homes
  | dram          -- the channels' queues, tables and keys together with what the DRAM holds
  | memory        -- what the DRAM holds
  | links | islands | crypto | pcie | power | errors | sent
  | free          -- the model's own counter of free values (log entry 2)
  deriving DecidableEq, Repr

/-- Two states agree in one part. -/
def Component.Same (s t : State) : Component → Prop
  | .registers => t.regs = s.regs
  | .beat => t.beat = s.beat
  | .start => t.boot = s.boot
  | .cores => t.cores = s.cores
  | .caches => t.cache = s.cache
  | .translation => t.xlat = s.xlat
  | .fabric => t.fab = s.fab
  | .homes => t.home = s.home
  | .dram => t.dram = s.dram
  | .memory => t.dram.mem = s.dram.mem
  | .links => t.links = s.links
  | .islands => t.sec = s.sec
  | .crypto => t.crypto = s.crypto
  | .pcie => t.pcie = s.pcie
  | .power => t.pwr = s.pwr
  | .errors => t.err = s.err
  | .sent => t.sent = s.sent ∧ t.flits = s.flits
  | .free => t.freeCtr = s.freeCtr

/-- The parts that a command may change, taken over all its forms and conditions; every other part it leaves as it was. -/
def mayChange : Instr → List Component
  | .mgmtBusTimeout .. => []
  | .flashReadDone .. => [.start]
  | .mgmtReadBootStat .. | .rankRefresh .. | .mgmtReadSlotStat .. | .mgmtReadLastTicket .. | .mgmtReadRestStat .. =>
    [.sent]
  | .trnDone .. | .hotResetEnd .. | .pcieRecoveryEntry .. | .sepHostPerstRelease .. | .moduleTemperature .. =>
    [.registers]
  | .laneCheckFail .. | .pkgLostReport .. => [.links]
  | .partStartCopyDone .. => [.islands]
  | .restNotice .. => [.power]
  | .tapIdcode .. | .tapSamplePreload .. | .tapBypass .. => [.errors]
  | .refclkLoss .. => [.beat]
  | .budgetStale .. | .markerMiss .. | .pmuOverflow .. | .rankPowerDown .. | .socketPwrGood ..
  | .pkgLostPwrEnDrop .. | .sepHostDb .. =>
    [.registers, .sent]
  | .pealAck .. | .pealPackageResult .. | .pealVerdict .. => [.beat, .sent]
  | .creditReturn .. => [.fabric, .sent]
  | .dirSweepDone .. => [.registers, .homes]
  | .rankCalibration .. => [.dram, .sent]
  | .helloReceived .. => [.registers, .links]
  | .joinRetry .. | .pkgMarkerTimeout .. => [.links, .sent]
  | .mgmtSetOffset .. => [.islands, .sent]
  | .tagQuarantineEnd .. | .slotPwrenDrop .. => [.pcie, .sent]
  | .pcieIntx .. | .tapExtest .. | .tapClamp .. | .tapHighz .. | .dbgSelect .. | .dbgArray .. => [.errors, .sent]
  | .sepFlrDone .. => [.registers, .fabric]
  | .wakeMatch .. | .thermtripAnalog .. => [.power, .sent]
  | .powerGrant .. | .avsVdone .. => [.registers, .power, .sent]
  | .beatLost .. => [.beat, .errors, .sent]
  | .resetDeassert .. => [.registers, .beat, .start]
  | .coreRunNotice .. => [.registers, .cores, .sent]
  | .tlbiSyncDone .. => [.cores, .errors, .sent]
  | .regulatorPass .. => [.registers, .fabric, .sent]
  | .memDevOut .. | .socketPowerTimeout .. | .pcieErrMsg .. | .slotButton .. => [.registers, .errors, .sent]
  | .socketPwrEnDrop .. => [.registers, .links, .sent]
  | .ticketVetTimeout .. | .mgmtBufferWrite .. | .mgmtSlotCmd .. => [.registers, .islands, .sent]
  | .pcieMsi .. => [.pcie, .errors, .sent]
  | .sepCopyDone .. | .pcieRecoveryExit .. => [.registers, .pcie, .sent]
  | .restingNotice .. => [.registers, .cores, .power]
  | .elogTailWrite .. => [.power, .errors, .sent]
  | .laserSwitchDone .. => [.fabric, .links, .sent]
  | .budgetReport .. | .avsTimeout .. | .l1CtlWrite .. | .dcCtlWrite .. | .xlatCtlWrite .. | .xlatBaseWrite ..
  | .arbClr .. | .ltLight .. | .ltLock .. | .ltAdvertise .. | .ltConfirm .. | .restReqWrite .. | .pwrHubReqWrite ..
  | .cdPlReqWrite .. =>
    [.registers, .power, .errors, .sent]
  | .beatMarker .. => [.registers, .beat, .links, .sent]
  | .carillonMessage .. | .dbgHalt .. => [.registers, .cores, .errors, .sent]
  | .cmoWalkDone .. => [.registers, .caches, .errors, .sent]
  | .tlbiSync .. => [.cores, .power, .errors, .sent]
  | .routerForward .. => [.registers, .fabric, .errors, .sent]
  | .joinRequest .. | .socketPresence .. | .socketPwrGoodFall .. => [.registers, .links, .errors, .sent]
  | .officerCmdRest .. => [.registers, .islands, .sent, .free]
  | .pcieMemoryRead .. | .pcieMemoryWrite .. | .pcieAtomicop .. => [.caches, .pcie, .errors, .sent]
  | .slotPwrgdTimeout .. | .sepBmeClear .. => [.registers, .pcie, .errors, .sent]
  | .slotPerstRelease .. | .sepFlr .. | .perstHoldExpiry .. => [.registers, .fabric, .pcie, .sent]
  | .sepHostInt .. => [.pcie, .power, .errors, .sent]
  | .gongMessage .. => [.beat, .power, .errors, .sent]
  | .assayPrepared .. | .assayTestDone .. => [.registers, .dram, .memory, .errors]
  | .dbgRegs .. => [.cores, .errors, .sent, .free]
  | .hallmarkReceived .. => [.registers, .beat, .start, .errors, .sent]
  | .islandConfirmTimeout .. => [.registers, .start, .pcie, .errors, .sent]
  | .coreGo .. | .coreStop .. | .intAck .. | .intEoi .. | .intIpi .. | .carVecWrite .. =>
    [.registers, .cores, .power, .errors, .sent]
  | .transitForward .. => [.registers, .fabric, .links, .errors, .sent]
  | .wbLost .. => [.registers, .homes, .dram, .links, .sent]
  | .pageLockRelease .. | .parityCacheError .. | .restripePage .. | .scrubRead .. =>
    [.registers, .dram, .memory, .errors, .sent]
  | .laserPowerLoss .. => [.registers, .beat, .links, .errors, .sent]
  | .leaveDrained .. => [.registers, .beat, .homes, .links, .sent]
  | .imageUpdateDone .. => [.registers, .start, .islands, .errors, .sent]
  | .attGo .. | .slotSubmitTicket .. | .slotSubmitCommand .. | .slotClear .. =>
    [.registers, .islands, .power, .errors, .sent]
  | .attReportDone .. | .ticketVetted .. => [.registers, .beat, .islands, .errors, .sent]
  | .ticketAtMaster .. | .ticketVetResult .. => [.registers, .beat, .homes, .islands, .sent]
  | .ringTailWrite .. | .ringCtlWrite .. => [.registers, .crypto, .power, .errors, .sent]
  | .cfgRead .. | .cfgWrite .. => [.registers, .pcie, .power, .errors, .sent]
  | .pcieLinkUp .. | .sepHostConfig .. => [.registers, .fabric, .pcie, .errors, .sent]
  | .dieWakeDone .. => [.registers, .caches, .fabric, .power, .sent]
  | .pealRequest .. | .joinLogDone .. | .socketButton .. => [.registers, .beat, .homes, .links, .errors, .sent]
  | .islandConfirm .. => [.registers, .start, .pcie, .errors, .sent, .free]
  | .cmoIssueClean .. | .cmoIssueInvalidate .. | .cmoIssueCleanInval .. =>
    [.registers, .caches, .translation, .power, .errors, .sent]
  | .tlbiApply .. => [.registers, .cores, .caches, .translation, .errors, .sent]
  | .retry .. => [.registers, .caches, .links, .crypto, .pcie, .sent]
  | .fenceWalkDone .. => [.registers, .homes, .dram, .memory, .errors, .sent]
  | .ringFetch .. => [.registers, .caches, .islands, .crypto, .errors, .sent]
  | .sepCopyGo .. => [.registers, .caches, .pcie, .power, .errors, .sent]
  | .imageVerifyDone .. => [.registers, .beat, .start, .islands, .pcie, .errors, .sent]
  | .twinInputApply .. => [.registers, .cores, .caches, .translation, .homes, .errors, .sent]
  | .tlbiByVaAsid .. | .tlbiByVa .. | .tlbiByAsid .. | .tlbiAll .. =>
    [.registers, .cores, .caches, .translation, .power, .errors, .sent]
  | .wbDirty .. | .evictClean .. => [.registers, .homes, .dram, .memory, .links, .errors, .sent]
  | .retryReissue .. => [.registers, .caches, .islands, .crypto, .pcie, .errors, .sent]
  | .dirProbeData .. => [.registers, .homes, .dram, .memory, .power, .errors, .sent]
  | .trnWritePattern .. | .trnReadCompare .. | .trnWriteReadCompare .. =>
    [.registers, .dram, .memory, .power, .errors, .sent, .free]
  | .channelInitDone .. => [.registers, .start, .dram, .memory, .pcie, .errors, .sent]
  | .sktPowerOn .. | .sktLeave .. | .sktPowerOff .. => [.registers, .beat, .homes, .links, .power, .errors, .sent]
  | .cipher .. | .hash .. | .macGen .. | .macVerify .. | .verify .. | .kbImport .. | .keyErase .. | .pubExport .. =>
    [.registers, .beat, .caches, .islands, .crypto, .errors, .sent]
  | .pcieCompletion .. | .pcieCplTimeout .. | .cfgRrsRetry .. =>
    [.registers, .cores, .caches, .translation, .pcie, .errors, .sent]
  | .cacheArrayError .. => [.registers, .caches, .translation, .homes, .dram, .memory, .errors, .sent]
  | .arbiterRound .. => [.registers, .caches, .fabric, .dram, .islands, .crypto, .errors, .sent]
  | .laneMapOut .. | .linkLightLoss .. => [.registers, .beat, .start, .fabric, .homes, .links, .errors, .sent]
  | .officerCmdAssay .. => [.registers, .beat, .homes, .links, .islands, .errors, .sent, .free]
  | .pinTranslate .. | .random .. | .sign .. | .asymCrypt .. | .keyGen .. | .kbExport .. | .keyInfo .. =>
    [.registers, .beat, .caches, .islands, .crypto, .errors, .sent, .free]
  | .pcieLinkDown .. | .slotPresenceChange .. | .slotPwrgdFall .. | .sepHostPerst .. =>
    [.registers, .cores, .caches, .translation, .fabric, .pcie, .errors, .sent]
  | .pealArming .. => [.registers, .beat, .start, .dram, .memory, .islands, .errors, .sent, .free]
  | .arbiterBackoffEnd .. | .burstExpiry .. | .unsureResolve .. | .dramRead .. | .memPageRebuild .. | .dramWrite ..
  | .caParityError .. | .moduleNotAnswering .. =>
    [.registers, .caches, .fabric, .homes, .dram, .memory, .islands, .errors, .sent]
  | .snpShared .. | .snpUnique .. | .snpInv .. | .snpClean .. | .snpRecall .. | .snpOrderShared ..
  | .snpOrderUnique .. | .snpOrderRecall .. =>
    [.registers, .cores, .caches, .homes, .dram, .memory, .links, .errors, .sent]
  | .segCtlWrite .. | .segHotReset .. | .slotPowerOn .. | .slotPowerOff .. =>
    [.registers, .cores, .caches, .translation, .fabric, .pcie, .power, .errors, .sent]
  | .rdShared .. | .rdUnique .. | .upgrade .. | .wtWrite .. | .farAtomic .. | .cmoClean .. | .cmoCleanInv ..
  | .dmaRd .. | .dmaWr .. | .ucAtomic .. | .snpData .. | .compAck .. | .snpRspI .. | .snpRspS ..
  | .snpRspFwdClean .. | .snpRspFwdDirty .. | .snpRspPassed .. =>
    [.registers, .caches, .fabric, .homes, .dram, .memory, .links, .islands, .errors, .sent]
  | .dataS .. | .dataE .. | .dataM .. | .dataO .. =>
    [.registers, .cores, .caches, .translation, .homes, .dram, .memory, .links, .errors, .sent]
  | .dataUc .. | .atomicData .. | .atomicDataSole .. | .busErr .. =>
    [.registers, .cores, .caches, .translation, .links, .islands, .crypto, .pcie, .errors, .sent]
  | .fenceNotice .. => [.registers, .cores, .caches, .fabric, .homes, .dram, .memory, .islands, .errors, .sent]
  | .lineClear .. => [.registers, .caches, .fabric, .homes, .dram, .memory, .islands, .power, .errors, .sent]
  | .systemFound .. => [.registers, .beat, .start, .cores, .homes, .dram, .memory, .links, .errors, .sent]
  | .checkerMismatch .. =>
    [.registers, .cores, .caches, .translation, .fabric, .homes, .dram, .memory, .pcie, .errors, .sent]
  | .wbAck .. => [.registers, .cores, .caches, .translation, .homes, .links, .islands, .crypto, .pcie, .errors, .sent]
  | .regionTransferDone .. =>
    [.registers, .beat, .caches, .fabric, .homes, .dram, .memory, .islands, .errors, .sent, .free]
  | .domainDrainDone .. =>
    [.registers, .beat, .start, .caches, .fabric, .homes, .dram, .memory, .power, .errors, .sent]
  | .targetOff .. =>
    [.registers, .cores, .caches, .translation, .homes, .links, .islands, .crypto, .pcie, .power, .errors, .sent]
  | .flitCrcFail .. | .dieReset .. | .dieClockLost .. | .vrPgFall .. =>
    [.registers, .beat, .cores, .caches, .translation, .fabric, .homes, .dram, .memory, .islands, .power, .errors,
     .sent]
  | .comp .. | .compContended .. =>
    [.registers, .cores, .caches, .translation, .homes, .dram, .memory, .links, .islands, .crypto, .pcie, .errors,
     .sent]
  | .restDrainDone .. =>
    [.registers, .beat, .cores, .caches, .translation, .fabric, .homes, .dram, .memory, .islands, .pcie, .power,
     .errors, .sent]
  | .linkCrcError .. | .ltStepDone .. =>
    [.registers, .beat, .start, .cores, .caches, .translation, .fabric, .homes, .dram, .memory, .links, .islands,
     .power, .errors, .sent]
  | .trainingTaskDone .. | .moduleTimeout .. =>
    [.registers, .beat, .start, .cores, .caches, .translation, .fabric, .homes, .dram, .memory, .links, .islands,
     .pcie, .power, .errors, .sent]
  | .pkgLostReceived .. =>
    [.registers, .beat, .cores, .caches, .translation, .fabric, .homes, .dram, .memory, .links, .islands, .crypto,
     .pcie, .power, .errors, .sent]
  | .csRegisterWrite .. | .coreLoad .. | .coreStore .. | .coreAtomic .. | .coreFetch .. | .twinCompare ..
  | .twinCompareTimeout .. | .twinStateCompare .. | .walkDescriptor .. | .ucRd .. | .ucWr .. | .sepHostAccess ..
  | .wakeNotice .. | .dbgMem .. =>
    [.registers, .beat, .cores, .caches, .translation, .fabric, .homes, .dram, .memory, .links, .islands, .crypto,
     .pcie, .power, .errors, .sent, .free]
  | .beatBoundary .. | .ticketRemoteVet .. | .wakeStepEnd .. | .resetAssert .. =>
    [.registers, .beat, .start, .cores, .caches, .translation, .fabric, .homes, .dram, .memory, .links, .islands,
     .crypto, .pcie, .power, .errors, .sent, .free]

end Sys2Proof.Machine
end

