-- ==== Sys2Proof/WellFormed.lean ====
section
/-! DEFINITION. Which commands are well formed: an operand that a type does not bound holds a value that its row of the
opcode table can carry. Unit numbers, registers and lines are bounded by the types of Syntax.lean. -/

namespace Sys2Proof

/-- The sizes of a Control Space access (R13) and of a host's access. -/
def accessSize (n : Nat) : Bool := n == 1 || n == 2 || n == 4 || n == 8

/-- The sizes of a core's load or store within one line. -/
def lineSize (n : Nat) : Bool := accessSize n || n == 16 || n == 32 || n == 64

/-- The sizes of an atomic operation (R222). -/
def atomicSize (n : Nat) : Bool := accessSize n || n == 16

/-- A sequence number of a Peal runs from 1 to 65535 (R52). -/
def seqOk (n : Nat) : Bool := decide (1 ≤ n) && decide (n ≤ 65535)

/-- Only a change of kind 0 carries a ticket (R64 KIND). -/
def changeOk (kind : Nat) (body : List Byte) : Bool := decide (kind ≤ 4) && (kind == 0 || body == [] || (kind == 2 && body.length == 240))

/-- A unit field names a core, a die or a hub of a package (R181). -/
def Unt.ok (u : Unt) : Bool := decide (u.pkg < 8) && (decide (u.unit < 240) || (decide (0xF0 ≤ u.unit) && decide (u.unit ≤ 0xFD)))

/-- The header fields of a message fit their widths (R181). -/
def CMsg.ok (m : CMsg) : Bool :=
  decide (m.line < 2 ^ 46) && m.src.ok && m.dst.ok && decide (m.txn < 4096) && decide (m.part < 16)

/-- A message of the row's own opcode. -/
def CMsg.is (m : CMsg) (op : COp) : Bool := m.ok && m.op == op

/-- Sets and ways of an array: 0 L0, 1 L1D, 2 L1I, 3 the Die Cache, 4 the TLBs (R117, R135, R162). -/
def arrayOk (level set way : Nat) : Bool :=
  match level with
  | 0 => set == 0 && decide (way < 32)
  | 1 | 2 => decide (set < 32) && decide (way < 8)
  | 3 => decide (set < 65536) && decide (way < 16)
  | _ => decide (set < 256) && decide (way < 64)

/-- Sets and ways that DBG_ARRAY can name. -/
def dbgArrayOk (level set way : Nat) : Bool :=
  match level with
  | 0 => decide (way < 32)
  | 1 | 2 => decide (set < 32) && decide (way < 8)
  | 3 => decide (set < 65536) && decide (way < 16)
  | _ => decide (set ≤ 256) && decide (way < 64)

def Instr.wf : Instr → Bool
  | .csRegisterWrite _ _ size _ => accessSize size
  | .coreLoad _ va size _ _ => lineSize size && va.toNat % size == 0
  | .coreStore _ va size _ _ => lineSize size && va.toNat % size == 0
  | .coreAtomic _ va op size _ _ _ => atomicSize size && va.toNat % size == 0 && decide (op < 0x100)
  | .coreFetch _ va _ _ => va.toNat % 4 == 0
  | .beatBoundary temps ests _ => temps.length == 14 && ests.length == 14 && ests.all fun l => l.length == 8
  | .budgetReport _ _ => true
  | .budgetStale => true
  | .powerGrant _ _ => true
  | .avsVdone _ => true
  | .avsTimeout _ => true
  | .beatMarker _ _ _ _ => true
  | .markerMiss _ => true
  | .beatLost => true
  | .pealRequest _ _ kind body _ refusal => changeOk kind.val body && refusal.all fun c => 3 ≤ c.val && c.val ≤ 5
  | .pealArming _ seq _ kind body _ _ => seqOk seq && changeOk kind.val body
  | .pealAck _ seq => seqOk seq
  | .pealPackageResult _ seq _ => seqOk seq
  | .pealVerdict _ seq _ _ _ => seqOk seq
  | .hallmarkReceived _ _ _ _ => true
  | .resetDeassert _ => true
  | .islandConfirm _ _ _ _ => true
  | .islandConfirmTimeout => true
  | .flashReadDone _ _ _ => true
  | .imageVerifyDone _ _ => true
  | .trainingTaskDone task memTask _ spd => decide (task < 0x28) && (spd == [] || (!memTask && decide (0x10 ≤ task) && decide (task < 0x1C)))
  | .moduleTimeout task memTask spd => decide (task < 0x28) && (spd == [] || (!memTask && decide (0x10 ≤ task) && decide (task < 0x1C)))
  | .mgmtReadBootStat _ => true
  | .checkerMismatch _ _ _ => true
  | .twinCompare _ _ kind _ size _ _ _ _ _ => decide (kind ≤ 9) && (kind != 0 || accessSize size || lineSize size)
  | .twinCompareTimeout _ => true
  | .twinInputApply _ _ => true
  | .twinStateCompare _ _ _ _ _ => true
  | .coreGo _ _ => true
  | .coreStop _ _ => true
  | .pmuOverflow _ _ => true
  | .carillonMessage _ _ _ _ _ _ _ _ _ => true
  | .coreRunNotice _ _ _ => true
  | .intAck _ => true
  | .intEoi _ _ => true
  | .intIpi _ _ _ _ => true
  | .carVecWrite _ _ _ _ => true
  | .cmoIssueClean _ _ _ _ _ _ => true
  | .cmoIssueInvalidate _ _ _ _ _ _ => true
  | .cmoIssueCleanInval _ _ _ _ _ _ => true
  | .cmoWalkDone _ => true
  | .l1CtlWrite _ _ _ => true
  | .dcCtlWrite _ _ _ => true
  | .cacheArrayError level _ set way _ _ => arrayOk level.val set way
  | .walkDescriptor _ _ => true
  | .xlatCtlWrite _ _ _ => true
  | .xlatBaseWrite _ _ _ => true
  | .tlbiByVaAsid _ _ _ _ _ => true
  | .tlbiByVa _ _ _ _ => true
  | .tlbiByAsid _ _ _ _ => true
  | .tlbiAll _ _ _ => true
  | .tlbiApply _ _ _ _ _ _ _ _ => true
  | .tlbiSync _ _ => true
  | .tlbiSyncDone _ => true
  | .routerForward _ _ _ _ _ _ _ m => m.ok
  | .transitForward _ m => m.ok
  | .linkCrcError link _ _ => decide (link < 22) || (decide (32 ≤ link) && decide (link < 32 + 14 * 64))
  | .flitCrcFail _ => true
  | .creditReturn link _ => decide (link < 32 + 14 * 64)
  | .regulatorPass _ _ _ m => m.ok
  | .arbiterRound _ reqs _ => reqs.all fun r => decide (r.1 < 16)
  | .arbiterBackoffEnd _ _ => true
  | .burstExpiry _ _ _ => true
  | .arbClr _ _ => true
  | .rdShared _ m => m.is .rdShared
  | .rdUnique _ m => m.is .rdUnique
  | .upgrade _ m => m.is .upgrade
  | .wtWrite _ m => m.is .wtWrite
  | .farAtomic _ m => m.is .farAtomic
  | .cmoClean _ m => m.is .cmoClean
  | .cmoCleanInv _ m => m.is .cmoCleanInv
  | .dmaRd _ m => m.is .dmaRd
  | .dmaWr _ m => m.is .dmaWr
  | .ucRd _ m => m.is .ucRd
  | .ucWr _ m => m.is .ucWr
  | .ucAtomic _ m => m.is .ucAtomic
  | .snpShared _ m => m.is .snpShared
  | .snpUnique _ m => m.is .snpUnique
  | .snpInv _ m => m.is .snpInv
  | .snpClean _ m => m.is .snpClean
  | .snpRecall _ m => m.is .snpRecall
  | .snpOrderShared _ m => m.is .snpOrderShared
  | .snpOrderUnique _ m => m.is .snpOrderUnique
  | .snpOrderRecall _ m => m.is .snpOrderRecall
  | .wbDirty _ m => m.is .wbDirty
  | .evictClean _ m => m.is .evictClean
  | .wbLost _ m => m.is .wbLost
  | .dataS _ m => m.is .dataS
  | .dataE _ m => m.is .dataE
  | .dataM _ m => m.is .dataM
  | .dataO _ m => m.is .dataO
  | .snpData _ m => m.is .snpData
  | .dataUc m => m.is .dataUc
  | .atomicData _ m => m.is .atomicData
  | .atomicDataSole _ m => m.is .atomicDataSole
  | .comp m => m.is .comp
  | .compContended m => m.is .compContended
  | .compAck _ m => m.is .compAck
  | .snpRspI _ m => m.is .snpRspI
  | .snpRspS _ m => m.is .snpRspS
  | .snpRspFwdClean _ m => m.is .snpRspFwdClean
  | .snpRspFwdDirty _ m => m.is .snpRspFwdDirty
  | .snpRspPassed _ m => m.is .snpRspPassed
  | .wbAck _ m => m.is .wbAck
  | .retry m => m.is .retry
  | .retryReissue m => m.ok
  | .busErr m => m.is .busErr
  | .dirSweepDone _ => true
  | .unsureResolve _ _ _ => true
  | .dieReset _ => true
  | .dieClockLost _ => true
  | .fenceNotice _ _ _ _ => true
  | .fenceWalkDone _ => true
  | .lineClear _ _ _ => true
  | .dirProbeData _ _ => true
  | .dramRead _ => true
  | .memDevOut _ _ _ _ => true
  | .memPageRebuild _ => true
  | .dramWrite _ => true
  | .pageLockRelease _ _ => true
  | .parityCacheError _ _ _ _ => true
  | .restripePage => true
  | .rankPowerDown _ _ => true
  | .rankRefresh _ _ => true
  | .rankCalibration _ _ => true
  | .scrubRead _ => true
  | .trnWritePattern _ _ _ => true
  | .trnReadCompare _ _ _ => true
  | .trnWriteReadCompare _ _ _ => true
  | .trnDone _ badLines _ _ => decide (badLines.length ≤ 65535)
  | .channelInitDone _ => true
  | .caParityError _ => true
  | .laserPowerLoss _ => true
  | .ltLight _ _ _ => true
  | .ltLock _ _ _ => true
  | .ltAdvertise _ _ _ => true
  | .ltConfirm _ _ _ => true
  | .ltStepDone _ _ _ _ _ _ => true
  | .laneCheckFail _ _ => true
  | .laneMapOut _ _ => true
  | .linkLightLoss _ => true
  | .helloReceived _ _ => true
  | .systemFound => true
  | .joinRequest _ _ => true
  | .joinLogDone _ _ => true
  | .joinRetry => true
  | .socketPresence _ _ => true
  | .socketButton _ => true
  | .socketPwrGood _ => true
  | .socketPwrGoodFall _ => true
  | .socketPowerTimeout _ => true
  | .sktPowerOn _ _ => true
  | .sktLeave _ _ => true
  | .sktPowerOff _ _ => true
  | .leaveDrained _ => true
  | .socketPwrEnDrop _ => true
  | .pkgMarkerTimeout _ => true
  | .pkgLostReport _ => true
  | .pkgLostReceived _ _ => true
  | .pkgLostPwrEnDrop _ => true
  | .regionTransferDone _ => true
  | .imageUpdateDone _ => true
  | .partStartCopyDone _ => true
  | .attGo _ _ => true
  | .attReportDone _ _ => true
  | .slotSubmitTicket _ _ _ => true
  | .slotSubmitCommand _ _ _ => true
  | .slotClear _ _ _ => true
  | .ticketVetted _ _ => true
  | .ticketAtMaster _ _ bytes => decide (bytes.length ≤ 4096)
  | .ticketRemoteVet _ bytes _ => decide (bytes.length ≤ 4096)
  | .ticketVetResult _ _ _ => true
  | .ticketVetTimeout => true
  | .officerCmdRest _ => true
  | .officerCmdAssay _ => true
  | .mgmtSetOffset _ _ _ => true
  | .mgmtBufferWrite _ bytes _ => decide (bytes.length ≤ 32)
  | .mgmtSlotCmd _ _ _ => true
  | .mgmtReadSlotStat _ => true
  | .mgmtReadLastTicket _ => true
  | .mgmtReadRestStat _ => true
  | .ringTailWrite _ _ _ => true
  | .ringCtlWrite _ _ _ => true
  | .ringFetch _ _ => true
  | .cipher _ _ => true
  | .hash _ _ => true
  | .macGen _ _ => true
  | .macVerify _ _ => true
  | .pinTranslate _ _ => true
  | .random _ _ => true
  | .sign _ _ => true
  | .verify _ _ => true
  | .asymCrypt _ _ => true
  | .keyGen _ _ => true
  | .kbImport _ _ => true
  | .kbExport _ _ => true
  | .keyErase _ _ => true
  | .keyInfo _ _ => true
  | .pubExport _ _ => true
  | .pcieCompletion _ _ _ _ => true
  | .pcieCplTimeout _ _ => true
  | .tagQuarantineEnd _ _ => true
  | .cfgRead _ _ => true
  | .cfgWrite _ _ _ => true
  | .cfgRrsRetry _ => true
  | .pcieMemoryRead _ _ _ len tag => decide (1 ≤ len) && decide (len ≤ 4096) && decide (tag < 1024)
  | .pcieMemoryWrite _ _ _ bytes _ => decide (1 ≤ bytes.length) && decide (bytes.length ≤ 4096)
  | .pcieAtomicop _ _ _ _ _ _ _ tag => decide (tag < 1024)
  | .pcieMsi _ _ bytes => decide (bytes.length ≤ 4)
  | .pcieErrMsg _ _ _ => true
  | .pcieIntx _ _ => true
  | .pcieLinkDown _ _ => true
  | .pcieLinkUp _ _ _ _ => true
  | .segCtlWrite _ _ _ => true
  | .segHotReset _ _ _ => true
  | .hotResetEnd _ => true
  | .slotPowerOn _ _ _ => true
  | .slotPowerOff _ _ _ => true
  | .slotPwrgdTimeout _ => true
  | .slotPerstRelease _ => true
  | .slotPwrenDrop _ => true
  | .slotPresenceChange _ _ => true
  | .slotPwrgdFall _ => true
  | .slotButton _ => true
  | .sepHostAccess _ _ _ _ size wr bytes => decide (1 ≤ size) && decide (size ≤ if wr then 512 else 4096) && (!wr || bytes.length == size)
  | .sepHostDb _ _ _ => true
  | .sepHostInt _ _ _ _ => true
  | .sepCopyGo _ _ _ _ => true
  | .sepCopyDone _ _ _ => true
  | .sepBmeClear _ _ => true
  | .sepFlr _ _ => true
  | .sepFlrDone _ _ => true
  | .sepHostPerst _ _ => true
  | .domainDrainDone _ _ => true
  | .targetOff m _ => m.is .targetOff
  | .wakeNotice _ _ => true
  | .dieWakeDone _ => true
  | .restNotice _ => true
  | .restDrainDone _ => true
  | .restingNotice _ => true
  | .restReqWrite _ _ => true
  | .pwrHubReqWrite _ _ => true
  | .cdPlReqWrite _ _ _ _ => true
  | .wakeMatch _ => true
  | .wakeStepEnd _ _ => true
  | .elogTailWrite _ _ _ => true
  | .gongMessage _ _ cause unitKind _ _ _ => decide (unitKind < 16) && decide (cause < 256)
  | .assayPrepared _ => true
  | .assayTestDone _ _ => true
  | .tapIdcode => true
  | .tapSamplePreload _ _ => true
  | .tapExtest => true
  | .tapClamp => true
  | .tapHighz => true
  | .dbgSelect _ => true
  | .dbgHalt _ => true
  | .dbgRegs _ _ => true
  | .dbgMem _ _ => true
  | .dbgArray level set way => dbgArrayOk level.val set way
  | .tapBypass => true
  | .thermtripAnalog => true
  | .vrPgFall _ => true
  | .resetAssert => true
  | .refclkLoss => true
  | .laserSwitchDone _ => true
  | .pcieRecoveryEntry _ => true
  | .pcieRecoveryExit _ => true
  | .sepHostPerstRelease _ => true
  | .sepHostConfig _ _ reg _ => decide (reg < 1024)
  | .moduleNotAnswering _ => true
  | .moduleTemperature _ _ => true
  | .mgmtBusTimeout => true
  | .perstHoldExpiry _ => true

end Sys2Proof
end

