-- ==== Sys2Proof/Certificates/Slice0/Obligations.lean ====
section
/-! DEFINITION. The statements about the model, for its provers. "Completes c s P": command c answers a next state, of which P holds.
A comment before each clause names the command of the opcode table that it is about. -/

open Sys2Proof Sys2Proof.Machine

/-- A step is exec of the command at the front of the queue, on the state with the rest of the queue; on an empty queue the block idles. Idling,
  and that commands wait in one queue, are the model's choice (log entry 1). -/
def Obligations.StepRunsFrontCommand : Prop :=
  (∀ (c : Instr) (s : State) (r : List Instr), step { s with pending := c :: r } = exec c { s with pending := r }) ∧
  ∀ s : State, s.pending = [] → step s = .next s

/-- R21: State.reset is sound, every register reads its Reset value, RESET_N is asserted, the timebase stands, and nothing is stored, sent or
  queued. What unwritten DRAM reads is the model's choice (log entry 6). -/
def Obligations.ResetLeavesResetValues : Prop :=
  State.reset.Inv ∧
  (∀ off, State.reset.reg off = regReset off) ∧
  State.reset.boot.inReset = true ∧
  State.reset.beat.running = false ∧
  State.reset.dram.mem = [] ∧
  State.reset.sent = [] ∧
  State.reset.pending = []

/-- Every row of the opcode table has a meaning, and it answers a next state whatever the state and the operands are; what the spec answers with
  an error is an effect on the state. -/
def Obligations.EveryCommandCompletes : Prop :=
  ∀ (c : Instr) (s : State), ∃ t, exec c s = .next t

/-- State.Inv is an invariant of every step, from every state that has it: the stored bytes and the registers stay in their canonical forms, so
  that equal contents are equal data (the forms are the model's; R21 says what unlisted registers read, R243 what a stored line is). -/
def Obligations.StepKeepsInvariant : Prop :=
  ∀ s t : State, s.Inv → step s = .next t → t.Inv

/-- The frame of every command: the parts of the state that mayChange does not list for it, and the queue, are as they were. -/
def Obligations.CommandsKeepTheRest : Prop :=
  ∀ (c : Instr) (s t : State), s.Inv → exec c s = .next t → t.pending = s.pending ∧ ∀ p, p ∉ mayChange c → p.Same s t

/-- Whole-machine rule (R44): no command but a beat boundary and the two edges of RESET_N changes the beat number. -/
def Obligations.OnlyBoundariesMoveTheBeat : Prop :=
  ∀ (c : Instr) (s t : State), s.Inv → (∀ l m a, c ≠ .beatBoundary l m a) → c ≠ .resetAssert → (∀ p, c ≠ .resetDeassert p) → exec c s = .next t →
    t.beat.now = s.beat.now

/-- Whole-machine rule (R74, R78): no command lowers the anti-rollback counter that the Islands compare with an image. The count of free values
  taken (the model's own, log entry 2) never falls either. -/
def Obligations.RollbackNeverFalls : Prop :=
  ∀ (c : Instr) (s t : State), s.Inv → exec c s = .next t → s.fusedRollback ≤ t.fusedRollback ∧ s.freeCtr ≤ t.freeCtr

/-- R13: an access of another width than 8 bytes, or misaligned, is a bus error without effect, recorded as CS_ACCESS_WIDTH. R14: one outside
  every block is a bus error, recorded as CS_UNMAPPED. R15: where a block holds no register, a read gives 0, a write is ignored, and nothing is
  recorded. For cores of this package the bus error, or the answer, is a message to the core; for those of another package it goes to that
  package. -/
def Obligations.ControlSpaceAccessRules : Prop :=
  -- CS_REGISTER_WRITE, width or alignment (R13)
  (∀ (s : State) (who : Sender) (off : Fin (2 ^ 32)) (size : Nat) (v : Word), s.Issues who.who → size ≠ 8 ∨ off.val % 8 ≠ 0 → Completes
    (.csRegisterWrite who off size v) s fun t => t.Logged E.CS_ACCESS_WIDTH (s.whoUnit who.who).1 (s.whoUnit who.who).2 ∧ s.SameButLogs t ∧ ∀ pkg c p,
    who = .core pkg c p → if pkg.val = s.pkg then ∀ k ∈ s.sharers c, .core k 1 0 ∈ t.sent else .remote pkg c 1 0 ∈ t.sent) ∧
  -- CORE_LOAD of less than 8 bytes (R13; a wider access is split into 8-byte ones, R132)
  (∀ (s : State) (c : Core) (va : Word) (size : Nat) (user : Bool) (off : Nat), s.Runs c → s.accsOut c (fun _ => true) = false → s.f (R.XLAT_CTL c)
    F.XLAT_CTL_EN = 0 → va.toNat = s.csAddr off → off < 2 ^ 32 → s.pkg < 8 → 0 < size → size < 8 → s.paired (s.corePart c) c = false → Completes
    (.coreLoad c va size user false) s fun t => t.Logged E.CS_ACCESS_WIDTH 0 c ∧ .core c 1 0 ∈ t.sent ∧ t.dram = s.dram) ∧
  -- CORE_STORE of less than 8 bytes (R13)
  (∀ (s : State) (c : Core) (va : Word) (size : Nat) (v : Line) (user : Bool) (off : Nat), s.Runs c → s.accsOut c (fun _ => true) = false → s.f
    (R.XLAT_CTL c) F.XLAT_CTL_EN = 0 → va.toNat = s.csAddr off → off < 2 ^ 32 → s.pkg < 8 → 0 < size → size < 8 → s.paired (s.corePart c) c = false →
    Completes (.coreStore c va size v user) s fun t => t.Logged E.CS_ACCESS_WIDTH 0 c ∧ .core c 1 0 ∈ t.sent ∧ t.dram = s.dram) ∧
  -- CS_REGISTER_WRITE outside every block (R14)
  (∀ (s : State) (who : Sender) (off : Fin (2 ^ 32)) (v : Word), s.Issues who.who → off.val % 8 = 0 → locate off = none → Completes (.csRegisterWrite
    who off 8 v) s fun t => t.Logged E.CS_UNMAPPED (s.whoUnit who.who).1 (s.whoUnit who.who).2 ∧ s.SameButLogs t ∧ ∀ pkg c p, who = .core pkg c p → if
    pkg.val = s.pkg then ∀ k ∈ s.sharers c, .core k 1 0 ∈ t.sent else .remote pkg c 1 0 ∈ t.sent) ∧
  -- CORE_LOAD outside every block (R14)
  (∀ (s : State) (c : Core) (va : Word) (user : Bool) (off : Nat), s.Runs c → s.accsOut c (fun _ => true) = false → s.f (R.XLAT_CTL c) F.XLAT_CTL_EN =
    0 → va.toNat = s.csAddr off → off < 2 ^ 32 → s.pkg < 8 → off % 8 = 0 → locate off = none → s.paired (s.corePart c) c = false → Completes
    (.coreLoad c va 8 user false) s fun t => t.Logged E.CS_UNMAPPED 0 c ∧ .core c 1 0 ∈ t.sent ∧ t.dram = s.dram) ∧
  -- CORE_STORE outside every block (R14)
  (∀ (s : State) (c : Core) (va : Word) (v : Line) (user : Bool) (off : Nat), s.Runs c → s.accsOut c (fun _ => true) = false → s.f (R.XLAT_CTL c)
    F.XLAT_CTL_EN = 0 → va.toNat = s.csAddr off → off < 2 ^ 32 → s.pkg < 8 → off % 8 = 0 → locate off = none → s.paired (s.corePart c) c = false →
    Completes (.coreStore c va 8 v user) s fun t => t.Logged E.CS_UNMAPPED 0 c ∧ .core c 1 0 ∈ t.sent ∧ t.dram = s.dram) ∧
  -- CS_REGISTER_WRITE where no register stands (R15)
  (∀ (s : State) (who : Sender) (off : Fin (2 ^ 32)) (v : Word), s.Reaches who.who off true → regAt off = none → Completes (.csRegisterWrite who off
    8 v) s fun t => t.regs = s.regs ∧ t.err = s.err ∧ s.SameButLogs t ∧ ∀ pkg c p, who = .core pkg c p → if pkg.val = s.pkg then ∀ k ∈ s.sharers c,
    .core k 0 0 ∈ t.sent else .remote pkg c 0 0 ∈ t.sent) ∧
  -- CORE_LOAD where no register stands (R15)
  (∀ (s : State) (c : Core) (va : Word) (user : Bool) (off : Nat) (pkg : Pkg) (p : Sys2Proof.Part), s.Runs c → s.accsOut c (fun _ => true) = false →
    s.f (R.XLAT_CTL c) F.XLAT_CTL_EN = 0 → va.toNat = s.csAddr off → off < 2 ^ 32 → pkg.val = s.pkg → s.Reaches (.core pkg c p) off false → regAt off
    = none → s.paired (s.corePart c) c = false → Completes (.coreLoad c va 8 user false) s fun t => .core c 0 0 ∈ t.sent ∧ t.err = s.err ∧ t.dram =
    s.dram)

/-- R151: a core access with any of address bits [63:52] set is not performed and fails with XLATE_RANGE, whether translation is on or off. -/
def Obligations.AddressRange : Prop :=
  -- CORE_LOAD
  (∀ (s : State) (c : Core) (va : Word) (size : Nat) (user : Bool), s.Runs c → 2 ^ 52 ≤ va.toNat → Completes (.coreLoad c va size user false) s fun t
    => t.f (R.XLAT_FAULT_STAT c) F.XLAT_FAULT_STAT_VALID = 1 ∧ t.f (R.XLAT_FAULT_STAT c) F.XLAT_FAULT_STAT_CODE = XLATE_RANGE ∧ t.reg (R.XLAT_FAULT_VA
    c) = va ∧ .core c 2 XLATE_RANGE ∈ t.sent ∧ t.cache = s.cache ∧ t.xlat = s.xlat ∧ t.dram = s.dram ∧ s.SameRegs t [R.XLAT_FAULT_STAT c,
    R.XLAT_FAULT_VA c, R.XLAT_FAULT_DESC c, R.XLAT_FAULT_ENTRY c]) ∧
  -- CORE_STORE
  (∀ (s : State) (c : Core) (va : Word) (size : Nat) (v : Line) (user : Bool), s.Runs c → 2 ^ 52 ≤ va.toNat → Completes (.coreStore c va size v user)
    s fun t => t.f (R.XLAT_FAULT_STAT c) F.XLAT_FAULT_STAT_VALID = 1 ∧ t.f (R.XLAT_FAULT_STAT c) F.XLAT_FAULT_STAT_CODE = XLATE_RANGE ∧ t.reg
    (R.XLAT_FAULT_VA c) = va ∧ .core c 2 XLATE_RANGE ∈ t.sent ∧ t.cache = s.cache ∧ t.xlat = s.xlat ∧ t.dram = s.dram ∧ s.SameRegs t
    [R.XLAT_FAULT_STAT c, R.XLAT_FAULT_VA c, R.XLAT_FAULT_DESC c, R.XLAT_FAULT_ENTRY c]) ∧
  -- CORE_ATOMIC
  (∀ (s : State) (c : Core) (va : Word) (op size : Nat) (x y : BitVec 128) (user : Bool), s.Runs c → 2 ^ 52 ≤ va.toNat → Completes (.coreAtomic c va
    op size x y user) s fun t => t.f (R.XLAT_FAULT_STAT c) F.XLAT_FAULT_STAT_VALID = 1 ∧ t.f (R.XLAT_FAULT_STAT c) F.XLAT_FAULT_STAT_CODE =
    XLATE_RANGE ∧ t.reg (R.XLAT_FAULT_VA c) = va ∧ .core c 2 XLATE_RANGE ∈ t.sent ∧ t.cache = s.cache ∧ t.xlat = s.xlat ∧ t.dram = s.dram ∧ s.SameRegs
    t [R.XLAT_FAULT_STAT c, R.XLAT_FAULT_VA c, R.XLAT_FAULT_DESC c, R.XLAT_FAULT_ENTRY c]) ∧
  -- CORE_FETCH
  (∀ (s : State) (c : Core) (va : Word) (user : Bool), s.Runs c → 2 ^ 52 ≤ va.toNat → Completes (.coreFetch c va user false) s fun t => t.f
    (R.XLAT_FAULT_STAT c) F.XLAT_FAULT_STAT_VALID = 1 ∧ t.f (R.XLAT_FAULT_STAT c) F.XLAT_FAULT_STAT_CODE = XLATE_RANGE ∧ t.reg (R.XLAT_FAULT_VA c) =
    va ∧ .core c 2 XLATE_RANGE ∈ t.sent ∧ t.cache = s.cache ∧ t.xlat = s.xlat ∧ t.dram = s.dram ∧ s.SameRegs t [R.XLAT_FAULT_STAT c, R.XLAT_FAULT_VA
    c, R.XLAT_FAULT_DESC c, R.XLAT_FAULT_ENTRY c]) ∧
  -- CORE_LOAD on a predicted path
  (∀ (s : State) (c : Core) (va : Word) (size : Nat) (user : Bool), s.Runs c → 2 ^ 52 ≤ va.toNat → Completes (.coreLoad c va size user true) s fun t
    => t = s)

/-- R263: a write to the training and PHY registers of a channel by any requester but the Service Core of its hub is a bus error without effect,
  recorded as MC_TRAIN_ONLY; TRN_CTL.GO is ignored while the channel is READY. -/
def Obligations.TrainingRegistersOwner : Prop :=
  -- CS_REGISTER_WRITE
  (∀ (s : State) (who : Sender) (off : Fin (2 ^ 32)) (v : Word) (c rel : Nat), s.Issues who.who → (∀ l ∈ s.csLinks who.who .mc c rel true,
    s.linkCarries l = true) → off.val % 8 = 0 → locate off = some (.mc, c, rel) → (regAt off).isSome = true → 0x1000 ≤ rel → rel < 0x2000 → (∀ h, who
    = .service h → h.val ≠ c / 8) → (s.whoPart who.who ≠ 0 → s.partFenced (s.whoPart who.who) = false) → Completes (.csRegisterWrite who off 8 v) s
    fun t => t.Logged E.MC_TRAIN_ONLY 3 c ∧ s.SameButLogs t ∧ ∀ pkg c p, who = .core pkg c p → if pkg.val = s.pkg then ∀ k ∈ s.sharers c, .core k 1 0
    ∈ t.sent else .remote pkg c 1 0 ∈ t.sent) ∧
  -- TRN_WRITE_PATTERN
  (∀ (s : State) (c : Chan) (v : Word), s.chState c = 4 → Completes (.trnWritePattern (.service (Fin.ofNat 2 (hubOfChan c))) c v) s fun t => t.dram =
    s.dram ∧ t.reg (R.TRN_STAT c) = s.reg (R.TRN_STAT c) ∧ s.SameRegs t [R.TRN_CTL c]) ∧
  -- TRN_READ_COMPARE
  (∀ (s : State) (c : Chan) (v : Word), s.chState c = 4 → Completes (.trnReadCompare (.service (Fin.ofNat 2 (hubOfChan c))) c v) s fun t => t.dram =
    s.dram ∧ t.reg (R.TRN_STAT c) = s.reg (R.TRN_STAT c) ∧ s.SameRegs t [R.TRN_CTL c]) ∧
  -- TRN_WRITE_READ_COMPARE
  (∀ (s : State) (c : Chan) (v : Word), s.chState c = 4 → Completes (.trnWriteReadCompare (.service (Fin.ofNat 2 (hubOfChan c))) c v) s fun t =>
    t.dram = s.dram ∧ t.reg (R.TRN_STAT c) = s.reg (R.TRN_STAT c) ∧ s.SameRegs t [R.TRN_CTL c])

/-- R333: EN from 0 to 1 sets HEAD and DONE to TAIL and clears HALTED and HALT_CAUSE; EN = 0 stops issue while issued descriptors go on; RING_BASE
  is not written while EN = 1; descriptors not issued before a halt or EN = 0 are abandoned without a completion. -/
def Obligations.RingControlRules : Prop :=
  -- RING_CTL_WRITE, EN from 0 to 1
  (∀ (s : State) (who : Sender) (r : Ring) (v : Word), s.Admitted who.who (R.RING_CTL r) true → s.f (R.RING_CTL r) F.RING_CTL_EN = 0 →
    F.RING_CTL_EN.get v = 1 → Completes (.ringCtlWrite who r v) s fun t => t.f (R.RING_HEAD r) F.RING_HEAD_HEAD = s.f (R.RING_TAIL r) F.RING_TAIL_TAIL
    ∧ t.f (R.RING_HEAD r) F.RING_HEAD_DONE = s.f (R.RING_TAIL r) F.RING_TAIL_TAIL ∧ t.halted r = false ∧ t.f (R.RING_STAT r) F.RING_STAT_HALT_CAUSE =
    0 ∧ t.f (R.RING_CTL r) F.RING_CTL_EN = 1 ∧ (t.ringH r).fetched = [] ∧ (t.ringH r).exec = (s.ringH r).exec ∧ ∀ m, .coh m ∈ t.sent → .coh m ∈
    s.sent) ∧
  -- RING_CTL_WRITE, EN = 0
  (∀ (s : State) (who : Sender) (r : Ring) (v : Word), s.Admitted who.who (R.RING_CTL r) true → F.RING_CTL_EN.get v = 0 → Completes (.ringCtlWrite who
    r v) s fun t => (t.ringH r).fetched = [] ∧ (t.ringH r).exec = (s.ringH r).exec ∧ t.f (R.RING_CTL r) F.RING_CTL_EN = 0 ∧ ∀ m, .coh m ∈ t.sent →
    .coh m ∈ s.sent) ∧
  -- CS_REGISTER_WRITE to RING_BASE while EN = 1
  (∀ (s : State) (who : Sender) (r : Ring) (off : Fin (2 ^ 32)) (v : Word), off.val = R.RING_BASE r → s.Admitted who.who (R.RING_BASE r) true → s.f
    (R.RING_CTL r) F.RING_CTL_EN = 1 → Completes (.csRegisterWrite who off 8 v) s fun t => t.regs = s.regs ∧ t.crypto = s.crypto) ∧
  -- CS_REGISTER_WRITE to RING_BASE while EN = 0
  (∀ (s : State) (who : Sender) (r : Ring) (off : Fin (2 ^ 32)) (v : Word), off.val = R.RING_BASE r → s.Admitted who.who (R.RING_BASE r) true → s.f
    (R.RING_CTL r) F.RING_CTL_EN = 0 → Completes (.csRegisterWrite who off 8 v) s fun t => t.f (R.RING_BASE r) F.RING_BASE_BASE = F.RING_BASE_BASE.get
    v ∧ s.SameRegs t [R.RING_BASE r]) ∧
  -- RING_TAIL_WRITE that overruns
  (∀ (s : State) (who : Sender) (r : Ring) (v : BitVec 16), s.Admitted who.who (R.RING_TAIL r) true → 256 < (v.toNat + 65536 - s.f (R.RING_HEAD r)
    F.RING_HEAD_HEAD) % 65536 → Completes (.ringTailWrite who r v) s fun t => t.halted r = true ∧ (t.ringH r).fetched = [] ∧ (t.ringH r).exec =
    (s.ringH r).exec ∧ ∀ m, .coh m ∈ t.sent → .coh m ∈ s.sent) ∧
  -- BUS_ERR for a descriptor's read (of the ring's only request) halts the ring
  (∀ (s : State) (r : Ring) (m q : CMsg), s.Answers r { m with op := .busErr } q → s.agentQ r = [q] → q.fwd.pkg = A_FETCH → s.missOf m = none →
    s.directOf m = none → s.links.ioOld = [] → Completes (.busErr m) s fun t => t.halted r = true ∧ (t.ringH r).fetched = [] ∧ (t.ringH r).exec =
    (s.ringH r).exec ∧ ∀ m, .coh m ∈ t.sent → .coh m ∈ s.sent)

/-- R361: a completion for a quarantined tag is discarded and counted without a record; one that matches no tag is discarded, counted and
  recorded; with all 1,024 tags taken a new request waits and is not refused. A counter stops at its maximum. -/
def Obligations.LateCompletions : Prop :=
  -- PCIE_COMPLETION of a quarantined tag
  (∀ (s : State) (k : Fin 32) (tag : Fin 1024) (st : Fin 8) (d : Line), (s.seg k).out.find? (fun r => r.tag = tag.val) = none → tag.val ∈ (s.seg
    k).quarantine → Completes (.pcieCompletion k tag st d) s fun t => t.f (rErrCnt k) F.SEG_ERR_CNT_LATE_CPL_CNT = min (s.f (rErrCnt k)
    F.SEG_ERR_CNT_LATE_CPL_CNT + 1) F.SEG_ERR_CNT_LATE_CPL_CNT.max ∧ t.sent = s.sent ∧ t.err = s.err) ∧
  -- PCIE_COMPLETION of an unknown tag
  (∀ (s : State) (k : Fin 32) (tag : Fin 1024) (st : Fin 8) (d : Line), (s.seg k).out.find? (fun r => r.tag = tag.val) = none → tag.val ∉ (s.seg
    k).quarantine → Completes (.pcieCompletion k tag st d) s fun t => t.f (rErrCnt k) F.SEG_ERR_CNT_UNEXP_CPL = min (s.f (rErrCnt k)
    F.SEG_ERR_CNT_UNEXP_CPL + 1) F.SEG_ERR_CNT_UNEXP_CPL.max ∧ t.Logged E.PCIE_UNEXP_CPL 4 k ∧ t.seg k = s.seg k) ∧
  -- CFG_READ without a free tag
  (∀ (s : State) (k : Fin 32) (who : Sender), s.Admitted who.who (R.CFG_DATA (k / 4) (k % 4)) false → s.ltssm k = 3 → s.freeTag k = none → s.f
    (rCfgAddr k) F.CFG_ADDR_BUS = s.f (rSegCtl k) F.SEG_CTL_SEC_BUS → s.f (rCfgAddr k) F.CFG_ADDR_DEV = 0 → Completes (.cfgRead who k) s fun t =>
    t.sent = s.sent ∧ (t.seg k).out = (s.seg k).out ∧ ∃ r ∈ (t.seg k).waitTag, (t.seg k).waitTag = (s.seg k).waitTag ++ [r] ∧ r.kind = 1 ∧ r.sent =
    false)

/-- R17, R18: an admitted 8-byte write to a register of the package block that has no row of its own changes each field by its type and no other
  register. -/
def Obligations.PlainRegisterWrites : Prop :=
  -- CS_REGISTER_WRITE
  (∀ (s : State) (who : Sender) (off : Fin (2 ^ 32)) (v : Word) (n : Nat) (ix : List Nat) (r : RegRow), s.Admitted who.who off true → regAt off = some
    (.pkg, n, ix, r) → Completes (.csRegisterWrite who off 8 v) s fun t => t.reg off = fieldWrite r.flds (s.reg off) v ∧ s.SameRegs t [off.val])

/-- Core accesses: hits, checked stores, far atomics, the table walk and the wake notice (R32, R127, R152, R159, R160, R220, R222, R392). -/
def Obligations.CoreAccesses : Prop :=
  -- CORE_LOAD with translation off that hits L1D returns the bytes of the sector to the core and leaves homes and DRAM as they were
  (∀ (s : State) (c : Core) (va : Word) (size w : Nat) (user spec : Bool) (x : Sector), s.Runs c → s.f (R.XLAT_CTL c) F.XLAT_CTL_EN = 0 → isDram
    va.toNat = true → va.toNat < 2 ^ 52 → s.undecoded va.toNat = none → s.l1Find c false (va.toNat / 64) = some (w, x) → s.cmoHeld c (va.toNat / 64)
    false = false → Completes (.coreLoad c va size user spec) s fun t => .core c 0 (lineGet x.data (va.toNat % 64) size) ∈ t.sent ∧ t.home = s.home ∧
    t.dram = s.dram) ∧
  -- CORE_FETCH with translation off that hits L1I returns the 4 bytes at the address (log entry 35)
  (∀ (s : State) (c : Core) (va : Word) (w : Nat) (user spec : Bool) (x : Sector), s.Runs c → s.f (R.XLAT_CTL c) F.XLAT_CTL_EN = 0 → isDram va.toNat =
    true → va.toNat < 2 ^ 52 → s.undecoded va.toNat = none → s.l1Find c true (va.toNat / 64) = some (w, x) → s.cmoHeld c (va.toNat / 64) true = false
    → Completes (.coreFetch c va user spec) s fun t => .core c 0 (lineGet x.data (va.toNat % 64) 4) ∈ t.sent ∧ t.home = s.home ∧ t.dram = s.dram) ∧
  -- CORE_STORE to a line that the Die Cache holds M or E, not in L1, makes it M with the stored bytes merged, and completes
  (∀ (s : State) (c : Core) (va : Word) (size : Nat) (v : Line) (user : Bool) (l : DcLine), s.Runs c → s.f (R.XLAT_CTL c) F.XLAT_CTL_EN = 0 → isDram
    va.toNat = true → va.toNat < 2 ^ 52 → s.undecoded va.toNat = none → s.isTwin (s.corePart c) = false → s.dcHit (dieOf c) (va.toNat / 64)
    (s.corePart c) = some l → (l.coh = .m ∨ l.coh = .e) → l.presence = 0 → s.l1Find c false (va.toNat / 64) = none → s.f (R.L1_CTL c) F.L1_CTL_EN = 0
    → s.cmoHeld c (va.toNat / 64) false = false → Completes (.coreStore c va size v user) s fun t => .core c 0 0 ∈ t.sent ∧ t.dcFind (dieOf c)
    (va.toNat / 64) = some { l with coh := .m, data := linePut l.data (va.toNat % 64) size v }) ∧
  -- CORE_ATOMIC to a line outside L1 under the far policy sends a FAR_ATOMIC for the line with its operation, size, offset and operands
  (∀ (s : State) (c : Core) (va : Word) (op size : Nat) (arg arg2 : BitVec 128) (user : Bool), s.Runs c → s.f (R.XLAT_CTL c) F.XLAT_CTL_EN = 0 →
    isDram va.toNat = true → va.toNat < 2 ^ 52 → s.undecoded va.toNat = none → s.paired (s.corePart c) c = false → s.l1Find c false (va.toNat / 64) =
    none → s.f (R.ATOM_POLICY (hubOfDie (dieOf c))) F.ATOM_POLICY_POLICY / 4 ^ s.corePart c % 4 = 2 → s.cmoHeld c (va.toNat / 64) false = false →
    s.inWb (dieOf c) (va.toNat / 64) = false → Completes (.coreAtomic c va op size arg arg2 user) s fun t => ∃ m, .coh m ∈ t.sent ∧ m.op = .farAtomic
    ∧ m.line = va.toNat / 64 ∧ m.part = s.corePart c ∧ m.aop = { code := op, size := size, off := va.toNat % 64, arg := arg, arg2 := arg2 }) ∧
  -- WALK_DESCRIPTOR: a valid table descriptor takes the walk to the next level, at the entry that its table address and the address select
  (∀ (s : State) (c : Core) (n : Fin 2) (w : Walk) (d : Word), s.Inv → (s.xlat.walks.find? fun v => v.core = c.val && v.n = n.val && v.got.isSome) =
    some w → w.got = some (some d) → lV d = true → descCheck w.level d = 0 → lLeaf d = false → (s.descDecode (descAddr (lAddr d) w.va (w.level +
    1))).1 = 0 → Completes (.walkDescriptor c n) s fun t => ∃ v ∈ t.xlat.walks, v.core = c.val ∧ v.n = n.val ∧ v.va = w.va ∧ v.level = w.level + 1 ∧
    v.desc = descAddr (lAddr d) w.va (w.level + 1)) ∧
  -- WAKE_NOTICE of a package clears its RESTING bit, and none of the accesses held for it stays held
  (∀ (s : State) (pkg : Pkg), s.Inv → Completes (.wakeNotice pkg none) s fun t => (t.f R.REST_STAT F.REST_STAT_RESTING).testBit pkg = false ∧ ∀ m ∈
    t.pwr.heldIo, m.src.pkg ≠ pkg.val)

/-- Cache maintenance walks, cache and translation control writes, and a parity error of the L0 (R135, R137, R142, R146, R147, R173). -/
def Obligations.CacheControls : Prop :=
  -- CMO_ISSUE_CLEAN of a whole level by the block's own core, with no walk running, starts one: BUSY 1, WALK_CMD the command
  (∀ (s : State) (who : Sender) (blk : Core) (level : Fin 4) (user : Bool) (c : Nat), c < 240 → s.Admitted who.who (R.CMO_ISSUE blk) true → s.ownBlk
    who.who blk = some c → s.f (R.CMO_STAT c) F.CMO_STAT_BUSY = 0 → (∀ k ∈ s.cmoCores c, s.accsOut k (fun _ => true) = false) → Completes
    (.cmoIssueClean who blk 3 level 0 user) s fun t => t.f (R.CMO_STAT c) F.CMO_STAT_BUSY = 1 ∧ t.f (R.CMO_STAT c) F.CMO_STAT_WALK_CMD = 1 + 12 + 16 *
    level) ∧
  -- CMO_ISSUE_INVALIDATE does the same
  (∀ (s : State) (who : Sender) (blk : Core) (level : Fin 4) (user : Bool) (c : Nat), c < 240 → s.Admitted who.who (R.CMO_ISSUE blk) true → s.ownBlk
    who.who blk = some c → s.f (R.CMO_STAT c) F.CMO_STAT_BUSY = 0 → (∀ k ∈ s.cmoCores c, s.accsOut k (fun _ => true) = false) → Completes
    (.cmoIssueInvalidate who blk 3 level 0 user) s fun t => t.f (R.CMO_STAT c) F.CMO_STAT_BUSY = 1 ∧ t.f (R.CMO_STAT c) F.CMO_STAT_WALK_CMD = 2 + 12 +
    16 * level) ∧
  -- CMO_ISSUE_CLEAN_INVAL does the same
  (∀ (s : State) (who : Sender) (blk : Core) (level : Fin 4) (user : Bool) (c : Nat), c < 240 → s.Admitted who.who (R.CMO_ISSUE blk) true → s.ownBlk
    who.who blk = some c → s.f (R.CMO_STAT c) F.CMO_STAT_BUSY = 0 → (∀ k ∈ s.cmoCores c, s.accsOut k (fun _ => true) = false) → Completes
    (.cmoIssueCleanInval who blk 3 level 0 user) s fun t => t.f (R.CMO_STAT c) F.CMO_STAT_BUSY = 1 ∧ t.f (R.CMO_STAT c) F.CMO_STAT_WALK_CMD = 3 + 12 +
    16 * level) ∧
  -- CMO_WALK_DONE of the whole L0 ends the walk: BUSY 0, DONE 1, PROGRESS 32, no other register changes; an invalidation leaves no line
  (∀ (s : State) (c : Core), s.f (R.CMO_STAT c) F.CMO_STAT_BUSY = 1 → 13 ≤ s.f (R.CMO_STAT c) F.CMO_STAT_WALK_CMD → s.f (R.CMO_STAT c)
    F.CMO_STAT_WALK_CMD ≤ 15 → s.paired (s.corePart c) c = false → (∀ o ∈ s.cache.cmoOut, o.walk = true → o.core ≠ c.val) → Completes (.cmoWalkDone c)
    s fun t => t.f (R.CMO_STAT c) F.CMO_STAT_BUSY = 0 ∧ t.f (R.CMO_STAT c) F.CMO_STAT_DONE = 1 ∧ t.f (R.CMO_STAT c) F.CMO_STAT_PROGRESS = 32 ∧
    s.SameRegs t [R.CMO_STAT c] ∧ (s.f (R.CMO_STAT c) F.CMO_STAT_WALK_CMD ≠ 13 → ∀ w < 32, t.cache.l0.get (c * 32 + w) = 0)) ∧
  -- L1_CTL_WRITE sets EN and nothing else of the registers and caches
  (∀ (s : State) (who : Sender) (c : Core) (en : Bool), s.Admitted who.who (R.L1_CTL c) true → s.isTwin (s.corePart c) = false → Completes
    (.l1CtlWrite who c en) s fun t => t.f (R.L1_CTL c) F.L1_CTL_EN = en.toNat ∧ s.SameRegs t [R.L1_CTL c] ∧ t.cache = s.cache) ∧
  -- DC_CTL_WRITE by a partition that owns every core of the die that is not off sets EN and nothing else of the registers and caches
  (∀ (s : State) (who : Sender) (d : Die) (en : Bool), s.Admitted who.who (R.DC_CTL d) true → (∀ c ∈ coresOfDie d, s.coreState c = 0 ∨ s.corePart c =
    s.whoPart who.who) → Completes (.dcCtlWrite who d en) s fun t => t.f (R.DC_CTL d) F.DC_CTL_EN = en.toNat ∧ s.SameRegs t [R.DC_CTL d] ∧ t.cache =
    s.cache) ∧
  -- CACHE_ARRAY_ERROR in an L0 line that is held restores it from the level below and counts ARRAY_FIXED
  (∀ (s : State) (c : Core) (set way : Nat) (sector : Fin 4) (correctable : Bool), way < 32 → s.cache.l0.get (c * 32 + way) ≠ 0 → Completes
    (.cacheArrayError 0 c set way sector correctable) s fun t => t.cache = s.cache ∧ t.f (R.CORE_FAULT_CNT c) F.CORE_FAULT_CNT_ARRAY_FIXED =
    min (s.f (R.CORE_FAULT_CNT c) F.CORE_FAULT_CNT_ARRAY_FIXED + 1) F.CORE_FAULT_CNT_ARRAY_FIXED.max ∧ s.SameRegs t [R.CORE_FAULT_CNT c]) ∧
  -- XLAT_CTL_WRITE by the block's own core sets EN and leaves the TLBs as they were
  (∀ (s : State) (who : Sender) (c : Core) (en : Bool), s.Admitted who.who (R.XLAT_CTL c) true → s.ownBlk who.who c = some c.val → s.isTwin
    (s.corePart c) = false → Completes (.xlatCtlWrite who c en) s fun t => t.f (R.XLAT_CTL c) F.XLAT_CTL_EN = en.toNat ∧ s.SameRegs t [R.XLAT_CTL c] ∧
    t.xlat = s.xlat) ∧
  -- XLAT_BASE_WRITE by the block's own core sets BASE and ASID and leaves the TLBs as they were
  (∀ (s : State) (who : Sender) (c : Core) (v : Word), s.Admitted who.who (R.XLAT_BASE c) true → s.ownBlk who.who c = some c.val → s.isTwin
    (s.corePart c) = false → Completes (.xlatBaseWrite who c v) s fun t => t.f (R.XLAT_BASE c) F.XLAT_BASE_BASE = F.XLAT_BASE_BASE.get v ∧ t.f
    (R.XLAT_BASE c) F.XLAT_BASE_ASID = F.XLAT_BASE_ASID.get v ∧ s.SameRegs t [R.XLAT_BASE c] ∧ t.xlat = s.xlat)

/-- TLB invalidation, local and received, and TLBI_SYNC (R166, R168, R169). -/
def Obligations.TlbInvalidations : Prop :=
  -- TLBI_BY_VA_ASID (local): no L1 TLB entry of the core stays that covers the page and has the ASID or is global
  (∀ (s : State) (who : Sender) (c : Core) (va : Fin (2 ^ 40)) (asid : BitVec 16), s.Admitted who.who (R.TLBI_ISSUE c) true → s.ownBlk who.who c =
    some c.val → s.isTwin (s.corePart c) = false → (∀ w ∈ s.xlat.walks, w.core ≠ c.val) → s.storesOut c = false → s.tlbiBusy c 1 (va.val * 4096) =
    false → Completes (.tlbiByVaAsid who c va asid true) s fun t => t.xlat.tlbis = s.xlat.tlbis ∧ ∀ e ∈ t.xlat.l1, e.1 / 64 = c.val → e.2.valid = true
    → e.2.part = s.corePart c → e.2.covers (va.val * 4096) = true → e.2.asid ≠ asid.toNat ∧ lG e.2.leaf = false) ∧
  -- TLBI_BY_VA (local): no L1 TLB entry of the core and partition that covers the page stays
  (∀ (s : State) (who : Sender) (c : Core) (va : Fin (2 ^ 40)), s.Admitted who.who (R.TLBI_ISSUE c) true → s.ownBlk who.who c = some c.val → s.isTwin
    (s.corePart c) = false → (∀ w ∈ s.xlat.walks, w.core ≠ c.val) → s.storesOut c = false → s.tlbiBusy c 2 (va.val * 4096) = false → Completes
    (.tlbiByVa who c va true) s fun t => t.xlat.tlbis = s.xlat.tlbis ∧ ∀ e ∈ t.xlat.l1, e.1 / 64 = c.val → e.2.valid = true → e.2.part = s.corePart c
    → e.2.covers (va.val * 4096) = false) ∧
  -- TLBI_BY_ASID (local): of the entries of the ASID only global ones stay in the L1 TLB
  (∀ (s : State) (who : Sender) (c : Core) (asid : BitVec 16), s.Admitted who.who (R.TLBI_ISSUE c) true → s.ownBlk who.who c = some c.val → s.isTwin
    (s.corePart c) = false → (∀ w ∈ s.xlat.walks, w.core ≠ c.val) → s.storesOut c = false → s.tlbiBusy c 3 0 = false → Completes (.tlbiByAsid who c
    asid true) s fun t => t.xlat.tlbis = s.xlat.tlbis ∧ ∀ e ∈ t.xlat.l1, e.1 / 64 = c.val → e.2.valid = true → e.2.part = s.corePart c → e.2.asid =
    asid.toNat → lG e.2.leaf = true) ∧
  -- TLBI_ALL (local): no entry of the partition stays in the core's L1 or L2 TLB
  (∀ (s : State) (who : Sender) (c : Core), s.Admitted who.who (R.TLBI_ISSUE c) true → s.ownBlk who.who c = some c.val → s.isTwin (s.corePart c) =
    false → (∀ w ∈ s.xlat.walks, w.core ≠ c.val) → s.storesOut c = false → s.tlbiBusy c 4 0 = false → Completes (.tlbiAll who c true) s fun t =>
    t.xlat.tlbis = s.xlat.tlbis ∧ (∀ e ∈ t.xlat.l1, e.1 / 64 = c.val → e.2.valid = true → e.2.part ≠ s.corePart c) ∧ ∀ e ∈ t.xlat.l2, e.1 / 12 / 256 =
    c.val → e.2.valid = true → e.2.part ≠ s.corePart c) ∧
  -- TLBI_APPLY of an all-entries invalidation drops every L1 TLB entry of the partition, and no finished invalidation stays listed
  (∀ (s : State) (c src : Core) (asid : BitVec 16) (p : Sys2Proof.Part), s.pkg < 8 → .tlbi s.pkg c 4 0 asid.toNat p ∈ s.sent → s.alive c = true →
    s.corePart c = p → s.isTwin p = false → (∀ w ∈ s.xlat.walks, w.core ≠ c.val) → s.tlbiBusy c 4 0 = false → Completes (.tlbiApply (Fin.ofNat 8
    s.pkg) c (Fin.ofNat 8 s.pkg) src 4 0 asid p) s fun t => (∀ e ∈ t.xlat.l1, e.1 / 64 = c.val → e.2.valid = true → e.2.part ≠ p.val) ∧ ∀ x ∈
    t.xlat.tlbis, x.todo ≠ []) ∧
  -- TLBI_SYNC makes the core wait exactly where an invalidation of it is outstanding (or it waited)
  (∀ (s : State) (who : Sender) (c : Core), s.Admitted who.who (R.TLBI_SYNC c) true → s.ownBlk who.who c = some c.val → Completes (.tlbiSync who c) s
    fun t => t.regs = s.regs ∧ t.xlat = s.xlat ∧ ((t.coreH c).syncWait = true ↔ (s.coreH c).syncWait = true ∨ s.tlbiQuiet c = false)) ∧
  -- TLBI_SYNC_DONE with nothing outstanding answers the core and ends the wait
  (∀ (s : State) (c : Core), (s.coreH c).syncWait = true → s.tlbisOf c = [] → (s.coreH c).tlbiStall = [] → s.sharers c = [c.val] → Completes
    (.tlbiSyncDone c) s fun t => (t.coreH c).syncWait = false ∧ t.sent = s.sent ++ [.core c 0 0])

/-- Beat boundaries, beat markers and the loss of the beat (R47, R48, R50). -/
def Obligations.BeatCommands : Prop :=
  -- BEAT_BOUNDARY while the timebase runs, no hallmark is outstanding and none adopts a beat raises the beat number by 1 modulo 2^64
  (∀ (s : State) (temps : List Nat) (ests : List (List Nat)) (agree : Bool), s.Inv → s.beat.running = true → s.beat.heardFrom = [] → s.beat.adopt =
    none → Completes (.beatBoundary temps ests agree) s fun t => t.beat.now = (s.beat.now + 1) % 2 ^ 64) ∧
  -- BEAT_MARKER of kind 1 on an ACTIVE port sets HOPS and clears MISSED
  (∀ (s : State) (p : FabPort) (w : Word) (ps : Int), bits w 0 4 = 1 → s.linkActive p = true → s.beat.running = true → Completes (.beatMarker p w none
    ps) s fun t => t.f (R.FP_SYNC p) F.FP_SYNC_HOPS = bits w 10 2 ∧ t.f (R.FP_SYNC p) F.FP_SYNC_MISSED = 0) ∧
  -- MARKER_MISS on an ACTIVE port counts MISSED and sets MARKER_MISS
  (∀ (s : State) (p : FabPort), s.linkActive p = true → Completes (.markerMiss p) s fun t => t.f (R.FP_SYNC p) F.FP_SYNC_MISSED = min (s.f (R.FP_SYNC
    p) F.FP_SYNC_MISSED + 1) F.FP_SYNC_MISSED.max ∧ t.f R.BEAT_STAT F.BEAT_STAT_MARKER_MISS = 1) ∧
  -- BEAT_LOST after 16 markers out of 20 ns on an admitted package that is not master fences it, records BEAT_LOST and raises the Gong for the next beat
  (∀ (s : State), s.isIn = true → s.isMaster = false → 16 ≤ s.beat.over20 → s.beat.selfFenced = false → Completes .beatLost s fun t =>
    t.beat.selfFenced = true ∧ t.Logged E.BEAT_LOST 2 0 ∧ ∃ g ∈ t.err.raise, g.cause = E.BEAT_LOST.val ∧ g.beat = s.now + 1)

/-- A Peal: request, arming, acknowledgement, package result, verdict, and the hallmark exchange (R53, R57, R63). The two beats of the
  acknowledgement are log entry 40. -/
def Obligations.PealProtocol : Prop :=
  -- PEAL_REQUEST of a source on a package that is not master is forwarded to the master
  (∀ (s : State) (target : Nat) (kind : Fin 16) (body : List Byte) (arg : Nat) (src : Pkg), src.val = s.pkg → s.isMaster = false → Completes
    (.pealRequest src target kind body arg none) s fun t => t = s.send (.pealReq s.master target { kind := kind, body := body, arg := arg })) ∧
  -- PEAL_REQUEST that the master has refused: PEAL_LAST of the package that asked takes SEQ 0 and the code, and PEAL_DONE is set
  (∀ (s : State) (target : Nat) (kind : Fin 16) (body : List Byte) (arg : Nat) (src : Pkg) (code : Fin 16), 3 ≤ code.val → code.val ≤ 5 → src.val =
    s.pkg → .pealReq s.master target { kind := kind, body := body, arg := arg } ∈ s.sent → Completes (.pealRequest src target kind body arg (some
    code)) s fun t => t.f R.PEAL_LAST F.PEAL_LAST_RESULT = code ∧ t.f R.PEAL_LAST F.PEAL_LAST_SEQ = 0 ∧ t.f R.PEAL_LAST F.PEAL_LAST_KIND = kind ∧ t.f
    R.BEAT_STAT F.BEAT_STAT_PEAL_DONE = 1) ∧
  -- PEAL_ARMING of a known Peal before its target at a live participant answers an acknowledgement message
  (∀ (s : State) (u : Fin 15) (seq target : Nat) (kind : Fin 16) (body : List Byte) (arg i : Nat) (agree : Bool) (p : PealSlot), u.val < 12 →
    s.armKnown u seq target { kind := kind, body := body, arg := arg } = true → s.now < target → s.pealOf seq = some (i, p) → s.takesPart p u = true →
    Completes (.pealArming u seq target kind body arg agree) s fun t => t.sent = (s.take (.pealArm s.pkg u seq target
    { kind := kind, body := body, arg := arg })).sent ++ [.peal s.pkg u seq 2 true]) ∧
  -- PEAL_ACK more than 2 beats before the target takes the participant out of those awaited
  (∀ (s : State) (u : Fin 15) (seq i : Nat) (p : PealSlot), s.sentBy (.peal s.pkg u seq 2 true) = true → s.pealOf seq = some (i, p) → s.now + 2 <
    p.target → p.valid = true → s.beat.slots.get i = p → u.val ∈ p.waiting → Completes (.pealAck u seq) s fun t => (t.beat.slots.get i).waiting =
    p.waiting.filter (fun x => x != u.val)) ∧
  -- PEAL_PACKAGE_RESULT without a missing participant, more than 1 beat before the target, takes the package out of those awaited
  (∀ (s : State) (src : Pkg) (seq i : Nat) (p : PealSlot), s.isMaster = true → src.val ≠ s.pkg → s.beat.isolated = false → s.locked = false → s.pealOf
    seq = some (i, p) → s.now + 1 < p.target → Completes (.pealPackageResult src seq none) s fun t => (t.beat.slots.get i).waitPkgs =
    p.waitPkgs.filter (fun x => x != src.val)) ∧
  -- PEAL_VERDICT before the target is kept for its participant
  (∀ (s : State) (u : Fin 15) (seq i : Nat) (ok : Bool) (cp : Pkg) (cu : Fin 15) (p : PealSlot), u.val < 12 → s.sentBy (.peal s.pkg u seq 4 ok) = true
    → s.pealOf seq = some (i, p) → s.now < p.target → s.takesPart p u = true → Completes (.pealVerdict u seq ok cp cu) s fun t => (t.beat.slots.get
    i).verdicts = p.verdicts.filter (fun e => e.1 != u.val) ++ [(u.val, ok)]) ∧
  -- HALLMARK_RECEIVED of this beat, not the last one awaited, is kept: PRESENT 1, MATCH says whether it equals this package's
  (∀ (s : State) (src : Pkg) (h : Digest) (n beat : Nat), s.others.contains src.val = true → s.beat.heardFrom.contains src.val = false →
    s.beat.heardFrom ≠ [] → beat = s.now → s.admitted.all (addOnce s.beat.heardFrom src.val).contains = false → Completes (.hallmarkReceived src h n
    beat) s fun t => t.beat.peers.get src = h ∧ src.val ∈ t.beat.heardFrom ∧ t.f (R.HALLMARK_PEER src) F.HALLMARK_PEER_PRESENT = 1 ∧ t.f
    (R.HALLMARK_PEER src) F.HALLMARK_PEER_MATCH = (decide (h = s.beat.hallmark.getD 0 0)).toNat)

/-- Core starts and stops, retries of a checked core, and comparison of a twin pair (R87, R91, R92, R94, R95, R102, R152). A member waits with reply 4
  to reissue: log entry 37. -/
def Obligations.CoresAndTwins : Prop :=
  -- CHECKER_MISMATCH below three retries repeats: the retry counter rises, and only CORE_RETRY_CNT changes among the registers
  (∀ (s : State) (c : Core), s.coreState c = 2 → (s.coreH c).retries < 3 → Completes (.checkerMismatch c false []) s fun t => (t.coreH c).retries =
    (s.coreH c).retries + 1 ∧ (t.coreH c).flag = true ∧ t.f (R.CORE_RETRY_CNT c) F.CORE_RETRY_CNT_RETRIES = min (s.f (R.CORE_RETRY_CNT c)
    F.CORE_RETRY_CNT_RETRIES + 1) F.CORE_RETRY_CNT_RETRIES.max ∧ s.SameRegs t [R.CORE_RETRY_CNT c]) ∧
  -- TWIN_COMPARE of the lower member, the first at its point, keeps its message and changes neither homes nor DRAM
  (∀ (s : State) (c : Fin 120) (kind : Nat) (addr : Word) (size : Nat) (attr : Attr) (mask : Mask) (data : Line) (retired : Nat) (user : Bool),
    s.pairRuns c = true → s.coreBlocked c = false → s.accsOut c (fun _ => true) = false → (s.cores.twins.get c).lowerMsg = none → (s.cores.twins.get
    c).upperMsg = none → Completes (.twinCompare c false kind addr size attr mask data retired user) s fun t => (t.cores.twins.get c).lowerMsg = some
    { kind := kind, addr := addr.toNat, size := size, attr := attr, mask := mask, data := data, retired := retired, user := user } ∧
    (t.cores.twins.get c).upperMsg = none ∧ (t.cores.twins.get c).retLower = retired ∧ t.dram = s.dram ∧ t.home = s.home) ∧
  -- TWIN_COMPARE_TIMEOUT with one message present is a mismatch at that point: both members reissue, TWIN_TIMEOUT is counted
  (∀ (s : State) (c : Fin 120) (a : TwinMsg), (s.cores.twins.get c).lowerMsg = some a → (s.cores.twins.get c).upperMsg = none → (s.cores.twins.get
    c).mismatched = false → Completes (.twinCompareTimeout c) s fun t => (t.cores.twins.get c).mismatched = true ∧ (t.cores.twins.get c).badPoint =
    some a.retired ∧ (t.cores.twins.get c).lowerMsg = none ∧ t.f (R.CORE_FAULT_CNT c) F.CORE_FAULT_CNT_TWIN_TIMEOUT = min (s.f (R.CORE_FAULT_CNT c)
    F.CORE_FAULT_CNT_TWIN_TIMEOUT + 1) F.CORE_FAULT_CNT_TWIN_TIMEOUT.max ∧ .core c 4 0 ∈ t.sent ∧ .core (c + 120) 4 0 ∈ t.sent) ∧
  -- TWIN_INPUT_APPLY by the lower member, of its first input (the lowest D), which is an interrupt, once its count has reached D: pending there
  (∀ (s : State) (c : Fin 120) (n : Nat) (i : TwinInput), s.firstInput c = some i → i.kind = 0 → i.d ≤ n → (∀ q ∈ (s.coreH c).pend, q.vec ≠ i.arg) →
    Completes (.twinInputApply (Fin.ofNat 240 c) n) s fun t => { vec := i.arg, prio := i.prio, rsv := i.rsv } ∈ (t.coreH c).pend) ∧
  -- TWIN_INPUT_APPLY below D: nothing happens yet
  (∀ (s : State) (c : Core) (n : Nat) (i : TwinInput), s.firstInput c = some i → n < i.d → Completes (.twinInputApply c n) s fun t => t = s) ∧
  -- TWIN_STATE_COMPARE with equal signatures ends the state comparison without a mismatch
  (∀ (s : State) (c : Fin 120) (n : Nat) (sig : Word) (ra rb : Nat), (s.cores.twins.get c).stateCmp = some n → (s.cores.twins.get c).rejoin = none →
    s.pairRuns c = true → Completes (.twinStateCompare c sig sig ra rb) s fun t => (t.cores.twins.get c).stateCmp = none ∧ (t.cores.twins.get
    c).mismatched = false ∧ (t.cores.twins.get c).retLower = ra ∧ (t.cores.twins.get c).retUpper = rb ∧ t.dram = s.dram) ∧
  -- CORE_GO on a halted core of a partition not in twin mode runs it from CORE_START_PC and sends the run notice
  (∀ (s : State) (who : Sender) (c : Core), s.Admitted who.who (R.CORE_CTL c) true → s.isTwin (s.corePart c) = false → s.coreState c = 1 → Completes
    (.coreGo who c) s fun t => t.coreState c = 2 ∧ (t.coreH c).pc = s.f (R.CORE_START_PC c) F.CORE_START_PC_PC * 4 ∧ .runNotice s.pkg c (s.corePart c)
    ∈ t.sent ∧ s.SameRegs t [R.CORE_STAT c]) ∧
  -- CORE_STOP on a running core of a partition not in twin mode halts it, with translation off (R152)
  (∀ (s : State) (who : Sender) (c : Core), s.Admitted who.who (R.CORE_CTL c) true → s.isTwin (s.corePart c) = false → s.atCompare (mirror c) = false
    → s.coreState c = 2 → Completes (.coreStop who c) s fun t => t.coreState c = 1 ∧ t.f (R.XLAT_CTL c) F.XLAT_CTL_EN = 0 ∧ s.SameRegs t [R.CORE_STAT
    c, R.XLAT_CTL c])

/-- The Carillon, interrupts of a core, and performance counters (R107, R108, R110, R112). -/
def Obligations.CarillonAndCounters : Prop :=
  -- PMU_OVERFLOW of a counter that counts a listed event wraps it to 0, sets its OVF bit and raises vector 3 of the core's partition where OVF_INT is set
  (∀ (s : State) (c : Core) (n : Fin 8), s.pmuRuns c n = true → Completes (.pmuOverflow c n) s fun t => t.f (R.PMU_CNT c n) F.PMU_CNT_COUNT = 0 ∧ (t.f
    (R.PMU_OVF c) F.PMU_OVF_OVF).testBit n = true ∧ (s.f (R.PMU_CTL c n) F.PMU_CTL_OVF_INT = 1 → s.corePart c ≠ 0 → .source (s.corePart c) 3 (some c)
    ∈ t.sent)) ∧
  -- CARILLON_MESSAGE for an enabled, masked vector that has a source (R107) latches it and delivers nothing
  (∀ (s : State) (p : Sys2Proof.Part) (v : Fin 2048) (src : Option Core) (late up : Bool) (ew : Option (Pkg × Core)), .source p v (src.map (·.val)) ∈
    s.sent → noSource v = false → s.f (R.CAR_CTL p) F.CAR_CTL_EN = 1 → s.f (R.CAR_VEC p v) F.CAR_VEC_EN = 1 → s.f (R.CAR_VEC p v) F.CAR_VEC_MASK = 1 →
    Completes (.carillonMessage p v 0 src 0 false late up ew) s fun t => t.f (R.CAR_VEC p v) F.CAR_VEC_LATCHED = 1 ∧ t.sent = s.sent.erase (.source p
    v (src.map (·.val))) ∧ (v.val ≠ 3 → t.cores = s.cores) ∧ s.SameRegs t [R.CAR_VEC p v]) ∧
  -- CORE_RUN_NOTICE with nothing latched only takes the notice
  (∀ (s : State) (c : Core) (p : Sys2Proof.Part), .runNotice s.pkg c p ∈ s.sent → s.pkg < 8 → s.latchedOf p = [] → Completes (.coreRunNotice
    (Fin.ofNat 8 s.pkg) c p) s fun t => t = s.take (.runNotice s.pkg c p)) ∧
  -- INT_ACK answers the presented vector, which moves from pending to active
  (∀ (s : State) (c : Core) (q : PendVec), s.Admitted (s.selfWho c) (R.INT_ACK c) false → s.pkg < 8 → s.sharers c = [c.val] → s.presented c = some q →
    Completes (.intAck c) s fun t => (t.coreH c).active = (s.coreH c).active ++ [q] ∧ (∀ x ∈ (t.coreH c).pend, x.vec ≠ q.vec) ∧ .core c 0 ((intWord
    (some q)).setWidth 512) ∈ t.sent) ∧
  -- INT_EOI of the highest active vector removes it and nothing from the pending ones
  (∀ (s : State) (c : Core) (v : Fin 2048), s.Admitted (s.selfWho c) (R.INT_EOI c) true → s.sharers c = [c.val] → (bestVec (s.coreH c).active).map
    (·.vec) = some v.val → Completes (.intEoi c v) s fun t => (t.coreH c).active = (s.coreH c).active.filter (fun x => x.vec != v.val) ∧ (t.coreH
    c).pend = (s.coreH c).pend ∧ t.regs = s.regs) ∧
  -- INT_IPI to a core of the partition in this package, for a masked vector, holds the vector at the target
  (∀ (s : State) (c : Core) (v : Fin 2048) (tgt : Core), s.Admitted (s.selfWho c) (R.INT_IPI c) true → s.pkg < 8 → 32 ≤ v.val → s.corePart tgt =
    s.corePart c → s.f (R.CAR_CTL (s.corePart c)) F.CAR_CTL_EN = 1 → s.f (R.CAR_VEC (s.corePart c) v) F.CAR_VEC_EN = 1 → s.f (R.CAR_VEC (s.corePart c)
    v) F.CAR_VEC_MASK = 1 → s.isTwin (s.corePart c) = false → Completes (.intIpi c v (Fin.ofNat 8 s.pkg) (Fin.ofNat 256 tgt.val)) s fun t => v.val ∈
    (t.coreH tgt).held ∧ t.regs = s.regs) ∧
  -- CAR_VEC_WRITE of a vector without a latched message sets each of its five fields and delivers nothing
  (∀ (s : State) (who : Sender) (p : Sys2Proof.Part) (v : Fin 2048) (x : Word), s.Admitted who.who (R.CAR_VEC p v) true → s.f (R.CAR_VEC p v)
    F.CAR_VEC_LATCHED = 0 → s.f (R.CAR_VEC p v) F.CAR_VEC_MASK = 0 → Completes (.carVecWrite who p v x) s fun t => t.f (R.CAR_VEC p v) F.CAR_VEC_EN =
    F.CAR_VEC_EN.get x ∧ t.f (R.CAR_VEC p v) F.CAR_VEC_MASK = F.CAR_VEC_MASK.get x ∧ t.f (R.CAR_VEC p v) F.CAR_VEC_PRIO = F.CAR_VEC_PRIO.get x ∧ t.f
    (R.CAR_VEC p v) F.CAR_VEC_TGT_CORE = F.CAR_VEC_TGT_CORE.get x ∧ t.f (R.CAR_VEC p v) F.CAR_VEC_TGT_PKG = F.CAR_VEC_TGT_PKG.get x ∧ t.f (R.CAR_VEC p
    v) F.CAR_VEC_LATCHED = 0 ∧ t.cores = s.cores)

/-- Routers, transit, link CRC errors, credits, and the fencing of a die (R176, R177, R178, R184, R185, R188, R230). -/
def Obligations.FabricAndDieLinks : Prop :=
  -- ROUTER_FORWARD of the first or only flit of a message takes a credit of the next link, and the flit stands at the next router on its way, along x first, then along y
  (∀ (s : State) (mesh : Fin 14) (x y dx dy : Fin 4) (vc : Fin 8) (form : Fin 4) (dir : Nat) (m : CMsg), s.meshUp mesh y = true → s.exitRouter mesh m
    = (dx.val, dy.val) → vc.val = vcOf m → form.val ∈ formsOf m → form.val ≠ 2 → s.unpassed m = false → s.standsAt mesh (x.val, y.val) form m = true →
    (form.val = 1 → s.srcFenced m = false) → s.maskedDrop mesh vc m = none → routeDir x y dx dy = some dir → s.heldFor (meshLink mesh x y dir) vc =
    none → s.creditFree (meshLink mesh x y dir) vc = true → Completes (.routerForward mesh x y dx dy vc form m) s fun t => t.fab.credits.get (meshLink
    mesh x y dir * 8 + vc) = s.fab.credits.get (meshLink mesh x y dir * 8 + vc) + 1 ∧ (t.flitAt m).router = some (mesh.val, stepTo x y dir) ∧ t.sent =
    s.sent ∧ t.regs = s.regs) ∧
  -- ROUTER_FORWARD at the exit router of a message that ends in this mesh: it has left the mesh
  (∀ (s : State) (mesh : Fin 14) (x y : Fin 4) (vc : Fin 8) (m : CMsg), s.meshUp mesh y = true → s.goalOf mesh 0 m = (x.val, y.val) → s.exitLink
    mesh m = none → vc.val = vcOf m → formsOf m = [0] → s.unpassed m = false → s.standsAt mesh (x.val, y.val) 0 m = true → s.maskedDrop mesh vc m =
    none → Completes (.routerForward mesh x y x y vc 0 m) s fun t => (t.flitAt m).router = none ∧ mesh.val ∈ (t.flitAt m).left ∧ t.sent = s.sent ∧
    t.fab = s.fab) ∧
  -- ROUTER_FORWARD of a data flit follows its mask flit on the link
  (∀ (s : State) (mesh : Fin 14) (x y dx dy : Fin 4) (vc : Fin 8) (dir : Nat) (m : CMsg), s.meshUp mesh y = true → s.exitRouter mesh m = (dx.val,
    dy.val) → vc.val = vcOf m → 2 ∈ formsOf m → s.unpassed m = false → .coh m ∈ s.sent → s.maskedDrop mesh vc m = none → routeDir x y dx dy = some dir
    → s.heldFor (meshLink mesh x y dir) vc = some m → s.creditFree (meshLink mesh x y dir) vc = true → Completes (.routerForward mesh x y dx dy vc 2
    m) s fun t => t.fab.torn = s.fab.torn.erase (meshLink mesh x y dir, m) ∧ t.fab.credits.get (meshLink mesh x y dir * 8 + vc) = s.fab.credits.get
    (meshLink mesh x y dir * 8 + vc) + 1 ∧ t.sent = s.sent) ∧
  -- ROUTER_FORWARD of another message's flit while a mask flit holds the channel of the link: nothing moves
  (∀ (s : State) (mesh : Fin 14) (x y dx dy : Fin 4) (vc : Fin 8) (dir : Nat) (m k : CMsg), k ≠ m → s.maskedDrop mesh vc m = none → routeDir x y dx dy
    = some dir → s.heldFor (meshLink mesh x y dir) vc = some k → Completes (.routerForward mesh x y dx dy vc 0 m) s fun t => t = s) ∧
  -- TRANSIT_FORWARD of a message for another package sends it on by the port its route names, by a credit of that port's set for it: ending where the message ends at that neighbour, else transit
  (∀ (s : State) (p : FabPort) (n : Nat) (m : CMsg), m.dst.pkg ≠ s.pkg → s.paused p = false → s.beat.isolated = false → s.locked = false → s.resting =
    false → s.outPort m = some n → (∀ l ∈ s.wayOut p n m, s.linkActive l = true) → s.targetRests m = false → s.linkCarries n = true → s.creditFree
    (s.creditSet n m) (vcOf m) = true → (∀ e ∈ s.fab.transit, s.creditSet e.1 e.2 ≠ s.creditSet n m ∨ vcOf e.2 ≠ vcOf m) → Completes (.transitForward
    p m) s fun t => t.sent = s.sent.erase (.coh m) ++ [.coh m] ∧ t.fab.credits.get (s.creditSet n m * 8 + vcOf m) = s.fab.credits.get (s.creditSet n m
    * 8 + vcOf m) + 1 ∧ t.regs = s.regs) ∧
  -- LINK_CRC_ERROR below three replays counts CRC and one more replay
  (∀ (s : State) (l : Fin 21) (payload : BitVec 608) (crc : BitVec 32), s.linkState l = 5 → s.paused l = false → flitCrc payload ≠ crc →
    s.fab.replays.get l < 3 → Completes (.linkCrcError l payload crc) s fun t => t.f (R.LINK_ERR l) F.LINK_ERR_CRC = min (s.f (R.LINK_ERR l)
    F.LINK_ERR_CRC + 1) F.LINK_ERR_CRC.max ∧ t.fab.replays.get l = s.fab.replays.get l + 1 ∧ t.sent = s.sent ∧ s.SameRegs t [R.LINK_ERR l]) ∧
  -- LINK_CRC_ERROR at HUB-B's end of the hub bridge counts in that end's LINK_ERR
  (∀ (s : State) (payload : BitVec 608) (crc : BitVec 32), s.linkState 20 = 5 → s.paused 20 = false → flitCrc payload ≠ crc →
    s.fab.replays.get 21 < 3 → Completes (.linkCrcError 21 payload crc) s fun t => F.LINK_ERR_CRC.get t.links.bridgeErr =
    min (F.LINK_ERR_CRC.get s.links.bridgeErr + 1) F.LINK_ERR_CRC.max ∧ t.fab.replays.get 21 = s.fab.replays.get 21 + 1 ∧ t.regs = s.regs) ∧
  -- LINK_CRC_ERROR on a mesh link below three replays: one more replay, and the flits that the sender still keeps are at the sender again
  (∀ (s : State) (mesh : Fin 14) (x y dir : Fin 4) (payload : BitVec 608) (crc : BitVec 32), flitCrc payload ≠ crc → s.fab.replays.get (meshLink mesh
    x y dir) < 3 → Completes (.linkCrcError (meshLink mesh x y dir) payload crc) s fun t => t.fab.replays.get (meshLink mesh x y dir) =
    s.fab.replays.get (meshLink mesh x y dir) + 1 ∧ t.sent = s.sent ∧ t.regs = s.regs ∧ ∀ f ∈ s.flits, f.msg ∈ s.fab.replayBuf.get (meshLink mesh x y
    dir) → f.router = some (mesh.val, stepTo x y dir) → { f with router := some (mesh.val, x.val, y.val) } ∈ t.flits) ∧
  -- FLIT_CRC_FAIL of a live die fences it with CAUSE 3: its cores are FENCED
  (∀ (s : State) (d : Die), s.dieOff d = false → s.dieFenced d = false → Completes (.flitCrcFail (Fin.ofNat 14 d)) s fun t => t.dieFenced d = true ∧
    t.f (R.DL_DIE d) F.DL_DIE_CAUSE = 3 ∧ t.dieState d = 4 ∧ ∀ c ∈ coresOfDie d, t.coreState c = 3) ∧
  -- CREDIT_RETURN with nothing waiting gives one credit back
  (∀ (s : State) (link : Nat) (vc : Fin 8), (link < 21 → s.paused link = false) → (21 ≤ link → link < 29 → s.paused (link - 21) = false) →
    s.fab.transit = [] → Completes (.creditReturn link vc) s fun t => t.fab.credits.get (link * 8 + vc) = s.fab.credits.get (link * 8 + vc) - 1 ∧
    t.sent = s.sent) ∧
  -- DIE_RESET of a powered die fences it with CAUSE 1: its cores are FENCED
  (∀ (s : State) (d : Die), s.dieState d ≠ 0 → s.dieFenced d = false → Completes (.dieReset d) s fun t => t.dieFenced d = true ∧ t.f (R.DL_DIE d)
    F.DL_DIE_CAUSE = 1 ∧ t.dieState d = 4 ∧ ∀ c ∈ coresOfDie d, t.coreState c = 3) ∧
  -- DIE_CLOCK_LOST of a powered die fences it with CAUSE 2: its cores are FENCED
  (∀ (s : State) (d : Die), s.dieState d ≠ 0 → s.dieFenced d = false → Completes (.dieClockLost d) s fun t => t.dieFenced d = true ∧ t.f (R.DL_DIE d)
    F.DL_DIE_CAUSE = 2 ∧ t.dieState d = 4 ∧ ∀ c ∈ coresOfDie d, t.coreState c = 3) ∧
  -- VR_PG_FALL of a powered die outside Rest fences it with CAUSE 1
  (∀ (s : State) (d : Die), s.dieState d ≠ 0 → s.restState ≠ ST_REST → s.dieFenced d = false → Completes (.vrPgFall d) s fun t => t.dieFenced d = true
    ∧ t.f (R.DL_DIE d) F.DL_DIE_CAUSE = 1 ∧ t.dieState d = 4) ∧
  -- VR_PG_FALL of a die that is off, or in Rest, changes nothing
  (∀ (s : State) (d : Die), s.dieState d = 0 ∨ s.restState = ST_REST → Completes (.vrPgFall d) s fun t => t = s)

/-- Regulators and arbiters (R193, R196, R197, R199, R203). -/
def Obligations.Arbiters : Prop :=
  -- REGULATOR_PASS of a request with a reserved token marks it reserved and takes one token
  (∀ (s : State) (a : Arb) (p : Sys2Proof.Part) (m : CMsg) (n : Nat), hasReg a = true → s.regOf m = some (a.val, n) → s.f (R.ARB_RR a) F.ARB_RR_HELD =
    0 → p.val = m.part → p.val ≠ 0 → (vcOf m = 0 ∨ vcOf m = 1) → partialWrite m = false → .coh m ∈ s.sent → (s.flitAt m).passed = false → m.rsv =
    false → 1 ≤ (s.regH a).rsv.get p → Completes (.regulatorPass a p false m) s fun t => t.sent = s.sent.erase (.coh m) ++ [.coh
    { m with rsv := true }] ∧ (t.regH a).rsv.get p = (s.regH a).rsv.get p - 1 ∧ t.regs = s.regs) ∧
  -- REGULATOR_PASS of a request for which its partition has no token leaves it waiting there
  (∀ (s : State) (a : Arb) (p : Sys2Proof.Part) (m : CMsg) (n : Nat), hasReg a = true → s.regOf m = some (a.val, n) → s.f (R.ARB_RR a) F.ARB_RR_HELD =
    0 → p.val = m.part → p.val ≠ 0 → (vcOf m = 0 ∨ vcOf m = 1) → partialWrite m = false → .coh m ∈ s.sent → (s.flitAt m).passed = false → m.rsv =
    false → regTake (s.regH a) (s.f (R.INJ_CTL a) F.INJ_CTL_RATE) p 1 = none → Completes (.regulatorPass a p false m) s fun t => (t.regH a).waiting =
    (s.regH a).waiting ++ [(p.val, false, m)] ∧ t.sent = s.sent.erase (.coh m) ∧ t.regs = s.regs) ∧
  -- REGULATOR_PASS of a request while its port's arbiter holds another requester's grant leaves it where it is
  (∀ (s : State) (a : Arb) (p : Sys2Proof.Part) (m : CMsg) (n : Nat) (two : Bool), s.regOf m = some (a.val, n) → s.f (R.ARB_RR a) F.ARB_RR_HELD ≠ 0 →
    s.f (R.ARB_RR a) F.ARB_RR_OWNER ≠ n → Completes (.regulatorPass a p two m) s fun t => t = s) ∧
  -- ARBITER_ROUND of two requesters grants the one of higher effective class: it owns, the pointer passes it, its losses clear; the other's losses and effective class rise by their rules
  (∀ (s : State) (a : Arb) (m n : Fin 16) (cycle : Nat), (a.val < 24 ∨ 42 ≤ a.val) → m ≠ n → s.f (R.ARB_RR a) F.ARB_RR_HELD = 0 → s.arbOpen a m = true
    → s.arbOpen a n = true → s.f (R.ARB_REQ a n) F.ARB_REQ_ECLASS < s.f (R.ARB_REQ a m) F.ARB_REQ_ECLASS → m.val < s.arbNreq a → n.val < s.arbNreq a →
    Completes (.arbiterRound a [(m, false), (n, false)] cycle) s fun t => t.f (R.ARB_RR a) F.ARB_RR_HELD = 1 ∧ t.f (R.ARB_RR a) F.ARB_RR_OWNER = m ∧
    t.f (R.ARB_RR a) F.ARB_RR_POINTER = (m + 1) % 16 ∧ t.f (R.ARB_REQ a m) F.ARB_REQ_LOSSES = 0 ∧ t.f (R.ARB_REQ a n) F.ARB_REQ_LOSSES = min (s.f
    (R.ARB_REQ a n) F.ARB_REQ_LOSSES + 1) 0xFFFF ∧ t.f (R.ARB_REQ a n) F.ARB_REQ_ECLASS = min (s.f (R.ARB_REQ a n) F.ARB_REQ_ECLASS + 1) (max (s.f
    (R.ARB_REQ a n) F.ARB_REQ_CLASS) (s.f (R.ARB_REQ a n) F.ARB_REQ_CEIL))) ∧
  -- ARBITER_BACKOFF_END sets WAIT_LEFT to 0
  (∀ (s : State) (a : Arb) (n : Fin 16), (a.val = 60 ∨ a.val = 61 → s.home.lineq = [] ∧ s.home.proxyWait = [] ∧ ∀ x ∈ s.home.txns, x.ordered = false)
    → Completes (.arbiterBackoffEnd a n) s fun t => t.f (R.ARB_REQ a n) F.ARB_REQ_WAIT_LEFT = 0 ∧ s.SameRegs t [R.ARB_REQ a n]) ∧
  -- BURST_EXPIRY once a message has passed and the limit, in beats or fabric cycles, has run out ends the grant, counts EXPIRED and gives the owner its CLASS
  (∀ (s : State) (a : Arb) (cycle : Nat), s.f (R.ARB_RR a) F.ARB_RR_HELD = 1 → (s.arbH a).served = true → (s.f (R.ARB_REQ a (s.f (R.ARB_RR a)
    F.ARB_RR_OWNER)) F.ARB_REQ_UNIT = 1 → (s.arbH a).burstLeft = 0) → (s.f (R.ARB_REQ a (s.f (R.ARB_RR a) F.ARB_RR_OWNER)) F.ARB_REQ_UNIT = 0 →
    (s.arbH a).grantAt + s.f (R.ARB_REQ a (s.f (R.ARB_RR a) F.ARB_RR_OWNER)) F.ARB_REQ_BURST ≤ cycle) → (∀ e ∈ s.fab.torn, arbLink a ≠ some e.1) →
    (a.val = 60 ∨ a.val = 61 → s.home.lineq = [] ∧ s.home.proxyWait = [] ∧ ∀ x ∈ s.home.txns, x.ordered = false) → Completes (.burstExpiry a true
    cycle) s fun t => t.f (R.ARB_RR a) F.ARB_RR_HELD = 0 ∧ t.f (R.ARB_STAT a) F.ARB_STAT_EXPIRED = min (s.f (R.ARB_STAT a)
    F.ARB_STAT_EXPIRED + 1) F.ARB_STAT_EXPIRED.max ∧ t.f (R.ARB_REQ a (s.f (R.ARB_RR a) F.ARB_RR_OWNER)) F.ARB_REQ_ECLASS = s.f (R.ARB_REQ a (s.f
    (R.ARB_RR a) F.ARB_RR_OWNER)) F.ARB_REQ_CLASS) ∧
  -- BURST_EXPIRY while the owner requests and no message has passed ends nothing
  (∀ (s : State) (a : Arb) (cycle : Nat), (s.arbH a).served = false → Completes (.burstExpiry a true cycle) s fun t => t = s) ∧
  -- BURST_EXPIRY between a mask flit and its data flit on the arbiter's link ends nothing
  (∀ (s : State) (a : Arb) (e : Nat × CMsg) (still : Bool) (cycle : Nat), e ∈ s.fab.torn → arbLink a = some e.1 → Completes (.burstExpiry a still
    cycle) s fun t => t = s) ∧
  -- ARB_CLR clears ARB_STAT and nothing else
  (∀ (s : State) (who : Sender) (a : Arb), s.Admitted who.who (R.ARB_CLR a) true → Completes (.arbClr who a) s fun t => t.reg (R.ARB_STAT a) = 0 ∧
    s.SameRegs t [R.ARB_STAT a])

/-- Laser switches, lane faults and light loss (R269, R275). -/
def Obligations.PhotonicLinks : Prop :=
  -- LASER_POWER_LOSS of a tile in use with a spare: the spare takes its role, LASER_SWITCH is recorded and counted, the half pauses
  (∀ (s : State) (i : Fin 4) (k role : Nat), s.tile i = role → (role = 1 ∨ role = 2) → (List.range 4).find? (fun k => s.tile k = 3) = some k →
    Completes (.laserPowerLoss i) s fun t => t.tile i = 4 ∧ t.tile k = role ∧ t.Logged E.LASER_SWITCH 12 i ∧ role - 1 ∈ t.links.pause ∧ t.f
    R.LASER_STAT F.LASER_STAT_SWITCHES = min (s.f R.LASER_STAT F.LASER_STAT_SWITCHES + 1) F.LASER_STAT_SWITCHES.max ∧ s.SameRegs t [R.LASER_STAT]) ∧
  -- LASER_SWITCH_DONE ends the pause of that half only
  (∀ (s : State) (half : Fin 2), Completes (.laserSwitchDone half) s fun t => half.val ∉ t.links.pause ∧ (∀ h ∈ s.links.pause, h ≠ half.val → h ∈
    t.links.pause) ∧ t.regs = s.regs) ∧
  -- LANE_CHECK_FAIL on a used lane of an ACTIVE link counts the lane's failures
  (∀ (s : State) (l : Fin 21) (w : Fin 64), s.linkState l = 5 → s.paused l = false → (s.reg (R.LINK_MAP l)).getLsbD w = true → Completes
    (.laneCheckFail l.castSucc w) s fun t => t.links.laneFails.get (l * 64 + w) = s.links.laneFails.get (l * 64 + w) + 1 ∧ t.regs = s.regs) ∧
  -- LANE_CHECK_FAIL at HUB-B's end of the hub bridge counts that end's lane
  (∀ (s : State) (w : Fin 64), s.linkState 20 = 5 → s.paused 20 = false → (s.endMap 21).getLsbD w = true → Completes (.laneCheckFail 21 w) s fun t =>
    t.links.laneFails.get (21 * 64 + w) = s.links.laneFails.get (21 * 64 + w) + 1 ∧ t.regs = s.regs) ∧
  -- LANE_MAP_OUT of a lane over the limit marks it bad and retrains the link
  (∀ (s : State) (l : Fin 21) (w : Fin 64), s.linkState l = 5 → s.paused l = false → s.f (R.LINK_CTL l) F.LINK_CTL_LANE_LIMIT < s.links.laneFails.get
    (l * 64 + w) → Completes (.laneMapOut l.castSucc w) s fun t => (t.reg (R.LINK_BAD l)).getLsbD w = true ∧ t.linkState l = 2 ∧ t.reg (R.LINK_MAP l)
    = 0 ∧ t.f (R.LINK_STAT l) F.LINK_STAT_RETRAINS = min (s.f (R.LINK_STAT l) F.LINK_STAT_RETRAINS + 1) F.LINK_STAT_RETRAINS.max) ∧
  -- LANE_MAP_OUT at HUB-B's end of the hub bridge marks the lane bad there alone, and retrains the bridge
  (∀ (s : State) (w : Fin 64), s.linkState 20 = 5 → s.paused 20 = false → s.f (R.LINK_CTL 20) F.LINK_CTL_LANE_LIMIT < s.links.laneFails.get (21 * 64 +
    w) → Completes (.laneMapOut 21 w) s fun t => t.links.bridgeBad.getLsbD w = true ∧ t.reg (R.LINK_BAD 20) = s.reg (R.LINK_BAD 20) ∧ t.linkState 20 =
    2 ∧ t.reg (R.LINK_MAP 20) = 0) ∧
  -- LINK_LIGHT_LOSS on an ACTIVE link takes it back to LIGHT with no lane mapped
  (∀ (s : State) (l : Fin 21), s.linkState l = 5 → s.paused l = false → Completes (.linkLightLoss l) s fun t => t.linkState l = 1 ∧ t.reg (R.LINK_MAP
    l) = 0 ∧ t.f (R.LINK_STAT l) F.LINK_STAT_WIDTH = 0 ∧ t.f (R.LINK_STAT l) F.LINK_STAT_RETRAINS = min (s.f (R.LINK_STAT l) F.LINK_STAT_RETRAINS + 1)
    F.LINK_STAT_RETRAINS.max)

/-- Link training by the Service Core of the link's half (R272). The behaviour of LT_CTL.GO outside the order of steps is log entry 45. -/
def Obligations.LinkTraining : Prop :=
  -- LT_LIGHT starts LIGHT: BUSY, width 0, no lane mapped
  (∀ (s : State) (l : Fin 21) (v : Word), s.linkState l ≠ 7 → s.linkState l ≠ 8 → stepMay (s.linkState l) 1 = true → s.f (R.LT_STAT l) F.LT_STAT_BUSY
    = 0 → s.locked = false → Completes (.ltLight (.service (Fin.ofNat 2 (halfOf l))) l v) s fun t => t.linkState l = 1 ∧ t.f (R.LT_STAT l)
    F.LT_STAT_BUSY = 1 ∧ t.f (R.LINK_STAT l) F.LINK_STAT_WIDTH = 0 ∧ t.reg (R.LINK_MAP l) = 0 ∧ t.sent = s.sent) ∧
  -- LT_LOCK starts LOCK: BUSY, width 0, no lane mapped
  (∀ (s : State) (l : Fin 21) (v : Word), s.linkState l ≠ 7 → s.linkState l ≠ 8 → stepMay (s.linkState l) 2 = true → s.f (R.LT_STAT l) F.LT_STAT_BUSY
    = 0 → s.locked = false → Completes (.ltLock (.service (Fin.ofNat 2 (halfOf l))) l v) s fun t => t.linkState l = 2 ∧ t.f (R.LT_STAT l)
    F.LT_STAT_BUSY = 1 ∧ t.f (R.LINK_STAT l) F.LINK_STAT_WIDTH = 0 ∧ t.reg (R.LINK_MAP l) = 0 ∧ t.sent = s.sent) ∧
  -- LT_ADVERTISE sends this end's capability
  (∀ (s : State) (l : Fin 21) (v : Word), s.linkState l ≠ 7 → s.linkState l ≠ 8 → stepMay (s.linkState l) 3 = true → s.f (R.LT_STAT l) F.LT_STAT_BUSY
    = 0 → s.locked = false → Completes (.ltAdvertise (.service (Fin.ofNat 2 (halfOf l))) l v) s fun t => t.linkState l = 3 ∧ t.f (R.LINK_STAT l)
    F.LINK_STAT_CAP = s.capability l ∧ t.sent = s.sent ++ [.train l 3 (s.capability l) (maskOf (s.goodLanes l))]) ∧
  -- LT_CONFIRM sends the smaller of the two capabilities
  (∀ (s : State) (l : Fin 21) (v : Word), s.linkState l ≠ 7 → s.linkState l ≠ 8 → stepMay (s.linkState l) 4 = true → s.f (R.LT_STAT l) F.LT_STAT_BUSY
    = 0 → s.locked = false → Completes (.ltConfirm (.service (Fin.ofNat 2 (halfOf l))) l v) s fun t => t.linkState l = 4 ∧ t.sent = s.sent ++ [.train
    l 4 (min (s.f (R.LINK_STAT l) F.LINK_STAT_CAP) (s.f (R.LINK_STAT l) F.LINK_STAT_PEER_CAP)) 0]) ∧
  -- LT_STEP_DONE of LOCK reports the good lanes among the link's own
  (∀ (s : State) (l : Fin 21) (good : Word) (peer : Nat) (pc : Bool) (delay : Nat), s.f (R.LT_STAT l) F.LT_STAT_BUSY = 1 → s.linkState l = 2 →
    Completes (.ltStepDone l good peer pc false delay) s fun t => (t.reg (R.LT_GOOD l)).toNat = good.toNat % 2 ^ lanesOf l ∧ t.f (R.LT_STAT l)
    F.LT_STAT_BUSY = 0 ∧ t.f (R.LT_STAT l) F.LT_STAT_DONE = 1 ∧ t.f (R.LT_STAT l) F.LT_STAT_FAIL = 0 ∧ s.SameRegs t [R.LT_GOOD l, R.LT_STAT l]) ∧
  -- LT_STEP_DONE of CONFIRM on a die link or hub bridge, when both ends confirm the same width, makes the link ACTIVE at it and releases what it held
  (∀ (s : State) (l : Fin 21) (good : Word) (peer delay : Nat), s.f (R.LT_STAT l) F.LT_STAT_BUSY = 1 → s.linkState l = 4 → 8 ≤ l.val → peer ≠ 0 → peer
    = min (s.f (R.LINK_STAT l) F.LINK_STAT_CAP) (s.f (R.LINK_STAT l) F.LINK_STAT_PEER_CAP) → Completes (.ltStepDone l good peer true false delay) s
    fun t => t.linkState l = 5 ∧ t.f (R.LINK_STAT l) F.LINK_STAT_WIDTH = peer ∧ t.f (R.LINK_STAT l) F.LINK_STAT_HELD = 0 ∧ ∀ e ∈ t.links.held, e.1 ≠
    l.val)

/-- Requests that read at a home in home-ordered mode, opened at once (R212, R213, R215, R222). -/
def Obligations.HomeReads : Prop :=
  -- RD_SHARED marks the entry busy and queues a DRAM read of the line for the request
  (∀ (s : State) (h : Hub) (m : CMsg) (slot : Nat), s.Arrives { m with op := .rdShared } → s.cutOff h m.src = false → s.Opens h m.line m.part slot →
    Completes (.rdShared h m) s fun t => (t.dirEnt h m.line).busy = true ∧ ∃ r, t.dram.queue = s.dram.queue ++ [r] ∧ r.line = m.line ∧ r.wr = false ∧
    r.part = m.part ∧ r.hub = h.val ∧ r.slot = some slot) ∧
  -- RD_UNIQUE does the same
  (∀ (s : State) (h : Hub) (m : CMsg) (slot : Nat), s.Arrives { m with op := .rdUnique } → s.cutOff h m.src = false → s.Opens h m.line m.part slot →
    Completes (.rdUnique h m) s fun t => (t.dirEnt h m.line).busy = true ∧ ∃ r, t.dram.queue = s.dram.queue ++ [r] ∧ r.line = m.line ∧ r.wr = false ∧
    r.part = m.part ∧ r.hub = h.val ∧ r.slot = some slot) ∧
  -- UPGRADE of a line that nobody holds does the same
  (∀ (s : State) (h : Hub) (m : CMsg) (slot : Nat), s.Arrives { m with op := .upgrade } → s.cutOff h m.src = false → s.Opens h m.line m.part slot →
    Completes (.upgrade h m) s fun t => (t.dirEnt h m.line).busy = true ∧ ∃ r, t.dram.queue = s.dram.queue ++ [r] ∧ r.line = m.line ∧ r.wr = false ∧
    r.part = m.part ∧ r.hub = h.val ∧ r.slot = some slot) ∧
  -- DMA_RD queues a DRAM read; the line is busy and memory is unchanged
  (∀ (s : State) (h : Hub) (m : CMsg) (slot : Nat), s.Arrives { m with op := .dmaRd } → s.cutOff h m.src = false → s.Opens h m.line m.part slot →
    Completes (.dmaRd h m) s fun t => (∃ r, t.dram.queue = s.dram.queue ++ [r] ∧ r.line = m.line ∧ r.wr = false ∧ r.part = m.part ∧ r.hub = h.val ∧
    r.slot = some slot) ∧ t.lineBusy h m.line = true ∧ t.dram.mem = s.dram.mem) ∧
  -- UC_RD queues a DRAM read
  (∀ (s : State) (h : Hub) (m : CMsg) (slot : Nat), s.Arrives { m with op := .ucRd } → s.cutOff h m.src = false → s.Opens h m.line m.part slot →
    Completes (.ucRd h m) s fun t => (∃ r, t.dram.queue = s.dram.queue ++ [r] ∧ r.line = m.line ∧ r.wr = false ∧ r.part = m.part ∧ r.hub = h.val ∧
    r.slot = some slot) ∧ t.lineBusy h m.line = true ∧ t.dram.mem = s.dram.mem) ∧
  -- FAR_ATOMIC with a free atomic slot queues a DRAM read
  (∀ (s : State) (h : Hub) (m : CMsg) (slot : Nat), s.Arrives { m with op := .farAtomic } → s.cutOff h m.src = false → s.Opens h m.line m.part slot →
    s.atomicSlot h m.line = true → s.f (R.ARB_REQ (60 + h) (s.srcPort h m)) F.ARB_REQ_WAIT_LEFT = 0 → Completes (.farAtomic h m) s fun t => (∃ r,
    t.dram.queue = s.dram.queue ++ [r] ∧ r.line = m.line ∧ r.wr = false ∧ r.part = m.part ∧ r.hub = h.val ∧ r.slot = some slot) ∧ t.lineBusy h m.line
    = true ∧ t.dram.mem = s.dram.mem) ∧
  -- UC_ATOMIC with a free atomic slot queues a DRAM read
  (∀ (s : State) (h : Hub) (m : CMsg) (slot : Nat), s.Arrives { m with op := .ucAtomic } → s.cutOff h m.src = false → s.Opens h m.line m.part slot →
    s.atomicSlot h m.line = true → s.f (R.ARB_REQ (60 + h) (s.srcPort h m)) F.ARB_REQ_WAIT_LEFT = 0 → Completes (.ucAtomic h m) s fun t => (∃ r,
    t.dram.queue = s.dram.queue ++ [r] ∧ r.line = m.line ∧ r.wr = false ∧ r.part = m.part ∧ r.hub = h.val ∧ r.slot = some slot) ∧ t.lineBusy h m.line
    = true ∧ t.dram.mem = s.dram.mem)

/-- Requests that write, and maintenance of a line, at a home in home-ordered mode (R212, R213, R215). -/
def Obligations.HomeWritesAndMaintenance : Prop :=
  -- WT_WRITE queues a DRAM write of its bytes under its mask; memory itself is unchanged until then
  (∀ (s : State) (h : Hub) (m : CMsg) (slot : Nat), s.Arrives { m with op := .wtWrite } → s.cutOff h m.src = false → s.Opens h m.line m.part slot →
    Completes (.wtWrite h m) s fun t => t.lineBusy h m.line = true ∧ t.dram.mem = s.dram.mem ∧ ∃ r, t.dram.queue = s.dram.queue ++ [r] ∧ r.line =
    m.line ∧ r.wr = true ∧ r.part = m.part ∧ r.data = m.data ∧ r.mask = m.mask ∧ r.slot = some slot) ∧
  -- DMA_WR does the same
  (∀ (s : State) (h : Hub) (m : CMsg) (slot : Nat), s.Arrives { m with op := .dmaWr } → s.cutOff h m.src = false → s.Opens h m.line m.part slot →
    Completes (.dmaWr h m) s fun t => t.lineBusy h m.line = true ∧ t.dram.mem = s.dram.mem ∧ ∃ r, t.dram.queue = s.dram.queue ++ [r] ∧ r.line = m.line
    ∧ r.wr = true ∧ r.part = m.part ∧ r.data = m.data ∧ r.mask = m.mask ∧ r.slot = some slot) ∧
  -- UC_WR does the same
  (∀ (s : State) (h : Hub) (m : CMsg) (slot : Nat), s.Arrives { m with op := .ucWr } → s.cutOff h m.src = false → s.Opens h m.line m.part slot →
    Completes (.ucWr h m) s fun t => t.lineBusy h m.line = true ∧ t.dram.mem = s.dram.mem ∧ ∃ r, t.dram.queue = s.dram.queue ++ [r] ∧ r.line = m.line
    ∧ r.wr = true ∧ r.part = m.part ∧ r.data = m.data ∧ r.mask = m.mask ∧ r.slot = some slot) ∧
  -- CMO_CLEAN of a line nobody holds completes at once
  (∀ (s : State) (h : Hub) (m : CMsg) (slot : Nat), s.Arrives { m with op := .cmoClean } → s.cutOff h m.src = false → s.Opens h m.line m.part slot →
    m.txn ≠ noSlot → Completes (.cmoClean h m) s fun t => t.lineBusy h m.line = false ∧ t.dram.mem = s.dram.mem ∧ ∃ r, .coh r ∈ t.sent ∧ r.op = .comp
    ∧ r.line = m.line ∧ r.dst = m.src ∧ r.txn = m.txn) ∧
  -- CMO_CLEAN_INV of a line nobody holds completes at once
  (∀ (s : State) (h : Hub) (m : CMsg) (slot : Nat), s.Arrives { m with op := .cmoCleanInv } → s.cutOff h m.src = false → s.Opens h m.line m.part slot
    → m.txn ≠ noSlot → Completes (.cmoCleanInv h m) s fun t => t.lineBusy h m.line = false ∧ t.dram.mem = s.dram.mem ∧ ∃ r, .coh r ∈ t.sent ∧ r.op =
    .comp ∧ r.line = m.line ∧ r.dst = m.src ∧ r.txn = m.txn)

/-- Snoops of a line that a Die Cache holds alone (R214, R216, R225). -/
def Obligations.Snoops : Prop :=
  -- SNP_SHARED of an M line: it becomes O, the requester gets the data, the home hears of a dirty forward
  (∀ (s : State) (d : Die) (m : CMsg) (w : Nat) (l : DcLine), s.Snooped d { m with op := .snpShared } w l → l.coh = .m → Completes (.snpShared
    (d.castLE (by decide)) m) s fun t => t.dcAt d m.line w = { l with coh := .o } ∧ t.Sends .dataS m.line m.fwd m.fwdTxn l.data ∧ t.Sends
    .snpRspFwdDirty m.line m.src m.txn 0) ∧
  -- SNP_UNIQUE of an M or O line: it becomes invalid, the requester gets it as M
  (∀ (s : State) (d : Die) (m : CMsg) (w : Nat) (l : DcLine), s.Snooped d { m with op := .snpUnique } w l → l.coh = .m ∨ l.coh = .o → Completes
    (.snpUnique (d.castLE (by decide)) m) s fun t => (t.dcAt d m.line w).coh = .i ∧ t.Sends .dataM m.line m.fwd m.fwdTxn l.data ∧ t.Sends
    .snpRspFwdDirty m.line m.src m.txn 0) ∧
  -- SNP_INV of an S or E line: invalid, answered SNP_RSP_I
  (∀ (s : State) (d : Die) (m : CMsg) (w : Nat) (l : DcLine), s.Snooped d { m with op := .snpInv } w l → l.coh = .s ∨ l.coh = .e → Completes (.snpInv
    (d.castLE (by decide)) m) s fun t => (t.dcAt d m.line w).coh = .i ∧ t.Sends .snpRspI m.line m.src m.txn 0) ∧
  -- SNP_CLEAN of an M line: it becomes E and its data goes home
  (∀ (s : State) (d : Die) (m : CMsg) (w : Nat) (l : DcLine), s.Snooped d { m with op := .snpClean } w l → l.coh = .m → Completes (.snpClean (d.castLE
    (by decide)) m) s fun t => t.dcAt d m.line w = { l with coh := .e } ∧ t.Sends .snpData m.line m.src m.txn l.data) ∧
  -- SNP_RECALL of an M or O line: invalid, its data goes home
  (∀ (s : State) (d : Die) (m : CMsg) (w : Nat) (l : DcLine), s.Snooped d { m with op := .snpRecall } w l → l.coh = .m ∨ l.coh = .o → Completes
    (.snpRecall (d.castLE (by decide)) m) s fun t => (t.dcAt d m.line w).coh = .i ∧ t.Sends .snpData m.line m.src m.txn l.data) ∧
  -- SNP_ORDER_SHARED of an E line: S, data to the requester, a clean forward to the home
  (∀ (s : State) (d : Die) (m : CMsg) (w : Nat) (l : DcLine), s.Snooped d { m with op := .snpOrderShared } w l → l.coh = .e → Completes
    (.snpOrderShared (d.castLE (by decide)) m) s fun t => t.dcAt d m.line w = { l with coh := .s } ∧ t.Sends .dataS m.line m.fwd m.fwdTxn l.data ∧
    t.Sends .snpRspFwdClean m.line m.src m.txn 0) ∧
  -- SNP_ORDER_UNIQUE of an E line: invalid, passed to the requester as E, and the pass is remembered
  (∀ (s : State) (d : Die) (m : CMsg) (w : Nat) (l : DcLine), s.Snooped d { m with op := .snpOrderUnique } w l → l.coh = .e → Completes
    (.snpOrderUnique (d.castLE (by decide)) m) s fun t => (t.dcAt d m.line w).coh = .i ∧ t.Sends .dataE m.line m.fwd m.fwdTxn l.data ∧ t.Sends
    .snpRspFwdClean m.line m.src m.txn 0 ∧ (d.val, m.line, m.fwd, true) ∈ t.home.passed) ∧
  -- SNP_ORDER_RECALL of an M or O line: invalid, its data goes home
  (∀ (s : State) (d : Die) (m : CMsg) (w : Nat) (l : DcLine), s.Snooped d { m with op := .snpOrderRecall } w l → l.coh = .m ∨ l.coh = .o → Completes
    (.snpOrderRecall (d.castLE (by decide)) m) s fun t => (t.dcAt d m.line w).coh = .i ∧ t.Sends .snpData m.line m.src m.txn l.data)

/-- Write-backs, evictions, lost write-backs and the acknowledgements that end transactions (R213, R217, R218, R232). WB_LOST carries its cause:
  log entry 33. -/
def Obligations.WriteBacks : Prop :=
  -- WB_DIRTY from the exclusive owner in this package frees the entry, is acknowledged, and a write of its data is queued
  (∀ (s : State) (h : Hub) (m : CMsg) (w : Nat), s.Arrives { m with op := .wbDirty } → s.cutOff h m.src = false → s.homedAt h m.line = true →
    s.chanDead m.line = false → s.lineBusy h m.line = false → s.dirWay h m.line = some w → (s.dirEnt h m.line).ds = .excl → s.ownerOf h (s.dirEnt h
    m.line) = some (s.holderOf h m.src) → s.holderOf h m.src ∈ s.holders h (s.dirEnt h m.line) → m.src.unit < 0xFC → m.src.pkg = s.pkg → Completes
    (.wbDirty h m) s fun t => (t.home.dir.get (dirKey h (dirSet m.line) w)).valid = false ∧ t.Sends .wbAck m.line m.src m.txn 0 ∧ ∃ r, t.dram.queue =
    s.dram.queue ++ [r] ∧ r.line = m.line ∧ r.wr = true ∧ r.data = m.data) ∧
  -- EVICT_CLEAN from a sharer takes it out of the holders, is acknowledged and leaves DRAM as it was
  (∀ (s : State) (h : Hub) (m : CMsg) (w : Nat), s.Arrives { m with op := .evictClean } → s.cutOff h m.src = false → s.homedAt h m.line = true →
    s.lineBusy h m.line = false → s.dirWay h m.line = some w → (s.dirEnt h m.line).ds = .shared → s.holderOf h m.src ∈ s.holders h (s.dirEnt h m.line)
    → m.src.unit < 0xFC → m.src.pkg = s.pkg → Completes (.evictClean h m) s fun t => s.holderOf h m.src ∉ s.holders h (t.home.dir.get (dirKey h
    (dirSet m.line) w)) ∧ t.Sends .wbAck m.line m.src m.txn 0 ∧ t.dram = s.dram) ∧
  -- WB_LOST of a holder poisons the line: POISON_LAST and POISON_STAT say so, and its marker is on its way to the channel
  (∀ (s : State) (h : Hub) (m : CMsg), s.Arrives { m with op := .wbLost } → s.cutOff h m.src = false → s.homedAt h m.line = true → s.lineBusy h m.line
    = false → s.holderOf h m.src ∈ s.holders h (s.dirEnt h m.line) → m.aop.code ≠ 0 → m.aop.code < 16 → s.chanDead m.line = false → Completes (.wbLost
    h m) s fun t => t.f (R.POISON_LAST h) F.POISON_LAST_CAUSE = m.aop.code ∧ t.f (R.POISON_LAST h) F.POISON_LAST_PA = m.line ∧ t.f (R.POISON_STAT h)
    F.POISON_STAT_SET = min (s.f (R.POISON_STAT h) F.POISON_STAT_SET + 1) F.POISON_STAT_SET.max ∧ ∃ r, t.dram.queue = s.dram.queue ++ [r] ∧ r.line =
    m.line ∧ r.wr = true ∧ r.poison = true) ∧
  -- WB_LOST while the line is busy waits for that, and the line's open transactions fail
  (∀ (s : State) (h : Hub) (m : CMsg), s.Arrives { m with op := .wbLost } → s.cutOff h m.src = false → s.homedAt h m.line = true → s.lineBusy h m.line
    = true → s.home.heldWb.countP (fun e => e.1 = h.val) < 64 → Completes (.wbLost h m) s fun t => t.home.heldWb = s.home.heldWb ++ [(h.val,
    { m with op := .wbLost })] ∧ ∀ x ∈ t.home.txns, x.hub = h.val → x.req.line = m.line → x.failed = true) ∧
  -- COMP_ACK closes its transaction where nothing waits for the line
  (∀ (s : State) (h : Hub) (m : CMsg) (x : Txn), s.Arrives { m with op := .compAck } → s.home.txns.find? (fun t => t.hub = h.val && t.ackDue &&
    t.req.src = m.src && t.req.txn = m.txn && t.req.line = m.line) = some x → (∀ e ∈ s.home.lineq, e.1 ≠ h.val) → (∀ y ∈ s.home.txns, y.ordered =
    false) → (∀ e ∈ s.home.heldWb, e.2.line ≠ m.line) → s.home.proxyWait = [] → Completes (.compAck h m) s fun t => t.home.txns = s.home.txns.filter
    (fun u => !(u.hub = h.val && u.slot = x.slot)) ∧ t.dram = s.dram ∧ t.regs = s.regs) ∧
  -- WB_ACK removes the line from the die's write-back buffer
  (∀ (s : State) (d : Die) (m : CMsg), s.Arrives { m with op := .wbAck } → m.dst = s.dieUnit d → s.dieFenced d = false → s.dieOff d = false → (∀ q ∈
    s.cache.dcMiss, q.die = d.val → q.line ≠ m.line) → (∀ q ∈ s.cache.direct, q.line ≠ m.line) → s.NoneWait → Completes (.wbAck d m) s fun t =>
    t.cache.wb = s.cache.wb.filter (fun e => !(e.die = d.val && e.line = m.line)) ∧ t.regs = s.regs)

/-- Data, completions and retries that arrive at a compute die (R214, R221, R276). -/
def Obligations.DataToDies : Prop :=
  -- DATA_S keeps the data and the state S for the miss
  (∀ (s : State) (d : Die) (m : CMsg) (q : DcMiss), s.Arrives { m with op := .dataS } → s.dieFenced d = false → s.dieOff d = false →
    s.cache.dcMiss.find? (fun q => q.die = d.val && q.txn = m.txn && q.line = m.line && q.sent) = some q → q.grant = none → s.NoneWait → Completes
    (.dataS d m) s fun t => ∃ x ∈ t.cache.dcMiss, x.die = d.val ∧ x.line = m.line ∧ x.got = some (.s, m.data)) ∧
  -- DATA_E the same with E
  (∀ (s : State) (d : Die) (m : CMsg) (q : DcMiss), s.Arrives { m with op := .dataE } → s.dieFenced d = false → s.dieOff d = false →
    s.cache.dcMiss.find? (fun q => q.die = d.val && q.txn = m.txn && q.line = m.line && q.sent) = some q → q.grant = none → s.NoneWait → Completes
    (.dataE d m) s fun t => ∃ x ∈ t.cache.dcMiss, x.die = d.val ∧ x.line = m.line ∧ x.got = some (.e, m.data)) ∧
  -- DATA_M the same with M
  (∀ (s : State) (d : Die) (m : CMsg) (q : DcMiss), s.Arrives { m with op := .dataM } → s.dieFenced d = false → s.dieOff d = false →
    s.cache.dcMiss.find? (fun q => q.die = d.val && q.txn = m.txn && q.line = m.line && q.sent) = some q → q.grant = none → s.NoneWait → Completes
    (.dataM d m) s fun t => ∃ x ∈ t.cache.dcMiss, x.die = d.val ∧ x.line = m.line ∧ x.got = some (.m, m.data)) ∧
  -- DATA_O the same with O
  (∀ (s : State) (d : Die) (m : CMsg) (q : DcMiss), s.Arrives { m with op := .dataO } → s.dieFenced d = false → s.dieOff d = false →
    s.cache.dcMiss.find? (fun q => q.die = d.val && q.txn = m.txn && q.line = m.line && q.sent) = some q → q.grant = none → s.NoneWait → Completes
    (.dataO d m) s fun t => ∃ x ∈ t.cache.dcMiss, x.die = d.val ∧ x.line = m.line ∧ x.got = some (.o, m.data)) ∧
  -- COMP after the data installs the line in its way with that state and data, sends COMP_ACK, and the miss is over
  (∀ (s : State) (m : CMsg) (q : DcMiss) (x : Coh × Line), s.Arrives { m with op := .comp } → s.dstDie m = some q.die → s.dieFenced q.die = false →
    s.dieOff q.die = false → s.missOf m = some q → s.cache.dcMiss.find? (fun y => y.die = q.die && y.line = q.line) = some q → q.op ≠ .upgrade → q.got
    = some x → x.1 ≠ .i → q.l1s = [] → q.way < 16 → s.dcFind q.die q.line = none → s.NoneWait → pkgOfLine q.line = s.pkg → Completes (.comp m) s fun t
    => t.dcFind q.die q.line = some { line := q.line, coh := x.1, part := q.part, presence := 0, data := x.2, clean := false } ∧ t.Sends .compAck
    q.line (s.homeUnit q.line) q.txn 0 ∧ (∀ y ∈ t.cache.dcMiss, y.die = q.die → y.line ≠ q.line)) ∧
  -- COMP_CONTENDED before the data is kept
  (∀ (s : State) (m : CMsg) (q : DcMiss), s.Arrives { m with op := .compContended } → s.dstDie m = some q.die → s.dieFenced q.die = false → s.dieOff
    q.die = false → s.missOf m = some q → s.cache.dcMiss.find? (fun y => y.die = q.die && y.line = q.line) = some q → q.op ≠ .upgrade → q.got = none →
    s.NoneWait → Completes (.compContended m) s fun t => ∃ y ∈ t.cache.dcMiss, y.die = q.die ∧ y.line = q.line ∧ y.grant = some true) ∧
  -- RETRY puts the miss back to unsent and loses none
  (∀ (s : State) (m : CMsg) (q : DcMiss), s.Arrives { m with op := .retry } → s.missOf m = some q → Completes (.retry m) s fun t => (∀ y ∈
    t.cache.dcMiss, y.die = q.die → y.line = q.line → y.sent = false) ∧ t.cache.dcMiss.length = s.cache.dcMiss.length ∧ t.sent = s.sent.erase (.coh
    { m with op := .retry })) ∧
  -- RETRY_REISSUE sends the same request again
  (∀ (s : State) (m : CMsg) (q : DcMiss), s.cache.dcMiss.find? (fun q => m.dst = s.dieUnit q.die && q.txn = m.txn && q.line = m.line && !q.sent) =
    some q → s.inWb q.die q.line = false → Completes (.retryReissue m) s fun t => (∀ y ∈ t.cache.dcMiss, y.die = q.die → y.line = q.line → y.sent =
    true) ∧ ∃ r, .coh r ∈ t.sent ∧ r.op = q.op ∧ r.line = q.line ∧ r.src = s.dieUnit q.die ∧ r.txn = q.txn ∧ r.part = q.part)

/-- Answers to uncached accesses of a core, and answers of units that are off (R211, R221, R392). -/
def Obligations.UncachedAnswers : Prop :=
  -- ATOMIC_DATA returns the old value to the core and leaves the predictor
  (∀ (s : State) (c : Core) (m : CMsg) (q : Direct), s.Arrives { m with op := .atomicData } → s.dstDie m = some (dieOf c) → s.dieFenced (dieOf c) =
    false → s.dieOff (dieOf c) = false → s.directOf m = some q → s.NoneWait → (∀ k ∈ q.acc.cores, k ≠ DEBUG_PORT) → Completes (.atomicData c m) s fun
    t => t.cache.direct = s.cache.direct.erase q ∧ (∀ k ∈ q.acc.cores, .core k 0 (lineGet m.data q.acc.off q.acc.size) ∈ t.sent) ∧
    t.cache.predictor.get (predIdx c m.line) = s.cache.predictor.get (predIdx c m.line)) ∧
  -- ATOMIC_DATA_SOLE returns the old value and lowers the predictor
  (∀ (s : State) (c : Core) (m : CMsg) (q : Direct), s.Arrives { m with op := .atomicDataSole } → s.dstDie m = some (dieOf c) → s.dieFenced (dieOf c)
    = false → s.dieOff (dieOf c) = false → s.directOf m = some q → s.NoneWait → (∀ k ∈ q.acc.cores, k ≠ DEBUG_PORT) → Completes (.atomicDataSole c m)
    s fun t => t.cache.direct = s.cache.direct.erase q ∧ (∀ k ∈ q.acc.cores, .core k 0 (lineGet m.data q.acc.off q.acc.size) ∈ t.sent) ∧
    t.cache.predictor.get (predIdx c m.line) = s.cache.predictor.get (predIdx c m.line) - 1) ∧
  -- DATA_UC returns the bytes read
  (∀ (s : State) (m : CMsg) (d : Nat) (q : Direct), s.Arrives { m with op := .dataUc } → s.dstDie m = some d → s.dieFenced d = false → s.dieOff d =
    false → s.directOf m = some q → q.acc.src = .load → s.NoneWait → (∀ k ∈ q.acc.cores, k ≠ DEBUG_PORT) → Completes (.dataUc m) s fun t =>
    t.cache.direct = s.cache.direct.erase q ∧ (∀ k ∈ q.acc.cores, .core k 0 (lineGet m.data q.acc.off q.acc.size) ∈ t.sent) ∧ t.regs = s.regs) ∧
  -- BUS_ERR ends a load with a bus error
  (∀ (s : State) (m : CMsg) (d : Nat) (q : Direct), s.Arrives { m with op := .busErr } → s.dstDie m = some d → s.dieFenced d = false → s.dieOff d =
    false → s.missOf m = none → s.directOf m = some q → q.acc.src = .load → isCmo q.op = false → s.NoneWait → (∀ k ∈ q.acc.cores, k ≠ DEBUG_PORT) →
    Completes (.busErr m) s fun t => t.cache.direct = s.cache.direct.erase q ∧ (∀ k ∈ q.acc.cores, .core k 1 0 ∈ t.sent) ∧ t.regs = s.regs) ∧
  -- TARGET_OFF without WAIT ends the access with a bus error
  (∀ (s : State) (m : CMsg) (q : Direct), s.Arrives m → s.missOf m = none → s.directOf m = some q → isCmo q.op = false → q.acc.src ≠ .maint → (∀ c ∈
    q.acc.cores, c ≠ DEBUG_PORT) → s.NoneWait → Completes (.targetOff m false) s fun t => t.cache.direct = s.cache.direct.erase q ∧ t.regs = s.regs ∧
    ∀ c ∈ q.acc.cores, .core c 1 0 ∈ t.sent) ∧
  -- TARGET_OFF with WAIT holds the access for the wake notice
  (∀ (s : State) (m : CMsg), s.Arrives m → m.dst.unit < 0xFC → Completes (.targetOff m true) s fun t => t.pwr.heldIo = s.pwr.heldIo ++ [m] ∧ t.regs =
    s.regs ∧ t.sent = s.sent.erase (.coh m))

/-- Responses to snoops while others are awaited (R212, R215, R225). -/
def Obligations.SnoopResponses : Prop :=
  -- SNP_RSP_I takes the responder out of those awaited
  (∀ (s : State) (h : Hub) (m : CMsg) (x : Txn), s.Arrives { m with op := .snpRspI } → s.cutOff h m.src = false → pkgOfLine m.line = s.pkg → s.txnAt h
    m.txn = some x → x.req.line = m.line → s.holderOf h m.src ∈ x.waits → x.waits.erase (s.holderOf h m.src) ≠ [] → m.mask = 0 → m.aop.code = 0 →
    Completes (.snpRspI h m) s fun t => t.txnAt h m.txn = some { x with waits := x.waits.erase (s.holderOf h m.src) } ∧ t.dram = s.dram) ∧
  -- SNP_RSP_S also lists it as a sharer
  (∀ (s : State) (h : Hub) (m : CMsg) (x : Txn), s.Arrives { m with op := .snpRspS } → s.cutOff h m.src = false → pkgOfLine m.line = s.pkg → s.txnAt h
    m.txn = some x → x.req.line = m.line → s.holderOf h m.src ∈ x.waits → x.waits.erase (s.holderOf h m.src) ≠ [] → m.mask = 0 → Completes (.snpRspS h
    m) s fun t => t.txnAt h m.txn = some { x with waits := x.waits.erase (s.holderOf h m.src), sharers := addOnce x.sharers (s.holderOf h m.src) } ∧
    t.dram = s.dram) ∧
  -- SNP_RSP_FWD_CLEAN also notes a clean forward
  (∀ (s : State) (h : Hub) (m : CMsg) (x : Txn), s.Arrives { m with op := .snpRspFwdClean } → s.cutOff h m.src = false → pkgOfLine m.line = s.pkg →
    s.txnAt h m.txn = some x → x.req.line = m.line → s.holderOf h m.src ∈ x.waits → x.waits.erase (s.holderOf h m.src) ≠ [] → m.mask = 0 → Completes
    (.snpRspFwdClean h m) s fun t => t.txnAt h m.txn = some { x with waits := x.waits.erase (s.holderOf h m.src), fwdClean := true } ∧ t.dram =
    s.dram) ∧
  -- SNP_RSP_FWD_DIRTY also notes a dirty forward
  (∀ (s : State) (h : Hub) (m : CMsg) (x : Txn), s.Arrives { m with op := .snpRspFwdDirty } → s.cutOff h m.src = false → pkgOfLine m.line = s.pkg →
    s.txnAt h m.txn = some x → x.req.line = m.line → s.holderOf h m.src ∈ x.waits → x.waits.erase (s.holderOf h m.src) ≠ [] → m.mask = 0 → Completes
    (.snpRspFwdDirty h m) s fun t => t.txnAt h m.txn = some
    { x with waits := x.waits.erase (s.holderOf h m.src), fwdDirty := true, fwdBy := some (s.holderOf h m.src) } ∧ t.dram = s.dram) ∧
  -- SNP_DATA also keeps the data
  (∀ (s : State) (h : Hub) (m : CMsg) (x : Txn), s.Arrives { m with op := .snpData } → s.cutOff h m.src = false → pkgOfLine m.line = s.pkg → s.txnAt h
    m.txn = some x → x.req.line = m.line → s.holderOf h m.src ∈ x.waits → x.waits.erase (s.holderOf h m.src) ≠ [] → m.mask = 0 → Completes (.snpData h
    m) s fun t => t.txnAt h m.txn = some { x with waits := x.waits.erase (s.holderOf h m.src), dirty := some m.data } ∧ t.dram = s.dram) ∧
  -- SNP_RSP_PASSED that names a requester whose request was open before awaits that one in the answerer's place and snoops it (R225)
  (∀ (s : State) (h : Hub) (m : CMsg) (x : Txn), s.Arrives { m with op := .snpRspPassed } → s.cutOff h m.src = false → pkgOfLine m.line = s.pkg →
    s.txnAt h m.txn = some x → x.req.line = m.line → s.holderOf h m.src ∈ x.waits → m.fwd ∈ x.olders → Completes (.snpRspPassed h m) s fun t => t.txnAt
    h m.txn = some { x with waits := x.waits.erase (s.holderOf h m.src) ++ [s.holderOf h m.fwd] } ∧ t.Sends (orderOp x.req.op) m.line (s.holderOf h
    m.fwd) x.slot 0)

/-- Directory sweeps, UNSURE entries, fence masks, cleared lines and directory probes (R209, R226, R229, R231). -/
def Obligations.DirectoryAndFences : Prop :=
  -- DIR_SWEEP_DONE: every valid entry of the slice is UNSURE, no other entry is, none is lost
  (∀ (s : State) (h : Hub), s.f (R.HOME_MODE h) F.HOME_MODE_SWEEP_BUSY = 1 → Completes (.dirSweepDone h) s fun t => t.f (R.HOME_MODE h)
    F.HOME_MODE_SWEEP_BUSY = 0 ∧ (∀ e ∈ t.home.dir, e.1 / 16 / 524288 = h.val → e.2.unsure = e.2.valid) ∧ t.home.dir.map (·.1) = s.home.dir.map (·.1)
    ∧ s.SameRegs t [R.HOME_MODE h]) ∧
  -- UNSURE_RESOLVE recalls the line from every die that may hold it (log entry 32)
  (∀ (s : State) (h : Hub) (set : Fin (2 ^ 19)) (way : Fin 16) (e : DirEnt) (d : Nat), s.home.dir.get (dirKey h set way) = e → e.valid = true →
    e.unsure = true → e.proxy = false → s.ordered h = false → s.dirWay h (dirLine set e.tag) = some way.val → s.lineBusy h (dirLine set e.tag) = false
    → s.chanDead (dirLine set e.tag) = false → (s.freeSlot h).isSome = true → s.reg (R.FENCE_STAT h) = 0 → s.isPoisoned (dirLine set e.tag) = false →
    dirSet (dirLine set e.tag) = set → dirTag (dirLine set e.tag) = e.tag → d ∈ s.openDies → Completes (.unsureResolve h set way) s fun t =>
    t.lineBusy h (dirLine set e.tag) = true ∧ ∃ r, .coh r ∈ t.sent ∧ r.op = .snpOrderRecall ∧ r.line = dirLine set e.tag ∧ r.dst = s.dieUnit d) ∧
  -- FENCE_NOTICE that clears takes the die out of the mask
  (∀ (s : State) (h : Hub) (d : Die), s.pkg < 8 → Completes (.fenceNotice h (Fin.ofNat 8 s.pkg) d true) s fun t => (t.f (R.FENCE_STAT h)
    F.FENCE_STAT_DIE_FENCED).testBit d = false ∧ (s.pkg, d.val) ∉ t.home.fencing ∧ s.SameRegs t [R.FENCE_STAT h]) ∧
  -- FENCE_NOTICE that sets puts the die in the mask and starts the walk
  (∀ (s : State) (h : Hub) (d : Die), s.pkg < 8 → s.home.txns = [] → s.home.proxies = [] → s.home.lineq = [] → s.home.proxyWait = [] → Completes
    (.fenceNotice h (Fin.ofNat 8 s.pkg) d false) s fun t => (t.f (R.FENCE_STAT h) F.FENCE_STAT_DIE_FENCED).testBit d = true ∧ t.f (R.FENCE_STAT h)
    F.FENCE_STAT_WALK_BUSY = 1 ∧ (s.pkg, d.val) ∈ t.home.fencing) ∧
  -- FENCE_WALK_DONE ends the walk
  (∀ (s : State) (h : Hub), s.f (R.FENCE_STAT h) F.FENCE_STAT_WALK_BUSY = 1 → Completes (.fenceWalkDone h) s fun t => t.f (R.FENCE_STAT h)
    F.FENCE_STAT_WALK_BUSY = 0 ∧ h.val ∉ t.home.fenceWalk) ∧
  -- LINE_CLEAR by the line's owner queues a write of zeros over the whole line
  (∀ (s : State) (who : Sender) (h : Hub) (line : LineNo) (slot : Nat), s.Admitted who.who (R.LINE_CLEAR h) true → s.whoPart who.who = s.lineOwner
    line → s.Opens h line 0 slot → Completes (.lineClear who h line) s fun t => ∃ r, t.dram.queue = s.dram.queue ++ [r] ∧ r.line = line.val ∧ r.wr =
    true ∧ r.data = 0 ∧ r.mask = fullMask) ∧
  -- DIR_PROBE_DATA answers the probe's word and changes no home and no register
  (∀ (s : State) (h : Hub) (c : Core), s.Admitted (s.selfWho c) (R.DIR_PROBE_DATA h) false → s.pkg < 8 → s.sharers c = [c.val] → Completes
    (.dirProbeData (.core (Fin.ofNat 8 s.pkg) c (Fin.ofNat 16 (s.corePart c))) h) s fun t => t.sent = s.sent ++ [.core c 0 ((s.dirProbe h).setWidth
    512)] ∧ t.home = s.home ∧ t.regs = s.regs)

/-- DRAM reads and writes, device map-out, page rebuilds, the parity cache and restriping (R244, R245, R249, R251, R252, R254, R255). -/
def Obligations.DramAccesses : Prop :=
  -- DRAM_READ of a clean codeword gives its decrypted line to the waiting transaction and leaves memory unchanged
  (∀ (s : State) (ch : Chan) (r : ChanReq) (l : Nat) (x : Txn) (n : Nat), s.chState ch = 4 → s.nextReq ch false = some r → s.chanOf (offOfLine r.line)
    = some (ch.val, l) → lineDecode (s.stored ch l) (s.devOut ch l) = .clean → r.slot = some n → s.txnAt r.hub n = some x → x.waits ≠ [] → Completes
    (.dramRead ch) s fun t => t.dram.queue = s.dram.queue.erase r ∧ t.dram.mem = s.dram.mem ∧ t.txnAt r.hub n = some
    { x with needMem := false, memLine := some (s.decrypt r.line (storedData (s.stored ch l))) }) ∧
  -- DRAM_READ of a codeword with one failed device gives the corrected line, writes it back and counts CORR_DEV (R244, R245)
  (∀ (s : State) (ch : Chan) (r : ChanReq) (l dev : Nat) (y : Stored) (x : Txn) (n : Nat), s.chState ch = 4 → s.nextReq ch false = some r → s.chanOf
    (offOfLine r.line) = some (ch.val, l) → lineDecode (s.stored ch l) (s.devOut ch l) = .corrected dev y → r.slot = some n → s.txnAt r.hub n = some x
    → x.waits ≠ [] → Completes (.dramRead ch) s fun t => t.stored ch l = y ∧ t.f (R.MC_ERR_CNT ch) F.MC_ERR_CNT_CORR_DEV = min (s.f (R.MC_ERR_CNT ch)
    F.MC_ERR_CNT_CORR_DEV + 1) F.MC_ERR_CNT_CORR_DEV.max ∧ t.dram.devCnt.get (devKey ch (s.rankOf ch l) (subchOf l) dev) = s.dram.devCnt.get (devKey ch
    (s.rankOf ch l) (subchOf l) dev) + 1 ∧ t.txnAt r.hub n = some { x with needMem := false, memLine := some (s.decrypt r.line (storedData y)) }) ∧
  -- DRAM_READ of the poison marker is recorded as POISON_ACCESS, and its transaction fails (R246)
  (∀ (s : State) (ch : Chan) (r : ChanReq) (l : Nat) (x : Txn) (n : Nat), s.chState ch = 4 → s.nextReq ch false = some r → s.chanOf (offOfLine r.line)
    = some (ch.val, l) → lineDecode (s.stored ch l) (s.devOut ch l) = .poisoned → r.hub < 2 → r.slot = some n → s.txnAt r.hub n = some x → x.waits ≠ []
    → Completes (.dramRead ch) s fun t => t.Logged E.POISON_ACCESS 2 r.hub ∧ t.dram.mem = s.dram.mem ∧ t.txnAt r.hub n = some
    { x with needMem := false, wrMem := false, failed := true }) ∧
  -- DRAM_READ of an uncorrectable codeword of strength 0 is counted and recorded as MEM_UE, and its transaction fails (R250)
  (∀ (s : State) (ch : Chan) (r : ChanReq) (l : Nat) (x : Txn) (n : Nat), s.chState ch = 4 → s.nextReq ch false = some r → s.chanOf (offOfLine r.line)
    = some (ch.val, l) → lineDecode (s.stored ch l) (s.devOut ch l) = .failed → s.pageStrength r.line = 0 → r.slot = some n → s.txnAt r.hub n = some x
    → x.waits ≠ [] → Completes (.dramRead ch) s fun t => t.Logged E.MEM_UE 3 ch ∧ t.f (R.MC_ERR_CNT ch) F.MC_ERR_CNT_UE = min (s.f (R.MC_ERR_CNT ch)
    F.MC_ERR_CNT_UE + 1) F.MC_ERR_CNT_UE.max ∧ t.dram.mem = s.dram.mem ∧ t.txnAt r.hub n = some
    { x with needMem := false, wrMem := false, failed := true }) ∧
  -- DRAM_READ of an uncorrectable codeword of a page with parity locks its page for the rebuild, which the read then waits for (R249, R251)
  (∀ (s : State) (ch : Chan) (r : ChanReq) (l : Nat), s.chState ch = 4 → s.nextReq ch false = some r → s.chanOf (offOfLine r.line) = some (ch.val, l) →
    lineDecode (s.stored ch l) (s.devOut ch l) = .failed → s.pageStrength r.line ≠ 0 → s.isLost ch l = false → Completes (.dramRead ch) s fun t =>
    t.pageLocked (offOfLine r.line) = true ∧ (∃ k, t.dram.locks = s.dram.locks ++ [k] ∧ k.req = r ∧ k.done = false) ∧ t.dram.queue =
    s.dram.queue.erase r ∧ t.dram.mem = s.dram.mem ∧ t.home = s.home ∧ t.regs = s.regs) ∧
  -- MEM_DEV_OUT of a device at the threshold maps it out and records it
  (∀ (s : State) (c : Chan) (rank : Fin 4) (sub : Fin 2) (dev : Fin 10), s.f (R.MC_PD_CTL c) F.MC_PD_CTL_DEV_THRESH ≠ 0 → s.f (R.MC_PD_CTL c)
    F.MC_PD_CTL_DEV_THRESH ≤ s.dram.devCnt.get (devKey c rank sub dev) → bits (s.reg (R.MC_DEV_OUT c)) (8 * (2 * rank + sub)) 8 = 0 → Completes
    (.memDevOut c rank sub dev) s fun t => bits (t.reg (R.MC_DEV_OUT c)) (8 * (2 * rank + sub)) 8 = 128 + dev ∧ t.Logged E.MEM_DEV_OUT 3 c ∧
    s.SameRegs t [R.MC_DEV_OUT c] ∧ t.dram = s.dram) ∧
  -- MEM_PAGE_REBUILD of a read whose page is solved records the rebuild, and its transaction gets the rebuilt line (R249)
  (∀ (s u : State) (ch : Chan) (k : PageLock) (c l cnt : Nat) (x : Txn) (n : Nat), s.dram.locks.find? (fun k => k.req.ch = ch.val && !k.done && k.reads
    = []) = some k → k.own = none → k.req.wr = false → s.chanOf (offOfLine k.req.line) = some (c, l) → (s.lockDone k).rebuildPage (offOfLine
    k.req.line) (s.pageStrength k.req.line) (some (c, l)) = (u, some cnt) → k.req.slot = some n → s.txnAt k.req.hub n = some x → x.waits ≠ [] →
    Completes (.memPageRebuild ch) s fun t => { k with done := true } ∈ t.dram.locks ∧ t.Logged E.MEM_PAGE_REBUILD 3 c ∧ t.dram.mem = u.dram.mem ∧
    t.txnAt k.req.hub n = some { x with needMem := false, memLine := some (u.decrypt k.req.line (storedData (u.stored c l))) }) ∧
  -- MEM_PAGE_REBUILD of a read whose page has failed beyond its parity is counted and recorded as MEM_UE, and its transaction fails (R250)
  (∀ (s u : State) (ch : Chan) (k : PageLock) (c l : Nat) (x : Txn) (n : Nat), s.dram.locks.find? (fun k => k.req.ch = ch.val && !k.done && k.reads =
    []) = some k → k.own = none → k.req.wr = false → s.chanOf (offOfLine k.req.line) = some (c, l) → (s.lockDone k).rebuildPage (offOfLine k.req.line)
    (s.pageStrength k.req.line) (some (c, l)) = (u, none) → k.req.slot = some n → s.txnAt k.req.hub n = some x → x.waits ≠ [] → Completes
    (.memPageRebuild ch) s fun t => { k with done := true } ∈ t.dram.locks ∧ t.Logged E.MEM_UE 3 c ∧ t.f (R.MC_ERR_CNT c) F.MC_ERR_CNT_UE = min (u.f
    (R.MC_ERR_CNT c) F.MC_ERR_CNT_UE + 1) F.MC_ERR_CNT_UE.max ∧ t.dram.mem = u.dram.mem ∧ t.txnAt k.req.hub n = some
    { x with needMem := false, wrMem := false, failed := true }) ∧
  -- MEM_PAGE_REBUILD for no requester finishes the page's lock
  (∀ (s : State) (c : Chan) (k : PageLock), s.dram.locks.find? (fun k => k.req.ch = c.val && !k.done && k.reads = []) = some k → k.req.slot = none →
    Completes (.memPageRebuild c) s fun t => { k with done := true } ∈ t.dram.locks ∧ t.dram.locks.length = s.dram.locks.length) ∧
  -- MEM_PAGE_REBUILD while the page reads wait at their schedulers does nothing yet
  (∀ (s : State) (c : Chan), (∀ k ∈ s.dram.locks, k.req.ch = c.val → k.done = true ∨ k.reads ≠ []) → Completes (.memPageRebuild c) s fun t => t = s) ∧
  -- DRAM_WRITE under a mask stores the encrypted merge of old and new bytes as a codeword, and no other line changes
  (∀ (s : State) (ch : Chan) (r : ChanReq) (l : Nat), s.chState ch = 4 → s.nextReq ch true = some r → s.chanOf (offOfLine r.line) = some (ch.val, l) →
    r.poison = false → s.pageStrength r.line = 0 → r.mask ≠ fullMask → lineDecode (s.stored ch l) (s.devOut ch l) = .clean → r.slot = none → Completes
    (.dramWrite ch) s fun t => t.dram.queue = s.dram.queue.erase r ∧ t.stored ch l = rsEncode (s.encrypt r.line (merge (s.decrypt r.line (storedData
    (s.stored ch l))) r.data r.mask)) ∧ ∀ c' l', (c' ≠ ch.val ∨ l' % 2 ^ 34 ≠ l % 2 ^ 34) → t.stored c' l' = s.stored c' l') ∧
  -- DRAM_WRITE of a full line stores it whatever the line held, and no other line changes
  (∀ (s : State) (ch : Chan) (r : ChanReq) (l : Nat), s.chState ch = 4 → s.nextReq ch true = some r → s.chanOf (offOfLine r.line) = some (ch.val, l) →
    r.poison = false → s.pageStrength r.line = 0 → r.mask = fullMask → r.slot = none → Completes (.dramWrite ch) s fun t => t.dram.queue =
    s.dram.queue.erase r ∧ t.stored ch l = rsEncode (s.encrypt r.line r.data) ∧ ∀ c' l', (c' ≠ ch.val ∨ l' % 2 ^ 34 ≠ l % 2 ^ 34) → t.stored c' l' =
    s.stored c' l') ∧
  -- DRAM_WRITE of poison stores the marker
  (∀ (s : State) (ch : Chan) (r : ChanReq) (l : Nat), s.chState ch = 4 → s.nextReq ch true = some r → s.chanOf (offOfLine r.line) = some (ch.val, l) →
    r.poison = true → s.pageStrength r.line = 0 → r.slot = none → Completes (.dramWrite ch) s fun t => t.stored ch l = poisonMarker ∧ t.dram.queue =
    s.dram.queue.erase r) ∧
  -- DRAM_WRITE in a page of strength 1 whose parity row is cached adds the change of the line to the cached row, which is dirty (R252, R254)
  (∀ (s : State) (ch : Chan) (r : ChanReq) (l g P i c' l' w : Nat) (x y : Stored), s.chState ch = 4 → s.nextReq ch true = some r → s.chanOf (offOfLine
    r.line) = some (ch.val, l) → s.pageOf (offOfLine r.line) = some (g, P, i) → s.pageStrength r.line = 1 → s.rowLoc (offOfLine r.line) 1 = [(c', l')]
    → s.pcWay c' l' = some w → s.pcTested (hubOfChan c') = false → (c' ≠ ch.val ∨ l' % 2 ^ 34 ≠ l % 2 ^ 34) → r.poison = false → r.slot = none →
    s.stored ch l = x → lineDecode x (s.devOut ch l) = .clean → y = rsEncode (s.encrypt r.line (merge (s.decrypt r.line (storedData x)) r.data
    r.mask)) → Completes (.dramWrite ch) s fun t => t.stored ch l = y ∧ t.stored c' l' = s.stored c' l' ∧ t.dram.pcache.get (pcKey (hubOfChan c')
    (pcSet l') w) = { valid := true, ch := c', addr := l', dirty := true, data := rsEncode (storedData (s.dram.pcache.get (pcKey (hubOfChan c') (pcSet
    l') w)).data ^^^ gfScaleLine (pageCoef 0 i) (storedData x ^^^ storedData y)) }) ∧
  -- PAGE_LOCK_RELEASE drops the finished locks of the page and keeps every unfinished lock
  (∀ (s : State) (c : Chan) (page : Nat), s.dram.resyncs = [] → Completes (.pageLockRelease c page) s fun t => (∀ k ∈ t.dram.locks, k.group =
    s.lockGroup c → k.page = page → k.done = false) ∧ (∀ k ∈ s.dram.locks, k.done = false → k ∈ t.dram.locks) ∧ t.dram.mem = s.dram.mem ∧ t.regs =
    s.regs) ∧
  -- PAGE_LOCK_RELEASE of a page whose locks are all finished unlocks it: accesses to its lines may proceed (R251)
  (∀ (s : State) (c : Chan) (page off i : Nat), s.dram.resyncs = [] → s.pageOf off = some (s.lockGroup c, page, i) → (∀ k ∈ s.dram.locks, k.group =
    s.lockGroup c → k.page = page → k.done = true) → Completes (.pageLockRelease c page) s fun t => t.pageLocked off = false) ∧
  -- PARITY_CACHE_ERROR in a clean line drops it
  (∀ (s : State) (h : Hub) (set : Fin 1024) (way : Fin 16), (s.dram.pcache.get (pcKey h set way)).valid = true → (s.dram.pcache.get (pcKey h set
    way)).dirty = false → Completes (.parityCacheError h set way false) s fun t => (t.dram.pcache.get (pcKey h set way)).valid = false ∧ t.dram.mem =
    s.dram.mem ∧ t.regs = s.regs) ∧
  -- PARITY_CACHE_ERROR that its code corrects changes nothing
  (∀ (s : State) (h : Hub) (set : Fin 1024) (way : Fin 16), Completes (.parityCacheError h set way true) s fun t => t = s) ∧
  -- PARITY_CACHE_ERROR in a dirty line, its page not locked, has the page's rows computed afresh, with a record of MEM_PAGE_RESYNC
  (∀ (s : State) (h : Hub) (set : Fin 1024) (way : Fin 16) (p : PLine) (off j : Nat), s.dram.pcache.get (pcKey h set way) = p → p.valid = true →
    p.dirty = true → p.ch < 16 → s.slotPage p.ch p.addr = some (off, j) → s.pageLocked off = false → Completes (.parityCacheError h set way false) s fun
    t => t.Logged E.MEM_PAGE_RESYNC 3 p.ch) ∧
  -- PARITY_CACHE_ERROR in a dirty line of a locked page waits for the lock (R251)
  (∀ (s : State) (h : Hub) (set : Fin 1024) (way : Fin 16) (p : PLine) (off j : Nat), s.dram.pcache.get (pcKey h set way) = p → p.valid = true →
    p.dirty = true → s.slotPage p.ch p.addr = some (off, j) → s.pageLocked off = true → Completes (.parityCacheError h set way false) s fun t =>
    (t.dram.pcache.get (pcKey h set way)).valid = false ∧ t.dram.resyncs = s.dram.resyncs ++ [(p.ch, p.addr)] ∧ t.dram.mem = s.dram.mem ∧ t.regs =
    s.regs) ∧
  -- RESTRIPE_PAGE from strength 0 to 1, of a page of clean lines that is not locked, stores the page's row 0 and moves on by one page
  (∀ (s : State) (r d off c' l' : Nat), s.f (R.MC_RESTRIPE 0) F.MC_RESTRIPE_BUSY = 1 → s.f (R.MC_RESTRIPE 0) F.MC_RESTRIPE_REGION = r → s.f
    (R.MC_RESTRIPE 0) F.MC_RESTRIPE_DONE_PAGES = d → d + 1 < s.f (R.MR_SIZE 0 r) F.MR_SIZE_SIZE * 512 → d + 1 < 2 ^ F.MC_RESTRIPE_DONE_PAGES.width →
    off = offOfLine (s.f (R.MR_BASE 0 r) F.MR_BASE_BASE * 2 ^ 15 + d * 64) → s.pageLocked off = false → s.f (R.MR_BASE 0 r) F.MR_BASE_PREV_S = 0 → s.f
    (R.MR_BASE 0 r) F.MR_BASE_STRENGTH = 1 → (∀ e ∈ s.pageLoc off, s.chState e.1 ≠ 6 ∧ lineDecode (s.stored e.1 e.2) (s.devOut e.1 e.2) = .clean) →
    s.rowLoc off 1 = [(c', l')] → s.chState c' ≠ 6 → Completes .restripePage s fun t => t.stored c' l' = rsEncode (pageRow ((s.pageLoc off).map fun e
    => storedData (s.stored e.1 e.2)) 0) ∧ t.f (R.MC_RESTRIPE 0) F.MC_RESTRIPE_DONE_PAGES = d + 1 ∧ t.f (R.MC_RESTRIPE 0) F.MC_RESTRIPE_BUSY = 1) ∧
  -- RESTRIPE_PAGE while the next page is locked waits
  (∀ (s : State), s.f (R.MC_RESTRIPE 0) F.MC_RESTRIPE_DONE_PAGES < s.f (R.MR_SIZE 0 (s.f (R.MC_RESTRIPE 0) F.MC_RESTRIPE_REGION)) F.MR_SIZE_SIZE * 512
    → s.pageLocked (offOfLine (s.f (R.MR_BASE 0 (s.f (R.MC_RESTRIPE 0) F.MC_RESTRIPE_REGION)) F.MR_BASE_BASE * 2 ^ 15 + s.f (R.MC_RESTRIPE 0)
    F.MC_RESTRIPE_DONE_PAGES * 64)) = true → Completes .restripePage s fun t => t = s) ∧
  -- RESTRIPE_PAGE after the last page ends the restripe
  (∀ (s : State), s.f (R.MC_RESTRIPE 0) F.MC_RESTRIPE_BUSY = 1 → s.f (R.MR_SIZE 0 (s.f (R.MC_RESTRIPE 0) F.MC_RESTRIPE_REGION)) F.MR_SIZE_SIZE * 512 ≤
    s.f (R.MC_RESTRIPE 0) F.MC_RESTRIPE_DONE_PAGES → s.dram.restripePend = [] → Completes .restripePage s fun t => t.f (R.MC_RESTRIPE 0)
    F.MC_RESTRIPE_BUSY = 0 ∧ t.f (R.MR_BASE 0 (s.f (R.MC_RESTRIPE 0) F.MC_RESTRIPE_REGION)) F.MR_BASE_PREV_S = s.f (R.MR_BASE 0 (s.f (R.MC_RESTRIPE 0)
    F.MC_RESTRIPE_REGION)) F.MR_BASE_STRENGTH ∧ t.dram = s.dram)

/-- Rank power-down, refresh, calibration, scrubbing, initialisation and channel faults (R236, R259, R261, R265, R266). -/
def Obligations.Channels : Prop :=
  -- RANK_POWER_DOWN of an idle rank puts it in power-down and counts the entry
  (∀ (s : State) (c : Chan) (rank : Fin 4), s.f (R.MC_PD_CTL c) F.MC_PD_CTL_IDLE ≠ 0 → s.chState c = 4 → rank < s.ranks c → (s.f (R.MC_PD_STAT c)
    F.MC_PD_STAT_IN_PD).testBit rank = false → (∀ r ∈ s.dram.queue, r.ch ≠ c.val) → Completes (.rankPowerDown c rank) s fun t => (t.f (R.MC_PD_STAT c)
    F.MC_PD_STAT_IN_PD).testBit rank = true ∧ t.f (R.MC_PD_STAT c) F.MC_PD_STAT_ENTRIES = min (s.f (R.MC_PD_STAT c) F.MC_PD_STAT_ENTRIES + 1)
    F.MC_PD_STAT_ENTRIES.max ∧ t.sent = s.sent ++ [.dram c DRAM_POWER_DOWN rank] ∧ s.SameRegs t [R.MC_PD_STAT c]) ∧
  -- RANK_REFRESH sends a refresh, at double rate while HOT is 1, and changes nothing
  (∀ (s : State) (c : Chan) (rank : Fin 4), s.chState c = 4 → rank < s.ranks c → Completes (.rankRefresh c rank) s fun t => t = s.send (.dram c (if
    s.f (R.MC_STAT c) F.MC_STAT_HOT = 1 then DRAM_REFRESH_DOUBLE else DRAM_REFRESH) rank)) ∧
  -- RANK_CALIBRATION 1024 beats after the last sends a calibration and keeps its beat
  (∀ (s : State) (c : Chan) (rank : Fin 4), s.chState c = 4 → rank < s.ranks c → s.dram.calAt.get (c * 4 + rank) + 1024 ≤ s.now → Completes
    (.rankCalibration c rank) s fun t => t.sent = s.sent ++ [.dram c DRAM_CALIBRATE rank] ∧ t.dram.calAt.get (c * 4 + rank) = s.now ∧ t.dram.mem =
    s.dram.mem ∧ t.regs = s.regs) ∧
  -- RANK_CALIBRATION before 1024 beats have passed changes nothing
  (∀ (s : State) (c : Chan) (rank : Fin 4), s.now < s.dram.calAt.get (c * 4 + rank) + 1024 → Completes (.rankCalibration c rank) s fun t => t = s) ∧
  -- SCRUB_READ of a clean line moves the position on by one and writes nothing
  (∀ (s : State) (c : Chan) (l : Nat), s.chState c = 4 → s.f (R.MC_SCRUB_CTL c) F.MC_SCRUB_CTL_EN = 1 → s.dram.scrubLeft.get c ≠ 0 → (∀ r ∈
    s.dram.queue, r.ch ≠ c.val) → s.f (R.MC_SCRUB_POS c) F.MC_SCRUB_POS_ADDR = l → s.scrubSkips c l = false → l + 1 < s.chanLines c → l + 1 < 2 ^
    F.MC_SCRUB_POS_ADDR.width → lineDecode (s.stored c l) (s.devOut c l) = .clean → (∀ k < 4, s.calDue c k = false) → (∀ k ∈ s.dram.locks, k.done =
    true ∨ (k.req.ch ≠ c.val ∧ c.val ∉ k.reads)) → Completes (.scrubRead c) s fun t => t.f (R.MC_SCRUB_POS c) F.MC_SCRUB_POS_ADDR = l + 1 ∧
    t.dram.scrubLeft.get c = s.dram.scrubLeft.get c - 1 ∧ t.dram.mem = s.dram.mem ∧ s.SameRegs t [R.MC_SCRUB_POS c, R.MC_PD_STAT c]) ∧
  -- SCRUB_READ of an uncorrectable data line of a page with parity locks the page for its rebuild, and the position moves on (R251, R262)
  (∀ (s : State) (c : Chan) (l : Nat), s.chState c = 4 → s.f (R.MC_SCRUB_CTL c) F.MC_SCRUB_CTL_EN = 1 → s.dram.scrubLeft.get c ≠ 0 → (∀ r ∈
    s.dram.queue, r.ch ≠ c.val) → s.f (R.MC_SCRUB_POS c) F.MC_SCRUB_POS_ADDR = l → s.scrubSkips c l = false → l + 1 < s.chanLines c → l + 1 < 2 ^
    F.MC_SCRUB_POS_ADDR.width → lineDecode (s.stored c l) (s.devOut c l) = .failed → l < s.usable c → s.pageStrength (s.lineOf (s.offOf c l)) ≠ 0 →
    (s.pageOf (s.offOf c l)).isSome = true → s.isLost c l = false → (∀ k < 4, s.calDue c k = false) → (∀ k ∈ s.dram.locks, k.done = true ∨ (k.req.ch ≠
    c.val ∧ c.val ∉ k.reads)) → Completes (.scrubRead c) s fun t => (∃ k, t.dram.locks = s.dram.locks ++ [k] ∧ k.own = some l ∧ k.req.ch = c.val ∧
    k.done = false) ∧ t.pageLocked (s.offOf c l) = true ∧ t.f (R.MC_SCRUB_POS c) F.MC_SCRUB_POS_ADDR = l + 1 ∧ t.dram.mem = s.dram.mem) ∧
  -- SCRUB_READ while a request waits for the channel changes nothing
  (∀ (s : State) (c : Chan) (r : ChanReq), r ∈ s.dram.queue → r.ch = c.val → Completes (.scrubRead c) s fun t => t = s) ∧
  -- CHANNEL_INIT_DONE outside start-up makes the channel READY with every stored line zero, and no other channel changes
  (∀ (s : State) (c : Chan), s.chState c = 3 → s.boot.stage ≠ 4 → s.locked = false → Completes (.channelInitDone c) s fun t => t.chState c = 4 ∧ (∀ l,
    t.stored c l = 0) ∧ ∀ c' l, c' ≠ c.val → t.stored c' l = s.stored c' l) ∧
  -- CA_PARITY_ERROR below three retries retries and counts
  (∀ (s : State) (c : Chan), s.chState c = 4 → s.dram.caRetry.get c < 3 → Completes (.caParityError c) s fun t => t.f (R.MC_ERR_CNT c)
    F.MC_ERR_CNT_CA_RETRY = min (s.f (R.MC_ERR_CNT c) F.MC_ERR_CNT_CA_RETRY + 1) F.MC_ERR_CNT_CA_RETRY.max ∧ t.dram.caRetry.get c = s.dram.caRetry.get
    c + 1 ∧ t.chState c = 4 ∧ t.sent = s.sent) ∧
  -- CA_PARITY_ERROR that persists through three retries fails the channel and raises the Gong MEM_CHANNEL_FAIL for the next beat
  (∀ (s : State) (c : Chan), s.chState c = 4 → 3 ≤ s.dram.caRetry.get c → Completes (.caParityError c) s fun t => t.chState c = 6 ∧ ∃ g ∈ t.err.raise,
    g.cause = E.MEM_CHANNEL_FAIL.val ∧ g.kind = 3 ∧ g.unit = c.val ∧ g.beat = s.now + 1) ∧
  -- MODULE_NOT_ANSWERING fails the channel and raises the Gong MEM_CHANNEL_FAIL for the next beat
  (∀ (s : State) (c : Chan), s.chState c = 4 → Completes (.moduleNotAnswering c) s fun t => t.chState c = 6 ∧ ∃ g ∈ t.err.raise, g.cause =
    E.MEM_CHANNEL_FAIL.val ∧ g.kind = 3 ∧ g.unit = c.val ∧ g.beat = s.now + 1) ∧
  -- MODULE_TEMPERATURE sets HOT and nothing else
  (∀ (s : State) (c : Chan) (hot : Bool), Completes (.moduleTemperature c hot) s fun t => t.f (R.MC_STAT c) F.MC_STAT_HOT = hot.toNat ∧ s.SameRegs t
    [R.MC_STAT c])

/-- Memory training helpers outside READY (R263). Where a pattern's lines stand and GO while BUSY are log entries 47 and 48. -/
def Obligations.MemoryTraining : Prop :=
  -- TRN_WRITE_PATTERN of one walking-ones line stores it at the start line, BUSY
  (∀ (s : State) (c : Chan) (v : Word), s.chState c ≠ 4 → s.chState c ≠ 6 → s.f (R.TRN_STAT c) F.TRN_STAT_BUSY = 0 → F.TRN_CTL_PATTERN.get v = 2 →
    F.TRN_CTL_LINES.get v = 1 → s.trnStart c (s.f (R.TRN_ADDR c) F.TRN_ADDR_ADDR) (F.TRN_CTL_RANK.get v) (F.TRN_CTL_SUBCH.get v) < s.chanLines c →
    s.locked = false → Completes (.trnWritePattern (.service (Fin.ofNat 2 (hubOfChan c))) c v) s fun t => t.f (R.TRN_STAT c) F.TRN_STAT_BUSY = 1 ∧
    t.stored c (s.trnStart c (s.f (R.TRN_ADDR c) F.TRN_ADDR_ADDR) (F.TRN_CTL_RANK.get v) (F.TRN_CTL_SUBCH.get v)) = 1) ∧
  -- TRN_WRITE_READ_COMPARE stores the same, BUSY
  (∀ (s : State) (c : Chan) (v : Word), s.chState c ≠ 4 → s.chState c ≠ 6 → s.f (R.TRN_STAT c) F.TRN_STAT_BUSY = 0 → F.TRN_CTL_PATTERN.get v = 2 →
    F.TRN_CTL_LINES.get v = 1 → s.trnStart c (s.f (R.TRN_ADDR c) F.TRN_ADDR_ADDR) (F.TRN_CTL_RANK.get v) (F.TRN_CTL_SUBCH.get v) < s.chanLines c →
    s.locked = false → Completes (.trnWriteReadCompare (.service (Fin.ofNat 2 (hubOfChan c))) c v) s fun t => t.f (R.TRN_STAT c) F.TRN_STAT_BUSY = 1 ∧
    t.stored c (s.trnStart c (s.f (R.TRN_ADDR c) F.TRN_ADDR_ADDR) (F.TRN_CTL_RANK.get v) (F.TRN_CTL_SUBCH.get v)) = 1) ∧
  -- TRN_READ_COMPARE is BUSY and writes no memory
  (∀ (s : State) (c : Chan) (v : Word), s.chState c ≠ 4 → s.f (R.TRN_STAT c) F.TRN_STAT_BUSY = 0 → s.locked = false → Completes (.trnReadCompare
    (.service (Fin.ofNat 2 (hubOfChan c))) c v) s fun t => t.f (R.TRN_STAT c) F.TRN_STAT_BUSY = 1 ∧ t.f (R.TRN_CTL c) F.TRN_CTL_OP = 1 ∧ t.dram =
    s.dram) ∧
  -- TRN_DONE ends the operation with the number of mismatches and adds the failing lanes
  (∀ (s : State) (c : Chan) (bad : List Nat) (lanes : BitVec 40) (strobe : BitVec 2), s.f (R.TRN_STAT c) F.TRN_STAT_BUSY = 1 → s.f (R.TRN_CTL c)
    F.TRN_CTL_OP ≠ 0 → bad.length < 2 ^ F.TRN_STAT_MISMATCH.width → Completes (.trnDone c bad lanes strobe) s fun t => t.f (R.TRN_STAT c)
    F.TRN_STAT_BUSY = 0 ∧ t.f (R.TRN_STAT c) F.TRN_STAT_DONE = 1 ∧ t.f (R.TRN_STAT c) F.TRN_STAT_MISMATCH = bad.length ∧ t.f (R.TRN_LANE_ERR c (s.f
    (R.TRN_CTL c) F.TRN_CTL_SUBCH)) F.TRN_LANE_ERR_LANE = s.f (R.TRN_LANE_ERR c (s.f (R.TRN_CTL c) F.TRN_CTL_SUBCH)) F.TRN_LANE_ERR_LANE |||
    lanes.toNat ∧ t.dram = s.dram)

/-- The power budget, level changes, and requests for levels and Rest (R382, R383, R384, R387, R390, R393, R405, R406). -/
def Obligations.PowerBudget : Prop :=
  -- BUDGET_REPORT of the last die of a half goes on to the other hub as one report
  (∀ (s : State) (h : Hub) (u : Fin 14), u.val < 12 → .report h u ∈ s.sent → (∀ d ∈ s.reporters h, d = u.val ∨ (s.unitPwr d).reported = true) →
    Completes (.budgetReport h u) s fun t => t.sent = s.sent.erase (.report h u) ++ [.report (1 - h) (12 + h)] ∧ (t.unitPwr u).reported = true) ∧
  -- BUDGET_STALE sets STALE and drops the reports
  (∀ (s : State) (h u : Nat), .report h u ∈ s.sent → Completes .budgetStale s fun t => t.f R.PWR_STAT F.PWR_STAT_STALE = 1 ∧ s.SameRegs t [R.PWR_STAT]
    ∧ ∀ h u, .report h u ∉ t.sent) ∧
  -- POWER_GRANT of another level starts a change: TARGET, the lower of the two levels meanwhile, the voltage asked for
  (∀ (s : State) (u : Fin 14) (b : Fin 8), .power u b ∈ s.sent → s.changing u = false → s.railFault u = false → b.val ≠ s.level u → Completes
    (.powerGrant u b) s fun t => t.f (rUnit u) F.PWR_DIE_TARGET = b ∧ t.changing u = true ∧ t.level u = min b.val (s.level u) ∧ t.sent = s.sent.erase
    (.power u b) ++ [.avs u (s.voltage u b)]) ∧
  -- AVS_VDONE ends the change at the higher of level and goal
  (∀ (s : State) (u : Fin 14), s.pwr.wakeStep ≠ 1 → s.changing u = true → (s.unitPwr u).kept = none → (s.unitPwr u).goal < 8 → Completes (.avsVdone u)
    s fun t => t.changing u = false ∧ t.level u = max (s.level u) (s.unitPwr u).goal ∧ (t.unitPwr u).fails = 0) ∧
  -- AVS_TIMEOUT of a first change is recorded; the third failure in a row is a rail fault (log entry 20)
  (∀ (s : State) (u : Fin 14), s.changing u = true → (s.unitPwr u).kept = none → (s.unitPwr u).first = true → Completes (.avsTimeout u) s fun t =>
    t.Logged E.AVS_TIMEOUT (unitId u).1 (unitId u).2 ∧ t.changing u = false ∧ (t.unitPwr u).fails = (s.unitPwr u).fails + 1 ∧ (2 ≤ (s.unitPwr u).fails
    → t.railFault u = true)) ∧
  -- DIE_WAKE_DONE with the die's link ACTIVE powers the die and tells every package
  (∀ (s : State) (d : Die), d.val ∈ s.pwr.waking → s.linkActive (8 + d) = true → Completes (.dieWakeDone d) s fun t => t.dieState d = 2 ∧ ∀ p ∈
    addOnce s.others s.pkg, .rest p (16 + d) ∈ t.sent) ∧
  -- REST_REQ_WRITE changes the requester's own bit only
  (∀ (s : State) (who : Sender) (v : Word), s.Admitted who.who R.REST_REQ true → Completes (.restReqWrite who v) s fun t => s.SameRegs t [R.REST_REQ]
    ∧ ∀ p, p < 64 → (t.reg R.REST_REQ).getLsbD p = if p = s.whoPart who.who then v.getLsbD p else (s.reg R.REST_REQ).getLsbD p) ∧
  -- PWR_HUB_REQ_WRITE changes the requester's own four bits only
  (∀ (s : State) (who : Sender) (v : Word), s.Admitted who.who R.PWR_HUB_REQ true → Completes (.pwrHubReqWrite who v) s fun t => s.SameRegs t
    [R.PWR_HUB_REQ] ∧ ∀ i, i < 64 → (t.reg R.PWR_HUB_REQ).getLsbD i = if i / 4 = s.whoPart who.who then v.getLsbD i else (s.reg R.PWR_HUB_REQ).getLsbD
    i) ∧
  -- CD_PL_REQ_WRITE changes the four bits of the requester's own cores only
  (∀ (s : State) (who : Sender) (d : Die) (v : Word), s.Admitted who.who (R.CD_PL_REQ_0 d) true → Completes (.cdPlReqWrite who d 0 v) s fun t =>
    s.SameRegs t [R.CD_PL_REQ_0 d] ∧ ∀ i, i < 64 → (t.reg (R.CD_PL_REQ_0 d)).getLsbD i = if s.corePart (20 * d + i / 4) = s.whoPart who.who then
    v.getLsbD i else (s.reg (R.CD_PL_REQ_0 d)).getLsbD i) ∧
  -- DOMAIN_DRAIN_DONE of a cluster whose cores are all off powers it down
  (∀ (s : State) (d : Die) (k : Fin 2), (d.val, k.val) ∈ s.pwr.drain → (∀ c ∈ domainCores d k, s.coreState c = 0) → Completes (.domainDrainDone d
    (some k)) s fun t => t.clusterOn d k = false ∧ (t.f R.CLKD_ON F.CLKD_ON_ON).testBit (4 * d + k) = false)

/-- Rest and wake (R397, R402, R403). -/
def Obligations.RestAndWake : Prop :=
  -- REST_NOTICE of another package is kept
  (∀ (s : State) (p : Pkg), p.val ∈ s.others → s.beat.isolated = false → s.locked = false → Completes (.restNotice p) s fun t => p.val ∈
    t.pwr.restPkgs ∧ t.regs = s.regs) ∧
  -- RESTING_NOTICE also sets its RESTING bit
  (∀ (s : State) (p : Pkg), p.val ∈ s.others → s.beat.isolated = false → s.locked = false → Completes (.restingNotice p) s fun t => p.val ∈
    t.pwr.restPkgs ∧ (t.f R.REST_STAT F.REST_STAT_RESTING).testBit p = true ∧ s.SameRegs t [R.REST_STAT]) ∧
  -- REST_DRAIN_DONE with everything drained and no wake latched enters REST: VR_EN falls, secrets are wrapped, the TLBs are empty
  (∀ (s : State), s.Inv → s.restState = ST_ENTERING → s.restDrained = true → s.pwr.wakeLatched = false → Completes (.restDrainDone true) s fun t =>
    t.restState = ST_REST ∧ t.pwr.vrEn = false ∧ t.sec.wrapped = true ∧ t.xlat = default) ∧
  -- REST_DRAIN_DONE where the Islands' wrapped secrets differ enters no REST: ISLAND_DISAGREE is recorded and counted
  (∀ (s : State), s.restState = ST_ENTERING → s.restDrained = true → s.sec.disagreeRow < 2 → Completes (.restDrainDone false) s fun t => t.restState =
    ST_ENTERING ∧ t.Logged E.ISLAND_DISAGREE 8 0 ∧ t.sec.disagreeRow = s.sec.disagreeRow + 1 ∧ t.sec.wrapped = s.sec.wrapped ∧ t.dram = s.dram) ∧
  -- REST_DRAIN_DONE before everything is drained changes nothing
  (∀ (s : State) (agree : Bool), s.restState = ST_ENTERING → s.restDrained = false → s.sec.differ = false → Completes (.restDrainDone agree) s fun t
    => t = s) ∧
  -- WAKE_MATCH in REST starts the wake: VR_EN rises on all four pins
  (∀ (s : State) (a : Fin 128), s.boot.applied = true → a.val = s.boot.cfg.wakeAddr + s.pkg → s.restState = ST_REST → s.pwr.wakeStep = 0 → Completes
    (.wakeMatch a) s fun t => t.pwr.wakeStep = 1 ∧ t.pwr.vrEn = true ∧ .smbus true [] ∈ t.sent ∧ t.regs = s.regs ∧ ∀ i < 4, .pin "VR_EN" i true ∈
    t.sent) ∧
  -- WAKE_MATCH while entering Rest is latched
  (∀ (s : State) (a : Fin 128), s.boot.applied = true → a.val = s.boot.cfg.wakeAddr + s.pkg → s.restState = ST_ENTERING → Completes (.wakeMatch a) s
    fun t => t.pwr.wakeLatched = true ∧ t.sent = s.sent ++ [.smbus true []]) ∧
  -- WAKE_STEP_END of step 1 with its condition goes to step 2
  (∀ (s : State) (agree : Bool), s.pwr.wakeStep = 1 → s.railsSet = true → Completes (.wakeStepEnd true agree) s fun t => t.pwr.wakeStep = 2 ∧ t.regs
    = s.regs ∧ t.sent = s.sent) ∧
  -- WAKE_STEP_END without its condition fences the package, records WAKE_FAIL and raises the Gong
  (∀ (s : State) (agree : Bool), 1 ≤ s.pwr.wakeStep → s.pwr.wakeStep ≤ 4 → Completes (.wakeStepEnd false agree) s fun t => t.pwr.wakeStep = 0 ∧
    t.beat.selfFenced = true ∧ t.Logged E.WAKE_FAIL 2 0 ∧ ∃ g ∈ t.err.raise, g.cause = E.WAKE_FAIL.val) ∧
  -- WAKE_STEP_END of step 4 with the links ready is AWAKE, with REST_REQ 0
  (∀ (s : State) (agree : Bool), s.pwr.wakeStep = 4 → s.linksReady = true → Completes (.wakeStepEnd true agree) s fun t => t.pwr.wakeStep = 0 ∧
    t.restState = ST_AWAKE ∧ t.reg R.REST_REQ = 0)

/-- Error logs, the Gong, the Assay, and pins that stop the machine (R400, R417, R419, R426, R441, R442, R444). -/
def Obligations.ErrorsAndAssay : Prop :=
  -- ELOG_TAIL_WRITE within the window sets TAIL
  (∀ (s : State) (who : Sender) (n : Fin 32) (v : BitVec 32), s.Admitted who.who (R.ELOG_TAIL n) true → v.toNat ≤ (s.err.logs.get n).written →
    (s.err.logs.get n).written - v.toNat ≤ 120 → (s.err.logs.get n).written < 2 ^ 32 → Completes (.elogTailWrite who n v) s fun t => (t.err.logs.get
    n).tail = v.toNat ∧ (t.err.logs.get n).written = (s.err.logs.get n).written ∧ t.regs = s.regs) ∧
  -- GONG_MESSAGE not seen before is listed
  (∀ (s : State) (h : Hub) (src : Pkg) (cause k u b : Nat) (m : BitVec 16), s.beat.isolated = false → s.locked = false → s.restState ≠ ST_REST → (∀ o
    ∈ s.err.gongs, ¬ (o.src = src.val ∧ o.cause = cause ∧ o.beat = b)) → Completes (.gongMessage h src cause k u b m) s fun t => t.err.gongs =
    s.err.gongs ++ [{ src := src, cause := cause, kind := k, unit := u, beat := b, mask := m.toNat, done := false }] ∧ t.regs = s.regs) ∧
  -- GONG_MESSAGE seen before is dropped
  (∀ (s : State) (h : Hub) (src : Pkg) (cause k u b : Nat) (m : BitVec 16), s.beat.isolated = false → s.locked = false → (∃ o ∈ s.err.gongs, o.src =
    src.val ∧ o.cause = cause ∧ o.beat = b) → Completes (.gongMessage h src cause k u b m) s fun t => t = s.take (.gong s.pkg
    { src := src, cause := cause, kind := k, unit := u, beat := b, mask := m.toNat, done := false })) ∧
  -- ASSAY_PREPARED of a block that is off or fenced, test 0 asked for, begins testing at the asked level
  (∀ (s : State) (i : Fin 14), s.assayHead = some i.val → s.assayState i = ASSAY_PREPARING → 12 ≤ i.val ∨ s.dieState i = 0 ∨ s.dieFenced i = true →
    s.err.assayLevel.get i < 8 → bit (s.err.assayTests.get i) 0 = true → (i.val < 12 → s.taskOf false (linkTask (8 + i)) = none) → Completes
    (.assayPrepared i) s fun t => t.assayState i = ASSAY_TESTING ∧ t.f (rUnit i) F.PWR_DIE_LEVEL = s.err.assayLevel.get i ∧ t.err.assayTest = 0) ∧
  -- ASSAY_TEST_DONE with the image's signature sets RUN and no FAILED bit
  (∀ (s : State) (i : Fin 14) (sig : Word) (e : SigRec), s.assayHead = some i.val → s.assayState i = ASSAY_TESTING → s.err.assayFresh = false →
    s.err.assayRes = none → s.err.assayTest < 4 → (s.boot.cfg.sigs.find? fun e => e.block = i.val && e.test = s.err.assayTest) = some e → e.sig =
    sig.toNat → Completes (.assayTestDone i sig) s fun t => t.reg (R.ASSAY_SIG i s.err.assayTest) = sig ∧ (t.f (R.ASSAY_STAT i)
    F.ASSAY_STAT_RUN).testBit s.err.assayTest = true ∧ t.f (R.ASSAY_STAT i) F.ASSAY_STAT_FAILED = s.f (R.ASSAY_STAT i) F.ASSAY_STAT_FAILED) ∧
  -- ASSAY_TEST_DONE with another signature sets FAILED
  (∀ (s : State) (i : Fin 14) (sig : Word) (e : SigRec), s.assayHead = some i.val → s.assayState i = ASSAY_TESTING → s.err.assayFresh = false →
    s.err.assayRes = none → s.err.assayTest < 4 → (s.boot.cfg.sigs.find? fun e => e.block = i.val && e.test = s.err.assayTest) = some e → e.sig ≠
    sig.toNat → Completes (.assayTestDone i sig) s fun t => t.reg (R.ASSAY_SIG i s.err.assayTest) = sig ∧ (t.f (R.ASSAY_STAT i)
    F.ASSAY_STAT_FAILED).testBit s.err.assayTest = true) ∧
  -- ASSAY_TEST_DONE without a reference sets FAILED and NO_REF
  (∀ (s : State) (i : Fin 14) (sig : Word), s.assayHead = some i.val → s.assayState i = ASSAY_TESTING → s.err.assayFresh = false → s.err.assayRes =
    none → s.err.assayTest < 4 → (s.boot.cfg.sigs.find? fun e => e.block = i.val && e.test = s.err.assayTest) = none → Completes (.assayTestDone i
    sig) s fun t => (t.f (R.ASSAY_STAT i) F.ASSAY_STAT_FAILED).testBit s.err.assayTest = true ∧ (t.f (R.ASSAY_STAT i) F.ASSAY_STAT_NO_REF).testBit
    s.err.assayTest = true) ∧
  -- THERMTRIP_ANALOG asserts THERMTRIP_N
  (∀ (s : State), s.pwr.thermtrip = false → Completes .thermtripAnalog s fun t => t.pwr.thermtrip = true ∧ t.sent = s.sent ++ [.pin "THERMTRIP_N" 0
    false] ∧ t.regs = s.regs) ∧
  -- RESET_ASSERT puts registers, caches and DRAM at reset, and keeps the fuses and the TAP
  (∀ (s : State), Completes .resetAssert s fun t => t.regs = [] ∧ t.boot.inReset = true ∧ t.boot.advanced = s.boot.advanced ∧ t.err.tapIr =
    s.err.tapIr ∧ t.cache = State.reset.cache ∧ t.dram = State.reset.dram) ∧
  -- REFCLK_LOSS stops the timebase
  (∀ (s : State), Completes .refclkLoss s fun t => t.beat.running = false ∧ t.now = s.now ∧ t.regs = s.regs) ∧
  -- MGMT_BUS_TIMEOUT changes nothing (log entry 72)
  (∀ (s : State), Completes .mgmtBusTimeout s fun t => t = s)

/-- Public instructions of the test access port (R432). -/
def Obligations.TestAccessPort : Prop :=
  -- TAP_IDCODE shifts out the IDCODE
  (∀ (s : State), Completes .tapIdcode s fun t => t.err.tapDr = [idcode] ∧ t.err.tapIr = 0x01 ∧ t.err.logs = s.err.logs) ∧
  -- TAP_SAMPLE_PRELOAD samples the pins and loads the boundary register
  (∀ (s : State) (p l : List Bool), Completes (.tapSamplePreload p l) s fun t => t.err.tapDr = packBits p.length p ∧ t.err.boundary = l ∧ t.err.tapIr
    = 0x02 ∧ t.err.pinsDriven = 0) ∧
  -- TAP_EXTEST in reset or locked drives the pins from the boundary register
  (∀ (s : State), s.boot.inReset = true ∨ s.locked = true → Completes .tapExtest s fun t => t.err.tapIr = 3 ∧ t.err.pinsDriven = 1 ∧ t.err.boundary =
    s.err.boundary ∧ t.err.logs = s.err.logs) ∧
  -- TAP_EXTEST while the package runs acts as BYPASS and records DEBUG_DENIED
  (∀ (s : State), s.pkgRuns = true → Completes .tapExtest s fun t => t.err.tapIr = 0xFF ∧ t.err.pinsDriven = 0 ∧ t.Logged E.DEBUG_DENIED 15 15) ∧
  -- TAP_CLAMP in reset or locked drives the pins
  (∀ (s : State), s.boot.inReset = true ∨ s.locked = true → Completes .tapClamp s fun t => t.err.tapIr = 4 ∧ t.err.pinsDriven = 1 ∧ t.err.boundary =
    s.err.boundary ∧ t.err.logs = s.err.logs) ∧
  -- TAP_CLAMP while the package runs acts as BYPASS and records DEBUG_DENIED
  (∀ (s : State), s.pkgRuns = true → Completes .tapClamp s fun t => t.err.tapIr = 0xFF ∧ t.err.pinsDriven = 0 ∧ t.Logged E.DEBUG_DENIED 15 15) ∧
  -- TAP_HIGHZ in reset or locked floats the pins
  (∀ (s : State), s.boot.inReset = true ∨ s.locked = true → Completes .tapHighz s fun t => t.err.tapIr = 5 ∧ t.err.pinsDriven = 2 ∧ t.err.boundary =
    s.err.boundary ∧ t.err.logs = s.err.logs) ∧
  -- TAP_HIGHZ while the package runs acts as BYPASS and records DEBUG_DENIED
  (∀ (s : State), s.pkgRuns = true → Completes .tapHighz s fun t => t.err.tapIr = 0xFF ∧ t.err.pinsDriven = 0 ∧ t.Logged E.DEBUG_DENIED 15 15) ∧
  -- TAP_BYPASS drives nothing
  (∀ (s : State), Completes .tapBypass s fun t => t.err.tapIr = 0xFF ∧ t.err.pinsDriven = 0 ∧ t.err.logs = s.err.logs)

/-- Private debug instructions: selecting and halting a core (R432). -/
def Obligations.DebugSelectAndHalt : Prop :=
  -- DBG_SELECT of a core in scope selects it
  (∀ (s : State) (c : Core), s.dbg F.DBG_STAT_TAP_PRIVATE = 1 → s.dbgScope (s.corePart c) = true → Completes (.dbgSelect c) s fun t => t.err.dbgCore =
    some c.val ∧ t.err.logs = s.err.logs) ∧
  -- DBG_SELECT without the right acts as BYPASS and records DEBUG_DENIED
  (∀ (s : State) (c : Core), s.dbg F.DBG_STAT_TAP_PRIVATE = 0 → s.pkgRuns = true → Completes (.dbgSelect c) s fun t => t.err.dbgCore = s.err.dbgCore ∧
    t.err.tapIr = 0xFF ∧ t.Logged E.DEBUG_DENIED 15 15) ∧
  -- DBG_SELECT of a core outside the scope selects none
  (∀ (s : State) (c : Core), s.dbg F.DBG_STAT_TAP_PRIVATE = 1 → s.dbgScope (s.corePart c) = false → Completes (.dbgSelect c) s fun t => t.err.dbgCore
    = none) ∧
  -- DBG_HALT halts the selected running core
  (∀ (s : State) (c : Core), s.dbg F.DBG_STAT_TAP_PRIVATE = 1 → s.probes = true → s.err.dbgCore = some c.val → s.coreState c = 2 → s.isTwin
    (s.corePart c) = false → s.atCompare (mirror c) = false → Completes (.dbgHalt true) s fun t => t.coreState c = 1 ∧ t.sent = s.sent) ∧
  -- DBG_HALT with 0 runs the selected halted core from CORE_START_PC (log entry 73)
  (∀ (s : State) (c : Core), s.dbg F.DBG_STAT_TAP_PRIVATE = 1 → s.probes = true → s.err.dbgCore = some c.val → s.coreState c = 1 → s.isTwin
    (s.corePart c) = false → Completes (.dbgHalt false) s fun t => t.coreState c = 2 ∧ (t.coreH c).pc = s.f (R.CORE_START_PC c) F.CORE_START_PC_PC *
    4) ∧
  -- DBG_HALT without the right acts as BYPASS and records DEBUG_DENIED
  (∀ (s : State) (h : Bool), s.dbg F.DBG_STAT_TAP_PRIVATE = 0 ∨ s.probes = false → s.pkgRuns = true → Completes (.dbgHalt h) s fun t => t.regs =
    s.regs ∧ t.cores = s.cores ∧ t.err.tapIr = 0xFF ∧ t.Logged E.DEBUG_DENIED 15 15)

/-- Private debug instructions: registers, memory and arrays of the selected core (R432). -/
def Obligations.DebugAccesses : Prop :=
  -- DBG_REGS writes a register of the halted core
  (∀ (s : State) (c : Core) (r : Nat) (v : Word), s.dbg F.DBG_STAT_TAP_PRIVATE = 1 → s.probes = true → s.err.dbgCore = some c.val → s.coreState c = 1
    → s.isTwin (s.corePart c) = false → Completes (.dbgRegs r (some v)) s fun t => regFind (t.coreH c).debugRegs r = some v ∧ t.regs = s.regs) ∧
  -- DBG_REGS reads a register that has a value
  (∀ (s : State) (c : Core) (r : Nat) (v : Word), s.dbg F.DBG_STAT_TAP_PRIVATE = 1 → s.probes = true → s.err.dbgCore = some c.val → s.coreState c = 1
    → regFind (s.coreH c).debugRegs r = some v → Completes (.dbgRegs r none) s fun t => t.err.tapDr = [v] ∧ t.cores = s.cores ∧ t.freeCtr = s.freeCtr)
    ∧
  -- DBG_REGS reads a register that nothing has written as a free value (log entry 2)
  (∀ (s : State) (c : Core) (r : Nat), s.dbg F.DBG_STAT_TAP_PRIVATE = 1 → s.probes = true → s.err.dbgCore = some c.val → s.coreState c = 1 → regFind
    (s.coreH c).debugRegs r = none → Completes (.dbgRegs r none) s fun t => t.err.tapDr = [Config.freeValue s.freeCtr] ∧ t.freeCtr = s.freeCtr + 1) ∧
  -- DBG_MEM writes 8 bytes of DRAM by a UC_WR in the core's partition
  (∀ (s : State) (c : Core) (pa : Word) (p : Nat) (v : Word), s.dbg F.DBG_STAT_TAP_PRIVATE = 1 → s.probes = true → s.err.dbgCore = some c.val →
    pa.toNat % 8 = 0 → pa.toNat < 2 ^ 52 → paKind pa.toNat = .dram p → s.undecoded pa.toNat = none → s.ioHeld (pkgOfLine (pa.toNat / 64)) = false →
    Completes (.dbgMem pa (some v)) s fun t => ∃ m, .coh m ∈ t.sent ∧ m.op = .ucWr ∧ m.line = pa.toNat / 64 ∧ m.part = s.corePart c ∧ m.mask = maskFor
    (pa.toNat % 64) 8 ∧ m.data = linePut 0 (pa.toNat % 64) 8 (v.setWidth 512)) ∧
  -- DBG_MEM of a misaligned address outside Control Space reads 0 and sends nothing (log entry 73)
  (∀ (s : State) (c : Core) (pa : Word) (wr : Option Word), s.dbg F.DBG_STAT_TAP_PRIVATE = 1 → s.probes = true → s.err.dbgCore = some c.val → pa.toNat
    % 8 ≠ 0 → (∀ p off, paKind pa.toNat ≠ .cs p off) → Completes (.dbgMem pa wr) s fun t => t.err.tapDr = [0] ∧ t.sent = s.sent ∧ t.dram = s.dram) ∧
  -- DBG_MEM of a misaligned Control Space address of this package is a bus error, with a record
  (∀ (s : State) (c : Core) (off : Fin (2 ^ 32)) (wr : Option Word), s.dbg F.DBG_STAT_TAP_PRIVATE = 1 → s.probes = true → s.err.dbgCore = some c.val →
    s.locked = false → s.pkg < 8 → off.val % 8 ≠ 0 → Completes (.dbgMem (BitVec.ofNat 64 (s.csAddr off)) wr) s fun t => t.Logged E.CS_ACCESS_WIDTH 15
    15 ∧ t.err.tapDr = [0] ∧ t.regs = s.regs ∧ t.dram = s.dram) ∧
  -- DBG_ARRAY reads a Die Cache line whose partition is in scope
  (∀ (s : State) (c : Core) (set way : Nat) (l : DcLine), s.dbg F.DBG_STAT_TAP_PRIVATE = 1 → s.dbg F.DBG_STAT_ARRAY_READ = 1 → s.err.dbgCore = some
    c.val → set < 65536 → way < 16 → s.cache.dc.get (dcKey (dieOf c) set way) = l → l.coh ≠ .i → s.dbgScope l.part = true → Completes (.dbgArray 3 set
    way) s fun t => t.err.tapDr.drop 2 = lineWords l.data ∧ t.cache = s.cache) ∧
  -- DBG_ARRAY of a line outside the scope reads 0
  (∀ (s : State) (c : Core) (set way : Nat) (l : DcLine), s.dbg F.DBG_STAT_TAP_PRIVATE = 1 → s.dbg F.DBG_STAT_ARRAY_READ = 1 → s.err.dbgCore = some
    c.val → set < 65536 → way < 16 → s.cache.dc.get (dcKey (dieOf c) set way) = l → l.coh ≠ .i → s.dbgScope l.part = false → Completes (.dbgArray 3
    set way) s fun t => t.err.tapDr = [0])

/-- From RESET_N to the system image (R66, R69, R74, R79, R80, R83). -/
def Obligations.StartUp : Prop :=
  -- RESET_DEASSERT starts the timebase at beat 0 with the strapped number and the clocks of the always-on domain
  (∀ (s : State) (strap : Pkg), s.boot.inReset = true → Completes (.resetDeassert strap) s fun t => t.beat.now = 0 ∧ t.beat.running = true ∧ t.pkg =
    strap ∧ t.boot.inReset = false ∧ t.reg R.CLKD_ON = 0xFFFF000000000000 ∧ s.SameRegs t [R.CLKD_ON]) ∧
  -- ISLAND_CONFIRM of both Islands opens the flash phase with two new nonces (free values, log entry 2)
  (∀ s : State, s.awaitsIslands = true → Completes (.islandConfirm true true true true) s fun t => t.phase = 1 ∧ t.boot.flashEnabled = true ∧ t.reg
    (R.MB_CMD_NONCE 0) = Config.freeValue s.freeCtr ∧ t.reg (R.MB_CMD_NONCE 1) = Config.freeValue (s.freeCtr + 1) ∧ t.freeCtr = s.freeCtr + 2) ∧
  -- ISLAND_CONFIRM_TIMEOUT locks the package with cause 14, floats the flash and records ISLAND_FAULT
  (∀ s : State, s.awaitsIslands = true → Completes .islandConfirmTimeout s fun t => t.Logged E.ISLAND_FAULT 8 0 ∧ t.locked = true ∧ t.stat
    F.BOOT_STAT_LOCK_CAUSE = 14 ∧ t.boot.flashHiZ = true ∧ t.reg R.CLKD_ON = BitVec.ofNat 64 CLK_LOCKED) ∧
  -- FLASH_READ_DONE keeps a copy of the image's length; when both are there, verification begins
  (∀ (s : State) (h : Hub) (b : List Byte) (size : Nat), s.phase = 1 → (s.boot.copies.get h).done = false → imageLenOk (field b 40 4) size = true →
    field b 40 4 ≤ b.length → Completes (.flashReadDone h (some b) size) s fun t => t.boot.copies.get h =
    { done := true, fault := 0, bytes := b.take (field b 40 4) } ∧ (t.phase = 2 ↔ (s.boot.copies.get (1 - h)).done = true)) ∧
  -- IMAGE_VERIFY_DONE with a disagreement on copy A refuses it and uses copy B if that is good, else locks
  (∀ (s : State) (flipB : Bool), s.phase = 2 → s.boot.selected = none → Completes (.imageVerifyDone true flipB) s fun t => t.stat
    F.BOOT_STAT_COPY_A_OK = 0 ∧ t.stat F.BOOT_STAT_FAULT_A = IMG_DISAGREE ∧ t.stat F.BOOT_STAT_COPY_B_OK = (decide ((s.copyVerdict 1 flipB).1 =
    0)).toNat ∧ ((s.copyVerdict 1 flipB).1 = 0 → t.boot.selected = some (s.copyVerdict 1 flipB).2 ∧ t.stat F.BOOT_STAT_COPY_USED = 1) ∧
    ((s.copyVerdict 1 flipB).1 ≠ 0 → t.locked = true)) ∧
  -- TRAINING_TASK_DONE of one of several laser tasks lists the tile, and the next task of its Service Core begins
  (∀ (s : State) (task : Nat) (spd : List Spd) (k : SvcTask), s.locked = false → s.boot.applied = true → s.boot.stage = 1 → s.taskOf false task = some
    k → k.full = true → s.now ≤ k.start + s.boot.cfg.linkTrain.timeLimit → (s.boot.svcTasks.erase k).any (·.full) = true → Completes
    (.trainingTaskDone task false 0 spd) s fun t => t.boot.tilesOk = addOnce s.boot.tilesOk task ∧ t.boot.svcTasks = (s.boot.svcTasks.erase k).map
    (fun x => if x.hub = k.hub then { x with start := s.now } else x) ∧ t.regs = s.regs) ∧
  -- MODULE_TIMEOUT of a laser task that has run for TIME_LIMIT beats is recorded and the tile not listed
  (∀ (s : State) (task : Nat) (k : SvcTask) (spd : List Spd), s.locked = false → s.boot.applied = true → s.boot.stage = 1 → s.taskOf false task = some
    k → k.full = true → k.start + s.boot.cfg.linkTrain.timeLimit ≤ s.now → task < 4 → (s.boot.svcTasks.erase k).any (·.full) = true → Completes
    (.moduleTimeout task false spd) s fun t => t.Logged E.MODULE_TIMEOUT 12 task ∧ t.boot.tilesOk = s.boot.tilesOk ∧ t.boot.svcTasks =
    (s.boot.svcTasks.erase k).map (fun x => if x.hub = k.hub then { x with start := s.now } else x)) ∧
  -- MODULE_TIMEOUT before TIME_LIMIT beats changes nothing
  (∀ (s : State) (task : Nat) (mem : Bool) (k : SvcTask) (spd : List Spd), s.taskOf mem task = some k → s.now < k.start + (s.moduleFor mem).timeLimit
    → Completes (.moduleTimeout task mem spd) s fun t => t = s) ∧
  -- MGMT_READ_BOOT_STAT answers BOOT_STAT with the fused counter
  (∀ (s : State) (addr : Fin 128), s.busHit addr = true → s.boot.applied = false → Completes (.mgmtReadBootStat addr) s fun t => t = s.send (.smbus
    true (8 :: leBytes 8 (F.BOOT_STAT_FUSED_ROLLBACK.set s.boot.stat s.fusedRollback).toNat)))

/-- Founding and joining a system, the loss of a package (R285, R286, R292, R294). -/
def Obligations.Membership : Prop :=
  -- HELLO_RECEIVED is kept, and CONFIRMED says whether it names the expected package and port
  (∀ (s : State) (p : FabPort) (w : Word), bits w 0 4 = 3 → s.linkActive p = true → Completes (.helloReceived p w) s fun t => t.links.hellos.get p = w
    ∧ t.f (R.FP_PEER p) F.FP_PEER_CONFIRMED = (decide (bits w 4 3 = s.f (R.FP_PEER p) F.FP_PEER_PEER_PKG) && decide (bits w 7 3 = s.f (R.FP_PEER p)
    F.FP_PEER_PEER_PORT)).toNat) ∧
  -- SYSTEM_FOUND after 1,024 beats as candidate admits this package alone, as master
  (∀ (s : State), s.mayFound = true → 1024 ≤ s.links.candSince → s.pkg < 8 → Completes .systemFound s fun t => t.f R.SYS_STAT F.SYS_STAT_ADMITTED = 2
    ^ s.pkg ∧ t.f R.PKG_INFO F.PKG_INFO_ADMITTED = 1 ∧ t.f R.PKG_INFO F.PKG_INFO_MASTER = 1) ∧
  -- JOIN_REQUEST of a listed package at an idle master begins a join and sends the ticket log and its end (log entry 93)
  (∀ (s : State) (src : Pkg) (h0 : Digest), s.isMaster = true → s.pkg ∈ s.admitted → src.val ∈ s.listed → src.val ∉ s.admitted → s.beat.isolated =
    false → h0 = s.beat.h0 → s.anyPeal = false → s.links.join = none → s.links.ticketLog.length ≤ 4096 → s.locked = false → Completes (.joinRequest
    src h0) s fun t => t.f R.SYS_STAT F.SYS_STAT_JOINING = src ∧ t.f R.SYS_STAT F.SYS_STAT_JOIN_BUSY = 1 ∧ t.links.join = some
    { pkg := src, h0 := h0, ready := false, ends := 1 } ∧ t.sent = s.sent ++ s.links.ticketLog.map (fun b => .ticket src 16 b 0) ++ [.ticket src 16 []
    0]) ∧
  -- JOIN_LOG_DONE for the log's end, with the right hallmark, makes the joiner ready
  (∀ (s : State) (src : Pkg) (h : Digest) (j : JoinH), s.pkg ∈ s.admitted → s.links.join = some j → j.pkg = src → j.ready = false → j.ends = 1 → h =
    s.beat.hallmark.getD 0 0 → s.beat.isolated = false → s.locked = false → Completes (.joinLogDone src h) s fun t => t.links.join = some
    { j with ready := true, ends := 0 } ∧ t.f R.SYS_STAT F.SYS_STAT_ADMITTED = s.f R.SYS_STAT F.SYS_STAT_ADMITTED) ∧
  -- JOIN_RETRY sends the request again, next 16 beats later
  (∀ (s : State) (b : Nat), s.links.joinWait = some b → s.joinable = true → b ≤ s.now → Completes .joinRetry s fun t => t.links.joinWait = some (s.now
    + 16) ∧ t.sent = s.sent ++ [.join s.master 0 s.beat.h0] ∧ t.regs = s.regs) ∧
  -- PKG_MARKER_TIMEOUT after 16 beats suspects the package
  (∀ (s : State) (src : Pkg), 16 ≤ s.links.lastMarker.get src → src.val ∈ s.admitted → Completes (.pkgMarkerTimeout src) s fun t => src.val ∈
    t.links.suspects ∧ t.regs = s.regs) ∧
  -- PKG_LOST_REPORT suspects the package
  (∀ (s : State) (src : Pkg), src.val ∈ s.admitted → s.pkg ∈ s.admitted → s.beat.isolated = false → s.locked = false → Completes (.pkgLostReport src)
    s fun t => src.val ∈ t.links.suspects ∧ t.regs = s.regs ∧ t.sent = s.sent) ∧
  -- PKG_LOST_RECEIVED takes the package out and sets LOST in SYS_STAT and both fence masks
  (∀ (s : State) (src : Fin 16) (beat : Nat), src.val < 8 → src.val ∈ s.admitted → src.val ≠ s.pkg → s.beat.isolated = false → s.locked = false →
    Completes (.pkgLostReceived src beat) s fun t => src.val ∉ t.admitted ∧ (t.f R.SYS_STAT F.SYS_STAT_LOST).testBit src = true ∧ (t.f (R.FENCE_STAT
    0) F.FENCE_STAT_PKG_LOST).testBit src = true ∧ (t.f (R.FENCE_STAT 1) F.FENCE_STAT_PKG_LOST).testBit src = true ∧ t.links.lostAt.get src = beat +
    1) ∧
  -- PKG_LOST_RECEIVED of a set that leaves no quorum (8 plus its first package): this package fences itself, too
  (∀ (s : State) (src : Fin 16) (beat : Nat), 8 ≤ src.val → s.pkg ∈ s.admitted → s.beat.selfFenced = false → s.beat.isolated = false → s.locked = false
    → Completes (.pkgLostReceived src beat) s fun t => t.beat.selfFenced = true ∧ t.Logged E.PKG_QUORUM_LOST 14 (src.val - 8) ∧ ∃ g ∈ t.err.raise,
    g.cause = E.PKG_QUORUM_LOST.val ∧ g.beat = s.now + 1) ∧
  -- PKG_LOST_PWR_EN_DROP 63 beats after the loss drops the socket's PWR_EN
  (∀ (s : State) (src : Pkg) (i : Nat), s.isSponsor = true → s.socketOf src = some i → 0 < s.links.lostAt.get src → s.links.lostAt.get src + 63 ≤
    s.now → s.f (R.SKT_STAT i) F.SKT_STAT_PWR_EN = 1 → Completes (.pkgLostPwrEnDrop src) s fun t => t.f (R.SKT_STAT i) F.SKT_STAT_PWR_EN = 0 ∧ t.sent
    = s.sent ++ [.pin "PWR_EN" i false] ∧ s.SameRegs t [R.SKT_STAT i])

/-- Sockets of the sponsor, and a package that leaves (R289, R290, R291). The argument of a leave Peal (1 + 32 times the number plus one) is the
  model's coding: log entry 41. -/
def Obligations.Sockets : Prop :=
  -- SOCKET_PRESENCE of a new package makes the socket OFF, sets PRSNT_CHANGE and records SKT_EVENT
  (∀ (s : State) (i : Fin 4), s.isSponsor = true → s.f (R.SKT_STAT i) F.SKT_STAT_PRSNT = 0 → s.sktState i = 0 → Completes (.socketPresence i true) s
    fun t => t.sktState i = 1 ∧ t.f (R.SKT_STAT i) F.SKT_STAT_PRSNT = 1 ∧ t.f (R.SKT_STAT i) F.SKT_STAT_PRSNT_CHANGE = 1 ∧ t.Logged E.SKT_EVENT 13 i ∧
    s.SameRegs t [R.SKT_STAT i]) ∧
  -- SOCKET_BUTTON with BUTTON_EN powers an OFF socket
  (∀ (s : State) (i : Fin 4), s.isSponsor = true → s.f (R.SKT_CTL i) F.SKT_CTL_BUTTON_EN = 1 → s.sktState i = 1 → Completes (.socketButton i) s fun t
    => t.sktState i = 2 ∧ t.f (R.SKT_STAT i) F.SKT_STAT_PWR_EN = 1 ∧ t.f (R.SKT_STAT i) F.SKT_STAT_BUTTON = 1 ∧ t.Logged E.SKT_EVENT 13 i ∧ s.SameRegs
    t [R.SKT_STAT i]) ∧
  -- SOCKET_PWR_GOOD makes a powering socket BOOTING
  (∀ (s : State) (i : Fin 4), s.isSponsor = true → s.sktState i = 2 → Completes (.socketPwrGood i) s fun t => t.sktState i = 3 ∧ t.f (R.SKT_STAT i)
    F.SKT_STAT_PWR_GOOD = 1 ∧ s.SameRegs t [R.SKT_STAT i]) ∧
  -- SOCKET_PWR_GOOD_FALL with PWR_EN is a fault: PWR_EN falls
  (∀ (s : State) (i : Fin 4), s.isSponsor = true → s.f (R.SKT_STAT i) F.SKT_STAT_PWR_GOOD = 1 → s.f (R.SKT_STAT i) F.SKT_STAT_PWR_EN = 1 → Completes
    (.socketPwrGoodFall i) s fun t => t.sktState i = 7 ∧ t.f (R.SKT_STAT i) F.SKT_STAT_PWR_GOOD = 0 ∧ t.f (R.SKT_STAT i) F.SKT_STAT_PWR_EN = 0 ∧ t.f
    (R.SKT_STAT i) F.SKT_STAT_PWR_FAULT = 1 ∧ t.Logged E.SKT_EVENT 13 i) ∧
  -- SOCKET_POWER_TIMEOUT is a fault with the attention light on
  (∀ (s : State) (i : Fin 4), s.isSponsor = true → s.sktState i = 2 → Completes (.socketPowerTimeout i) s fun t => t.sktState i = 7 ∧ t.f (R.SKT_STAT
    i) F.SKT_STAT_PWR_EN = 0 ∧ t.f (R.SKT_STAT i) F.SKT_STAT_PWR_FAULT = 1 ∧ .pin "ATTN_LED" i true ∈ t.sent ∧ s.SameRegs t [R.SKT_STAT i]) ∧
  -- SKT_POWER_ON powers an OFF socket
  (∀ (s : State) (who : Sender) (i : Fin 4), s.Admitted who.who (R.SKT_CTL i) true → s.isSponsor = true → s.sktState i = 1 → Completes (.sktPowerOn
    who i) s fun t => t.sktState i = 2 ∧ t.f (R.SKT_STAT i) F.SKT_STAT_PWR_EN = 1 ∧ t.f (R.SKT_CTL i) F.SKT_CTL_BUTTON_EN = s.f (R.SKT_CTL i)
    F.SKT_CTL_BUTTON_EN ∧ s.SameRegs t [R.SKT_STAT i, R.SKT_CTL i]) ∧
  -- SKT_LEAVE of an admitted package on a sponsor that is not master: LEAVING, blinking, and the master is asked for the leave Peal
  (∀ (s : State) (who : Sender) (i : Fin 4) (p : Nat), s.Admitted who.who (R.SKT_CTL i) true → s.isSponsor = true → s.isMaster = false → s.sktState i
    = 4 → s.socketPkg i = some p → s.links.leave = none → Completes (.sktLeave who i) s fun t => .pealReq s.master s.earliest
    { kind := 1, body := [], arg := 1 + 32 * (p + 1) } ∈ t.sent ∧ t.sktState i = SK_LEAVING ∧ .pin "ATTN_LED_1HZ" i true ∈ t.sent) ∧
  -- SKT_POWER_OFF of a faulted socket makes it OFF without PWR_EN
  (∀ (s : State) (who : Sender) (i : Fin 4), s.Admitted who.who (R.SKT_CTL i) true → s.isSponsor = true → s.sktState i = 7 → s.f (R.SKT_STAT i)
    F.SKT_STAT_PRSNT = 1 → Completes (.sktPowerOff who i) s fun t => t.sktState i = 1 ∧ t.f (R.SKT_STAT i) F.SKT_STAT_PWR_EN = 0 ∧ s.SameRegs t
    [R.SKT_STAT i, R.SKT_CTL i]) ∧
  -- LEAVE_DRAINED at the master, the last of the reports: on to the last leave Peal
  (∀ (s : State) (src : Pkg) (p n : Nat), s.links.leave = some (p, 1, n) → s.isMaster = true → src.val ≠ s.pkg → (∀ q ∈ s.admitted, q = src.val ∨ q ∈
    s.links.leaveDone) → s.beat.isolated = false → s.locked = false → Completes (.leaveDrained src) s fun t => t.links.leave = some (p, 2, n)) ∧
  -- LEAVE_DRAINED at the master before the last report is kept
  (∀ (s : State) (src : Pkg) (p n q : Nat), s.links.leave = some (p, 1, n) → s.isMaster = true → src.val ≠ s.pkg → q ∈ s.admitted → q ≠ src.val → q ∉
    s.links.leaveDone → s.beat.isolated = false → s.locked = false → Completes (.leaveDrained src) s fun t => src.val ∈ t.links.leaveDone ∧
    t.links.leave = s.links.leave ∧ t.regs = s.regs ∧ t.sent = s.sent) ∧
  -- SOCKET_PWR_EN_DROP at its beat drops PWR_EN
  (∀ (s : State) (i : Fin 4) (b : Nat), (i.val, b) ∈ s.links.pwrEnDrop → b ≤ s.now → s.f (R.SKT_STAT i) F.SKT_STAT_PWR_EN = 1 → s.isSponsor = true →
    Completes (.socketPwrEnDrop i) s fun t => t.f (R.SKT_STAT i) F.SKT_STAT_PWR_EN = 0 ∧ t.sent = s.sent ++ [.pin "PWR_EN" i false] ∧ (∀ e ∈
    t.links.pwrEnDrop, e.1 ≠ i.val) ∧ s.SameRegs t [R.SKT_STAT i])

/-- Region transfers, image updates, partition start copies, attestation and officer commands (R303, R312, R321, R323, R395, R424). -/
def Obligations.IslandsAndImages : Prop :=
  -- REGION_TRANSFER_DONE of the only transfer ends it without a change of homes or DRAM
  (∀ (s : State) (x : Xfer) (agree : Bool), s.sec.xfers = [x] → x.newKey = none → s.xferLeft x = false → s.sec.heldReq = [] → Completes
    (.regionTransferDone agree) s fun t => t.f R.MB_INFO F.MB_INFO_XFER_BUSY = 0 ∧ (∀ l, t.inXfer l = false) ∧ t.dram = s.dram ∧ t.home = s.home ∧
    s.SameRegs t [R.MB_INFO]) ∧
  -- IMAGE_UPDATE_DONE that failed records IMAGE_UPDATE_FAIL
  (∀ (s : State) (img : List Byte), s.sec.imgUpd = some img → Completes (.imageUpdateDone false) s fun t => t.f R.MB_INFO F.MB_INFO_IMG_UPD = 3 ∧
    t.sec.imgUpd = none ∧ t.Logged E.IMAGE_UPDATE_FAIL 8 0) ∧
  -- IMAGE_UPDATE_DONE of HUB-B's flash goes on to HUB-A's
  (∀ (s : State) (img : List Byte), s.sec.imgUpd = some img → .flash 1 img ∈ s.sent → Completes (.imageUpdateDone true) s fun t => t.sent =
    s.sent.erase (.flash 1 img) ++ [.flash 0 img] ∧ t.sec.imgUpd = some img ∧ t.regs = s.regs) ∧
  -- IMAGE_UPDATE_DONE of HUB-A's flash ends the update
  (∀ (s : State) (img : List Byte), s.sec.imgUpd = some img → .flash 1 img ∉ s.sent → Completes (.imageUpdateDone true) s fun t => t.f R.MB_INFO
    F.MB_INFO_IMG_UPD = 2 ∧ t.sec.imgUpd = none ∧ s.SameRegs t [R.MB_INFO]) ∧
  -- PART_START_COPY_DONE of a copy one of whose accesses failed: it is not ok, and nothing else changes
  (∀ (s : State) (p : Sys2Proof.Part) (c : StartCopy), (s.sec.copies.find? fun c => c.part = p.val && !c.done && c.pkg = s.pkg) = some c → c.bad =
    true → Completes (.partStartCopyDone p) s fun t => (∀ e ∈ t.sec.copies, e.part = p.val → e.bad = true → e.done = true ∧ e.ok = false) ∧
    t.sec.copies.map (·.buf) = s.sec.copies.map (·.buf) ∧ t.dram = s.dram ∧ t.regs = s.regs ∧ t.sent = s.sent) ∧
  -- PART_START_COPY_DONE compares the digest of what was read
  (∀ (s : State) (p : Sys2Proof.Part) (c : StartCopy), (s.sec.copies.find? fun c => c.part = p.val && !c.done && c.pkg = s.pkg) = some c → c.bad =
    false → c.need = 0 → c.wait = 0 → (∀ e ∈ s.sec.copies, e.part = p.val → e = c) → Completes (.partStartCopyDone p) s fun t => t.sec.copies =
    s.sec.copies.map (fun e => if e.part = p.val then { c with done := true, ok := decide (Config.sha384 c.buf = c.digest) } else e) ∧ t.regs = s.regs
    ∧ t.dram = s.dram ∧ t.sent = s.sent) ∧
  -- PART_START_COPY_DONE before the last read or write of the copy is answered changes nothing
  (∀ (s : State) (p : Sys2Proof.Part) (c : StartCopy), (s.sec.copies.find? fun c => c.part = p.val && !c.done && c.pkg = s.pkg) = some c → c.bad =
    false → ¬ (c.need = 0 ∧ c.wait = 0) → Completes (.partStartCopyDone p) s fun t => t = s) ∧
  -- ATT_GO starts a report
  (∀ (s : State) (who : Sender) (sl : Slot), s.Admitted who.who (R.ATT_CTL sl) true → s.f (R.ATT_STAT sl) F.ATT_STAT_BUSY = 0 → Completes (.attGo who
    sl) s fun t => t.f (R.ATT_STAT sl) F.ATT_STAT_BUSY = 1 ∧ sl.val ∈ t.sec.attesting ∧ s.SameRegs t [R.ATT_STAT sl]) ∧
  -- ATT_REPORT_DONE stores the 32 words of the report
  (∀ (s : State) (sl : Slot), sl.val ∈ s.sec.attesting → Completes (.attReportDone sl true) s fun t => t.f (R.ATT_STAT sl) F.ATT_STAT_DONE = 1 ∧ t.f
    (R.ATT_STAT sl) F.ATT_STAT_BUSY = 0 ∧ ∀ k < 32, t.reg (R.ATT_REPORT sl k) = BitVec.ofNat 64 (field (s.report sl) (8 * k) 8)) ∧
  -- ATT_REPORT_DONE on which the Islands disagree is refused and recorded
  (∀ (s : State) (sl : Slot), sl.val ∈ s.sec.attesting → s.sec.disagreeRow < 2 → Completes (.attReportDone sl false) s fun t => t.f (R.ATT_STAT sl)
    F.ATT_STAT_DONE = s.f (R.ATT_STAT sl) F.ATT_STAT_DONE ∧ t.f (R.ATT_STAT sl) F.ATT_STAT_BUSY = 0 ∧ t.f (R.ATT_STAT sl) F.ATT_STAT_REFUSED = 1 ∧
    t.Logged E.ISLAND_DISAGREE 8 0 ∧ t.sec.disagreeRow = s.sec.disagreeRow + 1) ∧
  -- OFFICER_CMD_REST is refused with its code, or is applied: REST_STAT.CMD 1 and a new nonce (a free value, log entry 2)
  (∀ (s : State) (sl : Slot) (b : List Byte), s.sec.commands.find? (fun e => e.1 = sl.val) = some (sl.val, b) → (commandOf b).kind = CMD_REST →
    Completes (.officerCmdRest sl) s fun t => (s.vetCommand b ≠ 0 → t.slotState sl = 4 ∧ t.f (R.SLOT_STAT sl) F.SLOT_STAT_CODE = s.vetCommand b) ∧
    (s.vetCommand b = 0 → t.f R.REST_STAT F.REST_STAT_CMD = 1 ∧ t.slotState sl = 6 ∧ t.reg (R.MB_CMD_NONCE 0) = Config.freeValue s.freeCtr)) ∧
  -- OFFICER_CMD_ASSAY is refused with its code, or is applied
  (∀ (s : State) (sl : Slot) (b : List Byte), s.sec.commands.find? (fun e => e.1 = sl.val) = some (sl.val, b) → (commandOf b).kind = CMD_ASSAY →
    Completes (.officerCmdAssay sl) s fun t => (s.vetCommand b ≠ 0 → t.slotState sl = 4 ∧ t.f (R.SLOT_STAT sl) F.SLOT_STAT_CODE = s.vetCommand b) ∧
    (s.vetCommand b = 0 → t.slotState sl = 6))

/-- Mailbox slots (R325, R326). -/
def Obligations.MailboxSlots : Prop :=
  -- SLOT_SUBMIT_TICKET by one who may begins vetting
  (∀ (s : State) (who : Sender) (sl : Slot) (len : Fin 4096), s.Admitted who.who (R.SLOT_CTL sl) true → s.slotHeld sl = false → s.maySubmit sl = true
    → Completes (.slotSubmitTicket who sl len) s fun t => t.slotState sl = 1 ∧ t.f (R.SLOT_CTL sl) F.SLOT_CTL_LEN = len ∧ t.sec.vetting =
    s.sec.vetting ++ [(sl.val, s.slotBytes sl len)] ∧ t.f (R.SLOT_STAT sl) F.SLOT_STAT_CHANGED = 1) ∧
  -- SLOT_SUBMIT_TICKET by one who may not is DENIED
  (∀ (s : State) (who : Sender) (sl : Slot) (len : Fin 4096), s.Admitted who.who (R.SLOT_CTL sl) true → s.slotHeld sl = false → s.maySubmit sl = false
    → Completes (.slotSubmitTicket who sl len) s fun t => t.slotState sl = 4 ∧ t.f (R.SLOT_STAT sl) F.SLOT_STAT_CODE = CODE_DENIED ∧ t.sec = s.sec) ∧
  -- SLOT_SUBMIT_TICKET in a held slot changes nothing
  (∀ (s : State) (who : Sender) (sl : Slot) (len : Fin 4096), s.Admitted who.who (R.SLOT_CTL sl) true → s.slotHeld sl = true → Completes
    (.slotSubmitTicket who sl len) s fun t => t.regs = s.regs ∧ t.sec = s.sec) ∧
  -- SLOT_SUBMIT_COMMAND by one who may queues the command
  (∀ (s : State) (who : Sender) (sl : Slot) (len : Fin 4096), s.Admitted who.who (R.SLOT_CTL sl) true → s.slotHeld sl = false → s.maySubmit sl = true
    → Completes (.slotSubmitCommand who sl len) s fun t => t.slotState sl = 1 ∧ t.f (R.SLOT_CTL sl) F.SLOT_CTL_LEN = len ∧ t.sec.commands =
    s.sec.commands ++ [(sl.val, s.slotBytes sl len)] ∧ s.SameRegs t [R.SLOT_CTL sl, R.SLOT_STAT sl]) ∧
  -- SLOT_SUBMIT_COMMAND by one who may not is DENIED
  (∀ (s : State) (who : Sender) (sl : Slot) (len : Fin 4096), s.Admitted who.who (R.SLOT_CTL sl) true → s.slotHeld sl = false → s.maySubmit sl = false
    → Completes (.slotSubmitCommand who sl len) s fun t => t.slotState sl = 4 ∧ t.f (R.SLOT_STAT sl) F.SLOT_STAT_CODE = CODE_DENIED ∧ t.sec = s.sec) ∧
  -- SLOT_SUBMIT_COMMAND in a held slot changes nothing
  (∀ (s : State) (who : Sender) (sl : Slot) (len : Fin 4096), s.Admitted who.who (R.SLOT_CTL sl) true → s.slotHeld sl = true → Completes
    (.slotSubmitCommand who sl len) s fun t => t.regs = s.regs ∧ t.sec = s.sec) ∧
  -- SLOT_CLEAR empties the slot and its buffer
  (∀ (s : State) (who : Sender) (sl : Slot) (len : Fin 4096), s.Admitted who.who (R.SLOT_CTL sl) true → s.slotHeld sl = false → s.slotState sl ≠ 0 →
    Completes (.slotClear who sl len) s fun t => t.slotState sl = 0 ∧ t.f (R.SLOT_STAT sl) F.SLOT_STAT_CHANGED = 1 ∧ ∀ k < 256, t.reg (R.MB_BUF sl k)
    = 0) ∧
  -- SLOT_CLEAR in a held slot changes nothing
  (∀ (s : State) (who : Sender) (sl : Slot) (len : Fin 4096), s.Admitted who.who (R.SLOT_CTL sl) true → s.slotHeld sl = true → Completes (.slotClear
    who sl len) s fun t => t.regs = s.regs ∧ t.sec = s.sec)

/-- Vetting of tickets (R318, R319). -/
def Obligations.Tickets : Prop :=
  -- TICKET_VETTED refuses with the vetting code, or BUSY outside a system, or forwards to the master
  (∀ (s : State) (sl : Slot) (b : List Byte), s.sec.vetting.find? (fun e => e.1 = sl.val) = some (sl.val, b) → Completes (.ticketVetted sl true) s fun
    t => (s.vet b ≠ 0 → t.slotState sl = 4 ∧ t.f (R.SLOT_STAT sl) F.SLOT_STAT_CODE = s.vet b) ∧ (s.vet b = 0 → s.pkg ∉ s.admitted → t.slotState sl = 4
    ∧ t.f (R.SLOT_STAT sl) F.SLOT_STAT_CODE = CODE_BUSY) ∧ (s.vet b = 0 → s.pkg ∈ s.admitted → t.sent = s.sent ++ [.ticket s.master sl b 0] ∧ t.regs =
    s.regs ∧ (sl.val, b) ∈ t.sec.forwarded)) ∧
  -- TICKET_VETTED on which the Islands disagree is refused DISAGREE and counted
  (∀ (s : State) (sl : Slot) (b : List Byte), s.sec.vetting.find? (fun e => e.1 = sl.val) = some (sl.val, b) → s.sec.disagreeRow < 2 → Completes
    (.ticketVetted sl false) s fun t => t.slotState sl = 4 ∧ t.f (R.SLOT_STAT sl) F.SLOT_STAT_CODE = CODE_DISAGREE ∧ t.f R.MB_INFO F.MB_INFO_DISAGREE
    = min (s.f R.MB_INFO F.MB_INFO_DISAGREE + 1) F.MB_INFO_DISAGREE.max) ∧
  -- TICKET_AT_MASTER at an idle master is sent to every admitted package for vetting
  (∀ (s : State) (src : Pkg) (sl : Slot) (b : List Byte), s.isMaster = true → s.pkg ∈ s.admitted → src.val ∈ s.admitted → src.val ≠ s.pkg →
    s.beat.isolated = false → s.sec.ticket = none → s.f R.REST_STAT F.REST_STAT_RESTING = 0 → s.f R.REST_STAT F.REST_STAT_STATE ≠ 3 → s.locked = false
    → Completes (.ticketAtMaster src sl b) s fun t => t.f R.MB_INFO F.MB_INFO_TICKET_BUSY = 1 ∧ t.sent = s.sent ++ s.admitted.map (fun q => .ticket q
    TK_VET b 0) ∧ t.sec.ticket = some { origin := src, slot := sl, bytes := b, waitPkgs := s.admitted, refusals := [], seq := 0 }) ∧
  -- TICKET_AT_MASTER at a busy master is answered BUSY
  (∀ (s : State) (src : Pkg) (sl : Slot) (b : List Byte), s.isMaster = true → s.pkg ∈ s.admitted → src.val ∈ s.admitted → src.val ≠ s.pkg →
    s.beat.isolated = false → s.sec.ticket.isSome = true → s.locked = false → Completes (.ticketAtMaster src sl b) s fun t => t.sent = s.sent ++
    [.ticket src sl [] CODE_BUSY] ∧ t.sec = s.sec ∧ t.regs = s.regs) ∧
  -- TICKET_REMOTE_VET answers the vetting code to the master
  (∀ (s : State) (src : Pkg) (b : List Byte), s.pkg ∈ s.admitted → src.val = s.master → s.isMaster = false → s.beat.isolated = false → s.f R.REST_STAT
    F.REST_STAT_STATE ≠ 3 → s.locked = false → Completes (.ticketRemoteVet src b true) s fun t => t.f R.MB_INFO F.MB_INFO_TICKET_BUSY = 1 ∧ t.sent =
    s.sent ++ [.ticket src TK_ANSWER [] (s.vet b)]) ∧
  -- TICKET_REMOTE_VET on which the Islands disagree answers DISAGREE
  (∀ (s : State) (src : Pkg) (b : List Byte), s.pkg ∈ s.admitted → src.val = s.master → s.isMaster = false → s.beat.isolated = false → s.f R.REST_STAT
    F.REST_STAT_STATE ≠ 3 → s.sec.disagreeRow < 2 → s.locked = false → Completes (.ticketRemoteVet src b false) s fun t => .ticket src TK_ANSWER []
    CODE_DISAGREE ∈ t.sent ∧ t.sec.disagreeRow = s.sec.disagreeRow + 1) ∧
  -- TICKET_VET_RESULT, the last one and a refusal, ends the ticket and answers its origin
  (∀ (s : State) (src : Pkg) (sl : Option Slot) (code : Nat) (p : TicketProg), s.isMaster = true → s.sec.ticket = some p → p.waitPkgs = [src.val] →
    p.refusals = [] → p.seq = 0 → p.origin ≠ s.pkg → code ≠ 0 → s.beat.isolated = false → s.locked = false → Completes (.ticketVetResult src sl code)
    s fun t => t.sec.ticket = none ∧ t.f R.MB_INFO F.MB_INFO_TICKET_BUSY = 0 ∧ .ticket p.origin p.slot [] code ∈ t.sent) ∧
  -- TICKET_VET_RESULT from the master refuses the forwarded slot
  (∀ (s : State) (src : Pkg) (sl : Slot) (code : Nat), s.isMaster = false → src.val = s.master → (s.sec.forwarded.any fun e => e.1 = sl.val) = true →
    code < 32 → s.beat.isolated = false → s.locked = false → Completes (.ticketVetResult src (some sl) code) s fun t => t.slotState sl = 4 ∧ t.f
    (R.SLOT_STAT sl) F.SLOT_STAT_CODE = code ∧ (t.sec.forwarded.any fun e => e.1 = sl.val) = false) ∧
  -- TICKET_VET_TIMEOUT ends the ticket as TIMEOUT and tells every other package
  (∀ (s : State) (p : TicketProg), s.sec.ticket = some p → p.waitPkgs ≠ [] → p.seq = 0 → p.origin ≠ s.pkg → Completes .ticketVetTimeout s fun t =>
    t.sec.ticket = none ∧ t.f R.MB_INFO F.MB_INFO_TICKET_BUSY = 0 ∧ .ticket p.origin p.slot [] CODE_TIMEOUT ∈ t.sent ∧ (∀ q ∈ s.admitted, q ≠ s.pkg →
    q ≠ p.origin → .ticket q TK_OVER [] 0 ∈ t.sent) ∧ s.SameRegs t [R.MB_INFO])

/-- The management bus (R330, R401). -/
def Obligations.ManagementBus : Prop :=
  -- MGMT_SET_OFFSET to a multiple of 8 below 2,048 is taken
  (∀ (s : State) (a : Fin 128) (v : BitVec 16), s.busOpen a = true → s.boot.cfg.pec = false → v.toNat % 8 = 0 → v.toNat < 2048 → s.slotHeld 0 = false
    → Completes (.mgmtSetOffset a v none) s fun t => t.sec.mgmtOff = v.toNat ∧ t.sent = s.sent ++ [.smbus true []] ∧ t.regs = s.regs) ∧
  -- MGMT_SET_OFFSET to another value is refused
  (∀ (s : State) (a : Fin 128) (v : BitVec 16) (p : Option Bool), s.busOpen a = true → ¬ (v.toNat % 8 = 0 ∧ v.toNat < 2048) → Completes
    (.mgmtSetOffset a v p) s fun t => t = s.send (.smbus false [])) ∧
  -- MGMT_BUFFER_WRITE of 8 bytes stores them and moves the offset on
  (∀ (s : State) (a : Fin 128) (l : List Byte), s.busOpen a = true → s.boot.cfg.pec = false → l.length = 8 → s.sec.mgmtOff + 8 ≤ 2048 → s.slotHeld 0 =
    false → Completes (.mgmtBufferWrite a l none) s fun t => t.reg (R.MB_BUF 0 (s.sec.mgmtOff / 8)) = BitVec.ofNat 64 (field l 0 8) ∧ t.sec.mgmtOff =
    s.sec.mgmtOff + 8 ∧ t.sent = s.sent ++ [.smbus true []] ∧ s.SameRegs t [R.MB_BUF 0 (s.sec.mgmtOff / 8)]) ∧
  -- MGMT_BUFFER_WRITE of another length, or past the buffer, is refused
  (∀ (s : State) (a : Fin 128) (l : List Byte) (p : Option Bool), s.busOpen a = true → l.length < 8 ∨ 32 < l.length ∨ l.length % 8 ≠ 0 ∨ 2048 <
    s.sec.mgmtOff + l.length → Completes (.mgmtBufferWrite a l p) s fun t => t = s.send (.smbus false [])) ∧
  -- MGMT_SLOT_CMD 2 submits slot 0 as a command, its length the offset
  (∀ (s : State) (a : Fin 128), s.busOpen a = true → s.boot.cfg.pec = false → s.slotHeld 0 = false → s.sec.mgmtOff < 4096 → Completes (.mgmtSlotCmd a
    2 none) s fun t => t.slotState 0 = 1 ∧ t.f (R.SLOT_CTL 0) F.SLOT_CTL_LEN = s.sec.mgmtOff ∧ t.sec.commands = s.sec.commands ++ [(0, s.slotBytes 0
    s.sec.mgmtOff)]) ∧
  -- MGMT_READ_SLOT_STAT answers SLOT_STAT of slot 0
  (∀ (s : State) (a : Fin 128), s.busOpen a = true → s.boot.cfg.pec = false → Completes (.mgmtReadSlotStat a) s fun t => t = s.send (.smbus true (8 ::
    leBytes 8 (s.reg (R.SLOT_STAT 0)).toNat))) ∧
  -- MGMT_READ_LAST_TICKET answers the last ticket, the hallmark's start and the nonce
  (∀ (s : State) (a : Fin 128), s.busOpen a = true → s.boot.cfg.pec = false → Completes (.mgmtReadLastTicket a) s fun t => t = s.send (.smbus true (28
    :: (leBytes 8 (s.reg R.MB_LAST_TICKET).toNat ++ (digestBytes (s.beat.hallmark.getD 0 0)).take 4 ++ leBytes 8 (s.reg (R.MB_CMD_NONCE 0)).toNat ++
    leBytes 8 (s.reg (R.MB_CMD_NONCE 1)).toNat)))) ∧
  -- MGMT_READ_REST_STAT answers REST_STAT
  (∀ (s : State) (a : Fin 128), s.busHit a = true → s.boot.cfg.pec = false → Completes (.mgmtReadRestStat a) s fun t => t = s.send (.smbus true (8 ::
    leBytes 8 (s.reg R.REST_STAT).toNat)))

/-- Doorbells, descriptor fetches and completions of a crypto ring (R332, R334, R336). That a ring has one request outstanding at a time is log entry
  29. -/
def Obligations.CryptoRings : Prop :=
  -- RING_TAIL_WRITE within 256 of HEAD sets TAIL
  (∀ (s : State) (who : Sender) (r : Ring) (v : BitVec 16), s.Admitted who.who (R.RING_TAIL r) true → (v.toNat + 65536 - s.f (R.RING_HEAD r)
    F.RING_HEAD_HEAD) % 65536 ≤ 256 → s.fromHead r (s.ringH r).fetchAt ≤ s.fromHead r v.toNat → Completes (.ringTailWrite who r v) s fun t => t.f
    (R.RING_TAIL r) F.RING_TAIL_TAIL = v.toNat ∧ s.SameRegs t [R.RING_TAIL r] ∧ t.crypto = s.crypto) ∧
  -- RING_TAIL_WRITE behind what the front has fetched abandons the slots from TAIL on
  (∀ (s : State) (who : Sender) (r : Ring) (v : BitVec 16), s.Admitted who.who (R.RING_TAIL r) true → s.fromHead r v.toNat ≤ 256 → s.fromHead r
    v.toNat < s.fromHead r (s.ringH r).fetchAt → Completes (.ringTailWrite who r v) s fun t => t.f (R.RING_TAIL r) F.RING_TAIL_TAIL = v.toNat ∧
    s.SameRegs t [R.RING_TAIL r] ∧ (t.ringH r).fetchAt = v.toNat ∧ ∀ d, d ∈ (t.ringH r).fetched → d ∈ (s.ringH r).fetched ∧ s.fromHead r d.seq <
    s.fromHead r v.toNat) ∧
  -- RING_TAIL_WRITE beyond that also halts the ring with cause 2 and records CRYPTO_RING_OVERRUN
  (∀ (s : State) (who : Sender) (r : Ring) (v : BitVec 16), s.Admitted who.who (R.RING_TAIL r) true → 256 < (v.toNat + 65536 - s.f (R.RING_HEAD r)
    F.RING_HEAD_HEAD) % 65536 → Completes (.ringTailWrite who r v) s fun t => t.f (R.RING_TAIL r) F.RING_TAIL_TAIL = v.toNat ∧ t.halted r = true ∧ t.f
    (R.RING_STAT r) F.RING_STAT_HALT_CAUSE = 2 ∧ t.Logged E.CRYPTO_RING_OVERRUN 11 r ∧ (t.ringH r).fetched = []) ∧
  -- RING_FETCH asks for the next descriptors, at most as many as TAIL allows, one after another, as the ring's owner
  (∀ (s : State) (r : Ring) (n : Fin 257) (k : Nat), s.ringOn r = true → s.agentQ r = [] → k = min n.val (s.fromHead r (s.f (R.RING_TAIL r)
    F.RING_TAIL_TAIL) - s.fromHead r (s.ringH r).fetchAt) → 0 < k → s.Backed (s.slotPa r ((s.ringH r).fetchAt % 65536)) → Completes (.ringFetch r n) s
    fun t => (t.ringH r).fetchAt = ((s.ringH r).fetchAt + k) % 65536 ∧ (t.ringH r).fetched = (s.ringH r).fetched ∧ t.regs = s.regs ∧ t.Asks r
    ((List.range k).map fun i => s.agentMsg r false (s.slotPa r (((s.ringH r).fetchAt + i) % 65536)) 64 (s.ringOwner r) A_FETCH (((s.ringH r).fetchAt
    + i) % 65536) 0)) ∧
  -- DATA_UC that answers a fetch puts the descriptor in line
  (∀ (s : State) (r : Ring) (m q : CMsg), s.Answers r { m with op := .dataUc } q → q.fwd.pkg = A_FETCH → s.directOf m = none → s.agentQ r = [q] →
    s.NoneWait → Completes (.dataUc m) s fun t => (t.ringH r).fetched = (s.ringH r).fetched ++
    [{ (default : DescH) with seq := q.fwdTxn, bytes := m.data }] ∧ t.agentQ r = [] ∧ t.regs = s.regs) ∧
  -- BUS_ERR that answers a fetch halts the ring with cause 1 and records CRYPTO_RING_FETCH
  (∀ (s : State) (r : Ring) (m q : CMsg), s.Answers r { m with op := .busErr } q → q.fwd.pkg = A_FETCH → s.missOf m = none → s.directOf m = none →
    s.agentQ r = [q] → s.NoneWait → Completes (.busErr m) s fun t => t.halted r = true ∧ t.f (R.RING_STAT r) F.RING_STAT_HALT_CAUSE = 1 ∧ (t.ringH
    r).fetched = [] ∧ t.Logged E.CRYPTO_RING_FETCH 11 r) ∧
  -- COMP of the last write of an output ends its descriptor: the completion word is written
  (∀ (s : State) (r : Ring) (m q : CMsg) (d : DescH), s.Answers r { m with op := .comp } q → q.fwd.pkg = A_DST → s.missOf m = none → s.directOf m =
    none → s.agentQ r = [q] → s.NoneWait → (s.ringH r).exec = [d] → d.seq = q.fwdTxn → d.wait = 1 → d.bad = false → d.done = false → d.told = false →
    s.Backed (s.complPa r d.seq) → Completes (.comp m) s fun t => (t.ringH r).exec = [{ d with wait := 0, done := true, told := true }] ∧ t.Asks r
    [s.tells r d d.code d.outLen]) ∧
  -- COMP of the completion word: DONE and COMPLETED rise, and COMPLETION where the descriptor asks for it, with the ring's vector
  (∀ (s : State) (r : Ring) (m q : CMsg) (d : DescH), s.Answers r { m with op := .comp } q → q.fwd.pkg = A_DONE → s.missOf m = none → s.directOf m =
    none → s.agentQ r = [q] → s.NoneWait → (s.ringH r).exec = [d] → Completes (.comp m) s fun t => (t.ringH r).exec = [] ∧ t.f (R.RING_HEAD r)
    F.RING_HEAD_DONE = (s.f (R.RING_HEAD r) F.RING_HEAD_DONE + 1) % 65536 ∧ t.f (R.RING_STAT r) F.RING_STAT_IDLE = 1 ∧ t.f (R.RING_CNT r)
    F.RING_CNT_COMPLETED = min (s.f (R.RING_CNT r) F.RING_CNT_COMPLETED + 1) F.RING_CNT_COMPLETED.max ∧ t.f (R.RING_STAT r) F.RING_STAT_COMPLETION =
    (if (dFlags d.bytes).testBit 0 then 1 else s.f (R.RING_STAT r) F.RING_STAT_COMPLETION) ∧ ((dFlags d.bytes).testBit 0 = true → s.f (R.RING_CTL r)
    F.RING_CTL_INT_EN = 1 → 32 ≤ s.f (R.RING_CTL r) F.RING_CTL_VECTOR → s.ringOwner r ≠ 0 → .source (s.ringOwner r) (s.f (R.RING_CTL r)
    F.RING_CTL_VECTOR) none ∈ t.sent) ∧ s.SameRegs t [R.RING_HEAD r, R.RING_CNT r, R.RING_STAT r])

/-- CIPHER, HASH, MAC_GEN and MAC_VERIFY (R337). The algorithms are opaque (log entry 3) and the order of the checks is log entry 24. -/
def Obligations.CiphersAndDigests : Prop :=
  -- CIPHER in ECB or CBC with a proper key writes the enciphered or deciphered source
  (∀ (s : State) (r : Ring) (d : DescH), s.Executes r 0x01 d → dParam d.bytes % 4 < 2 → dParam d.bytes < 8 → d.keyA.empty = false → d.keyA.usage =
    ascii2 'D' '0' → d.keyA.alg = algA ∨ d.keyA.alg = algT → d.keyA.mode = 'B'.toNat ∨ d.keyA.mode = (if (dParam d.bytes).testBit 2 then 'E'.toNat
    else 'D'.toNat) → dSrcLen d.bytes % blockOf d.keyA = 0 → s.Takes r d d.src.length → Completes (.cipher r true) s fun t => s.Stages t r d (if (dParam
    d.bytes).testBit 2 then encipher d.keyA (dParam d.bytes % 4) (dAux d.bytes 0 16) d.src else decipher d.keyA (dParam d.bytes % 4) (dAux d.bytes 0
    16) d.src)) ∧
  -- CIPHER with a key or parameter at fault ends with that code
  (∀ (s : State) (r : Ring) (d : DescH), s.Executes r 0x01 d → cipherPre d ≠ 0 → Completes (.cipher r true) s fun t => s.Ended t r d (cipherPre d) 0)
    ∧
  -- CIPHER whose destination is too short ends with LENGTH
  (∀ (s : State) (r : Ring) (d : DescH), s.Executes r 0x01 d → cipherPre d = 0 → dParam d.bytes % 4 < 2 → dDstLen d.bytes < d.src.length → Completes
    (.cipher r true) s fun t => s.Ended t r d CR_LENGTH 0) ∧
  -- CIPHER whose destination decodes to no target ends with ACCESS
  (∀ (s : State) (r : Ring) (d : DescH) (e : ECode), s.Executes r 0x01 d → cipherPre d = 0 → dParam d.bytes % 4 < 2 → 0 < d.src.length → d.src.length
    ≤ dDstLen d.bytes → dDstPa d.bytes < 2 ^ 52 → dDstPa d.bytes % 64 + d.src.length ≤ 64 → s.undecoded (dDstPa d.bytes) = some e → Completes (.cipher
    r true) s fun t => (t.ringH r).exec = [{ d with bad := true, done := true, told := true, code := CR_ACCESS, outLen := 0 }] ∧ t.Asks r [s.tells r d
    CR_ACCESS 0] ∧ t.Logged e 11 r) ∧
  -- CIPHER whose source could not be read ends with ACCESS
  (∀ (s : State) (r : Ring) (d : DescH), (s.ringH r).exec = [d] → d.done = false → d.told = false → d.need = 0 → d.wait = 0 → d.bad = true → dOp
    d.bytes = 0x01 → lensOk d.bytes = true → s.agentQ r = [] → s.Backed (s.complPa r d.seq) → cipherPre d = 0 → Completes (.cipher r true) s fun t =>
    s.Ended t r d CR_ACCESS 0) ∧
  -- HASH writes the digest of its source
  (∀ (s : State) (r : Ring) (d : DescH), s.Executes r 0x02 d → dParam d.bytes < 7 → s.Takes r d (hashLen (dParam d.bytes)) → Completes (.hash r true) s
    fun t => s.Stages t r d (sized (hashLen (dParam d.bytes)) (Config.hash (dParam d.bytes) d.src))) ∧
  -- HASH of an unknown algorithm ends with FORMAT
  (∀ (s : State) (r : Ring) (d : DescH), s.Executes r 0x02 d → 7 ≤ dParam d.bytes → Completes (.hash r true) s fun t => s.Ended t r d CR_FORMAT 0) ∧
  -- HASH on which the engines disagree ends with that code and is counted
  (∀ (s : State) (r : Ring) (d : DescH), s.Executes r 0x02 d → s.sec.disagreeRow < 2 → Completes (.hash r false) s fun t => s.Ended t r d CR_DISAGREE
    0 ∧ t.f R.MB_INFO F.MB_INFO_DISAGREE = min (s.f R.MB_INFO F.MB_INFO_DISAGREE + 1) F.MB_INFO_DISAGREE.max) ∧
  -- MAC_GEN writes the code of its source
  (∀ (s : State) (r : Ring) (d : DescH), s.Executes r 0x03 d → macPre false d = 0 → s.Takes r d (macLen d) → Completes (.macGen r true) s fun t =>
    s.Stages t r d (macOf d 2 d.src)) ∧
  -- MAC_VERIFY ends with 0 where the code at the source's end is right, else VERIFY_FAIL
  (∀ (s : State) (r : Ring) (d : DescH), s.Executes r 0x04 d → macPre true d = 0 → Completes (.macVerify r true) s fun t => s.Ended t r d (if macOf d
    1 (d.src.take (d.src.length - macLen d)) = d.src.drop (d.src.length - macLen d) then 0 else CR_VERIFY_FAIL) 0)

/-- PIN_TRANSLATE, RANDOM, SIGN, VERIFY and ASYM_CRYPT (R337, R339). Algorithms and random inputs are opaque (log entries 2 and 3); PIN block
  layouts are log entry 25. -/
def Obligations.PinsAndSignatures : Prop :=
  -- PIN_TRANSLATE writes the PIN in the new block, or ends with PIN_FORMAT
  (∀ (s : State) (r : Ring) (d : DescH), s.Executes r 0x05 d → pinPre d = 0 → pinDukpt d = false → Completes (.pinTranslate r true) s fun t => (pinOf
    (pinIn d) (pinField (pinIn d) d.keyA (panDigits d) d.src) = none → s.Ended t r d CR_PIN_FORMAT 0) ∧ ∀ pin out, pinOf (pinIn d) (pinField (pinIn d)
    d.keyA (panDigits d) d.src) = some pin → out = pinBlock (pinOut d) d.keyB (panDigits d) pin (nibbles (State.randomBytes 16 s).1) → s.Takes r d
    out.length → s.Stages t r d out) ∧
  -- RANDOM writes as many free values as DST_LEN says (log entry 2)
  (∀ (s : State) (r : Ring) (d : DescH), s.Executes r 0x06 d → dParam d.bytes = 0 → dDstLen d.bytes ≤ 4096 → s.Takes r d (dDstLen d.bytes) → Completes
    (.random r true) s fun t => t.freeCtr = s.freeCtr + dDstLen d.bytes ∧ s.Stages t r d ((List.range (dDstLen d.bytes)).map fun i =>
    (Config.freeValue (s.freeCtr + i)).setWidth 8)) ∧
  -- SIGN with an RSA key writes a signature; PKCS schemes with another key are KEY_USAGE
  (∀ (s : State) (r : Ring) (d : DescH), s.Executes r 0x07 d → dParam d.bytes < 2 → d.keyA.empty = false → d.keyA.usage = ascii2 'S' '0' → d.keyA.alg
    = algR → d.keyA.mode = 'S'.toNat → Completes (.sign r true) s fun t => (3 ≤ kindOf d.keyA → s.Ended t r d CR_KEY_USAGE 0) ∧ (kindOf d.keyA < 3 →
    s.Takes r d (sigLen (kindOf d.keyA)) → s.Stages t r d (sized (sigLen (kindOf d.keyA)) (Config.sign (dParam d.bytes) 0 false d.keyA.key d.src
    (Config.freeValue s.freeCtr))))) ∧
  -- VERIFY with an RSA key ends with 0 where the signature read at DST_PA is right, else VERIFY_FAIL
  (∀ (s : State) (r : Ring) (d : DescH), s.Executes r 0x08 d → dParam d.bytes < 2 → d.keyA.empty = false → d.keyA.usage = ascii2 'S' '0' → d.keyA.alg
    = algR → d.keyA.mode = 'S'.toNat → Completes (.verify r true) s fun t => (3 ≤ kindOf d.keyA → s.Ended t r d CR_KEY_USAGE 0) ∧ (kindOf d.keyA < 3 →
    s.Ended t r d (if Config.verify (dParam d.bytes) 0 false d.keyA.key d.src d.sig = true then 0 else CR_VERIFY_FAIL) 0)) ∧
  -- ASYM_CRYPT writes the OAEP result, or ends with FORMAT or VERIFY_FAIL
  (∀ (s : State) (r : Ring) (d : DescH), s.Executes r 0x09 d → dParam d.bytes = 0 → d.keyA.empty = false → d.keyA.usage = ascii2 'D' '1' → d.keyA.alg
    = algR → d.keyA.mode = 'B'.toNat → Completes (.asymCrypt r true) s fun t => (sigLen (kindOf d.keyA) < dSrcLen d.bytes + 66 → s.Ended t r d
    CR_FORMAT 0) ∧ (dSrcLen d.bytes + 66 ≤ sigLen (kindOf d.keyA) → Config.oaep false d.keyA.key d.src (Config.freeValue s.freeCtr) = none → s.Ended t
    r d CR_VERIFY_FAIL 0) ∧ ∀ o, dSrcLen d.bytes + 66 ≤ sigLen (kindOf d.keyA) → Config.oaep false d.keyA.key d.src (Config.freeValue s.freeCtr) =
    some o → s.Takes r d (sigLen (kindOf d.keyA)) → s.Stages t r d (sized (sigLen (kindOf d.keyA)) o))

/-- Keys of the crypto service (R337, R341, R342). Algorithms are opaque (log entry 3). -/
def Obligations.Keys : Prop :=
  -- KEY_GEN of a symmetric key stores a generated key in an empty slot
  (∀ (s : State) (r : Ring) (d : DescH), s.Executes r 0x0A d → dParam d.bytes = 0 → dSrcLen d.bytes = 16 → dKeyB d.bytes < 1024 → (s.keySlot
    (s.ringOwner r) (dKeyB d.bytes)).empty = true → genOk d.src = true → (d.src.getD 7 0).toNat ≠ algE → Completes (.keyGen r true) s fun t =>
    t.keySlot (s.ringOwner r) (dKeyB d.bytes) = { header := d.src, opt := [], key := Config.genKey d.src (Config.freeValue s.freeCtr) } ∧ s.Ended t r
    d 0 0) ∧
  -- KEY_GEN of an asymmetric key also writes its public key
  (∀ (s : State) (r : Ring) (d : DescH), s.Executes r 0x0A d → dParam d.bytes = 0 → dSrcLen d.bytes = 16 → dKeyB d.bytes < 1024 → (s.keySlot
    (s.ringOwner r) (dKeyB d.bytes)).empty = true → genOk d.src = true → (d.src.getD 7 0).toNat = algE → Completes (.keyGen r true) s fun t => ∀ k, k
    = Config.genKey d.src (Config.freeValue s.freeCtr) → (dDstLen d.bytes < (Config.publicKey k).length → s.Ended t r d CR_LENGTH 0) ∧ (s.Takes r d
    (Config.publicKey k).length → t.keySlot (s.ringOwner r) (dKeyB d.bytes) = { header := d.src, opt := [], key := k } ∧ s.Stages t r d
    (Config.publicKey k))) ∧
  -- KB_IMPORT stores the key of a sound key block, else ends with KEYBLOCK
  (∀ (s : State) (r : Ring) (d : DescH), s.Executes r 0x0B d → dParam d.bytes = 0 → d.keyA.empty = false → d.keyA.usage = ascii2 'K' '1' → d.keyA.alg
    = algA → d.keyA.key.length = 32 → dKeyB d.bytes < 1024 → (s.keySlot (s.ringOwner r) (dKeyB d.bytes)).empty = true → Completes (.kbImport r true) s
    fun t => (openBlock d.keyA.key d.src = none → s.Ended t r d CR_KEYBLOCK 0) ∧ ∀ k, openBlock d.keyA.key d.src = some k → t.keySlot (s.ringOwner r)
    (dKeyB d.bytes) = k ∧ s.Ended t r d 0 0) ∧
  -- KB_EXPORT writes the wrapped key, or ends with LENGTH
  (∀ (s : State) (r : Ring) (d : DescH), s.Executes r 0x0C d → dParam d.bytes = 0 → d.keyA.empty = false → d.keyA.export = 'E'.toNat → d.keyB.empty =
    false → d.keyB.usage = ascii2 'K' '1' → d.keyB.alg = algA → d.keyB.key.length = 32 → Completes (.kbExport r true) s fun t => ∀ out, out =
    Config.kbWrap d.keyB.key d.keyA.header d.keyA.opt d.keyA.key (Config.freeValue s.freeCtr) → (dDstLen d.bytes < out.length → s.Ended t r d
    CR_LENGTH 0) ∧ (s.Takes r d out.length → s.Stages t r d out)) ∧
  -- KB_EXPORT of a key that is not exportable ends with KEY_USAGE
  (∀ (s : State) (r : Ring) (d : DescH), s.Executes r 0x0C d → dParam d.bytes = 0 → d.keyA.empty = false → d.keyA.export ≠ 'E'.toNat → Completes
    (.kbExport r true) s fun t => s.Ended t r d CR_KEY_USAGE 0) ∧
  -- KEY_ERASE empties the slot
  (∀ (s : State) (r : Ring) (d : DescH), s.Executes r 0x0D d → dParam d.bytes = 0 → dKeyA d.bytes < 1024 → (s.keySlot (s.ringOwner r) (dKeyA
    d.bytes)).empty = false → Completes (.keyErase r true) s fun t => (t.keySlot (s.ringOwner r) (dKeyA d.bytes)).empty = true ∧ s.Ended t r d 0 0) ∧
  -- KEY_INFO writes the header and the check value
  (∀ (s : State) (r : Ring) (d : DescH), s.Executes r 0x0E d → dParam d.bytes = 0 → d.keyA.empty = false → d.keyA.alg = algA ∨ d.keyA.alg = algT →
    s.Takes r d 24 → Completes (.keyInfo r true) s fun t => s.Stages t r d (sized 16 d.keyA.header ++ (checkValue d.keyA s).1)) ∧
  -- PUB_EXPORT writes the public key, or ends with LENGTH
  (∀ (s : State) (r : Ring) (d : DescH), s.Executes r 0x0F d → dParam d.bytes = 0 → d.keyA.empty = false → d.keyA.usage = ascii2 'S' '0' → d.keyA.alg
    = algR → Completes (.pubExport r true) s fun t => ∀ out, out = Config.publicKey d.keyA.key → (dDstLen d.bytes < out.length → s.Ended t r d
    CR_LENGTH 0) ∧ (s.Takes r d out.length → s.Stages t r d out))

/-- Completions, time-outs and configuration requests (R354, R355, R360, R361). -/
def Obligations.NonPostedRequests : Prop :=
  -- PCIE_COMPLETION of a read gives the core its bytes and frees the tag
  (∀ (s : State) (k : Fin 32) (tag : Fin 1024) (d : Line) (r : PcieReq), (s.seg k).out.find? (fun r => r.tag = tag.val) = some r → r.kind = 0 → (∀ c ∈
    r.acc.cores, c ≠ DEBUG_PORT) → (s.seg k).waitTag = [] → s.NoneWait → Completes (.pcieCompletion k tag 0 d) s fun t => (t.seg k).out = (s.seg
    k).out.erase r ∧ t.regs = s.regs ∧ ∀ c ∈ r.acc.cores, .core c 0 (lineGet d 0 r.acc.size) ∈ t.sent) ∧
  -- PCIE_COMPLETION with an error status is a bus error (log entry 64)
  (∀ (s : State) (k : Fin 32) (tag : Fin 1024) (st : Fin 8) (d : Line) (r : PcieReq), (s.seg k).out.find? (fun r => r.tag = tag.val) = some r → r.kind
    = 0 → st ≠ 0 → (∀ c ∈ r.acc.cores, c ≠ DEBUG_PORT) → (s.seg k).waitTag = [] → s.NoneWait → Completes (.pcieCompletion k tag st d) s fun t =>
    (t.seg k).out = (s.seg k).out.erase r ∧ ∀ c ∈ r.acc.cores, .core c 1 0 ∈ t.sent) ∧
  -- PCIE_CPL_TIMEOUT quarantines the tag, is recorded and counted, and is a bus error
  (∀ (s : State) (k : Fin 32) (tag : Fin 1024) (r : PcieReq), (s.seg k).out.find? (fun r => r.tag = tag.val) = some r → r.kind = 0 → (∀ c ∈
    r.acc.cores, c ≠ DEBUG_PORT) → s.NoneWait → Completes (.pcieCplTimeout k tag) s fun t => tag.val ∈ (t.seg k).quarantine ∧ (t.seg k).out = (s.seg
    k).out.erase r ∧ t.Logged E.PCIE_CPL_TIMEOUT 4 k ∧ t.f (rErrCnt k) F.SEG_ERR_CNT_CPL_TIMEOUT = min (s.f (rErrCnt k) F.SEG_ERR_CNT_CPL_TIMEOUT + 1)
    F.SEG_ERR_CNT_CPL_TIMEOUT.max ∧ ∀ c ∈ r.acc.cores, .core c 1 0 ∈ t.sent) ∧
  -- TAG_QUARANTINE_END gives the tag back
  (∀ (s : State) (k : Fin 32) (tag : Fin 1024), (s.seg k).waitTag = [] → Completes (.tagQuarantineEnd k tag) s fun t => (t.seg k).quarantine = (s.seg
    k).quarantine.erase tag ∧ t.sent = s.sent ∧ t.regs = s.regs) ∧
  -- CFG_READ of device 0 of the secondary bus is sent as a type 0 request
  (∀ (s : State) (k : Fin 32) (who : Sender) (tg : Nat), s.Admitted who.who (R.CFG_DATA (k / 4) (k % 4)) false → s.ltssm k = 3 → s.freeTag k = some tg
    → s.f (rCfgAddr k) F.CFG_ADDR_BUS = s.f (rSegCtl k) F.SEG_CTL_SEC_BUS → s.f (rCfgAddr k) F.CFG_ADDR_DEV = 0 → (s.seg k).waitTag = [] → Completes
    (.cfgRead who k) s fun t => t.sent = s.sent ++ [.pcie k T_CFGRD tg (bits (s.reg (rCfgAddr k)) 0 36) (leBytes 2 4)] ∧ (t.seg k).out.length = (s.seg
    k).out.length + 1 ∧ t.f (rCfgAddr k) F.CFG_ADDR_CFG_UR = 0) ∧
  -- CFG_READ with no target reads all ones and sets CFG_RANGE
  (∀ (s : State) (k : Fin 32) (c : Core) (p : Sys2Proof.Part), s.pkg < 8 → s.sharers c = [c.val] → s.Admitted (.core (Fin.ofNat 8 s.pkg) c p)
    (R.CFG_DATA (k / 4) (k % 4)) false → s.cfgTarget k = none → Completes (.cfgRead (.core (Fin.ofNat 8 s.pkg) c p) k) s fun t => t.sent = s.sent ++
    [.core c 0 0xFFFFFFFF] ∧ t.f (rCfgAddr k) F.CFG_ADDR_CFG_RANGE = 1 ∧ s.SameRegs t [rCfgAddr k]) ∧
  -- CFG_WRITE of device 0 of the secondary bus is sent as a type 0 request
  (∀ (s : State) (k : Fin 32) (who : Sender) (tg : Nat) (v : BitVec 32), s.Admitted who.who (R.CFG_DATA (k / 4) (k % 4)) true → s.ltssm k = 3 →
    s.freeTag k = some tg → s.f (rCfgAddr k) F.CFG_ADDR_BUS = s.f (rSegCtl k) F.SEG_CTL_SEC_BUS → s.f (rCfgAddr k) F.CFG_ADDR_DEV = 0 → (s.seg
    k).waitTag = [] → Completes (.cfgWrite who k v) s fun t => t.sent = s.sent ++ [.pcie k T_CFGWR tg (bits (s.reg (rCfgAddr k)) 0 36) (leBytes 4
    v.toNat)]) ∧
  -- CFG_RRS_RETRY within the window sends the request again, 1 ms more of it gone
  (∀ (s : State) (k : Fin 32) (r : PcieReq) (n tg : Nat), (s.seg k).rrs = [(r, n)] → n < 999 → r.kind = 1 → s.ltssm k = 3 → (s.seg k).waitTag = [] →
    s.freeTag k = some tg → Completes (.cfgRrsRetry k) s fun t => t.sent = s.sent ++ [.pcie k T_CFGRD tg r.cfg (leBytes 2 r.acc.size)] ∧ (t.seg k).rrs
    = [] ∧ (∃ q ∈ (t.seg k).out, q.tag = tg ∧ q.acc.va = n + 1) ∧ t.regs = s.regs) ∧
  -- CFG_RRS_RETRY after the window is a time-out
  (∀ (s : State) (k : Fin 32) (r : PcieReq) (n : Nat), (s.seg k).rrs = [(r, n)] → 999 ≤ n → r.kind = 1 → Completes (.cfgRrsRetry k) s fun t => t.f
    (rCfgAddr k) F.CFG_ADDR_CFG_TIMEOUT = 1 ∧ (t.seg k).rrs = [] ∧ t.Logged E.PCIE_CPL_TIMEOUT 4 k)

/-- Requests and messages of devices behind a root port (R356, R358, R359). -/
def Obligations.DeviceRequests : Prop :=
  -- PCIE_MEMORY_READ from a bus in range becomes a DMA_RD of the segment's owner
  (∀ (s : State) (k : Fin 32) (b : Byte) (a : Word) (p n tag : Nat), s.devUp k = true → s.f (rSegCtl k) F.SEG_CTL_SEC_BUS ≤ b.toNat → b.toNat ≤ s.f
    (rSegCtl k) F.SEG_CTL_SUB_BUS → a.toNat < 2 ^ 52 → paKind a.toNat = .dram p → s.undecoded a.toNat = none → 0 < n → a.toNat % 64 + n ≤ 64 → (s.seg
    k).dma = [] → Completes (.pcieMemoryRead k b a n tag) s fun t => t.regs = s.regs ∧ ∃ tg, t.sent = s.sent ++ [.coh
    { s.dmaMsg k .dmaRd a.toNat n (s.owner k) D_LAST 0 tag 0 with txn := tg }]) ∧
  -- PCIE_MEMORY_READ from a bus out of range is UR and recorded (log entry 60)
  (∀ (s : State) (k : Fin 32) (b : Byte) (a : Word) (n tag : Nat), s.devUp k = true → b.toNat < s.f (rSegCtl k) F.SEG_CTL_SEC_BUS ∨ s.f (rSegCtl k)
    F.SEG_CTL_SUB_BUS < b.toNat → (s.seg k).dma = [] → Completes (.pcieMemoryRead k b a n tag) s fun t => .pcie k T_UR tag a.toNat [] ∈ t.sent ∧
    t.Logged E.OWN_DENIED 4 k) ∧
  -- PCIE_MEMORY_READ of an address that decodes to no target is UR, with the record of R33 or R34
  (∀ (s : State) (k : Fin 32) (b : Byte) (a : Word) (n tag : Nat) (e : ECode), s.devUp k = true → s.f (rSegCtl k) F.SEG_CTL_SEC_BUS ≤ b.toNat →
    b.toNat ≤ s.f (rSegCtl k) F.SEG_CTL_SUB_BUS → s.undecoded a.toNat = some e → 0 < n → a.toNat % 64 + n ≤ 64 → (s.seg k).dma = [] → Completes
    (.pcieMemoryRead k b a n tag) s fun t => .pcie k T_UR tag a.toNat [] ∈ t.sent ∧ t.Logged e 4 k) ∧
  -- PCIE_MEMORY_WRITE becomes a DMA_WR
  (∀ (s : State) (k : Fin 32) (b : Byte) (a : Word) (p : Nat) (l : List Byte), s.devUp k = true → s.f (rSegCtl k) F.SEG_CTL_SEC_BUS ≤ b.toNat →
    b.toNat ≤ s.f (rSegCtl k) F.SEG_CTL_SUB_BUS → ¬ (MSI_ADDR ≤ a.toNat ∧ a.toNat < MSI_ADDR + 4096) → a.toNat < 2 ^ 52 → paKind a.toNat = .dram p →
    s.undecoded a.toNat = none → 0 < l.length → a.toNat % 64 + l.length ≤ 64 → (s.seg k).dma = [] → Completes (.pcieMemoryWrite k b a l false) s fun t
    => t.regs = s.regs ∧ ∃ tg, t.sent = s.sent ++ [.coh { s.dmaMsg k .dmaWr a.toNat l.length (s.owner k) D_WRITE 0 0 (bytesLine l) with txn := tg }])
    ∧
  -- PCIE_MEMORY_WRITE that is poisoned is dropped and recorded
  (∀ (s : State) (k : Fin 32) (b : Byte) (a : Word) (l : List Byte), s.devUp k = true → s.f (rSegCtl k) F.SEG_CTL_SEC_BUS ≤ b.toNat → b.toNat ≤ s.f
    (rSegCtl k) F.SEG_CTL_SUB_BUS → ¬ (MSI_ADDR ≤ a.toNat ∧ a.toNat < MSI_ADDR + 4096) → Completes (.pcieMemoryWrite k b a l true) s fun t => t.Logged
    E.PCIE_POISONED_TLP 4 k ∧ s.SameButLogs t) ∧
  -- PCIE_ATOMICOP becomes a UC_ATOMIC (log entry 61)
  (∀ (s : State) (k : Fin 32) (b : Byte) (a : Word) (p n tag : Nat) (op : Fin 3) (x y : Word), s.devUp k = true → s.f (rSegCtl k) F.SEG_CTL_SEC_BUS ≤
    b.toNat → b.toNat ≤ s.f (rSegCtl k) F.SEG_CTL_SUB_BUS → a.toNat < 2 ^ 52 → paKind a.toNat = .dram p → s.undecoded a.toNat = none → n = 4 ∨ n = 8 →
    a.toNat % n = 0 → (s.seg k).dma = [] → s.ioHeld (pkgOfLine (a.toNat / 64)) = false → Completes (.pcieAtomicop k b a op n x y tag) s fun t =>
    t.regs = s.regs ∧ ∃ tg, t.sent = s.sent ++ [.coh
    { s.dmaMsg k .ucAtomic a.toNat n (s.owner k) D_ATOMIC 0 tag 0 with aop := { code := AT_FETCHADD + op, size := n, off := a.toNat % 64, arg := x.setWidth 128, arg2 := y.setWidth 128 }, txn := tg }])
    ∧
  -- PCIE_ATOMICOP of a bad size or alignment is UR and recorded (log entry 60)
  (∀ (s : State) (k : Fin 32) (b : Byte) (a : Word) (p n tag : Nat) (op : Fin 3) (x y : Word), s.devUp k = true → s.f (rSegCtl k) F.SEG_CTL_SEC_BUS ≤
    b.toNat → b.toNat ≤ s.f (rSegCtl k) F.SEG_CTL_SUB_BUS → a.toNat < 2 ^ 52 → paKind a.toNat = .dram p → s.undecoded a.toNat = none → ¬ ((n = 4 ∨ n =
    8) ∧ a.toNat % n = 0) → (s.seg k).dma = [] → Completes (.pcieAtomicop k b a op n x y tag) s fun t => .pcie k T_UR tag a.toNat [] ∈ t.sent ∧
    t.Logged E.ATOMIC_ATTR 4 k) ∧
  -- PCIE_MSI raises the vector of the owner
  (∀ (s : State) (k : Fin 32) (l : List Byte), s.devUp k = true → s.owner k ≠ 0 → l.length = 4 → 32 ≤ leNat l → leNat l < 2048 → (∀ m ∈ (s.seg k).dma,
    m.fwd.pkg ≠ D_WRITE) → Completes (.pcieMsi k 0x0FFFFFFFFF000 l) s fun t => t = s.send (.source (s.owner k) (leNat l) none)) ∧
  -- PCIE_MSI waits for the segment's earlier writes
  (∀ (s : State) (k : Fin 32) (l : List Byte), s.devUp k = true → l.length = 4 → 32 ≤ leNat l → leNat l < 2048 → (∃ m ∈ (s.seg k).dma, m.fwd.pkg =
    D_WRITE) → Completes (.pcieMsi k 0x0FFFFFFFFF000 l) s fun t => t.sent = s.sent ∧ (t.seg k).msi = (s.seg k).msi ++ [(leNat l, countOf (s.seg k).dma
    fun m => m.fwd.pkg = D_WRITE)]) ∧
  -- PCIE_MSI of a bad address or length is dropped and recorded
  (∀ (s : State) (k : Fin 32) (a : Word) (l : List Byte), s.devUp k = true → a.toNat ≠ MSI_ADDR ∨ l.length ≠ 4 → Completes (.pcieMsi k a l) s fun t =>
    t.Logged E.PCIE_MSI_FORMAT 4 k ∧ s.SameButLogs t) ∧
  -- PCIE_ERR_MSG sets ERR_MSG and its severity, is recorded and counted
  (∀ (s : State) (k : Fin 32) (id : BitVec 16) (sv : Fin 3), s.devUp k = true → Completes (.pcieErrMsg k id sv) s fun t => t.f (rHpStat k)
    F.HP_STAT_ERR_MSG = 1 ∧ t.f (rHpStat k) F.HP_STAT_ERR_SEV = sv ∧ t.Logged E.PCIE_ERR_MSG 4 k ∧ t.f (rErrCnt k) F.SEG_ERR_CNT_ERR_RECV = min (s.f
    (rErrCnt k) F.SEG_ERR_CNT_ERR_RECV + 1) F.SEG_ERR_CNT_ERR_RECV.max ∧ s.SameRegs t [rHpStat k, rErrCnt k]) ∧
  -- PCIE_INTX is recorded and delivers nothing
  (∀ (s : State) (k : Fin 32) (id : BitVec 16), s.devUp k = true → Completes (.pcieIntx k id) s fun t => t.Logged E.PCIE_INTX 4 k ∧ s.SameButLogs t)

/-- Links, PERST and hot reset of a segment (R362, R364, R365). -/
def Obligations.SegmentLinks : Prop :=
  -- PCIE_LINK_DOWN takes the link to the state that its cause names, and outstanding requests and unsent writes end
  (∀ (s : State) (k : Fin 32) (st : Fin 3), s.segReal k = true → s.isSep (k / 4) = false → s.linkOff k = false → Completes (.pcieLinkDown k st) s fun
    t => t.ltssm k = (if st = 2 then L_HOT_RESET else st.val) ∧ t.f (rStat k) F.SEG_STAT_DLL_ACTIVE = 0 ∧ t.f (rStat k) F.SEG_STAT_SPEED = 0 ∧ t.f
    (rStat k) F.SEG_STAT_WIDTH = 0 ∧ (t.seg k).waitTag = [] ∧ (t.seg k).out = [] ∧ (t.seg k).rrs = []) ∧
  -- PCIE_LINK_UP takes it to L0 at no more than MAX_GEN, at 64 GT/s in flit mode
  (∀ (s : State) (k : Fin 32) (g : Fin 8) (w : Fin 32) (fl : Bool), s.segReal k = true → s.ltssm k = L_DETECT → (s.seg k).waitTag = [] → s.locked =
    false → Completes (.pcieLinkUp k g w fl) s fun t => t.ltssm k = L_L0 ∧ t.f (rStat k) F.SEG_STAT_DLL_ACTIVE = 1 ∧ t.f (rStat k) F.SEG_STAT_SPEED =
    min g.val (s.f (R.PCIE_INFO (k / 4)) F.PCIE_INFO_MAX_GEN) ∧ t.f (rStat k) F.SEG_STAT_FLIT = (fl || decide (min g.val (s.f (R.PCIE_INFO (k / 4))
    F.PCIE_INFO_MAX_GEN) = 6)).toNat ∧ t.f (rHpStat k) F.HP_STAT_DLL_CHANGE = 1) ∧
  -- PCIE_RECOVERY_ENTRY takes L0 to Recovery
  (∀ (s : State) (k : Fin 32), s.ltssm k = L_L0 → Completes (.pcieRecoveryEntry k) s fun t => t.ltssm k = L_RECOVERY ∧ s.SameRegs t [rStat k]) ∧
  -- PCIE_RECOVERY_EXIT takes it back and sends the writes that waited, in order
  (∀ (s : State) (k : Fin 32), s.ltssm k = L_RECOVERY → (∀ r ∈ (s.seg k).waitTag, r.kind = 6) → Completes (.pcieRecoveryExit k) s fun t => t.ltssm k =
    L_L0 ∧ t.sent = s.sent ++ (s.seg k).waitTag.map (fun r => .pcie k T_MWR 0 r.acc.pa (leBytes r.acc.size r.acc.data.toNat)) ∧ (t.seg k).waitTag =
    []) ∧
  -- SEG_HOT_RESET sends the hot reset
  (∀ (s : State) (k : Fin 32) (who : Sender) (v : Word), s.Admitted who.who (rSegCtl k) true → F.SEG_CTL_PERST.get v = 0 → F.SEG_CTL_LINK_DIS.get v =
    0 → s.f (rStat k) F.SEG_STAT_PERST = 0 → s.f (rSegCtl k) F.SEG_CTL_LINK_DIS = 0 → s.linkOff k = false → Completes (.segHotReset who k v) s fun t
    => t.ltssm k = L_HOT_RESET ∧ .pcie k T_HOTRESET 0 0 [] ∈ t.sent ∧ t.f (rStat k) F.SEG_STAT_DLL_ACTIVE = 0) ∧
  -- HOT_RESET_END goes to Detect
  (∀ (s : State) (k : Fin 32), s.ltssm k = L_HOT_RESET → Completes (.hotResetEnd k) s fun t => t.ltssm k = L_DETECT ∧ s.SameRegs t [rStat k]) ∧
  -- SEG_CTL_WRITE with PERST asserts it: the link is Disabled
  (∀ (s : State) (k : Fin 32) (who : Sender) (v : Word), s.Admitted who.who (rSegCtl k) true → F.SEG_CTL_PERST.get v = 1 → s.f (rStat k)
    F.SEG_STAT_PERST = 0 → (s.seg k).out = [] → (s.seg k).waitTag = [] → (s.seg k).rrs = [] → Completes (.segCtlWrite who k v) s fun t => t.f (rSegCtl
    k) F.SEG_CTL_PERST = 1 ∧ t.f (rStat k) F.SEG_STAT_PERST = 1 ∧ t.ltssm k = L_DISABLED ∧ .pin "PERST_N" k false ∈ t.sent ∧ (t.seg k).perstHeld =
    true) ∧
  -- SEG_CTL_WRITE without PERST releases it after its minimum time
  (∀ (s : State) (k : Fin 32) (who : Sender) (v : Word), s.Admitted who.who (rSegCtl k) true → F.SEG_CTL_PERST.get v = 0 → F.SEG_CTL_LINK_DIS.get v =
    0 → F.SEG_CTL_HOT_RESET.get v = 0 → s.f (rStat k) F.SEG_STAT_PERST = 1 → (s.seg k).perstHeld = false → Completes (.segCtlWrite who k v) s fun t =>
    t.f (rStat k) F.SEG_STAT_PERST = 0 ∧ t.ltssm k = L_DETECT ∧ .pin "PERST_N" k true ∈ t.sent) ∧
  -- SEG_CTL_WRITE without PERST before that keeps it asserted until then
  (∀ (s : State) (k : Fin 32) (who : Sender) (v : Word), s.Admitted who.who (rSegCtl k) true → F.SEG_CTL_PERST.get v = 0 → F.SEG_CTL_LINK_DIS.get v =
    0 → F.SEG_CTL_HOT_RESET.get v = 0 → s.f (rStat k) F.SEG_STAT_PERST = 1 → (s.seg k).perstHeld = true → Completes (.segCtlWrite who k v) s fun t =>
    t.f (rStat k) F.SEG_STAT_PERST = 1 ∧ (t.seg k).perstRel = true) ∧
  -- PERST_HOLD_EXPIRY then releases it
  (∀ (s : State) (k : Fin 32), (s.seg k).perstRel = true → s.f (rSegCtl k) F.SEG_CTL_LINK_DIS = 0 → Completes (.perstHoldExpiry k) s fun t => t.f
    (rStat k) F.SEG_STAT_PERST = 0 ∧ t.ltssm k = L_DETECT ∧ (t.seg k).perstHeld = false ∧ t.sent = s.sent ++ [.pin "PERST_N" k true])

/-- Slot power and hot plug (R365, R366). When PWR_GOOD becomes visible is log entry 62. -/
def Obligations.SlotPower : Prop :=
  -- SLOT_POWER_ON of an occupied slot enables power with PERST asserted
  (∀ (s : State) (k : Fin 32) (who : Sender) (v : Word), s.Admitted who.who (rHpCtl k) true → s.f (rHpCtl k) F.HP_CTL_PWR = 0 → s.f (rHpStat k)
    F.HP_STAT_PRESENT = 1 → s.isSep (k / 4) = false → Completes (.slotPowerOn who k v) s fun t => t.f (rHpCtl k) F.HP_CTL_PWR = 1 ∧ (t.seg k).swren =
    true ∧ t.f (rStat k) F.SEG_STAT_PERST = 1 ∧ .pin "SLOT_PWREN" k true ∈ t.sent) ∧
  -- SLOT_POWER_ON of an empty slot is ignored
  (∀ (s : State) (k : Fin 32) (who : Sender) (v : Word), s.Admitted who.who (rHpCtl k) true → s.f (rHpCtl k) F.HP_CTL_PWR = 0 → s.f (rHpStat k)
    F.HP_STAT_PRESENT = 0 → s.isSep (k / 4) = false → Completes (.slotPowerOn who k v) s fun t => t.f (rHpCtl k) F.HP_CTL_PWR = 0 ∧ (t.seg k).swren =
    (s.seg k).swren) ∧
  -- SLOT_POWER_OFF asserts PERST first; the power falls later
  (∀ (s : State) (k : Fin 32) (who : Sender) (v : Word), s.Admitted who.who (rHpCtl k) true → s.f (rHpCtl k) F.HP_CTL_PWR = 1 → s.isSep (k / 4) =
    false → Completes (.slotPowerOff who k v) s fun t => t.f (rHpCtl k) F.HP_CTL_PWR = 0 ∧ t.f (rStat k) F.SEG_STAT_PERST = 1 ∧ t.ltssm k = L_DISABLED
    ∧ (t.seg k).swren = (s.seg k).swren ∧ .pin "PERST_N" k false ∈ t.sent) ∧
  -- SLOT_PWRGD_TIMEOUT is a power fault: the power falls
  (∀ (s : State) (k : Fin 32), (s.seg k).pwrSeq = 1 → s.f (rHpStat k) F.HP_STAT_PWR_GOOD = 0 → s.isSep (k / 4) = false → Completes (.slotPwrgdTimeout
    k) s fun t => t.f (rHpCtl k) F.HP_CTL_PWR = 0 ∧ t.f (rHpStat k) F.HP_STAT_PWR_FAULT = 1 ∧ (t.seg k).swren = false ∧ .pin "SLOT_PWREN" k false ∈
    t.sent ∧ t.Logged E.PCIE_HP_EVENT 4 k) ∧
  -- SLOT_PERST_RELEASE releases PERST: Detect
  (∀ (s : State) (k : Fin 32), (s.seg k).pwrSeq = 1 → s.f (rSegCtl k) F.SEG_CTL_LINK_DIS = 0 → s.partFenced (s.owner k) = false → Completes
    (.slotPerstRelease k) s fun t => t.f (rStat k) F.SEG_STAT_PERST = 0 ∧ t.f (rSegCtl k) F.SEG_CTL_PERST = 0 ∧ t.ltssm k = L_DETECT ∧ t.f (rHpStat k)
    F.HP_STAT_PWR_GOOD = 1 ∧ t.sent = s.sent ++ [.pin "PERST_N" k true] ∧ s.SameRegs t [rStat k, rSegCtl k, rHpStat k, R.ARB_REQ (42 + k / 4) (k %
    4)]) ∧
  -- SLOT_PWREN_DROP ends the power-off
  (∀ (s : State) (k : Fin 32), (s.seg k).pwrSeq = 3 → Completes (.slotPwrenDrop k) s fun t => (t.seg k).swren = false ∧ t.sent = s.sent ++ [.pin
    "SLOT_PWREN" k false] ∧ t.regs = s.regs) ∧
  -- SLOT_PRESENCE_CHANGE of a removed card cuts the power at once
  (∀ (s : State) (k : Fin 32), s.f (rHpStat k) F.HP_STAT_PRESENT = 1 → s.f (rHpCtl k) F.HP_CTL_PWR = 1 → s.segReal k = true → s.isSep (k / 4) = false
    → Completes (.slotPresenceChange k false) s fun t => t.f (rHpStat k) F.HP_STAT_PRESENT = 0 ∧ t.f (rHpCtl k) F.HP_CTL_PWR = 0 ∧ t.f (rStat k)
    F.SEG_STAT_PERST = 1 ∧ t.f (rHpStat k) F.HP_STAT_PRESENCE_CHANGE = 1 ∧ (t.seg k).swren = false ∧ t.Logged E.PCIE_HP_EVENT 4 k) ∧
  -- SLOT_PRESENCE_CHANGE of a new card shows it
  (∀ (s : State) (k : Fin 32), s.f (rHpStat k) F.HP_STAT_PRESENT = 0 → s.segReal k = true → s.isSep (k / 4) = false → Completes (.slotPresenceChange k
    true) s fun t => t.f (rHpStat k) F.HP_STAT_PRESENT = 1 ∧ t.f (rHpStat k) F.HP_STAT_PRESENCE_CHANGE = 1 ∧ t.f (rStat k) F.SEG_STAT_PRESENT = 1 ∧
    s.SameRegs t [rHpStat k, rStat k]) ∧
  -- SLOT_PWRGD_FALL is a power fault: the power falls
  (∀ (s : State) (k : Fin 32), s.segReal k = true → s.isSep (k / 4) = false → Completes (.slotPwrgdFall k) s fun t => t.f (rHpStat k)
    F.HP_STAT_PWR_GOOD = 0 ∧ t.f (rHpStat k) F.HP_STAT_PWR_FAULT = 1 ∧ t.f (rHpCtl k) F.HP_CTL_PWR = 0 ∧ t.f (rStat k) F.SEG_STAT_PERST = 1 ∧ (t.seg
    k).swren = false) ∧
  -- SLOT_BUTTON is shown and recorded
  (∀ (s : State) (k : Fin 32), s.segReal k = true → s.isSep (k / 4) = false → Completes (.slotButton k) s fun t => t.f (rHpStat k) F.HP_STAT_BUTTON =
    1 ∧ t.Logged E.PCIE_HP_EVENT 4 k ∧ s.SameRegs t [rHpStat k])

/-- The host's side of a Service Endpoint (R370, R372). The layouts of configuration space are log entry 30. -/
def Obligations.ServiceEndpointHost : Prop :=
  -- SEP_HOST_ACCESS that reads HOST_STAT answers it
  (∀ (s : State) (p : Fin 2) (f : Fin 8) (v : List Byte), s.fnPresent (sepPort p) f = true → s.sepUp (sepPort p) = true → s.fnFenced (sepPort p) f =
    false → s.fnInfo (sepPort p) f F.SEP_FN_INFO_FLR_BUSY = 0 → s.hostBusy (sepPort p) f = false → Completes (.sepHostAccess p f 0 0x5008 8 false v) s
    fun t => t = s.send (.host (sepPort p) f H_CPL (leBytes 8 (BitVec.ofNat 64 (s.fn (sepPort p) f).hostStat).toNat))) ∧
  -- SEP_HOST_ACCESS that writes HOST_STAT clears the bits written 1
  (∀ (s : State) (p : Fin 2) (f : Fin 8) (v : List Byte), s.fnPresent (sepPort p) f = true → s.sepUp (sepPort p) = true → s.fnFenced (sepPort p) f =
    false → s.fnInfo (sepPort p) f F.SEP_FN_INFO_FLR_BUSY = 0 → s.hostBusy (sepPort p) f = false → Completes (.sepHostAccess p f 0 0x5008 8 true v) s
    fun t => (t.fn (sepPort p) f).hostStat = maskOf (without (bitsOf (s.fn (sepPort p) f).hostStat 4) (bitsOf (leNat (v.take 8)) 4)) ∧ t.regs =
    s.regs) ∧
  -- SEP_HOST_ACCESS that reads the window becomes a DMA_RD of the function's partition
  (∀ (s : State) (p : Fin 2) (f : Fin 8) (off size : Nat) (v : List Byte), s.fnPresent (sepPort p) f = true → s.sepUp (sepPort p) = true → s.fnFenced
    (sepPort p) f = false → s.fnInfo (sepPort p) f F.SEP_FN_INFO_FLR_BUSY = 0 → s.fnPart (sepPort p) f ≠ 0 → s.f (R.SEP_WIN (sepPort p) f)
    F.SEP_WIN_VALID = 1 → off < 2 ^ 30 → s.Backed (s.f (R.SEP_WIN (sepPort p) f) F.SEP_WIN_BASE * 2 ^ 30 + off) → 0 < size → off % 64 + size ≤ 64 →
    (s.seg (sepSeg (sepPort p))).dma = [] → Completes (.sepHostAccess p f 2 off size false v) s fun t => t.regs = s.regs ∧ ∃ m, .coh m ∈ t.sent ∧ m.op
    = .dmaRd ∧ m.part = s.fnPart (sepPort p) f ∧ m.line = (s.f (R.SEP_WIN (sepPort p) f) F.SEP_WIN_BASE * 2 ^ 30 + off) / 64 ∧ m.mask = maskFor (off %
    64) size) ∧
  -- SEP_HOST_ACCESS to a fenced function, or one in reset, is UR
  (∀ (s : State) (p : Fin 2) (f : Fin 8) (bar : Fin 4) (off size : Nat) (wr : Bool) (v : List Byte), s.fnPresent (sepPort p) f = true → s.sepUp
    (sepPort p) = true → s.fnFenced (sepPort p) f = true ∨ s.fnInfo (sepPort p) f F.SEP_FN_INFO_FLR_BUSY = 1 → Completes (.sepHostAccess p f bar off
    size wr v) s fun t => t = s.send (.host (sepPort p) f H_UR (leBytes 8 0))) ∧
  -- SEP_HOST_DB sets its bits and DOORBELL
  (∀ (s : State) (p : Fin 2) (f : Fin 8) (v : BitVec 32), s.fnPresent (sepPort p) f = true → s.sepUp (sepPort p) = true → s.fnFenced (sepPort p) f =
    false → s.hostBusy (sepPort p) f = false → Completes (.sepHostDb p f v) s fun t => t.reg (R.SEP_DB (sepPort p) f) = s.reg (R.SEP_DB (sepPort p) f)
    ||| v.setWidth 64 ∧ t.f (R.SEP_FN_STAT (sepPort p) f) F.SEP_FN_STAT_DOORBELL = 1 ∧ s.SameRegs t [R.SEP_DB (sepPort p) f, R.SEP_FN_STAT (sepPort p)
    f]) ∧
  -- SEP_HOST_INT without MSI-X sets the bits and asserts INTA
  (∀ (s : State) (p : Fin 2) (f : Fin 8) (who : Sender) (v : BitVec 4), s.Admitted who.who (R.SEP_HOST_INT (sepPort p) f) true → s.fnInfo (sepPort p)
    f F.SEP_FN_INFO_MSIX_EN = 0 → s.fnInfo (sepPort p) f F.SEP_FN_INFO_INTX_DIS = 0 → v ≠ 0 → s.fnFenced (sepPort p) f = false → (s.fn (sepPort p)
    f).inta = false → Completes (.sepHostInt who p f v) s fun t => (t.fn (sepPort p) f).hostStat = (s.fn (sepPort p) f).hostStat ||| maskOf (bitsOf
    v.toNat 4) ∧ (t.fn (sepPort p) f).inta = true ∧ .host (sepPort p) f H_INTA (leBytes 8 1) ∈ t.sent ∧ t.regs = s.regs) ∧
  -- SEP_HOST_CONFIG of the command register takes its two bits
  (∀ (s : State) (p : Fin 2) (f : Fin 8) (v : BitVec 32), s.fnPresent (sepPort p) f = true → s.sepUp (sepPort p) = true → s.fnFenced (sepPort p) f =
    false → s.fnInfo (sepPort p) f F.SEP_FN_INFO_FLR_BUSY = 0 → s.f (R.SEP_DMA_CTL (sepPort p) f) F.SEP_DMA_CTL_BUSY = 0 → s.fnInfo (sepPort p) f
    F.SEP_FN_INFO_MSIX_EN = 0 → s.hostBusy (sepPort p) f = false → Completes (.sepHostConfig p f CFG_COMMAND (some v)) s fun t => t.fnInfo (sepPort p)
    f F.SEP_FN_INFO_BME = (v.getLsbD 2).toNat ∧ t.fnInfo (sepPort p) f F.SEP_FN_INFO_INTX_DIS = (v.getLsbD 10).toNat ∧ .host (sepPort p) f H_CPL
    (leBytes 8 0) ∈ t.sent) ∧
  -- SEP_HOST_CONFIG that reads a dword answers it
  (∀ (s : State) (p : Fin 2) (f : Fin 8) (r : Nat), s.fnPresent (sepPort p) f = true → s.sepUp (sepPort p) = true → s.fnFenced (sepPort p) f = false →
    s.fnInfo (sepPort p) f F.SEP_FN_INFO_FLR_BUSY = 0 → s.hostBusy (sepPort p) f = false → Completes (.sepHostConfig p f r none) s fun t => t = s.send
    (.host (sepPort p) f H_CPL (leBytes 8 (BitVec.ofNat 64 (s.cfgDword (sepPort p) f r)).toNat))) ∧
  -- SEP_HOST_CONFIG during a function reset is RRS
  (∀ (s : State) (p : Fin 2) (f : Fin 8) (r : Nat) (v : Option (BitVec 32)), s.fnPresent (sepPort p) f = true → s.sepUp (sepPort p) = true →
    s.fnFenced (sepPort p) f = false → s.fnInfo (sepPort p) f F.SEP_FN_INFO_FLR_BUSY = 1 → Completes (.sepHostConfig p f r v) s fun t => t = s.send
    (.host (sepPort p) f H_RRS (leBytes 8 0)))

/-- Copies, resets and links of a Service Endpoint (R373, R374, R375). -/
def Obligations.ServiceEndpointFunctions : Prop :=
  -- SEP_COPY_GO from the host starts with a read of the first line
  (∀ (s : State) (p : Fin 2) (f : Fin 8) (who : Sender) (v : Word) (tg : Nat), s.Admitted who.who (R.SEP_DMA_CTL (sepPort p) f) true → s.fnPresent
    (sepPort p) f = true → s.f (R.SEP_DMA_CTL (sepPort p) f) F.SEP_DMA_CTL_BUSY = 0 → s.fnInfo (sepPort p) f F.SEP_FN_INFO_BME = 1 → s.sepUp (sepPort
    p) = true → F.SEP_DMA_CTL_DIR.get v = 0 → (s.seg (sepSeg (sepPort p))).waitTag = [] → s.freeTag (sepSeg (sepPort p)) = some tg → Completes
    (.sepCopyGo who p f v) s fun t => t.f (R.SEP_DMA_CTL (sepPort p) f) F.SEP_DMA_CTL_BUSY = 1 ∧ (t.fn (sepPort p) f).copy = some (0, max 1
    (F.SEP_DMA_CTL_LINES.get v)) ∧ .pcie (sepSeg (sepPort p)) T_MRD tg (s.f (R.SEP_DMA_HOST (sepPort p) f) F.SEP_DMA_HOST_ADDR * 64) (leBytes 2 64) ∈
    t.sent) ∧
  -- SEP_COPY_GO without Bus Master Enable ends with code 4
  (∀ (s : State) (p : Fin 2) (f : Fin 8) (who : Sender) (v : Word), s.Admitted who.who (R.SEP_DMA_CTL (sepPort p) f) true → s.fnPresent (sepPort p) f
    = true → s.f (R.SEP_DMA_CTL (sepPort p) f) F.SEP_DMA_CTL_BUSY = 0 → s.fnInfo (sepPort p) f F.SEP_FN_INFO_BME = 0 → Completes (.sepCopyGo who p f
    v) s fun t => t.f (R.SEP_DMA_CTL (sepPort p) f) F.SEP_DMA_CTL_BUSY = 0 ∧ t.f (R.SEP_DMA_CTL (sepPort p) f) F.SEP_DMA_CTL_DONE = 1 ∧ t.f
    (R.SEP_DMA_CTL (sepPort p) f) F.SEP_DMA_CTL_CODE = 4 ∧ t.f (R.SEP_FN_STAT (sepPort p) f) F.SEP_FN_STAT_DMA_DONE = 1) ∧
  -- SEP_COPY_DONE of the last line ends with code 0
  (∀ (s : State) (p : Fin 2) (f : Fin 8) (n : Nat), (s.fn (sepPort p) f).copy = some (n, n) → s.f (R.SEP_DMA_CTL (sepPort p) f) F.SEP_DMA_CTL_BUSY = 1
    → Completes (.sepCopyDone p f 0) s fun t => t.f (R.SEP_DMA_CTL (sepPort p) f) F.SEP_DMA_CTL_BUSY = 0 ∧ t.f (R.SEP_DMA_CTL (sepPort p) f)
    F.SEP_DMA_CTL_DONE = 1 ∧ t.f (R.SEP_DMA_CTL (sepPort p) f) F.SEP_DMA_CTL_CODE = 0 ∧ t.f (R.SEP_FN_STAT (sepPort p) f) F.SEP_FN_STAT_DMA_DONE = 1 ∧
    (t.fn (sepPort p) f).copy = none ∧ s.SameRegs t [R.SEP_DMA_CTL (sepPort p) f, R.SEP_FN_STAT (sepPort p) f]) ∧
  -- SEP_BME_CLEAR stops a copy with code 4
  (∀ (s : State) (p : Fin 2) (f : Fin 8), s.fnPresent (sepPort p) f = true → s.fnInfo (sepPort p) f F.SEP_FN_INFO_BME = 1 → s.f (R.SEP_DMA_CTL
    (sepPort p) f) F.SEP_DMA_CTL_BUSY = 1 → Completes (.sepBmeClear p f) s fun t => t.fnInfo (sepPort p) f F.SEP_FN_INFO_BME = 0 ∧ t.f (R.SEP_FN_STAT
    (sepPort p) f) F.SEP_FN_STAT_BME_CHANGE = 1 ∧ t.f (R.SEP_DMA_CTL (sepPort p) f) F.SEP_DMA_CTL_CODE = 4 ∧ t.f (R.SEP_DMA_CTL (sepPort p) f)
    F.SEP_DMA_CTL_BUSY = 0) ∧
  -- SEP_FLR resets the function
  (∀ (s : State) (p : Fin 2) (f : Fin 8), s.fnPresent (sepPort p) f = true → Completes (.sepFlr p f) s fun t => t.fnInfo (sepPort p) f
    F.SEP_FN_INFO_FLR_BUSY = 1 ∧ t.fnInfo (sepPort p) f F.SEP_FN_INFO_BME = 0 ∧ t.f (R.SEP_FN_STAT (sepPort p) f) F.SEP_FN_STAT_FLR = 1 ∧ (t.fn
    (sepPort p) f).hostStat = 0) ∧
  -- SEP_FLR_DONE ends FLR_BUSY
  (∀ (s : State) (p : Fin 2) (f : Fin 8), s.fnPresent (sepPort p) f = true → Completes (.sepFlrDone p f) s fun t => t.fnInfo (sepPort p) f
    F.SEP_FN_INFO_FLR_BUSY = 0 ∧ s.SameRegs t [R.SEP_FN_INFO (sepPort p) f, R.ARB_REQ (42 + sepPort p) f]) ∧
  -- SEP_HOST_PERST that asserts PERST disables the link
  (∀ (s : State) (p : Fin 2), s.isSep (sepPort p) = true → Completes (.sepHostPerst p false) s fun t => t.ltssm (sepSeg (sepPort p)) = L_DISABLED ∧
    t.f (rStat (sepSeg (sepPort p))) F.SEG_STAT_PERST = 1 ∧ t.f (rStat (sepSeg (sepPort p))) F.SEG_STAT_DLL_ACTIVE = 0) ∧
  -- SEP_HOST_PERST that reports the link down takes it to Detect
  (∀ (s : State) (p : Fin 2), s.isSep (sepPort p) = true → s.linkOff (sepSeg (sepPort p)) = false → Completes (.sepHostPerst p true) s fun t =>
    t.ltssm (sepSeg (sepPort p)) = L_DETECT ∧ t.f (rStat (sepSeg (sepPort p))) F.SEG_STAT_DLL_ACTIVE = 0) ∧
  -- SEP_HOST_PERST_RELEASE takes it to Detect
  (∀ (s : State) (p : Fin 2), s.isSep (sepPort p) = true → s.ltssm (sepSeg (sepPort p)) = L_DISABLED → s.locked = false → Completes
    (.sepHostPerstRelease p) s fun t => t.ltssm (sepSeg (sepPort p)) = L_DETECT ∧ t.f (rStat (sepSeg (sepPort p))) F.SEG_STAT_PERST = 0 ∧ s.SameRegs t
    [rStat (sepSeg (sepPort p))])

/-- How a message travels: its header fields and payload in the 640 bits of its flits (R180, R181), the mask and data flits of partial accesses
  (R183), and the link CRC that the receiver checks (R185). -/
def Obligations.FlitLayout : Prop :=
  -- a single or mask flit carries each field of the header at its bits
  (∀ (m : CMsg) (form : Nat), m.ok = true → form < 4 → form ≠ 2 → flitField (flitWord m form) 4 2 = form ∧ flitField (flitWord m form) 6 4 = m.part ∧
    flitField (flitWord m form) 10 3 = m.src.pkg ∧ flitField (flitWord m form) 13 8 = m.src.unit ∧ flitField (flitWord m form) 21 3 = m.dst.pkg ∧
    flitField (flitWord m form) 24 8 = m.dst.unit ∧ flitField (flitWord m form) 32 12 = m.txn ∧ flitField (flitWord m form) 44 6 = opcodeOf m.op ∧
    flitField (flitWord m form) 50 46 = m.line) ∧
  -- CLASS and OPCODE name the operation
  (∀ (m n : CMsg) (f g : Nat), f < 4 → f ≠ 2 → g < 4 → g ≠ 2 → flitField (flitWord m f) 0 3 = flitField (flitWord n g) 0 3 → flitField
    (flitWord m f) 44 6 = flitField (flitWord n g) 44 6 → m.op = n.op) ∧
  -- a partial write is a mask flit and a data flit: the mask, then the header without opcode and address
  (∀ (m : CMsg), partialWrite m = true → formsOf m = [1, 2] ∧ flitField (flitWord m 1) 96 512 = m.mask.toNat ∧ flitField (flitWord m 2) 0 4 =
    flitField (flitWord m 1) 0 4 ∧ flitField (flitWord m 2) 4 2 = 2 ∧ flitField (flitWord m 2) 6 38 = flitField (flitWord m 1) 6 38 ∧ flitField
    (flitWord m 2) 44 52 = 0) ∧
  -- the data flit of a partial write holds the masked bytes among zeros
  (∀ (m : CMsg) (i : Nat), partialWrite m = true → i < 64 → flitField (flitWord m 2) (96 + 8 * i) 8 = if m.mask.getLsbD i then lineByte m.data i
    else 0) ∧
  -- a partial read is a mask flit alone
  (∀ (m : CMsg), partialRead m = true → formsOf m = [3] ∧ flitField (flitWord m 3) 96 512 = m.mask.toNat) ∧
  -- a line and its header travel as one flit: byte i of the line at bits 96 + 8i
  (∀ (m : CMsg) (i : Nat), i < 64 → m.op ∈ [COp.dataS, .dataE, .dataM, .dataO, .dataUc, .snpData, .wbDirty] → formsOf m = [0] ∧ flitField (flitWord
    m 0) (96 + 8 * i) 8 = lineByte m.data i) ∧
  -- the receiver finds the CRC over bits 607:0 in bits 639:608
  (∀ (m : CMsg) (form : Nat), flitGood (flitWord m form) = true ∧ flitField (flitWord m form) 608 32 = (flitCrc (flitBody m form)).toNat)

/-- R240: the DRAM fields of a channel-local line. Bit 0 is the subchannel, the package rank the most significant field, by division; and where
  the channel's capacity is that of the geometry, two lines of it never name one location. The geometry of a device is the model's (PRESUMED,
  log entry 87). -/
def Obligations.DramLocations : Prop :=
  -- the subchannel, the column and the rank
  (∀ (s : State) (c : Chan) (l : Nat), (s.dramLoc c l).subch = l % 2 ∧ (s.rankLines c ≠ 0 → (s.dramLoc c l).rank = l / s.rankLines c) ∧ (s.dramLoc c
    l).col < 2 ^ 7 ∧ (s.dramLoc c l).bankGroup < 8 ∧ (s.dramLoc c l).bank < 4 ∧ (s.dramLoc c l).row < s.rowsOf c ∧ (s.dramLoc c l).die < s.diesOf
    c) ∧
  -- no two lines at one location
  (∀ (s : State) (c : Chan) (l k : Nat), s.rankLines c = 2 ^ 13 * (s.rowsOf c * s.diesOf c) → s.dramLoc c l = s.dramLoc c k → l = k)
end

