-- ==== Sys2Proof/Laws/Maps.lean ====
section
/-! SUPPORT. Sparse maps and the register file: what a read sees after a write, and that the canonical forms are kept. -/

namespace Sys2Proof.Machine

section Maps
variable {α : Type}

@[simp] theorem SMap.mem_del (m : SMap α) (n : Nat) (e : Nat × α) : e ∈ m.del n ↔ e ∈ m ∧ e.1 ≠ n := by
  simp [SMap.del]

@[simp] theorem SMap.mem_ins (m : SMap α) (n : Nat) (v : α) (e : Nat × α) : e ∈ m.ins n v ↔ e = (n, v) ∨ e ∈ m := by
  induction m with
  | nil => simp [SMap.ins]
  | cons x r ih =>
    obtain ⟨k, w⟩ := x
    by_cases h : n < k <;> simp [SMap.ins, h, ih]
    tauto

theorem SMap.del_rising {m : SMap α} (h : m.Pairwise fun a b => a.1 < b.1) (n : Nat) :
    (m.del n).Pairwise fun a b => a.1 < b.1 := h.filter _

theorem SMap.ins_rising {m : SMap α} {n : Nat} {v : α} (h : m.Pairwise fun a b => a.1 < b.1) (hn : ∀ e ∈ m, e.1 ≠ n) :
    (m.ins n v).Pairwise fun a b => a.1 < b.1 := by
  induction m with
  | nil => simp [SMap.ins]
  | cons x r ih =>
    obtain ⟨k, w⟩ := x
    have hk := List.pairwise_cons.mp h
    have hne : k ≠ n := hn (k, w) (by simp)
    by_cases hlt : n < k
    · simp only [SMap.ins, if_pos hlt]
      refine List.pairwise_cons.mpr ⟨fun e he => ?_, h⟩
      rcases List.mem_cons.mp he with rfl | he
      · exact hlt
      · exact lt_trans hlt (hk.1 e he)
    · simp only [SMap.ins, if_neg hlt]
      refine List.pairwise_cons.mpr ⟨fun e he => ?_, ih hk.2 fun e he => hn e (List.mem_cons_of_mem _ he)⟩
      rcases (SMap.mem_ins r n v e).mp he with rfl | he
      · exact lt_of_le_of_ne (Nat.le_of_not_lt hlt) hne
      · exact hk.1 e he

variable [Inhabited α] [DecidableEq α]

theorem SMap.wf_iff (m : SMap α) :
    m.wf = true ↔ m.Pairwise (fun a b => a.1 < b.1) ∧ ∀ e ∈ m, e.2 ≠ default := by
  induction m with
  | nil => simp [SMap.wf]
  | cons x r ih =>
    obtain ⟨k, v⟩ := x
    cases r with
    | nil => simp [SMap.wf]
    | cons y r =>
      obtain ⟨k', v'⟩ := y
      simp only [SMap.wf, Bool.and_eq_true, bne_iff_ne, ne_eq, decide_eq_true_eq, ih, List.pairwise_cons, List.mem_cons,
        forall_eq_or_imp]
      constructor
      · rintro ⟨⟨hv, hk⟩, ⟨h1, h2⟩, h3, h4⟩
        exact ⟨⟨⟨hk, fun e he => lt_trans hk (h1 e he)⟩, h1, h2⟩, hv, h3, h4⟩
      · rintro ⟨⟨⟨hk, _⟩, h1, h2⟩, hv, h3, h4⟩
        exact ⟨⟨hv, hk⟩, ⟨h1, h2⟩, h3, h4⟩

theorem SMap.put_wf {m : SMap α} (h : m.wf = true) (n : Nat) (v : α) : (m.put n v).wf = true := by
  rw [SMap.wf_iff] at h ⊢
  have hd := SMap.del_rising h.1 n
  unfold SMap.put
  split
  · exact ⟨hd, fun e he => h.2 e ((SMap.mem_del m n e).mp he).1⟩
  · rename_i hv
    refine ⟨SMap.ins_rising hd fun e he => ((SMap.mem_del m n e).mp he).2, fun e he => ?_⟩
    rcases (SMap.mem_ins _ n v e).mp he with rfl | he
    · exact hv
    · exact h.2 e ((SMap.mem_del m n e).mp he).1

theorem SMap.filter_wf {m : SMap α} (h : m.wf = true) (p : Nat × α → Bool) : SMap.wf (m.filter p) = true := by
  rw [SMap.wf_iff] at h ⊢
  exact ⟨h.1.filter p, fun e he => h.2 e (List.mem_filter.mp he).1⟩

omit [DecidableEq α] in
theorem SMap.get_del (m : SMap α) (n k : Nat) : (m.del n).get k = if k = n then default else m.get k := by
  induction m with
  | nil => simp [SMap.del, SMap.get]
  | cons x r ih =>
    obtain ⟨j, v⟩ := x
    simp only [SMap.del] at ih
    by_cases hj : j = n
    · subst hj
      by_cases hk : k = j
      · subst hk; simpa [SMap.del, SMap.get] using ih
      · simp [SMap.del, SMap.get, hk, Ne.symm hk] at ih ⊢
        exact ih
    · by_cases hk : j = k
      · subst hk; simp [SMap.del, SMap.get, hj]
      · simp [SMap.del, SMap.get, hj, hk] at ih ⊢
        exact ih

omit [DecidableEq α] in
theorem SMap.get_ins (m : SMap α) (n k : Nat) (v : α) (hn : ∀ e ∈ m, e.1 ≠ n) :
    (m.ins n v).get k = if k = n then v else m.get k := by
  induction m with
  | nil => by_cases hk : k = n <;> simp [SMap.ins, SMap.get, hk, Ne.symm]
  | cons x r ih =>
    obtain ⟨j, w⟩ := x
    have hj : j ≠ n := hn (j, w) (by simp)
    have ih := ih fun e he => hn e (List.mem_cons_of_mem _ he)
    by_cases hlt : n < j
    · by_cases hk : k = n
      · subst hk; simp [SMap.ins, SMap.get, hlt]
      · simp [SMap.ins, SMap.get, hlt, hk, Ne.symm hk]
    · by_cases hk : j = k
      · subst hk; simp [SMap.ins, SMap.get, hlt, hj]
      · simp [SMap.ins, SMap.get, hlt, hk, ih]

/-- A read after a write. -/
@[simp] theorem SMap.get_put (m : SMap α) (n k : Nat) (v : α) : (m.put n v).get k = if k = n then v else m.get k := by
  unfold SMap.put
  split
  · rename_i hv; rw [SMap.get_del, hv]
  · rw [SMap.get_ins _ _ _ _ fun e he => ((SMap.mem_del m n e).mp he).2, SMap.get_del]
    by_cases hk : k = n <;> simp [hk]

@[simp] theorem SMap.get_upd (m : SMap α) (n k : Nat) (f : α → α) :
    (m.upd n f).get k = if k = n then f (m.get n) else m.get k := by simp [SMap.upd]

end Maps

/-! ## Registers -/

theorem regFind_del (m : SMap Word) (n k : Nat) : regFind (m.del n) k = if k = n then none else regFind m k := by
  induction m with
  | nil => simp [SMap.del, regFind]
  | cons x r ih =>
    obtain ⟨j, v⟩ := x
    simp only [SMap.del] at ih
    by_cases hj : j = n
    · subst hj
      by_cases hk : k = j
      · subst hk; simpa [SMap.del, regFind] using ih
      · simp [SMap.del, regFind, hk, Ne.symm hk] at ih ⊢
        exact ih
    · by_cases hk : j = k
      · subst hk; simp [SMap.del, regFind, hj]
      · simp [SMap.del, regFind, hj, hk] at ih ⊢
        exact ih

theorem regFind_ins (m : SMap Word) (n k : Nat) (v : Word) (hn : ∀ e ∈ m, e.1 ≠ n) :
    regFind (m.ins n v) k = if k = n then some v else regFind m k := by
  induction m with
  | nil => by_cases hk : k = n <;> simp [SMap.ins, regFind, hk]
           exact fun h => hk h.symm
  | cons x r ih =>
    obtain ⟨j, w⟩ := x
    have hj : j ≠ n := hn (j, w) (by simp)
    have ih := ih fun e he => hn e (List.mem_cons_of_mem _ he)
    by_cases hlt : n < j
    · by_cases hk : k = n
      · subst hk; simp [SMap.ins, regFind, hlt]
      · simp [SMap.ins, regFind, hlt, hk, Ne.symm hk]
    · by_cases hk : j = k
      · subst hk; simp [SMap.ins, regFind, hlt, hj]
      · simp [SMap.ins, regFind, hlt, hk, ih]

/-- A register read after a register write. -/
theorem State.reg_setReg (s : State) (off k : Nat) (w : Word) :
    (s.setReg off w).reg k = if k = off then w else s.reg k := by
  unfold State.reg State.setReg
  by_cases hw : w = regReset off
  · simp only [if_pos hw, regFind_del]
    by_cases hk : k = off <;> simp [hk, hw]
  · simp only [if_neg hw]
    rw [regFind_ins _ _ _ _ fun e he => ((SMap.mem_del s.regs off e).mp he).2, regFind_del]
    by_cases hk : k = off <;> simp [hk]

@[simp] theorem State.reg_setReg_same (s : State) (off : Nat) (w : Word) : (s.setReg off w).reg off = w := by
  simp [State.reg_setReg]

theorem State.reg_setReg_ne (s : State) {off k : Nat} (w : Word) (h : k ≠ off) : (s.setReg off w).reg k = s.reg k := by
  simp [State.reg_setReg, h]

theorem regsWf_setReg {s : State} (h : regsWf s.regs) (off : Nat) (w : Word) : regsWf (s.setReg off w).regs := by
  have hd := SMap.del_rising h.1 off
  unfold State.setReg
  dsimp only
  split
  · exact ⟨hd, fun e he => h.2 e ((SMap.mem_del _ off e).mp he).1⟩
  · rename_i hw
    refine ⟨SMap.ins_rising hd fun e he => ((SMap.mem_del _ off e).mp he).2, fun e he => ?_⟩
    rcases (SMap.mem_ins _ off w e).mp he with rfl | he
    · exact hw
    · exact h.2 e ((SMap.mem_del _ off e).mp he).1

theorem regsWf_filter {m : SMap Word} (h : regsWf m) (p : Nat × Word → Bool) : regsWf (m.filter p) :=
  ⟨h.1.filter p, fun e he => h.2 e (List.mem_filter.mp he).1⟩

/-! ## Stored bytes -/

@[simp] theorem Mem.byte_setByte (m : Mem) (k j : Nat) (v : Byte) :
    Mem.byte (Mem.setByte m k v) j = if j = k then v else Mem.byte m j := SMap.get_put m k j v

theorem Mem.setByte_wf {m : Mem} (h : Mem.wf m = true) (k : Nat) (v : Byte) : Mem.wf (Mem.setByte m k v) = true :=
  SMap.put_wf h k v

theorem Mem.setLine_wf {m : Mem} (h : Mem.wf m = true) (c l : Nat) (x : Stored) : Mem.wf (Mem.setLine m c l x) = true := by
  unfold Mem.setLine
  generalize List.range 80 = bs
  induction bs generalizing m with
  | nil => exact h
  | cons b r ih => exact ih (Mem.setByte_wf h _ _)

end Sys2Proof.Machine
end

