-- ==== Sys2Proof/Laws/State.lean ====
section
/-! SUPPORT. One lemma for each field of State under each of its updates. -/

namespace Sys2Proof.Machine

section
variable (s : State)

@[simp] theorem State.onBeat_regs (f : BeatSt → BeatSt) : (s.onBeat f).regs = s.regs := rfl
@[simp] theorem State.onBeat_beat (f : BeatSt → BeatSt) : (s.onBeat f).beat = f s.beat := rfl
@[simp] theorem State.onBeat_boot (f : BeatSt → BeatSt) : (s.onBeat f).boot = s.boot := rfl
@[simp] theorem State.onBeat_cores (f : BeatSt → BeatSt) : (s.onBeat f).cores = s.cores := rfl
@[simp] theorem State.onBeat_cache (f : BeatSt → BeatSt) : (s.onBeat f).cache = s.cache := rfl
@[simp] theorem State.onBeat_xlat (f : BeatSt → BeatSt) : (s.onBeat f).xlat = s.xlat := rfl
@[simp] theorem State.onBeat_fab (f : BeatSt → BeatSt) : (s.onBeat f).fab = s.fab := rfl
@[simp] theorem State.onBeat_home (f : BeatSt → BeatSt) : (s.onBeat f).home = s.home := rfl
@[simp] theorem State.onBeat_dram (f : BeatSt → BeatSt) : (s.onBeat f).dram = s.dram := rfl
@[simp] theorem State.onBeat_links (f : BeatSt → BeatSt) : (s.onBeat f).links = s.links := rfl
@[simp] theorem State.onBeat_sec (f : BeatSt → BeatSt) : (s.onBeat f).sec = s.sec := rfl
@[simp] theorem State.onBeat_crypto (f : BeatSt → BeatSt) : (s.onBeat f).crypto = s.crypto := rfl
@[simp] theorem State.onBeat_pcie (f : BeatSt → BeatSt) : (s.onBeat f).pcie = s.pcie := rfl
@[simp] theorem State.onBeat_pwr (f : BeatSt → BeatSt) : (s.onBeat f).pwr = s.pwr := rfl
@[simp] theorem State.onBeat_err (f : BeatSt → BeatSt) : (s.onBeat f).err = s.err := rfl
@[simp] theorem State.onBeat_sent (f : BeatSt → BeatSt) : (s.onBeat f).sent = s.sent := rfl
@[simp] theorem State.onBeat_flits (f : BeatSt → BeatSt) : (s.onBeat f).flits = s.flits := rfl
@[simp] theorem State.onBeat_freeCtr (f : BeatSt → BeatSt) : (s.onBeat f).freeCtr = s.freeCtr := rfl
@[simp] theorem State.onBeat_pending (f : BeatSt → BeatSt) : (s.onBeat f).pending = s.pending := rfl
@[simp] theorem State.onBeat_reg (f : BeatSt → BeatSt) (k : Nat) : (s.onBeat f).reg k = s.reg k := rfl
@[simp] theorem State.onBeat_f (f : BeatSt → BeatSt) (k : Nat) (fl : Fld) : (s.onBeat f).f k fl = s.f k fl := rfl

@[simp] theorem State.onBoot_regs (f : BootSt → BootSt) : (s.onBoot f).regs = s.regs := rfl
@[simp] theorem State.onBoot_beat (f : BootSt → BootSt) : (s.onBoot f).beat = s.beat := rfl
@[simp] theorem State.onBoot_boot (f : BootSt → BootSt) : (s.onBoot f).boot = f s.boot := rfl
@[simp] theorem State.onBoot_cores (f : BootSt → BootSt) : (s.onBoot f).cores = s.cores := rfl
@[simp] theorem State.onBoot_cache (f : BootSt → BootSt) : (s.onBoot f).cache = s.cache := rfl
@[simp] theorem State.onBoot_xlat (f : BootSt → BootSt) : (s.onBoot f).xlat = s.xlat := rfl
@[simp] theorem State.onBoot_fab (f : BootSt → BootSt) : (s.onBoot f).fab = s.fab := rfl
@[simp] theorem State.onBoot_home (f : BootSt → BootSt) : (s.onBoot f).home = s.home := rfl
@[simp] theorem State.onBoot_dram (f : BootSt → BootSt) : (s.onBoot f).dram = s.dram := rfl
@[simp] theorem State.onBoot_links (f : BootSt → BootSt) : (s.onBoot f).links = s.links := rfl
@[simp] theorem State.onBoot_sec (f : BootSt → BootSt) : (s.onBoot f).sec = s.sec := rfl
@[simp] theorem State.onBoot_crypto (f : BootSt → BootSt) : (s.onBoot f).crypto = s.crypto := rfl
@[simp] theorem State.onBoot_pcie (f : BootSt → BootSt) : (s.onBoot f).pcie = s.pcie := rfl
@[simp] theorem State.onBoot_pwr (f : BootSt → BootSt) : (s.onBoot f).pwr = s.pwr := rfl
@[simp] theorem State.onBoot_err (f : BootSt → BootSt) : (s.onBoot f).err = s.err := rfl
@[simp] theorem State.onBoot_sent (f : BootSt → BootSt) : (s.onBoot f).sent = s.sent := rfl
@[simp] theorem State.onBoot_flits (f : BootSt → BootSt) : (s.onBoot f).flits = s.flits := rfl
@[simp] theorem State.onBoot_freeCtr (f : BootSt → BootSt) : (s.onBoot f).freeCtr = s.freeCtr := rfl
@[simp] theorem State.onBoot_pending (f : BootSt → BootSt) : (s.onBoot f).pending = s.pending := rfl
@[simp] theorem State.onBoot_reg (f : BootSt → BootSt) (k : Nat) : (s.onBoot f).reg k = s.reg k := rfl
@[simp] theorem State.onBoot_f (f : BootSt → BootSt) (k : Nat) (fl : Fld) : (s.onBoot f).f k fl = s.f k fl := rfl

@[simp] theorem State.onCores_regs (f : CoreSt → CoreSt) : (s.onCores f).regs = s.regs := rfl
@[simp] theorem State.onCores_beat (f : CoreSt → CoreSt) : (s.onCores f).beat = s.beat := rfl
@[simp] theorem State.onCores_boot (f : CoreSt → CoreSt) : (s.onCores f).boot = s.boot := rfl
@[simp] theorem State.onCores_cores (f : CoreSt → CoreSt) : (s.onCores f).cores = f s.cores := rfl
@[simp] theorem State.onCores_cache (f : CoreSt → CoreSt) : (s.onCores f).cache = s.cache := rfl
@[simp] theorem State.onCores_xlat (f : CoreSt → CoreSt) : (s.onCores f).xlat = s.xlat := rfl
@[simp] theorem State.onCores_fab (f : CoreSt → CoreSt) : (s.onCores f).fab = s.fab := rfl
@[simp] theorem State.onCores_home (f : CoreSt → CoreSt) : (s.onCores f).home = s.home := rfl
@[simp] theorem State.onCores_dram (f : CoreSt → CoreSt) : (s.onCores f).dram = s.dram := rfl
@[simp] theorem State.onCores_links (f : CoreSt → CoreSt) : (s.onCores f).links = s.links := rfl
@[simp] theorem State.onCores_sec (f : CoreSt → CoreSt) : (s.onCores f).sec = s.sec := rfl
@[simp] theorem State.onCores_crypto (f : CoreSt → CoreSt) : (s.onCores f).crypto = s.crypto := rfl
@[simp] theorem State.onCores_pcie (f : CoreSt → CoreSt) : (s.onCores f).pcie = s.pcie := rfl
@[simp] theorem State.onCores_pwr (f : CoreSt → CoreSt) : (s.onCores f).pwr = s.pwr := rfl
@[simp] theorem State.onCores_err (f : CoreSt → CoreSt) : (s.onCores f).err = s.err := rfl
@[simp] theorem State.onCores_sent (f : CoreSt → CoreSt) : (s.onCores f).sent = s.sent := rfl
@[simp] theorem State.onCores_flits (f : CoreSt → CoreSt) : (s.onCores f).flits = s.flits := rfl
@[simp] theorem State.onCores_freeCtr (f : CoreSt → CoreSt) : (s.onCores f).freeCtr = s.freeCtr := rfl
@[simp] theorem State.onCores_pending (f : CoreSt → CoreSt) : (s.onCores f).pending = s.pending := rfl
@[simp] theorem State.onCores_reg (f : CoreSt → CoreSt) (k : Nat) : (s.onCores f).reg k = s.reg k := rfl
@[simp] theorem State.onCores_f (f : CoreSt → CoreSt) (k : Nat) (fl : Fld) : (s.onCores f).f k fl = s.f k fl := rfl

@[simp] theorem State.onCache_regs (f : CacheSt → CacheSt) : (s.onCache f).regs = s.regs := rfl
@[simp] theorem State.onCache_beat (f : CacheSt → CacheSt) : (s.onCache f).beat = s.beat := rfl
@[simp] theorem State.onCache_boot (f : CacheSt → CacheSt) : (s.onCache f).boot = s.boot := rfl
@[simp] theorem State.onCache_cores (f : CacheSt → CacheSt) : (s.onCache f).cores = s.cores := rfl
@[simp] theorem State.onCache_cache (f : CacheSt → CacheSt) : (s.onCache f).cache = f s.cache := rfl
@[simp] theorem State.onCache_xlat (f : CacheSt → CacheSt) : (s.onCache f).xlat = s.xlat := rfl
@[simp] theorem State.onCache_fab (f : CacheSt → CacheSt) : (s.onCache f).fab = s.fab := rfl
@[simp] theorem State.onCache_home (f : CacheSt → CacheSt) : (s.onCache f).home = s.home := rfl
@[simp] theorem State.onCache_dram (f : CacheSt → CacheSt) : (s.onCache f).dram = s.dram := rfl
@[simp] theorem State.onCache_links (f : CacheSt → CacheSt) : (s.onCache f).links = s.links := rfl
@[simp] theorem State.onCache_sec (f : CacheSt → CacheSt) : (s.onCache f).sec = s.sec := rfl
@[simp] theorem State.onCache_crypto (f : CacheSt → CacheSt) : (s.onCache f).crypto = s.crypto := rfl
@[simp] theorem State.onCache_pcie (f : CacheSt → CacheSt) : (s.onCache f).pcie = s.pcie := rfl
@[simp] theorem State.onCache_pwr (f : CacheSt → CacheSt) : (s.onCache f).pwr = s.pwr := rfl
@[simp] theorem State.onCache_err (f : CacheSt → CacheSt) : (s.onCache f).err = s.err := rfl
@[simp] theorem State.onCache_sent (f : CacheSt → CacheSt) : (s.onCache f).sent = s.sent := rfl
@[simp] theorem State.onCache_flits (f : CacheSt → CacheSt) : (s.onCache f).flits = s.flits := rfl
@[simp] theorem State.onCache_freeCtr (f : CacheSt → CacheSt) : (s.onCache f).freeCtr = s.freeCtr := rfl
@[simp] theorem State.onCache_pending (f : CacheSt → CacheSt) : (s.onCache f).pending = s.pending := rfl
@[simp] theorem State.onCache_reg (f : CacheSt → CacheSt) (k : Nat) : (s.onCache f).reg k = s.reg k := rfl
@[simp] theorem State.onCache_f (f : CacheSt → CacheSt) (k : Nat) (fl : Fld) : (s.onCache f).f k fl = s.f k fl := rfl

@[simp] theorem State.onXlat_regs (f : XlatSt → XlatSt) : (s.onXlat f).regs = s.regs := rfl
@[simp] theorem State.onXlat_beat (f : XlatSt → XlatSt) : (s.onXlat f).beat = s.beat := rfl
@[simp] theorem State.onXlat_boot (f : XlatSt → XlatSt) : (s.onXlat f).boot = s.boot := rfl
@[simp] theorem State.onXlat_cores (f : XlatSt → XlatSt) : (s.onXlat f).cores = s.cores := rfl
@[simp] theorem State.onXlat_cache (f : XlatSt → XlatSt) : (s.onXlat f).cache = s.cache := rfl
@[simp] theorem State.onXlat_xlat (f : XlatSt → XlatSt) : (s.onXlat f).xlat = f s.xlat := rfl
@[simp] theorem State.onXlat_fab (f : XlatSt → XlatSt) : (s.onXlat f).fab = s.fab := rfl
@[simp] theorem State.onXlat_home (f : XlatSt → XlatSt) : (s.onXlat f).home = s.home := rfl
@[simp] theorem State.onXlat_dram (f : XlatSt → XlatSt) : (s.onXlat f).dram = s.dram := rfl
@[simp] theorem State.onXlat_links (f : XlatSt → XlatSt) : (s.onXlat f).links = s.links := rfl
@[simp] theorem State.onXlat_sec (f : XlatSt → XlatSt) : (s.onXlat f).sec = s.sec := rfl
@[simp] theorem State.onXlat_crypto (f : XlatSt → XlatSt) : (s.onXlat f).crypto = s.crypto := rfl
@[simp] theorem State.onXlat_pcie (f : XlatSt → XlatSt) : (s.onXlat f).pcie = s.pcie := rfl
@[simp] theorem State.onXlat_pwr (f : XlatSt → XlatSt) : (s.onXlat f).pwr = s.pwr := rfl
@[simp] theorem State.onXlat_err (f : XlatSt → XlatSt) : (s.onXlat f).err = s.err := rfl
@[simp] theorem State.onXlat_sent (f : XlatSt → XlatSt) : (s.onXlat f).sent = s.sent := rfl
@[simp] theorem State.onXlat_flits (f : XlatSt → XlatSt) : (s.onXlat f).flits = s.flits := rfl
@[simp] theorem State.onXlat_freeCtr (f : XlatSt → XlatSt) : (s.onXlat f).freeCtr = s.freeCtr := rfl
@[simp] theorem State.onXlat_pending (f : XlatSt → XlatSt) : (s.onXlat f).pending = s.pending := rfl
@[simp] theorem State.onXlat_reg (f : XlatSt → XlatSt) (k : Nat) : (s.onXlat f).reg k = s.reg k := rfl
@[simp] theorem State.onXlat_f (f : XlatSt → XlatSt) (k : Nat) (fl : Fld) : (s.onXlat f).f k fl = s.f k fl := rfl

@[simp] theorem State.onFab_regs (f : FabSt → FabSt) : (s.onFab f).regs = s.regs := rfl
@[simp] theorem State.onFab_beat (f : FabSt → FabSt) : (s.onFab f).beat = s.beat := rfl
@[simp] theorem State.onFab_boot (f : FabSt → FabSt) : (s.onFab f).boot = s.boot := rfl
@[simp] theorem State.onFab_cores (f : FabSt → FabSt) : (s.onFab f).cores = s.cores := rfl
@[simp] theorem State.onFab_cache (f : FabSt → FabSt) : (s.onFab f).cache = s.cache := rfl
@[simp] theorem State.onFab_xlat (f : FabSt → FabSt) : (s.onFab f).xlat = s.xlat := rfl
@[simp] theorem State.onFab_fab (f : FabSt → FabSt) : (s.onFab f).fab = f s.fab := rfl
@[simp] theorem State.onFab_home (f : FabSt → FabSt) : (s.onFab f).home = s.home := rfl
@[simp] theorem State.onFab_dram (f : FabSt → FabSt) : (s.onFab f).dram = s.dram := rfl
@[simp] theorem State.onFab_links (f : FabSt → FabSt) : (s.onFab f).links = s.links := rfl
@[simp] theorem State.onFab_sec (f : FabSt → FabSt) : (s.onFab f).sec = s.sec := rfl
@[simp] theorem State.onFab_crypto (f : FabSt → FabSt) : (s.onFab f).crypto = s.crypto := rfl
@[simp] theorem State.onFab_pcie (f : FabSt → FabSt) : (s.onFab f).pcie = s.pcie := rfl
@[simp] theorem State.onFab_pwr (f : FabSt → FabSt) : (s.onFab f).pwr = s.pwr := rfl
@[simp] theorem State.onFab_err (f : FabSt → FabSt) : (s.onFab f).err = s.err := rfl
@[simp] theorem State.onFab_sent (f : FabSt → FabSt) : (s.onFab f).sent = s.sent := rfl
@[simp] theorem State.onFab_flits (f : FabSt → FabSt) : (s.onFab f).flits = s.flits := rfl
@[simp] theorem State.onFab_freeCtr (f : FabSt → FabSt) : (s.onFab f).freeCtr = s.freeCtr := rfl
@[simp] theorem State.onFab_pending (f : FabSt → FabSt) : (s.onFab f).pending = s.pending := rfl
@[simp] theorem State.onFab_reg (f : FabSt → FabSt) (k : Nat) : (s.onFab f).reg k = s.reg k := rfl
@[simp] theorem State.onFab_f (f : FabSt → FabSt) (k : Nat) (fl : Fld) : (s.onFab f).f k fl = s.f k fl := rfl

@[simp] theorem State.onHome_regs (f : HomeSt → HomeSt) : (s.onHome f).regs = s.regs := rfl
@[simp] theorem State.onHome_beat (f : HomeSt → HomeSt) : (s.onHome f).beat = s.beat := rfl
@[simp] theorem State.onHome_boot (f : HomeSt → HomeSt) : (s.onHome f).boot = s.boot := rfl
@[simp] theorem State.onHome_cores (f : HomeSt → HomeSt) : (s.onHome f).cores = s.cores := rfl
@[simp] theorem State.onHome_cache (f : HomeSt → HomeSt) : (s.onHome f).cache = s.cache := rfl
@[simp] theorem State.onHome_xlat (f : HomeSt → HomeSt) : (s.onHome f).xlat = s.xlat := rfl
@[simp] theorem State.onHome_fab (f : HomeSt → HomeSt) : (s.onHome f).fab = s.fab := rfl
@[simp] theorem State.onHome_home (f : HomeSt → HomeSt) : (s.onHome f).home = f s.home := rfl
@[simp] theorem State.onHome_dram (f : HomeSt → HomeSt) : (s.onHome f).dram = s.dram := rfl
@[simp] theorem State.onHome_links (f : HomeSt → HomeSt) : (s.onHome f).links = s.links := rfl
@[simp] theorem State.onHome_sec (f : HomeSt → HomeSt) : (s.onHome f).sec = s.sec := rfl
@[simp] theorem State.onHome_crypto (f : HomeSt → HomeSt) : (s.onHome f).crypto = s.crypto := rfl
@[simp] theorem State.onHome_pcie (f : HomeSt → HomeSt) : (s.onHome f).pcie = s.pcie := rfl
@[simp] theorem State.onHome_pwr (f : HomeSt → HomeSt) : (s.onHome f).pwr = s.pwr := rfl
@[simp] theorem State.onHome_err (f : HomeSt → HomeSt) : (s.onHome f).err = s.err := rfl
@[simp] theorem State.onHome_sent (f : HomeSt → HomeSt) : (s.onHome f).sent = s.sent := rfl
@[simp] theorem State.onHome_flits (f : HomeSt → HomeSt) : (s.onHome f).flits = s.flits := rfl
@[simp] theorem State.onHome_freeCtr (f : HomeSt → HomeSt) : (s.onHome f).freeCtr = s.freeCtr := rfl
@[simp] theorem State.onHome_pending (f : HomeSt → HomeSt) : (s.onHome f).pending = s.pending := rfl
@[simp] theorem State.onHome_reg (f : HomeSt → HomeSt) (k : Nat) : (s.onHome f).reg k = s.reg k := rfl
@[simp] theorem State.onHome_f (f : HomeSt → HomeSt) (k : Nat) (fl : Fld) : (s.onHome f).f k fl = s.f k fl := rfl

@[simp] theorem State.onDram_regs (f : DramSt → DramSt) : (s.onDram f).regs = s.regs := rfl
@[simp] theorem State.onDram_beat (f : DramSt → DramSt) : (s.onDram f).beat = s.beat := rfl
@[simp] theorem State.onDram_boot (f : DramSt → DramSt) : (s.onDram f).boot = s.boot := rfl
@[simp] theorem State.onDram_cores (f : DramSt → DramSt) : (s.onDram f).cores = s.cores := rfl
@[simp] theorem State.onDram_cache (f : DramSt → DramSt) : (s.onDram f).cache = s.cache := rfl
@[simp] theorem State.onDram_xlat (f : DramSt → DramSt) : (s.onDram f).xlat = s.xlat := rfl
@[simp] theorem State.onDram_fab (f : DramSt → DramSt) : (s.onDram f).fab = s.fab := rfl
@[simp] theorem State.onDram_home (f : DramSt → DramSt) : (s.onDram f).home = s.home := rfl
@[simp] theorem State.onDram_dram (f : DramSt → DramSt) : (s.onDram f).dram = f s.dram := rfl
@[simp] theorem State.onDram_links (f : DramSt → DramSt) : (s.onDram f).links = s.links := rfl
@[simp] theorem State.onDram_sec (f : DramSt → DramSt) : (s.onDram f).sec = s.sec := rfl
@[simp] theorem State.onDram_crypto (f : DramSt → DramSt) : (s.onDram f).crypto = s.crypto := rfl
@[simp] theorem State.onDram_pcie (f : DramSt → DramSt) : (s.onDram f).pcie = s.pcie := rfl
@[simp] theorem State.onDram_pwr (f : DramSt → DramSt) : (s.onDram f).pwr = s.pwr := rfl
@[simp] theorem State.onDram_err (f : DramSt → DramSt) : (s.onDram f).err = s.err := rfl
@[simp] theorem State.onDram_sent (f : DramSt → DramSt) : (s.onDram f).sent = s.sent := rfl
@[simp] theorem State.onDram_flits (f : DramSt → DramSt) : (s.onDram f).flits = s.flits := rfl
@[simp] theorem State.onDram_freeCtr (f : DramSt → DramSt) : (s.onDram f).freeCtr = s.freeCtr := rfl
@[simp] theorem State.onDram_pending (f : DramSt → DramSt) : (s.onDram f).pending = s.pending := rfl
@[simp] theorem State.onDram_reg (f : DramSt → DramSt) (k : Nat) : (s.onDram f).reg k = s.reg k := rfl
@[simp] theorem State.onDram_f (f : DramSt → DramSt) (k : Nat) (fl : Fld) : (s.onDram f).f k fl = s.f k fl := rfl

@[simp] theorem State.onLinks_regs (f : LinkSt → LinkSt) : (s.onLinks f).regs = s.regs := rfl
@[simp] theorem State.onLinks_beat (f : LinkSt → LinkSt) : (s.onLinks f).beat = s.beat := rfl
@[simp] theorem State.onLinks_boot (f : LinkSt → LinkSt) : (s.onLinks f).boot = s.boot := rfl
@[simp] theorem State.onLinks_cores (f : LinkSt → LinkSt) : (s.onLinks f).cores = s.cores := rfl
@[simp] theorem State.onLinks_cache (f : LinkSt → LinkSt) : (s.onLinks f).cache = s.cache := rfl
@[simp] theorem State.onLinks_xlat (f : LinkSt → LinkSt) : (s.onLinks f).xlat = s.xlat := rfl
@[simp] theorem State.onLinks_fab (f : LinkSt → LinkSt) : (s.onLinks f).fab = s.fab := rfl
@[simp] theorem State.onLinks_home (f : LinkSt → LinkSt) : (s.onLinks f).home = s.home := rfl
@[simp] theorem State.onLinks_dram (f : LinkSt → LinkSt) : (s.onLinks f).dram = s.dram := rfl
@[simp] theorem State.onLinks_links (f : LinkSt → LinkSt) : (s.onLinks f).links = f s.links := rfl
@[simp] theorem State.onLinks_sec (f : LinkSt → LinkSt) : (s.onLinks f).sec = s.sec := rfl
@[simp] theorem State.onLinks_crypto (f : LinkSt → LinkSt) : (s.onLinks f).crypto = s.crypto := rfl
@[simp] theorem State.onLinks_pcie (f : LinkSt → LinkSt) : (s.onLinks f).pcie = s.pcie := rfl
@[simp] theorem State.onLinks_pwr (f : LinkSt → LinkSt) : (s.onLinks f).pwr = s.pwr := rfl
@[simp] theorem State.onLinks_err (f : LinkSt → LinkSt) : (s.onLinks f).err = s.err := rfl
@[simp] theorem State.onLinks_sent (f : LinkSt → LinkSt) : (s.onLinks f).sent = s.sent := rfl
@[simp] theorem State.onLinks_flits (f : LinkSt → LinkSt) : (s.onLinks f).flits = s.flits := rfl
@[simp] theorem State.onLinks_freeCtr (f : LinkSt → LinkSt) : (s.onLinks f).freeCtr = s.freeCtr := rfl
@[simp] theorem State.onLinks_pending (f : LinkSt → LinkSt) : (s.onLinks f).pending = s.pending := rfl
@[simp] theorem State.onLinks_reg (f : LinkSt → LinkSt) (k : Nat) : (s.onLinks f).reg k = s.reg k := rfl
@[simp] theorem State.onLinks_f (f : LinkSt → LinkSt) (k : Nat) (fl : Fld) : (s.onLinks f).f k fl = s.f k fl := rfl

@[simp] theorem State.onSec_regs (f : SecSt → SecSt) : (s.onSec f).regs = s.regs := rfl
@[simp] theorem State.onSec_beat (f : SecSt → SecSt) : (s.onSec f).beat = s.beat := rfl
@[simp] theorem State.onSec_boot (f : SecSt → SecSt) : (s.onSec f).boot = s.boot := rfl
@[simp] theorem State.onSec_cores (f : SecSt → SecSt) : (s.onSec f).cores = s.cores := rfl
@[simp] theorem State.onSec_cache (f : SecSt → SecSt) : (s.onSec f).cache = s.cache := rfl
@[simp] theorem State.onSec_xlat (f : SecSt → SecSt) : (s.onSec f).xlat = s.xlat := rfl
@[simp] theorem State.onSec_fab (f : SecSt → SecSt) : (s.onSec f).fab = s.fab := rfl
@[simp] theorem State.onSec_home (f : SecSt → SecSt) : (s.onSec f).home = s.home := rfl
@[simp] theorem State.onSec_dram (f : SecSt → SecSt) : (s.onSec f).dram = s.dram := rfl
@[simp] theorem State.onSec_links (f : SecSt → SecSt) : (s.onSec f).links = s.links := rfl
@[simp] theorem State.onSec_sec (f : SecSt → SecSt) : (s.onSec f).sec = f s.sec := rfl
@[simp] theorem State.onSec_crypto (f : SecSt → SecSt) : (s.onSec f).crypto = s.crypto := rfl
@[simp] theorem State.onSec_pcie (f : SecSt → SecSt) : (s.onSec f).pcie = s.pcie := rfl
@[simp] theorem State.onSec_pwr (f : SecSt → SecSt) : (s.onSec f).pwr = s.pwr := rfl
@[simp] theorem State.onSec_err (f : SecSt → SecSt) : (s.onSec f).err = s.err := rfl
@[simp] theorem State.onSec_sent (f : SecSt → SecSt) : (s.onSec f).sent = s.sent := rfl
@[simp] theorem State.onSec_flits (f : SecSt → SecSt) : (s.onSec f).flits = s.flits := rfl
@[simp] theorem State.onSec_freeCtr (f : SecSt → SecSt) : (s.onSec f).freeCtr = s.freeCtr := rfl
@[simp] theorem State.onSec_pending (f : SecSt → SecSt) : (s.onSec f).pending = s.pending := rfl
@[simp] theorem State.onSec_reg (f : SecSt → SecSt) (k : Nat) : (s.onSec f).reg k = s.reg k := rfl
@[simp] theorem State.onSec_f (f : SecSt → SecSt) (k : Nat) (fl : Fld) : (s.onSec f).f k fl = s.f k fl := rfl

@[simp] theorem State.onCrypto_regs (f : CryptoSt → CryptoSt) : (s.onCrypto f).regs = s.regs := rfl
@[simp] theorem State.onCrypto_beat (f : CryptoSt → CryptoSt) : (s.onCrypto f).beat = s.beat := rfl
@[simp] theorem State.onCrypto_boot (f : CryptoSt → CryptoSt) : (s.onCrypto f).boot = s.boot := rfl
@[simp] theorem State.onCrypto_cores (f : CryptoSt → CryptoSt) : (s.onCrypto f).cores = s.cores := rfl
@[simp] theorem State.onCrypto_cache (f : CryptoSt → CryptoSt) : (s.onCrypto f).cache = s.cache := rfl
@[simp] theorem State.onCrypto_xlat (f : CryptoSt → CryptoSt) : (s.onCrypto f).xlat = s.xlat := rfl
@[simp] theorem State.onCrypto_fab (f : CryptoSt → CryptoSt) : (s.onCrypto f).fab = s.fab := rfl
@[simp] theorem State.onCrypto_home (f : CryptoSt → CryptoSt) : (s.onCrypto f).home = s.home := rfl
@[simp] theorem State.onCrypto_dram (f : CryptoSt → CryptoSt) : (s.onCrypto f).dram = s.dram := rfl
@[simp] theorem State.onCrypto_links (f : CryptoSt → CryptoSt) : (s.onCrypto f).links = s.links := rfl
@[simp] theorem State.onCrypto_sec (f : CryptoSt → CryptoSt) : (s.onCrypto f).sec = s.sec := rfl
@[simp] theorem State.onCrypto_crypto (f : CryptoSt → CryptoSt) : (s.onCrypto f).crypto = f s.crypto := rfl
@[simp] theorem State.onCrypto_pcie (f : CryptoSt → CryptoSt) : (s.onCrypto f).pcie = s.pcie := rfl
@[simp] theorem State.onCrypto_pwr (f : CryptoSt → CryptoSt) : (s.onCrypto f).pwr = s.pwr := rfl
@[simp] theorem State.onCrypto_err (f : CryptoSt → CryptoSt) : (s.onCrypto f).err = s.err := rfl
@[simp] theorem State.onCrypto_sent (f : CryptoSt → CryptoSt) : (s.onCrypto f).sent = s.sent := rfl
@[simp] theorem State.onCrypto_flits (f : CryptoSt → CryptoSt) : (s.onCrypto f).flits = s.flits := rfl
@[simp] theorem State.onCrypto_freeCtr (f : CryptoSt → CryptoSt) : (s.onCrypto f).freeCtr = s.freeCtr := rfl
@[simp] theorem State.onCrypto_pending (f : CryptoSt → CryptoSt) : (s.onCrypto f).pending = s.pending := rfl
@[simp] theorem State.onCrypto_reg (f : CryptoSt → CryptoSt) (k : Nat) : (s.onCrypto f).reg k = s.reg k := rfl
@[simp] theorem State.onCrypto_f (f : CryptoSt → CryptoSt) (k : Nat) (fl : Fld) : (s.onCrypto f).f k fl = s.f k fl := rfl

@[simp] theorem State.onPcie_regs (f : PcieSt → PcieSt) : (s.onPcie f).regs = s.regs := rfl
@[simp] theorem State.onPcie_beat (f : PcieSt → PcieSt) : (s.onPcie f).beat = s.beat := rfl
@[simp] theorem State.onPcie_boot (f : PcieSt → PcieSt) : (s.onPcie f).boot = s.boot := rfl
@[simp] theorem State.onPcie_cores (f : PcieSt → PcieSt) : (s.onPcie f).cores = s.cores := rfl
@[simp] theorem State.onPcie_cache (f : PcieSt → PcieSt) : (s.onPcie f).cache = s.cache := rfl
@[simp] theorem State.onPcie_xlat (f : PcieSt → PcieSt) : (s.onPcie f).xlat = s.xlat := rfl
@[simp] theorem State.onPcie_fab (f : PcieSt → PcieSt) : (s.onPcie f).fab = s.fab := rfl
@[simp] theorem State.onPcie_home (f : PcieSt → PcieSt) : (s.onPcie f).home = s.home := rfl
@[simp] theorem State.onPcie_dram (f : PcieSt → PcieSt) : (s.onPcie f).dram = s.dram := rfl
@[simp] theorem State.onPcie_links (f : PcieSt → PcieSt) : (s.onPcie f).links = s.links := rfl
@[simp] theorem State.onPcie_sec (f : PcieSt → PcieSt) : (s.onPcie f).sec = s.sec := rfl
@[simp] theorem State.onPcie_crypto (f : PcieSt → PcieSt) : (s.onPcie f).crypto = s.crypto := rfl
@[simp] theorem State.onPcie_pcie (f : PcieSt → PcieSt) : (s.onPcie f).pcie = f s.pcie := rfl
@[simp] theorem State.onPcie_pwr (f : PcieSt → PcieSt) : (s.onPcie f).pwr = s.pwr := rfl
@[simp] theorem State.onPcie_err (f : PcieSt → PcieSt) : (s.onPcie f).err = s.err := rfl
@[simp] theorem State.onPcie_sent (f : PcieSt → PcieSt) : (s.onPcie f).sent = s.sent := rfl
@[simp] theorem State.onPcie_flits (f : PcieSt → PcieSt) : (s.onPcie f).flits = s.flits := rfl
@[simp] theorem State.onPcie_freeCtr (f : PcieSt → PcieSt) : (s.onPcie f).freeCtr = s.freeCtr := rfl
@[simp] theorem State.onPcie_pending (f : PcieSt → PcieSt) : (s.onPcie f).pending = s.pending := rfl
@[simp] theorem State.onPcie_reg (f : PcieSt → PcieSt) (k : Nat) : (s.onPcie f).reg k = s.reg k := rfl
@[simp] theorem State.onPcie_f (f : PcieSt → PcieSt) (k : Nat) (fl : Fld) : (s.onPcie f).f k fl = s.f k fl := rfl

@[simp] theorem State.onPwr_regs (f : PwrSt → PwrSt) : (s.onPwr f).regs = s.regs := rfl
@[simp] theorem State.onPwr_beat (f : PwrSt → PwrSt) : (s.onPwr f).beat = s.beat := rfl
@[simp] theorem State.onPwr_boot (f : PwrSt → PwrSt) : (s.onPwr f).boot = s.boot := rfl
@[simp] theorem State.onPwr_cores (f : PwrSt → PwrSt) : (s.onPwr f).cores = s.cores := rfl
@[simp] theorem State.onPwr_cache (f : PwrSt → PwrSt) : (s.onPwr f).cache = s.cache := rfl
@[simp] theorem State.onPwr_xlat (f : PwrSt → PwrSt) : (s.onPwr f).xlat = s.xlat := rfl
@[simp] theorem State.onPwr_fab (f : PwrSt → PwrSt) : (s.onPwr f).fab = s.fab := rfl
@[simp] theorem State.onPwr_home (f : PwrSt → PwrSt) : (s.onPwr f).home = s.home := rfl
@[simp] theorem State.onPwr_dram (f : PwrSt → PwrSt) : (s.onPwr f).dram = s.dram := rfl
@[simp] theorem State.onPwr_links (f : PwrSt → PwrSt) : (s.onPwr f).links = s.links := rfl
@[simp] theorem State.onPwr_sec (f : PwrSt → PwrSt) : (s.onPwr f).sec = s.sec := rfl
@[simp] theorem State.onPwr_crypto (f : PwrSt → PwrSt) : (s.onPwr f).crypto = s.crypto := rfl
@[simp] theorem State.onPwr_pcie (f : PwrSt → PwrSt) : (s.onPwr f).pcie = s.pcie := rfl
@[simp] theorem State.onPwr_pwr (f : PwrSt → PwrSt) : (s.onPwr f).pwr = f s.pwr := rfl
@[simp] theorem State.onPwr_err (f : PwrSt → PwrSt) : (s.onPwr f).err = s.err := rfl
@[simp] theorem State.onPwr_sent (f : PwrSt → PwrSt) : (s.onPwr f).sent = s.sent := rfl
@[simp] theorem State.onPwr_flits (f : PwrSt → PwrSt) : (s.onPwr f).flits = s.flits := rfl
@[simp] theorem State.onPwr_freeCtr (f : PwrSt → PwrSt) : (s.onPwr f).freeCtr = s.freeCtr := rfl
@[simp] theorem State.onPwr_pending (f : PwrSt → PwrSt) : (s.onPwr f).pending = s.pending := rfl
@[simp] theorem State.onPwr_reg (f : PwrSt → PwrSt) (k : Nat) : (s.onPwr f).reg k = s.reg k := rfl
@[simp] theorem State.onPwr_f (f : PwrSt → PwrSt) (k : Nat) (fl : Fld) : (s.onPwr f).f k fl = s.f k fl := rfl

@[simp] theorem State.onErr_regs (f : ErrSt → ErrSt) : (s.onErr f).regs = s.regs := rfl
@[simp] theorem State.onErr_beat (f : ErrSt → ErrSt) : (s.onErr f).beat = s.beat := rfl
@[simp] theorem State.onErr_boot (f : ErrSt → ErrSt) : (s.onErr f).boot = s.boot := rfl
@[simp] theorem State.onErr_cores (f : ErrSt → ErrSt) : (s.onErr f).cores = s.cores := rfl
@[simp] theorem State.onErr_cache (f : ErrSt → ErrSt) : (s.onErr f).cache = s.cache := rfl
@[simp] theorem State.onErr_xlat (f : ErrSt → ErrSt) : (s.onErr f).xlat = s.xlat := rfl
@[simp] theorem State.onErr_fab (f : ErrSt → ErrSt) : (s.onErr f).fab = s.fab := rfl
@[simp] theorem State.onErr_home (f : ErrSt → ErrSt) : (s.onErr f).home = s.home := rfl
@[simp] theorem State.onErr_dram (f : ErrSt → ErrSt) : (s.onErr f).dram = s.dram := rfl
@[simp] theorem State.onErr_links (f : ErrSt → ErrSt) : (s.onErr f).links = s.links := rfl
@[simp] theorem State.onErr_sec (f : ErrSt → ErrSt) : (s.onErr f).sec = s.sec := rfl
@[simp] theorem State.onErr_crypto (f : ErrSt → ErrSt) : (s.onErr f).crypto = s.crypto := rfl
@[simp] theorem State.onErr_pcie (f : ErrSt → ErrSt) : (s.onErr f).pcie = s.pcie := rfl
@[simp] theorem State.onErr_pwr (f : ErrSt → ErrSt) : (s.onErr f).pwr = s.pwr := rfl
@[simp] theorem State.onErr_err (f : ErrSt → ErrSt) : (s.onErr f).err = f s.err := rfl
@[simp] theorem State.onErr_sent (f : ErrSt → ErrSt) : (s.onErr f).sent = s.sent := rfl
@[simp] theorem State.onErr_flits (f : ErrSt → ErrSt) : (s.onErr f).flits = s.flits := rfl
@[simp] theorem State.onErr_freeCtr (f : ErrSt → ErrSt) : (s.onErr f).freeCtr = s.freeCtr := rfl
@[simp] theorem State.onErr_pending (f : ErrSt → ErrSt) : (s.onErr f).pending = s.pending := rfl
@[simp] theorem State.onErr_reg (f : ErrSt → ErrSt) (k : Nat) : (s.onErr f).reg k = s.reg k := rfl
@[simp] theorem State.onErr_f (f : ErrSt → ErrSt) (k : Nat) (fl : Fld) : (s.onErr f).f k fl = s.f k fl := rfl

@[simp] theorem State.setReg_beat (off : Nat) (w : Word) : (s.setReg off w).beat = s.beat := rfl
@[simp] theorem State.setReg_boot (off : Nat) (w : Word) : (s.setReg off w).boot = s.boot := rfl
@[simp] theorem State.setReg_cores (off : Nat) (w : Word) : (s.setReg off w).cores = s.cores := rfl
@[simp] theorem State.setReg_cache (off : Nat) (w : Word) : (s.setReg off w).cache = s.cache := rfl
@[simp] theorem State.setReg_xlat (off : Nat) (w : Word) : (s.setReg off w).xlat = s.xlat := rfl
@[simp] theorem State.setReg_fab (off : Nat) (w : Word) : (s.setReg off w).fab = s.fab := rfl
@[simp] theorem State.setReg_home (off : Nat) (w : Word) : (s.setReg off w).home = s.home := rfl
@[simp] theorem State.setReg_dram (off : Nat) (w : Word) : (s.setReg off w).dram = s.dram := rfl
@[simp] theorem State.setReg_links (off : Nat) (w : Word) : (s.setReg off w).links = s.links := rfl
@[simp] theorem State.setReg_sec (off : Nat) (w : Word) : (s.setReg off w).sec = s.sec := rfl
@[simp] theorem State.setReg_crypto (off : Nat) (w : Word) : (s.setReg off w).crypto = s.crypto := rfl
@[simp] theorem State.setReg_pcie (off : Nat) (w : Word) : (s.setReg off w).pcie = s.pcie := rfl
@[simp] theorem State.setReg_pwr (off : Nat) (w : Word) : (s.setReg off w).pwr = s.pwr := rfl
@[simp] theorem State.setReg_err (off : Nat) (w : Word) : (s.setReg off w).err = s.err := rfl
@[simp] theorem State.setReg_sent (off : Nat) (w : Word) : (s.setReg off w).sent = s.sent := rfl
@[simp] theorem State.setReg_flits (off : Nat) (w : Word) : (s.setReg off w).flits = s.flits := rfl
@[simp] theorem State.setReg_freeCtr (off : Nat) (w : Word) : (s.setReg off w).freeCtr = s.freeCtr := rfl
@[simp] theorem State.setReg_pending (off : Nat) (w : Word) : (s.setReg off w).pending = s.pending := rfl

@[simp] theorem State.setF_beat (off : Nat) (fl : Fld) (v : Nat) : (s.setF off fl v).beat = s.beat := rfl
@[simp] theorem State.setF_boot (off : Nat) (fl : Fld) (v : Nat) : (s.setF off fl v).boot = s.boot := rfl
@[simp] theorem State.setF_cores (off : Nat) (fl : Fld) (v : Nat) : (s.setF off fl v).cores = s.cores := rfl
@[simp] theorem State.setF_cache (off : Nat) (fl : Fld) (v : Nat) : (s.setF off fl v).cache = s.cache := rfl
@[simp] theorem State.setF_xlat (off : Nat) (fl : Fld) (v : Nat) : (s.setF off fl v).xlat = s.xlat := rfl
@[simp] theorem State.setF_fab (off : Nat) (fl : Fld) (v : Nat) : (s.setF off fl v).fab = s.fab := rfl
@[simp] theorem State.setF_home (off : Nat) (fl : Fld) (v : Nat) : (s.setF off fl v).home = s.home := rfl
@[simp] theorem State.setF_dram (off : Nat) (fl : Fld) (v : Nat) : (s.setF off fl v).dram = s.dram := rfl
@[simp] theorem State.setF_links (off : Nat) (fl : Fld) (v : Nat) : (s.setF off fl v).links = s.links := rfl
@[simp] theorem State.setF_sec (off : Nat) (fl : Fld) (v : Nat) : (s.setF off fl v).sec = s.sec := rfl
@[simp] theorem State.setF_crypto (off : Nat) (fl : Fld) (v : Nat) : (s.setF off fl v).crypto = s.crypto := rfl
@[simp] theorem State.setF_pcie (off : Nat) (fl : Fld) (v : Nat) : (s.setF off fl v).pcie = s.pcie := rfl
@[simp] theorem State.setF_pwr (off : Nat) (fl : Fld) (v : Nat) : (s.setF off fl v).pwr = s.pwr := rfl
@[simp] theorem State.setF_err (off : Nat) (fl : Fld) (v : Nat) : (s.setF off fl v).err = s.err := rfl
@[simp] theorem State.setF_sent (off : Nat) (fl : Fld) (v : Nat) : (s.setF off fl v).sent = s.sent := rfl
@[simp] theorem State.setF_flits (off : Nat) (fl : Fld) (v : Nat) : (s.setF off fl v).flits = s.flits := rfl
@[simp] theorem State.setF_freeCtr (off : Nat) (fl : Fld) (v : Nat) : (s.setF off fl v).freeCtr = s.freeCtr := rfl
@[simp] theorem State.setF_pending (off : Nat) (fl : Fld) (v : Nat) : (s.setF off fl v).pending = s.pending := rfl

@[simp] theorem State.send_regs (m : Msg) : (s.send m).regs = s.regs := rfl
@[simp] theorem State.send_beat (m : Msg) : (s.send m).beat = s.beat := rfl
@[simp] theorem State.send_boot (m : Msg) : (s.send m).boot = s.boot := rfl
@[simp] theorem State.send_cores (m : Msg) : (s.send m).cores = s.cores := rfl
@[simp] theorem State.send_cache (m : Msg) : (s.send m).cache = s.cache := rfl
@[simp] theorem State.send_xlat (m : Msg) : (s.send m).xlat = s.xlat := rfl
@[simp] theorem State.send_fab (m : Msg) : (s.send m).fab = s.fab := rfl
@[simp] theorem State.send_home (m : Msg) : (s.send m).home = s.home := rfl
@[simp] theorem State.send_dram (m : Msg) : (s.send m).dram = s.dram := rfl
@[simp] theorem State.send_links (m : Msg) : (s.send m).links = s.links := rfl
@[simp] theorem State.send_sec (m : Msg) : (s.send m).sec = s.sec := rfl
@[simp] theorem State.send_crypto (m : Msg) : (s.send m).crypto = s.crypto := rfl
@[simp] theorem State.send_pcie (m : Msg) : (s.send m).pcie = s.pcie := rfl
@[simp] theorem State.send_pwr (m : Msg) : (s.send m).pwr = s.pwr := rfl
@[simp] theorem State.send_err (m : Msg) : (s.send m).err = s.err := rfl
@[simp] theorem State.send_sent (m : Msg) : (s.send m).sent = s.sent ++ [m] := rfl
@[simp] theorem State.send_flits (m : Msg) : (s.send m).flits = s.flits := rfl
@[simp] theorem State.send_freeCtr (m : Msg) : (s.send m).freeCtr = s.freeCtr := rfl
@[simp] theorem State.send_pending (m : Msg) : (s.send m).pending = s.pending := rfl
@[simp] theorem State.send_reg (m : Msg) (k : Nat) : (s.send m).reg k = s.reg k := rfl
@[simp] theorem State.send_f (m : Msg) (k : Nat) (fl : Fld) : (s.send m).f k fl = s.f k fl := rfl

@[simp] theorem State.take_regs (m : Msg) : (s.take m).regs = s.regs := rfl
@[simp] theorem State.take_beat (m : Msg) : (s.take m).beat = s.beat := rfl
@[simp] theorem State.take_boot (m : Msg) : (s.take m).boot = s.boot := rfl
@[simp] theorem State.take_cores (m : Msg) : (s.take m).cores = s.cores := rfl
@[simp] theorem State.take_cache (m : Msg) : (s.take m).cache = s.cache := rfl
@[simp] theorem State.take_xlat (m : Msg) : (s.take m).xlat = s.xlat := rfl
@[simp] theorem State.take_fab (m : Msg) : (s.take m).fab = s.fab := rfl
@[simp] theorem State.take_home (m : Msg) : (s.take m).home = s.home := rfl
@[simp] theorem State.take_dram (m : Msg) : (s.take m).dram = s.dram := rfl
@[simp] theorem State.take_links (m : Msg) : (s.take m).links = s.links := rfl
@[simp] theorem State.take_sec (m : Msg) : (s.take m).sec = s.sec := rfl
@[simp] theorem State.take_crypto (m : Msg) : (s.take m).crypto = s.crypto := rfl
@[simp] theorem State.take_pcie (m : Msg) : (s.take m).pcie = s.pcie := rfl
@[simp] theorem State.take_pwr (m : Msg) : (s.take m).pwr = s.pwr := rfl
@[simp] theorem State.take_err (m : Msg) : (s.take m).err = s.err := rfl
@[simp] theorem State.take_sent (m : Msg) : (s.take m).sent = s.sent.erase m := rfl
@[simp] theorem State.take_flits (m : Msg) : (s.take m).flits = s.flits.filter fun f => Msg.coh f.msg != m := rfl
@[simp] theorem State.take_freeCtr (m : Msg) : (s.take m).freeCtr = s.freeCtr := rfl
@[simp] theorem State.take_pending (m : Msg) : (s.take m).pending = s.pending := rfl
@[simp] theorem State.take_reg (m : Msg) (k : Nat) : (s.take m).reg k = s.reg k := rfl
@[simp] theorem State.take_f (m : Msg) (k : Nat) (fl : Fld) : (s.take m).f k fl = s.f k fl := rfl

end

end Sys2Proof.Machine
end

