-- ==== Sys2Proof/Laws/Fields.lean ====
section
/-! SUPPORT. Bit fields of registers: what a field reads after a field is written. -/

namespace Sys2Proof.Machine

/-- The field lies within a 64-bit register. -/
abbrev Fld.fits (f : Fld) : Prop := f.lo + f.width ≤ 64

/-- Two fields share no bit. -/
abbrev Fld.apart (f g : Fld) : Prop := f.lo + f.width ≤ g.lo ∨ g.lo + g.width ≤ f.lo

theorem Fld.get_testBit (f : Fld) (w : Word) (i : Nat) :
    (f.get w).testBit i = (decide (i < f.width) && w.getLsbD (f.lo + i)) := by
  simp [Fld.get, Nat.testBit_mod_two_pow, Nat.testBit_shiftRight, BitVec.getLsbD]

theorem Fld.mask_getLsbD {f : Fld} (h : f.fits) (i : Nat) :
    f.mask.getLsbD i = (decide (f.lo ≤ i) && decide (i < f.lo + f.width)) := by
  have h' : f.lo + f.width ≤ 64 := h
  simp only [Fld.mask, BitVec.getLsbD_ofNat, Nat.testBit_shiftLeft, Nat.testBit_two_pow_sub_one]
  by_cases h1 : f.lo ≤ i <;> by_cases h2 : i < f.lo + f.width <;> simp [h1, h2] <;> omega

theorem Fld.set_getLsbD {f : Fld} (h : f.fits) (w : Word) (v i : Nat) :
    (f.set w v).getLsbD i =
      if f.lo ≤ i ∧ i < f.lo + f.width then v.testBit (i - f.lo) else w.getLsbD i := by
  have h' : f.lo + f.width ≤ 64 := h
  simp only [Fld.set, BitVec.getLsbD_or, BitVec.getLsbD_and, BitVec.getLsbD_not, Fld.mask_getLsbD h, BitVec.getLsbD_ofNat,
    Nat.testBit_shiftLeft]
  by_cases h1 : f.lo ≤ i <;> by_cases h2 : i < f.lo + f.width <;> by_cases h3 : i < 64 <;> simp [h1, h2, h3]
  all_goals first | omega | (rw [BitVec.getLsbD_of_ge]; omega)

theorem Fld.get_set {f : Fld} (h : f.fits) (w : Word) (v : Nat) : f.get (f.set w v) = v % 2 ^ f.width := by
  apply Nat.eq_of_testBit_eq
  intro i
  rw [Fld.get_testBit, Fld.set_getLsbD h, Nat.testBit_mod_two_pow]
  by_cases hi : i < f.width <;> simp [hi]

theorem Fld.get_set_apart {f g : Fld} (hg : g.fits) (h : f.apart g) (w : Word) (v : Nat) : f.get (g.set w v) = f.get w := by
  apply Nat.eq_of_testBit_eq
  intro i
  rw [Fld.get_testBit, Fld.get_testBit, Fld.set_getLsbD hg]
  by_cases hi : i < f.width
  · have : ¬(g.lo ≤ f.lo + i ∧ f.lo + i < g.lo + g.width) := by
      rcases h with h | h <;> omega
    simp [hi, this]
  · simp [hi]

/-- A field reads what was written to it. -/
theorem State.f_setF_same (s : State) (off : Nat) {fl : Fld} (h : fl.fits) (v : Nat) :
    (s.setF off fl v).f off fl = v % 2 ^ fl.width := by
  simp [State.f, State.setF, Fld.get_set h]

theorem State.f_setF_apart (s : State) (off : Nat) {fl gl : Fld} (hg : gl.fits) (h : fl.apart gl) (v : Nat) :
    (s.setF off gl v).f off fl = s.f off fl := by
  simp [State.f, State.setF, Fld.get_set_apart hg h]

theorem State.f_setF_ne (s : State) {off k : Nat} (fl gl : Fld) (v : Nat) (h : k ≠ off) :
    (s.setF off gl v).f k fl = s.f k fl := by
  simp [State.f, State.setF, State.reg_setReg_ne s _ h]

theorem State.reg_setF_ne (s : State) {off k : Nat} (gl : Fld) (v : Nat) (h : k ≠ off) : (s.setF off gl v).reg k = s.reg k := by
  simp [State.setF, State.reg_setReg_ne s _ h]

@[simp] theorem State.f_setReg_same (s : State) (off : Nat) (fl : Fld) (w : Word) : (s.setReg off w).f off fl = fl.get w := by
  simp [State.f]

theorem State.f_setReg_ne (s : State) {off k : Nat} (fl : Fld) (w : Word) (h : k ≠ off) : (s.setReg off w).f k fl = s.f k fl := by
  simp [State.f, State.reg_setReg_ne s _ h]

end Sys2Proof.Machine
end

