-- ==== Sys2Proof/Laws/Records.lean ====
section
/-! SUPPORT. What an error record changes (R407 to R410): the error logs and the messages sent, and nothing else. -/

namespace Sys2Proof.Machine

section
variable (s : State)

theorem State.raise_same (p v : Nat) (c : Option Nat) : s.SameButLogs (s.raise p v c) := by
  unfold State.raise
  split
  · exact ⟨_, _, rfl⟩
  · exact ⟨_, _, rfl⟩

variable {s}

theorem State.SameButLogs.refl : s.SameButLogs s := ⟨_, _, rfl⟩

theorem State.SameButLogs.trans {t u : State} (h : s.SameButLogs t) (h' : t.SameButLogs u) : s.SameButLogs u := by
  obtain ⟨_, _, rfl⟩ := h
  obtain ⟨l, m, rfl⟩ := h'
  exact ⟨l, m, rfl⟩

variable (s) in
theorem State.storeRec_same (n : Nat) (r : Rec) : s.SameButLogs (s.storeRec n r) := by
  unfold State.storeRec
  split
  · exact .refl
  split
  rename_i l stored e
  have h : s.SameButLogs { s with err := { s.err with logs := s.err.logs.put n l } } := ⟨_, _, rfl⟩
  dsimp only
  split
  · exact h.trans (State.raise_same _ _ _ _)
  · exact h

theorem State.SameButLogs.each {α : Type} {l : List α} {f : State → α → State} (hf : ∀ (t : State) a, t.SameButLogs (f t a)) :
    s.SameButLogs (Machine.each l f s) := by
  unfold Machine.each
  induction l generalizing s with
  | nil => exact .refl
  | cons a r ih => exact (hf s a).trans ih

theorem State.recordAt_same {e : ECode} {host kind unit : Nat} {parts : List Nat} {addr : Option Nat} {detail : Nat} {g : Bool} :
    s.SameButLogs (s.recordAt e host kind unit parts addr detail g) := by
  unfold State.recordAt
  extract_lets ps r a b named
  have ha : s.SameButLogs a := (State.storeRec_same s _ _).trans (State.storeRec_same _ _ _)
  have hb : s.SameButLogs b := by
    show s.SameButLogs (if g then _ else _)
    split
    · exact ha.trans (State.storeRec_same _ _ _)
    · exact ha
  split
  · exact hb.trans (State.storeRec_same _ _ _)
  · exact hb.trans (.each fun t p => State.storeRec_same t _ _)

theorem State.record_same {e : ECode} {kind unit : Nat} {parts : List Nat} {addr : Option Nat} {detail : Nat} :
    s.SameButLogs (s.record e kind unit parts addr detail) := State.recordAt_same

theorem State.SameButLogs.regs {t : State} (h : s.SameButLogs t) : t.regs = s.regs := by obtain ⟨_, _, rfl⟩ := h; rfl
theorem State.SameButLogs.beat {t : State} (h : s.SameButLogs t) : t.beat = s.beat := by obtain ⟨_, _, rfl⟩ := h; rfl
theorem State.SameButLogs.boot {t : State} (h : s.SameButLogs t) : t.boot = s.boot := by obtain ⟨_, _, rfl⟩ := h; rfl
theorem State.SameButLogs.cores {t : State} (h : s.SameButLogs t) : t.cores = s.cores := by obtain ⟨_, _, rfl⟩ := h; rfl
theorem State.SameButLogs.cache {t : State} (h : s.SameButLogs t) : t.cache = s.cache := by obtain ⟨_, _, rfl⟩ := h; rfl
theorem State.SameButLogs.xlat {t : State} (h : s.SameButLogs t) : t.xlat = s.xlat := by obtain ⟨_, _, rfl⟩ := h; rfl
theorem State.SameButLogs.fab {t : State} (h : s.SameButLogs t) : t.fab = s.fab := by obtain ⟨_, _, rfl⟩ := h; rfl
theorem State.SameButLogs.home {t : State} (h : s.SameButLogs t) : t.home = s.home := by obtain ⟨_, _, rfl⟩ := h; rfl
theorem State.SameButLogs.dram {t : State} (h : s.SameButLogs t) : t.dram = s.dram := by obtain ⟨_, _, rfl⟩ := h; rfl
theorem State.SameButLogs.links {t : State} (h : s.SameButLogs t) : t.links = s.links := by obtain ⟨_, _, rfl⟩ := h; rfl
theorem State.SameButLogs.sec {t : State} (h : s.SameButLogs t) : t.sec = s.sec := by obtain ⟨_, _, rfl⟩ := h; rfl
theorem State.SameButLogs.crypto {t : State} (h : s.SameButLogs t) : t.crypto = s.crypto := by obtain ⟨_, _, rfl⟩ := h; rfl
theorem State.SameButLogs.pcie {t : State} (h : s.SameButLogs t) : t.pcie = s.pcie := by obtain ⟨_, _, rfl⟩ := h; rfl
theorem State.SameButLogs.pwr {t : State} (h : s.SameButLogs t) : t.pwr = s.pwr := by obtain ⟨_, _, rfl⟩ := h; rfl
theorem State.SameButLogs.flits {t : State} (h : s.SameButLogs t) : t.flits = s.flits := by obtain ⟨_, _, rfl⟩ := h; rfl
theorem State.SameButLogs.freeCtr {t : State} (h : s.SameButLogs t) : t.freeCtr = s.freeCtr := by obtain ⟨_, _, rfl⟩ := h; rfl
theorem State.SameButLogs.pending {t : State} (h : s.SameButLogs t) : t.pending = s.pending := by obtain ⟨_, _, rfl⟩ := h; rfl
theorem State.SameButLogs.reg {t : State} (h : s.SameButLogs t) (k : Nat) : t.reg k = s.reg k := by simp [State.reg, h.regs]
theorem State.SameButLogs.f {t : State} (h : s.SameButLogs t) (k : Nat) (fl : Fld) : t.f k fl = s.f k fl := by
  simp [State.f, h.reg]

end

section
variable (s : State) (e : ECode) (kind unit : Nat) (parts : List Nat) (addr : Option Nat) (detail : Nat)

@[simp] theorem State.record_regs : (s.record e kind unit parts addr detail).regs = s.regs := State.record_same.regs
@[simp] theorem State.record_beat : (s.record e kind unit parts addr detail).beat = s.beat := State.record_same.beat
@[simp] theorem State.record_boot : (s.record e kind unit parts addr detail).boot = s.boot := State.record_same.boot
@[simp] theorem State.record_cores : (s.record e kind unit parts addr detail).cores = s.cores := State.record_same.cores
@[simp] theorem State.record_cache : (s.record e kind unit parts addr detail).cache = s.cache := State.record_same.cache
@[simp] theorem State.record_xlat : (s.record e kind unit parts addr detail).xlat = s.xlat := State.record_same.xlat
@[simp] theorem State.record_fab : (s.record e kind unit parts addr detail).fab = s.fab := State.record_same.fab
@[simp] theorem State.record_home : (s.record e kind unit parts addr detail).home = s.home := State.record_same.home
@[simp] theorem State.record_dram : (s.record e kind unit parts addr detail).dram = s.dram := State.record_same.dram
@[simp] theorem State.record_links : (s.record e kind unit parts addr detail).links = s.links := State.record_same.links
@[simp] theorem State.record_sec : (s.record e kind unit parts addr detail).sec = s.sec := State.record_same.sec
@[simp] theorem State.record_crypto : (s.record e kind unit parts addr detail).crypto = s.crypto := State.record_same.crypto
@[simp] theorem State.record_pcie : (s.record e kind unit parts addr detail).pcie = s.pcie := State.record_same.pcie
@[simp] theorem State.record_pwr : (s.record e kind unit parts addr detail).pwr = s.pwr := State.record_same.pwr
@[simp] theorem State.record_freeCtr : (s.record e kind unit parts addr detail).freeCtr = s.freeCtr := State.record_same.freeCtr
@[simp] theorem State.record_pending : (s.record e kind unit parts addr detail).pending = s.pending := State.record_same.pending
@[simp] theorem State.record_reg (k : Nat) : (s.record e kind unit parts addr detail).reg k = s.reg k := State.record_same.reg k
@[simp] theorem State.record_f (k : Nat) (fl : Fld) : (s.record e kind unit parts addr detail).f k fl = s.f k fl :=
  State.record_same.f k fl

end

theorem State.raiseAll_same (s : State) (ps : List Nat) (v : Nat) : s.SameButLogs (s.raiseAll ps v) :=
  .each fun t p => State.raise_same t p v none

section
variable (s : State) (p v : Nat) (c : Option Nat) (ps : List Nat)

@[simp] theorem State.raise_regs : (s.raise p v c).regs = s.regs := (State.raise_same s p v c).regs
@[simp] theorem State.raise_beat : (s.raise p v c).beat = s.beat := (State.raise_same s p v c).beat
@[simp] theorem State.raise_boot : (s.raise p v c).boot = s.boot := (State.raise_same s p v c).boot
@[simp] theorem State.raise_cores : (s.raise p v c).cores = s.cores := (State.raise_same s p v c).cores
@[simp] theorem State.raise_cache : (s.raise p v c).cache = s.cache := (State.raise_same s p v c).cache
@[simp] theorem State.raise_xlat : (s.raise p v c).xlat = s.xlat := (State.raise_same s p v c).xlat
@[simp] theorem State.raise_fab : (s.raise p v c).fab = s.fab := (State.raise_same s p v c).fab
@[simp] theorem State.raise_home : (s.raise p v c).home = s.home := (State.raise_same s p v c).home
@[simp] theorem State.raise_dram : (s.raise p v c).dram = s.dram := (State.raise_same s p v c).dram
@[simp] theorem State.raise_links : (s.raise p v c).links = s.links := (State.raise_same s p v c).links
@[simp] theorem State.raise_sec : (s.raise p v c).sec = s.sec := (State.raise_same s p v c).sec
@[simp] theorem State.raise_crypto : (s.raise p v c).crypto = s.crypto := (State.raise_same s p v c).crypto
@[simp] theorem State.raise_pcie : (s.raise p v c).pcie = s.pcie := (State.raise_same s p v c).pcie
@[simp] theorem State.raise_pwr : (s.raise p v c).pwr = s.pwr := (State.raise_same s p v c).pwr
@[simp] theorem State.raise_freeCtr : (s.raise p v c).freeCtr = s.freeCtr := (State.raise_same s p v c).freeCtr
@[simp] theorem State.raise_pending : (s.raise p v c).pending = s.pending := (State.raise_same s p v c).pending
@[simp] theorem State.raise_reg (k : Nat) : (s.raise p v c).reg k = s.reg k := (State.raise_same s p v c).reg k
@[simp] theorem State.raise_f (k : Nat) (fl : Fld) : (s.raise p v c).f k fl = s.f k fl := (State.raise_same s p v c).f k fl
@[simp] theorem State.raiseAll_regs : (s.raiseAll ps v).regs = s.regs := (State.raiseAll_same s ps v).regs
@[simp] theorem State.raiseAll_beat : (s.raiseAll ps v).beat = s.beat := (State.raiseAll_same s ps v).beat
@[simp] theorem State.raiseAll_boot : (s.raiseAll ps v).boot = s.boot := (State.raiseAll_same s ps v).boot
@[simp] theorem State.raiseAll_cores : (s.raiseAll ps v).cores = s.cores := (State.raiseAll_same s ps v).cores
@[simp] theorem State.raiseAll_cache : (s.raiseAll ps v).cache = s.cache := (State.raiseAll_same s ps v).cache
@[simp] theorem State.raiseAll_xlat : (s.raiseAll ps v).xlat = s.xlat := (State.raiseAll_same s ps v).xlat
@[simp] theorem State.raiseAll_fab : (s.raiseAll ps v).fab = s.fab := (State.raiseAll_same s ps v).fab
@[simp] theorem State.raiseAll_home : (s.raiseAll ps v).home = s.home := (State.raiseAll_same s ps v).home
@[simp] theorem State.raiseAll_dram : (s.raiseAll ps v).dram = s.dram := (State.raiseAll_same s ps v).dram
@[simp] theorem State.raiseAll_links : (s.raiseAll ps v).links = s.links := (State.raiseAll_same s ps v).links
@[simp] theorem State.raiseAll_sec : (s.raiseAll ps v).sec = s.sec := (State.raiseAll_same s ps v).sec
@[simp] theorem State.raiseAll_crypto : (s.raiseAll ps v).crypto = s.crypto := (State.raiseAll_same s ps v).crypto
@[simp] theorem State.raiseAll_pcie : (s.raiseAll ps v).pcie = s.pcie := (State.raiseAll_same s ps v).pcie
@[simp] theorem State.raiseAll_pwr : (s.raiseAll ps v).pwr = s.pwr := (State.raiseAll_same s ps v).pwr
@[simp] theorem State.raiseAll_freeCtr : (s.raiseAll ps v).freeCtr = s.freeCtr := (State.raiseAll_same s ps v).freeCtr
@[simp] theorem State.raiseAll_pending : (s.raiseAll ps v).pending = s.pending := (State.raiseAll_same s ps v).pending
@[simp] theorem State.raiseAll_reg (k : Nat) : (s.raiseAll ps v).reg k = s.reg k := (State.raiseAll_same s ps v).reg k
@[simp] theorem State.raiseAll_f (k : Nat) (fl : Fld) : (s.raiseAll ps v).f k fl = s.f k fl := (State.raiseAll_same s ps v).f k fl

end

/-! ## The newest record -/

section
variable {s : State}

theorem ELog.store_newest (l : ELog) (r : Rec) :
    let m := (l.store false r).1
    (m.recs.get ((m.written - 1) % 120)).code = r.code ∧ (m.recs.get ((m.written - 1) % 120)).kind = r.kind ∧
      (m.recs.get ((m.written - 1) % 120)).unit = r.unit := by
  unfold ELog.store
  dsimp only
  split
  · rename_i h
    simp only [Rec.same, Bool.and_eq_true, decide_eq_true_eq] at h
    simp [h.2.1.1.1.1.1, h.2.1.1.1.1.2, h.2.1.1.1.2]
  · simp

/-- The package log names a record of this code and unit as its newest, unless RESET_N is asserted. -/
def State.Newest (s : State) (code kind unit : Nat) : Prop :=
  s.boot.inReset = false → (s.newest ELOG_PKG).code = code ∧ (s.newest ELOG_PKG).kind = kind ∧ (s.newest ELOG_PKG).unit = unit

theorem State.raise_newest (p v : Nat) (c : Option Nat) : (s.raise p v c).newest = s.newest := by
  unfold State.raise
  split <;> rfl

theorem State.storeRec_newest (n : Nat) (r : Rec) (h : n ≠ ELOG_PKG → s.Newest r.code r.kind r.unit) :
    (s.storeRec n r).Newest r.code r.kind r.unit := by
  unfold State.storeRec
  split
  · rename_i hr
    exact fun h0 => absurd h0 (by simp [hr])
  split
  rename_i l stored e
  have hl : ({ s with err := { s.err with logs := s.err.logs.put n l } } : State).Newest r.code r.kind r.unit := by
    unfold State.Newest State.newest
    intro h0
    by_cases hn : n = ELOG_PKG
    · subst hn
      have := ELog.store_newest (s.err.logs.get ELOG_PKG) r
      rw [show decide (ELOG_PKG = ELOG_GONG) = false from rfl] at e
      rw [e] at this
      simpa using this
    · simpa [Ne.symm hn, State.Newest, State.newest] using h hn h0
  dsimp only
  split
  · simpa only [State.Newest, State.raise_newest, State.raise_boot] using hl
  · exact hl

theorem State.recordAt_newest {e : ECode} {host kind unit : Nat} {parts : List Nat} {addr : Option Nat} {detail : Nat} {g : Bool} :
    (s.recordAt e host kind unit parts addr detail g).Newest e.val kind unit := by
  unfold State.recordAt
  extract_lets ps r a b named
  have ha : a.Newest e.val kind unit := State.storeRec_newest _ r fun _ => State.storeRec_newest _ r fun h => absurd rfl h
  have hb : b.Newest e.val kind unit := by
    show State.Newest (if g then _ else _) _ _ _
    split
    · exact State.storeRec_newest _ r fun _ => ha
    · exact ha
  clear_value b
  split
  · exact State.storeRec_newest _ { r with part := 0 } fun _ => hb
  · unfold each
    generalize named = l
    induction l generalizing b with
    | nil => exact hb
    | cons p q ih => exact ih _ (State.storeRec_newest _ { r with part := p } fun _ => hb)

/-- The logs alone decide what is logged. -/
theorem State.Logged.of_logs {t : State} {e : ECode} {kind unit : Nat} (h : s.Logged e kind unit) (hl : t.err.logs = s.err.logs)
    (hb : t.boot = s.boot) : t.Logged e kind unit := by
  unfold State.Logged State.newest at *
  rwa [hl, hb]

/-- A record is the newest of the package log. -/
theorem State.record_logged (e : ECode) (kind unit : Nat) (parts : List Nat) (addr : Option Nat) (detail : Nat) :
    (s.record e kind unit parts addr detail).Logged e kind unit := State.recordAt_newest

end

end Sys2Proof.Machine
end

