-- ==== Sys2Proof/Laws/Access.lean ====
section
/-! SUPPORT. Control Space accesses: an admitted access is performed (R306), and what an answer changes. -/

namespace Sys2Proof.Machine

/-- An access that reaches its block, at an offset that holds no register or under a right to the register, is performed. -/
theorem State.csGuard_reaches {s : State} {w : Who} {off : Nat} {wr : Option Word} (h : s.Reaches w off wr.isSome) (act : State → State)
    (ok : regAt off = none ∨ (whoService w = false ∧ ∃ b n rel, locate off = some (b, n, rel) ∧ trainOnly b n rel = none ∧
      s.csRight (s.whoPart w) b n rel wr.isSome = true)) : s.csGuard w off 8 wr act = act s := by
  obtain ⟨⟨hr, hk⟩, ho, hp, b, n, rel, hl, hd, hcl⟩ := h
  have h1 : (s.whoCore w).any s.coreBlocked = false := by
    cases hw : s.whoCore w with
    | none => rfl
    | some c => exact (hk c hw).1
  have h2 : (s.whoCore w).any s.unagreed = false := by
    cases hw : s.whoCore w with
    | none => rfl
    | some c => exact (hk c hw).2
  have h3 : ((s.csLinks w b n rel wr.isSome).any fun l => !s.linkCarries l) = false := by
    rw [List.any_eq_false]
    intro l hm
    simp [hcl l hm]
  unfold State.csGuard
  simp only [hr, h1, h2, ho, hp, hl, h3]
  rcases ok with hn | ⟨hs, b', n', rel', hl', ht, hc⟩
  · cases hsd : servingDie b n with
    | none => simp [hn]
    | some d => simp [hn, hd d hsd]
  · rw [hl] at hl'
    cases hl'
    simp only [hs, ht, hc]
    cases hsd : servingDie b n with
    | none => simp
    | some d => simp [hd d hsd]

/-- An admitted access reaches its register. -/
theorem State.csGuard_admitted {s : State} {w : Who} {off : Nat} {wr : Option Word} (h : s.Admitted w off wr.isSome)
    (act : State → State) : s.csGuard w off 8 wr act = act s :=
  State.csGuard_reaches h.1 act (.inr h.2)

section
variable (s : State)

theorem State.toCore_same {c code : Nat} {data : Line} (hc : c ≠ DEBUG_PORT) : s.toCore c code data = s.send (.core c code data) := by
  simp [State.toCore, hc]

/-- An answer to a core outside a pair. -/
theorem State.coreReply_one {c code : Nat} {data : Line} (h : s.sharers c = [c]) (hc : c ≠ DEBUG_PORT) :
    s.coreReply c code data = s.send (.core c code data) := by
  simp [State.coreReply, h, each, State.toCore, hc]

theorem State.toCore_regs (c code : Nat) (data : Line) : (s.toCore c code data).regs = s.regs := by
  unfold State.toCore; split <;> rfl

theorem each_field {α β : Type} (g : State → β) {l : List α} {f : State → α → State} (h : ∀ t a, g (f t a) = g t) :
    g (each l f s) = g s := by
  unfold each
  induction l generalizing s with
  | nil => rfl
  | cons a r ih => exact (ih _).trans (h s a)

theorem State.coreReply_regs (c code : Nat) (data : Line) : (s.coreReply c code data).regs = s.regs :=
  each_field s State.regs fun t _ => State.toCore_regs t _ _ _

theorem State.whoReply_regs (w : Who) (code : Nat) (v : Word) : (s.whoReply w code v).regs = s.regs := by
  unfold State.whoReply
  split
  · split
    · exact State.coreReply_regs s _ _ _
    · rfl
  · rfl
  · exact State.toCore_regs s _ _ _
  · split <;> rfl

@[simp] theorem State.toCore_f (c code : Nat) (data : Line) (k : Nat) (fl : Fld) : (s.toCore c code data).f k fl = s.f k fl := by
  simp [State.f, State.reg, State.toCore_regs]

@[simp] theorem State.coreReply_f (c code : Nat) (data : Line) (k : Nat) (fl : Fld) :
    (s.coreReply c code data).f k fl = s.f k fl := by
  simp [State.f, State.reg, State.coreReply_regs]

@[simp] theorem State.whoReply_f (w : Who) (code : Nat) (v : Word) (k : Nat) (fl : Fld) :
    (s.whoReply w code v).f k fl = s.f k fl := by
  simp [State.f, State.reg, State.whoReply_regs]

@[simp] theorem State.whoReply_reg (w : Who) (code : Nat) (v : Word) (k : Nat) : (s.whoReply w code v).reg k = s.reg k := by
  simp [State.reg, State.whoReply_regs]

end

end Sys2Proof.Machine
end

