-- ==== Sys2Proof/Laws/Caches.lean ====
section
/-! SUPPORT. Die Cache lines: what a lookup finds after an update, and what counting an event leaves as it was. -/

namespace Sys2Proof.Machine

section
variable {s : State} {d line : Nat} {l : DcLine}

theorem dcKey_inj {d set w v : Nat} (h : dcKey d set w = dcKey d set v) : w = v := by
  unfold dcKey at h; omega

theorem State.dcFind_way (h : s.dcFind d line = some l) :
    ∃ w, s.dcWay d line = some w ∧ s.cache.dc.get (dcKey d (dcSetOf line) w) = l ∧ l.coh ≠ .i ∧ l.line = line := by
  unfold State.dcFind at h
  cases hw : s.dcWay d line with
  | none => simp [hw] at h
  | some w =>
    simp only [hw, Option.map_some, Option.some.injEq] at h
    have := List.find?_some hw
    simp only [h, Bool.and_eq_true, bne_iff_ne, ne_eq, decide_eq_true_eq] at this
    exact ⟨w, rfl, h, this⟩

/-- A line put in the place of one of the same address is found there. -/
theorem State.dcFind_put {t : State} {w : Nat} (hw : s.dcWay d line = some w) (hl : l.line = line) (hc : l.coh ≠ .i)
    (ht : t.cache.dc = s.cache.dc.put (dcKey d (dcSetOf line) w) l) : t.dcFind d line = some l := by
  have hp := List.find?_some hw
  have : t.dcWay d line = some w := by
    rw [← hw]
    unfold State.dcWay
    rw [ht]
    congr 1
    funext v
    by_cases hv : v = w
    · subst hv
      rw [SMap.get_put, if_pos rfl, hp]
      simp [hl, hc]
    · rw [SMap.get_put, if_neg fun h => hv (dcKey_inj h)]
  simp [State.dcFind, this, ht]

theorem State.dcFind_dcUpd {f : DcLine → DcLine} (h : s.dcFind d line = some l) (hl : (f l).line = line) (hc : (f l).coh ≠ .i) :
    (s.dcUpd d line f).dcFind d line = some (f l) := by
  obtain ⟨w, hw, hg, -, -⟩ := State.dcFind_way h
  refine State.dcFind_put hw hl hc ?_
  simp only [State.dcUpd, hw, hg, if_neg hc]
  rfl

theorem State.dcFind_congr {t : State} (h : t.cache.dc = s.cache.dc) : t.dcFind d line = s.dcFind d line := by
  simp [State.dcFind, State.dcWay, h]

@[simp] theorem State.dcTouch_dc : (s.dcTouch d line).cache.dc = s.cache.dc := by
  unfold State.dcTouch; split <;> rfl

@[simp] theorem State.dcUpd_regs {f : DcLine → DcLine} : (s.dcUpd d line f).regs = s.regs := by
  unfold State.dcUpd; split <;> rfl

@[simp] theorem State.dcTouch_regs : (s.dcTouch d line).regs = s.regs := by
  unfold State.dcTouch; split <;> rfl

theorem State.l1Find_congr {t : State} {c : Nat} {i : Bool} (h : t.cache.blks i = s.cache.blks i) (h' : t.cache.secs i = s.cache.secs i) :
    t.l1Find c i line = s.l1Find c i line := by simp [State.l1Find, State.l1Way, h, h']

@[simp] theorem State.l1Find_dcTouch {c : Nat} {i : Bool} {l : Nat} : (s.dcTouch d line).l1Find c i l = s.l1Find c i l := by
  unfold State.dcTouch; split <;> first | rfl | exact State.l1Find_congr (by cases i <;> rfl) (by cases i <;> rfl)

@[simp] theorem State.l1Find_dcUpd {c : Nat} {i : Bool} {l : Nat} {f : DcLine → DcLine} :
    (s.dcUpd d line f).l1Find c i l = s.l1Find c i l := by
  unfold State.dcUpd; split <;> first | rfl | exact State.l1Find_congr (by cases i <;> rfl) (by cases i <;> rfl)

end

section
variable (s : State) (c ev : Nat) (u : Bool)

theorem State.pmuWrap_cache (c n : Nat) : (s.pmuWrap c n).cache = s.cache := by
  unfold State.pmuWrap; dsimp only; split <;> simp

@[simp] theorem State.count_cache : (s.count c ev u).cache = s.cache := by
  unfold State.count
  refine each_field s State.cache fun t n => ?_
  dsimp only
  generalize (if u = true then F.PMU_CTL_USER else F.PMU_CTL_SUPER) = fl
  split
  · split
    · rw [State.pmuWrap_cache]; rfl
    · rfl
  · rfl

/-- Counting an event changes the registers of the counters alone (R105). -/
theorem State.count_f {k : Nat} {fl : Fld} (h1 : ∀ n < 8, k ≠ R.PMU_CNT c n) (h2 : k ≠ R.PMU_OVF c) :
    (s.count c ev u).f k fl = s.f k fl := by
  unfold State.count each
  have hl : ∀ n ∈ List.range 8, n < 8 := fun n h => List.mem_range.mp h
  generalize List.range 8 = l at hl
  induction l generalizing s with
  | nil => rfl
  | cons n r ih =>
    rw [List.foldl_cons, ih _ fun m hm => hl m (List.mem_cons_of_mem _ hm)]
    have hn := h1 n (hl n (by simp))
    dsimp only
    generalize (if u = true then F.PMU_CTL_USER else F.PMU_CTL_SUPER) = gl
    split
    · have hw : (s.wrapF (R.PMU_CNT c n) F.PMU_CNT_COUNT).f k fl = s.f k fl := State.f_setF_ne s _ _ _ hn
      split
      · unfold State.pmuWrap
        dsimp only
        split
        · rw [State.raise_f, State.f_setF_ne _ _ _ _ h2, hw]
        · rw [State.f_setF_ne _ _ _ _ h2, hw]
      · exact hw
    · rfl

end

end Sys2Proof.Machine
end

