-- ==== Sys2Proof/Laws/Sound.lean ====
section
/-! SUPPORT. Soundness: the invariant State.Inv, what no operation does to the state it started from (change the queue, give
back a free value, lower the anti-rollback counter, move the beat counter), and which parts of the state an operation leaves
as they were. One lemma for each operation stands in Laws/Keep*.lean under the operation's name; the few of a boundary and of
RESET_N move the beat counter and have a lemma of the weaker form. -/

namespace Sys2Proof.Machine

/-- s is sound and can follow o: the invariant holds in s, and s has the queue of o, as many free values taken, and an
anti-rollback counter as high (R78). -/
structure State.Follows (s o : State) : Prop where
  queue : s.pending = o.pending
  free : o.freeCtr ≤ s.freeCtr
  fused : o.boot.advanced ≤ s.boot.advanced
  mem : Mem.wf s.dram.mem = true
  regs : regsWf s.regs

/-- The parts of the state that are known to be as they were. -/
structure Kept where
  (regs beat boot cores cache xlat fab home dram mem links sec crypto pcie pwr err sent freeCtr : Bool)

/-- s follows o within the same beat, and agrees with it in the parts kept. -/
structure State.Sound (s : State) (k : Kept) (o : State) : Prop where
  clock : s.beat.now = o.beat.now
  queue : s.pending = o.pending
  free : o.freeCtr ≤ s.freeCtr
  fused : o.boot.advanced ≤ s.boot.advanced
  mem : Mem.wf s.dram.mem = true
  regs : regsWf s.regs
  k_regs : k.regs = true → s.regs = o.regs
  k_beat : k.beat = true → s.beat = o.beat
  k_boot : k.boot = true → s.boot = o.boot
  k_cores : k.cores = true → s.cores = o.cores
  k_cache : k.cache = true → s.cache = o.cache
  k_xlat : k.xlat = true → s.xlat = o.xlat
  k_fab : k.fab = true → s.fab = o.fab
  k_home : k.home = true → s.home = o.home
  k_dram : k.dram = true → s.dram = o.dram
  k_mem : k.mem = true → s.dram.mem = o.dram.mem
  k_links : k.links = true → s.links = o.links
  k_sec : k.sec = true → s.sec = o.sec
  k_crypto : k.crypto = true → s.crypto = o.crypto
  k_pcie : k.pcie = true → s.pcie = o.pcie
  k_pwr : k.pwr = true → s.pwr = o.pwr
  k_err : k.err = true → s.err = o.err
  k_sent : k.sent = true → s.sent = o.sent
  k_freeCtr : k.freeCtr = true → s.freeCtr = o.freeCtr
  k_flits : k.sent = true → s.flits = o.flits

theorem State.Sound.follows {s o : State} {k : Kept} (h : s.Sound k o) : s.Follows o := ⟨h.queue, h.free, h.fused, h.mem, h.regs⟩

theorem State.Follows.self {s o : State} {k : Kept} (h : s.Follows o) : s.Sound k s :=
  ⟨rfl, rfl, le_refl _, le_refl _, h.mem, h.regs, fun _ => rfl, fun _ => rfl, fun _ => rfl, fun _ => rfl, fun _ => rfl, fun _ => rfl, fun _ => rfl, fun _ => rfl, fun _ => rfl, fun _ => rfl, fun _ => rfl, fun _ => rfl, fun _ => rfl, fun _ => rfl, fun _ => rfl, fun _ => rfl, fun _ => rfl, fun _ => rfl, fun _ => rfl⟩

theorem State.Follows.trans {s t u : State} (h : s.Follows t) (h' : t.Follows u) : s.Follows u :=
  ⟨h.queue.trans h'.queue, h'.free.trans h.free, h'.fused.trans h.fused, h.mem, h.regs⟩

/-- The outcome of a command that may move the beat counter. -/
def OutFollows (o : State) : Out → Prop
  | .next t => t.Follows o
  | _ => True

/-- What the outcome of a command keeps. -/
def OutSound (k : Kept) (o : State) : Out → Prop
  | .next t => t.Sound k o
  | _ => True

section
variable {o s : State} {k : Kept} {α : Type} {k0 k1 k2 k3 k4 k5 k6 k7 k8 k9 k10 k11 k12 k13 k14 k15 k16 k17 : Bool}

/-- A state that keeps the invariant follows itself. -/
theorem State.Sound.self (h : s.Inv) : s.Sound k s := ⟨rfl, rfl, le_refl _, le_refl _, h.1, h.2, fun _ => rfl, fun _ => rfl, fun _ => rfl, fun _ => rfl, fun _ => rfl, fun _ => rfl, fun _ => rfl, fun _ => rfl, fun _ => rfl, fun _ => rfl, fun _ => rfl, fun _ => rfl, fun _ => rfl, fun _ => rfl, fun _ => rfl, fun _ => rfl, fun _ => rfl, fun _ => rfl, fun _ => rfl⟩

theorem State.Sound.inv (h : s.Sound k o) : s.Inv := ⟨h.mem, h.regs⟩

theorem id_sound (h : s.Sound k o) : (id s).Sound k o := h

theorem next_sound (h : s.Sound k o) : OutSound k o (.next s) := h

theorem mk_sound {regs : SMap Word} {beat boot cores cache xlat fab home dram links sec crypto pcie pwr err sent flits freeCtr pending}
    (h0 : beat.now = o.beat.now) (h1 : pending = o.pending) (h2 : o.freeCtr ≤ freeCtr) (h3 : o.boot.advanced ≤ boot.advanced)
    (h4 : Mem.wf dram.mem = true) (h5 : regsWf regs)
    (g0 : k.regs = true → regs = o.regs) (g1 : k.beat = true → beat = o.beat) (g2 : k.boot = true → boot = o.boot) (g3 : k.cores = true → cores = o.cores)
    (g4 : k.cache = true → cache = o.cache) (g5 : k.xlat = true → xlat = o.xlat) (g6 : k.fab = true → fab = o.fab) (g7 : k.home = true → home = o.home)
    (g8 : k.dram = true → dram = o.dram) (g9 : k.mem = true → dram.mem = o.dram.mem) (g10 : k.links = true → links = o.links) (g11 : k.sec = true → sec = o.sec)
    (g12 : k.crypto = true → crypto = o.crypto) (g13 : k.pcie = true → pcie = o.pcie) (g14 : k.pwr = true → pwr = o.pwr) (g15 : k.err = true → err = o.err)
    (g16 : k.sent = true → sent = o.sent) (g17 : k.freeCtr = true → freeCtr = o.freeCtr) (g18 : k.sent = true → flits = o.flits) :
    State.Sound { regs, beat, boot, cores, cache, xlat, fab, home, dram, links, sec, crypto, pcie, pwr, err, sent, flits, freeCtr,
                  pending } k o :=
  ⟨h0, h1, h2, h3, h4, h5, g0, g1, g2, g3, g4, g5, g6, g7, g8, g9, g10, g11, g12, g13, g14, g15, g16, g17, g18⟩

theorem ite_sound {c : Prop} [Decidable c] {a b : State} (ha : a.Sound k o) (hb : b.Sound k o) :
    (if c then a else b).Sound k o := by split <;> assumption

theorem ite_fst_sound {c : Prop} [Decidable c] {a b : State × α} (ha : a.1.Sound k o) (hb : b.1.Sound k o) :
    (if c then a else b).1.Sound k o := by split <;> assumption

theorem ite_out_sound {c : Prop} [Decidable c] {a b : Out} (ha : OutSound k o a) (hb : OutSound k o b) :
    OutSound k o (if c then a else b) := by split <;> assumption

theorem each_sound {l : List α} {f : State → α → State} (hf : ∀ t a, t.Sound k o → (f t a).Sound k o) (h : s.Sound k o) :
    (each l f s).Sound k o := by
  unfold each
  induction l generalizing s with
  | nil => exact h
  | cons a r ih => exact ih (hf s a h)

theorem foldl_sound {l : List α} {f : State → α → State} (hf : ∀ t a, t.Sound k o → (f t a).Sound k o) (h : s.Sound k o) :
    (l.foldl f s).Sound k o := each_sound hf h

theorem foldl_fst_sound {β : Type} {l : List α} {f : State × β → α → State × β} {x : State × β}
    (hf : ∀ t a, t.1.Sound k o → (f t a).1.Sound k o) (h : x.1.Sound k o) : (l.foldl f x).1.Sound k o := by
  induction l generalizing x with
  | nil => exact h
  | cons a r ih => exact ih (hf x a h)

theorem foldl_fst_sound' {β : Type} {l : List α} {f : State × β → α → State × β} {x : State × β} {t : State} {b : β}
    (e : l.foldl f x = (t, b)) (hf : ∀ t a, t.1.Sound k o → (f t a).1.Sound k o) (h : x.1.Sound k o) : t.Sound k o := by
  have := foldl_fst_sound (l := l) hf h
  rwa [e] at this

theorem each_fst_sound {β : Type} {l : List α} {f : State × β → α → State × β} {x : State × β}
    (hf : ∀ t a, t.1.Sound k o → (f t a).1.Sound k o) (h : x.1.Sound k o) : (each l f x).1.Sound k o := foldl_fst_sound hf h

theorem each_fst_sound' {β : Type} {l : List α} {f : State × β → α → State × β} {x : State × β} {t : State} {b : β}
    (e : each l f x = (t, b)) (hf : ∀ t a, t.1.Sound k o → (f t a).1.Sound k o) (h : x.1.Sound k o) : t.Sound k o :=
  foldl_fst_sound' e hf h

theorem fst_sound {x : State × α} {t : State} {b : α} (e : x = (t, b)) (h : x.1.Sound k o) : t.Sound k o := by
  rwa [e] at h

theorem getD_sound {x : Option State} (hx : ∀ t, x = some t → t.Sound k o) (h : s.Sound k o) : (x.getD s).Sound k o := by
  cases x with
  | none => exact h
  | some t => exact hx t rfl

theorem when_sound {b : Bool} {f : State → State} (hf : ∀ t, t.Sound k o → (f t).Sound k o) (h : s.Sound k o) :
    (when b f s).Sound k o := ite_sound (hf s h) h

theorem State.setReg_sound {off : Nat} {w : Word} (h : s.Sound ⟨false, k1, k2, k3, k4, k5, k6, k7, k8, k9, k10, k11, k12, k13, k14, k15, k16, k17⟩ o) :
    (s.setReg off w).Sound ⟨false, k1, k2, k3, k4, k5, k6, k7, k8, k9, k10, k11, k12, k13, k14, k15, k16, k17⟩ o :=
  ⟨h.clock, h.queue, h.free, h.fused, h.mem, regsWf_setReg h.regs off w, nofun, h.k_beat, h.k_boot, h.k_cores, h.k_cache, h.k_xlat, h.k_fab, h.k_home, h.k_dram, h.k_mem, h.k_links, h.k_sec, h.k_crypto, h.k_pcie, h.k_pwr, h.k_err, h.k_sent, h.k_freeCtr, h.k_flits⟩

theorem State.onDram_sound {f : DramSt → DramSt} (h : s.Sound ⟨k0, k1, k2, k3, k4, k5, k6, k7, false, k9, k10, k11, k12, k13, k14, k15, k16, k17⟩ o) (hm : (f s.dram).mem = s.dram.mem) :
    (s.onDram f).Sound ⟨k0, k1, k2, k3, k4, k5, k6, k7, false, k9, k10, k11, k12, k13, k14, k15, k16, k17⟩ o :=
  ⟨h.clock, h.queue, h.free, h.fused, by show Mem.wf (f s.dram).mem = true; rw [hm]; exact h.mem, h.regs, h.k_regs, h.k_beat, h.k_boot, h.k_cores, h.k_cache, h.k_xlat, h.k_fab, h.k_home, nofun, fun e => hm.trans (h.k_mem e), h.k_links, h.k_sec, h.k_crypto, h.k_pcie, h.k_pwr, h.k_err, h.k_sent, h.k_freeCtr, h.k_flits⟩

theorem State.onBoot_sound {f : BootSt → BootSt} (h : s.Sound ⟨k0, k1, false, k3, k4, k5, k6, k7, k8, k9, k10, k11, k12, k13, k14, k15, k16, k17⟩ o) (hm : (f s.boot).advanced = s.boot.advanced) :
    (s.onBoot f).Sound ⟨k0, k1, false, k3, k4, k5, k6, k7, k8, k9, k10, k11, k12, k13, k14, k15, k16, k17⟩ o :=
  ⟨h.clock, h.queue, h.free, by show _ ≤ (f s.boot).advanced; rw [hm]; exact h.fused, h.mem, h.regs, h.k_regs, h.k_beat, nofun, h.k_cores, h.k_cache, h.k_xlat, h.k_fab, h.k_home, h.k_dram, h.k_mem, h.k_links, h.k_sec, h.k_crypto, h.k_pcie, h.k_pwr, h.k_err, h.k_sent, h.k_freeCtr, h.k_flits⟩

theorem State.onBeat_sound {f : BeatSt → BeatSt} (h : s.Sound ⟨k0, false, k2, k3, k4, k5, k6, k7, k8, k9, k10, k11, k12, k13, k14, k15, k16, k17⟩ o) (hm : (f s.beat).now = s.beat.now) :
    (s.onBeat f).Sound ⟨k0, false, k2, k3, k4, k5, k6, k7, k8, k9, k10, k11, k12, k13, k14, k15, k16, k17⟩ o :=
  ⟨by show (f s.beat).now = _; rw [hm]; exact h.clock, h.queue, h.free, h.fused, h.mem, h.regs, h.k_regs, nofun, h.k_boot, h.k_cores, h.k_cache, h.k_xlat, h.k_fab, h.k_home, h.k_dram, h.k_mem, h.k_links, h.k_sec, h.k_crypto, h.k_pcie, h.k_pwr, h.k_err, h.k_sent, h.k_freeCtr, h.k_flits⟩

/-- A change of the memory's own state that keeps the canonical form. -/
theorem State.onDram_wf_sound {f : DramSt → DramSt} (h : s.Sound ⟨k0, k1, k2, k3, k4, k5, k6, k7, false, false, k10, k11, k12, k13, k14, k15, k16, k17⟩ o)
    (hm : Mem.wf (f s.dram).mem = true) :
    (s.onDram f).Sound ⟨k0, k1, k2, k3, k4, k5, k6, k7, false, false, k10, k11, k12, k13, k14, k15, k16, k17⟩ o :=
  ⟨h.clock, h.queue, h.free, h.fused, hm, h.regs, h.k_regs, h.k_beat, h.k_boot, h.k_cores, h.k_cache, h.k_xlat, h.k_fab, h.k_home, nofun, nofun, h.k_links, h.k_sec, h.k_crypto, h.k_pcie, h.k_pwr, h.k_err, h.k_sent, h.k_freeCtr, h.k_flits⟩

theorem State.setLine_sound {c l : Nat} {x : Stored} (h : s.Sound ⟨k0, k1, k2, k3, k4, k5, k6, k7, false, false, k10, k11, k12, k13, k14, k15, k16, k17⟩ o) :
    (s.onDram fun d => { d with mem := Mem.setLine d.mem c l x }).Sound ⟨k0, k1, k2, k3, k4, k5, k6, k7, false, false, k10, k11, k12, k13, k14, k15, k16, k17⟩ o :=
  ⟨h.clock, h.queue, h.free, h.fused, Mem.setLine_wf h.mem c l x, h.regs, h.k_regs, h.k_beat, h.k_boot, h.k_cores, h.k_cache, h.k_xlat, h.k_fab, h.k_home, nofun, nofun, h.k_links, h.k_sec, h.k_crypto, h.k_pcie, h.k_pwr, h.k_err, h.k_sent, h.k_freeCtr, h.k_flits⟩

theorem State.tick_sound (h : s.Sound ⟨k0, k1, k2, k3, k4, k5, k6, k7, k8, k9, k10, k11, k12, k13, k14, k15, k16, false⟩ o) :
    (s.tick).Sound ⟨k0, k1, k2, k3, k4, k5, k6, k7, k8, k9, k10, k11, k12, k13, k14, k15, k16, false⟩ o :=
  ⟨h.clock, h.queue, Nat.le_succ_of_le h.free, h.fused, h.mem, h.regs, h.k_regs, h.k_beat, h.k_boot, h.k_cores, h.k_cache, h.k_xlat, h.k_fab, h.k_home, h.k_dram, h.k_mem, h.k_links, h.k_sec, h.k_crypto, h.k_pcie, h.k_pwr, h.k_err, h.k_sent, nofun, h.k_flits⟩

end

end Sys2Proof.Machine
end

