-- ==== Sys2Proof/Laws/KeepOps.lean ====
section
/-! SUPPORT. The operations of Machine/Ops.lean keep State.Sound. -/

namespace Sys2Proof.Machine

variable {k0 k1 k2 k3 k4 k5 k6 k7 k8 k9 k10 k11 k12 k13 k14 k15 k16 k17 : Bool}

theorem State.setF_sound {o : State} {s : State} {off : ℕ} {fl : Fld} {v : ℕ} (hS : s.Sound ⟨false, k1, k2, k3, k4,
    k5, k6, k7, k8, k9, k10, k11, k12, k13, k14, k15, k16, k17⟩ o) : (State.setF s off fl v).Sound ⟨false, k1, k2, k3,
    k4, k5, k6, k7, k8, k9, k10, k11, k12, k13, k14, k15, k16, k17⟩ o := by
  unfold State.setF; try dsimp only
  with_reducible repeat' first | assumption | intro _ | apply State.setReg_sound

theorem State.incF_sound {o : State} {s : State} {off : ℕ} {fl : Fld} {n : ℕ} (hS : s.Sound ⟨false, k1, k2, k3, k4,
    k5, k6, k7, k8, k9, k10, k11, k12, k13, k14, k15, k16, k17⟩ o) : (State.incF s off fl n).Sound ⟨false, k1, k2, k3,
    k4, k5, k6, k7, k8, k9, k10, k11, k12, k13, k14, k15, k16, k17⟩ o := by
  unfold State.incF; try dsimp only
  with_reducible repeat' first | assumption | intro _ | apply State.setF_sound

theorem State.wrapF_sound {o : State} {s : State} {off : ℕ} {fl : Fld} (hS : s.Sound ⟨false, k1, k2, k3, k4, k5, k6,
    k7, k8, k9, k10, k11, k12, k13, k14, k15, k16, k17⟩ o) : (State.wrapF s off fl).Sound ⟨false, k1, k2, k3, k4, k5,
    k6, k7, k8, k9, k10, k11, k12, k13, k14, k15, k16, k17⟩ o := by
  unfold State.wrapF; try dsimp only
  with_reducible repeat' first | assumption | intro _ | apply State.setF_sound

theorem State.resetReg_sound {o : State} {s : State} {off : ℕ} (hS : s.Sound ⟨false, k1, k2, k3, k4, k5, k6, k7, k8,
    k9, k10, k11, k12, k13, k14, k15, k16, k17⟩ o) : (State.resetReg s off).Sound ⟨false, k1, k2, k3, k4, k5, k6, k7,
    k8, k9, k10, k11, k12, k13, k14, k15, k16, k17⟩ o := by
  unfold State.resetReg; try dsimp only
  with_reducible repeat' first | assumption | intro _ | apply State.setReg_sound

theorem State.setCoreState_sound {o : State} {s : State} {c : ℕ} {v : ℕ} (hS : s.Sound ⟨false, k1, k2, k3, k4, k5,
    k6, k7, k8, k9, k10, k11, k12, k13, k14, k15, k16, k17⟩ o) : (State.setCoreState s c v).Sound ⟨false, k1, k2, k3,
    k4, k5, k6, k7, k8, k9, k10, k11, k12, k13, k14, k15, k16, k17⟩ o := by
  unfold State.setCoreState; try dsimp only
  with_reducible repeat' first | assumption | intro _ | apply State.setF_sound

theorem State.send_sound {o : State} {s : State} {m : Msg} (hS : s.Sound ⟨k0, k1, k2, k3, k4, k5, k6, k7, k8, k9,
    k10, k11, k12, k13, k14, k15, false, k17⟩ o) : (State.send s m).Sound ⟨k0, k1, k2, k3, k4, k5, k6, k7, k8, k9,
    k10, k11, k12, k13, k14, k15, false, k17⟩ o := by
  exact ⟨hS.clock, hS.queue, hS.free, hS.fused, hS.mem, hS.regs, hS.k_regs, hS.k_beat, hS.k_boot, hS.k_cores, hS.k_cache, hS.k_xlat, hS.k_fab, hS.k_home, hS.k_dram, hS.k_mem, hS.k_links, hS.k_sec, hS.k_crypto, hS.k_pcie, hS.k_pwr, hS.k_err, nofun, hS.k_freeCtr, hS.k_flits⟩

theorem State.take_sound {o : State} {s : State} {m : Msg} (hS : s.Sound ⟨k0, k1, k2, k3, k4, k5, k6, k7, k8, k9, k10, k11, k12, k13, k14, k15, false, k17⟩ o) : (State.take s m).Sound ⟨k0, k1, k2, k3, k4, k5, k6, k7, k8, k9, k10, k11, k12, k13, k14, k15, false, k17⟩ o := by
  exact ⟨hS.clock, hS.queue, hS.free, hS.fused, hS.mem, hS.regs, hS.k_regs, hS.k_beat, hS.k_boot, hS.k_cores, hS.k_cache, hS.k_xlat, hS.k_fab, hS.k_home, hS.k_dram, hS.k_mem, hS.k_links, hS.k_sec, hS.k_crypto, hS.k_pcie, hS.k_pwr, hS.k_err, nofun, hS.k_freeCtr, nofun⟩

theorem State.toCore_sound {o : State} {s : State} {c : ℕ} {code : ℕ} {data : Line} (hS : s.Sound ⟨k0, k1, k2, k3,
    k4, k5, k6, k7, k8, k9, k10, k11, k12, k13, k14, false, false, k17⟩ o) : (State.toCore s c code data).Sound ⟨k0,
    k1, k2, k3, k4, k5, k6, k7, k8, k9, k10, k11, k12, k13, k14, false, false, k17⟩ o := by
  unfold State.toCore; try dsimp only
  with_reducible repeat' first
    | assumption | intro _ | apply State.send_sound | apply ite_sound | apply mk_sound | apply State.Sound.clock
    | apply State.Sound.queue | apply State.Sound.free | apply State.Sound.fused | apply State.Sound.mem
    | apply State.Sound.regs | apply State.Sound.k_regs | apply State.Sound.k_beat | apply State.Sound.k_boot
    | apply State.Sound.k_cores | apply State.Sound.k_cache | apply State.Sound.k_xlat | apply State.Sound.k_fab
    | apply State.Sound.k_home | apply State.Sound.k_dram | apply State.Sound.k_mem | apply State.Sound.k_links
    | apply State.Sound.k_sec | apply State.Sound.k_crypto | apply State.Sound.k_pcie | apply State.Sound.k_pwr
    | apply State.Sound.k_err | apply State.Sound.k_sent | apply State.Sound.k_freeCtr | apply State.Sound.k_flits
    | exact absurd (by assumption) Bool.false_ne_true

theorem State.raise_sound {o : State} {s : State} {p : ℕ} {v : ℕ} {core : Option ℕ} (hS : s.Sound ⟨k0, k1, k2, k3,
    k4, k5, k6, k7, k8, k9, k10, k11, k12, k13, k14, k15, false, k17⟩ o) : (State.raise s p v core).Sound ⟨k0, k1, k2,
    k3, k4, k5, k6, k7, k8, k9, k10, k11, k12, k13, k14, k15, false, k17⟩ o := by
  unfold State.raise; try dsimp only
  with_reducible repeat' first | assumption | intro _ | apply State.send_sound | apply ite_sound

theorem State.raiseOwn_sound {o : State} {s : State} {p : Nat} {v : Nat} (hS : s.Sound ⟨k0, k1, k2, k3, k4, k5, k6,
    k7, k8, k9, k10, k11, k12, k13, k14, k15, false, k17⟩ o) : (State.raiseOwn s p v).Sound ⟨k0, k1, k2, k3, k4, k5,
    k6, k7, k8, k9, k10, k11, k12, k13, k14, k15, false, k17⟩ o := by
  unfold State.raiseOwn; try dsimp only
  with_reducible repeat' first
    | assumption | intro _ | apply State.raise_sound | apply ite_sound | apply ite_fst_sound

theorem State.raiseAll_sound {o : State} {s : State} {ps : List ℕ} {v : ℕ} (hS : s.Sound ⟨k0, k1, k2, k3, k4, k5, k6,
    k7, k8, k9, k10, k11, k12, k13, k14, k15, false, k17⟩ o) : (State.raiseAll s ps v).Sound ⟨k0, k1, k2, k3, k4, k5,
    k6, k7, k8, k9, k10, k11, k12, k13, k14, k15, false, k17⟩ o := by
  unfold State.raiseAll; try dsimp only
  with_reducible repeat' first
    | assumption | intro _ | apply State.raise_sound | apply ite_sound | apply each_sound

theorem State.fromPkg_sound {o : State} {s : State} {src : Nat} {act : State → State} (h_act : ∀ (x0 : State),
    x0.Sound ⟨k0, k1, k2, k3, k4, k5, k6, k7, k8, k9, k10, k11, k12, k13, k14, k15, k16, k17⟩ o → (act x0).Sound ⟨k0,
    k1, k2, k3, k4, k5, k6, k7, k8, k9, k10, k11, k12, k13, k14, k15, k16, k17⟩ o) (hS : s.Sound ⟨k0, k1, k2, k3, k4,
    k5, k6, k7, k8, k9, k10, k11, k12, k13, k14, k15, k16, k17⟩ o) : (State.fromPkg s src act).Sound ⟨k0, k1, k2, k3,
    k4, k5, k6, k7, k8, k9, k10, k11, k12, k13, k14, k15, k16, k17⟩ o := by
  unfold State.fromPkg; try dsimp only
  with_reducible repeat' first | assumption | intro _ | apply h_act | apply ite_sound | apply ite_fst_sound

theorem State.ifHeard_sound {o : State} {s : State} {act : State → State} (h_act : ∀ (x0 : State), x0.Sound ⟨k0, k1,
    k2, k3, k4, k5, k6, k7, k8, k9, k10, k11, k12, k13, k14, k15, k16, k17⟩ o → (act x0).Sound ⟨k0, k1, k2, k3, k4,
    k5, k6, k7, k8, k9, k10, k11, k12, k13, k14, k15, k16, k17⟩ o) (hS : s.Sound ⟨k0, k1, k2, k3, k4, k5, k6, k7, k8,
    k9, k10, k11, k12, k13, k14, k15, k16, k17⟩ o) : (State.ifHeard s act).Sound ⟨k0, k1, k2, k3, k4, k5, k6, k7, k8,
    k9, k10, k11, k12, k13, k14, k15, k16, k17⟩ o := by
  unfold State.ifHeard; try dsimp only
  with_reducible repeat' first | assumption | intro _ | apply h_act | apply ite_sound | apply ite_fst_sound

theorem State.storeRec_sound {o : State} {s : State} {n : Nat} {r : Rec} (hS : s.Sound ⟨k0, k1, k2, k3, k4, k5, k6,
    k7, k8, k9, k10, k11, k12, k13, k14, false, false, k17⟩ o) : (State.storeRec s n r).Sound ⟨k0, k1, k2, k3, k4, k5,
    k6, k7, k8, k9, k10, k11, k12, k13, k14, false, false, k17⟩ o := by
  unfold State.storeRec; try dsimp only
  repeat' first
    | with_reducible assumption | with_reducible intro _ | with_reducible apply State.raise_sound
    | with_reducible apply ite_sound | with_reducible apply ite_fst_sound | with_reducible apply mk_sound
    | with_reducible apply State.Sound.clock | with_reducible apply State.Sound.queue
    | with_reducible apply State.Sound.free | with_reducible apply State.Sound.fused
    | with_reducible apply State.Sound.mem | with_reducible apply State.Sound.regs
    | with_reducible apply State.Sound.k_regs | with_reducible apply State.Sound.k_beat
    | with_reducible apply State.Sound.k_boot | with_reducible apply State.Sound.k_cores
    | with_reducible apply State.Sound.k_cache | with_reducible apply State.Sound.k_xlat
    | with_reducible apply State.Sound.k_fab | with_reducible apply State.Sound.k_home
    | with_reducible apply State.Sound.k_dram | with_reducible apply State.Sound.k_mem
    | with_reducible apply State.Sound.k_links | with_reducible apply State.Sound.k_sec
    | with_reducible apply State.Sound.k_crypto | with_reducible apply State.Sound.k_pcie
    | with_reducible apply State.Sound.k_pwr | with_reducible apply State.Sound.k_err
    | with_reducible apply State.Sound.k_sent | with_reducible apply State.Sound.k_freeCtr
    | with_reducible apply State.Sound.k_flits | with_reducible exact absurd (by assumption) Bool.false_ne_true
    | split

theorem State.recordAt_sound {o : State} {s : State} {e : ECode} {host : ℕ} {kind : ℕ} {unit : ℕ} {parts : List ℕ}
    {addr : Option ℕ} {detail : ℕ} {gong : Bool} (hS : s.Sound ⟨k0, k1, k2, k3, k4, k5, k6, k7, k8, k9, k10, k11,
    k12, k13, k14, false, false, k17⟩ o) : (State.recordAt s e host kind unit parts addr detail gong).Sound ⟨k0, k1,
    k2, k3, k4, k5, k6, k7, k8, k9, k10, k11, k12, k13, k14, false, false, k17⟩ o := by
  unfold State.recordAt; try dsimp only
  with_reducible repeat' first
    | assumption | intro _ | apply State.storeRec_sound | apply ite_sound | apply each_sound

theorem State.record_sound {o : State} {s : State} {e : ECode} {kind : ℕ} {unit : ℕ} {parts : List ℕ} {addr : Option
    ℕ} {detail : ℕ} (hS : s.Sound ⟨k0, k1, k2, k3, k4, k5, k6, k7, k8, k9, k10, k11, k12, k13, k14, false, false,
    k17⟩ o) : (State.record s e kind unit parts addr detail).Sound ⟨k0, k1, k2, k3, k4, k5, k6, k7, k8, k9, k10, k11,
    k12, k13, k14, false, false, k17⟩ o := by
  unfold State.record; try dsimp only
  with_reducible repeat' first | assumption | intro _ | apply State.recordAt_sound

theorem State.emptyLogs_sound {o : State} {s : State} (hS : s.Sound ⟨k0, k1, k2, k3, k4, k5, k6, k7, k8, k9, k10,
    k11, k12, k13, k14, false, k16, k17⟩ o) : (State.emptyLogs s).Sound ⟨k0, k1, k2, k3, k4, k5, k6, k7, k8, k9, k10,
    k11, k12, k13, k14, false, k16, k17⟩ o := by
  exact ⟨hS.clock, hS.queue, hS.free, hS.fused, hS.mem, hS.regs, hS.k_regs, hS.k_beat, hS.k_boot, hS.k_cores, hS.k_cache, hS.k_xlat, hS.k_fab, hS.k_home, hS.k_dram, hS.k_mem, hS.k_links, hS.k_sec, hS.k_crypto, hS.k_pcie, hS.k_pwr, nofun, hS.k_sent, hS.k_freeCtr, hS.k_flits⟩

theorem State.onCores_sound {o : State} {s : State} {f : CoreSt → CoreSt} (hS : s.Sound ⟨k0, k1, k2, false, k4, k5,
    k6, k7, k8, k9, k10, k11, k12, k13, k14, k15, k16, k17⟩ o) : (State.onCores s f).Sound ⟨k0, k1, k2, false, k4, k5,
    k6, k7, k8, k9, k10, k11, k12, k13, k14, k15, k16, k17⟩ o := by
  exact ⟨hS.clock, hS.queue, hS.free, hS.fused, hS.mem, hS.regs, hS.k_regs, hS.k_beat, hS.k_boot, nofun, hS.k_cache, hS.k_xlat, hS.k_fab, hS.k_home, hS.k_dram, hS.k_mem, hS.k_links, hS.k_sec, hS.k_crypto, hS.k_pcie, hS.k_pwr, hS.k_err, hS.k_sent, hS.k_freeCtr, hS.k_flits⟩

theorem State.onCache_sound {o : State} {s : State} {f : CacheSt → CacheSt} (hS : s.Sound ⟨k0, k1, k2, k3, false, k5,
    k6, k7, k8, k9, k10, k11, k12, k13, k14, k15, k16, k17⟩ o) : (State.onCache s f).Sound ⟨k0, k1, k2, k3, false, k5,
    k6, k7, k8, k9, k10, k11, k12, k13, k14, k15, k16, k17⟩ o := by
  exact ⟨hS.clock, hS.queue, hS.free, hS.fused, hS.mem, hS.regs, hS.k_regs, hS.k_beat, hS.k_boot, hS.k_cores, nofun, hS.k_xlat, hS.k_fab, hS.k_home, hS.k_dram, hS.k_mem, hS.k_links, hS.k_sec, hS.k_crypto, hS.k_pcie, hS.k_pwr, hS.k_err, hS.k_sent, hS.k_freeCtr, hS.k_flits⟩

theorem State.onXlat_sound {o : State} {s : State} {f : XlatSt → XlatSt} (hS : s.Sound ⟨k0, k1, k2, k3, k4, false,
    k6, k7, k8, k9, k10, k11, k12, k13, k14, k15, k16, k17⟩ o) : (State.onXlat s f).Sound ⟨k0, k1, k2, k3, k4, false,
    k6, k7, k8, k9, k10, k11, k12, k13, k14, k15, k16, k17⟩ o := by
  exact ⟨hS.clock, hS.queue, hS.free, hS.fused, hS.mem, hS.regs, hS.k_regs, hS.k_beat, hS.k_boot, hS.k_cores, hS.k_cache, nofun, hS.k_fab, hS.k_home, hS.k_dram, hS.k_mem, hS.k_links, hS.k_sec, hS.k_crypto, hS.k_pcie, hS.k_pwr, hS.k_err, hS.k_sent, hS.k_freeCtr, hS.k_flits⟩

theorem State.onFab_sound {o : State} {s : State} {f : FabSt → FabSt} (hS : s.Sound ⟨k0, k1, k2, k3, k4, k5, false,
    k7, k8, k9, k10, k11, k12, k13, k14, k15, k16, k17⟩ o) : (State.onFab s f).Sound ⟨k0, k1, k2, k3, k4, k5, false,
    k7, k8, k9, k10, k11, k12, k13, k14, k15, k16, k17⟩ o := by
  exact ⟨hS.clock, hS.queue, hS.free, hS.fused, hS.mem, hS.regs, hS.k_regs, hS.k_beat, hS.k_boot, hS.k_cores, hS.k_cache, hS.k_xlat, nofun, hS.k_home, hS.k_dram, hS.k_mem, hS.k_links, hS.k_sec, hS.k_crypto, hS.k_pcie, hS.k_pwr, hS.k_err, hS.k_sent, hS.k_freeCtr, hS.k_flits⟩

theorem State.onHome_sound {o : State} {s : State} {f : HomeSt → HomeSt} (hS : s.Sound ⟨k0, k1, k2, k3, k4, k5, k6,
    false, k8, k9, k10, k11, k12, k13, k14, k15, k16, k17⟩ o) : (State.onHome s f).Sound ⟨k0, k1, k2, k3, k4, k5, k6,
    false, k8, k9, k10, k11, k12, k13, k14, k15, k16, k17⟩ o := by
  exact ⟨hS.clock, hS.queue, hS.free, hS.fused, hS.mem, hS.regs, hS.k_regs, hS.k_beat, hS.k_boot, hS.k_cores, hS.k_cache, hS.k_xlat, hS.k_fab, nofun, hS.k_dram, hS.k_mem, hS.k_links, hS.k_sec, hS.k_crypto, hS.k_pcie, hS.k_pwr, hS.k_err, hS.k_sent, hS.k_freeCtr, hS.k_flits⟩

theorem State.onLinks_sound {o : State} {s : State} {f : LinkSt → LinkSt} (hS : s.Sound ⟨k0, k1, k2, k3, k4, k5, k6,
    k7, k8, k9, false, k11, k12, k13, k14, k15, k16, k17⟩ o) : (State.onLinks s f).Sound ⟨k0, k1, k2, k3, k4, k5, k6,
    k7, k8, k9, false, k11, k12, k13, k14, k15, k16, k17⟩ o := by
  exact ⟨hS.clock, hS.queue, hS.free, hS.fused, hS.mem, hS.regs, hS.k_regs, hS.k_beat, hS.k_boot, hS.k_cores, hS.k_cache, hS.k_xlat, hS.k_fab, hS.k_home, hS.k_dram, hS.k_mem, nofun, hS.k_sec, hS.k_crypto, hS.k_pcie, hS.k_pwr, hS.k_err, hS.k_sent, hS.k_freeCtr, hS.k_flits⟩

theorem State.onSec_sound {o : State} {s : State} {f : SecSt → SecSt} (hS : s.Sound ⟨k0, k1, k2, k3, k4, k5, k6, k7,
    k8, k9, k10, false, k12, k13, k14, k15, k16, k17⟩ o) : (State.onSec s f).Sound ⟨k0, k1, k2, k3, k4, k5, k6, k7,
    k8, k9, k10, false, k12, k13, k14, k15, k16, k17⟩ o := by
  exact ⟨hS.clock, hS.queue, hS.free, hS.fused, hS.mem, hS.regs, hS.k_regs, hS.k_beat, hS.k_boot, hS.k_cores, hS.k_cache, hS.k_xlat, hS.k_fab, hS.k_home, hS.k_dram, hS.k_mem, hS.k_links, nofun, hS.k_crypto, hS.k_pcie, hS.k_pwr, hS.k_err, hS.k_sent, hS.k_freeCtr, hS.k_flits⟩

theorem State.onCrypto_sound {o : State} {s : State} {f : CryptoSt → CryptoSt} (hS : s.Sound ⟨k0, k1, k2, k3, k4, k5,
    k6, k7, k8, k9, k10, k11, false, k13, k14, k15, k16, k17⟩ o) : (State.onCrypto s f).Sound ⟨k0, k1, k2, k3, k4, k5,
    k6, k7, k8, k9, k10, k11, false, k13, k14, k15, k16, k17⟩ o := by
  exact ⟨hS.clock, hS.queue, hS.free, hS.fused, hS.mem, hS.regs, hS.k_regs, hS.k_beat, hS.k_boot, hS.k_cores, hS.k_cache, hS.k_xlat, hS.k_fab, hS.k_home, hS.k_dram, hS.k_mem, hS.k_links, hS.k_sec, nofun, hS.k_pcie, hS.k_pwr, hS.k_err, hS.k_sent, hS.k_freeCtr, hS.k_flits⟩

theorem State.onPcie_sound {o : State} {s : State} {f : PcieSt → PcieSt} (hS : s.Sound ⟨k0, k1, k2, k3, k4, k5, k6,
    k7, k8, k9, k10, k11, k12, false, k14, k15, k16, k17⟩ o) : (State.onPcie s f).Sound ⟨k0, k1, k2, k3, k4, k5, k6,
    k7, k8, k9, k10, k11, k12, false, k14, k15, k16, k17⟩ o := by
  exact ⟨hS.clock, hS.queue, hS.free, hS.fused, hS.mem, hS.regs, hS.k_regs, hS.k_beat, hS.k_boot, hS.k_cores, hS.k_cache, hS.k_xlat, hS.k_fab, hS.k_home, hS.k_dram, hS.k_mem, hS.k_links, hS.k_sec, hS.k_crypto, nofun, hS.k_pwr, hS.k_err, hS.k_sent, hS.k_freeCtr, hS.k_flits⟩

theorem State.onPwr_sound {o : State} {s : State} {f : PwrSt → PwrSt} (hS : s.Sound ⟨k0, k1, k2, k3, k4, k5, k6, k7,
    k8, k9, k10, k11, k12, k13, false, k15, k16, k17⟩ o) : (State.onPwr s f).Sound ⟨k0, k1, k2, k3, k4, k5, k6, k7,
    k8, k9, k10, k11, k12, k13, false, k15, k16, k17⟩ o := by
  exact ⟨hS.clock, hS.queue, hS.free, hS.fused, hS.mem, hS.regs, hS.k_regs, hS.k_beat, hS.k_boot, hS.k_cores, hS.k_cache, hS.k_xlat, hS.k_fab, hS.k_home, hS.k_dram, hS.k_mem, hS.k_links, hS.k_sec, hS.k_crypto, hS.k_pcie, nofun, hS.k_err, hS.k_sent, hS.k_freeCtr, hS.k_flits⟩

theorem State.onErr_sound {o : State} {s : State} {f : ErrSt → ErrSt} (hS : s.Sound ⟨k0, k1, k2, k3, k4, k5, k6, k7,
    k8, k9, k10, k11, k12, k13, k14, false, k16, k17⟩ o) : (State.onErr s f).Sound ⟨k0, k1, k2, k3, k4, k5, k6, k7,
    k8, k9, k10, k11, k12, k13, k14, false, k16, k17⟩ o := by
  exact ⟨hS.clock, hS.queue, hS.free, hS.fused, hS.mem, hS.regs, hS.k_regs, hS.k_beat, hS.k_boot, hS.k_cores, hS.k_cache, hS.k_xlat, hS.k_fab, hS.k_home, hS.k_dram, hS.k_mem, hS.k_links, hS.k_sec, hS.k_crypto, hS.k_pcie, hS.k_pwr, nofun, hS.k_sent, hS.k_freeCtr, hS.k_flits⟩

theorem State.setCoreH_sound {o : State} {s : State} {c : ℕ} {h : CoreH} (hS : s.Sound ⟨k0, k1, k2, false, k4, k5,
    k6, k7, k8, k9, k10, k11, k12, k13, k14, k15, k16, k17⟩ o) : (State.setCoreH s c h).Sound ⟨k0, k1, k2, false, k4,
    k5, k6, k7, k8, k9, k10, k11, k12, k13, k14, k15, k16, k17⟩ o := by
  unfold State.setCoreH; try dsimp only
  with_reducible repeat' first | assumption | intro _ | apply State.onCores_sound

theorem State.updCoreH_sound {o : State} {s : State} {c : ℕ} {f : CoreH → CoreH} (hS : s.Sound ⟨k0, k1, k2, false,
    k4, k5, k6, k7, k8, k9, k10, k11, k12, k13, k14, k15, k16, k17⟩ o) : (State.updCoreH s c f).Sound ⟨k0, k1, k2,
    false, k4, k5, k6, k7, k8, k9, k10, k11, k12, k13, k14, k15, k16, k17⟩ o := by
  unfold State.updCoreH; try dsimp only
  with_reducible repeat' first | assumption | intro _ | apply State.setCoreH_sound

end Sys2Proof.Machine
end

