-- ==== Sys2Proof/Laws/KeepCarillonOps.lean ====
section
/-! SUPPORT. The operations of Machine/CarillonOps.lean keep State.Sound. -/

namespace Sys2Proof.Machine

variable {k0 k1 k2 k3 k4 k5 k6 k7 k8 k9 k10 k11 k12 k13 k14 k15 k16 k17 : Bool}

theorem State.setFar_sound {o : State} {s : State} {pkg : Nat} {c : Nat} {st : Nat} (hS : s.Sound ⟨k0, k1, k2, false,
    k4, k5, k6, k7, k8, k9, k10, k11, k12, k13, k14, k15, k16, k17⟩ o) : (State.setFar s pkg c st).Sound ⟨k0, k1, k2,
    false, k4, k5, k6, k7, k8, k9, k10, k11, k12, k13, k14, k15, k16, k17⟩ o := by
  unfold State.setFar; try dsimp only
  repeat' first
    | with_reducible assumption | with_reducible intro _ | with_reducible apply State.onCores_sound
    | with_reducible apply ite_sound | with_reducible apply ite_fst_sound | split

theorem State.dropFar_sound {o : State} {s : State} {pkg : Nat} (hS : s.Sound ⟨k0, k1, k2, false, k4, k5, k6, k7, k8,
    k9, k10, k11, k12, k13, k14, k15, k16, k17⟩ o) : (State.dropFar s pkg).Sound ⟨k0, k1, k2, false, k4, k5, k6, k7,
    k8, k9, k10, k11, k12, k13, k14, k15, k16, k17⟩ o := by
  unfold State.dropFar; try dsimp only
  repeat' first
    | with_reducible assumption | with_reducible intro _ | with_reducible apply State.onCores_sound
    | with_reducible apply ite_sound | with_reducible apply ite_fst_sound | split

theorem State.pend_sound {o : State} {s : State} {c : ℕ} {v : PendVec} (hS : s.Sound ⟨k0, k1, k2, false, k4, k5, k6,
    k7, k8, k9, k10, k11, k12, k13, k14, k15, k16, k17⟩ o) : (State.pend s c v).Sound ⟨k0, k1, k2, false, k4, k5, k6,
    k7, k8, k9, k10, k11, k12, k13, k14, k15, k16, k17⟩ o := by
  unfold State.pend; try dsimp only
  with_reducible repeat' first | assumption | intro _ | apply State.updCoreH_sound

theorem State.twinInput_sound {o : State} {s : State} {c : Nat} {kind : Nat} {arg : Nat} {prio : Nat} {rsv : Bool} (hS
    : s.Sound ⟨k0, k1, k2, false, k4, k5, k6, k7, k8, k9, k10, k11, k12, k13, k14, k15, k16, k17⟩ o) :
    (State.twinInput s c kind arg prio rsv).Sound ⟨k0, k1, k2, false, k4, k5, k6, k7, k8, k9, k10, k11, k12, k13, k14,
    k15, k16, k17⟩ o := by
  unfold State.twinInput; try dsimp only
  repeat' first
    | with_reducible assumption | with_reducible intro _ | with_reducible apply State.onCores_sound
    | with_reducible apply ite_sound | with_reducible apply ite_fst_sound | split

theorem State.twinUpdate_sound {o : State} {s : State} {c : Nat} {line : Nat} {mask : Mask} {data : Line} (hS :
    s.Sound ⟨k0, k1, k2, false, k4, k5, k6, k7, k8, k9, k10, k11, k12, k13, k14, k15, k16, k17⟩ o) : (State.twinUpdate
    s c line mask data).Sound ⟨k0, k1, k2, false, k4, k5, k6, k7, k8, k9, k10, k11, k12, k13, k14, k15, k16, k17⟩ o :=
    by
  unfold State.twinUpdate; try dsimp only
  repeat' first
    | with_reducible assumption | with_reducible intro _ | with_reducible apply State.onCores_sound
    | with_reducible apply ite_sound | with_reducible apply ite_fst_sound | split

theorem State.place_sound {o : State} {s : State} {p : ℕ} {v : ℕ} {pkg : ℕ} {c : ℕ} {prio : ℕ} {rsv : Bool} (hS :
    s.Sound ⟨k0, k1, k2, false, k4, k5, k6, k7, k8, k9, k10, k11, k12, k13, k14, k15, false, k17⟩ o) : (State.place s
    p v pkg c prio rsv).Sound ⟨k0, k1, k2, false, k4, k5, k6, k7, k8, k9, k10, k11, k12, k13, k14, k15, false, k17⟩ o
    := by
  unfold State.place; try dsimp only
  with_reducible repeat' first
    | assumption | intro _ | apply State.send_sound | apply State.twinInput_sound | apply State.pend_sound
    | apply ite_sound | apply each_sound

theorem State.classOf_sound {o : State} {s : State} {p : ℕ} {rsv : Bool} {late : Bool} (hS : s.Sound ⟨false, k1, k2,
    false, k4, k5, k6, k7, k8, k9, k10, k11, k12, k13, k14, k15, k16, k17⟩ o) : (State.classOf s p rsv late).1.Sound
    ⟨false, k1, k2, false, k4, k5, k6, k7, k8, k9, k10, k11, k12, k13, k14, k15, k16, k17⟩ o := by
  unfold State.classOf; try dsimp only
  with_reducible repeat' first
    | assumption | intro _ | apply State.incF_sound | apply when_sound | apply State.onCores_sound | apply ite_sound
    | apply ite_fst_sound

theorem State.classOf_sound' {o : State} {s : State} {p : ℕ} {rsv : Bool} {late : Bool} {u_ : State} {res} (e :
    State.classOf s p rsv late = (u_, res))  (hS : s.Sound ⟨false, k1, k2, false, k4, k5, k6, k7, k8, k9, k10, k11,
    k12, k13, k14, k15, k16, k17⟩ o) : u_.Sound ⟨false, k1, k2, false, k4, k5, k6, k7, k8, k9, k10, k11, k12, k13,
    k14, k15, k16, k17⟩ o :=
  fst_sound e (State.classOf_sound  hS)

theorem State.latch_sound {o : State} {s : State} {p : ℕ} {v : ℕ} (hS : s.Sound ⟨false, k1, k2, k3, k4, k5, k6, k7,
    k8, k9, k10, k11, k12, k13, k14, k15, k16, k17⟩ o) : (State.latch s p v).Sound ⟨false, k1, k2, k3, k4, k5, k6, k7,
    k8, k9, k10, k11, k12, k13, k14, k15, k16, k17⟩ o := by
  unfold State.latch; try dsimp only
  with_reducible repeat' first | assumption | intro _ | apply State.setF_sound

theorem State.carDeliver_sound {o : State} {s : State} {p : Nat} {v : Nat} {pkg : Nat} {c : Nat} {late : Bool} {up :
    Bool} {elsewhere : Option (Nat × Nat)} (hS : s.Sound ⟨false, k1, k2, false, k4, k5, k6, k7, k8, k9, k10, k11, k12,
    k13, k14, k15, false, k17⟩ o) : (State.carDeliver s p v pkg c late up elsewhere).1.Sound ⟨false, k1, k2, false,
    k4, k5, k6, k7, k8, k9, k10, k11, k12, k13, k14, k15, false, k17⟩ o := by
  unfold State.carDeliver; try dsimp only
  repeat' first
    | with_reducible assumption | with_reducible intro _
    | with_reducible refine State.classOf_sound' (by assumption) ?_ | with_reducible apply State.classOf_sound
    | with_reducible apply State.place_sound | with_reducible apply State.incF_sound | with_reducible apply ite_sound
    | with_reducible apply ite_fst_sound | split

theorem State.carDeliver_sound' {o : State} {s : State} {p : Nat} {v : Nat} {pkg : Nat} {c : Nat} {late : Bool} {up :
    Bool} {elsewhere : Option (Nat × Nat)} {u_ : State} {res} (e : State.carDeliver s p v pkg c late up elsewhere =
    (u_, res)) (hS : s.Sound ⟨false, k1, k2, false, k4, k5, k6, k7, k8, k9, k10, k11, k12, k13, k14, k15, false, k17⟩
    o) : u_.Sound ⟨false, k1, k2, false, k4, k5, k6, k7, k8, k9, k10, k11, k12, k13, k14, k15, false, k17⟩ o :=
  fst_sound e (State.carDeliver_sound hS)

theorem State.carMessage_sound {o : State} {s : State} {p : Nat} {v : Nat} {src : Option Nat} {late : Bool} {up :
    Bool} {elsewhere : Option (Nat × Nat)} (hS : s.Sound ⟨false, k1, k2, false, k4, k5, k6, k7, k8, k9, k10, k11, k12,
    k13, k14, false, false, k17⟩ o) : (State.carMessage s p v src late up elsewhere).Sound ⟨false, k1, k2, false, k4,
    k5, k6, k7, k8, k9, k10, k11, k12, k13, k14, false, false, k17⟩ o := by
  unfold State.carMessage; try dsimp only
  repeat' first
    | with_reducible assumption | with_reducible intro _ | with_reducible apply State.onCores_sound
    | with_reducible apply State.latch_sound | with_reducible apply State.incF_sound
    | with_reducible apply State.record_sound | with_reducible refine State.carDeliver_sound' (by assumption) ?_
    | with_reducible apply State.carDeliver_sound | with_reducible apply ite_sound
    | with_reducible apply ite_fst_sound | split

theorem State.ipiGo_sound {o : State} {s : State} {p : Nat} {v : Nat} {c : Nat} (hS : s.Sound ⟨false, k1, k2, false,
    k4, k5, k6, k7, k8, k9, k10, k11, k12, k13, k14, k15, false, k17⟩ o) : (State.ipiGo s p v c).Sound ⟨false, k1, k2,
    false, k4, k5, k6, k7, k8, k9, k10, k11, k12, k13, k14, k15, false, k17⟩ o := by
  unfold State.ipiGo; try dsimp only
  repeat' first
    | with_reducible assumption | with_reducible intro _
    | with_reducible refine State.carDeliver_sound' (by assumption) ?_ | with_reducible apply State.carDeliver_sound
    | with_reducible apply State.latch_sound | with_reducible apply State.onCores_sound
    | with_reducible apply ite_sound | with_reducible apply ite_fst_sound | split

theorem State.carRecheck_sound {o : State} {s : State} {p : Nat} {v : Nat} (hS : s.Sound ⟨false, k1, k2, false, k4,
    k5, k6, k7, k8, k9, k10, k11, k12, k13, k14, k15, false, k17⟩ o) : (State.carRecheck s p v).Sound ⟨false, k1, k2,
    false, k4, k5, k6, k7, k8, k9, k10, k11, k12, k13, k14, k15, false, k17⟩ o := by
  unfold State.carRecheck; try dsimp only
  repeat' first
    | with_reducible assumption | with_reducible intro _
    | with_reducible refine State.carDeliver_sound' (by assumption) ?_ | with_reducible apply State.carDeliver_sound
    | with_reducible apply State.setF_sound | with_reducible apply State.onCores_sound
    | with_reducible apply State.ipiGo_sound | with_reducible apply ite_sound | with_reducible apply ite_fst_sound
    | with_reducible apply each_sound | with_reducible apply each_fst_sound
    | with_reducible refine each_fst_sound' (by assumption) ?_ ?_ | split

theorem State.carIpi_sound {o : State} {s : State} {p : Nat} {v : Nat} {c : Nat} (hS : s.Sound ⟨false, k1, k2, false,
    k4, k5, k6, k7, k8, k9, k10, k11, k12, k13, k14, k15, false, k17⟩ o) : (State.carIpi s p v c).Sound ⟨false, k1,
    k2, false, k4, k5, k6, k7, k8, k9, k10, k11, k12, k13, k14, k15, false, k17⟩ o := by
  unfold State.carIpi; try dsimp only
  repeat' first
    | with_reducible assumption | with_reducible intro _ | with_reducible apply State.updCoreH_sound
    | with_reducible apply State.ipiGo_sound | with_reducible apply ite_sound | with_reducible apply ite_fst_sound
    | split

theorem State.releaseHeld_sound {o : State} {s : State} {p : Nat} {v : Nat} (hS : s.Sound ⟨false, k1, k2, false, k4,
    k5, k6, k7, k8, k9, k10, k11, k12, k13, k14, k15, false, k17⟩ o) : (State.releaseHeld s p v).Sound ⟨false, k1, k2,
    false, k4, k5, k6, k7, k8, k9, k10, k11, k12, k13, k14, k15, false, k17⟩ o := by
  unfold State.releaseHeld; try dsimp only
  repeat' first
    | with_reducible assumption | with_reducible intro _ | with_reducible apply State.updCoreH_sound
    | with_reducible apply State.ipiGo_sound | with_reducible apply ite_sound | with_reducible apply ite_fst_sound
    | with_reducible apply each_sound | with_reducible apply each_fst_sound
    | with_reducible refine each_fst_sound' (by assumption) ?_ ?_ | split

theorem State.moveHeld_sound {o : State} {s : State} {c : Nat} (hS : s.Sound ⟨k0, k1, k2, false, k4, k5, k6, k7, k8,
    k9, k10, k11, k12, k13, k14, k15, false, k17⟩ o) : (State.moveHeld s c).Sound ⟨k0, k1, k2, false, k4, k5, k6, k7,
    k8, k9, k10, k11, k12, k13, k14, k15, false, k17⟩ o := by
  unfold State.moveHeld; try dsimp only
  repeat' first
    | with_reducible assumption | with_reducible intro _ | with_reducible apply State.updCoreH_sound
    | with_reducible apply State.send_sound | with_reducible apply ite_sound | with_reducible apply ite_fst_sound
    | with_reducible apply each_sound | with_reducible apply each_fst_sound
    | with_reducible refine each_fst_sound' (by assumption) ?_ ?_ | with_reducible apply foldl_sound
    | with_reducible apply foldl_fst_sound | with_reducible refine foldl_fst_sound' (by assumption) ?_ ?_ | split

theorem State.redeliver_sound {o : State} {s : State} {c : Nat} (hS : s.Sound ⟨false, k1, k2, false, k4, k5, k6, k7,
    k8, k9, k10, k11, k12, k13, k14, k15, false, k17⟩ o) : (State.redeliver s c).Sound ⟨false, k1, k2, false, k4, k5,
    k6, k7, k8, k9, k10, k11, k12, k13, k14, k15, false, k17⟩ o := by
  unfold State.redeliver; try dsimp only
  repeat' first
    | with_reducible assumption | with_reducible intro _ | with_reducible apply State.setCoreH_sound
    | with_reducible apply State.pend_sound | with_reducible apply State.incF_sound
    | with_reducible refine State.classOf_sound' (by assumption) ?_ | with_reducible apply State.classOf_sound
    | with_reducible apply State.place_sound | with_reducible apply State.latch_sound
    | with_reducible apply State.moveHeld_sound | with_reducible apply ite_sound | with_reducible apply ite_fst_sound
    | with_reducible apply each_sound | with_reducible apply each_fst_sound
    | with_reducible refine each_fst_sound' (by assumption) ?_ ?_ | split

theorem State.coreReply_sound {o : State} {s : State} {c : ℕ} {code : ℕ} {data : Line} (hS : s.Sound ⟨k0, k1, k2, k3,
    k4, k5, k6, k7, k8, k9, k10, k11, k12, k13, k14, false, false, k17⟩ o) : (State.coreReply s c code data).Sound
    ⟨k0, k1, k2, k3, k4, k5, k6, k7, k8, k9, k10, k11, k12, k13, k14, false, false, k17⟩ o := by
  unfold State.coreReply; try dsimp only
  with_reducible repeat' first
    | assumption | intro _ | apply State.toCore_sound | apply ite_sound | apply each_sound

theorem State.enterHalt_sound {o : State} {s : State} {c : Nat} (hS : s.Sound ⟨false, k1, k2, k3, k4, k5, k6, k7, k8,
    k9, k10, k11, k12, k13, k14, k15, k16, k17⟩ o) : (State.enterHalt s c).Sound ⟨false, k1, k2, k3, k4, k5, k6, k7,
    k8, k9, k10, k11, k12, k13, k14, k15, k16, k17⟩ o := by
  unfold State.enterHalt; try dsimp only
  with_reducible repeat' first
    | assumption | intro _ | apply State.setCoreState_sound | apply State.setF_sound | apply ite_sound
    | apply ite_fst_sound

theorem State.enterRun_sound {o : State} {s : State} {c : Nat} {pc : Nat} (hS : s.Sound ⟨false, k1, k2, false, k4, k5,
    k6, k7, k8, k9, k10, k11, k12, k13, k14, k15, false, k17⟩ o) : (State.enterRun s c pc).Sound ⟨false, k1, k2,
    false, k4, k5, k6, k7, k8, k9, k10, k11, k12, k13, k14, k15, false, k17⟩ o := by
  unfold State.enterRun; try dsimp only
  repeat' first
    | with_reducible assumption | with_reducible intro _ | with_reducible apply State.setCoreState_sound
    | with_reducible apply State.updCoreH_sound | with_reducible apply State.send_sound
    | with_reducible apply ite_sound | with_reducible apply ite_fst_sound | split

end Sys2Proof.Machine
end

