-- ==== Sys2Proof/Laws/KeepCacheOps.lean ====
section
/-! SUPPORT. The operations of Machine/CacheOps.lean keep State.Sound. -/

namespace Sys2Proof.Machine

variable {k0 k1 k2 k3 k4 k5 k6 k7 k8 k9 k10 k11 k12 k13 k14 k15 k16 k17 : Bool}

theorem State.pmuWrap_sound {o : State} {s : State} {c : ℕ} {n : ℕ} (hS : s.Sound ⟨false, k1, k2, k3, k4, k5, k6, k7,
    k8, k9, k10, k11, k12, k13, k14, k15, false, k17⟩ o) : (State.pmuWrap s c n).Sound ⟨false, k1, k2, k3, k4, k5, k6,
    k7, k8, k9, k10, k11, k12, k13, k14, k15, false, k17⟩ o := by
  unfold State.pmuWrap; try dsimp only
  with_reducible repeat' first
    | assumption | intro _ | apply State.setF_sound | apply State.raise_sound | apply ite_sound

theorem State.count_sound {o : State} {s : State} {c : ℕ} {ev : ℕ} {user : Bool} (hS : s.Sound ⟨false, k1, k2, k3,
    k4, k5, k6, k7, k8, k9, k10, k11, k12, k13, k14, k15, false, k17⟩ o) : (State.count s c ev user).Sound ⟨false, k1,
    k2, k3, k4, k5, k6, k7, k8, k9, k10, k11, k12, k13, k14, k15, false, k17⟩ o := by
  unfold State.count; try dsimp only
  with_reducible repeat' first
    | assumption | intro _ | apply State.wrapF_sound | apply State.pmuWrap_sound | apply ite_sound | apply each_sound

theorem State.newTxn_sound {o : State} {s : State} {unit : Nat} (hS : s.Sound ⟨k0, k1, k2, k3, false, k5, k6, k7, k8,
    k9, k10, k11, k12, k13, k14, k15, k16, k17⟩ o) : (State.newTxn s unit).1.Sound ⟨k0, k1, k2, k3, false, k5, k6, k7,
    k8, k9, k10, k11, k12, k13, k14, k15, k16, k17⟩ o := by
  unfold State.newTxn; try dsimp only
  repeat' first
    | with_reducible assumption | with_reducible intro _ | with_reducible apply State.onCache_sound
    | with_reducible apply ite_sound | with_reducible apply ite_fst_sound | split

theorem State.newTxn_sound' {o : State} {s : State} {unit : Nat} {u_ : State} {res} (e : State.newTxn s unit = (u_,
    res)) (hS : s.Sound ⟨k0, k1, k2, k3, false, k5, k6, k7, k8, k9, k10, k11, k12, k13, k14, k15, k16, k17⟩ o) :
    u_.Sound ⟨k0, k1, k2, k3, false, k5, k6, k7, k8, k9, k10, k11, k12, k13, k14, k15, k16, k17⟩ o :=
  fst_sound e (State.newTxn_sound hS)

theorem State.l1Touch_sound {o : State} {s : State} {c : ℕ} {i : Bool} {line : ℕ} {way : ℕ} (hS : s.Sound ⟨k0, k1,
    k2, k3, false, k5, k6, k7, k8, k9, k10, k11, k12, k13, k14, k15, k16, k17⟩ o) : (State.l1Touch s c i line
    way).Sound ⟨k0, k1, k2, k3, false, k5, k6, k7, k8, k9, k10, k11, k12, k13, k14, k15, k16, k17⟩ o := by
  unfold State.l1Touch; try dsimp only
  with_reducible repeat' first | assumption | intro _ | apply State.onCache_sound

theorem State.l0Touch_sound {o : State} {s : State} {c : ℕ} {e : ℕ} (hS : s.Sound ⟨k0, k1, k2, k3, false, k5, k6, k7,
    k8, k9, k10, k11, k12, k13, k14, k15, k16, k17⟩ o) : (State.l0Touch s c e).Sound ⟨k0, k1, k2, k3, false, k5, k6,
    k7, k8, k9, k10, k11, k12, k13, k14, k15, k16, k17⟩ o := by
  unfold State.l0Touch; try dsimp only
  with_reducible repeat' first | assumption | intro _ | apply State.onCache_sound

theorem State.l0Alloc_sound {o : State} {s : State} {c : Nat} {line : Nat} (hS : s.Sound ⟨k0, k1, k2, k3, false, k5,
    k6, k7, k8, k9, k10, k11, k12, k13, k14, k15, k16, k17⟩ o) : (State.l0Alloc s c line).Sound ⟨k0, k1, k2, k3,
    false, k5, k6, k7, k8, k9, k10, k11, k12, k13, k14, k15, k16, k17⟩ o := by
  unfold State.l0Alloc; try dsimp only
  repeat' first
    | with_reducible assumption | with_reducible intro _ | with_reducible apply State.l0Touch_sound
    | with_reducible apply State.onCache_sound | with_reducible apply ite_sound | with_reducible apply ite_fst_sound
    | split

theorem State.l0Remove_sound {o : State} {s : State} {c : ℕ} {line : ℕ} (hS : s.Sound ⟨k0, k1, k2, k3, false, k5, k6,
    k7, k8, k9, k10, k11, k12, k13, k14, k15, k16, k17⟩ o) : (State.l0Remove s c line).Sound ⟨k0, k1, k2, k3, false,
    k5, k6, k7, k8, k9, k10, k11, k12, k13, k14, k15, k16, k17⟩ o := by
  unfold State.l0Remove; try dsimp only
  repeat' first
    | with_reducible assumption | with_reducible intro _ | with_reducible apply State.onCache_sound
    | with_reducible apply ite_sound | split

theorem State.l1Tidy_sound {o : State} {s : State} {c : Nat} {i : Bool} {line : Nat} (hS : s.Sound ⟨k0, k1, k2, k3,
    false, k5, k6, k7, k8, k9, k10, k11, k12, k13, k14, k15, k16, k17⟩ o) : (State.l1Tidy s c i line).Sound ⟨k0, k1,
    k2, k3, false, k5, k6, k7, k8, k9, k10, k11, k12, k13, k14, k15, k16, k17⟩ o := by
  unfold State.l1Tidy; try dsimp only
  repeat' first
    | with_reducible assumption | with_reducible intro _ | with_reducible apply State.onCache_sound
    | with_reducible apply ite_sound | with_reducible apply ite_fst_sound | split

theorem State.l1Remove_sound {o : State} {s : State} {c : Nat} {i : Bool} {line : Nat} (hS : s.Sound ⟨k0, k1, k2, k3,
    false, k5, k6, k7, k8, k9, k10, k11, k12, k13, k14, k15, k16, k17⟩ o) : (State.l1Remove s c i line).Sound ⟨k0, k1,
    k2, k3, false, k5, k6, k7, k8, k9, k10, k11, k12, k13, k14, k15, k16, k17⟩ o := by
  unfold State.l1Remove; try dsimp only
  repeat' first
    | with_reducible assumption | with_reducible intro _ | with_reducible apply State.onCache_sound
    | with_reducible apply State.l0Remove_sound | with_reducible apply State.l1Tidy_sound
    | with_reducible apply ite_sound | with_reducible apply ite_fst_sound | split

theorem State.dcSet_sound {o : State} {s : State} {d : ℕ} {way : ℕ} {l : DcLine} {line : ℕ} (hS : s.Sound ⟨k0, k1,
    k2, k3, false, k5, k6, k7, k8, k9, k10, k11, k12, k13, k14, k15, k16, k17⟩ o) : (State.dcSet s d way l line).Sound
    ⟨k0, k1, k2, k3, false, k5, k6, k7, k8, k9, k10, k11, k12, k13, k14, k15, k16, k17⟩ o := by
  unfold State.dcSet; try dsimp only
  with_reducible repeat' first | assumption | intro _ | apply State.onCache_sound

theorem State.dcUpd_sound {o : State} {s : State} {d : ℕ} {line : ℕ} {f : DcLine → DcLine} (hS : s.Sound ⟨k0, k1, k2,
    k3, false, k5, k6, k7, k8, k9, k10, k11, k12, k13, k14, k15, k16, k17⟩ o) : (State.dcUpd s d line f).Sound ⟨k0,
    k1, k2, k3, false, k5, k6, k7, k8, k9, k10, k11, k12, k13, k14, k15, k16, k17⟩ o := by
  unfold State.dcUpd; try dsimp only
  repeat' first
    | with_reducible assumption | with_reducible intro _ | with_reducible apply State.dcSet_sound
    | with_reducible apply ite_sound | split

theorem State.dcTouch_sound {o : State} {s : State} {d : ℕ} {line : ℕ} (hS : s.Sound ⟨k0, k1, k2, k3, false, k5, k6,
    k7, k8, k9, k10, k11, k12, k13, k14, k15, k16, k17⟩ o) : (State.dcTouch s d line).Sound ⟨k0, k1, k2, k3, false,
    k5, k6, k7, k8, k9, k10, k11, k12, k13, k14, k15, k16, k17⟩ o := by
  unfold State.dcTouch; try dsimp only
  repeat' first
    | with_reducible assumption | with_reducible intro _ | with_reducible apply State.onCache_sound
    | with_reducible apply ite_sound | split

theorem State.setPresence_sound {o : State} {s : State} {c : ℕ} {i : Bool} {line : ℕ} (hS : s.Sound ⟨k0, k1, k2, k3,
    false, k5, k6, k7, k8, k9, k10, k11, k12, k13, k14, k15, k16, k17⟩ o) : (State.setPresence s c i line).Sound ⟨k0,
    k1, k2, k3, false, k5, k6, k7, k8, k9, k10, k11, k12, k13, k14, k15, k16, k17⟩ o := by
  unfold State.setPresence; try dsimp only
  with_reducible repeat' first | assumption | intro _ | apply State.dcUpd_sound

theorem State.l1Evict_sound {o : State} {s : State} {c : ℕ} {i : Bool} {line : ℕ} (hS : s.Sound ⟨k0, k1, k2, k3,
    false, k5, k6, k7, k8, k9, k10, k11, k12, k13, k14, k15, k16, k17⟩ o) : (State.l1Evict s c i line).Sound ⟨k0, k1,
    k2, k3, false, k5, k6, k7, k8, k9, k10, k11, k12, k13, k14, k15, k16, k17⟩ o := by
  unfold State.l1Evict; try dsimp only
  repeat' first
    | with_reducible assumption | with_reducible intro _ | with_reducible apply State.dcUpd_sound
    | with_reducible apply State.l1Remove_sound | with_reducible apply ite_sound | split

theorem State.l1Clean_sound {o : State} {s : State} {c : ℕ} {line : ℕ} (hS : s.Sound ⟨k0, k1, k2, k3, false, k5, k6,
    k7, k8, k9, k10, k11, k12, k13, k14, k15, k16, k17⟩ o) : (State.l1Clean s c line).Sound ⟨k0, k1, k2, k3, false,
    k5, k6, k7, k8, k9, k10, k11, k12, k13, k14, k15, k16, k17⟩ o := by
  unfold State.l1Clean; try dsimp only
  repeat' first
    | with_reducible assumption | with_reducible intro _ | with_reducible apply State.onCache_sound
    | with_reducible apply State.dcUpd_sound | with_reducible apply ite_sound | split

theorem State.cleanL1s_sound {o : State} {s : State} {d : ℕ} {line : ℕ} (hS : s.Sound ⟨k0, k1, k2, k3, false, k5, k6,
    k7, k8, k9, k10, k11, k12, k13, k14, k15, k16, k17⟩ o) : (State.cleanL1s s d line).Sound ⟨k0, k1, k2, k3, false,
    k5, k6, k7, k8, k9, k10, k11, k12, k13, k14, k15, k16, k17⟩ o := by
  unfold State.cleanL1s; try dsimp only
  repeat' first
    | with_reducible assumption | with_reducible intro _ | with_reducible apply State.l1Clean_sound
    | with_reducible apply ite_sound | with_reducible apply each_sound | with_reducible apply each_fst_sound
    | with_reducible refine each_fst_sound' (by assumption) ?_ ?_ | split

theorem State.purgeL1s_sound {o : State} {s : State} {d : ℕ} {line : ℕ} {keep : Option ℕ} {counted : Bool} (hS :
    s.Sound ⟨false, k1, k2, k3, false, k5, k6, k7, k8, k9, k10, k11, k12, k13, k14, k15, k16, k17⟩ o) :
   (State.purgeL1s s d line keep counted).Sound ⟨false, k1, k2, k3, false, k5, k6, k7, k8, k9, k10, k11, k12, k13,
    k14, k15, k16, k17⟩ o := by
  unfold State.purgeL1s; try dsimp only
  repeat' first
    | with_reducible assumption | with_reducible intro _ | with_reducible apply State.l1Evict_sound
    | with_reducible apply when_sound | with_reducible apply State.incF_sound | with_reducible apply ite_sound
    | with_reducible apply each_sound | with_reducible apply each_fst_sound
    | with_reducible refine each_fst_sound' (by assumption) ?_ ?_ | split

theorem State.countTo_sound {o : State} {s : State} {cores : List Nat} {user : Bool} {from' : Nat} {dst : Unt} (hS :
    s.Sound ⟨false, k1, k2, k3, k4, k5, k6, k7, k8, k9, k10, k11, k12, k13, k14, k15, false, k17⟩ o) : (State.countTo
    s cores user from' dst).Sound ⟨false, k1, k2, k3, k4, k5, k6, k7, k8, k9, k10, k11, k12, k13, k14, k15, false,
    k17⟩ o := by
  unfold State.countTo; try dsimp only
  repeat' first
    | with_reducible assumption | with_reducible intro _ | with_reducible apply State.count_sound
    | with_reducible apply ite_sound | with_reducible apply ite_fst_sound | with_reducible apply each_sound
    | with_reducible apply each_fst_sound | with_reducible refine each_fst_sound' (by assumption) ?_ ?_ | split

theorem State.dcEvict_sound {o : State} {s : State} {d : Nat} {line : Nat} (hS : s.Sound ⟨false, k1, k2, k3, false,
    k5, k6, k7, k8, k9, k10, k11, k12, k13, k14, k15, false, k17⟩ o) : (State.dcEvict s d line).Sound ⟨false, k1, k2,
    k3, false, k5, k6, k7, k8, k9, k10, k11, k12, k13, k14, k15, false, k17⟩ o := by
  unfold State.dcEvict; try dsimp only
  repeat' first
    | with_reducible assumption | with_reducible intro _ | with_reducible apply State.purgeL1s_sound
    | with_reducible refine State.newTxn_sound' (by assumption) ?_ | with_reducible apply State.newTxn_sound
    | with_reducible apply State.dcUpd_sound | with_reducible apply State.onCache_sound
    | with_reducible apply State.send_sound | with_reducible apply ite_sound | with_reducible apply ite_fst_sound
    | split

theorem State.countMiss_sound {o : State} {s : State} {m : DcMiss} {f : State → Acc → State} (h_f : ∀ (x0 : State) (x1
    : Acc), x0.Sound ⟨k0, k1, k2, k3, k4, k5, k6, k7, k8, k9, k10, k11, k12, k13, k14, k15, k16, k17⟩ o → (f x0
    x1).Sound ⟨k0, k1, k2, k3, k4, k5, k6, k7, k8, k9, k10, k11, k12, k13, k14, k15, k16, k17⟩ o) (hS : s.Sound ⟨k0,
    k1, k2, k3, k4, k5, k6, k7, k8, k9, k10, k11, k12, k13, k14, k15, k16, k17⟩ o) : (State.countMiss s m f).Sound
    ⟨k0, k1, k2, k3, k4, k5, k6, k7, k8, k9, k10, k11, k12, k13, k14, k15, k16, k17⟩ o := by
  unfold State.countMiss; try dsimp only
  repeat' first
    | with_reducible assumption | with_reducible intro _ | with_reducible apply h_f | with_reducible apply ite_sound
    | with_reducible apply ite_fst_sound | split

theorem State.sendMiss_sound {o : State} {s : State} {m : DcMiss} (hS : s.Sound ⟨false, k1, k2, k3, false, k5, k6, k7,
    k8, k9, k10, k11, k12, k13, k14, k15, false, k17⟩ o) : (State.sendMiss s m).Sound ⟨false, k1, k2, k3, false, k5,
    k6, k7, k8, k9, k10, k11, k12, k13, k14, k15, false, k17⟩ o := by
  unfold State.sendMiss; try dsimp only
  repeat' first
    | with_reducible assumption | with_reducible intro _ | with_reducible apply State.countMiss_sound
    | with_reducible apply State.countTo_sound | with_reducible refine State.newTxn_sound' (by assumption) ?_
    | with_reducible apply State.newTxn_sound | with_reducible apply State.onCache_sound
    | with_reducible apply State.send_sound | with_reducible apply ite_sound | with_reducible apply ite_fst_sound
    | split

theorem State.openMiss_sound {o : State} {s : State} {m : DcMiss} (hS : s.Sound ⟨false, k1, k2, k3, false, k5, k6, k7,
    k8, k9, k10, k11, k12, k13, k14, k15, false, k17⟩ o) : (State.openMiss s m).Sound ⟨false, k1, k2, k3, false, k5,
    k6, k7, k8, k9, k10, k11, k12, k13, k14, k15, false, k17⟩ o := by
  unfold State.openMiss; try dsimp only
  repeat' first
    | with_reducible assumption | with_reducible intro _ | with_reducible apply State.onCache_sound
    | with_reducible apply State.incF_sound | with_reducible apply State.dcEvict_sound
    | with_reducible apply State.sendMiss_sound | with_reducible apply ite_sound | with_reducible apply ite_fst_sound
    | split

theorem State.dcRequest_sound {o : State} {s : State} {d : Nat} {line : Nat} {op : COp} {part : Nat} {l1 : Option (Nat
    × Bool)} {walk : Option (Nat × Nat)} {atomicBy : Option Nat} (hS : s.Sound ⟨false, k1, k2, k3, false, k5, k6, k7,
    k8, k9, k10, k11, k12, k13, k14, k15, false, k17⟩ o) : (State.dcRequest s d line op part l1 walk atomicBy).Sound
    ⟨false, k1, k2, k3, false, k5, k6, k7, k8, k9, k10, k11, k12, k13, k14, k15, false, k17⟩ o := by
  unfold State.dcRequest; try dsimp only
  repeat' first
    | with_reducible assumption | with_reducible intro _ | with_reducible apply State.onCache_sound
    | with_reducible apply State.incF_sound | with_reducible apply State.openMiss_sound
    | with_reducible apply ite_sound | with_reducible apply ite_fst_sound | with_reducible apply when_sound | split

theorem State.snoopDie_sound {o : State} {s : State} {d : ℕ} {op : COp} {line : ℕ} (hS : s.Sound ⟨false, k1, k2, k3,
    false, k5, k6, k7, k8, k9, k10, k11, k12, k13, k14, k15, k16, k17⟩ o) : (State.snoopDie s d op line).1.Sound
    ⟨false, k1, k2, k3, false, k5, k6, k7, k8, k9, k10, k11, k12, k13, k14, k15, k16, k17⟩ o := by
  unfold State.snoopDie; try dsimp only
  repeat' first
    | with_reducible assumption | with_reducible intro _ | with_reducible apply State.onCache_sound
    | with_reducible apply State.purgeL1s_sound | with_reducible apply State.cleanL1s_sound
    | with_reducible apply State.dcUpd_sound | with_reducible apply ite_sound | with_reducible apply ite_fst_sound
    | split

theorem State.snoopDie_sound' {o : State} {s : State} {d : ℕ} {op : COp} {line : ℕ} {u_ : State} {res} (e :
    State.snoopDie s d op line = (u_, res))  (hS : s.Sound ⟨false, k1, k2, k3, false, k5, k6, k7, k8, k9, k10, k11,
    k12, k13, k14, k15, k16, k17⟩ o) : u_.Sound ⟨false, k1, k2, k3, false, k5, k6, k7, k8, k9, k10, k11, k12, k13,
    k14, k15, k16, k17⟩ o :=
  fst_sound e (State.snoopDie_sound  hS)

end Sys2Proof.Machine
end

