-- ==== Sys2Proof/Laws/KeepCacheAccess.lean ====
section
/-! SUPPORT. The operations of Machine/CacheAccess.lean keep State.Sound. -/

namespace Sys2Proof.Machine

variable {k0 k1 k2 k3 k4 k5 k6 k7 k8 k9 k10 k11 k12 k13 k14 k15 k16 k17 : Bool}

theorem State.countAcc_sound {o : State} {s : State} {a : Acc} {ev : Nat} (hS : s.Sound ⟨false, k1, k2, k3, k4, k5,
    k6, k7, k8, k9, k10, k11, k12, k13, k14, k15, false, k17⟩ o) : (State.countAcc s a ev).Sound ⟨false, k1, k2, k3,
    k4, k5, k6, k7, k8, k9, k10, k11, k12, k13, k14, k15, false, k17⟩ o := by
  unfold State.countAcc; try dsimp only
  repeat' first
    | with_reducible assumption | with_reducible intro _ | with_reducible apply State.count_sound
    | with_reducible apply ite_sound | with_reducible apply ite_fst_sound | with_reducible apply each_sound
    | with_reducible apply each_fst_sound | with_reducible refine each_fst_sound' (by assumption) ?_ ?_ | split

theorem State.deliver_sound {o : State} {s : State} {a : Acc} {v : Line} (hS : s.Sound ⟨k0, k1, k2, k3, k4, k5, k6,
    k7, k8, k9, k10, k11, k12, k13, k14, false, false, k17⟩ o) : (State.deliver s a v).Sound ⟨k0, k1, k2, k3, k4, k5,
    k6, k7, k8, k9, k10, k11, k12, k13, k14, false, false, k17⟩ o := by
  unfold State.deliver; try dsimp only
  with_reducible repeat' first
    | assumption | intro _ | apply State.toCore_sound | apply ite_sound | apply each_sound

theorem State.failAcc_sound {o : State} {s : State} {a : Acc} (hS : s.Sound ⟨k0, k1, k2, k3, k4, k5, k6, k7, k8, k9,
    k10, k11, k12, k13, k14, false, false, k17⟩ o) : (State.failAcc s a).Sound ⟨k0, k1, k2, k3, k4, k5, k6, k7, k8,
    k9, k10, k11, k12, k13, k14, false, false, k17⟩ o := by
  unfold State.failAcc; try dsimp only
  with_reducible repeat' first
    | assumption | intro _ | apply State.toCore_sound | apply ite_sound | apply each_sound

theorem State.l1Alloc_sound {o s : State} {c : Nat} {i : Bool} {line : Nat} {t : State} {w : Nat}
    (e : s.l1Alloc c i line = some (t, w)) (h : s.Sound ⟨k0, k1, k2, k3, false, k5, k6, k7, k8, k9, k10, k11, k12, k13, k14, k15, k16, k17⟩ o) : t.Sound ⟨k0, k1, k2, k3, false, k5, k6, k7, k8, k9, k10, k11, k12, k13, k14, k15, k16, k17⟩ o := by
  unfold State.l1Alloc at e
  dsimp only at e
  repeat' split at e
  all_goals first | contradiction | (cases e; first | exact h | exact State.onCache_sound h |
    exact State.onCache_sound (each_sound (fun _ _ h => State.l1Evict_sound h) h))

theorem State.l1Fill_sound {o : State} {s : State} {c : ℕ} {i : Bool} {line : ℕ} {way : ℕ} {data : Line} {dirty :
    Bool} (hS : s.Sound ⟨k0, k1, k2, k3, false, k5, k6, k7, k8, k9, k10, k11, k12, k13, k14, k15, k16, k17⟩ o) :
   (State.l1Fill s c i line way data dirty).Sound ⟨k0, k1, k2, k3, false, k5, k6, k7, k8, k9, k10, k11, k12, k13,
    k14, k15, k16, k17⟩ o := by
  unfold State.l1Fill; try dsimp only
  with_reducible repeat' first
    | assumption | intro _ | apply State.setPresence_sound | apply State.l1Touch_sound | apply State.onCache_sound

theorem State.l1MissAcc_sound {o s : State} {a : Acc} {op : COp} (hS : s.Sound ⟨false, k1, k2, k3, false, k5, k6, k7, k8, k9, k10, k11, k12, k13, k14, k15, false, k17⟩ o) :
    (State.l1MissAcc s a op).Sound ⟨false, k1, k2, k3, false, k5, k6, k7, k8, k9, k10, k11, k12, k13, k14, k15, false, k17⟩ o := by
  have key {c : Prop} [Decidable c] {i : Bool} {t : State} {w : Nat}
      (e : (if c then some (s, 8) else s.l1Alloc a.core i a.line) = some (t, w)) : t.Sound ⟨false, k1, k2, k3, false, k5, k6, k7, k8, k9, k10, k11, k12, k13, k14, k15, false, k17⟩ o := by
    split at e
    · cases e; exact hS
    · exact State.l1Alloc_sound e hS
  unfold State.l1MissAcc
  extract_lets i mine wait
  have hw : (wait s).Sound ⟨false, k1, k2, k3, false, k5, k6, k7, k8, k9, k10, k11, k12, k13, k14, k15, false, k17⟩ o := State.onCache_sound hS
  repeat' first
    | with_reducible assumption
    | with_reducible exact key (by with_reducible assumption)
    | (intro _)
    | with_reducible apply State.dcRequest_sound
    | with_reducible apply State.count_sound
    | with_reducible apply when_sound
    | with_reducible apply State.onCache_sound
    | with_reducible apply ite_sound
    | split

theorem State.sendDirect_sound {o : State} {s : State} {a : Acc} {unit : Nat} {op : COp} {mask : Mask} {data : Line}
    {aop : AtOp} (hS : s.Sound ⟨false, k1, k2, k3, false, k5, k6, k7, k8, k9, k10, k11, k12, k13, k14, k15, false,
    k17⟩ o) : (State.sendDirect s a unit op mask data aop).Sound ⟨false, k1, k2, k3, false, k5, k6, k7, k8, k9, k10,
    k11, k12, k13, k14, k15, false, k17⟩ o := by
  unfold State.sendDirect; try dsimp only
  repeat' first
    | with_reducible assumption | with_reducible intro _ | with_reducible apply State.onCache_sound
    | with_reducible apply State.countTo_sound | with_reducible refine State.newTxn_sound' (by assumption) ?_
    | with_reducible apply State.newTxn_sound | with_reducible apply State.send_sound | with_reducible apply ite_sound
    | with_reducible apply ite_fst_sound | split

theorem State.ucSend_sound {o : State} {s : State} {a : Acc} (hS : s.Sound ⟨false, k1, k2, k3, false, k5, k6, k7, k8,
    k9, k10, k11, k12, k13, k14, k15, false, k17⟩ o) : (State.ucSend s a).Sound ⟨false, k1, k2, k3, false, k5, k6, k7,
    k8, k9, k10, k11, k12, k13, k14, k15, false, k17⟩ o := by
  unfold State.ucSend; try dsimp only
  repeat' first
    | with_reducible assumption | with_reducible intro _ | with_reducible apply State.sendDirect_sound
    | with_reducible apply ite_sound | with_reducible apply ite_fst_sound | split

theorem State.ucAcc_sound {o : State} {s : State} {a : Acc} (hS : s.Sound ⟨false, k1, k2, k3, false, k5, k6, k7, k8,
    k9, k10, k11, k12, k13, k14, k15, false, k17⟩ o) : (State.ucAcc s a).Sound ⟨false, k1, k2, k3, false, k5, k6, k7,
    k8, k9, k10, k11, k12, k13, k14, k15, false, k17⟩ o := by
  unfold State.ucAcc; try dsimp only
  repeat' first
    | with_reducible assumption | with_reducible intro _ | with_reducible apply State.ucSend_sound
    | with_reducible apply ite_sound | with_reducible apply ite_fst_sound | with_reducible apply each_sound
    | with_reducible apply each_fst_sound | with_reducible refine each_fst_sound' (by assumption) ?_ ?_ | split

theorem State.touchHit_sound {o : State} {s : State} {c : Nat} {line : Nat} (hS : s.Sound ⟨k0, k1, k2, k3, false, k5,
    k6, k7, k8, k9, k10, k11, k12, k13, k14, k15, k16, k17⟩ o) : (State.touchHit s c line).Sound ⟨k0, k1, k2, k3,
    false, k5, k6, k7, k8, k9, k10, k11, k12, k13, k14, k15, k16, k17⟩ o := by
  unfold State.touchHit; try dsimp only
  repeat' first
    | with_reducible assumption | with_reducible intro _ | with_reducible apply State.dcTouch_sound
    | with_reducible apply State.l0Touch_sound | with_reducible apply State.l1Touch_sound
    | with_reducible apply ite_sound | with_reducible apply ite_fst_sound | split

theorem State.wtStore_sound {o : State} {s : State} {a : Acc} (hS : s.Sound ⟨false, k1, k2, k3, false, k5, k6, k7, k8,
    k9, k10, k11, k12, k13, k14, k15, false, k17⟩ o) : (State.wtStore s a).Sound ⟨false, k1, k2, k3, false, k5, k6,
    k7, k8, k9, k10, k11, k12, k13, k14, k15, false, k17⟩ o := by
  unfold State.wtStore; try dsimp only
  repeat' first
    | with_reducible assumption | with_reducible intro _ | with_reducible apply State.touchHit_sound
    | with_reducible apply State.countAcc_sound | with_reducible apply State.sendDirect_sound
    | with_reducible apply ite_sound | with_reducible apply ite_fst_sound | with_reducible apply each_sound
    | with_reducible apply each_fst_sound | with_reducible refine each_fst_sound' (by assumption) ?_ ?_ | split

theorem State.farAtomic_sound {o : State} {s : State} {a : Acc} (hS : s.Sound ⟨false, k1, k2, k3, false, k5, k6, k7,
    k8, k9, k10, k11, k12, k13, k14, k15, false, k17⟩ o) : (State.farAtomic s a).Sound ⟨false, k1, k2, k3, false, k5,
    k6, k7, k8, k9, k10, k11, k12, k13, k14, k15, false, k17⟩ o := by
  unfold State.farAtomic; try dsimp only
  with_reducible repeat' first
    | assumption | intro _ | apply State.countAcc_sound | apply State.sendDirect_sound | apply ite_sound
    | apply ite_fst_sound

theorem State.l1Sector_sound {o s : State} {c : Nat} {i : Bool} {line : Nat} {data : Line} {t : State}
    {r : Nat × Line} (e : s.l1Sector c i line data = some (t, r)) (h : s.Sound ⟨k0, k1, k2, k3, false, k5, k6, k7, k8, k9, k10, k11, k12, k13, k14, k15, k16, k17⟩ o) : t.Sound ⟨k0, k1, k2, k3, false, k5, k6, k7, k8, k9, k10, k11, k12, k13, k14, k15, k16, k17⟩ o := by
  unfold State.l1Sector at e
  split at e
  · cases e; exact State.l1Touch_sound h
  · split at e
    · cases e; exact h
    · split at e
      · contradiction
      · rename_i ha
        cases e
        exact State.l1Fill_sound (State.l1Alloc_sound ha h)

theorem State.waitAcc_sound {o : State} {s : State} {a : Acc} (hS : s.Sound ⟨k0, k1, k2, k3, false, k5, k6, k7, k8,
    k9, k10, k11, k12, k13, k14, k15, k16, k17⟩ o) : (State.waitAcc s a).Sound ⟨k0, k1, k2, k3, false, k5, k6, k7, k8,
    k9, k10, k11, k12, k13, k14, k15, k16, k17⟩ o := by
  unfold State.waitAcc; try dsimp only
  with_reducible repeat' first | assumption | intro _ | apply State.onCache_sound

theorem State.cachedLoad_sound {o : State} {s : State} {a : Acc} (hS : s.Sound ⟨false, k1, k2, k3, false, k5, k6, k7,
    k8, k9, k10, k11, k12, k13, k14, false, false, k17⟩ o) : (State.cachedLoad s a).Sound ⟨false, k1, k2, k3, false,
    k5, k6, k7, k8, k9, k10, k11, k12, k13, k14, false, false, k17⟩ o := by
  unfold State.cachedLoad; try dsimp only
  repeat' first
    | with_reducible assumption | with_reducible intro _ | with_reducible apply State.l0Touch_sound
    | with_reducible apply State.count_sound | with_reducible apply State.l0Alloc_sound
    | with_reducible apply State.l1Touch_sound | with_reducible apply State.deliver_sound
    | with_reducible apply State.dcTouch_sound | with_reducible apply State.cleanL1s_sound
    | with_reducible refine State.l1Sector_sound (by assumption) ?_ | with_reducible apply State.waitAcc_sound
    | with_reducible apply State.ucSend_sound | with_reducible apply State.l1MissAcc_sound
    | with_reducible apply ite_sound | split

theorem State.cachedStore_sound {o : State} {s : State} {a : Acc} (hS : s.Sound ⟨false, k1, k2, k3, false, k5, k6, k7,
    k8, k9, k10, k11, k12, k13, k14, false, false, k17⟩ o) : (State.cachedStore s a).Sound ⟨false, k1, k2, k3, false,
    k5, k6, k7, k8, k9, k10, k11, k12, k13, k14, false, false, k17⟩ o := by
  unfold State.cachedStore; try dsimp only
  repeat' first
    | with_reducible assumption | with_reducible intro _ | with_reducible apply State.count_sound
    | with_reducible apply State.ucSend_sound | with_reducible apply State.l1MissAcc_sound
    | with_reducible apply State.dcTouch_sound | with_reducible apply State.l0Touch_sound
    | with_reducible apply State.purgeL1s_sound | with_reducible apply State.dcUpd_sound
    | with_reducible refine State.l1Sector_sound (by assumption) ?_ | with_reducible apply State.waitAcc_sound
    | with_reducible apply State.onCache_sound | with_reducible apply State.deliver_sound
    | with_reducible apply ite_sound | with_reducible apply ite_fst_sound | split

theorem State.readAcc_sound {o : State} {s : State} {a : Acc} {fresh : Bool} (hS : s.Sound ⟨false, k1, k2, k3, false,
    k5, k6, k7, k8, k9, k10, k11, k12, k13, k14, false, false, k17⟩ o) : (State.readAcc s a fresh).Sound ⟨false, k1,
    k2, k3, false, k5, k6, k7, k8, k9, k10, k11, k12, k13, k14, false, false, k17⟩ o := by
  unfold State.readAcc; try dsimp only
  with_reducible repeat' first
    | assumption | intro _ | apply State.sendDirect_sound | apply State.cachedLoad_sound | apply ite_sound
    | apply ite_fst_sound

theorem State.dramAcc_sound {o : State} {s : State} {a : Acc} (hS : s.Sound ⟨false, k1, k2, k3, false, k5, k6, k7, k8,
    k9, k10, k11, k12, k13, k14, false, false, k17⟩ o) : (State.dramAcc s a).Sound ⟨false, k1, k2, k3, false, k5, k6,
    k7, k8, k9, k10, k11, k12, k13, k14, false, false, k17⟩ o := by
  unfold State.dramAcc; try dsimp only
  repeat' first
    | with_reducible assumption | with_reducible intro _ | with_reducible apply State.ucAcc_sound
    | with_reducible apply State.failAcc_sound | with_reducible apply State.farAtomic_sound
    | with_reducible apply State.cachedStore_sound | with_reducible apply State.wtStore_sound
    | with_reducible apply State.readAcc_sound | with_reducible apply ite_sound | with_reducible apply ite_fst_sound
    | split

theorem State.dramReq_sound {o : State} {s : State} {a : Acc} (hS : s.Sound ⟨false, k1, k2, k3, false, k5, k6, k7, k8,
    k9, k10, k11, k12, k13, k14, false, false, k17⟩ o) : (State.dramReq s a).Sound ⟨false, k1, k2, k3, false, k5, k6,
    k7, k8, k9, k10, k11, k12, k13, k14, false, false, k17⟩ o := by
  unfold State.dramReq; try dsimp only
  with_reducible repeat' first
    | assumption | intro _ | apply State.waitAcc_sound | apply State.dramAcc_sound | apply ite_sound
    | apply ite_fst_sound

theorem State.servedAcc_sound {o : State} {s : State} {a : Acc} (hS : s.Sound ⟨false, k1, k2, k3, false, k5, k6, k7,
    k8, k9, k10, k11, k12, k13, k14, false, false, k17⟩ o) : (State.servedAcc s a).Sound ⟨false, k1, k2, k3, false,
    k5, k6, k7, k8, k9, k10, k11, k12, k13, k14, false, false, k17⟩ o := by
  unfold State.servedAcc; try dsimp only
  with_reducible repeat' first
    | assumption | intro _ | apply State.cachedStore_sound | apply State.dramAcc_sound | apply ite_sound

theorem State.retryWaiting_sound {o : State} {s : State} {d : Nat} (hS : s.Sound ⟨false, k1, k2, k3, false, k5, k6,
    k7, k8, k9, k10, k11, k12, k13, k14, false, false, k17⟩ o) : (State.retryWaiting s d).Sound ⟨false, k1, k2, k3,
    false, k5, k6, k7, k8, k9, k10, k11, k12, k13, k14, false, false, k17⟩ o := by
  unfold State.retryWaiting; try dsimp only
  repeat' first
    | with_reducible assumption | with_reducible intro _ | with_reducible apply State.onCache_sound
    | with_reducible apply State.openMiss_sound | with_reducible apply State.dramReq_sound
    | with_reducible apply ite_sound | with_reducible apply ite_fst_sound | with_reducible apply each_sound
    | with_reducible apply each_fst_sound | with_reducible refine each_fst_sound' (by assumption) ?_ ?_ | split

theorem State.walkGot_sound {o : State} {s : State} {d : Nat} {line : Nat} {ws : List (Nat × Nat)} {v : Option Line}
    {denied : Bool} (hS : s.Sound ⟨k0, k1, k2, k3, k4, false, k6, k7, k8, k9, k10, k11, k12, k13, k14, k15, k16, k17⟩
    o) : (State.walkGot s d line ws v denied).Sound ⟨k0, k1, k2, k3, k4, false, k6, k7, k8, k9, k10, k11, k12, k13,
    k14, k15, k16, k17⟩ o := by
  unfold State.walkGot; try dsimp only
  repeat' first
    | with_reducible assumption | with_reducible intro _ | with_reducible apply State.onXlat_sound
    | with_reducible apply ite_sound | with_reducible apply ite_fst_sound | split

theorem State.takeL1_sound {o : State} {s : State} {m : DcMiss} (hS : s.Sound ⟨k0, k1, k2, k3, false, k5, k6, k7, k8,
    k9, k10, k11, k12, k13, k14, k15, k16, k17⟩ o) : (State.takeL1 s m).1.Sound ⟨k0, k1, k2, k3, false, k5, k6, k7,
    k8, k9, k10, k11, k12, k13, k14, k15, k16, k17⟩ o := by
  unfold State.takeL1; try dsimp only
  with_reducible repeat' first | assumption | intro _ | apply State.onCache_sound

theorem State.takeL1_sound' {o : State} {s : State} {m : DcMiss} {u_ : State} {res} (e : State.takeL1 s m = (u_, res))
     (hS : s.Sound ⟨k0, k1, k2, k3, false, k5, k6, k7, k8, k9, k10, k11, k12, k13, k14, k15, k16, k17⟩ o) : u_.Sound
    ⟨k0, k1, k2, k3, false, k5, k6, k7, k8, k9, k10, k11, k12, k13, k14, k15, k16, k17⟩ o :=
  fst_sound e (State.takeL1_sound  hS)

theorem State.dropMiss_sound {o : State} {s : State} {m : DcMiss} (hS : s.Sound ⟨k0, k1, k2, k3, false, k5, k6, k7,
    k8, k9, k10, k11, k12, k13, k14, k15, k16, k17⟩ o) : (State.dropMiss s m).Sound ⟨k0, k1, k2, k3, false, k5, k6,
    k7, k8, k9, k10, k11, k12, k13, k14, k15, k16, k17⟩ o := by
  unfold State.dropMiss; try dsimp only
  with_reducible repeat' first | assumption | intro _ | apply State.onCache_sound

theorem State.missTry_sound {o : State} {s : State} {d : Nat} {line : Nat} (hS : s.Sound ⟨false, k1, k2, k3, false,
    false, k6, k7, k8, k9, k10, k11, k12, k13, k14, false, false, k17⟩ o) : (State.missTry s d line).Sound ⟨false, k1,
    k2, k3, false, false, k6, k7, k8, k9, k10, k11, k12, k13, k14, false, false, k17⟩ o := by
  unfold State.missTry; try dsimp only
  repeat' first
    | with_reducible assumption | with_reducible intro _ | with_reducible apply State.cleanL1s_sound
    | with_reducible apply State.dcSet_sound | with_reducible apply State.onCache_sound
    | with_reducible apply State.dropMiss_sound | with_reducible apply State.send_sound
    | with_reducible apply State.walkGot_sound | with_reducible refine State.takeL1_sound' (by assumption) ?_
    | with_reducible apply State.takeL1_sound | with_reducible apply State.dcEvict_sound
    | with_reducible apply State.servedAcc_sound | with_reducible apply State.retryWaiting_sound
    | with_reducible apply ite_sound | with_reducible apply ite_fst_sound | with_reducible apply each_sound
    | with_reducible apply each_fst_sound | with_reducible refine each_fst_sound' (by assumption) ?_ ?_
    | with_reducible apply when_sound | split

theorem State.missFail_sound {o : State} {s : State} {m : DcMiss} {denied : Bool} (hS : s.Sound ⟨false, k1, k2, k3,
    false, false, k6, k7, k8, k9, k10, k11, k12, k13, k14, false, false, k17⟩ o) : (State.missFail s m denied).Sound
    ⟨false, k1, k2, k3, false, false, k6, k7, k8, k9, k10, k11, k12, k13, k14, false, false, k17⟩ o := by
  unfold State.missFail; try dsimp only
  repeat' first
    | with_reducible assumption | with_reducible intro _ | with_reducible apply State.dropMiss_sound
    | with_reducible apply State.walkGot_sound | with_reducible refine State.takeL1_sound' (by assumption) ?_
    | with_reducible apply State.takeL1_sound | with_reducible apply State.failAcc_sound
    | with_reducible apply State.l1Tidy_sound | with_reducible apply State.retryWaiting_sound
    | with_reducible apply ite_sound | with_reducible apply ite_fst_sound | with_reducible apply each_sound
    | with_reducible apply each_fst_sound | with_reducible refine each_fst_sound' (by assumption) ?_ ?_ | split

theorem State.dropDirect_sound {o : State} {s : State} {q : Direct} (hS : s.Sound ⟨k0, k1, k2, k3, false, k5, k6, k7,
    k8, k9, k10, k11, k12, k13, k14, k15, k16, k17⟩ o) : (State.dropDirect s q).Sound ⟨k0, k1, k2, k3, false, k5, k6,
    k7, k8, k9, k10, k11, k12, k13, k14, k15, k16, k17⟩ o := by
  unfold State.dropDirect; try dsimp only
  with_reducible repeat' first | assumption | intro _ | apply State.onCache_sound

theorem State.grantData_sound {o : State} {s : State} {d : ℕ} {m : CMsg} {c : Coh} (hS : s.Sound ⟨false, k1, k2, k3,
    false, false, k6, k7, k8, k9, k10, k11, k12, k13, k14, false, false, k17⟩ o) : (State.grantData s d m c).Sound
    ⟨false, k1, k2, k3, false, false, k6, k7, k8, k9, k10, k11, k12, k13, k14, false, false, k17⟩ o := by
  unfold State.grantData; try dsimp only
  repeat' first
    | with_reducible assumption | with_reducible intro _ | with_reducible apply State.missTry_sound
    | with_reducible apply State.onCache_sound | with_reducible apply ite_sound | split

theorem State.wtDone_sound {o : State} {s : State} {a : Acc} (hS : s.Sound ⟨k0, k1, k2, false, false, k5, k6, k7, k8,
    k9, k10, k11, k12, k13, k14, false, false, k17⟩ o) : (State.wtDone s a).Sound ⟨k0, k1, k2, false, false, k5, k6,
    k7, k8, k9, k10, k11, k12, k13, k14, false, false, k17⟩ o := by
  unfold State.wtDone; try dsimp only
  repeat' first
    | with_reducible assumption | with_reducible intro _ | with_reducible apply State.onCache_sound
    | with_reducible apply State.dcUpd_sound | with_reducible apply State.twinUpdate_sound
    | with_reducible apply State.deliver_sound | with_reducible apply ite_sound | with_reducible apply ite_fst_sound
    | with_reducible apply each_sound | with_reducible apply each_fst_sound
    | with_reducible refine each_fst_sound' (by assumption) ?_ ?_ | split

end Sys2Proof.Machine
end

