-- ==== Sys2Proof/Laws/KeepCsOps.lean ====
section
/-! SUPPORT. The operations of Machine/CsOps.lean keep State.Sound. -/

namespace Sys2Proof.Machine

variable {k0 k1 k2 k3 k4 k5 k6 k7 k8 k9 k10 k11 k12 k13 k14 k15 k16 k17 : Bool}

theorem State.whoReply_sound {o : State} {s : State} {w : Who} {code : Nat} {v : Word} (hS : s.Sound ⟨k0, k1, k2, k3,
    k4, k5, k6, k7, k8, k9, k10, k11, k12, k13, k14, false, false, k17⟩ o) : (State.whoReply s w code v).Sound ⟨k0,
    k1, k2, k3, k4, k5, k6, k7, k8, k9, k10, k11, k12, k13, k14, false, false, k17⟩ o := by
  unfold State.whoReply; try dsimp only
  repeat' first
    | with_reducible assumption | with_reducible intro _ | with_reducible apply State.coreReply_sound
    | with_reducible apply State.send_sound | with_reducible apply State.toCore_sound | with_reducible apply ite_sound
    | with_reducible apply ite_fst_sound | split

theorem State.asAgreed_sound {o : State} {s : State} {c : Nat} {act : State → State} (h_act : ∀ (x0 : State), x0.Sound
    ⟨k0, k1, k2, false, k4, k5, k6, k7, k8, k9, k10, k11, k12, k13, k14, k15, k16, k17⟩ o → (act x0).Sound ⟨k0, k1,
    k2, false, k4, k5, k6, k7, k8, k9, k10, k11, k12, k13, k14, k15, k16, k17⟩ o) (hS : s.Sound ⟨k0, k1, k2, false,
    k4, k5, k6, k7, k8, k9, k10, k11, k12, k13, k14, k15, k16, k17⟩ o) : (State.asAgreed s c act).Sound ⟨k0, k1, k2,
    false, k4, k5, k6, k7, k8, k9, k10, k11, k12, k13, k14, k15, k16, k17⟩ o := by
  unfold State.asAgreed; try dsimp only
  repeat' first
    | with_reducible assumption | with_reducible intro _ | with_reducible apply State.onCores_sound
    | with_reducible apply h_act | with_reducible apply ite_sound | with_reducible apply ite_fst_sound | split

theorem State.csFail_sound {o : State} {s : State} {w : Who} {e : ECode} {u : ℕ × ℕ} {off : ℕ} (hS : s.Sound ⟨k0, k1,
    k2, k3, k4, k5, k6, k7, k8, k9, k10, k11, k12, k13, k14, false, false, k17⟩ o) : (State.csFail s w e u off).Sound
    ⟨k0, k1, k2, k3, k4, k5, k6, k7, k8, k9, k10, k11, k12, k13, k14, false, false, k17⟩ o := by
  unfold State.csFail; try dsimp only
  with_reducible repeat' first | assumption | intro _ | apply State.whoReply_sound | apply State.record_sound

theorem State.csGuard_sound {o : State} {s : State} {w : Who} {off : Nat} {size : Nat} {wr : Option Word} {act : State
    → State} (h_act : ∀ (x0 : State), x0.Sound ⟨k0, k1, k2, k3, k4, k5, k6, k7, k8, k9, k10, k11, k12, k13, false,
    false, false, k17⟩ o → (act x0).Sound ⟨k0, k1, k2, k3, k4, k5, k6, k7, k8, k9, k10, k11, k12, k13, false, false,
    false, k17⟩ o) (hS : s.Sound ⟨k0, k1, k2, k3, k4, k5, k6, k7, k8, k9, k10, k11, k12, k13, false, false, false,
    k17⟩ o) : (State.csGuard s w off size wr act).Sound ⟨k0, k1, k2, k3, k4, k5, k6, k7, k8, k9, k10, k11, k12, k13,
    false, false, false, k17⟩ o := by
  unfold State.csGuard; try dsimp only
  repeat' first
    | with_reducible assumption | with_reducible intro _ | with_reducible apply State.whoReply_sound
    | with_reducible apply State.toCore_sound | with_reducible apply State.csFail_sound
    | with_reducible apply State.onPwr_sound | with_reducible apply h_act | with_reducible apply ite_sound
    | with_reducible apply ite_fst_sound | split

theorem State.resetRegs_sound {o : State} {s : State} {of : Nat → Bool} (hS : s.Sound ⟨false, k1, k2, k3, k4, k5, k6,
    k7, k8, k9, k10, k11, k12, k13, k14, k15, k16, k17⟩ o) : (State.resetRegs s of).Sound ⟨false, k1, k2, k3, k4, k5,
    k6, k7, k8, k9, k10, k11, k12, k13, k14, k15, k16, k17⟩ o := by
  unfold State.resetRegs; try dsimp only
  repeat' first
    | with_reducible assumption | with_reducible intro _ | with_reducible apply State.setReg_sound
    | with_reducible apply ite_sound | with_reducible apply ite_fst_sound | with_reducible apply each_sound
    | with_reducible apply each_fst_sound | with_reducible refine each_fst_sound' (by assumption) ?_ ?_ | split

theorem State.resetDie_sound {o : State} {s : State} {d : Nat} (hS : s.Sound ⟨false, k1, k2, k3, k4, k5, k6, k7, k8,
    k9, k10, k11, k12, k13, k14, k15, k16, k17⟩ o) : (State.resetDie s d).Sound ⟨false, k1, k2, k3, k4, k5, k6, k7,
    k8, k9, k10, k11, k12, k13, k14, k15, k16, k17⟩ o := by
  unfold State.resetDie; try dsimp only
  with_reducible repeat' first
    | assumption | intro _ | apply State.resetRegs_sound | apply ite_sound | apply ite_fst_sound

theorem State.resetCluster_sound {o : State} {s : State} {d : Nat} {k : Nat} (hS : s.Sound ⟨false, k1, k2, k3, k4, k5,
    k6, k7, k8, k9, k10, k11, k12, k13, k14, k15, k16, k17⟩ o) : (State.resetCluster s d k).Sound ⟨false, k1, k2, k3,
    k4, k5, k6, k7, k8, k9, k10, k11, k12, k13, k14, k15, k16, k17⟩ o := by
  unfold State.resetCluster; try dsimp only
  with_reducible repeat' first
    | assumption | intro _ | apply State.resetRegs_sound | apply ite_sound | apply ite_fst_sound

theorem State.plainWrite_sound {o : State} {s : State} {off : ℕ} {v : Word} {p : ℕ} (hS : s.Sound ⟨false, k1, k2, k3,
    k4, k5, k6, k7, k8, k9, k10, k11, k12, k13, k14, false, false, k17⟩ o) : (State.plainWrite s off v p).Sound
    ⟨false, k1, k2, k3, k4, k5, k6, k7, k8, k9, k10, k11, k12, k13, k14, false, false, k17⟩ o := by
  unfold State.plainWrite; try dsimp only
  repeat' first
    | with_reducible assumption | with_reducible intro _ | with_reducible apply State.record_sound
    | with_reducible apply State.setReg_sound | with_reducible apply ite_sound | split

end Sys2Proof.Machine
end

