-- ==== Sys2Proof/Laws/KeepXlatOps.lean ====
section
/-! SUPPORT. The operations of Machine/XlatOps.lean keep State.Sound. -/

namespace Sys2Proof.Machine

variable {k0 k1 k2 k3 k4 k5 k6 k7 k8 k9 k10 k11 k12 k13 k14 k15 k16 k17 : Bool}

theorem State.tlbL1Touch_sound {o : State} {s : State} {c : ℕ} {e : ℕ} (hS : s.Sound ⟨k0, k1, k2, k3, k4, false, k6,
    k7, k8, k9, k10, k11, k12, k13, k14, k15, k16, k17⟩ o) : (State.tlbL1Touch s c e).Sound ⟨k0, k1, k2, k3, k4,
    false, k6, k7, k8, k9, k10, k11, k12, k13, k14, k15, k16, k17⟩ o := by
  unfold State.tlbL1Touch; try dsimp only
  with_reducible repeat' first | assumption | intro _ | apply State.onXlat_sound

theorem State.tlbL1Fill_sound {o : State} {s : State} {c : ℕ} {t : TlbEnt} (hS : s.Sound ⟨k0, k1, k2, k3, k4, false,
    k6, k7, k8, k9, k10, k11, k12, k13, k14, k15, k16, k17⟩ o) : (State.tlbL1Fill s c t).Sound ⟨k0, k1, k2, k3, k4,
    false, k6, k7, k8, k9, k10, k11, k12, k13, k14, k15, k16, k17⟩ o := by
  unfold State.tlbL1Fill; try dsimp only
  with_reducible repeat' first | assumption | intro _ | apply State.tlbL1Touch_sound | apply State.onXlat_sound

theorem State.tlbL2Use_sound {o : State} {s : State} {base : ℕ} {way : ℕ} (hS : s.Sound ⟨k0, k1, k2, k3, k4, false,
    k6, k7, k8, k9, k10, k11, k12, k13, k14, k15, k16, k17⟩ o) : (State.tlbL2Use s base way).Sound ⟨k0, k1, k2, k3,
    k4, false, k6, k7, k8, k9, k10, k11, k12, k13, k14, k15, k16, k17⟩ o := by
  unfold State.tlbL2Use; try dsimp only
  with_reducible repeat' first
    | assumption | intro _ | apply State.onXlat_sound | apply ite_sound | apply each_sound

theorem State.tlbL2Fill_sound {o : State} {s : State} {c : ℕ} {t : TlbEnt} (hS : s.Sound ⟨k0, k1, k2, k3, k4, false,
    k6, k7, k8, k9, k10, k11, k12, k13, k14, k15, k16, k17⟩ o) : (State.tlbL2Fill s c t).Sound ⟨k0, k1, k2, k3, k4,
    false, k6, k7, k8, k9, k10, k11, k12, k13, k14, k15, k16, k17⟩ o := by
  unfold State.tlbL2Fill; try dsimp only
  with_reducible repeat' first | assumption | intro _ | apply State.tlbL2Use_sound | apply State.onXlat_sound

theorem State.emptyTlbs_sound {o : State} {s : State} {c : Nat} (hS : s.Sound ⟨k0, k1, k2, k3, k4, false, k6, k7, k8,
    k9, k10, k11, k12, k13, k14, k15, k16, k17⟩ o) : (State.emptyTlbs s c).Sound ⟨k0, k1, k2, k3, k4, false, k6, k7,
    k8, k9, k10, k11, k12, k13, k14, k15, k16, k17⟩ o := by
  unfold State.emptyTlbs; try dsimp only
  repeat' first
    | with_reducible assumption | with_reducible intro _ | with_reducible apply State.onXlat_sound
    | with_reducible apply ite_sound | with_reducible apply ite_fst_sound | split

theorem State.xlatFault_sound {o : State} {s : State} {c : ℕ} {src : Src} {user : Bool} {va : ℕ} {code : ℕ} {level :
    ℕ} {hit : Bool} {desc : ℕ} {entry : Word} (hS : s.Sound ⟨false, k1, k2, k3, k4, k5, k6, k7, k8, k9, k10, k11,
    k12, k13, k14, false, false, k17⟩ o) : (State.xlatFault s c src user va code level hit desc entry).Sound ⟨false,
    k1, k2, k3, k4, k5, k6, k7, k8, k9, k10, k11, k12, k13, k14, false, false, k17⟩ o := by
  unfold State.xlatFault; try dsimp only
  with_reducible repeat' first
    | assumption | intro _ | apply State.setF_sound | apply State.setReg_sound | apply State.toCore_sound
    | apply ite_sound

theorem State.setWalk_sound {o : State} {s : State} {w : Walk} (hS : s.Sound ⟨k0, k1, k2, k3, k4, false, k6, k7, k8,
    k9, k10, k11, k12, k13, k14, k15, k16, k17⟩ o) : (State.setWalk s w).Sound ⟨k0, k1, k2, k3, k4, false, k6, k7, k8,
    k9, k10, k11, k12, k13, k14, k15, k16, k17⟩ o := by
  unfold State.setWalk; try dsimp only
  with_reducible repeat' first | assumption | intro _ | apply State.onXlat_sound

theorem State.dropWalk_sound {o : State} {s : State} {w : Walk} (hS : s.Sound ⟨k0, k1, k2, k3, k4, false, k6, k7, k8,
    k9, k10, k11, k12, k13, k14, k15, k16, k17⟩ o) : (State.dropWalk s w).Sound ⟨k0, k1, k2, k3, k4, false, k6, k7,
    k8, k9, k10, k11, k12, k13, k14, k15, k16, k17⟩ o := by
  unfold State.dropWalk; try dsimp only
  with_reducible repeat' first | assumption | intro _ | apply State.onXlat_sound

theorem State.walkFault_sound {o : State} {s : State} {w : Walk} {code : ℕ} {cause : Option ECode} {entry : Word} (hS
    : s.Sound ⟨false, k1, k2, k3, k4, false, k6, k7, k8, k9, k10, k11, k12, k13, k14, false, false, k17⟩ o) :
   (State.walkFault s w code cause entry).Sound ⟨false, k1, k2, k3, k4, false, k6, k7, k8, k9, k10, k11, k12, k13,
    k14, false, false, k17⟩ o := by
  unfold State.walkFault; try dsimp only
  repeat' first
    | with_reducible assumption | with_reducible intro _ | with_reducible apply State.dropWalk_sound
    | with_reducible apply State.record_sound | with_reducible apply State.xlatFault_sound
    | with_reducible apply State.coreReply_sound | with_reducible apply State.setF_sound
    | with_reducible apply ite_sound | with_reducible apply each_sound | with_reducible apply each_fst_sound
    | with_reducible refine each_fst_sound' (by assumption) ?_ ?_ | split

theorem State.walkRead_sound {o : State} {s : State} {w : Walk} (hS : s.Sound ⟨false, k1, k2, k3, false, false, k6,
    k7, k8, k9, k10, k11, k12, k13, k14, false, false, k17⟩ o) : (State.walkRead s w).Sound ⟨false, k1, k2, k3, false,
    false, k6, k7, k8, k9, k10, k11, k12, k13, k14, false, false, k17⟩ o := by
  unfold State.walkRead; try dsimp only
  repeat' first
    | with_reducible assumption | with_reducible intro _ | with_reducible apply State.setWalk_sound
    | with_reducible apply State.cleanL1s_sound | with_reducible apply State.sendDirect_sound
    | with_reducible apply State.dcRequest_sound | with_reducible apply State.walkFault_sound
    | with_reducible apply ite_sound | with_reducible apply ite_fst_sound | split

theorem State.startWalk_sound {o : State} {s : State} {a : Acc} {cmo : Option (Nat × Nat)} {spec : Bool} (hS : s.Sound
    ⟨false, k1, k2, k3, false, false, k6, k7, k8, k9, k10, k11, k12, k13, k14, false, false, k17⟩ o) :
    (State.startWalk s a cmo spec).Sound ⟨false, k1, k2, k3, false, false, k6, k7, k8, k9, k10, k11, k12, k13, k14,
    false, false, k17⟩ o := by
  unfold State.startWalk; try dsimp only
  repeat' first
    | with_reducible assumption | with_reducible intro _ | with_reducible apply State.count_sound
    | with_reducible apply State.onXlat_sound | with_reducible apply State.walkRead_sound
    | with_reducible apply ite_sound | with_reducible apply ite_fst_sound | split

theorem State.translate_sound {o : State} {s : State} {c : Nat} {src : Src} {user : Bool} {va : Nat} (hS : s.Sound
    ⟨false, k1, k2, k3, k4, false, k6, k7, k8, k9, k10, k11, k12, k13, k14, k15, false, k17⟩ o) : (State.translate s c
    src user va).1.Sound ⟨false, k1, k2, k3, k4, false, k6, k7, k8, k9, k10, k11, k12, k13, k14, k15, false, k17⟩ o :=
    by
  unfold State.translate; try dsimp only
  repeat' first
    | with_reducible assumption | with_reducible intro _ | with_reducible apply State.onXlat_sound
    | with_reducible apply State.tlbL2Use_sound | with_reducible apply State.tlbL1Fill_sound
    | with_reducible apply State.tlbL1Touch_sound | with_reducible apply State.count_sound
    | with_reducible apply ite_sound | with_reducible apply ite_fst_sound | split

theorem State.translate_sound' {o : State} {s : State} {c : Nat} {src : Src} {user : Bool} {va : Nat} {u_ : State}
    {res} (e : State.translate s c src user va = (u_, res)) (hS : s.Sound ⟨false, k1, k2, k3, k4, false, k6, k7, k8, k9, k10, k11, k12, k13, k14, k15, false, k17⟩ o) : u_.Sound ⟨false, k1, k2, k3, k4, false, k6, k7, k8, k9, k10, k11, k12, k13, k14, k15, false, k17⟩ o :=
  fst_sound e (State.translate_sound hS)

theorem State.walkStep_sound {o : State} {s : State} {w : Walk} (hS : s.Sound ⟨false, k1, k2, k3, false, false, k6,
    k7, k8, k9, k10, k11, k12, k13, k14, false, false, k17⟩ o) : (State.walkStep s w).1.Sound ⟨false, k1, k2, k3,
    false, false, k6, k7, k8, k9, k10, k11, k12, k13, k14, false, false, k17⟩ o := by
  unfold State.walkStep; try dsimp only
  repeat' first
    | with_reducible assumption | with_reducible intro _ | with_reducible apply State.walkFault_sound
    | with_reducible apply State.dropWalk_sound | with_reducible apply State.tlbL2Fill_sound
    | with_reducible apply State.tlbL1Fill_sound | with_reducible apply State.count_sound
    | with_reducible refine State.translate_sound' (by assumption) ?_ | with_reducible apply State.translate_sound
    | with_reducible apply State.setWalk_sound | with_reducible apply State.walkRead_sound
    | with_reducible apply ite_sound | with_reducible apply ite_fst_sound | split

theorem State.walkStep_sound' {o : State} {s : State} {w : Walk} {u_ : State} {res} (e : State.walkStep s w = (u_,
    res)) (hS : s.Sound ⟨false, k1, k2, k3, false, false, k6, k7, k8, k9, k10, k11, k12, k13, k14, false, false, k17⟩
    o) : u_.Sound ⟨false, k1, k2, k3, false, false, k6, k7, k8, k9, k10, k11, k12, k13, k14, false, false, k17⟩ o :=
  fst_sound e (State.walkStep_sound hS)

theorem State.takeWaits_sound {o : State} {s : State} {c : ℕ} (hS : s.Sound ⟨k0, k1, k2, k3, k4, false, k6, k7, k8,
    k9, k10, k11, k12, k13, k14, k15, k16, k17⟩ o) : (State.takeWaits s c).1.Sound ⟨k0, k1, k2, k3, k4, false, k6, k7,
    k8, k9, k10, k11, k12, k13, k14, k15, k16, k17⟩ o := by
  unfold State.takeWaits; try dsimp only
  with_reducible repeat' first | assumption | intro _ | apply State.onXlat_sound

theorem State.takeWaits_sound' {o : State} {s : State} {c : ℕ} {u_ : State} {res} (e : State.takeWaits s c = (u_,
    res))  (hS : s.Sound ⟨k0, k1, k2, k3, k4, false, k6, k7, k8, k9, k10, k11, k12, k13, k14, k15, k16, k17⟩ o) :
    u_.Sound ⟨k0, k1, k2, k3, k4, false, k6, k7, k8, k9, k10, k11, k12, k13, k14, k15, k16, k17⟩ o :=
  fst_sound e (State.takeWaits_sound  hS)

theorem State.tlbiLocal_sound {o : State} {s : State} {c : Nat} {op : Nat} {va : Nat} {asid : Nat} {part : Nat} (hS :
    s.Sound ⟨false, k1, k2, k3, false, false, k6, k7, k8, k9, k10, k11, k12, k13, k14, false, false, k17⟩ o) :
    (State.tlbiLocal s c op va asid part).Sound ⟨false, k1, k2, k3, false, false, k6, k7, k8, k9, k10, k11, k12, k13,
    k14, false, false, k17⟩ o := by
  unfold State.tlbiLocal; try dsimp only
  repeat' first
    | with_reducible assumption | with_reducible intro _ | with_reducible apply State.onXlat_sound
    | with_reducible apply State.setWalk_sound | with_reducible apply State.walkRead_sound
    | with_reducible apply ite_sound | with_reducible apply ite_fst_sound | with_reducible apply each_sound
    | with_reducible apply each_fst_sound | with_reducible refine each_fst_sound' (by assumption) ?_ ?_ | split

end Sys2Proof.Machine
end

