-- ==== Sys2Proof/Laws/KeepCmoOps.lean ====
section
/-! SUPPORT. The operations of Machine/CmoOps.lean keep State.Sound. -/

namespace Sys2Proof.Machine

variable {k0 k1 k2 k3 k4 k5 k6 k7 k8 k9 k10 k11 k12 k13 k14 k15 k16 k17 : Bool}

theorem State.cmoL1_sound {o_ : State} {s : State} {c : ℕ} {o : Cmo} (hS : s.Sound ⟨k0, k1, k2, k3, false, k5, k6,
    k7, k8, k9, k10, k11, k12, k13, k14, k15, k16, k17⟩ o_) : (State.cmoL1 s c o).Sound ⟨k0, k1, k2, k3, false, k5,
    k6, k7, k8, k9, k10, k11, k12, k13, k14, k15, k16, k17⟩ o_ := by
  unfold State.cmoL1; try dsimp only
  repeat' first
    | with_reducible assumption | with_reducible intro _ | with_reducible apply State.l0Remove_sound
    | with_reducible apply State.l1Clean_sound | with_reducible apply State.dcUpd_sound
    | with_reducible apply State.l1Remove_sound | with_reducible apply State.l1Evict_sound
    | with_reducible apply ite_sound | split

theorem State.cmoDieLine_sound {o : State} {s : State} {c : Nat} {d : Nat} {kind : Nat} {line : Nat} (hS : s.Sound
    ⟨false, k1, k2, k3, false, k5, k6, k7, k8, k9, k10, k11, k12, k13, k14, k15, false, k17⟩ o) : (State.cmoDieLine s
    c d kind line).1.Sound ⟨false, k1, k2, k3, false, k5, k6, k7, k8, k9, k10, k11, k12, k13, k14, k15, false, k17⟩ o
    := by
  unfold State.cmoDieLine; try dsimp only
  repeat' first
    | with_reducible assumption | with_reducible intro _ | with_reducible apply State.sendDirect_sound
    | with_reducible apply State.dcEvict_sound | with_reducible apply ite_sound | with_reducible apply ite_fst_sound
    | split

theorem State.cmoDieLine_sound' {o : State} {s : State} {c : Nat} {d : Nat} {kind : Nat} {line : Nat} {u_ : State}
    {res} (e : State.cmoDieLine s c d kind line = (u_, res)) (hS : s.Sound ⟨false, k1, k2, k3, false, k5, k6, k7, k8,
    k9, k10, k11, k12, k13, k14, k15, false, k17⟩ o) : u_.Sound ⟨false, k1, k2, k3, false, k5, k6, k7, k8, k9, k10,
    k11, k12, k13, k14, k15, false, k17⟩ o :=
  fst_sound e (State.cmoDieLine_sound hS)

theorem State.cmoLines_sound {o : State} {s : State} {c : Nat} {kind : Nat} {l : List (Nat × Nat)} (hS : s.Sound
    ⟨false, k1, k2, k3, false, k5, k6, k7, k8, k9, k10, k11, k12, k13, k14, k15, false, k17⟩ o) : (State.cmoLines s c
    kind l).1.Sound ⟨false, k1, k2, k3, false, k5, k6, k7, k8, k9, k10, k11, k12, k13, k14, k15, false, k17⟩ o := by
  unfold State.cmoLines; try dsimp only
  repeat' first
    | with_reducible assumption | with_reducible intro _
    | with_reducible refine State.cmoDieLine_sound' (by assumption) ?_ | with_reducible apply State.cmoDieLine_sound
    | with_reducible apply ite_sound | with_reducible apply ite_fst_sound | with_reducible apply foldl_sound
    | with_reducible apply foldl_fst_sound | with_reducible refine foldl_fst_sound' (by assumption) ?_ ?_ | split

theorem State.cmoLines_sound' {o : State} {s : State} {c : Nat} {kind : Nat} {l : List (Nat × Nat)} {u_ : State} {res}
    (e : State.cmoLines s c kind l = (u_, res)) (hS : s.Sound ⟨false, k1, k2, k3, false, k5, k6, k7, k8, k9, k10, k11,
    k12, k13, k14, k15, false, k17⟩ o) : u_.Sound ⟨false, k1, k2, k3, false, k5, k6, k7, k8, k9, k10, k11, k12, k13,
    k14, k15, false, k17⟩ o :=
  fst_sound e (State.cmoLines_sound hS)

theorem State.setBothCmo_sound {o : State} {s : State} {c : ℕ} {fl : Fld} {v : ℕ} (hS : s.Sound ⟨false, k1, k2, k3,
    k4, k5, k6, k7, k8, k9, k10, k11, k12, k13, k14, k15, k16, k17⟩ o) : (State.setBothCmo s c fl v).Sound ⟨false, k1,
    k2, k3, k4, k5, k6, k7, k8, k9, k10, k11, k12, k13, k14, k15, k16, k17⟩ o := by
  unfold State.setBothCmo; try dsimp only
  with_reducible repeat' first
    | assumption | intro _ | apply State.setF_sound | apply ite_sound | apply each_sound

theorem State.walkOver_sound {o : State} {s : State} {c : Nat} (hS : s.Sound ⟨false, k1, k2, k3, k4, k5, k6, k7, k8,
    k9, k10, k11, k12, k13, k14, k15, k16, k17⟩ o) : (State.walkOver s c).Sound ⟨false, k1, k2, k3, k4, k5, k6, k7,
    k8, k9, k10, k11, k12, k13, k14, k15, k16, k17⟩ o := by
  unfold State.walkOver; try dsimp only
  with_reducible repeat' first
    | assumption | intro _ | apply State.setBothCmo_sound | apply ite_sound | apply ite_fst_sound

theorem State.cmoOver_sound {o : State} {s : State} {q : CmoOut} {code : Nat} (hS : s.Sound ⟨false, k1, k2, k3, k4,
    k5, k6, k7, k8, k9, k10, k11, k12, k13, k14, false, false, k17⟩ o) : (State.cmoOver s q code).Sound ⟨false, k1,
    k2, k3, k4, k5, k6, k7, k8, k9, k10, k11, k12, k13, k14, false, false, k17⟩ o := by
  unfold State.cmoOver; try dsimp only
  with_reducible repeat' first
    | assumption | intro _ | apply State.walkOver_sound | apply State.coreReply_sound | apply ite_sound
    | apply ite_fst_sound

theorem State.cmoBegin_sound {o : State} {s : State} {q : CmoOut} (hS : s.Sound ⟨false, k1, k2, k3, false, k5, k6, k7,
    k8, k9, k10, k11, k12, k13, k14, false, false, k17⟩ o) : (State.cmoBegin s q).Sound ⟨false, k1, k2, k3, false, k5,
    k6, k7, k8, k9, k10, k11, k12, k13, k14, false, false, k17⟩ o := by
  unfold State.cmoBegin; try dsimp only
  repeat' first
    | with_reducible assumption | with_reducible intro _ | with_reducible apply State.cmoOver_sound
    | with_reducible apply State.onCache_sound | with_reducible apply ite_sound | with_reducible apply ite_fst_sound
    | split

theorem State.cmoPart_sound {o : State} {s : State} {unit : Nat} {line : Nat} {code : Nat} (hS : s.Sound ⟨false, k1,
    k2, k3, false, k5, k6, k7, k8, k9, k10, k11, k12, k13, k14, false, false, k17⟩ o) : (State.cmoPart s unit line
    code).Sound ⟨false, k1, k2, k3, false, k5, k6, k7, k8, k9, k10, k11, k12, k13, k14, false, false, k17⟩ o := by
  unfold State.cmoPart; try dsimp only
  repeat' first
    | with_reducible assumption | with_reducible intro _ | with_reducible apply State.onCache_sound
    | with_reducible apply State.cmoOver_sound | with_reducible apply ite_sound | with_reducible apply ite_fst_sound
    | with_reducible apply each_sound | with_reducible apply each_fst_sound
    | with_reducible refine each_fst_sound' (by assumption) ?_ ?_ | split

theorem State.cmoSweep_sound {o : State} {s : State} (hS : s.Sound ⟨false, k1, k2, k3, false, k5, k6, k7, k8, k9, k10,
    k11, k12, k13, k14, false, false, k17⟩ o) : (State.cmoSweep s).Sound ⟨false, k1, k2, k3, false, k5, k6, k7, k8,
    k9, k10, k11, k12, k13, k14, false, false, k17⟩ o := by
  unfold State.cmoSweep; try dsimp only
  with_reducible repeat' first
    | assumption | intro _ | apply State.cmoPart_sound | apply ite_sound | apply ite_fst_sound

theorem State.cmoSetWay_sound {o : State} {s : State} {c : Nat} {kind : Nat} {level : Nat} {set : Nat} {way : Nat} (hS
    : s.Sound ⟨k0, k1, k2, k3, false, k5, k6, k7, k8, k9, k10, k11, k12, k13, k14, k15, k16, k17⟩ o) :
    (State.cmoSetWay s c kind level set way).Sound ⟨k0, k1, k2, k3, false, k5, k6, k7, k8, k9, k10, k11, k12, k13,
    k14, k15, k16, k17⟩ o := by
  unfold State.cmoSetWay; try dsimp only
  repeat' first
    | with_reducible assumption | with_reducible intro _ | with_reducible apply State.cmoL1_sound
    | with_reducible apply ite_sound | with_reducible apply ite_fst_sound | with_reducible apply each_sound
    | with_reducible apply each_fst_sound | with_reducible refine each_fst_sound' (by assumption) ?_ ?_ | split

theorem State.cmoPerform_sound {o : State} {s : State} {c : Nat} {q : Cmo} {met : Bool} (hS : s.Sound ⟨false, k1, k2,
    k3, false, k5, k6, k7, k8, k9, k10, k11, k12, k13, k14, false, false, k17⟩ o) : (State.cmoPerform s c q met).Sound
    ⟨false, k1, k2, k3, false, k5, k6, k7, k8, k9, k10, k11, k12, k13, k14, false, false, k17⟩ o := by
  unfold State.cmoPerform; try dsimp only
  repeat' first
    | with_reducible assumption | with_reducible intro _ | with_reducible apply State.cmoSetWay_sound
    | with_reducible apply State.cmoL1_sound | with_reducible apply State.coreReply_sound
    | with_reducible refine State.cmoLines_sound' (by assumption) ?_ | with_reducible apply State.cmoLines_sound
    | with_reducible apply State.cmoBegin_sound | with_reducible apply State.sendDirect_sound
    | with_reducible apply ite_sound | with_reducible apply ite_fst_sound | with_reducible apply each_sound
    | with_reducible apply each_fst_sound | with_reducible refine each_fst_sound' (by assumption) ?_ ?_ | split

theorem State.cmoDecode_sound {o s t : State} {c : Nat} {q : Cmo} (e : s.cmoDecode c q = some t) (hS : s.Sound ⟨k0, k1, k2, k3, k4, k5, k6, k7, k8, k9, k10, k11, k12, k13, k14, false, false, k17⟩ o) : t.Sound ⟨k0, k1, k2, k3, k4, k5, k6, k7, k8, k9, k10, k11, k12, k13, k14, false, false, k17⟩ o := by
  unfold State.cmoDecode at e
  split at e
  · contradiction
  · split at e
    · cases e; exact State.coreReply_sound (State.record_sound hS)
    · split at e
      · contradiction
      · cases e; exact State.coreReply_sound hS

theorem State.cmoStart_sound {o : State} {s : State} {c : Nat} {q : Cmo} {met : Bool} (hS : s.Sound ⟨false, k1, k2,
    k3, false, k5, k6, k7, k8, k9, k10, k11, k12, k13, k14, false, false, k17⟩ o) : (State.cmoStart s c q met).Sound
    ⟨false, k1, k2, k3, false, k5, k6, k7, k8, k9, k10, k11, k12, k13, k14, false, false, k17⟩ o := by
  unfold State.cmoStart; try dsimp only
  repeat' first
    | with_reducible assumption | with_reducible intro _
    | with_reducible refine State.cmoDecode_sound (by assumption) ?_ | with_reducible apply State.onCache_sound
    | with_reducible apply State.cmoPerform_sound | with_reducible apply ite_sound
    | with_reducible apply ite_fst_sound | split

theorem State.cmoWalk_sound {o : State} {s : State} {c : Nat} {kind : Nat} {level : Nat} (hS : s.Sound ⟨false, k1, k2,
    k3, false, k5, k6, k7, k8, k9, k10, k11, k12, k13, k14, k15, false, k17⟩ o) : (State.cmoWalk s c kind
    level).1.Sound ⟨false, k1, k2, k3, false, k5, k6, k7, k8, k9, k10, k11, k12, k13, k14, k15, false, k17⟩ o := by
  unfold State.cmoWalk; try dsimp only
  repeat' first
    | with_reducible assumption | with_reducible intro _
    | with_reducible refine State.cmoLines_sound' (by assumption) ?_ | with_reducible apply State.cmoLines_sound
    | with_reducible apply State.cmoSetWay_sound | with_reducible apply ite_sound | with_reducible apply ite_fst_sound
    | with_reducible apply each_sound | with_reducible apply each_fst_sound
    | with_reducible refine each_fst_sound' (by assumption) ?_ ?_ | split

theorem State.cmoWalk_sound' {o : State} {s : State} {c : Nat} {kind : Nat} {level : Nat} {u_ : State} {res} (e :
    State.cmoWalk s c kind level = (u_, res)) (hS : s.Sound ⟨false, k1, k2, k3, false, k5, k6, k7, k8, k9, k10, k11,
    k12, k13, k14, k15, false, k17⟩ o) : u_.Sound ⟨false, k1, k2, k3, false, k5, k6, k7, k8, k9, k10, k11, k12, k13,
    k14, k15, false, k17⟩ o :=
  fst_sound e (State.cmoWalk_sound hS)

theorem State.cmoWrite_sound {o : State} {s : State} {c : Nat} {op : Nat} {byKind : Nat} {level : Nat} {addr : Nat}
    {user : Bool} (hS : s.Sound ⟨false, k1, k2, k3, false, false, k6, k7, k8, k9, k10, k11, k12, k13, k14, false,
    false, k17⟩ o) : (State.cmoWrite s c op byKind level addr user).Sound ⟨false, k1, k2, k3, false, false, k6, k7,
    k8, k9, k10, k11, k12, k13, k14, false, false, k17⟩ o := by
  unfold State.cmoWrite; try dsimp only
  repeat' first
    | with_reducible assumption | with_reducible intro _ | with_reducible apply State.coreReply_sound
    | with_reducible apply State.onCache_sound | with_reducible apply State.cmoStart_sound
    | with_reducible refine State.translate_sound' (by assumption) ?_ | with_reducible apply State.translate_sound
    | with_reducible apply State.xlatFault_sound | with_reducible apply State.setBothCmo_sound
    | with_reducible apply State.startWalk_sound | with_reducible apply ite_sound | with_reducible apply ite_fst_sound
    | split

theorem State.walksHeld_sound {o : State} {s : State} {d : Nat} (hS : s.Sound ⟨false, k1, k2, k3, false, false, k6,
    k7, k8, k9, k10, k11, k12, k13, k14, false, false, k17⟩ o) : (State.walksHeld s d).Sound ⟨false, k1, k2, k3,
    false, false, k6, k7, k8, k9, k10, k11, k12, k13, k14, false, false, k17⟩ o := by
  unfold State.walksHeld; try dsimp only
  repeat' first
    | with_reducible assumption | with_reducible intro _ | with_reducible apply State.setWalk_sound
    | with_reducible apply State.walkRead_sound | with_reducible apply ite_sound | with_reducible apply ite_fst_sound
    | with_reducible apply each_sound | with_reducible apply each_fst_sound
    | with_reducible refine each_fst_sound' (by assumption) ?_ ?_ | split

theorem State.cmoResume_sound {o : State} {s : State} {d : Nat} (hS : s.Sound ⟨false, k1, k2, k3, false, false, k6,
    k7, k8, k9, k10, k11, k12, k13, k14, false, false, k17⟩ o) : (State.cmoResume s d).Sound ⟨false, k1, k2, k3,
    false, false, k6, k7, k8, k9, k10, k11, k12, k13, k14, false, false, k17⟩ o := by
  unfold State.cmoResume; try dsimp only
  repeat' first
    | with_reducible assumption | with_reducible intro _ | with_reducible apply State.cmoSweep_sound
    | with_reducible apply State.onCache_sound | with_reducible apply State.cmoStart_sound
    | with_reducible apply State.cmoWrite_sound | with_reducible apply State.retryWaiting_sound
    | with_reducible apply State.walksHeld_sound | with_reducible apply ite_sound | with_reducible apply ite_fst_sound
    | with_reducible apply each_sound | with_reducible apply each_fst_sound
    | with_reducible refine each_fst_sound' (by assumption) ?_ ?_ | split

theorem State.cmoIssue_sound {o : State} {s : State} {w : Who} {blk : ℕ} {op : ℕ} {byKind : ℕ} {level : ℕ} {addr : ℕ}
    {user : Bool} (hS : s.Sound ⟨false, k1, k2, k3, false, false, k6, k7, k8, k9, k10, k11, k12, k13, false, false,
    false, k17⟩ o) : (State.cmoIssue s w blk op byKind level addr user).Sound ⟨false, k1, k2, k3, false, false, k6,
    k7, k8, k9, k10, k11, k12, k13, false, false, false, k17⟩ o := by
  unfold State.cmoIssue; try dsimp only
  repeat' first
    | with_reducible assumption | with_reducible intro _ | with_reducible apply State.csGuard_sound
    | with_reducible apply State.cmoWrite_sound | with_reducible apply State.csFail_sound
    | with_reducible apply ite_sound | split

theorem State.cmoLeaf_sound {o : State} {s : State} {w : Walk} {pa : ℕ} {d : Word} (hS : s.Sound ⟨false, k1, k2, k3,
    false, k5, k6, k7, k8, k9, k10, k11, k12, k13, k14, false, false, k17⟩ o) : (State.cmoLeaf s w pa d).Sound ⟨false,
    k1, k2, k3, false, k5, k6, k7, k8, k9, k10, k11, k12, k13, k14, false, false, k17⟩ o := by
  unfold State.cmoLeaf; try dsimp only
  repeat' first
    | with_reducible assumption | with_reducible intro _ | with_reducible apply State.cmoStart_sound
    | with_reducible apply ite_sound | split

end Sys2Proof.Machine
end

