-- ==== Sys2Proof/Laws/KeepArbOps.lean ====
section
/-! SUPPORT. The operations of Machine/ArbOps.lean keep State.Sound. -/

namespace Sys2Proof.Machine

variable {k0 k1 k2 k3 k4 k5 k6 k7 k8 k9 k10 k11 k12 k13 k14 k15 k16 k17 : Bool}

theorem State.updArb_sound {o : State} {s : State} {a : Nat} {f : ArbH → ArbH} (hS : s.Sound ⟨k0, k1, k2, k3, k4, k5,
    false, k7, k8, k9, k10, k11, k12, k13, k14, k15, k16, k17⟩ o) : (State.updArb s a f).Sound ⟨k0, k1, k2, k3, k4,
    k5, false, k7, k8, k9, k10, k11, k12, k13, k14, k15, k16, k17⟩ o := by
  unfold State.updArb; try dsimp only
  repeat' first
    | with_reducible assumption | with_reducible intro _ | with_reducible apply State.onFab_sound
    | with_reducible apply ite_sound | with_reducible apply ite_fst_sound | split

theorem State.waitEnd_sound {o : State} {s : State} {a : Nat} {n : Nat} (hS : s.Sound ⟨false, k1, k2, k3, k4, k5,
    false, k7, k8, k9, k10, k11, k12, k13, k14, k15, k16, k17⟩ o) : (State.waitEnd s a n).Sound ⟨false, k1, k2, k3,
    k4, k5, false, k7, k8, k9, k10, k11, k12, k13, k14, k15, k16, k17⟩ o := by
  unfold State.waitEnd; try dsimp only
  repeat' first
    | with_reducible assumption | with_reducible intro _ | with_reducible apply State.updArb_sound
    | with_reducible apply State.setF_sound | with_reducible apply ite_sound | with_reducible apply ite_fst_sound
    | split

theorem State.waitNote_sound {o : State} {s : State} {a : Nat} {r : Nat} {n : Nat} {isOpen : Bool} (hS : s.Sound
    ⟨false, k1, k2, k3, k4, k5, k6, k7, k8, k9, k10, k11, k12, k13, k14, k15, k16, k17⟩ o) : (State.waitNote s a r n
    isOpen).Sound ⟨false, k1, k2, k3, k4, k5, k6, k7, k8, k9, k10, k11, k12, k13, k14, k15, k16, k17⟩ o := by
  unfold State.waitNote; try dsimp only
  with_reducible repeat' first | assumption | intro _ | apply State.setF_sound | apply ite_sound | apply ite_fst_sound

theorem State.arbLost_sound {o : State} {s : State} {a : Nat} {r : Nat} (hS : s.Sound ⟨false, k1, k2, k3, k4, k5, k6,
    k7, k8, k9, k10, k11, k12, k13, k14, k15, k16, k17⟩ o) : (State.arbLost s a r).Sound ⟨false, k1, k2, k3, k4, k5,
    k6, k7, k8, k9, k10, k11, k12, k13, k14, k15, k16, k17⟩ o := by
  unfold State.arbLost; try dsimp only
  with_reducible repeat' first | assumption | intro _ | apply State.setF_sound | apply ite_sound | apply ite_fst_sound

theorem State.arbWon_sound {o : State} {s : State} {a : Nat} {r : Nat} (hS : s.Sound ⟨false, k1, k2, k3, k4, k5, k6,
    k7, k8, k9, k10, k11, k12, k13, k14, k15, k16, k17⟩ o) : (State.arbWon s a r).Sound ⟨false, k1, k2, k3, k4, k5,
    k6, k7, k8, k9, k10, k11, k12, k13, k14, k15, k16, k17⟩ o := by
  unfold State.arbWon; try dsimp only
  with_reducible repeat' first | assumption | intro _ | apply State.setF_sound | apply ite_sound | apply ite_fst_sound

theorem State.arbLose_sound {o : State} {s : State} {a : Nat} {r : Nat} {cycle : Nat} (hS : s.Sound ⟨false, k1, k2,
    k3, k4, k5, false, k7, k8, k9, k10, k11, k12, k13, k14, k15, k16, k17⟩ o) : (State.arbLose s a r cycle).Sound
    ⟨false, k1, k2, k3, k4, k5, false, k7, k8, k9, k10, k11, k12, k13, k14, k15, k16, k17⟩ o := by
  unfold State.arbLose; try dsimp only
  repeat' first
    | with_reducible assumption | with_reducible intro _ | with_reducible apply State.arbLost_sound
    | with_reducible apply State.updArb_sound | with_reducible apply State.waitNote_sound
    | with_reducible apply ite_sound | with_reducible apply ite_fst_sound | split

theorem State.arbRound_sound {o : State} {s : State} {a : Nat} {reqs : List (Nat × Bool)} {cycle : Nat} (hS : s.Sound
    ⟨false, k1, k2, k3, k4, k5, false, k7, k8, k9, k10, k11, k12, k13, k14, k15, k16, k17⟩ o) : (State.arbRound s a
    reqs cycle).1.Sound ⟨false, k1, k2, k3, k4, k5, false, k7, k8, k9, k10, k11, k12, k13, k14, k15, k16, k17⟩ o := by
  unfold State.arbRound; try dsimp only
  repeat' first
    | with_reducible assumption | with_reducible intro _ | with_reducible apply State.setF_sound
    | with_reducible apply State.waitEnd_sound | with_reducible apply State.arbWon_sound
    | with_reducible apply State.waitNote_sound | with_reducible apply State.updArb_sound
    | with_reducible apply State.arbLose_sound | with_reducible apply ite_sound | with_reducible apply ite_fst_sound
    | with_reducible apply each_sound | with_reducible apply each_fst_sound
    | with_reducible refine each_fst_sound' (by assumption) ?_ ?_ | split

theorem State.arbRound_sound' {o : State} {s : State} {a : Nat} {reqs : List (Nat × Bool)} {cycle : Nat} {u_ : State}
    {res} (e : State.arbRound s a reqs cycle = (u_, res)) (hS : s.Sound ⟨false, k1, k2, k3, k4, k5, false, k7, k8, k9,
    k10, k11, k12, k13, k14, k15, k16, k17⟩ o) : u_.Sound ⟨false, k1, k2, k3, k4, k5, false, k7, k8, k9, k10, k11,
    k12, k13, k14, k15, k16, k17⟩ o :=
  fst_sound e (State.arbRound_sound hS)

theorem State.arbMask_sound {o : State} {s : State} {a : Nat} {n : Nat} {on : Bool} (hS : s.Sound ⟨false, k1, k2, k3,
    k4, k5, false, k7, k8, k9, k10, k11, k12, k13, k14, k15, k16, k17⟩ o) : (State.arbMask s a n on).Sound ⟨false, k1,
    k2, k3, k4, k5, false, k7, k8, k9, k10, k11, k12, k13, k14, k15, k16, k17⟩ o := by
  unfold State.arbMask; try dsimp only
  with_reducible repeat' first
    | assumption | intro _ | apply State.setF_sound | apply State.waitEnd_sound | apply ite_sound
    | apply ite_fst_sound

theorem State.arbPass_sound {o s t : State} {a n : Nat} (e : s.arbPass a n = some t) (hS : s.Sound ⟨false, k1, k2, k3, k4, k5, false, k7, k8, k9, k10, k11, k12, k13, k14, k15, k16, k17⟩ o) : t.Sound ⟨false, k1, k2, k3, k4, k5, false, k7, k8, k9, k10, k11, k12, k13, k14, k15, k16, k17⟩ o := by
  unfold State.arbPass at e; dsimp only at e
  split at e
  · cases e; exact hS
  · split at e
    · contradiction
    · cases e; exact ite_sound (State.setF_sound hS) (State.updArb_sound hS)

theorem State.maskCore_sound {o : State} {s : State} {c : Nat} {on : Bool} (hS : s.Sound ⟨false, k1, k2, k3, k4, k5,
    false, k7, k8, k9, k10, k11, k12, k13, k14, k15, k16, k17⟩ o) : (State.maskCore s c on).Sound ⟨false, k1, k2, k3,
    k4, k5, false, k7, k8, k9, k10, k11, k12, k13, k14, k15, k16, k17⟩ o := by
  unfold State.maskCore; try dsimp only
  with_reducible repeat' first
    | assumption | intro _ | apply State.arbMask_sound | apply ite_sound | apply ite_fst_sound

theorem State.arbMaskDie_sound {o : State} {s : State} {d : Nat} {on : Bool} (hS : s.Sound ⟨false, k1, k2, k3, k4, k5,
    false, k7, k8, k9, k10, k11, k12, k13, k14, k15, k16, k17⟩ o) : (State.arbMaskDie s d on).Sound ⟨false, k1, k2,
    k3, k4, k5, false, k7, k8, k9, k10, k11, k12, k13, k14, k15, k16, k17⟩ o := by
  unfold State.arbMaskDie; try dsimp only
  repeat' first
    | with_reducible assumption | with_reducible intro _ | with_reducible apply State.arbMask_sound
    | with_reducible apply ite_sound | with_reducible apply ite_fst_sound | with_reducible apply each_sound
    | with_reducible apply each_fst_sound | with_reducible refine each_fst_sound' (by assumption) ?_ ?_ | split

end Sys2Proof.Machine
end

