-- ==== Sys2Proof/Laws/KeepDramOps.lean ====
section
/-! SUPPORT. The operations of Machine/DramOps.lean keep State.Sound. -/

namespace Sys2Proof.Machine

variable {k0 k1 k2 k3 k4 k5 k6 k7 k8 k9 k10 k11 k12 k13 k14 k15 k16 k17 : Bool}

theorem State.wakeRank_sound {o : State} {s : State} {c : Nat} {rank : Nat} (hS : s.Sound ⟨false, k1, k2, k3, k4, k5,
    k6, k7, k8, k9, k10, k11, k12, k13, k14, k15, k16, k17⟩ o) : (State.wakeRank s c rank).Sound ⟨false, k1, k2, k3,
    k4, k5, k6, k7, k8, k9, k10, k11, k12, k13, k14, k15, k16, k17⟩ o := by
  unfold State.wakeRank; try dsimp only
  with_reducible repeat' first | assumption | intro _ | apply State.setF_sound | apply ite_sound | apply ite_fst_sound

theorem State.setStored_sound {o : State} {s : State} {c : ℕ} {l : ℕ} {x : Stored} (hS : s.Sound ⟨false, k1, k2, k3, k4, k5, k6, k7, false, false, k10, k11, k12, k13, k14, k15, k16, k17⟩ o) : (State.setStored s c l x).Sound ⟨false, k1, k2, k3, k4, k5, k6, k7, false, false, k10, k11, k12, k13, k14, k15, k16, k17⟩ o :=
  -- HAND
  ite_sound hS (State.onDram_wf_sound (State.wakeRank_sound hS) (Mem.setLine_wf (State.wakeRank_sound hS).mem c l x))

theorem State.mapOutDev_sound {o : State} {s : State} {c : ℕ} {rank : ℕ} {sub : ℕ} {dev : ℕ} (hS : s.Sound ⟨false,
    k1, k2, k3, k4, k5, k6, k7, k8, k9, k10, k11, k12, k13, k14, false, false, k17⟩ o) : (State.mapOutDev s c rank sub
    dev).Sound ⟨false, k1, k2, k3, k4, k5, k6, k7, k8, k9, k10, k11, k12, k13, k14, false, false, k17⟩ o := by
  unfold State.mapOutDev; try dsimp only
  with_reducible repeat' first
    | assumption | intro _ | apply State.record_sound | apply State.setReg_sound | apply ite_sound

theorem State.countDev_sound {o : State} {s : State} {c : ℕ} {l : ℕ} {dev : ℕ} (hS : s.Sound ⟨false, k1, k2, k3, k4,
    k5, k6, k7, false, k9, k10, k11, k12, k13, k14, k15, k16, k17⟩ o) : (State.countDev s c l dev).Sound ⟨false, k1,
    k2, k3, k4, k5, k6, k7, false, k9, k10, k11, k12, k13, k14, k15, k16, k17⟩ o := by
  unfold State.countDev; try dsimp only
  repeat' first
    | with_reducible assumption | with_reducible intro _ | with_reducible apply State.incF_sound
    | with_reducible apply State.onDram_sound | with_reducible apply ite_sound | with_reducible rfl | rfl

theorem State.readLine_sound {o : State} {s : State} {c : Nat} {l : Nat} (hS : s.Sound ⟨false, k1, k2, k3, k4, k5, k6,
    k7, false, false, k10, k11, k12, k13, k14, k15, k16, k17⟩ o) : (State.readLine s c l).1.Sound ⟨false, k1, k2, k3,
    k4, k5, k6, k7, false, false, k10, k11, k12, k13, k14, k15, k16, k17⟩ o := by
  unfold State.readLine; try dsimp only
  repeat' first
    | with_reducible assumption | with_reducible intro _ | with_reducible apply State.wakeRank_sound
    | with_reducible apply State.setStored_sound | with_reducible apply State.countDev_sound
    | with_reducible apply ite_sound | with_reducible apply ite_fst_sound | split

theorem State.readLine_sound' {o : State} {s : State} {c : Nat} {l : Nat} {u_ : State} {res} (e : State.readLine s c l
    = (u_, res)) (hS : s.Sound ⟨false, k1, k2, k3, k4, k5, k6, k7, false, false, k10, k11, k12, k13, k14, k15, k16,
    k17⟩ o) : u_.Sound ⟨false, k1, k2, k3, k4, k5, k6, k7, false, false, k10, k11, k12, k13, k14, k15, k16, k17⟩ o :=
  fst_sound e (State.readLine_sound hS)

theorem State.pcFlush_sound {o : State} {s : State} {key : Nat} (hS : s.Sound ⟨false, k1, k2, k3, k4, k5, k6, k7,
    false, false, k10, k11, k12, k13, k14, k15, k16, k17⟩ o) : (State.pcFlush s key).Sound ⟨false, k1, k2, k3, k4, k5,
    k6, k7, false, false, k10, k11, k12, k13, k14, k15, k16, k17⟩ o := by
  unfold State.pcFlush; try dsimp only
  repeat' first
    | with_reducible assumption | with_reducible intro _ | with_reducible apply State.setStored_sound
    | with_reducible apply State.onDram_sound | with_reducible apply ite_sound | with_reducible apply ite_fst_sound
    | with_reducible rfl | rfl | split

theorem State.pcTouch_sound {o : State} {s : State} {h : ℕ} {set : ℕ} {way : ℕ} (hS : s.Sound ⟨k0, k1, k2, k3, k4,
    k5, k6, k7, false, k9, k10, k11, k12, k13, k14, k15, k16, k17⟩ o) : (State.pcTouch s h set way).Sound ⟨k0, k1, k2,
    k3, k4, k5, k6, k7, false, k9, k10, k11, k12, k13, k14, k15, k16, k17⟩ o := by
  unfold State.pcTouch; try dsimp only
  repeat' first
    | with_reducible assumption | with_reducible intro _ | with_reducible apply State.onDram_sound
    | with_reducible apply ite_sound | with_reducible rfl | rfl

theorem State.pcInsert_sound {o : State} {s : State} {c : Nat} {l : Nat} {x : Stored} {dirty : Bool} (hS : s.Sound
    ⟨false, k1, k2, k3, k4, k5, k6, k7, false, false, k10, k11, k12, k13, k14, k15, k16, k17⟩ o) : (State.pcInsert s c
    l x dirty).Sound ⟨false, k1, k2, k3, k4, k5, k6, k7, false, false, k10, k11, k12, k13, k14, k15, k16, k17⟩ o := by
  unfold State.pcInsert; try dsimp only
  repeat' first
    | with_reducible assumption | with_reducible intro _ | with_reducible apply State.pcFlush_sound
    | with_reducible apply State.onDram_sound | with_reducible apply State.pcTouch_sound
    | with_reducible apply ite_sound | with_reducible apply ite_fst_sound | with_reducible rfl | rfl | split

theorem State.pcPut_sound {o : State} {s : State} {c : Nat} {l : Nat} {x : Stored} {dirty : Bool} (hS : s.Sound
    ⟨false, k1, k2, k3, k4, k5, k6, k7, false, false, k10, k11, k12, k13, k14, k15, k16, k17⟩ o) : (State.pcPut s c l
    x dirty).Sound ⟨false, k1, k2, k3, k4, k5, k6, k7, false, false, k10, k11, k12, k13, k14, k15, k16, k17⟩ o := by
  unfold State.pcPut; try dsimp only
  with_reducible repeat' first
    | assumption | intro _ | apply State.setStored_sound | apply State.pcInsert_sound | apply ite_sound
    | apply ite_fst_sound

theorem State.readParity_sound {o : State} {s : State} {c : ℕ} {l : ℕ} (hS : s.Sound ⟨false, k1, k2, k3, k4, k5, k6,
    k7, false, false, k10, k11, k12, k13, k14, k15, k16, k17⟩ o) : (State.readParity s c l).1.Sound ⟨false, k1, k2,
    k3, k4, k5, k6, k7, false, false, k10, k11, k12, k13, k14, k15, k16, k17⟩ o := by
  unfold State.readParity; try dsimp only
  repeat' first
    | with_reducible assumption | with_reducible intro _ | with_reducible apply State.pcTouch_sound
    | with_reducible apply State.incF_sound | with_reducible refine State.readLine_sound' (by assumption) ?_
    | with_reducible apply State.readLine_sound | with_reducible apply State.pcPut_sound
    | with_reducible apply ite_sound | with_reducible apply ite_fst_sound | split

theorem State.readParity_sound' {o : State} {s : State} {c : ℕ} {l : ℕ} {u_ : State} {res} (e : State.readParity s c l
    = (u_, res))  (hS : s.Sound ⟨false, k1, k2, k3, k4, k5, k6, k7, false, false, k10, k11, k12, k13, k14, k15, k16,
    k17⟩ o) : u_.Sound ⟨false, k1, k2, k3, k4, k5, k6, k7, false, false, k10, k11, k12, k13, k14, k15, k16, k17⟩ o :=
  fst_sound e (State.readParity_sound  hS)

theorem State.readPage_sound {o : State} {s : State} {off : Nat} {n : Nat} {want : Option (Nat × Nat)} (hS : s.Sound
    ⟨false, k1, k2, k3, k4, k5, k6, k7, false, false, k10, k11, k12, k13, k14, k15, k16, k17⟩ o) : (State.readPage s
    off n want).1.Sound ⟨false, k1, k2, k3, k4, k5, k6, k7, false, false, k10, k11, k12, k13, k14, k15, k16, k17⟩ o :=
    by
  unfold State.readPage; try dsimp only
  repeat' first
    | with_reducible assumption | with_reducible intro _
    | with_reducible refine State.readLine_sound' (by assumption) ?_ | with_reducible apply State.readLine_sound
    | with_reducible refine State.readParity_sound' (by assumption) ?_ | with_reducible apply State.readParity_sound
    | with_reducible apply ite_sound | with_reducible apply ite_fst_sound | with_reducible apply foldl_sound
    | with_reducible apply foldl_fst_sound | with_reducible refine foldl_fst_sound' (by assumption) ?_ ?_ | split

theorem State.readPage_sound' {o : State} {s : State} {off : Nat} {n : Nat} {want : Option (Nat × Nat)} {u_ : State}
    {res} (e : State.readPage s off n want = (u_, res)) (hS : s.Sound ⟨false, k1, k2, k3, k4, k5, k6, k7, false, false, k10, k11, k12, k13, k14, k15, k16, k17⟩ o) : u_.Sound ⟨false, k1, k2, k3, k4, k5, k6, k7, false, false, k10, k11, k12, k13, k14, k15, k16, k17⟩ o :=
  fst_sound e (State.readPage_sound hS)

theorem State.rebuildPage_sound {o : State} {s : State} {off : Nat} {n : Nat} {want : Option (Nat × Nat)} (hS :
    s.Sound ⟨false, k1, k2, k3, k4, k5, k6, k7, false, false, k10, k11, k12, k13, k14, k15, k16, k17⟩ o) :
    (State.rebuildPage s off n want).1.Sound ⟨false, k1, k2, k3, k4, k5, k6, k7, false, false, k10, k11, k12, k13,
    k14, k15, k16, k17⟩ o := by
  unfold State.rebuildPage; try dsimp only
  repeat' first
    | with_reducible assumption | with_reducible intro _
    | with_reducible refine State.readPage_sound' (by assumption) ?_ | with_reducible apply State.readPage_sound
    | with_reducible apply State.setStored_sound | with_reducible apply State.incF_sound
    | with_reducible apply State.pcPut_sound | with_reducible apply ite_sound | with_reducible apply ite_fst_sound
    | with_reducible apply each_sound | with_reducible apply each_fst_sound
    | with_reducible refine each_fst_sound' (by assumption) ?_ ?_ | split

theorem State.rebuildPage_sound' {o : State} {s : State} {off : Nat} {n : Nat} {want : Option (Nat × Nat)} {u_ :
    State} {res} (e : State.rebuildPage s off n want = (u_, res)) (hS : s.Sound ⟨false, k1, k2, k3, k4, k5, k6, k7,
    false, false, k10, k11, k12, k13, k14, k15, k16, k17⟩ o) : u_.Sound ⟨false, k1, k2, k3, k4, k5, k6, k7, false,
    false, k10, k11, k12, k13, k14, k15, k16, k17⟩ o :=
  fst_sound e (State.rebuildPage_sound hS)

theorem State.giveUp_sound {o : State} {s : State} {off : Nat} (hS : s.Sound ⟨k0, k1, k2, k3, k4, k5, k6, k7, false,
    k9, k10, k11, k12, k13, k14, k15, k16, k17⟩ o) : (State.giveUp s off).Sound ⟨k0, k1, k2, k3, k4, k5, k6, k7,
    false, k9, k10, k11, k12, k13, k14, k15, k16, k17⟩ o := by
  unfold State.giveUp; try dsimp only
  repeat' first
    | with_reducible assumption | with_reducible intro _ | with_reducible apply State.onDram_sound
    | with_reducible apply ite_sound | with_reducible apply ite_fst_sound | with_reducible apply each_sound
    | with_reducible apply each_fst_sound | with_reducible refine each_fst_sound' (by assumption) ?_ ?_
    | with_reducible rfl | rfl | split

theorem State.resyncPage_sound {o : State} {s : State} {off : Nat} {n : Nat} {ch : Nat} {addr : Nat} {part : Nat} (hS
    : s.Sound ⟨false, k1, k2, k3, k4, k5, k6, k7, false, false, k10, k11, k12, k13, k14, false, false, k17⟩ o) :
    (State.resyncPage s off n ch addr part).Sound ⟨false, k1, k2, k3, k4, k5, k6, k7, false, false, k10, k11, k12,
    k13, k14, false, false, k17⟩ o := by
  unfold State.resyncPage; try dsimp only
  repeat' first
    | with_reducible assumption | with_reducible intro _ | with_reducible apply State.pcPut_sound
    | with_reducible apply State.setStored_sound | with_reducible apply State.giveUp_sound
    | with_reducible apply State.record_sound | with_reducible apply ite_sound | with_reducible apply ite_fst_sound
    | with_reducible apply each_sound | with_reducible apply each_fst_sound
    | with_reducible refine each_fst_sound' (by assumption) ?_ ?_ | split

theorem State.memUe_sound {o : State} {s : State} {c : ℕ} {l : ℕ} {addr : Option ℕ} {part : ℕ} (hS : s.Sound ⟨false,
    k1, k2, k3, k4, k5, k6, k7, k8, k9, k10, k11, k12, k13, k14, false, false, k17⟩ o) : (State.memUe s c l addr
    part).Sound ⟨false, k1, k2, k3, k4, k5, k6, k7, k8, k9, k10, k11, k12, k13, k14, false, false, k17⟩ o := by
  unfold State.memUe; try dsimp only
  with_reducible repeat' first
    | assumption | intro _ | apply State.incF_sound | apply State.setF_sound | apply State.setReg_sound
    | apply State.record_sound

theorem State.updateRows_sound {o : State} {s : State} {off : Nat} {n : Nat} {i : Nat} {delta : Line} (hS : s.Sound
    ⟨false, k1, k2, k3, k4, k5, k6, k7, false, false, k10, k11, k12, k13, k14, k15, k16, k17⟩ o) : (State.updateRows s
    off n i delta).Sound ⟨false, k1, k2, k3, k4, k5, k6, k7, false, false, k10, k11, k12, k13, k14, k15, k16, k17⟩ o
    := by
  unfold State.updateRows; try dsimp only
  repeat' first
    | with_reducible assumption | with_reducible intro _ | with_reducible apply State.pcPut_sound
    | with_reducible apply ite_sound | with_reducible apply ite_fst_sound | with_reducible apply each_sound
    | with_reducible apply each_fst_sound | with_reducible refine each_fst_sound' (by assumption) ?_ ?_ | split

theorem State.putLine_sound {o : State} {s : State} {off : ℕ} {c : ℕ} {l : ℕ} {n : ℕ} {i : ℕ} {old : Stored} {new :
    Stored} (hS : s.Sound ⟨false, k1, k2, k3, k4, k5, k6, k7, false, false, k10, k11, k12, k13, k14, k15, k16, k17⟩
    o) : (State.putLine s off c l n i old new).Sound ⟨false, k1, k2, k3, k4, k5, k6, k7, false, false, k10, k11, k12,
    k13, k14, k15, k16, k17⟩ o := by
  unfold State.putLine; try dsimp only
  with_reducible repeat' first
    | assumption | intro _ | apply State.setStored_sound | apply State.updateRows_sound | apply ite_sound

theorem State.mendRows_sound {o : State} {s : State} {off : Nat} {n : Nat} {ch : Nat} {addr : Nat} {part : Nat} (hS :
    s.Sound ⟨false, k1, k2, k3, k4, k5, k6, k7, false, false, k10, k11, k12, k13, k14, false, false, k17⟩ o) :
    (State.mendRows s off n ch addr part).1.Sound ⟨false, k1, k2, k3, k4, k5, k6, k7, false, false, k10, k11, k12,
    k13, k14, false, false, k17⟩ o := by
  unfold State.mendRows; try dsimp only
  repeat' first
    | with_reducible assumption | with_reducible intro _
    | with_reducible refine State.readParity_sound' (by assumption) ?_ | with_reducible apply State.readParity_sound
    | with_reducible refine State.rebuildPage_sound' (by assumption) ?_ | with_reducible apply State.rebuildPage_sound
    | with_reducible apply State.record_sound | with_reducible apply ite_sound | with_reducible apply ite_fst_sound
    | with_reducible apply foldl_sound | with_reducible apply foldl_fst_sound
    | with_reducible refine foldl_fst_sound' (by assumption) ?_ ?_ | split

theorem State.mendRows_sound' {o : State} {s : State} {off : Nat} {n : Nat} {ch : Nat} {addr : Nat} {part : Nat} {u_ :
    State} {res} (e : State.mendRows s off n ch addr part = (u_, res)) (hS : s.Sound ⟨false, k1, k2, k3, k4, k5, k6,
    k7, false, false, k10, k11, k12, k13, k14, false, false, k17⟩ o) : u_.Sound ⟨false, k1, k2, k3, k4, k5, k6, k7,
    false, false, k10, k11, k12, k13, k14, false, false, k17⟩ o :=
  fst_sound e (State.mendRows_sound hS)

theorem State.writeLine_sound {o : State} {s : State} {line : Nat} {full : Bool} {part : Nat} {new : Line → Stored}
    (hS : s.Sound ⟨false, k1, k2, k3, k4, k5, k6, k7, false, false, k10, k11, k12, k13, k14, false, false, k17⟩ o) :
    (State.writeLine s line full part new).1.Sound ⟨false, k1, k2, k3, k4, k5, k6, k7, false, false, k10, k11, k12,
    k13, k14, false, false, k17⟩ o := by
  unfold State.writeLine; try dsimp only
  repeat' first
    | with_reducible assumption | with_reducible intro _ | with_reducible apply State.setStored_sound
    | with_reducible refine State.readLine_sound' (by assumption) ?_ | with_reducible apply State.readLine_sound
    | with_reducible refine State.rebuildPage_sound' (by assumption) ?_ | with_reducible apply State.rebuildPage_sound
    | with_reducible apply State.record_sound | with_reducible apply State.resyncPage_sound
    | with_reducible apply State.memUe_sound | with_reducible refine State.mendRows_sound' (by assumption) ?_
    | with_reducible apply State.mendRows_sound | with_reducible apply State.putLine_sound
    | with_reducible apply ite_sound | with_reducible apply ite_fst_sound | split

theorem State.writeLine_sound' {o : State} {s : State} {line : Nat} {full : Bool} {part : Nat} {new : Line → Stored}
    {u_ : State} {res} (e : State.writeLine s line full part new = (u_, res)) (hS : s.Sound ⟨false, k1, k2, k3, k4,
    k5, k6, k7, false, false, k10, k11, k12, k13, k14, false, false, k17⟩ o) : u_.Sound ⟨false, k1, k2, k3, k4, k5,
    k6, k7, false, false, k10, k11, k12, k13, k14, false, false, k17⟩ o :=
  fst_sound e (State.writeLine_sound hS)

theorem State.writeData_sound {o : State} {s : State} {line : ℕ} {part : ℕ} {mask : Mask} {data : Line} (hS : s.Sound
    ⟨false, k1, k2, k3, k4, k5, k6, k7, false, false, k10, k11, k12, k13, k14, false, false, k17⟩ o) :
   (State.writeData s line part mask data).1.Sound ⟨false, k1, k2, k3, k4, k5, k6, k7, false, false, k10, k11, k12,
    k13, k14, false, false, k17⟩ o := by
  unfold State.writeData; try dsimp only
  with_reducible repeat' first
    | assumption | intro _ | refine State.writeLine_sound' (by assumption) ?_ | apply State.writeLine_sound

theorem State.writeData_sound' {o : State} {s : State} {line : ℕ} {part : ℕ} {mask : Mask} {data : Line} {u_ : State}
    {res} (e : State.writeData s line part mask data = (u_, res))  (hS : s.Sound ⟨false, k1, k2, k3, k4, k5, k6, k7,
    false, false, k10, k11, k12, k13, k14, false, false, k17⟩ o) : u_.Sound ⟨false, k1, k2, k3, k4, k5, k6, k7, false,
    false, k10, k11, k12, k13, k14, false, false, k17⟩ o :=
  fst_sound e (State.writeData_sound  hS)

theorem State.writePoison_sound {o : State} {s : State} {line : ℕ} (hS : s.Sound ⟨false, k1, k2, k3, k4, k5, k6, k7,
    false, false, k10, k11, k12, k13, k14, false, false, k17⟩ o) : (State.writePoison s line).Sound ⟨false, k1, k2,
    k3, k4, k5, k6, k7, false, false, k10, k11, k12, k13, k14, false, false, k17⟩ o := by
  unfold State.writePoison; try dsimp only
  with_reducible repeat' first
    | assumption | intro _ | refine State.writeLine_sound' (by assumption) ?_ | apply State.writeLine_sound

theorem State.queueWrite_sound {o : State} {s : State} {line : Nat} {part : Nat} {data : Line} {mask : Mask} {poison :
    Bool} (hS : s.Sound ⟨k0, k1, k2, k3, k4, k5, k6, k7, false, k9, k10, k11, k12, k13, k14, k15, k16, k17⟩ o) :
    (State.queueWrite s line part data mask poison).Sound ⟨k0, k1, k2, k3, k4, k5, k6, k7, false, k9, k10, k11, k12,
    k13, k14, k15, k16, k17⟩ o := by
  unfold State.queueWrite; try dsimp only
  repeat' first
    | with_reducible assumption | with_reducible intro _ | with_reducible apply State.onDram_sound
    | with_reducible apply ite_sound | with_reducible apply ite_fst_sound | with_reducible rfl | rfl | split

end Sys2Proof.Machine
end

