-- ==== Sys2Proof/Laws/KeepDirOps.lean ====
section
/-! SUPPORT. The operations of Machine/DirOps.lean keep State.Sound. -/

namespace Sys2Proof.Machine

variable {k0 k1 k2 k3 k4 k5 k6 k7 k8 k9 k10 k11 k12 k13 k14 k15 k16 k17 : Bool}

theorem State.dirUpd_sound {o : State} {s : State} {h : ℕ} {line : ℕ} {f : DirEnt → DirEnt} (hS : s.Sound ⟨k0, k1,
    k2, k3, k4, k5, k6, false, k8, k9, k10, k11, k12, k13, k14, k15, k16, k17⟩ o) : (State.dirUpd s h line f).Sound
    ⟨k0, k1, k2, k3, k4, k5, k6, false, k8, k9, k10, k11, k12, k13, k14, k15, k16, k17⟩ o := by
  unfold State.dirUpd; try dsimp only
  repeat' first
    | with_reducible assumption | with_reducible intro _ | with_reducible apply State.onHome_sound
    | with_reducible apply ite_sound | split

theorem State.dirFree_sound {o : State} {s : State} {h : ℕ} {line : ℕ} (hS : s.Sound ⟨k0, k1, k2, k3, k4, k5, k6,
    false, k8, k9, k10, k11, k12, k13, k14, k15, k16, k17⟩ o) : (State.dirFree s h line).Sound ⟨k0, k1, k2, k3, k4,
    k5, k6, false, k8, k9, k10, k11, k12, k13, k14, k15, k16, k17⟩ o := by
  unfold State.dirFree; try dsimp only
  with_reducible repeat' first | assumption | intro _ | apply State.dirUpd_sound

theorem State.dirTouch_sound {o : State} {s : State} {h : ℕ} {line : ℕ} (hS : s.Sound ⟨k0, k1, k2, k3, k4, k5, k6,
    false, k8, k9, k10, k11, k12, k13, k14, k15, k16, k17⟩ o) : (State.dirTouch s h line).Sound ⟨k0, k1, k2, k3, k4,
    k5, k6, false, k8, k9, k10, k11, k12, k13, k14, k15, k16, k17⟩ o := by
  unfold State.dirTouch; try dsimp only
  repeat' first
    | with_reducible assumption | with_reducible intro _ | with_reducible apply State.onHome_sound
    | with_reducible apply ite_sound | split

theorem State.dirAlloc_sound {o : State} {s : State} {h : ℕ} {line : ℕ} {way : ℕ} {e : DirEnt} (hS : s.Sound ⟨k0, k1,
    k2, k3, k4, k5, k6, false, k8, k9, k10, k11, k12, k13, k14, k15, k16, k17⟩ o) : (State.dirAlloc s h line way
    e).Sound ⟨k0, k1, k2, k3, k4, k5, k6, false, k8, k9, k10, k11, k12, k13, k14, k15, k16, k17⟩ o := by
  unfold State.dirAlloc; try dsimp only
  with_reducible repeat' first | assumption | intro _ | apply State.dirTouch_sound | apply State.onHome_sound

theorem State.sendSnoop_sound {o : State} {s : State} {h : Nat} {op : COp} {line : Nat} {dst : Unt} {slot : Nat} {part
    : Nat} {fwd : Unt} {fwdTxn : Nat} {rsv : Bool} {tgt : Option Nat} (hS : s.Sound ⟨k0, k1, k2, k3, k4, k5, k6, k7,
    k8, k9, k10, k11, k12, k13, k14, k15, false, k17⟩ o) : (State.sendSnoop s h op line dst slot part fwd fwdTxn rsv
    tgt).Sound ⟨k0, k1, k2, k3, k4, k5, k6, k7, k8, k9, k10, k11, k12, k13, k14, k15, false, k17⟩ o := by
  unfold State.sendSnoop; try dsimp only
  repeat' first
    | with_reducible assumption | with_reducible intro _ | with_reducible apply State.send_sound
    | with_reducible apply ite_sound | with_reducible apply ite_fst_sound | split

theorem State.poisonLine_sound {o : State} {s : State} {line : Nat} {cause : Nat} (hS : s.Sound ⟨false, k1, k2, k3,
    k4, k5, k6, false, false, k9, k10, k11, k12, k13, k14, k15, false, k17⟩ o) : (State.poisonLine s line cause).Sound
    ⟨false, k1, k2, k3, k4, k5, k6, false, false, k9, k10, k11, k12, k13, k14, k15, false, k17⟩ o := by
  unfold State.poisonLine; try dsimp only
  repeat' first
    | with_reducible assumption | with_reducible intro _ | with_reducible apply State.sendSnoop_sound
    | with_reducible apply State.dirFree_sound | with_reducible apply State.onHome_sound
    | with_reducible apply State.queueWrite_sound | with_reducible apply State.incF_sound
    | with_reducible apply State.setF_sound | with_reducible apply ite_sound | with_reducible apply ite_fst_sound
    | with_reducible apply each_sound | with_reducible apply each_fst_sound
    | with_reducible refine each_fst_sound' (by assumption) ?_ ?_ | split

theorem State.poisonAny_sound {o : State} {s : State} {line : ℕ} {cause : ℕ} {src : Unt} (hS : s.Sound ⟨false, k1,
    k2, k3, k4, k5, k6, false, false, false, k10, k11, k12, k13, k14, false, false, k17⟩ o) : (State.poisonAny s line
    cause src).Sound ⟨false, k1, k2, k3, k4, k5, k6, false, false, false, k10, k11, k12, k13, k14, false, false, k17⟩
    o := by
  unfold State.poisonAny; try dsimp only
  with_reducible repeat' first
    | assumption | intro _ | apply State.poisonLine_sound | apply State.send_sound | apply ite_sound

theorem State.proxyLost_sound {o : State} {s : State} {h : Nat} {line : Nat} {cause : Nat} {gone : Unt → Bool} (hS :
    s.Sound ⟨false, k1, k2, k3, k4, k5, k6, false, false, false, k10, k11, k12, k13, k14, false, false, k17⟩ o) :
    (State.proxyLost s h line cause gone).Sound ⟨false, k1, k2, k3, k4, k5, k6, false, false, false, k10, k11, k12,
    k13, k14, false, false, k17⟩ o := by
  unfold State.proxyLost; try dsimp only
  repeat' first
    | with_reducible assumption | with_reducible intro _ | with_reducible apply State.sendSnoop_sound
    | with_reducible apply State.dirFree_sound | with_reducible apply State.poisonAny_sound
    | with_reducible apply ite_sound | with_reducible apply ite_fst_sound | with_reducible apply each_sound
    | with_reducible apply each_fst_sound | with_reducible refine each_fst_sound' (by assumption) ?_ ?_ | split

theorem State.dirClean_sound {o : State} {s : State} {h : Nat} {line : Nat} {gone : Unt → Bool} {cause : Nat} (hS :
    s.Sound ⟨false, k1, k2, k3, k4, k5, k6, false, false, false, k10, k11, k12, k13, k14, false, false, k17⟩ o) :
    (State.dirClean s h line gone cause).Sound ⟨false, k1, k2, k3, k4, k5, k6, false, false, false, k10, k11, k12,
    k13, k14, false, false, k17⟩ o := by
  unfold State.dirClean; try dsimp only
  repeat' first
    | with_reducible assumption | with_reducible intro _ | with_reducible apply State.proxyLost_sound
    | with_reducible apply State.dirFree_sound | with_reducible apply State.send_sound
    | with_reducible apply State.dirUpd_sound | with_reducible apply State.poisonLine_sound
    | with_reducible apply ite_sound | with_reducible apply ite_fst_sound | split

theorem State.dirLookup_sound {o : State} {s : State} {h : ℕ} {line : ℕ} (hS : s.Sound ⟨false, k1, k2, k3, k4, k5,
    k6, false, false, false, k10, k11, k12, k13, k14, false, false, k17⟩ o) : (State.dirLookup s h line).Sound ⟨false,
    k1, k2, k3, k4, k5, k6, false, false, false, k10, k11, k12, k13, k14, false, false, k17⟩ o := by
  unfold State.dirLookup; try dsimp only
  with_reducible repeat' first | assumption | intro _ | apply State.dirClean_sound

theorem State.dirWalk_sound {o : State} {s : State} {h : ℕ} (hS : s.Sound ⟨false, k1, k2, k3, k4, k5, k6, false,
    false, false, k10, k11, k12, k13, k14, false, false, k17⟩ o) : (State.dirWalk s h).Sound ⟨false, k1, k2, k3, k4,
    k5, k6, false, false, false, k10, k11, k12, k13, k14, false, false, k17⟩ o := by
  unfold State.dirWalk; try dsimp only
  with_reducible repeat' first
    | assumption | intro _ | apply State.dirLookup_sound | apply ite_sound | apply each_sound

end Sys2Proof.Machine
end

