-- ==== Sys2Proof/Laws/KeepHomeOps.lean ====
section
/-! SUPPORT. The operations of Machine/HomeOps.lean keep State.Sound. -/

namespace Sys2Proof.Machine

variable {k0 k1 k2 k3 k4 k5 k6 k7 k8 k9 k10 k11 k12 k13 k14 k15 k16 k17 : Bool}

theorem State.reply_sound {o : State} {s : State} {h : ℕ} {m : CMsg} {op : COp} {data : Line} (hS : s.Sound ⟨k0, k1,
    k2, k3, k4, k5, k6, k7, k8, k9, k10, k11, k12, k13, k14, k15, false, k17⟩ o) : (State.reply s h m op data).Sound
    ⟨k0, k1, k2, k3, k4, k5, k6, k7, k8, k9, k10, k11, k12, k13, k14, k15, false, k17⟩ o := by
  unfold State.reply; try dsimp only
  with_reducible repeat' first | assumption | intro _ | apply State.send_sound

theorem State.answer_sound {o : State} {s : State} {h : ℕ} {t : Txn} {op : COp} {data : Line} (hS : s.Sound ⟨k0, k1,
    k2, k3, k4, k5, k6, k7, k8, k9, k10, k11, k12, k13, k14, k15, false, k17⟩ o) : (State.answer s h t op data).Sound
    ⟨k0, k1, k2, k3, k4, k5, k6, k7, k8, k9, k10, k11, k12, k13, k14, k15, false, k17⟩ o := by
  unfold State.answer; try dsimp only
  with_reducible repeat' first | assumption | intro _ | apply State.reply_sound | apply ite_sound

theorem State.setTxn_sound {o : State} {s : State} {t : Txn} (hS : s.Sound ⟨k0, k1, k2, k3, k4, k5, k6, false, k8,
    k9, k10, k11, k12, k13, k14, k15, k16, k17⟩ o) : (State.setTxn s t).Sound ⟨k0, k1, k2, k3, k4, k5, k6, false, k8,
    k9, k10, k11, k12, k13, k14, k15, k16, k17⟩ o := by
  unfold State.setTxn; try dsimp only
  with_reducible repeat' first | assumption | intro _ | apply State.onHome_sound

theorem State.holdReq_sound {o : State} {s : State} {h : Nat} {m : CMsg} (hS : s.Sound ⟨k0, k1, k2, k3, k4, k5, k6,
    false, k8, k9, k10, k11, k12, k13, k14, k15, k16, k17⟩ o) : (State.holdReq s h m).Sound ⟨k0, k1, k2, k3, k4, k5,
    k6, false, k8, k9, k10, k11, k12, k13, k14, k15, k16, k17⟩ o := by
  unfold State.holdReq; try dsimp only
  repeat' first
    | with_reducible assumption | with_reducible intro _ | with_reducible apply State.onHome_sound
    | with_reducible apply ite_sound | with_reducible apply ite_fst_sound | split

theorem State.queueReq_sound {o : State} {s : State} {h : Nat} {m : CMsg} (hS : s.Sound ⟨false, k1, k2, k3, k4, k5,
    k6, false, k8, k9, k10, k11, k12, k13, k14, k15, k16, k17⟩ o) : (State.queueReq s h m).Sound ⟨false, k1, k2, k3,
    k4, k5, k6, false, k8, k9, k10, k11, k12, k13, k14, k15, k16, k17⟩ o := by
  unfold State.queueReq; try dsimp only
  repeat' first
    | with_reducible assumption | with_reducible intro _ | with_reducible apply State.onHome_sound
    | with_reducible apply State.setF_sound | with_reducible apply ite_sound | with_reducible apply ite_fst_sound
    | split

theorem State.queueMem_sound {o : State} {s : State} {t : Txn} {wr : Bool} {data : Line} {mask : Mask} (hS : s.Sound
    ⟨k0, k1, k2, k3, k4, k5, k6, k7, false, k9, k10, k11, k12, k13, k14, k15, k16, k17⟩ o) : (State.queueMem s t wr
    data mask).Sound ⟨k0, k1, k2, k3, k4, k5, k6, k7, false, k9, k10, k11, k12, k13, k14, k15, k16, k17⟩ o := by
  unfold State.queueMem; try dsimp only
  repeat' first
    | with_reducible assumption | with_reducible intro _ | with_reducible apply State.onDram_sound
    | with_reducible apply ite_sound | with_reducible apply ite_fst_sound | with_reducible rfl | rfl | split

theorem State.openTxn_sound {o : State} {s : State} {h : Nat} {slot : Nat} {m : CMsg} {ord : Bool} {recallFor : Option
    CMsg} (hS : s.Sound ⟨false, k1, k2, k3, k4, k5, k6, false, k8, k9, k10, k11, k12, k13, k14, k15, false, k17⟩ o) :
    (State.openTxn s h slot m ord recallFor).Sound ⟨false, k1, k2, k3, k4, k5, k6, false, k8, k9, k10, k11, k12, k13,
    k14, k15, false, k17⟩ o := by
  unfold State.openTxn; try dsimp only
  repeat' first
    | with_reducible assumption | with_reducible intro _ | with_reducible apply State.onHome_sound
    | with_reducible apply State.incF_sound | with_reducible apply State.setF_sound
    | with_reducible apply State.dirUpd_sound | with_reducible apply State.sendSnoop_sound
    | with_reducible apply ite_sound | with_reducible apply ite_fst_sound | with_reducible apply each_sound
    | with_reducible apply each_fst_sound | with_reducible refine each_fst_sound' (by assumption) ?_ ?_ | split

theorem State.judgeWb_sound {o : State} {s : State} {h : Nat} {m : CMsg} (hS : s.Sound ⟨false, k1, k2, k3, k4, k5, k6,
    false, false, k9, k10, k11, k12, k13, k14, k15, false, k17⟩ o) : (State.judgeWb s h m).Sound ⟨false, k1, k2, k3,
    k4, k5, k6, false, false, k9, k10, k11, k12, k13, k14, k15, false, k17⟩ o := by
  unfold State.judgeWb; try dsimp only
  repeat' first
    | with_reducible assumption | with_reducible intro _ | with_reducible apply State.reply_sound
    | with_reducible apply State.incF_sound | with_reducible apply State.poisonLine_sound
    | with_reducible apply State.queueWrite_sound | with_reducible apply State.dirFree_sound
    | with_reducible apply State.dirUpd_sound | with_reducible apply ite_sound | with_reducible apply ite_fst_sound
    | split

theorem State.endTxn_sound {o : State} {s : State} {t : Txn} (hS : s.Sound ⟨false, k1, k2, k3, k4, k5, k6, false,
    false, k9, k10, k11, k12, k13, k14, k15, false, k17⟩ o) : (State.endTxn s t).Sound ⟨false, k1, k2, k3, k4, k5, k6,
    false, false, k9, k10, k11, k12, k13, k14, k15, false, k17⟩ o := by
  unfold State.endTxn; try dsimp only
  repeat' first
    | with_reducible assumption | with_reducible intro _ | with_reducible apply State.onHome_sound
    | with_reducible apply State.dirUpd_sound | with_reducible apply State.judgeWb_sound
    | with_reducible apply State.setTxn_sound | with_reducible apply State.sendSnoop_sound
    | with_reducible apply ite_sound | with_reducible apply ite_fst_sound | with_reducible apply each_sound
    | with_reducible apply each_fst_sound | with_reducible refine each_fst_sound' (by assumption) ?_ ?_ | split

theorem State.grantEntry_sound {o : State} {s : State} {t : Txn} (hS : s.Sound ⟨k0, k1, k2, k3, k4, k5, k6, false, k8,
    k9, k10, k11, k12, k13, k14, k15, k16, k17⟩ o) : (State.grantEntry s t).1.Sound ⟨k0, k1, k2, k3, k4, k5, k6,
    false, k8, k9, k10, k11, k12, k13, k14, k15, k16, k17⟩ o := by
  unfold State.grantEntry; try dsimp only
  repeat' first
    | with_reducible assumption | with_reducible intro _ | with_reducible apply State.dirUpd_sound
    | with_reducible apply ite_sound | with_reducible apply ite_fst_sound | split

theorem State.grantEntry_sound' {o : State} {s : State} {t : Txn} {u_ : State} {res} (e : State.grantEntry s t = (u_,
    res)) (hS : s.Sound ⟨k0, k1, k2, k3, k4, k5, k6, false, k8, k9, k10, k11, k12, k13, k14, k15, k16, k17⟩ o) :
    u_.Sound ⟨k0, k1, k2, k3, k4, k5, k6, false, k8, k9, k10, k11, k12, k13, k14, k15, k16, k17⟩ o :=
  fst_sound e (State.grantEntry_sound hS)

theorem State.doneEntry_sound {o : State} {s : State} {t : Txn} (hS : s.Sound ⟨k0, k1, k2, k3, k4, k5, k6, false, k8,
    k9, k10, k11, k12, k13, k14, k15, k16, k17⟩ o) : (State.doneEntry s t).Sound ⟨k0, k1, k2, k3, k4, k5, k6, false,
    k8, k9, k10, k11, k12, k13, k14, k15, k16, k17⟩ o := by
  unfold State.doneEntry; try dsimp only
  repeat' first
    | with_reducible assumption | with_reducible intro _ | with_reducible apply State.dirFree_sound
    | with_reducible apply State.dirUpd_sound | with_reducible apply ite_sound | with_reducible apply ite_fst_sound
    | split

theorem State.failTxn_sound {o : State} {s : State} {t : Txn} (hS : s.Sound ⟨false, k1, k2, k3, k4, k5, k6, false,
    false, k9, k10, k11, k12, k13, k14, k15, false, k17⟩ o) : (State.failTxn s t).Sound ⟨false, k1, k2, k3, k4, k5,
    k6, false, false, k9, k10, k11, k12, k13, k14, k15, false, k17⟩ o := by
  unfold State.failTxn; try dsimp only
  with_reducible repeat' first
    | assumption | intro _ | apply State.answer_sound | apply State.endTxn_sound | apply State.poisonLine_sound
    | apply ite_sound | apply ite_fst_sound

theorem State.runTxn_sound {o : State} {s : State} {t : Txn} (hS : s.Sound ⟨false, k1, k2, k3, k4, k5, k6, false,
    false, k9, k10, k11, k12, k13, k14, k15, false, k17⟩ o) : (State.runTxn s t).Sound ⟨false, k1, k2, k3, k4, k5, k6,
    false, false, k9, k10, k11, k12, k13, k14, k15, false, k17⟩ o := by
  unfold State.runTxn; try dsimp only
  repeat' first
    | with_reducible assumption | with_reducible intro _ | with_reducible apply State.failTxn_sound
    | with_reducible apply State.setTxn_sound | with_reducible apply State.queueMem_sound
    | with_reducible refine State.grantEntry_sound' (by assumption) ?_ | with_reducible apply State.grantEntry_sound
    | with_reducible apply State.incF_sound | with_reducible apply State.answer_sound
    | with_reducible apply State.doneEntry_sound | with_reducible apply State.farAtomic_sound
    | with_reducible apply State.endTxn_sound | with_reducible apply ite_sound | with_reducible apply ite_fst_sound
    | with_reducible apply when_sound | split

theorem State.proxyRecall_sound {o : State} {s : State} {h : Nat} {line : Nat} {v : DirEnt} {need : Option CMsg} (hS :
    s.Sound ⟨false, k1, k2, k3, false, k5, k6, false, k8, k9, k10, k11, k12, k13, k14, k15, false, k17⟩ o) :
    (State.proxyRecall s h line v need).Sound ⟨false, k1, k2, k3, false, k5, k6, false, k8, k9, k10, k11, k12, k13,
    k14, k15, false, k17⟩ o := by
  unfold State.proxyRecall; try dsimp only
  repeat' first
    | with_reducible assumption | with_reducible intro _ | with_reducible apply State.incF_sound
    | with_reducible apply State.dirUpd_sound | with_reducible refine State.newTxn_sound' (by assumption) ?_
    | with_reducible apply State.newTxn_sound | with_reducible apply State.sendSnoop_sound
    | with_reducible apply State.onHome_sound | with_reducible apply ite_sound | with_reducible apply ite_fst_sound
    | with_reducible apply each_sound | with_reducible apply each_fst_sound
    | with_reducible refine each_fst_sound' (by assumption) ?_ ?_ | split

theorem State.recallVictim_sound {o : State} {s : State} {h : Nat} {slot : Nat} {line : Nat} {v : DirEnt} {need :
    Option CMsg} (hS : s.Sound ⟨false, k1, k2, k3, false, k5, k6, false, false, k9, k10, k11, k12, k13, k14, k15,
    false, k17⟩ o) : (State.recallVictim s h slot line v need).Sound ⟨false, k1, k2, k3, false, k5, k6, false, false,
    k9, k10, k11, k12, k13, k14, k15, false, k17⟩ o := by
  unfold State.recallVictim; try dsimp only
  repeat' first
    | with_reducible assumption | with_reducible intro _ | with_reducible apply State.proxyRecall_sound
    | with_reducible apply State.incF_sound | with_reducible apply State.openTxn_sound
    | with_reducible apply State.runTxn_sound | with_reducible apply ite_sound | with_reducible apply ite_fst_sound
    | split

theorem State.takeReq_sound {o : State} {s : State} {h : Nat} {m : CMsg} (hS : s.Sound ⟨false, k1, k2, k3, false, k5,
    false, false, false, false, k10, false, k12, k13, k14, false, false, k17⟩ o) : (State.takeReq s h m).Sound ⟨false,
    k1, k2, k3, false, k5, false, false, false, false, k10, false, k12, k13, k14, false, false, k17⟩ o := by
  unfold State.takeReq; try dsimp only
  repeat' first
    | with_reducible assumption | with_reducible intro _ | with_reducible apply State.record_sound
    | with_reducible apply State.reply_sound | with_reducible apply State.onSec_sound
    | with_reducible apply State.incF_sound | with_reducible apply State.arbLost_sound
    | with_reducible apply State.holdReq_sound | with_reducible refine State.arbPass_sound (by assumption) ?_
    | with_reducible apply State.queueReq_sound | with_reducible apply State.dirLookup_sound
    | with_reducible apply State.arbWon_sound | with_reducible apply State.dirTouch_sound
    | with_reducible apply State.openTxn_sound | with_reducible apply State.runTxn_sound
    | with_reducible apply State.dirAlloc_sound | with_reducible apply State.recallVictim_sound
    | with_reducible apply ite_sound | with_reducible apply ite_fst_sound | with_reducible apply getD_sound | split

theorem State.proxyNote_sound {o : State} {s : State} {line : Nat} {d : Nat} {c : Coh} (hS : s.Sound ⟨false, k1, k2, k3, false, k5, k6, false, false, k9, k10, k11, k12, k13, k14, k15, false, k17⟩ o) : (State.proxyNote s line d
    c).Sound ⟨false, k1, k2, k3, false, k5, k6, false, false, k9, k10, k11, k12, k13, k14, k15, false, k17⟩ o :=
    by
  unfold State.proxyNote; try dsimp only
  repeat' first
    | with_reducible assumption | with_reducible intro _ | with_reducible apply State.dirAlloc_sound
    | with_reducible apply State.onHome_sound | with_reducible apply State.dirUpd_sound
    | with_reducible apply State.recallNow_sound | with_reducible apply State.recallVictim_sound
    | with_reducible apply ite_sound | with_reducible apply ite_fst_sound | split

theorem State.proxyAgain_sound {o : State} {s : State} {h : Nat} (hS : s.Sound ⟨false, k1, k2, k3, false, k5, k6,
    false, false, k9, k10, k11, k12, k13, k14, k15, false, k17⟩ o) : (State.proxyAgain s h).Sound ⟨false, k1, k2, k3,
    false, k5, k6, false, false, k9, k10, k11, k12, k13, k14, k15, false, k17⟩ o := by
  unfold State.proxyAgain; try dsimp only
  repeat' first
    | with_reducible assumption | with_reducible intro _ | with_reducible apply State.onHome_sound
    | with_reducible apply State.proxyNote_sound | with_reducible apply ite_sound | with_reducible apply ite_fst_sound
    | with_reducible apply each_sound | with_reducible apply each_fst_sound
    | with_reducible refine each_fst_sound' (by assumption) ?_ ?_ | split

theorem State.takeQueued_sound {o : State} {s : State} {h : Nat} (hS : s.Sound ⟨false, k1, k2, k3, false, k5, false,
    false, false, false, k10, false, k12, k13, k14, false, false, k17⟩ o) : (State.takeQueued s h).Sound ⟨false, k1,
    k2, k3, false, k5, false, false, false, false, k10, false, k12, k13, k14, false, false, k17⟩ o := by
  unfold State.takeQueued; try dsimp only
  repeat' first
    | with_reducible assumption | with_reducible intro _ | with_reducible apply State.onHome_sound
    | with_reducible apply State.takeReq_sound | with_reducible apply State.proxyAgain_sound
    | with_reducible apply State.runTxn_sound | with_reducible apply ite_sound | with_reducible apply ite_fst_sound
    | with_reducible apply each_sound | with_reducible apply each_fst_sound
    | with_reducible refine each_fst_sound' (by assumption) ?_ ?_ | split

theorem State.advance_sound {o : State} {s : State} {t : Txn} (hS : s.Sound ⟨false, k1, k2, k3, false, k5, false,
    false, false, false, k10, false, k12, k13, k14, false, false, k17⟩ o) : (State.advance s t).Sound ⟨false, k1, k2,
    k3, false, k5, false, false, false, false, k10, false, k12, k13, k14, false, false, k17⟩ o := by
  unfold State.advance; try dsimp only
  with_reducible repeat' first
    | assumption | intro _ | apply State.runTxn_sound | apply State.takeQueued_sound | apply ite_sound
    | apply ite_fst_sound

theorem State.unbacked_sound {o : State} {s : State} {h : Nat} {m : CMsg} (hS : s.Sound ⟨k0, k1, k2, k3, k4, k5, k6,
    k7, k8, k9, k10, k11, k12, k13, k14, false, false, k17⟩ o) : (State.unbacked s h m).Sound ⟨k0, k1, k2, k3, k4, k5,
    k6, k7, k8, k9, k10, k11, k12, k13, k14, false, false, k17⟩ o := by
  unfold State.unbacked; try dsimp only
  with_reducible repeat' first
    | assumption | intro _ | apply State.record_sound | apply State.reply_sound | apply ite_sound
    | apply ite_fst_sound

theorem State.homeReq_sound {o : State} {s : State} {h : Nat} {m : CMsg} (hS : s.Sound ⟨false, k1, k2, k3, false, k5,
    false, false, false, false, k10, false, k12, k13, k14, false, false, k17⟩ o) : (State.homeReq s h m).Sound ⟨false,
    k1, k2, k3, false, k5, false, false, false, false, k10, false, k12, k13, k14, false, false, k17⟩ o := by
  unfold State.homeReq; try dsimp only
  repeat' first
    | with_reducible assumption | with_reducible intro _ | with_reducible apply State.take_sound
    | with_reducible apply State.send_sound | with_reducible apply State.unbacked_sound
    | with_reducible refine State.arbPass_sound (by assumption) ?_ | with_reducible apply State.takeReq_sound
    | with_reducible apply State.takeQueued_sound | with_reducible apply ite_sound
    | with_reducible apply ite_fst_sound | split

theorem State.homeOwn_sound {o : State} {s : State} {h : Nat} {op : COp} {line : Nat} {data : Line} (hS : s.Sound
    ⟨false, k1, k2, k3, false, k5, false, false, false, false, k10, false, k12, k13, k14, false, false, k17⟩ o) :
    (State.homeOwn s h op line data).Sound ⟨false, k1, k2, k3, false, k5, false, false, false, false, k10, false, k12,
    k13, k14, false, false, k17⟩ o := by
  unfold State.homeOwn; try dsimp only
  with_reducible repeat' first
    | assumption | intro _ | apply State.takeReq_sound | apply ite_sound | apply ite_fst_sound

theorem State.snoopAnswer_sound {o : State} {s : State} {h : Nat} {m : CMsg} (hS : s.Sound ⟨false, k1, k2, k3, false,
    k5, false, false, false, false, k10, false, k12, k13, k14, false, false, k17⟩ o) : (State.snoopAnswer s h m).Sound
    ⟨false, k1, k2, k3, false, k5, false, false, false, false, k10, false, k12, k13, k14, false, false, k17⟩ o := by
  unfold State.snoopAnswer; try dsimp only
  repeat' first
    | with_reducible assumption | with_reducible intro _ | with_reducible apply State.queueWrite_sound
    | with_reducible apply State.setTxn_sound | with_reducible apply State.sendSnoop_sound
    | with_reducible apply State.advance_sound | with_reducible apply ite_sound | with_reducible apply ite_fst_sound
    | split

theorem State.compAckAt_sound {o : State} {s : State} {h : Nat} {m : CMsg} (hS : s.Sound ⟨false, k1, k2, k3, false,
    k5, false, false, false, false, k10, false, k12, k13, k14, false, false, k17⟩ o) : (State.compAckAt s h m).Sound
    ⟨false, k1, k2, k3, false, k5, false, false, false, false, k10, false, k12, k13, k14, false, false, k17⟩ o := by
  unfold State.compAckAt; try dsimp only
  repeat' first
    | with_reducible assumption | with_reducible intro _ | with_reducible apply State.endTxn_sound
    | with_reducible apply State.takeQueued_sound | with_reducible apply ite_sound
    | with_reducible apply ite_fst_sound | split

theorem State.memBack_sound {o : State} {s : State} {h : Nat} {slot : Nat} {wr : Bool} {res : Option Line} (hS :
    s.Sound ⟨false, k1, k2, k3, false, k5, false, false, false, false, k10, false, k12, k13, k14, false, false, k17⟩
    o) : (State.memBack s h slot wr res).Sound ⟨false, k1, k2, k3, false, k5, false, false, false, false, k10, false,
    k12, k13, k14, false, false, k17⟩ o := by
  unfold State.memBack; try dsimp only
  repeat' first
    | with_reducible assumption | with_reducible intro _ | with_reducible apply State.setTxn_sound
    | with_reducible apply State.advance_sound | with_reducible apply ite_sound | with_reducible apply ite_fst_sound
    | split

theorem State.proxyDone_sound {o : State} {s : State} {p : ProxySnp} (hS : s.Sound ⟨k0, k1, k2, k3, k4, k5, k6, false,
    k8, k9, k10, k11, k12, k13, k14, k15, false, k17⟩ o) : (State.proxyDone s p).Sound ⟨k0, k1, k2, k3, k4, k5, k6,
    false, k8, k9, k10, k11, k12, k13, k14, k15, false, k17⟩ o := by
  unfold State.proxyDone; try dsimp only
  repeat' first
    | with_reducible assumption | with_reducible intro _ | with_reducible apply State.onHome_sound
    | with_reducible apply State.dirUpd_sound | with_reducible apply State.send_sound | with_reducible apply ite_sound
    | with_reducible apply ite_fst_sound | split

theorem State.proxyAsk_sound {o : State} {s : State} {h : Nat} {m : CMsg} (hS : s.Sound ⟨false, k1, k2, k3, false, k5,
    k6, false, false, false, k10, k11, k12, k13, k14, false, false, k17⟩ o) : (State.proxyAsk s h m).Sound ⟨false, k1,
    k2, k3, false, k5, k6, false, false, false, k10, k11, k12, k13, k14, false, false, k17⟩ o := by
  unfold State.proxyAsk; try dsimp only
  repeat' first
    | with_reducible assumption | with_reducible intro _ | with_reducible apply State.dirLookup_sound
    | with_reducible refine State.newTxn_sound' (by assumption) ?_ | with_reducible apply State.newTxn_sound
    | with_reducible apply State.onHome_sound | with_reducible apply State.proxyDone_sound
    | with_reducible apply State.sendSnoop_sound | with_reducible apply ite_sound | with_reducible apply ite_fst_sound
    | with_reducible apply each_sound | with_reducible apply each_fst_sound
    | with_reducible refine each_fst_sound' (by assumption) ?_ ?_ | split

theorem State.proxyFromWb_sound {o : State} {s : State} {h : Nat} {m : CMsg} {x : Line} (hS : s.Sound ⟨k0, k1, k2, k3,
    k4, k5, k6, false, k8, k9, k10, k11, k12, k13, k14, k15, false, k17⟩ o) : (State.proxyFromWb s h m x).Sound ⟨k0,
    k1, k2, k3, k4, k5, k6, false, k8, k9, k10, k11, k12, k13, k14, k15, false, k17⟩ o := by
  unfold State.proxyFromWb; try dsimp only
  repeat' first
    | with_reducible assumption | with_reducible intro _ | with_reducible apply State.onHome_sound
    | with_reducible apply State.send_sound | with_reducible apply ite_sound | with_reducible apply ite_fst_sound
    | split

theorem State.proxySnoop_sound {o : State} {s : State} {h : Nat} {m : CMsg} (hS : s.Sound ⟨false, k1, k2, k3, false,
    k5, k6, false, false, false, k10, k11, k12, k13, k14, false, false, k17⟩ o) : (State.proxySnoop s h m).Sound
    ⟨false, k1, k2, k3, false, k5, k6, false, false, false, k10, k11, k12, k13, k14, false, false, k17⟩ o := by
  unfold State.proxySnoop; try dsimp only
  repeat' first
    | with_reducible assumption | with_reducible intro _ | with_reducible apply State.onHome_sound
    | with_reducible apply State.proxyFromWb_sound | with_reducible apply State.proxyAsk_sound
    | with_reducible apply ite_sound | with_reducible apply ite_fst_sound | split

theorem State.proxyRecalled_sound {o : State} {s : State} {p : ProxySnp} (hS : s.Sound ⟨false, k1, k2, k3, false, k5,
    false, false, false, false, k10, false, k12, k13, k14, false, false, k17⟩ o) : (State.proxyRecalled s p).Sound
    ⟨false, k1, k2, k3, false, k5, false, false, false, false, k10, false, k12, k13, k14, false, false, k17⟩ o := by
  unfold State.proxyRecalled; try dsimp only
  repeat' first
    | with_reducible assumption | with_reducible intro _ | with_reducible apply State.onHome_sound
    | with_reducible apply State.dirUpd_sound | with_reducible apply State.send_sound
    | with_reducible apply State.proxySnoop_sound | with_reducible apply State.takeQueued_sound
    | with_reducible apply ite_sound | with_reducible apply ite_fst_sound | with_reducible apply each_sound
    | with_reducible apply each_fst_sound | with_reducible refine each_fst_sound' (by assumption) ?_ ?_ | split

theorem State.proxyEnd_sound {o : State} {s : State} {p : ProxySnp} (hS : s.Sound ⟨false, k1, k2, k3, false, k5,
    false, false, false, false, k10, false, k12, k13, k14, false, false, k17⟩ o) : (State.proxyEnd s p).Sound ⟨false,
    k1, k2, k3, false, k5, false, false, false, false, k10, false, k12, k13, k14, false, false, k17⟩ o := by
  unfold State.proxyEnd; try dsimp only
  with_reducible repeat' first
    | assumption | intro _ | apply State.proxyRecalled_sound | apply State.proxyDone_sound | apply ite_sound
    | apply ite_fst_sound

theorem State.proxyWbDone_sound {o : State} {s : State} {h : Nat} {line : Nat} (hS : s.Sound ⟨k0, k1, k2, k3, k4, k5,
    k6, false, k8, k9, k10, k11, k12, k13, k14, k15, k16, k17⟩ o) : (State.proxyWbDone s h line).Sound ⟨k0, k1, k2,
    k3, k4, k5, k6, false, k8, k9, k10, k11, k12, k13, k14, k15, k16, k17⟩ o := by
  unfold State.proxyWbDone; try dsimp only
  repeat' first
    | with_reducible assumption | with_reducible intro _ | with_reducible apply State.onHome_sound
    | with_reducible apply ite_sound | with_reducible apply ite_fst_sound | split

theorem State.proxyAnswer_sound {o : State} {s : State} {h : Nat} {m : CMsg} (hS : s.Sound ⟨false, k1, k2, k3, false,
    k5, false, false, false, false, k10, false, k12, k13, k14, false, false, k17⟩ o) : (State.proxyAnswer s h m).Sound
    ⟨false, k1, k2, k3, false, k5, false, false, false, false, k10, false, k12, k13, k14, false, false, k17⟩ o := by
  unfold State.proxyAnswer; try dsimp only
  repeat' first
    | with_reducible assumption | with_reducible intro _ | with_reducible apply State.onHome_sound
    | with_reducible apply State.proxyEnd_sound | with_reducible apply ite_sound | with_reducible apply ite_fst_sound
    | split

theorem State.rspAt_sound {o : State} {s : State} {h : Nat} {m : CMsg} (hS : s.Sound ⟨false, k1, k2, k3, false, k5,
    false, false, false, false, k10, false, k12, k13, k14, false, false, k17⟩ o) : (State.rspAt s h m).Sound ⟨false,
    k1, k2, k3, false, k5, false, false, false, false, k10, false, k12, k13, k14, false, false, k17⟩ o := by
  unfold State.rspAt; try dsimp only
  with_reducible repeat' first
    | assumption | intro _ | apply State.take_sound | apply State.snoopAnswer_sound | apply State.proxyAnswer_sound
    | apply ite_sound | apply ite_fst_sound

theorem State.proxyWb_sound {o : State} {s : State} {h : Nat} {m : CMsg} (hS : s.Sound ⟨k0, k1, k2, k3, k4, k5, k6,
    false, k8, k9, k10, k11, k12, k13, k14, k15, false, k17⟩ o) : (State.proxyWb s h m).Sound ⟨k0, k1, k2, k3, k4, k5,
    k6, false, k8, k9, k10, k11, k12, k13, k14, k15, false, k17⟩ o := by
  unfold State.proxyWb; try dsimp only
  repeat' first
    | with_reducible assumption | with_reducible intro _ | with_reducible apply State.send_sound
    | with_reducible apply State.dirUpd_sound | with_reducible apply State.reply_sound
    | with_reducible apply ite_sound | with_reducible apply ite_fst_sound | split

theorem State.proxyDrop_sound {o : State} {s : State} {d : Nat} {line : Nat} (hS : s.Sound ⟨k0, k1, k2, k3, k4, k5,
    k6, false, k8, k9, k10, k11, k12, k13, k14, k15, k16, k17⟩ o) : (State.proxyDrop s d line).Sound ⟨k0, k1, k2, k3,
    k4, k5, k6, false, k8, k9, k10, k11, k12, k13, k14, k15, k16, k17⟩ o := by
  unfold State.proxyDrop; try dsimp only
  repeat' first
    | with_reducible assumption | with_reducible intro _ | with_reducible apply State.dirUpd_sound
    | with_reducible apply ite_sound | with_reducible apply ite_fst_sound | split

theorem State.wbAt_sound {o : State} {s : State} {h : Nat} {m : CMsg} (hS : s.Sound ⟨false, k1, k2, k3, k4, k5, k6,
    false, false, k9, k10, k11, k12, k13, k14, k15, false, k17⟩ o) : (State.wbAt s h m).Sound ⟨false, k1, k2, k3, k4,
    k5, k6, false, false, k9, k10, k11, k12, k13, k14, k15, false, k17⟩ o := by
  unfold State.wbAt; try dsimp only
  repeat' first
    | with_reducible assumption | with_reducible intro _ | with_reducible apply State.take_sound
    | with_reducible apply State.proxyWb_sound | with_reducible apply State.send_sound
    | with_reducible apply State.onHome_sound | with_reducible apply State.judgeWb_sound
    | with_reducible apply ite_sound | with_reducible apply ite_fst_sound | split

theorem State.fenceTxns_sound {o : State} {s : State} {h : Nat} (hS : s.Sound ⟨false, k1, k2, k3, false, k5, false,
    false, false, false, k10, false, k12, k13, k14, false, false, k17⟩ o) : (State.fenceTxns s h).Sound ⟨false, k1,
    k2, k3, false, k5, false, false, false, false, k10, false, k12, k13, k14, false, false, k17⟩ o := by
  unfold State.fenceTxns; try dsimp only
  repeat' first
    | with_reducible assumption | with_reducible intro _ | with_reducible apply State.setTxn_sound
    | with_reducible apply State.endTxn_sound | with_reducible apply State.poisonLine_sound
    | with_reducible apply State.advance_sound | with_reducible apply State.proxyLost_sound
    | with_reducible apply State.onHome_sound | with_reducible apply State.proxyEnd_sound
    | with_reducible apply State.takeQueued_sound | with_reducible apply ite_sound
    | with_reducible apply ite_fst_sound | with_reducible apply each_sound | with_reducible apply each_fst_sound
    | with_reducible refine each_fst_sound' (by assumption) ?_ ?_ | split

end Sys2Proof.Machine
end

