-- ==== Sys2Proof/Laws/KeepTlbiOps.lean ====
section
/-! SUPPORT. The operations of Machine/TlbiOps.lean keep State.Sound. -/

namespace Sys2Proof.Machine

variable {k0 k1 k2 k3 k4 k5 k6 k7 k8 k9 k10 k11 k12 k13 k14 k15 k16 k17 : Bool}

theorem State.tlbiCount_sound {o : State} {s : State} {c : Nat} (hS : s.Sound ⟨false, k1, k2, k3, k4, k5, k6, k7, k8,
    k9, k10, k11, k12, k13, k14, k15, k16, k17⟩ o) : (State.tlbiCount s c).Sound ⟨false, k1, k2, k3, k4, k5, k6, k7,
    k8, k9, k10, k11, k12, k13, k14, k15, k16, k17⟩ o := by
  unfold State.tlbiCount; try dsimp only
  repeat' first
    | with_reducible assumption | with_reducible intro _ | with_reducible apply State.setF_sound
    | with_reducible apply ite_sound | with_reducible apply ite_fst_sound | with_reducible apply each_sound
    | with_reducible apply each_fst_sound | with_reducible refine each_fst_sound' (by assumption) ?_ ?_ | split

theorem State.tlbiDeliver_sound {o : State} {s : State} {k : ℕ} {op : ℕ} {va : ℕ} {asid : ℕ} {p : ℕ} {srcPkg : ℕ} {src
    : ℕ} (hS : s.Sound ⟨k0, k1, k2, false, k4, k5, k6, k7, k8, k9, k10, k11, k12, k13, k14, k15, false, k17⟩ o) :
   (State.tlbiDeliver s k op va asid p srcPkg src).Sound ⟨k0, k1, k2, false, k4, k5, k6, k7, k8, k9, k10, k11, k12,
    k13, k14, k15, false, k17⟩ o := by
  unfold State.tlbiDeliver; try dsimp only
  with_reducible repeat' first
    | assumption | intro _ | apply State.twinInput_sound | apply State.send_sound | apply ite_sound

theorem State.tlbiSend_sound {o : State} {s : State} {c : Nat} {op : Nat} {va : Nat} {asid : Nat} {loc : Bool} (hS :
    s.Sound ⟨false, k1, k2, false, false, false, k6, k7, k8, k9, k10, k11, k12, k13, k14, false, false, k17⟩ o) :
    (State.tlbiSend s c op va asid loc).Sound ⟨false, k1, k2, false, false, false, k6, k7, k8, k9, k10, k11, k12, k13,
    k14, false, false, k17⟩ o := by
  unfold State.tlbiSend; try dsimp only
  repeat' first
    | with_reducible assumption | with_reducible intro _ | with_reducible apply State.tlbiLocal_sound
    | with_reducible apply State.tlbiDeliver_sound | with_reducible apply State.send_sound
    | with_reducible apply State.onXlat_sound | with_reducible apply State.tlbiCount_sound
    | with_reducible apply ite_sound | with_reducible apply ite_fst_sound | with_reducible apply each_sound
    | with_reducible apply each_fst_sound | with_reducible refine each_fst_sound' (by assumption) ?_ ?_ | split

theorem State.tlbiIssue_sound {o : State} {s : State} {c : Nat} {op : Nat} {va : Nat} {asid : Nat} {loc : Bool} (hS :
    s.Sound ⟨false, k1, k2, false, false, false, k6, k7, k8, k9, k10, k11, k12, k13, k14, false, false, k17⟩ o) :
    (State.tlbiIssue s c op va asid loc).Sound ⟨false, k1, k2, false, false, false, k6, k7, k8, k9, k10, k11, k12,
    k13, k14, false, false, k17⟩ o := by
  unfold State.tlbiIssue; try dsimp only
  repeat' first
    | with_reducible assumption | with_reducible intro _ | with_reducible apply State.updCoreH_sound
    | with_reducible apply State.coreReply_sound | with_reducible apply State.tlbiSend_sound
    | with_reducible apply ite_sound | with_reducible apply ite_fst_sound | split

theorem State.tlbiRelease_sound {o : State} {s : State} {c : Nat} (hS : s.Sound ⟨false, k1, k2, false, false, false,
    k6, k7, k8, k9, k10, k11, k12, k13, k14, false, false, k17⟩ o) : (State.tlbiRelease s c).Sound ⟨false, k1, k2,
    false, false, false, k6, k7, k8, k9, k10, k11, k12, k13, k14, false, false, k17⟩ o := by
  unfold State.tlbiRelease; try dsimp only
  repeat' first
    | with_reducible assumption | with_reducible intro _ | with_reducible apply State.updCoreH_sound
    | with_reducible apply State.tlbiSend_sound | with_reducible apply State.coreReply_sound
    | with_reducible apply ite_sound | with_reducible apply ite_fst_sound | split

theorem State.tlbiSettle_sound {o : State} {s : State} (hS : s.Sound ⟨false, k1, k2, false, false, false, k6, k7, k8,
    k9, k10, k11, k12, k13, k14, false, false, k17⟩ o) : (State.tlbiSettle s).Sound ⟨false, k1, k2, false, false,
    false, k6, k7, k8, k9, k10, k11, k12, k13, k14, false, false, k17⟩ o := by
  unfold State.tlbiSettle; try dsimp only
  repeat' first
    | with_reducible assumption | with_reducible intro _ | with_reducible apply State.onXlat_sound
    | with_reducible apply State.tlbiCount_sound | with_reducible apply State.tlbiRelease_sound
    | with_reducible apply ite_sound | with_reducible apply ite_fst_sound | with_reducible apply each_sound
    | with_reducible apply each_fst_sound | with_reducible refine each_fst_sound' (by assumption) ?_ ?_ | split

theorem State.tlbiAck_sound {o : State} {s : State} {src : ℕ} {op : ℕ} {va : ℕ} {asid : ℕ} {pkg : ℕ} {c : ℕ} (hS :
    s.Sound ⟨false, k1, k2, false, false, false, k6, k7, k8, k9, k10, k11, k12, k13, k14, false, false, k17⟩ o) :
   (State.tlbiAck s src op va asid pkg c).Sound ⟨false, k1, k2, false, false, false, k6, k7, k8, k9, k10, k11, k12,
    k13, k14, false, false, k17⟩ o := by
  unfold State.tlbiAck; try dsimp only
  with_reducible repeat' first | assumption | intro _ | apply State.tlbiSettle_sound | apply State.onXlat_sound

theorem State.tlbiDrop_sound {o : State} {s : State} {gone : ℕ × ℕ → Bool} (hS : s.Sound ⟨false, k1, k2, false,
    false, false, k6, k7, k8, k9, k10, k11, k12, k13, k14, false, false, k17⟩ o) : (State.tlbiDrop s gone).Sound
    ⟨false, k1, k2, false, false, false, k6, k7, k8, k9, k10, k11, k12, k13, k14, false, false, k17⟩ o := by
  unfold State.tlbiDrop; try dsimp only
  with_reducible repeat' first | assumption | intro _ | apply State.tlbiSettle_sound | apply State.onXlat_sound

theorem State.tlbiDo_sound {o : State} {s : State} {c : ℕ} {op : ℕ} {va : ℕ} {asid : ℕ} {p : ℕ} {srcPkg : ℕ} {src : ℕ}
    (hS : s.Sound ⟨false, k1, k2, false, false, false, k6, k7, k8, k9, k10, k11, k12, k13, k14, false, false, k17⟩ o)
    : (State.tlbiDo s c op va asid p srcPkg src).Sound ⟨false, k1, k2, false, false, false, k6, k7, k8, k9, k10, k11,
    k12, k13, k14, false, false, k17⟩ o := by
  unfold State.tlbiDo; try dsimp only
  with_reducible repeat' first
    | assumption | intro _ | apply State.tlbiLocal_sound | apply State.tlbiAck_sound | apply State.send_sound
    | apply ite_sound

theorem State.accsSettle_sound {o : State} {s : State} {d : Nat} (hS : s.Sound ⟨false, k1, k2, false, false, false,
    k6, k7, k8, k9, k10, k11, k12, k13, k14, false, false, k17⟩ o) : (State.accsSettle s d).Sound ⟨false, k1, k2,
    false, false, false, k6, k7, k8, k9, k10, k11, k12, k13, k14, false, false, k17⟩ o := by
  unfold State.accsSettle; try dsimp only
  with_reducible repeat' first
    | assumption | intro _ | apply State.cmoResume_sound | apply State.tlbiSettle_sound | apply ite_sound
    | apply ite_fst_sound

end Sys2Proof.Machine
end

