-- ==== Sys2Proof/Laws/KeepPcieOps.lean ====
section
/-! SUPPORT. The operations of Machine/PcieOps.lean keep State.Sound. -/

namespace Sys2Proof.Machine

variable {k0 k1 k2 k3 k4 k5 k6 k7 k8 k9 k10 k11 k12 k13 k14 k15 k16 k17 : Bool}

theorem State.updSeg_sound {o : State} {s : State} {k : ℕ} {f : SegH → SegH} (hS : s.Sound ⟨k0, k1, k2, k3, k4, k5,
    k6, k7, k8, k9, k10, k11, k12, false, k14, k15, k16, k17⟩ o) : (State.updSeg s k f).Sound ⟨k0, k1, k2, k3, k4, k5,
    k6, k7, k8, k9, k10, k11, k12, false, k14, k15, k16, k17⟩ o := by
  unfold State.updSeg; try dsimp only
  with_reducible repeat' first | assumption | intro _ | apply State.onPcie_sound

theorem State.updFn_sound {o : State} {s : State} {port : ℕ} {f : ℕ} {g : FnH → FnH} (hS : s.Sound ⟨k0, k1, k2, k3,
    k4, k5, k6, k7, k8, k9, k10, k11, k12, false, k14, k15, k16, k17⟩ o) : (State.updFn s port f g).Sound ⟨k0, k1, k2,
    k3, k4, k5, k6, k7, k8, k9, k10, k11, k12, false, k14, k15, k16, k17⟩ o := by
  unfold State.updFn; try dsimp only
  with_reducible repeat' first | assumption | intro _ | apply State.onPcie_sound

theorem State.hpEvent_sound {o : State} {s : State} {k : Nat} {fl : Fld} (hS : s.Sound ⟨false, k1, k2, k3, k4, k5, k6,
    k7, k8, k9, k10, k11, k12, k13, k14, false, false, k17⟩ o) : (State.hpEvent s k fl).Sound ⟨false, k1, k2, k3, k4,
    k5, k6, k7, k8, k9, k10, k11, k12, k13, k14, false, false, k17⟩ o := by
  unfold State.hpEvent; try dsimp only
  with_reducible repeat' first
    | assumption | intro _ | apply State.setF_sound | apply State.record_sound | apply State.raiseOwn_sound
    | apply ite_sound | apply ite_fst_sound

theorem State.issueReq_sound {o : State} {s : State} {k : Nat} {r : PcieReq} (hS : s.Sound ⟨k0, k1, k2, k3, k4, k5,
    k6, k7, k8, k9, k10, k11, k12, false, k14, k15, false, k17⟩ o) : (State.issueReq s k r).Sound ⟨k0, k1, k2, k3, k4,
    k5, k6, k7, k8, k9, k10, k11, k12, false, k14, k15, false, k17⟩ o := by
  unfold State.issueReq; try dsimp only
  repeat' first
    | with_reducible assumption | with_reducible intro _ | with_reducible apply State.send_sound
    | with_reducible apply State.updSeg_sound | with_reducible apply ite_sound | with_reducible apply ite_fst_sound
    | split

theorem State.kickReqs_sound {o : State} {s : State} {k : Nat} (hS : s.Sound ⟨k0, k1, k2, k3, k4, k5, k6, k7, k8, k9,
    k10, k11, k12, false, k14, k15, false, k17⟩ o) : (State.kickReqs s k).Sound ⟨k0, k1, k2, k3, k4, k5, k6, k7, k8,
    k9, k10, k11, k12, false, k14, k15, false, k17⟩ o := by
  unfold State.kickReqs; try dsimp only
  repeat' first
    | with_reducible assumption | with_reducible intro _ | with_reducible apply State.issueReq_sound
    | with_reducible apply State.updSeg_sound | with_reducible apply ite_sound | with_reducible apply ite_fst_sound
    | with_reducible apply each_sound | with_reducible apply each_fst_sound
    | with_reducible refine each_fst_sound' (by assumption) ?_ ?_ | split

theorem State.postWrite_sound {o : State} {s : State} {k : Nat} {addr : Nat} {bytes : List Byte} (hS : s.Sound ⟨k0,
    k1, k2, k3, k4, k5, k6, k7, k8, k9, k10, k11, k12, false, k14, false, false, k17⟩ o) : (State.postWrite s k addr
    bytes).Sound ⟨k0, k1, k2, k3, k4, k5, k6, k7, k8, k9, k10, k11, k12, false, k14, false, false, k17⟩ o := by
  unfold State.postWrite; try dsimp only
  with_reducible repeat' first
    | assumption | intro _ | apply State.record_sound | apply State.issueReq_sound | apply ite_sound
    | apply ite_fst_sound

theorem State.winFail_sound {o : State} {s : State} {r : WinReq} (hS : s.Sound ⟨k0, k1, k2, k3, k4, k5, k6, k7, k8,
    k9, k10, k11, k12, k13, k14, false, false, k17⟩ o) : (State.winFail s r).Sound ⟨k0, k1, k2, k3, k4, k5, k6, k7,
    k8, k9, k10, k11, k12, k13, k14, false, false, k17⟩ o := by
  unfold State.winFail; try dsimp only
  repeat' first
    | with_reducible assumption | with_reducible intro _ | with_reducible apply State.failAcc_sound
    | with_reducible apply State.reply_sound | with_reducible apply ite_sound | split

theorem State.winDone_sound {o : State} {s : State} {r : WinReq} (hS : s.Sound ⟨k0, k1, k2, k3, k4, k5, k6, k7, k8,
    k9, k10, k11, k12, k13, k14, false, false, k17⟩ o) : (State.winDone s r).Sound ⟨k0, k1, k2, k3, k4, k5, k6, k7,
    k8, k9, k10, k11, k12, k13, k14, false, false, k17⟩ o := by
  unfold State.winDone; try dsimp only
  repeat' first
    | with_reducible assumption | with_reducible intro _ | with_reducible apply State.deliver_sound
    | with_reducible apply State.reply_sound | with_reducible apply ite_sound | split

theorem State.winAccess_sound {o : State} {s : State} {w : WindowRec} {r : WinReq} {part : Nat} {pa : Nat} {size :
    Nat} {wr : Option Line} (hS : s.Sound ⟨k0, k1, k2, k3, k4, k5, k6, k7, k8, k9, k10, k11, k12, false, k14, false,
    false, k17⟩ o) : (State.winAccess s w r part pa size wr).Sound ⟨k0, k1, k2, k3, k4, k5, k6, k7, k8, k9, k10, k11,
    k12, false, k14, false, false, k17⟩ o := by
  unfold State.winAccess; try dsimp only
  repeat' first
    | with_reducible assumption | with_reducible intro _ | with_reducible apply State.record_sound
    | with_reducible apply State.winFail_sound | with_reducible apply State.winDone_sound
    | with_reducible apply State.postWrite_sound | with_reducible apply State.issueReq_sound
    | with_reducible apply ite_sound | with_reducible apply ite_fst_sound | split

theorem State.farSend_sound {o : State} {s : State} {a : Acc} {dst : Unt} (hS : s.Sound ⟨false, k1, k2, k3, false, k5,
    k6, k7, k8, k9, k10, k11, k12, k13, k14, k15, false, k17⟩ o) : (State.farSend s a dst).Sound ⟨false, k1, k2, k3,
    false, k5, k6, k7, k8, k9, k10, k11, k12, k13, k14, k15, false, k17⟩ o := by
  unfold State.farSend; try dsimp only
  repeat' first
    | with_reducible assumption | with_reducible intro _ | with_reducible apply State.onCache_sound
    | with_reducible apply State.countTo_sound | with_reducible refine State.newTxn_sound' (by assumption) ?_
    | with_reducible apply State.newTxn_sound | with_reducible apply State.send_sound | with_reducible apply ite_sound
    | with_reducible apply ite_fst_sound | split

theorem State.winCore_sound {o : State} {s : State} {a : Acc} (hS : s.Sound ⟨false, k1, k2, k3, false, k5, k6, k7, k8,
    k9, k10, k11, k12, false, k14, false, false, k17⟩ o) : (State.winCore s a).Sound ⟨false, k1, k2, k3, false, k5,
    k6, k7, k8, k9, k10, k11, k12, false, k14, false, false, k17⟩ o := by
  unfold State.winCore; try dsimp only
  repeat' first
    | with_reducible assumption | with_reducible intro _ | with_reducible apply State.record_sound
    | with_reducible apply State.failAcc_sound | with_reducible apply State.toCore_sound
    | with_reducible apply State.countAcc_sound | with_reducible apply State.countTo_sound
    | with_reducible apply State.winAccess_sound | with_reducible apply State.farSend_sound
    | with_reducible apply ite_sound | with_reducible apply ite_fst_sound | with_reducible apply each_sound
    | with_reducible apply each_fst_sound | with_reducible refine each_fst_sound' (by assumption) ?_ ?_ | split

theorem State.winFar_sound {o : State} {s : State} {h : ℕ} {m : CMsg} (hS : s.Sound ⟨k0, k1, k2, k3, k4, k5, k6, k7,
    k8, k9, k10, k11, k12, false, k14, false, false, k17⟩ o) : (State.winFar s h m).Sound ⟨k0, k1, k2, k3, k4, k5, k6,
    k7, k8, k9, k10, k11, k12, false, k14, false, false, k17⟩ o := by
  unfold State.winFar; try dsimp only
  repeat' first
    | with_reducible assumption | with_reducible intro _ | with_reducible apply State.reply_sound
    | with_reducible apply State.record_sound | with_reducible apply State.winAccess_sound
    | with_reducible apply ite_sound | split

theorem State.cpl_sound {o : State} {s : State} {k : ℕ} {kind : ℕ} {tag : ℕ} {addr : ℕ} {bytes : List Byte} (hS :
    s.Sound ⟨k0, k1, k2, k3, k4, k5, k6, k7, k8, k9, k10, k11, k12, k13, k14, k15, false, k17⟩ o) : (State.cpl s k
    kind tag addr bytes).Sound ⟨k0, k1, k2, k3, k4, k5, k6, k7, k8, k9, k10, k11, k12, k13, k14, k15, false, k17⟩ o :=
    by
  unfold State.cpl; try dsimp only
  with_reducible repeat' first | assumption | intro _ | apply State.send_sound

theorem State.dmaRefuse_sound {o s : State} {k : Nat} {l : List CMsg} (hS : s.Sound ⟨k0, k1, k2, k3, k4, k5, k6, k7, k8, k9, k10, k11, k12, k13, k14, k15, false, k17⟩ o) :
    (State.dmaRefuse k l s).1.Sound ⟨k0, k1, k2, k3, k4, k5, k6, k7, k8, k9, k10, k11, k12, k13, k14, k15, false, k17⟩ o := by
  induction l generalizing s with
  | nil => exact hS
  | cons m r ih =>
    unfold State.dmaRefuse
    split
    · exact ih (State.cpl_sound hS)
    · exact hS

theorem State.dmaRefuse_sound' {o s t : State} {k : Nat} {l r : List CMsg}
    (e : State.dmaRefuse k l s = (t, r)) (hS : s.Sound ⟨k0, k1, k2, k3, k4, k5, k6, k7, k8, k9, k10, k11, k12, k13, k14, k15, false, k17⟩ o) : t.Sound ⟨k0, k1, k2, k3, k4, k5, k6, k7, k8, k9, k10, k11, k12, k13, k14, k15, false, k17⟩ o := fst_sound e (State.dmaRefuse_sound hS)

theorem State.dmaKick_sound {o : State} {s : State} {k : Nat} (hS : s.Sound ⟨k0, k1, k2, k3, false, k5, k6, k7, k8, k9, k10, k11, k12, false, k14, k15, false, k17⟩ o) : (State.dmaKick s k).Sound ⟨k0, k1, k2, k3, false, k5, k6, k7, k8, k9, k10, k11, k12, false, k14, k15, false, k17⟩ o := by
  unfold State.dmaKick; try dsimp only
  -- HAND
  repeat' first
    | with_reducible assumption | with_reducible intro _ | with_reducible apply State.updSeg_sound
    | with_reducible refine State.newTxn_sound' (by assumption) ?_ | with_reducible apply State.newTxn_sound
    | with_reducible apply State.send_sound | with_reducible apply ite_sound | with_reducible apply ite_fst_sound
    | with_reducible apply State.dmaRefuse_sound | split

theorem State.dmaPush_sound {o : State} {s : State} {k : ℕ} {ms : List CMsg} (hS : s.Sound ⟨k0, k1, k2, k3, false,
    k5, k6, k7, k8, k9, k10, k11, k12, false, k14, k15, false, k17⟩ o) : (State.dmaPush s k ms).Sound ⟨k0, k1, k2, k3,
    false, k5, k6, k7, k8, k9, k10, k11, k12, false, k14, k15, false, k17⟩ o := by
  unfold State.dmaPush; try dsimp only
  with_reducible repeat' first | assumption | intro _ | apply State.dmaKick_sound | apply State.updSeg_sound

theorem State.msiDone_sound {o : State} {s : State} {k : ℕ} (hS : s.Sound ⟨k0, k1, k2, k3, k4, k5, k6, k7, k8, k9,
    k10, k11, k12, false, k14, k15, false, k17⟩ o) : (State.msiDone s k).Sound ⟨k0, k1, k2, k3, k4, k5, k6, k7, k8,
    k9, k10, k11, k12, false, k14, k15, false, k17⟩ o := by
  unfold State.msiDone; try dsimp only
  with_reducible repeat' first
    | assumption | intro _ | apply State.updSeg_sound | apply State.raise_sound | apply ite_sound | apply each_sound

theorem State.fnEvent_sound {o : State} {s : State} {port : Nat} {f : Nat} {fl : Fld} (hS : s.Sound ⟨false, k1, k2,
    k3, k4, k5, k6, k7, k8, k9, k10, k11, k12, k13, k14, k15, false, k17⟩ o) : (State.fnEvent s port f fl).Sound
    ⟨false, k1, k2, k3, k4, k5, k6, k7, k8, k9, k10, k11, k12, k13, k14, k15, false, k17⟩ o := by
  unfold State.fnEvent; try dsimp only
  with_reducible repeat' first
    | assumption | intro _ | apply State.setF_sound | apply State.raiseOwn_sound | apply ite_sound
    | apply ite_fst_sound

theorem State.copyEnd_sound {o : State} {s : State} {port : ℕ} {f : ℕ} {code : ℕ} (hS : s.Sound ⟨false, k1, k2, k3,
    k4, k5, k6, k7, k8, k9, k10, k11, k12, false, k14, k15, false, k17⟩ o) : (State.copyEnd s port f code).Sound
    ⟨false, k1, k2, k3, k4, k5, k6, k7, k8, k9, k10, k11, k12, false, k14, k15, false, k17⟩ o := by
  unfold State.copyEnd; try dsimp only
  with_reducible repeat' first
    | assumption | intro _ | apply State.setF_sound | apply State.fnEvent_sound | apply State.updFn_sound
    | apply ite_sound

theorem State.copyFail_sound {o : State} {s : State} {port : Nat} {f : Nat} {pa : Nat} {e : ECode} (hS : s.Sound
    ⟨false, k1, k2, k3, k4, k5, k6, k7, k8, k9, k10, k11, k12, false, k14, false, false, k17⟩ o) : (State.copyFail s
    port f pa e).Sound ⟨false, k1, k2, k3, k4, k5, k6, k7, k8, k9, k10, k11, k12, false, k14, false, false, k17⟩ o :=
    by
  unfold State.copyFail; try dsimp only
  with_reducible repeat' first
    | assumption | intro _ | apply State.record_sound | apply State.copyEnd_sound | apply ite_sound
    | apply ite_fst_sound

theorem State.copyNext_sound {o : State} {s : State} {port : Nat} {f : Nat} (hS : s.Sound ⟨false, k1, k2, k3, false,
    k5, k6, k7, k8, k9, k10, k11, k12, false, k14, false, false, k17⟩ o) : (State.copyNext s port f).Sound ⟨false, k1,
    k2, k3, false, k5, k6, k7, k8, k9, k10, k11, k12, false, k14, false, false, k17⟩ o := by
  unfold State.copyNext; try dsimp only
  repeat' first
    | with_reducible assumption | with_reducible intro _ | with_reducible apply State.copyFail_sound
    | with_reducible apply State.dmaPush_sound | with_reducible apply State.issueReq_sound
    | with_reducible apply ite_sound | with_reducible apply ite_fst_sound | split

theorem State.dmaEnd_sound {o : State} {s : State} {k : Nat} {res : Option Line} {denied : Bool} (hS : s.Sound ⟨false,
    k1, k2, k3, false, k5, k6, k7, k8, k9, k10, k11, k12, false, k14, false, false, k17⟩ o) : (State.dmaEnd s k res
    denied).Sound ⟨false, k1, k2, k3, false, k5, k6, k7, k8, k9, k10, k11, k12, false, k14, false, false, k17⟩ o := by
  unfold State.dmaEnd; try dsimp only
  repeat' first
    | with_reducible assumption | with_reducible intro _ | with_reducible apply State.updSeg_sound
    | with_reducible apply State.msiDone_sound | with_reducible apply State.copyEnd_sound
    | with_reducible apply State.postWrite_sound | with_reducible apply State.updFn_sound
    | with_reducible apply State.copyNext_sound | with_reducible apply State.cpl_sound
    | with_reducible apply State.dmaKick_sound | with_reducible apply ite_sound | with_reducible apply ite_fst_sound
    | split

theorem State.cfgReply_sound {o : State} {s : State} {r : PcieReq} {v : Word} (hS : s.Sound ⟨k0, k1, k2, k3, k4, k5,
    k6, k7, k8, k9, k10, k11, k12, k13, k14, false, false, k17⟩ o) : (State.cfgReply s r v).Sound ⟨k0, k1, k2, k3, k4,
    k5, k6, k7, k8, k9, k10, k11, k12, k13, k14, false, false, k17⟩ o := by
  unfold State.cfgReply; try dsimp only
  repeat' first
    | with_reducible assumption | with_reducible intro _ | with_reducible apply State.toCore_sound
    | with_reducible apply State.send_sound | with_reducible apply ite_sound | with_reducible apply ite_fst_sound
    | with_reducible apply each_sound | with_reducible apply each_fst_sound
    | with_reducible refine each_fst_sound' (by assumption) ?_ ?_ | split

theorem State.reqEnd_sound {o : State} {s : State} {r : PcieReq} (hS : s.Sound ⟨false, k1, k2, false, false, false,
    k6, k7, k8, k9, k10, k11, k12, k13, k14, false, false, k17⟩ o) : (State.reqEnd s r).Sound ⟨false, k1, k2, false,
    false, false, k6, k7, k8, k9, k10, k11, k12, k13, k14, false, false, k17⟩ o := by
  unfold State.reqEnd; try dsimp only
  with_reducible repeat' first
    | assumption | intro _ | apply State.accsSettle_sound | apply ite_sound | apply ite_fst_sound

theorem State.reqTimedOut_sound {o : State} {s : State} {k : Nat} {r : PcieReq} (hS : s.Sound ⟨false, k1, k2, false,
    false, false, k6, k7, k8, k9, k10, k11, k12, false, k14, false, false, k17⟩ o) : (State.reqTimedOut s k r).Sound
    ⟨false, k1, k2, false, false, false, k6, k7, k8, k9, k10, k11, k12, false, k14, false, false, k17⟩ o := by
  unfold State.reqTimedOut; try dsimp only
  repeat' first
    | with_reducible assumption | with_reducible intro _ | with_reducible apply State.incF_sound
    | with_reducible apply State.record_sound | with_reducible apply State.failAcc_sound
    | with_reducible apply State.reqEnd_sound | with_reducible apply State.setF_sound
    | with_reducible apply State.cfgReply_sound | with_reducible apply State.copyEnd_sound
    | with_reducible apply State.send_sound | with_reducible apply ite_sound | with_reducible apply ite_fst_sound
    | split

theorem State.linkDrop_sound {o : State} {s : State} {k : Nat} {newState : Nat} (hS : s.Sound ⟨false, k1, k2, false,
    false, false, k6, k7, k8, k9, k10, k11, k12, false, k14, false, false, k17⟩ o) : (State.linkDrop s k
    newState).Sound ⟨false, k1, k2, false, false, false, k6, k7, k8, k9, k10, k11, k12, false, k14, false, false, k17⟩
    o := by
  unfold State.linkDrop; try dsimp only
  repeat' first
    | with_reducible assumption | with_reducible intro _ | with_reducible apply State.setF_sound
    | with_reducible apply State.updSeg_sound | with_reducible apply State.record_sound
    | with_reducible apply State.reqTimedOut_sound | with_reducible apply State.hpEvent_sound
    | with_reducible apply ite_sound | with_reducible apply ite_fst_sound | with_reducible apply each_sound
    | with_reducible apply each_fst_sound | with_reducible refine each_fst_sound' (by assumption) ?_ ?_
    | with_reducible apply when_sound | split

theorem State.perstOn_sound {o : State} {s : State} {k : Nat} (hS : s.Sound ⟨false, k1, k2, false, false, false,
    false, k7, k8, k9, k10, k11, k12, false, k14, false, false, k17⟩ o) : (State.perstOn s k).Sound ⟨false, k1, k2,
    false, false, false, false, k7, k8, k9, k10, k11, k12, false, k14, false, false, k17⟩ o := by
  unfold State.perstOn; try dsimp only
  repeat' first
    | with_reducible assumption | with_reducible intro _ | with_reducible apply State.setF_sound
    | with_reducible apply State.updSeg_sound | with_reducible apply State.linkDrop_sound
    | with_reducible apply State.arbMask_sound | with_reducible apply State.send_sound
    | with_reducible apply ite_sound | with_reducible apply ite_fst_sound | split

theorem State.perstOff_sound {o : State} {s : State} {k : Nat} (hS : s.Sound ⟨false, k1, k2, k3, k4, k5, false, k7,
    k8, k9, k10, k11, k12, false, k14, k15, false, k17⟩ o) : (State.perstOff s k).Sound ⟨false, k1, k2, k3, k4, k5,
    false, k7, k8, k9, k10, k11, k12, false, k14, k15, false, k17⟩ o := by
  unfold State.perstOff; try dsimp only
  repeat' first
    | with_reducible assumption | with_reducible intro _ | with_reducible apply State.setF_sound
    | with_reducible apply State.updSeg_sound | with_reducible apply State.arbMask_sound
    | with_reducible apply State.send_sound | with_reducible apply ite_sound | with_reducible apply ite_fst_sound
    | split

theorem State.segFence_sound {o : State} {s : State} {k : Nat} (hS : s.Sound ⟨false, k1, k2, false, false, false,
    false, k7, k8, k9, k10, k11, k12, false, k14, false, false, k17⟩ o) : (State.segFence s k).Sound ⟨false, k1, k2,
    false, false, false, false, k7, k8, k9, k10, k11, k12, false, k14, false, false, k17⟩ o := by
  unfold State.segFence; try dsimp only
  repeat' first
    | with_reducible assumption | with_reducible intro _ | with_reducible apply State.perstOn_sound
    | with_reducible apply State.updSeg_sound | with_reducible apply State.record_sound
    | with_reducible apply ite_sound | with_reducible apply ite_fst_sound | with_reducible apply when_sound | split

theorem State.slotOn_sound {o : State} {s : State} {k : Nat} (hS : s.Sound ⟨false, k1, k2, k3, k4, k5, k6, k7, k8, k9,
    k10, k11, k12, false, k14, k15, false, k17⟩ o) : (State.slotOn s k).Sound ⟨false, k1, k2, k3, k4, k5, k6, k7, k8,
    k9, k10, k11, k12, false, k14, k15, false, k17⟩ o := by
  unfold State.slotOn; try dsimp only
  repeat' first
    | with_reducible assumption | with_reducible intro _ | with_reducible apply State.setF_sound
    | with_reducible apply State.updSeg_sound | with_reducible apply State.send_sound | with_reducible apply ite_sound
    | with_reducible apply ite_fst_sound | split

theorem State.slotOff_sound {o : State} {s : State} {k : Nat} (hS : s.Sound ⟨false, k1, k2, false, false, false,
    false, k7, k8, k9, k10, k11, k12, false, k14, false, false, k17⟩ o) : (State.slotOff s k).Sound ⟨false, k1, k2,
    false, false, false, false, k7, k8, k9, k10, k11, k12, false, k14, false, false, k17⟩ o := by
  unfold State.slotOff; try dsimp only
  repeat' first
    | with_reducible assumption | with_reducible intro _ | with_reducible apply State.perstOn_sound
    | with_reducible apply State.setF_sound | with_reducible apply State.updSeg_sound
    | with_reducible apply State.send_sound | with_reducible apply ite_sound | with_reducible apply ite_fst_sound
    | split

end Sys2Proof.Machine
end

