-- ==== Sys2Proof/Laws/KeepAgentOps.lean ====
section
/-! SUPPORT. The operations of Machine/AgentOps.lean keep State.Sound. -/

namespace Sys2Proof.Machine

variable {k0 k1 k2 k3 k4 k5 k6 k7 k8 k9 k10 k11 k12 k13 k14 k15 k16 k17 : Bool}

theorem State.setAgentQ_sound {o : State} {s : State} {a : Nat} {l : List CMsg} (hS : s.Sound ⟨k0, k1, k2, k3, k4, k5,
    k6, k7, k8, k9, k10, k11, false, k13, k14, k15, k16, k17⟩ o) : (State.setAgentQ s a l).Sound ⟨k0, k1, k2, k3, k4,
    k5, k6, k7, k8, k9, k10, k11, false, k13, k14, k15, k16, k17⟩ o := by
  unfold State.setAgentQ; try dsimp only
  repeat' first
    | with_reducible assumption | with_reducible intro _ | with_reducible apply State.onCrypto_sound
    | with_reducible apply ite_sound | with_reducible apply ite_fst_sound | split

theorem State.agentAdd_sound {o : State} {s : State} {a : Nat} {ms : List CMsg} (hS : s.Sound ⟨k0, k1, k2, k3, k4, k5,
    k6, k7, k8, k9, k10, k11, false, k13, k14, k15, k16, k17⟩ o) : (State.agentAdd s a ms).Sound ⟨k0, k1, k2, k3, k4,
    k5, k6, k7, k8, k9, k10, k11, false, k13, k14, k15, k16, k17⟩ o := by
  unfold State.agentAdd; try dsimp only
  with_reducible repeat' first
    | assumption | intro _ | apply State.setAgentQ_sound | apply ite_sound | apply ite_fst_sound

theorem State.agentDrop_sound {o : State} {s : State} {a : Nat} {f : CMsg → Bool} (hS : s.Sound ⟨k0, k1, k2, k3, k4,
    k5, k6, k7, k8, k9, k10, k11, false, k13, k14, k15, k16, k17⟩ o) : (State.agentDrop s a f).Sound ⟨k0, k1, k2, k3,
    k4, k5, k6, k7, k8, k9, k10, k11, false, k13, k14, k15, k16, k17⟩ o := by
  unfold State.agentDrop; try dsimp only
  repeat' first
    | with_reducible assumption | with_reducible intro _ | with_reducible apply State.setAgentQ_sound
    | with_reducible apply ite_sound | with_reducible apply ite_fst_sound | split

theorem State.setRing_sound {o : State} {s : State} {r : Nat} {h : RingH} (hS : s.Sound ⟨k0, k1, k2, k3, k4, k5, k6,
    k7, k8, k9, k10, k11, false, k13, k14, k15, k16, k17⟩ o) : (State.setRing s r h).Sound ⟨k0, k1, k2, k3, k4, k5,
    k6, k7, k8, k9, k10, k11, false, k13, k14, k15, k16, k17⟩ o := by
  unfold State.setRing; try dsimp only
  repeat' first
    | with_reducible assumption | with_reducible intro _ | with_reducible apply State.onCrypto_sound
    | with_reducible apply ite_sound | with_reducible apply ite_fst_sound | split

theorem State.dropFetches_sound {o : State} {s : State} {r : Nat} (hS : s.Sound ⟨k0, k1, k2, k3, k4, k5, k6, k7, k8,
    k9, k10, k11, false, k13, k14, k15, k16, k17⟩ o) : (State.dropFetches s r).Sound ⟨k0, k1, k2, k3, k4, k5, k6, k7,
    k8, k9, k10, k11, false, k13, k14, k15, k16, k17⟩ o := by
  unfold State.dropFetches; try dsimp only
  repeat' first
    | with_reducible assumption | with_reducible intro _ | with_reducible apply State.setRing_sound
    | with_reducible apply State.agentDrop_sound | with_reducible apply ite_sound | with_reducible apply ite_fst_sound
    | split

theorem State.ringHalt_sound {o : State} {s : State} {r : Nat} {cause : Nat} (hS : s.Sound ⟨false, k1, k2, k3, k4, k5,
    k6, k7, k8, k9, k10, k11, false, k13, k14, k15, k16, k17⟩ o) : (State.ringHalt s r cause).Sound ⟨false, k1, k2,
    k3, k4, k5, k6, k7, k8, k9, k10, k11, false, k13, k14, k15, k16, k17⟩ o := by
  unfold State.ringHalt; try dsimp only
  with_reducible repeat' first
    | assumption | intro _ | apply State.setF_sound | apply State.dropFetches_sound | apply ite_sound
    | apply ite_fst_sound

theorem State.updDesc_sound {o : State} {s : State} {r : Nat} {seq : Nat} {f : DescH → DescH} (hS : s.Sound ⟨k0, k1,
    k2, k3, k4, k5, k6, k7, k8, k9, k10, k11, false, k13, k14, k15, k16, k17⟩ o) : (State.updDesc s r seq f).Sound
    ⟨k0, k1, k2, k3, k4, k5, k6, k7, k8, k9, k10, k11, false, k13, k14, k15, k16, k17⟩ o := by
  unfold State.updDesc; try dsimp only
  repeat' first
    | with_reducible assumption | with_reducible intro _ | with_reducible apply State.setRing_sound
    | with_reducible apply ite_sound | with_reducible apply ite_fst_sound | split

theorem State.retire_sound {o : State} {s : State} {r : Nat} (hS : s.Sound ⟨k0, k1, k2, k3, k4, k5, k6, k7, k8, k9,
    k10, k11, false, k13, k14, k15, k16, k17⟩ o) : (State.retire s r).Sound ⟨k0, k1, k2, k3, k4, k5, k6, k7, k8, k9,
    k10, k11, false, k13, k14, k15, k16, k17⟩ o := by
  unfold State.retire; try dsimp only
  repeat' first
    | with_reducible assumption | with_reducible intro _ | with_reducible apply State.updDesc_sound
    | with_reducible apply State.agentAdd_sound | with_reducible apply ite_sound | with_reducible apply ite_fst_sound
    | split

theorem State.descDone_sound {o : State} {s : State} {r : Nat} {d : DescH} {code : Nat} {outLen : Nat} (hS : s.Sound
    ⟨k0, k1, k2, k3, k4, k5, k6, k7, k8, k9, k10, k11, false, k13, k14, k15, k16, k17⟩ o) : (State.descDone s r d code
    outLen).Sound ⟨k0, k1, k2, k3, k4, k5, k6, k7, k8, k9, k10, k11, false, k13, k14, k15, k16, k17⟩ o := by
  unfold State.descDone; try dsimp only
  repeat' first
    | with_reducible assumption | with_reducible intro _ | with_reducible apply State.updDesc_sound
    | with_reducible apply State.retire_sound | with_reducible apply ite_sound | with_reducible apply ite_fst_sound
    | split

theorem State.completed_sound {o : State} {s : State} {r : Nat} {ok : Bool} (hS : s.Sound ⟨false, k1, k2, k3, k4, k5,
    k6, k7, k8, k9, k10, k11, false, k13, k14, k15, false, k17⟩ o) : (State.completed s r ok).Sound ⟨false, k1, k2,
    k3, k4, k5, k6, k7, k8, k9, k10, k11, false, k13, k14, k15, false, k17⟩ o := by
  unfold State.completed; try dsimp only
  repeat' first
    | with_reducible assumption | with_reducible intro _ | with_reducible apply State.setRing_sound
    | with_reducible apply State.wrapF_sound | with_reducible apply State.incF_sound
    | with_reducible apply State.setF_sound | with_reducible apply State.raiseOwn_sound
    | with_reducible apply State.retire_sound | with_reducible apply ite_sound | with_reducible apply ite_fst_sound
    | split

theorem State.keepKey_sound {o : State} {s : State} {r : Nat} {d : DescH} (hS : s.Sound ⟨k0, k1, k2, k3, k4, k5, k6,
    k7, k8, k9, k10, k11, false, k13, k14, k15, k16, k17⟩ o) : (State.keepKey s r d).Sound ⟨k0, k1, k2, k3, k4, k5,
    k6, k7, k8, k9, k10, k11, false, k13, k14, k15, k16, k17⟩ o := by
  unfold State.keepKey; try dsimp only
  repeat' first
    | with_reducible assumption | with_reducible intro _ | with_reducible apply State.onCrypto_sound
    | with_reducible apply ite_sound | with_reducible apply ite_fst_sound | split

theorem State.outputDone_sound {o : State} {s : State} {r : Nat} {seq : Nat} (hS : s.Sound ⟨k0, k1, k2, k3, k4, k5,
    k6, k7, k8, k9, k10, k11, false, k13, k14, k15, k16, k17⟩ o) : (State.outputDone s r seq).Sound ⟨k0, k1, k2, k3,
    k4, k5, k6, k7, k8, k9, k10, k11, false, k13, k14, k15, k16, k17⟩ o := by
  unfold State.outputDone; try dsimp only
  repeat' first
    | with_reducible assumption | with_reducible intro _ | with_reducible apply State.descDone_sound
    | with_reducible apply State.keepKey_sound | with_reducible apply ite_sound | with_reducible apply ite_fst_sound
    | split

theorem State.updCopy_sound {o : State} {s : State} {p : Nat} {f : StartCopy → StartCopy} (hS : s.Sound ⟨k0, k1, k2,
    k3, k4, k5, k6, k7, k8, k9, k10, false, k12, k13, k14, k15, k16, k17⟩ o) : (State.updCopy s p f).Sound ⟨k0, k1,
    k2, k3, k4, k5, k6, k7, k8, k9, k10, false, k12, k13, k14, k15, k16, k17⟩ o := by
  unfold State.updCopy; try dsimp only
  repeat' first
    | with_reducible assumption | with_reducible intro _ | with_reducible apply State.onSec_sound
    | with_reducible apply ite_sound | with_reducible apply ite_fst_sound | split

theorem State.copyStop_sound {o : State} {s : State} {p : Nat} (hS : s.Sound ⟨k0, k1, k2, k3, k4, k5, k6, k7, k8, k9,
    k10, false, false, k13, k14, k15, k16, k17⟩ o) : (State.copyStop s p).Sound ⟨k0, k1, k2, k3, k4, k5, k6, k7, k8,
    k9, k10, false, false, k13, k14, k15, k16, k17⟩ o := by
  unfold State.copyStop; try dsimp only
  repeat' first
    | with_reducible assumption | with_reducible intro _ | with_reducible apply State.onSec_sound
    | with_reducible apply State.agentDrop_sound | with_reducible apply ite_sound | with_reducible apply ite_fst_sound
    | with_reducible apply each_sound | with_reducible apply each_fst_sound
    | with_reducible refine each_fst_sound' (by assumption) ?_ ?_ | split

theorem State.copyRead_sound {o : State} {s : State} {h : Nat} {p : Nat} (hS : s.Sound ⟨k0, k1, k2, k3, k4, k5, k6,
    k7, k8, k9, k10, false, false, k13, k14, k15, k16, k17⟩ o) : (State.copyRead s h p).Sound ⟨k0, k1, k2, k3, k4, k5,
    k6, k7, k8, k9, k10, false, false, k13, k14, k15, k16, k17⟩ o := by
  unfold State.copyRead; try dsimp only
  repeat' first
    | with_reducible assumption | with_reducible intro _ | with_reducible apply State.updCopy_sound
    | with_reducible apply State.agentAdd_sound | with_reducible apply ite_sound | with_reducible apply ite_fst_sound
    | split

theorem State.agentAct_sound {o : State} {s : State} {a : Nat} {m : CMsg} {res : Option Line} (hS : s.Sound ⟨false,
    k1, k2, k3, k4, k5, k6, k7, k8, k9, k10, false, false, k13, k14, false, false, k17⟩ o) : (State.agentAct s a m
    res).Sound ⟨false, k1, k2, k3, k4, k5, k6, k7, k8, k9, k10, false, false, k13, k14, false, false, k17⟩ o := by
  unfold State.agentAct; try dsimp only
  repeat' first
    | with_reducible assumption | with_reducible intro _ | with_reducible apply State.ringHalt_sound
    | with_reducible apply State.record_sound | with_reducible apply State.setRing_sound
    | with_reducible apply State.updDesc_sound | with_reducible apply State.outputDone_sound
    | with_reducible apply State.completed_sound | with_reducible apply State.updCopy_sound
    | with_reducible apply State.copyRead_sound | with_reducible apply ite_sound | with_reducible apply ite_fst_sound
    | split

theorem State.agentGo_sound {o s : State} {n a : Nat} (hS : s.Sound ⟨false, k1, k2, k3, false, k5, k6, k7, k8, k9, k10, false, false, k13, k14, false, false, k17⟩ o) :
    (State.agentGo n s a).Sound ⟨false, k1, k2, k3, false, k5, k6, k7, k8, k9, k10, false, false, k13, k14, false, false, k17⟩ o := by
  induction n generalizing s with
  | zero => exact hS
  | succ n ih =>
    unfold State.agentGo; dsimp only
    repeat' first
      | with_reducible assumption | with_reducible intro _ | with_reducible apply ih
      | with_reducible apply State.agentAct_sound | with_reducible apply State.setAgentQ_sound
      | with_reducible apply State.record_sound | with_reducible apply State.send_sound
      | with_reducible refine State.newTxn_sound' (by assumption) ?_ | with_reducible apply State.newTxn_sound
      | with_reducible apply ite_sound | split

theorem State.agentKick_sound {o : State} {s : State} {a : Nat} (hS : s.Sound ⟨false, k1, k2, k3, false, k5, k6, k7,
    k8, k9, k10, false, false, k13, k14, false, false, k17⟩ o) : (State.agentKick s a).Sound ⟨false, k1, k2, k3,
    false, k5, k6, k7, k8, k9, k10, false, false, k13, k14, false, false, k17⟩ o := by
  unfold State.agentKick; try dsimp only
  with_reducible repeat' first
    | assumption | intro _ | apply State.agentGo_sound | apply ite_sound | apply ite_fst_sound

theorem State.agentPush_sound {o : State} {s : State} {a : Nat} {ms : List CMsg} (hS : s.Sound ⟨false, k1, k2, k3,
    false, k5, k6, k7, k8, k9, k10, false, false, k13, k14, false, false, k17⟩ o) : (State.agentPush s a ms).Sound
    ⟨false, k1, k2, k3, false, k5, k6, k7, k8, k9, k10, false, false, k13, k14, false, false, k17⟩ o := by
  unfold State.agentPush; try dsimp only
  with_reducible repeat' first
    | assumption | intro _ | apply State.agentAdd_sound | apply State.agentKick_sound | apply ite_sound
    | apply ite_fst_sound

theorem State.agentEnd_sound {o : State} {s : State} {a : Nat} {res : Option Line} (hS : s.Sound ⟨false, k1, k2, k3,
    false, k5, k6, k7, k8, k9, k10, false, false, k13, k14, false, false, k17⟩ o) : (State.agentEnd s a res).Sound
    ⟨false, k1, k2, k3, false, k5, k6, k7, k8, k9, k10, false, false, k13, k14, false, false, k17⟩ o := by
  unfold State.agentEnd; try dsimp only
  repeat' first
    | with_reducible assumption | with_reducible intro _ | with_reducible apply State.setAgentQ_sound
    | with_reducible apply State.agentAct_sound | with_reducible apply State.agentKick_sound
    | with_reducible apply ite_sound | with_reducible apply ite_fst_sound | split

theorem State.hubDone_sound {o : State} {s : State} {m : CMsg} {res : Option Line} {denied : Bool} (hS : s.Sound
    ⟨false, k1, k2, k3, false, k5, k6, k7, k8, k9, k10, false, false, false, k14, false, false, k17⟩ o) :
    (State.hubDone s m res denied).Sound ⟨false, k1, k2, k3, false, k5, k6, k7, k8, k9, k10, false, false, false, k14,
    false, false, k17⟩ o := by
  unfold State.hubDone; try dsimp only
  repeat' first
    | with_reducible assumption | with_reducible intro _ | with_reducible apply State.dmaEnd_sound
    | with_reducible apply State.agentEnd_sound | with_reducible apply ite_sound | with_reducible apply ite_fst_sound
    | split

end Sys2Proof.Machine
end

