-- ==== Sys2Proof/Laws/KeepSnoopOps.lean ====
section
/-! SUPPORT. The operations of Machine/SnoopOps.lean keep State.Sound. -/

namespace Sys2Proof.Machine

variable {k0 k1 k2 k3 k4 k5 k6 k7 k8 k9 k10 k11 k12 k13 k14 k15 k16 k17 : Bool}

theorem State.snoopRsp_sound {o : State} {s : State} {d : ℕ} {m : CMsg} {op : COp} {mask : Mask} {data : Line} {fwd :
    Unt} (hS : s.Sound ⟨k0, k1, k2, k3, k4, k5, k6, k7, k8, k9, k10, k11, k12, k13, k14, k15, false, k17⟩ o) :
   (State.snoopRsp s d m op mask data fwd).Sound ⟨k0, k1, k2, k3, k4, k5, k6, k7, k8, k9, k10, k11, k12, k13, k14,
    k15, false, k17⟩ o := by
  unfold State.snoopRsp; try dsimp only
  with_reducible repeat' first | assumption | intro _ | apply State.send_sound

theorem State.snoopReply_sound {o : State} {s : State} {d : Nat} {m : CMsg} (hS : s.Sound ⟨false, k1, k2, k3, false,
    k5, k6, false, k8, k9, k10, k11, k12, k13, k14, k15, false, k17⟩ o) : (State.snoopReply s d m).Sound ⟨false, k1,
    k2, k3, false, k5, k6, false, k8, k9, k10, k11, k12, k13, k14, k15, false, k17⟩ o := by
  unfold State.snoopReply; try dsimp only
  repeat' first
    | with_reducible assumption | with_reducible intro _ | with_reducible apply State.snoopRsp_sound
    | with_reducible refine State.snoopDie_sound' (by assumption) ?_ | with_reducible apply State.snoopDie_sound
    | with_reducible apply State.send_sound | with_reducible apply State.onHome_sound | with_reducible apply ite_sound
    | with_reducible apply ite_fst_sound | split

theorem State.twinRelease_sound {o : State} {s : State} (hS : s.Sound ⟨false, k1, k2, false, false, k5, k6, false,
    k8, k9, k10, k11, k12, k13, k14, k15, false, k17⟩ o) : (State.twinRelease s).Sound ⟨false, k1, k2, false, false,
    k5, k6, false, k8, k9, k10, k11, k12, k13, k14, k15, false, k17⟩ o := by
  unfold State.twinRelease; try dsimp only
  with_reducible repeat' first
    | assumption | intro _ | apply State.onCores_sound | apply State.snoopReply_sound | apply ite_sound
    | apply each_sound

theorem State.snoopAt_sound {o : State} {s : State} {d : ℕ} {m : CMsg} (hS : s.Sound ⟨false, k1, k2, false, false,
    k5, k6, false, k8, k9, k10, k11, k12, k13, k14, k15, false, k17⟩ o) : (State.snoopAt s d m).Sound ⟨false, k1, k2,
    false, false, k5, k6, false, k8, k9, k10, k11, k12, k13, k14, k15, false, k17⟩ o := by
  unfold State.snoopAt; try dsimp only
  with_reducible repeat' first
    | assumption | intro _ | apply State.take_sound | apply State.send_sound | apply State.snoopReply_sound
    | apply State.twinInput_sound | apply State.onCores_sound | apply ite_sound | apply each_sound

theorem State.snoopRow_sound {o : State} {s : State} {u : Nat} {m : CMsg} (hS : s.Sound ⟨false, k1, k2, false, false,
    k5, k6, false, false, false, k10, k11, k12, k13, k14, false, false, k17⟩ o) : (State.snoopRow s u m).Sound ⟨false,
    k1, k2, false, false, k5, k6, false, false, false, k10, k11, k12, k13, k14, false, false, k17⟩ o := by
  unfold State.snoopRow; try dsimp only
  repeat' first
    | with_reducible assumption | with_reducible intro _ | with_reducible apply State.snoopAt_sound
    | with_reducible apply State.take_sound | with_reducible apply State.proxySnoop_sound
    | with_reducible apply ite_sound | with_reducible apply ite_fst_sound | split

end Sys2Proof.Machine
end

