-- ==== Sys2Proof/Laws/KeepGongOps.lean ====
section
/-! SUPPORT. The operations of Machine/GongOps.lean keep State.Sound. -/

namespace Sys2Proof.Machine

variable {k0 k1 k2 k3 k4 k5 k6 k7 k8 k9 k10 k11 k12 k13 k14 k15 k16 k17 : Bool}

theorem State.raiseGong_sound {o : State} {s : State} {e : ECode} {kind : ℕ} {unit : ℕ} {mask : ℕ} {parts : List ℕ}
    {addr : Option ℕ} {detail : ℕ} (hS : s.Sound ⟨k0, k1, k2, k3, k4, k5, k6, k7, k8, k9, k10, k11, k12, k13, k14,
    false, false, k17⟩ o) : (State.raiseGong s e kind unit mask parts addr detail).Sound ⟨k0, k1, k2, k3, k4, k5, k6,
    k7, k8, k9, k10, k11, k12, k13, k14, false, false, k17⟩ o := by
  unfold State.raiseGong; try dsimp only
  with_reducible repeat' first | assumption | intro _ | apply State.record_sound | apply State.onErr_sound

theorem State.selfFence_sound {o : State} {s : State} {e : ECode} {kind : ℕ} {unit : ℕ} {detail : ℕ} (hS : s.Sound
    ⟨k0, false, k2, k3, k4, k5, k6, k7, k8, k9, k10, k11, k12, k13, k14, false, false, k17⟩ o) : (State.selfFence s e
    kind unit detail).Sound ⟨k0, false, k2, k3, k4, k5, k6, k7, k8, k9, k10, k11, k12, k13, k14, false, false, k17⟩ o
    := by
  unfold State.selfFence; try dsimp only
  repeat' first
    | with_reducible assumption | with_reducible intro _ | with_reducible apply State.onBeat_sound
    | with_reducible apply State.raiseGong_sound | with_reducible rfl | rfl

theorem State.haltOne_sound {o : State} {s : State} {c : Nat} (hS : s.Sound ⟨false, k1, k2, false, k4, k5, k6, k7, k8,
    k9, k10, k11, k12, k13, k14, k15, k16, k17⟩ o) : (State.haltOne s c).Sound ⟨false, k1, k2, false, k4, k5, k6, k7,
    k8, k9, k10, k11, k12, k13, k14, k15, k16, k17⟩ o := by
  unfold State.haltOne; try dsimp only
  repeat' first
    | with_reducible assumption | with_reducible intro _ | with_reducible apply State.updCoreH_sound
    | with_reducible apply State.enterHalt_sound | with_reducible apply ite_sound | with_reducible apply ite_fst_sound
    | split

theorem State.partFence_sound {o : State} {s : State} {p : Nat} (hS : s.Sound ⟨false, k1, k2, false, false, false,
    false, k7, k8, k9, k10, k11, false, false, k14, false, false, k17⟩ o) : (State.partFence s p).Sound ⟨false, k1,
    k2, false, false, false, false, k7, k8, k9, k10, k11, false, false, k14, false, false, k17⟩ o := by
  unfold State.partFence; try dsimp only
  repeat' first
    | with_reducible assumption | with_reducible intro _ | with_reducible apply State.setF_sound
    | with_reducible apply State.haltOne_sound | with_reducible apply State.segFence_sound
    | with_reducible apply State.arbMask_sound | with_reducible apply State.onCrypto_sound
    | with_reducible apply State.agentDrop_sound | with_reducible apply ite_sound | with_reducible apply ite_fst_sound
    | with_reducible apply each_sound | with_reducible apply each_fst_sound
    | with_reducible refine each_fst_sound' (by assumption) ?_ ?_ | split

theorem State.gongApply_sound {o : State} {s : State} {g : Gong} (hS : s.Sound ⟨false, k1, k2, false, false, false,
    false, k7, k8, k9, k10, k11, false, false, k14, false, false, k17⟩ o) : (State.gongApply s g).Sound ⟨false, k1,
    k2, false, false, false, false, k7, k8, k9, k10, k11, false, false, k14, false, false, k17⟩ o := by
  unfold State.gongApply; try dsimp only
  repeat' first
    | with_reducible assumption | with_reducible intro _ | with_reducible apply State.partFence_sound
    | with_reducible apply State.recordAt_sound | with_reducible apply State.raiseAll_sound
    | with_reducible apply ite_sound | with_reducible apply ite_fst_sound | with_reducible apply each_sound
    | with_reducible apply each_fst_sound | with_reducible refine each_fst_sound' (by assumption) ?_ ?_ | split

end Sys2Proof.Machine
end

