-- ==== Sys2Proof/Laws/KeepFabOps.lean ====
section
/-! SUPPORT. The operations of Machine/FabOps.lean keep State.Sound. -/

namespace Sys2Proof.Machine

variable {k0 k1 k2 k3 k4 k5 k6 k7 k8 k9 k10 k11 k12 k13 k14 k15 k16 k17 : Bool}

theorem State.creditUse_sound {o : State} {s : State} {link : ℕ} {vc : ℕ} (hS : s.Sound ⟨k0, k1, k2, k3, k4, k5,
    false, k7, k8, k9, k10, k11, k12, k13, k14, k15, k16, k17⟩ o) : (State.creditUse s link vc).Sound ⟨k0, k1, k2, k3,
    k4, k5, false, k7, k8, k9, k10, k11, k12, k13, k14, k15, k16, k17⟩ o := by
  unfold State.creditUse; try dsimp only
  with_reducible repeat' first | assumption | intro _ | apply State.onFab_sound

theorem State.creditBack_sound {o : State} {s : State} {link : ℕ} {vc : ℕ} (hS : s.Sound ⟨k0, k1, k2, k3, k4, k5,
    false, k7, k8, k9, k10, k11, k12, k13, k14, k15, k16, k17⟩ o) : (State.creditBack s link vc).Sound ⟨k0, k1, k2,
    k3, k4, k5, false, k7, k8, k9, k10, k11, k12, k13, k14, k15, k16, k17⟩ o := by
  unfold State.creditBack; try dsimp only
  with_reducible repeat' first | assumption | intro _ | apply State.onFab_sound

theorem State.setFlit_sound {o : State} {s : State} {f : FlitAt} (hS : s.Sound ⟨k0, k1, k2, k3, k4, k5, k6, k7, k8,
    k9, k10, k11, k12, k13, k14, k15, false, k17⟩ o) : (State.setFlit s f).Sound ⟨k0, k1, k2, k3, k4, k5, k6, k7, k8,
    k9, k10, k11, k12, k13, k14, k15, false, k17⟩ o := by
  unfold State.setFlit; try dsimp only
  repeat' first
    | with_reducible assumption | with_reducible intro _ | with_reducible apply ite_sound
    | with_reducible apply ite_fst_sound | with_reducible apply mk_sound | with_reducible apply State.Sound.clock
    | with_reducible apply State.Sound.queue | with_reducible apply State.Sound.free
    | with_reducible apply State.Sound.fused | with_reducible apply State.Sound.mem
    | with_reducible apply State.Sound.regs | with_reducible apply State.Sound.k_regs
    | with_reducible apply State.Sound.k_beat | with_reducible apply State.Sound.k_boot
    | with_reducible apply State.Sound.k_cores | with_reducible apply State.Sound.k_cache
    | with_reducible apply State.Sound.k_xlat | with_reducible apply State.Sound.k_fab
    | with_reducible apply State.Sound.k_home | with_reducible apply State.Sound.k_dram
    | with_reducible apply State.Sound.k_mem | with_reducible apply State.Sound.k_links
    | with_reducible apply State.Sound.k_sec | with_reducible apply State.Sound.k_crypto
    | with_reducible apply State.Sound.k_pcie | with_reducible apply State.Sound.k_pwr
    | with_reducible apply State.Sound.k_err | with_reducible apply State.Sound.k_sent
    | with_reducible apply State.Sound.k_freeCtr | with_reducible apply State.Sound.k_flits
    | with_reducible exact absurd (by assumption) Bool.false_ne_true | split

theorem State.setRegH_sound {o : State} {s : State} {a : ℕ} {h : RegH} (hS : s.Sound ⟨k0, k1, k2, k3, k4, k5, false,
    k7, k8, k9, k10, k11, k12, k13, k14, k15, k16, k17⟩ o) : (State.setRegH s a h).Sound ⟨k0, k1, k2, k3, k4, k5,
    false, k7, k8, k9, k10, k11, k12, k13, k14, k15, k16, k17⟩ o := by
  unfold State.setRegH; try dsimp only
  with_reducible repeat' first | assumption | intro _ | apply State.onFab_sound

theorem State.regPass_sound {o : State} {s : State} {a : Nat} {p : Nat} {two : Bool} {m : CMsg} (hS : s.Sound ⟨false,
    k1, k2, k3, k4, k5, false, k7, k8, k9, k10, k11, k12, k13, k14, k15, false, k17⟩ o) : (State.regPass s a p two
    m).Sound ⟨false, k1, k2, k3, k4, k5, false, k7, k8, k9, k10, k11, k12, k13, k14, k15, false, k17⟩ o := by
  unfold State.regPass; try dsimp only
  repeat' first
    | with_reducible assumption | with_reducible intro _ | with_reducible apply State.setRegH_sound
    | with_reducible apply State.incF_sound | with_reducible apply State.send_sound
    | with_reducible apply State.setFlit_sound | with_reducible apply ite_sound | with_reducible apply ite_fst_sound
    | split

theorem State.regRefill_sound {o : State} {s : State} {a : ℕ} (hS : s.Sound ⟨false, k1, k2, k3, k4, k5, false, k7,
    k8, k9, k10, k11, k12, k13, k14, k15, false, k17⟩ o) : (State.regRefill s a).Sound ⟨false, k1, k2, k3, k4, k5,
    false, k7, k8, k9, k10, k11, k12, k13, k14, k15, false, k17⟩ o := by
  unfold State.regRefill; try dsimp only
  with_reducible repeat' first
    | assumption | intro _ | apply State.setF_sound | apply State.incF_sound | apply State.setRegH_sound
    | apply State.regPass_sound | apply ite_sound | apply each_sound

theorem State.fabricBeat_sound {o : State} {s : State} (hS : s.Sound ⟨false, k1, k2, k3, k4, k5, false, k7, k8, k9,
    k10, k11, k12, k13, k14, k15, false, k17⟩ o) : (State.fabricBeat s).Sound ⟨false, k1, k2, k3, k4, k5, false, k7,
    k8, k9, k10, k11, k12, k13, k14, k15, false, k17⟩ o := by
  unfold State.fabricBeat; try dsimp only
  with_reducible repeat' first
    | assumption | intro _ | apply State.regRefill_sound | apply State.onFab_sound | apply ite_sound
    | apply each_sound

end Sys2Proof.Machine
end

