-- ==== Sys2Proof/Laws/KeepCoreOps.lean ====
section
/-! SUPPORT. The operations of Machine/CoreOps.lean keep State.Sound. -/

namespace Sys2Proof.Machine

variable {k0 k1 k2 k3 k4 k5 k6 k7 k8 k9 k10 k11 k12 k13 k14 k15 k16 k17 : Bool}

theorem State.setSlot_sound {o : State} {s : State} {i : ℕ} {p : PealSlot} (hS : s.Sound ⟨k0, false, k2, k3, k4, k5,
    k6, k7, k8, k9, k10, k11, k12, k13, k14, k15, k16, k17⟩ o) : (State.setSlot s i p).Sound ⟨k0, false, k2, k3, k4,
    k5, k6, k7, k8, k9, k10, k11, k12, k13, k14, k15, k16, k17⟩ o := by
  unfold State.setSlot; try dsimp only
  repeat' first
    | with_reducible assumption | with_reducible intro _ | with_reducible apply State.onBeat_sound
    | with_reducible rfl | rfl

theorem State.pealArmed_sound {o : State} {s : State} {i : ℕ} {u : ℕ} (hS : s.Sound ⟨k0, false, k2, k3, k4, k5, k6,
    k7, k8, k9, k10, k11, k12, k13, k14, k15, false, k17⟩ o) : (State.pealArmed s i u).Sound ⟨k0, false, k2, k3, k4,
    k5, k6, k7, k8, k9, k10, k11, k12, k13, k14, k15, false, k17⟩ o := by
  unfold State.pealArmed; try dsimp only
  with_reducible repeat' first
    | assumption | intro _ | apply State.setSlot_sound | apply State.send_sound | apply ite_sound

theorem State.pealLeave_sound {o : State} {s : State} {u : Nat} (hS : s.Sound ⟨k0, false, k2, k3, k4, k5, k6, k7, k8,
    k9, k10, k11, k12, k13, k14, k15, false, k17⟩ o) : (State.pealLeave s u).Sound ⟨k0, false, k2, k3, k4, k5, k6, k7,
    k8, k9, k10, k11, k12, k13, k14, k15, false, k17⟩ o := by
  unfold State.pealLeave; try dsimp only
  repeat' first
    | with_reducible assumption | with_reducible intro _ | with_reducible apply State.pealArmed_sound
    | with_reducible apply State.setSlot_sound | with_reducible apply ite_sound | with_reducible apply ite_fst_sound
    | with_reducible apply each_sound | with_reducible apply each_fst_sound
    | with_reducible refine each_fst_sound' (by assumption) ?_ ?_ | split

theorem State.dropLine_sound {o : State} {s : State} {d : ℕ} {line : ℕ} (hS : s.Sound ⟨k0, k1, k2, k3, false, k5, k6,
    k7, k8, k9, k10, k11, k12, k13, k14, k15, k16, k17⟩ o) : (State.dropLine s d line).Sound ⟨k0, k1, k2, k3, false,
    k5, k6, k7, k8, k9, k10, k11, k12, k13, k14, k15, k16, k17⟩ o := by
  unfold State.dropLine; try dsimp only
  repeat' first
    | with_reducible assumption | with_reducible intro _ | with_reducible apply State.l1Remove_sound
    | with_reducible apply State.dcUpd_sound | with_reducible apply ite_sound | with_reducible apply each_sound
    | with_reducible apply each_fst_sound | with_reducible refine each_fst_sound' (by assumption) ?_ ?_ | split

theorem State.purgeCore_sound {o : State} {s : State} {c : ℕ} {bad : List ℕ} (hS : s.Sound ⟨false, k1, k2, k3, false,
    k5, k6, false, false, false, k10, k11, k12, k13, k14, false, false, k17⟩ o) : (State.purgeCore s c bad).Sound
    ⟨false, k1, k2, k3, false, k5, k6, false, false, false, k10, k11, k12, k13, k14, false, false, k17⟩ o := by
  unfold State.purgeCore; try dsimp only
  repeat' first
    | with_reducible assumption | with_reducible intro _ | with_reducible apply State.record_sound
    | with_reducible apply State.poisonAny_sound | with_reducible apply State.dropLine_sound
    | with_reducible apply State.l1Evict_sound | with_reducible apply State.onCache_sound
    | with_reducible apply ite_sound | with_reducible apply each_sound | with_reducible apply each_fst_sound
    | with_reducible refine each_fst_sound' (by assumption) ?_ ?_ | split

theorem State.segLose_sound {o : State} {s : State} {cs : List Nat} {of : PcieReq → Bool} (hS : s.Sound ⟨k0, k1, k2,
    k3, k4, k5, k6, k7, k8, k9, k10, k11, k12, false, k14, k15, k16, k17⟩ o) : (State.segLose s cs of).Sound ⟨k0, k1,
    k2, k3, k4, k5, k6, k7, k8, k9, k10, k11, k12, false, k14, k15, k16, k17⟩ o := by
  unfold State.segLose; try dsimp only
  repeat' first
    | with_reducible assumption | with_reducible intro _ | with_reducible apply State.onPcie_sound
    | with_reducible apply ite_sound | with_reducible apply ite_fst_sound | split

theorem State.dropCore_sound {o : State} {s : State} {c : Nat} (hS : s.Sound ⟨k0, k1, k2, k3, false, k5, k6, k7, k8,
    k9, k10, k11, k12, false, k14, k15, k16, k17⟩ o) : (State.dropCore s c).Sound ⟨k0, k1, k2, k3, false, k5, k6, k7,
    k8, k9, k10, k11, k12, false, k14, k15, k16, k17⟩ o := by
  unfold State.dropCore; try dsimp only
  repeat' first
    | with_reducible assumption | with_reducible intro _ | with_reducible apply State.segLose_sound
    | with_reducible apply State.onCache_sound | with_reducible apply ite_sound | with_reducible apply ite_fst_sound
    | split

theorem State.dropLoads_sound {o : State} {s : State} {c : Nat} (hS : s.Sound ⟨k0, k1, k2, k3, false, false, k6, k7,
    k8, k9, k10, k11, k12, false, k14, k15, k16, k17⟩ o) : (State.dropLoads s c).Sound ⟨k0, k1, k2, k3, false, false,
    k6, k7, k8, k9, k10, k11, k12, false, k14, k15, k16, k17⟩ o := by
  unfold State.dropLoads; try dsimp only
  repeat' first
    | with_reducible assumption | with_reducible intro _ | with_reducible apply State.segLose_sound
    | with_reducible apply State.onCache_sound | with_reducible apply State.onXlat_sound
    | with_reducible apply ite_sound | with_reducible apply ite_fst_sound | split

theorem State.tlbiHand_sound {o : State} {s : State} {c : Nat} (hS : s.Sound ⟨k0, k1, k2, false, k4, k5, k6, k7, k8,
    k9, k10, k11, k12, k13, k14, k15, k16, k17⟩ o) : (State.tlbiHand s c).Sound ⟨k0, k1, k2, false, k4, k5, k6, k7,
    k8, k9, k10, k11, k12, k13, k14, k15, k16, k17⟩ o := by
  unfold State.tlbiHand; try dsimp only
  repeat' first
    | with_reducible assumption | with_reducible intro _ | with_reducible apply State.updCoreH_sound
    | with_reducible apply ite_sound | with_reducible apply ite_fst_sound | split

theorem State.coreEmpty_sound {o : State} {s : State} {c : Nat} (hS : s.Sound ⟨false, k1, k2, false, false, false, k6,
    k7, k8, k9, k10, k11, k12, k13, k14, false, false, k17⟩ o) : (State.coreEmpty s c).Sound ⟨false, k1, k2, false,
    false, false, k6, k7, k8, k9, k10, k11, k12, k13, k14, false, false, k17⟩ o := by
  unfold State.coreEmpty; try dsimp only
  repeat' first
    | with_reducible assumption | with_reducible intro _ | with_reducible apply State.tlbiHand_sound
    | with_reducible apply State.emptyTlbs_sound | with_reducible apply State.resetReg_sound
    | with_reducible apply State.updCoreH_sound | with_reducible apply State.tlbiDrop_sound
    | with_reducible apply ite_sound | with_reducible apply ite_fst_sound | split

theorem State.goSolo_sound {o : State} {s : State} {m : Nat} (hS : s.Sound ⟨false, k1, k2, false, false, false, k6,
    false, k8, k9, k10, k11, k12, k13, k14, false, false, k17⟩ o) : (State.goSolo s m).Sound ⟨false, k1, k2, false,
    false, false, k6, false, k8, k9, k10, k11, k12, k13, k14, false, false, k17⟩ o := by
  unfold State.goSolo; try dsimp only
  repeat' first
    | with_reducible assumption | with_reducible intro _ | with_reducible apply State.setF_sound
    | with_reducible apply State.raise_sound | with_reducible apply State.onCores_sound
    | with_reducible apply State.toCore_sound | with_reducible apply State.twinRelease_sound
    | with_reducible apply State.cmoResume_sound | with_reducible apply ite_sound | with_reducible apply ite_fst_sound
    | split

theorem State.pendStamped_sound {o : State} {s : State} {c : Nat} (hS : s.Sound ⟨k0, k1, k2, false, k4, k5, k6, k7,
    k8, k9, k10, k11, k12, k13, k14, k15, k16, k17⟩ o) : (State.pendStamped s c).Sound ⟨k0, k1, k2, false, k4, k5, k6,
    k7, k8, k9, k10, k11, k12, k13, k14, k15, k16, k17⟩ o := by
  unfold State.pendStamped; try dsimp only
  repeat' first
    | with_reducible assumption | with_reducible intro _ | with_reducible apply State.onCores_sound
    | with_reducible apply State.pend_sound | with_reducible apply ite_sound | with_reducible apply ite_fst_sound
    | with_reducible apply each_sound | with_reducible apply each_fst_sound
    | with_reducible refine each_fst_sound' (by assumption) ?_ ?_ | split

theorem State.coreLost_sound {o : State} {s : State} {c : Nat} (hS : s.Sound ⟨false, k1, k2, false, false, false, k6,
    false, k8, k9, k10, k11, k12, k13, k14, false, false, k17⟩ o) : (State.coreLost s c).Sound ⟨false, k1, k2, false,
    false, false, k6, false, k8, k9, k10, k11, k12, k13, k14, false, false, k17⟩ o := by
  unfold State.coreLost; try dsimp only
  repeat' first
    | with_reducible assumption | with_reducible intro _ | with_reducible apply State.pendStamped_sound
    | with_reducible apply State.redeliver_sound | with_reducible apply State.setF_sound
    | with_reducible apply State.raise_sound | with_reducible apply State.goSolo_sound
    | with_reducible apply State.onCores_sound | with_reducible apply State.twinRelease_sound
    | with_reducible apply ite_sound | with_reducible apply ite_fst_sound | split

theorem State.coreDown_sound {o : State} {s : State} {c : Nat} {cause : Nat} (hS : s.Sound ⟨false, k1, k2, false,
    false, false, false, false, k8, k9, k10, k11, k12, k13, k14, false, false, k17⟩ o) : (State.coreDown s c
    cause).Sound ⟨false, k1, k2, false, false, false, false, false, k8, k9, k10, k11, k12, k13, k14, false, false,
    k17⟩ o := by
  unfold State.coreDown; try dsimp only
  repeat' first
    | with_reducible assumption | with_reducible intro _ | with_reducible apply State.setCoreState_sound
    | with_reducible apply State.setF_sound | with_reducible apply State.updCoreH_sound
    | with_reducible apply State.coreEmpty_sound | with_reducible apply State.maskCore_sound
    | with_reducible apply State.coreLost_sound | with_reducible apply ite_sound | with_reducible apply ite_fst_sound
    | split

theorem State.fenceCore_sound {o : State} {s : State} {c : Nat} {cause : Nat} {bad : List Nat} (hS : s.Sound ⟨false,
    k1, k2, false, false, false, false, false, false, false, k10, k11, k12, false, k14, false, false, k17⟩ o) :
    (State.fenceCore s c cause bad).Sound ⟨false, k1, k2, false, false, false, false, false, false, false, k10, k11,
    k12, false, k14, false, false, k17⟩ o := by
  unfold State.fenceCore; try dsimp only
  with_reducible repeat' first
    | assumption | intro _ | apply State.dropCore_sound | apply State.purgeCore_sound | apply State.coreDown_sound
    | apply ite_sound | apply ite_fst_sound

theorem State.clearDie_sound {o : State} {s : State} {d : Nat} (hS : s.Sound ⟨k0, k1, k2, k3, false, k5, k6, k7, k8,
    k9, k10, k11, k12, k13, k14, k15, k16, k17⟩ o) : (State.clearDie s d).Sound ⟨k0, k1, k2, k3, false, k5, k6, k7,
    k8, k9, k10, k11, k12, k13, k14, k15, k16, k17⟩ o := by
  unfold State.clearDie; try dsimp only
  repeat' first
    | with_reducible assumption | with_reducible intro _ | with_reducible apply State.onCache_sound
    | with_reducible apply ite_sound | with_reducible apply ite_fst_sound | split

theorem State.dropTorn_sound {o : State} {s : State} {pkg : Nat} {d : Nat} (hS : s.Sound ⟨k0, k1, k2, k3, k4, k5,
    false, k7, k8, k9, k10, k11, k12, k13, k14, false, false, k17⟩ o) : (State.dropTorn s pkg d).Sound ⟨k0, k1, k2,
    k3, k4, k5, false, k7, k8, k9, k10, k11, k12, k13, k14, false, false, k17⟩ o := by
  unfold State.dropTorn; try dsimp only
  repeat' first
    | with_reducible assumption | with_reducible intro _ | with_reducible apply State.onFab_sound
    | with_reducible apply State.take_sound | with_reducible apply State.record_sound | with_reducible apply ite_sound
    | with_reducible apply ite_fst_sound | with_reducible apply each_sound | with_reducible apply each_fst_sound
    | with_reducible refine each_fst_sound' (by assumption) ?_ ?_ | split

theorem State.dropFlits_sound {o : State} {s : State} {d : Nat} (hS : s.Sound ⟨k0, k1, k2, false, k4, k5, false, k7,
    k8, k9, k10, k11, k12, k13, k14, false, false, k17⟩ o) : (State.dropFlits s d).Sound ⟨k0, k1, k2, false, k4, k5,
    false, k7, k8, k9, k10, k11, k12, k13, k14, false, false, k17⟩ o := by
  unfold State.dropFlits; try dsimp only
  repeat' first
    | with_reducible assumption | with_reducible intro _ | with_reducible apply State.dropTorn_sound
    | with_reducible apply State.onFab_sound | with_reducible apply ite_sound | with_reducible apply ite_fst_sound
    | with_reducible apply mk_sound | with_reducible apply State.Sound.clock | with_reducible apply State.Sound.queue
    | with_reducible apply State.Sound.free | with_reducible apply State.Sound.fused
    | with_reducible apply State.Sound.mem | with_reducible apply State.Sound.regs
    | with_reducible apply State.Sound.k_regs | with_reducible apply State.Sound.k_beat
    | with_reducible apply State.Sound.k_boot | with_reducible apply State.Sound.k_cores
    | with_reducible apply State.Sound.k_cache | with_reducible apply State.Sound.k_xlat
    | with_reducible apply State.Sound.k_fab | with_reducible apply State.Sound.k_home
    | with_reducible apply State.Sound.k_dram | with_reducible apply State.Sound.k_mem
    | with_reducible apply State.Sound.k_links | with_reducible apply State.Sound.k_sec
    | with_reducible apply State.Sound.k_crypto | with_reducible apply State.Sound.k_pcie
    | with_reducible apply State.Sound.k_pwr | with_reducible apply State.Sound.k_err
    | with_reducible apply State.Sound.k_sent | with_reducible apply State.Sound.k_freeCtr
    | with_reducible apply State.Sound.k_flits | with_reducible exact absurd (by assumption) Bool.false_ne_true
    | split

theorem State.fenceMask_sound {o : State} {s : State} {h : Nat} {pkg : Nat} {d : Nat} (hS : s.Sound ⟨false, k1, k2,
    k3, false, k5, false, false, false, false, k10, false, k12, k13, k14, false, false, k17⟩ o) : (State.fenceMask s h
    pkg d).Sound ⟨false, k1, k2, k3, false, k5, false, false, false, false, k10, false, k12, k13, k14, false, false,
    k17⟩ o := by
  unfold State.fenceMask; try dsimp only
  repeat' first
    | with_reducible assumption | with_reducible intro _ | with_reducible apply State.dropTorn_sound
    | with_reducible apply State.onHome_sound | with_reducible apply State.setF_sound
    | with_reducible apply State.fenceTxns_sound | with_reducible apply ite_sound | with_reducible apply ite_fst_sound
    | split

theorem State.failHeld_sound {o : State} {s : State} {d : ℕ} (hS : s.Sound ⟨k0, k1, k2, k3, k4, k5, k6, k7, k8, k9,
    k10, k11, k12, k13, false, false, false, k17⟩ o) : (State.failHeld s d).Sound ⟨k0, k1, k2, k3, k4, k5, k6, k7, k8,
    k9, k10, k11, k12, k13, false, false, false, k17⟩ o := by
  unfold State.failHeld; try dsimp only
  with_reducible repeat' first
    | assumption | intro _ | apply State.onPwr_sound | apply State.csFail_sound | apply ite_sound | apply each_sound

theorem State.fenceDie_sound {o : State} {s : State} {d : Nat} {code : Nat} {e : ECode} {detail : Nat} (hS : s.Sound
    ⟨false, false, k2, false, false, false, false, false, false, false, k10, false, k12, k13, false, false, false,
    k17⟩ o) : (State.fenceDie s d code e detail).Sound ⟨false, false, k2, false, false, false, false, false, false,
    false, k10, false, k12, k13, false, false, false, k17⟩ o := by
  unfold State.fenceDie; try dsimp only
  repeat' first
    | with_reducible assumption | with_reducible intro _ | with_reducible apply State.setF_sound
    | with_reducible apply State.record_sound | with_reducible apply State.dropFlits_sound
    | with_reducible apply State.clearDie_sound | with_reducible apply State.resetDie_sound
    | with_reducible apply State.arbMaskDie_sound | with_reducible apply State.pealLeave_sound
    | with_reducible apply State.coreDown_sound | with_reducible apply State.failHeld_sound
    | with_reducible apply State.send_sound | with_reducible apply State.fenceMask_sound
    | with_reducible apply ite_sound | with_reducible apply ite_fst_sound | with_reducible apply each_sound
    | with_reducible apply each_fst_sound | with_reducible refine each_fst_sound' (by assumption) ?_ ?_ | split

theorem State.meshFail_sound {o : State} {s : State} {mesh : Nat} (hS : s.Sound ⟨false, false, k2, false, false,
    false, false, false, false, false, k10, false, k12, k13, false, false, false, k17⟩ o) : (State.meshFail s
    mesh).Sound ⟨false, false, k2, false, false, false, false, false, false, false, k10, false, k12, k13, false,
    false, false, k17⟩ o := by
  unfold State.meshFail; try dsimp only
  with_reducible repeat' first
    | assumption | intro _ | apply State.fenceDie_sound | apply State.selfFence_sound | apply ite_sound
    | apply ite_fst_sound

end Sys2Proof.Machine
end

