-- ==== Sys2Proof/Laws/KeepCohOps.lean ====
section
/-! SUPPORT. The operations of Machine/CohOps.lean keep State.Sound. -/

namespace Sys2Proof.Machine

variable {k0 k1 k2 k3 k4 k5 k6 k7 k8 k9 k10 k11 k12 k13 k14 k15 k16 k17 : Bool}

theorem State.holdAt_sound {o : State} {s : State} {l : Nat} {m : CMsg} (hS : s.Sound ⟨false, k1, k2, k3, k4, k5, k6,
    k7, k8, k9, false, k11, k12, k13, k14, k15, false, k17⟩ o) : (State.holdAt s l m).Sound ⟨false, k1, k2, k3, k4,
    k5, k6, k7, k8, k9, false, k11, k12, k13, k14, k15, false, k17⟩ o := by
  unfold State.holdAt; try dsimp only
  repeat' first
    | with_reducible assumption | with_reducible intro _ | with_reducible apply State.send_sound
    | with_reducible apply State.onLinks_sound | with_reducible apply State.setF_sound
    | with_reducible apply ite_sound | with_reducible apply ite_fst_sound | split

theorem State.arrive_sound {o : State} {s : State} {m : CMsg} {act : State → State} (h_act : ∀ (x0 : State), x0.Sound
    ⟨false, k1, k2, k3, k4, k5, k6, k7, k8, k9, false, k11, k12, k13, k14, k15, false, k17⟩ o → (act x0).Sound ⟨false,
    k1, k2, k3, k4, k5, k6, k7, k8, k9, false, k11, k12, k13, k14, k15, false, k17⟩ o) (hS : s.Sound ⟨false, k1, k2,
    k3, k4, k5, k6, k7, k8, k9, false, k11, k12, k13, k14, k15, false, k17⟩ o) : (State.arrive s m act).Sound ⟨false,
    k1, k2, k3, k4, k5, k6, k7, k8, k9, false, k11, k12, k13, k14, k15, false, k17⟩ o := by
  unfold State.arrive; try dsimp only
  repeat' first
    | with_reducible assumption | with_reducible intro _ | with_reducible apply State.take_sound
    | with_reducible apply State.holdAt_sound | with_reducible apply h_act | with_reducible apply ite_sound
    | with_reducible apply ite_fst_sound | split

theorem State.reqRow_sound {o : State} {s : State} {h : Nat} {m : CMsg} (hS : s.Sound ⟨false, k1, k2, k3, false, k5,
    false, false, false, false, false, false, k12, k13, k14, false, false, k17⟩ o) : (State.reqRow s h m).Sound
    ⟨false, k1, k2, k3, false, k5, false, false, false, false, false, false, k12, k13, k14, false, false, k17⟩ o := by
  unfold State.reqRow; try dsimp only
  repeat' first
    | with_reducible assumption | with_reducible intro _ | with_reducible apply State.arrive_sound
    | with_reducible apply State.homeReq_sound | with_reducible apply ite_sound | with_reducible apply ite_fst_sound
    | split

theorem State.lineSettle_sound {o : State} {s : State} {d : Nat} {line : Nat} (hS : s.Sound ⟨false, k1, k2, k3, false,
    false, k6, false, false, k9, k10, k11, k12, k13, k14, false, false, k17⟩ o) : (State.lineSettle s d line).Sound
    ⟨false, k1, k2, k3, false, false, k6, false, false, k9, k10, k11, k12, k13, k14, false, false, k17⟩ o := by
  unfold State.lineSettle; try dsimp only
  repeat' first
    | with_reducible assumption | with_reducible intro _ | with_reducible apply State.cmoResume_sound
    | with_reducible apply State.proxyNote_sound | with_reducible apply State.onHome_sound
    | with_reducible apply ite_sound | with_reducible apply ite_fst_sound | split

theorem State.offDrop_sound {o : State} {s : State} {d : ℕ} {m : CMsg} (hS : s.Sound ⟨k0, k1, k2, k3, k4, k5, k6, k7,
    k8, k9, k10, k11, k12, k13, k14, false, false, k17⟩ o) : (State.offDrop s d m).Sound ⟨k0, k1, k2, k3, k4, k5, k6,
    k7, k8, k9, k10, k11, k12, k13, k14, false, false, k17⟩ o := by
  unfold State.offDrop; try dsimp only
  with_reducible repeat' first | assumption | intro _ | apply State.record_sound

theorem State.dataRow_sound {o : State} {s : State} {d : Nat} {m : CMsg} {c : Coh} (hS : s.Sound ⟨false, k1, k2,
    false, false, false, k6, false, false, k9, false, k11, k12, k13, k14, false, false, k17⟩ o) : (State.dataRow s d m
    c).Sound ⟨false, k1, k2, false, false, false, k6, false, false, k9, false, k11, k12, k13, k14, false, false, k17⟩
    o := by
  unfold State.dataRow; try dsimp only
  repeat' first
    | with_reducible assumption | with_reducible intro _ | with_reducible apply State.arrive_sound
    | with_reducible apply State.take_sound | with_reducible apply State.offDrop_sound
    | with_reducible apply State.grantData_sound | with_reducible apply State.lineSettle_sound
    | with_reducible apply State.tlbiSettle_sound | with_reducible apply ite_sound
    | with_reducible apply ite_fst_sound | split

theorem State.cmoDone_sound {o : State} {s : State} {q : Direct} {code : Nat} (hS : s.Sound ⟨false, k1, k2, k3, false,
    k5, k6, k7, k8, k9, k10, k11, k12, k13, k14, false, false, k17⟩ o) : (State.cmoDone s q code).Sound ⟨false, k1,
    k2, k3, false, k5, k6, k7, k8, k9, k10, k11, k12, k13, k14, false, false, k17⟩ o := by
  unfold State.cmoDone; try dsimp only
  repeat' first
    | with_reducible assumption | with_reducible intro _ | with_reducible apply State.dropDirect_sound
    | with_reducible apply State.cmoPart_sound | with_reducible apply State.dcUpd_sound
    | with_reducible apply State.readAcc_sound | with_reducible apply State.failAcc_sound
    | with_reducible apply ite_sound | with_reducible apply ite_fst_sound | split

theorem State.readDone_sound {o : State} {s : State} {m : CMsg} (hS : s.Sound ⟨false, k1, k2, k3, false, false, k6,
    k7, k8, k9, k10, false, false, false, k14, false, false, k17⟩ o) : (State.readDone s m).Sound ⟨false, k1, k2, k3,
    false, false, k6, k7, k8, k9, k10, false, false, false, k14, false, false, k17⟩ o := by
  unfold State.readDone; try dsimp only
  repeat' first
    | with_reducible assumption | with_reducible intro _ | with_reducible apply State.dropDirect_sound
    | with_reducible apply State.walkGot_sound | with_reducible apply State.deliver_sound
    | with_reducible apply State.hubDone_sound | with_reducible apply ite_sound | with_reducible apply ite_fst_sound
    | split

theorem State.compDone_sound {o : State} {s : State} {m : CMsg} {cont : Bool} (hS : s.Sound ⟨false, k1, k2, false,
    false, false, k6, false, false, k9, k10, false, false, false, k14, false, false, k17⟩ o) : (State.compDone s m
    cont).Sound ⟨false, k1, k2, false, false, false, k6, false, false, k9, k10, false, false, false, k14, false,
    false, k17⟩ o := by
  unfold State.compDone; try dsimp only
  repeat' first
    | with_reducible assumption | with_reducible intro _ | with_reducible apply State.onCache_sound
    | with_reducible apply State.missTry_sound | with_reducible apply State.lineSettle_sound
    | with_reducible apply State.dropDirect_sound | with_reducible apply State.wtDone_sound
    | with_reducible apply State.cmoDone_sound | with_reducible apply State.cmoResume_sound
    | with_reducible apply State.deliver_sound | with_reducible apply State.hubDone_sound
    | with_reducible apply ite_sound | with_reducible apply ite_fst_sound | split

theorem State.errDone_sound {o : State} {s : State} {m : CMsg} (hS : s.Sound ⟨false, k1, k2, k3, false, false, k6, k7,
    k8, k9, k10, false, false, false, k14, false, false, k17⟩ o) : (State.errDone s m).Sound ⟨false, k1, k2, k3,
    false, false, k6, k7, k8, k9, k10, false, false, false, k14, false, false, k17⟩ o := by
  unfold State.errDone; try dsimp only
  repeat' first
    | with_reducible assumption | with_reducible intro _ | with_reducible apply State.missFail_sound
    | with_reducible apply State.cmoResume_sound | with_reducible apply State.setBothCmo_sound
    | with_reducible apply State.cmoDone_sound | with_reducible apply State.dropDirect_sound
    | with_reducible apply State.walkGot_sound | with_reducible apply State.failAcc_sound
    | with_reducible apply State.hubDone_sound | with_reducible apply ite_sound | with_reducible apply ite_fst_sound
    | split

theorem State.atomicDone_sound {o : State} {s : State} {c : ℕ} {m : CMsg} {sole : Bool} (hS : s.Sound ⟨k0, k1, k2,
    k3, false, k5, k6, k7, k8, k9, k10, k11, k12, k13, k14, false, false, k17⟩ o) : (State.atomicDone s c m
    sole).Sound ⟨k0, k1, k2, k3, false, k5, k6, k7, k8, k9, k10, k11, k12, k13, k14, false, false, k17⟩ o := by
  unfold State.atomicDone; try dsimp only
  repeat' first
    | with_reducible assumption | with_reducible intro _ | with_reducible apply State.dropDirect_sound
    | with_reducible apply State.onCache_sound | with_reducible apply State.deliver_sound
    | with_reducible apply ite_sound | split

theorem State.directGo_sound {o : State} {s : State} {q : Direct} (hS : s.Sound ⟨false, k1, k2, k3, false, k5, k6, k7,
    k8, k9, k10, k11, k12, k13, k14, k15, false, k17⟩ o) : (State.directGo s q).Sound ⟨false, k1, k2, k3, false, k5,
    k6, k7, k8, k9, k10, k11, k12, k13, k14, k15, false, k17⟩ o := by
  unfold State.directGo; try dsimp only
  repeat' first
    | with_reducible assumption | with_reducible intro _ | with_reducible apply State.countTo_sound
    | with_reducible refine State.newTxn_sound' (by assumption) ?_ | with_reducible apply State.newTxn_sound
    | with_reducible apply State.onCache_sound | with_reducible apply State.send_sound
    | with_reducible apply ite_sound | with_reducible apply ite_fst_sound | split

theorem State.directKick_sound {o : State} {s : State} (hS : s.Sound ⟨false, k1, k2, k3, false, k5, k6, k7, k8, k9,
    k10, k11, k12, k13, k14, k15, false, k17⟩ o) : (State.directKick s).Sound ⟨false, k1, k2, k3, false, k5, k6, k7,
    k8, k9, k10, k11, k12, k13, k14, k15, false, k17⟩ o := by
  unfold State.directKick; try dsimp only
  repeat' first
    | with_reducible assumption | with_reducible intro _ | with_reducible apply State.directGo_sound
    | with_reducible apply ite_sound | with_reducible apply ite_fst_sound | with_reducible apply each_sound
    | with_reducible apply each_fst_sound | with_reducible refine each_fst_sound' (by assumption) ?_ ?_ | split

theorem State.ioSettle_sound {o : State} {s : State} (hS : s.Sound ⟨false, k1, k2, k3, false, k5, k6, k7, k8, k9,
    false, false, false, false, k14, false, false, k17⟩ o) : (State.ioSettle s).Sound ⟨false, k1, k2, k3, false, k5,
    k6, k7, k8, k9, false, false, false, false, k14, false, false, k17⟩ o := by
  unfold State.ioSettle; try dsimp only
  repeat' first
    | with_reducible assumption | with_reducible intro _ | with_reducible apply State.onLinks_sound
    | with_reducible apply State.agentKick_sound | with_reducible apply State.dmaKick_sound
    | with_reducible apply State.directKick_sound | with_reducible apply ite_sound
    | with_reducible apply ite_fst_sound | with_reducible apply each_sound | with_reducible apply each_fst_sound
    | with_reducible refine each_fst_sound' (by assumption) ?_ ?_ | split

theorem State.ioFreeze_sound {o : State} {s : State} {d : Nat} (hS : s.Sound ⟨k0, k1, k2, k3, k4, k5, k6, k7, k8, k9,
    false, k11, k12, k13, k14, k15, k16, k17⟩ o) : (State.ioFreeze s d).Sound ⟨k0, k1, k2, k3, k4, k5, k6, k7, k8, k9,
    false, k11, k12, k13, k14, k15, k16, k17⟩ o := by
  unfold State.ioFreeze; try dsimp only
  repeat' first
    | with_reducible assumption | with_reducible intro _ | with_reducible apply State.onLinks_sound
    | with_reducible apply ite_sound | with_reducible apply ite_fst_sound | split

theorem State.rspRow_sound {o : State} {s : State} {m : CMsg} {act : State → State} (h_act : ∀ (x0 : State), x0.Sound
    ⟨false, k1, k2, false, false, false, k6, k7, k8, k9, false, false, false, false, k14, false, false, k17⟩ o → (act
    x0).Sound ⟨false, k1, k2, false, false, false, k6, k7, k8, k9, false, false, false, false, k14, false, false, k17⟩
    o) (hS : s.Sound ⟨false, k1, k2, false, false, false, k6, k7, k8, k9, false, false, false, false, k14, false,
    false, k17⟩ o) : (State.rspRow s m act).Sound ⟨false, k1, k2, false, false, false, k6, k7, k8, k9, false, false,
    false, false, k14, false, false, k17⟩ o := by
  unfold State.rspRow; try dsimp only
  repeat' first
    | with_reducible assumption | with_reducible intro _ | with_reducible apply State.arrive_sound
    | with_reducible apply State.take_sound | with_reducible apply State.offDrop_sound
    | with_reducible apply State.accsSettle_sound | with_reducible apply State.directKick_sound
    | with_reducible apply State.ioSettle_sound | with_reducible apply h_act | with_reducible apply ite_sound
    | with_reducible apply ite_fst_sound | with_reducible apply each_sound | with_reducible apply each_fst_sound
    | with_reducible refine each_fst_sound' (by assumption) ?_ ?_ | split

theorem State.wbDone_sound {o : State} {s : State} {d : Nat} {line : Nat} (hS : s.Sound ⟨false, k1, k2, k3, false,
    false, k6, false, k8, k9, k10, k11, k12, k13, k14, false, false, k17⟩ o) : (State.wbDone s d line).Sound ⟨false,
    k1, k2, k3, false, false, k6, false, k8, k9, k10, k11, k12, k13, k14, false, false, k17⟩ o := by
  unfold State.wbDone; try dsimp only
  repeat' first
    | with_reducible assumption | with_reducible intro _ | with_reducible apply State.onCache_sound
    | with_reducible apply State.proxyDrop_sound | with_reducible apply State.sendMiss_sound
    | with_reducible apply State.directKick_sound | with_reducible apply State.cmoPart_sound
    | with_reducible apply State.cmoResume_sound | with_reducible apply ite_sound | with_reducible apply ite_fst_sound
    | with_reducible apply each_sound | with_reducible apply each_fst_sound
    | with_reducible refine each_fst_sound' (by assumption) ?_ ?_ | split

theorem State.retryMark_sound {o : State} {s : State} {m : CMsg} (hS : s.Sound ⟨false, k1, k2, k3, false, k5, k6, k7,
    k8, k9, k10, k11, false, false, k14, k15, false, k17⟩ o) : (State.retryMark s m).Sound ⟨false, k1, k2, k3, false,
    k5, k6, k7, k8, k9, k10, k11, false, false, k14, k15, false, k17⟩ o := by
  unfold State.retryMark; try dsimp only
  repeat' first
    | with_reducible assumption | with_reducible intro _ | with_reducible apply State.countMiss_sound
    | with_reducible apply State.count_sound | with_reducible apply State.onCache_sound
    | with_reducible apply State.countAcc_sound | with_reducible apply State.updSeg_sound
    | with_reducible apply State.setAgentQ_sound | with_reducible apply ite_sound | with_reducible apply ite_fst_sound
    | split

theorem State.reissue_sound {o : State} {s : State} {m : CMsg} (hS : s.Sound ⟨false, k1, k2, k3, false, k5, k6, k7,
    k8, k9, k10, false, false, false, k14, false, false, k17⟩ o) : (State.reissue s m).Sound ⟨false, k1, k2, k3,
    false, k5, k6, k7, k8, k9, k10, false, false, false, k14, false, false, k17⟩ o := by
  unfold State.reissue; try dsimp only
  repeat' first
    | with_reducible assumption | with_reducible intro _ | with_reducible apply State.onCache_sound
    | with_reducible apply State.send_sound | with_reducible apply State.dmaKick_sound
    | with_reducible apply State.agentKick_sound | with_reducible apply ite_sound | with_reducible apply ite_fst_sound
    | with_reducible apply each_sound | with_reducible apply each_fst_sound
    | with_reducible refine each_fst_sound' (by assumption) ?_ ?_ | split

end Sys2Proof.Machine
end

