-- ==== Sys2Proof/Laws/KeepCaches.lean ====
section
/-! SUPPORT. The operations of Machine/Caches.lean keep State.Sound. -/

namespace Sys2Proof.Machine

variable {k0 k1 k2 k3 k4 k5 k6 k7 k8 k9 k10 k11 k12 k13 k14 k15 k16 k17 : Bool}

theorem execCmoIssueClean_sound {o : State} {who : Sender} {blk : Core} {byKind : Fin 4} {level : Fin 4} {addr :
    LineNo} {user : Bool} {s : State} (hS : s.Sound ⟨false, k1, k2, k3, false, false, k6, k7, k8, k9, k10, k11, k12,
    k13, false, false, false, k17⟩ o) : OutSound ⟨false, k1, k2, k3, false, false, k6, k7, k8, k9, k10, k11, k12, k13,
    false, false, false, k17⟩ o (execCmoIssueClean who blk byKind level addr user s) := by
  unfold execCmoIssueClean; try dsimp only
  with_reducible repeat' first
    | assumption | intro _ | apply next_sound | apply ite_out_sound | apply State.cmoIssue_sound

theorem execCmoIssueInvalidate_sound {o : State} {who : Sender} {blk : Core} {byKind : Fin 4} {level : Fin 4} {addr :
    LineNo} {user : Bool} {s : State} (hS : s.Sound ⟨false, k1, k2, k3, false, false, k6, k7, k8, k9, k10, k11, k12,
    k13, false, false, false, k17⟩ o) : OutSound ⟨false, k1, k2, k3, false, false, k6, k7, k8, k9, k10, k11, k12, k13,
    false, false, false, k17⟩ o (execCmoIssueInvalidate who blk byKind level addr user s) := by
  unfold execCmoIssueInvalidate; try dsimp only
  with_reducible repeat' first
    | assumption | intro _ | apply next_sound | apply ite_out_sound | apply State.cmoIssue_sound

theorem execCmoIssueCleanInval_sound {o : State} {who : Sender} {blk : Core} {byKind : Fin 4} {level : Fin 4} {addr :
    LineNo} {user : Bool} {s : State} (hS : s.Sound ⟨false, k1, k2, k3, false, false, k6, k7, k8, k9, k10, k11, k12,
    k13, false, false, false, k17⟩ o) : OutSound ⟨false, k1, k2, k3, false, false, k6, k7, k8, k9, k10, k11, k12, k13,
    false, false, false, k17⟩ o (execCmoIssueCleanInval who blk byKind level addr user s) := by
  unfold execCmoIssueCleanInval; try dsimp only
  with_reducible repeat' first
    | assumption | intro _ | apply next_sound | apply ite_out_sound | apply State.cmoIssue_sound

theorem State.cmoWalkEnd_sound {o : State} {s : State} {c : Nat} (hS : s.Sound ⟨false, k1, k2, k3, false, k5, k6, k7,
    k8, k9, k10, k11, k12, k13, k14, false, false, k17⟩ o) : (State.cmoWalkEnd s c).Sound ⟨false, k1, k2, k3, false,
    k5, k6, k7, k8, k9, k10, k11, k12, k13, k14, false, false, k17⟩ o := by
  unfold State.cmoWalkEnd; try dsimp only
  repeat' first
    | with_reducible assumption | with_reducible intro _
    | with_reducible refine State.cmoWalk_sound' (by assumption) ?_ | with_reducible apply State.cmoWalk_sound
    | with_reducible apply State.cmoBegin_sound | with_reducible apply ite_sound | with_reducible apply ite_fst_sound
    | split

theorem execCmoWalkDone_sound {o : State} {c : Core} {s : State} (hS : s.Sound ⟨false, k1, k2, k3, false, k5, k6, k7,
    k8, k9, k10, k11, k12, k13, k14, false, false, k17⟩ o) : OutSound ⟨false, k1, k2, k3, false, k5, k6, k7, k8, k9,
    k10, k11, k12, k13, k14, false, false, k17⟩ o (execCmoWalkDone c s) := by
  unfold execCmoWalkDone; try dsimp only
  with_reducible repeat' first
    | assumption | intro _ | apply State.cmoWalkEnd_sound | apply ite_out_sound | apply next_sound | apply ite_sound
    | apply ite_fst_sound

theorem State.l1CtlOp_sound {o : State} {s : State} {w : Who} {c : ℕ} {v : Word} (hS : s.Sound ⟨false, k1, k2, k3,
    k4, k5, k6, k7, k8, k9, k10, k11, k12, k13, false, false, false, k17⟩ o) : (State.l1CtlOp s w c v).Sound ⟨false,
    k1, k2, k3, k4, k5, k6, k7, k8, k9, k10, k11, k12, k13, false, false, false, k17⟩ o := by
  unfold State.l1CtlOp; try dsimp only
  with_reducible repeat' first
    | assumption | intro _ | apply State.csGuard_sound | apply State.whoReply_sound | apply State.setF_sound
    | apply ite_sound | apply each_sound

theorem execL1CtlWrite_sound {o : State} {who : Sender} {c : Core} {en : Bool} {s : State} (hS : s.Sound ⟨false, k1,
    k2, k3, k4, k5, k6, k7, k8, k9, k10, k11, k12, k13, false, false, false, k17⟩ o) : OutSound ⟨false, k1, k2, k3,
    k4, k5, k6, k7, k8, k9, k10, k11, k12, k13, false, false, false, k17⟩ o (execL1CtlWrite who c en s) := by
  unfold execL1CtlWrite; try dsimp only
  with_reducible repeat' first
    | assumption | intro _ | apply next_sound | apply ite_out_sound | apply State.l1CtlOp_sound

theorem State.dcCtlOp_sound {o : State} {s : State} {w : Who} {d : ℕ} {v : Word} (hS : s.Sound ⟨false, k1, k2, k3,
    k4, k5, k6, k7, k8, k9, k10, k11, k12, k13, false, false, false, k17⟩ o) : (State.dcCtlOp s w d v).Sound ⟨false,
    k1, k2, k3, k4, k5, k6, k7, k8, k9, k10, k11, k12, k13, false, false, false, k17⟩ o := by
  unfold State.dcCtlOp; try dsimp only
  with_reducible repeat' first
    | assumption | intro _ | apply State.csGuard_sound | apply State.whoReply_sound | apply State.setF_sound
    | apply State.record_sound | apply ite_sound

theorem execDcCtlWrite_sound {o : State} {who : Sender} {d : Die} {en : Bool} {s : State} (hS : s.Sound ⟨false, k1,
    k2, k3, k4, k5, k6, k7, k8, k9, k10, k11, k12, k13, false, false, false, k17⟩ o) : OutSound ⟨false, k1, k2, k3,
    k4, k5, k6, k7, k8, k9, k10, k11, k12, k13, false, false, false, k17⟩ o (execDcCtlWrite who d en s) := by
  unfold execDcCtlWrite; try dsimp only
  with_reducible repeat' first
    | assumption | intro _ | apply next_sound | apply ite_out_sound | apply State.dcCtlOp_sound

theorem State.arrayFixed_sound {o : State} {s : State} {c : ℕ} (hS : s.Sound ⟨false, k1, k2, k3, k4, k5, k6, k7, k8,
    k9, k10, k11, k12, k13, k14, k15, k16, k17⟩ o) : (State.arrayFixed s c).Sound ⟨false, k1, k2, k3, k4, k5, k6, k7,
    k8, k9, k10, k11, k12, k13, k14, k15, k16, k17⟩ o := by
  unfold State.arrayFixed; try dsimp only
  with_reducible repeat' first | assumption | intro _ | apply State.incF_sound

theorem State.tlbLost_sound {o : State} {s : State} {c : Nat} {e : TlbEnt} (hS : s.Sound ⟨false, k1, k2, k3, k4,
    false, k6, k7, k8, k9, k10, k11, k12, k13, k14, k15, k16, k17⟩ o) : (State.tlbLost s c e).Sound ⟨false, k1, k2,
    k3, k4, false, k6, k7, k8, k9, k10, k11, k12, k13, k14, k15, k16, k17⟩ o := by
  unfold State.tlbLost; try dsimp only
  repeat' first
    | with_reducible assumption | with_reducible intro _ | with_reducible apply State.onXlat_sound
    | with_reducible apply State.arrayFixed_sound | with_reducible apply ite_sound
    | with_reducible apply ite_fst_sound | split

theorem State.coreArrayError_sound {o : State} {s : State} {level : Nat} {c : Nat} {set : Nat} {way : Nat} {sector :
    Nat} (hS : s.Sound ⟨false, k1, k2, k3, false, false, k6, false, false, false, k10, k11, k12, k13, k14, false,
    false, k17⟩ o) : (State.coreArrayError s level c set way sector).Sound ⟨false, k1, k2, k3, false, false, k6,
    false, false, false, k10, k11, k12, k13, k14, false, false, k17⟩ o := by
  unfold State.coreArrayError; try dsimp only
  repeat' first
    | with_reducible assumption | with_reducible intro _ | with_reducible apply State.arrayFixed_sound
    | with_reducible apply State.onXlat_sound | with_reducible apply State.tlbLost_sound
    | with_reducible apply State.dropLine_sound | with_reducible apply State.poisonAny_sound
    | with_reducible apply State.record_sound | with_reducible apply State.toCore_sound
    | with_reducible apply State.onCache_sound | with_reducible apply ite_sound | with_reducible apply ite_fst_sound
    | split

theorem State.dcArrayError_sound {o : State} {s : State} {c : Nat} {set : Nat} {way : Nat} {correctable : Bool} (hS :
    s.Sound ⟨false, k1, k2, k3, false, k5, k6, false, false, false, k10, k11, k12, k13, k14, false, false, k17⟩ o) :
    (State.dcArrayError s c set way correctable).Sound ⟨false, k1, k2, k3, false, k5, k6, false, false, false, k10,
    k11, k12, k13, k14, false, false, k17⟩ o := by
  unfold State.dcArrayError; try dsimp only
  with_reducible repeat' first
    | assumption | intro _ | apply State.incF_sound | apply State.dropLine_sound | apply State.poisonAny_sound
    | apply State.record_sound | apply State.toCore_sound | apply State.dcRequest_sound | apply ite_sound
    | apply ite_fst_sound

theorem execCacheArrayError_sound {o : State} {level : Fin 5} {unit : Core} {set : Nat} {way : Nat} {sector : Fin 4}
    {correctable : Bool} {s : State} (hS : s.Sound ⟨false, k1, k2, k3, false, false, k6, false, false, false, k10,
    k11, k12, k13, k14, false, false, k17⟩ o) : OutSound ⟨false, k1, k2, k3, false, false, k6, false, false, false,
    k10, k11, k12, k13, k14, false, false, k17⟩ o (execCacheArrayError level unit set way sector correctable s) := by
  unfold execCacheArrayError; try dsimp only
  with_reducible repeat' first
    | assumption | intro _ | apply State.dcArrayError_sound | apply State.coreArrayError_sound | apply ite_out_sound
    | apply next_sound | apply ite_sound | apply ite_fst_sound

end Sys2Proof.Machine
end

