-- ==== Sys2Proof/Laws/KeepCoherence.lean ====
section
/-! SUPPORT. The operations of Machine/Coherence.lean keep State.Sound. -/

namespace Sys2Proof.Machine

variable {k0 k1 k2 k3 k4 k5 k6 k7 k8 k9 k10 k11 k12 k13 k14 k15 k16 k17 : Bool}

theorem execRdShared_sound {o : State} {h : Hub} {m : CMsg} {s : State} (hS : s.Sound ⟨false, k1, k2, k3, false, k5,
    false, false, false, false, false, false, k12, k13, k14, false, false, k17⟩ o) : OutSound ⟨false, k1, k2, k3,
    false, k5, false, false, false, false, false, false, k12, k13, k14, false, false, k17⟩ o (execRdShared h m s) :=
    by
  unfold execRdShared; try dsimp only
  with_reducible repeat' first
    | assumption | intro _ | apply State.reqRow_sound | apply ite_out_sound | apply next_sound | apply ite_sound
    | apply ite_fst_sound

theorem execRdUnique_sound {o : State} {h : Hub} {m : CMsg} {s : State} (hS : s.Sound ⟨false, k1, k2, k3, false, k5,
    false, false, false, false, false, false, k12, k13, k14, false, false, k17⟩ o) : OutSound ⟨false, k1, k2, k3,
    false, k5, false, false, false, false, false, false, k12, k13, k14, false, false, k17⟩ o (execRdUnique h m s) :=
    by
  unfold execRdUnique; try dsimp only
  with_reducible repeat' first
    | assumption | intro _ | apply State.reqRow_sound | apply ite_out_sound | apply next_sound | apply ite_sound
    | apply ite_fst_sound

theorem execUpgrade_sound {o : State} {h : Hub} {m : CMsg} {s : State} (hS : s.Sound ⟨false, k1, k2, k3, false, k5,
    false, false, false, false, false, false, k12, k13, k14, false, false, k17⟩ o) : OutSound ⟨false, k1, k2, k3,
    false, k5, false, false, false, false, false, false, k12, k13, k14, false, false, k17⟩ o (execUpgrade h m s) := by
  unfold execUpgrade; try dsimp only
  with_reducible repeat' first
    | assumption | intro _ | apply State.reqRow_sound | apply ite_out_sound | apply next_sound | apply ite_sound
    | apply ite_fst_sound

theorem execWtWrite_sound {o : State} {h : Hub} {m : CMsg} {s : State} (hS : s.Sound ⟨false, k1, k2, k3, false, k5,
    false, false, false, false, false, false, k12, k13, k14, false, false, k17⟩ o) : OutSound ⟨false, k1, k2, k3,
    false, k5, false, false, false, false, false, false, k12, k13, k14, false, false, k17⟩ o (execWtWrite h m s) := by
  unfold execWtWrite; try dsimp only
  with_reducible repeat' first
    | assumption | intro _ | apply State.reqRow_sound | apply ite_out_sound | apply next_sound | apply ite_sound
    | apply ite_fst_sound

theorem execFarAtomic_sound {o : State} {h : Hub} {m : CMsg} {s : State} (hS : s.Sound ⟨false, k1, k2, k3, false, k5,
    false, false, false, false, false, false, k12, k13, k14, false, false, k17⟩ o) : OutSound ⟨false, k1, k2, k3,
    false, k5, false, false, false, false, false, false, k12, k13, k14, false, false, k17⟩ o (execFarAtomic h m s) :=
    by
  unfold execFarAtomic; try dsimp only
  with_reducible repeat' first
    | assumption | intro _ | apply State.reqRow_sound | apply State.farAtomic_sound | apply ite_out_sound
    | apply next_sound | apply ite_sound | apply ite_fst_sound

theorem execCmoClean_sound {o : State} {h : Hub} {m : CMsg} {s : State} (hS : s.Sound ⟨false, k1, k2, k3, false, k5,
    false, false, false, false, false, false, k12, k13, k14, false, false, k17⟩ o) : OutSound ⟨false, k1, k2, k3,
    false, k5, false, false, false, false, false, false, k12, k13, k14, false, false, k17⟩ o (execCmoClean h m s) :=
    by
  unfold execCmoClean; try dsimp only
  with_reducible repeat' first
    | assumption | intro _ | apply State.reqRow_sound | apply ite_out_sound | apply next_sound | apply ite_sound
    | apply ite_fst_sound

theorem execCmoCleanInv_sound {o : State} {h : Hub} {m : CMsg} {s : State} (hS : s.Sound ⟨false, k1, k2, k3, false, k5, false, false, false, false, false, false, k12, k13, k14, false, false, k17⟩ o) : OutSound ⟨false, k1, k2, k3, false, k5, false, false, false, false, false, false, k12, k13, k14, false, false, k17⟩ o (execCmoCleanInv h m s) :=
    by
  unfold execCmoCleanInv; try dsimp only
  with_reducible repeat' first
    | assumption | intro _ | apply next_sound | apply ite_out_sound | apply State.reqRow_sound

theorem execDmaRd_sound {o : State} {h : Hub} {m : CMsg} {s : State} (hS : s.Sound ⟨false, k1, k2, k3, false, k5,
    false, false, false, false, false, false, k12, k13, k14, false, false, k17⟩ o) : OutSound ⟨false, k1, k2, k3,
    false, k5, false, false, false, false, false, false, k12, k13, k14, false, false, k17⟩ o (execDmaRd h m s) := by
  unfold execDmaRd; try dsimp only
  with_reducible repeat' first
    | assumption | intro _ | apply State.reqRow_sound | apply ite_out_sound | apply next_sound | apply ite_sound
    | apply ite_fst_sound

theorem execDmaWr_sound {o : State} {h : Hub} {m : CMsg} {s : State} (hS : s.Sound ⟨false, k1, k2, k3, false, k5,
    false, false, false, false, false, false, k12, k13, k14, false, false, k17⟩ o) : OutSound ⟨false, k1, k2, k3,
    false, k5, false, false, false, false, false, false, k12, k13, k14, false, false, k17⟩ o (execDmaWr h m s) := by
  unfold execDmaWr; try dsimp only
  with_reducible repeat' first
    | assumption | intro _ | apply State.reqRow_sound | apply ite_out_sound | apply next_sound | apply ite_sound
    | apply ite_fst_sound

theorem execUcAtomic_sound {o : State} {h : Hub} {m : CMsg} {s : State} (hS : s.Sound ⟨false, k1, k2, k3, false, k5,
    false, false, false, false, false, false, k12, k13, k14, false, false, k17⟩ o) : OutSound ⟨false, k1, k2, k3,
    false, k5, false, false, false, false, false, false, k12, k13, k14, false, false, k17⟩ o (execUcAtomic h m s) :=
    by
  unfold execUcAtomic; try dsimp only
  with_reducible repeat' first
    | assumption | intro _ | apply State.reqRow_sound | apply ite_out_sound | apply next_sound | apply ite_sound
    | apply ite_fst_sound

theorem execSnpShared_sound {o : State} {u : Fin 14} {m : CMsg} {s : State} (hS : s.Sound ⟨false, k1, k2, false,
    false, k5, k6, false, false, false, false, k11, k12, k13, k14, false, false, k17⟩ o) : OutSound ⟨false, k1, k2,
    false, false, k5, k6, false, false, false, false, k11, k12, k13, k14, false, false, k17⟩ o (execSnpShared u m s)
    := by
  unfold execSnpShared; try dsimp only
  with_reducible repeat' first
    | assumption | intro _ | apply next_sound | apply ite_out_sound | apply State.arrive_sound
    | apply State.snoopRow_sound

theorem execSnpUnique_sound {o : State} {u : Fin 14} {m : CMsg} {s : State} (hS : s.Sound ⟨false, k1, k2, false,
    false, k5, k6, false, false, false, false, k11, k12, k13, k14, false, false, k17⟩ o) : OutSound ⟨false, k1, k2,
    false, false, k5, k6, false, false, false, false, k11, k12, k13, k14, false, false, k17⟩ o (execSnpUnique u m s)
    := by
  unfold execSnpUnique; try dsimp only
  with_reducible repeat' first
    | assumption | intro _ | apply next_sound | apply ite_out_sound | apply State.arrive_sound
    | apply State.snoopRow_sound

theorem execSnpInv_sound {o : State} {u : Fin 14} {m : CMsg} {s : State} (hS : s.Sound ⟨false, k1, k2, false, false,
    k5, k6, false, false, false, false, k11, k12, k13, k14, false, false, k17⟩ o) : OutSound ⟨false, k1, k2, false,
    false, k5, k6, false, false, false, false, k11, k12, k13, k14, false, false, k17⟩ o (execSnpInv u m s) := by
  unfold execSnpInv; try dsimp only
  with_reducible repeat' first
    | assumption | intro _ | apply next_sound | apply ite_out_sound | apply State.arrive_sound
    | apply State.snoopRow_sound

theorem execSnpClean_sound {o : State} {u : Fin 14} {m : CMsg} {s : State} (hS : s.Sound ⟨false, k1, k2, false,
    false, k5, k6, false, false, false, false, k11, k12, k13, k14, false, false, k17⟩ o) : OutSound ⟨false, k1, k2,
    false, false, k5, k6, false, false, false, false, k11, k12, k13, k14, false, false, k17⟩ o (execSnpClean u m s) :=
    by
  unfold execSnpClean; try dsimp only
  with_reducible repeat' first
    | assumption | intro _ | apply next_sound | apply ite_out_sound | apply State.arrive_sound
    | apply State.snoopRow_sound

theorem execSnpRecall_sound {o : State} {u : Fin 14} {m : CMsg} {s : State} (hS : s.Sound ⟨false, k1, k2, false,
    false, k5, k6, false, false, false, false, k11, k12, k13, k14, false, false, k17⟩ o) : OutSound ⟨false, k1, k2,
    false, false, k5, k6, false, false, false, false, k11, k12, k13, k14, false, false, k17⟩ o (execSnpRecall u m s)
    := by
  unfold execSnpRecall; try dsimp only
  with_reducible repeat' first
    | assumption | intro _ | apply next_sound | apply ite_out_sound | apply State.arrive_sound
    | apply State.snoopRow_sound

theorem execSnpOrderShared_sound {o : State} {u : Fin 14} {m : CMsg} {s : State} (hS : s.Sound ⟨false, k1, k2, false,
    false, k5, k6, false, false, false, false, k11, k12, k13, k14, false, false, k17⟩ o) : OutSound ⟨false, k1, k2,
    false, false, k5, k6, false, false, false, false, k11, k12, k13, k14, false, false, k17⟩ o (execSnpOrderShared u m
    s) := by
  unfold execSnpOrderShared; try dsimp only
  with_reducible repeat' first
    | assumption | intro _ | apply next_sound | apply ite_out_sound | apply State.arrive_sound
    | apply State.snoopRow_sound

theorem execSnpOrderUnique_sound {o : State} {u : Fin 14} {m : CMsg} {s : State} (hS : s.Sound ⟨false, k1, k2, false,
    false, k5, k6, false, false, false, false, k11, k12, k13, k14, false, false, k17⟩ o) : OutSound ⟨false, k1, k2,
    false, false, k5, k6, false, false, false, false, k11, k12, k13, k14, false, false, k17⟩ o (execSnpOrderUnique u m
    s) := by
  unfold execSnpOrderUnique; try dsimp only
  with_reducible repeat' first
    | assumption | intro _ | apply next_sound | apply ite_out_sound | apply State.arrive_sound
    | apply State.snoopRow_sound

theorem execSnpOrderRecall_sound {o : State} {u : Fin 14} {m : CMsg} {s : State} (hS : s.Sound ⟨false, k1, k2, false,
    false, k5, k6, false, false, false, false, k11, k12, k13, k14, false, false, k17⟩ o) : OutSound ⟨false, k1, k2,
    false, false, k5, k6, false, false, false, false, k11, k12, k13, k14, false, false, k17⟩ o (execSnpOrderRecall u m
    s) := by
  unfold execSnpOrderRecall; try dsimp only
  with_reducible repeat' first
    | assumption | intro _ | apply next_sound | apply ite_out_sound | apply State.arrive_sound
    | apply State.snoopRow_sound

theorem execWbDirty_sound {o : State} {h : Hub} {m : CMsg} {s : State} (hS : s.Sound ⟨false, k1, k2, k3, k4, k5, k6,
    false, false, false, false, k11, k12, k13, k14, false, false, k17⟩ o) : OutSound ⟨false, k1, k2, k3, k4, k5, k6,
    false, false, false, false, k11, k12, k13, k14, false, false, k17⟩ o (execWbDirty h m s) := by
  unfold execWbDirty; try dsimp only
  with_reducible repeat' first
    | assumption | intro _ | apply next_sound | apply ite_out_sound | apply State.arrive_sound
    | apply State.wbAt_sound

theorem execEvictClean_sound {o : State} {h : Hub} {m : CMsg} {s : State} (hS : s.Sound ⟨false, k1, k2, k3, k4, k5,
    k6, false, false, false, false, k11, k12, k13, k14, false, false, k17⟩ o) : OutSound ⟨false, k1, k2, k3, k4, k5,
    k6, false, false, false, false, k11, k12, k13, k14, false, false, k17⟩ o (execEvictClean h m s) := by
  unfold execEvictClean; try dsimp only
  with_reducible repeat' first
    | assumption | intro _ | apply next_sound | apply ite_out_sound | apply State.arrive_sound
    | apply State.wbAt_sound

theorem execWbLost_sound {o : State} {h : Hub} {m : CMsg} {s : State} (hS : s.Sound ⟨false, k1, k2, k3, k4, k5, k6,
    false, false, k9, false, k11, k12, k13, k14, k15, false, k17⟩ o) : OutSound ⟨false, k1, k2, k3, k4, k5, k6, false,
    false, k9, false, k11, k12, k13, k14, k15, false, k17⟩ o (execWbLost h m s) := by
  unfold execWbLost; try dsimp only
  repeat' first
    | with_reducible assumption | with_reducible intro _ | with_reducible apply State.arrive_sound
    | with_reducible apply State.wbAt_sound | with_reducible apply ite_out_sound | with_reducible apply next_sound
    | with_reducible apply ite_sound | with_reducible apply ite_fst_sound | split

theorem execDataS_sound {o : State} {d : Die} {m : CMsg} {s : State} (hS : s.Sound ⟨false, k1, k2, false, false,
    false, k6, false, false, false, false, k11, k12, k13, k14, false, false, k17⟩ o) : OutSound ⟨false, k1, k2, false,
    false, false, k6, false, false, false, false, k11, k12, k13, k14, false, false, k17⟩ o (execDataS d m s) := by
  unfold execDataS; try dsimp only
  with_reducible repeat' first
    | assumption | intro _ | apply State.dataRow_sound | apply ite_out_sound | apply next_sound | apply ite_sound
    | apply ite_fst_sound

theorem execDataE_sound {o : State} {d : Die} {m : CMsg} {s : State} (hS : s.Sound ⟨false, k1, k2, false, false,
    false, k6, false, false, false, false, k11, k12, k13, k14, false, false, k17⟩ o) : OutSound ⟨false, k1, k2, false,
    false, false, k6, false, false, false, false, k11, k12, k13, k14, false, false, k17⟩ o (execDataE d m s) := by
  unfold execDataE; try dsimp only
  with_reducible repeat' first
    | assumption | intro _ | apply State.dataRow_sound | apply ite_out_sound | apply next_sound | apply ite_sound
    | apply ite_fst_sound

theorem execDataM_sound {o : State} {d : Die} {m : CMsg} {s : State} (hS : s.Sound ⟨false, k1, k2, false, false,
    false, k6, false, false, false, false, k11, k12, k13, k14, false, false, k17⟩ o) : OutSound ⟨false, k1, k2, false,
    false, false, k6, false, false, false, false, k11, k12, k13, k14, false, false, k17⟩ o (execDataM d m s) := by
  unfold execDataM; try dsimp only
  with_reducible repeat' first
    | assumption | intro _ | apply State.dataRow_sound | apply ite_out_sound | apply next_sound | apply ite_sound
    | apply ite_fst_sound

theorem execDataO_sound {o : State} {d : Die} {m : CMsg} {s : State} (hS : s.Sound ⟨false, k1, k2, false, false,
    false, k6, false, false, false, false, k11, k12, k13, k14, false, false, k17⟩ o) : OutSound ⟨false, k1, k2, false,
    false, false, k6, false, false, false, false, k11, k12, k13, k14, false, false, k17⟩ o (execDataO d m s) := by
  unfold execDataO; try dsimp only
  with_reducible repeat' first
    | assumption | intro _ | apply State.dataRow_sound | apply ite_out_sound | apply next_sound | apply ite_sound
    | apply ite_fst_sound

theorem execSnpData_sound {o : State} {h : Hub} {m : CMsg} {s : State} (hS : s.Sound ⟨false, k1, k2, k3, false, k5,
    false, false, false, false, false, false, k12, k13, k14, false, false, k17⟩ o) : OutSound ⟨false, k1, k2, k3,
    false, k5, false, false, false, false, false, false, k12, k13, k14, false, false, k17⟩ o (execSnpData h m s) := by
  unfold execSnpData; try dsimp only
  repeat' first
    | with_reducible assumption | with_reducible intro _ | with_reducible apply State.arrive_sound
    | with_reducible apply State.rspAt_sound | with_reducible apply ite_out_sound | with_reducible apply next_sound
    | with_reducible apply ite_sound | with_reducible apply ite_fst_sound | split

theorem execDataUc_sound {o : State} {m : CMsg} {s : State} (hS : s.Sound ⟨false, k1, k2, false, false, false, k6, k7,
    k8, k9, false, false, false, false, k14, false, false, k17⟩ o) : OutSound ⟨false, k1, k2, false, false, false, k6,
    k7, k8, k9, false, false, false, false, k14, false, false, k17⟩ o (execDataUc m s) := by
  unfold execDataUc; try dsimp only
  repeat' first
    | with_reducible assumption | with_reducible intro _ | with_reducible apply State.rspRow_sound
    | with_reducible apply State.readDone_sound | with_reducible apply ite_out_sound | with_reducible apply next_sound
    | with_reducible apply ite_sound | with_reducible apply ite_fst_sound | split

theorem execAtomicData_sound {o : State} {c : Core} {m : CMsg} {s : State} (hS : s.Sound ⟨false, k1, k2, false, false,
    false, k6, k7, k8, k9, false, false, false, false, k14, false, false, k17⟩ o) : OutSound ⟨false, k1, k2, false,
    false, false, k6, k7, k8, k9, false, false, false, false, k14, false, false, k17⟩ o (execAtomicData c m s) := by
  unfold execAtomicData; try dsimp only
  repeat' first
    | with_reducible assumption | with_reducible intro _ | with_reducible apply State.rspRow_sound
    | with_reducible apply State.atomicDone_sound | with_reducible apply ite_out_sound
    | with_reducible apply next_sound | with_reducible apply ite_sound | with_reducible apply ite_fst_sound | split

theorem execAtomicDataSole_sound {o : State} {c : Core} {m : CMsg} {s : State} (hS : s.Sound ⟨false, k1, k2, false,
    false, false, k6, k7, k8, k9, false, false, false, false, k14, false, false, k17⟩ o) : OutSound ⟨false, k1, k2,
    false, false, false, k6, k7, k8, k9, false, false, false, false, k14, false, false, k17⟩ o (execAtomicDataSole c m
    s) := by
  unfold execAtomicDataSole; try dsimp only
  repeat' first
    | with_reducible assumption | with_reducible intro _ | with_reducible apply State.rspRow_sound
    | with_reducible apply State.atomicDone_sound | with_reducible apply ite_out_sound
    | with_reducible apply next_sound | with_reducible apply ite_sound | with_reducible apply ite_fst_sound | split

theorem execComp_sound {o : State} {m : CMsg} {s : State} (hS : s.Sound ⟨false, k1, k2, false, false, false, k6,
    false, false, false, false, false, false, false, k14, false, false, k17⟩ o) : OutSound ⟨false, k1, k2, false,
    false, false, k6, false, false, false, false, false, false, false, k14, false, false, k17⟩ o (execComp m s) := by
  unfold execComp; try dsimp only
  repeat' first
    | with_reducible assumption | with_reducible intro _ | with_reducible apply State.rspRow_sound
    | with_reducible apply State.compDone_sound | with_reducible apply ite_out_sound | with_reducible apply next_sound
    | with_reducible apply ite_sound | with_reducible apply ite_fst_sound | split

theorem execCompContended_sound {o : State} {m : CMsg} {s : State} (hS : s.Sound ⟨false, k1, k2, false, false, false,
    k6, false, false, false, false, false, false, false, k14, false, false, k17⟩ o) : OutSound ⟨false, k1, k2, false,
    false, false, k6, false, false, false, false, false, false, false, k14, false, false, k17⟩ o (execCompContended m
    s) := by
  unfold execCompContended; try dsimp only
  repeat' first
    | with_reducible assumption | with_reducible intro _ | with_reducible apply State.rspRow_sound
    | with_reducible apply State.compDone_sound | with_reducible apply ite_out_sound | with_reducible apply next_sound
    | with_reducible apply ite_sound | with_reducible apply ite_fst_sound | split

theorem execCompAck_sound {o : State} {h : Hub} {m : CMsg} {s : State} (hS : s.Sound ⟨false, k1, k2, k3, false, k5,
    false, false, false, false, false, false, k12, k13, k14, false, false, k17⟩ o) : OutSound ⟨false, k1, k2, k3,
    false, k5, false, false, false, false, false, false, k12, k13, k14, false, false, k17⟩ o (execCompAck h m s) := by
  unfold execCompAck; try dsimp only
  repeat' first
    | with_reducible assumption | with_reducible intro _ | with_reducible apply State.arrive_sound
    | with_reducible apply State.take_sound | with_reducible apply State.compAckAt_sound
    | with_reducible apply ite_out_sound | with_reducible apply next_sound | with_reducible apply ite_sound
    | with_reducible apply ite_fst_sound | split

theorem execSnpRspI_sound {o : State} {h : Hub} {m : CMsg} {s : State} (hS : s.Sound ⟨false, k1, k2, k3, false, k5,
    false, false, false, false, false, false, k12, k13, k14, false, false, k17⟩ o) : OutSound ⟨false, k1, k2, k3,
    false, k5, false, false, false, false, false, false, k12, k13, k14, false, false, k17⟩ o (execSnpRspI h m s) := by
  unfold execSnpRspI; try dsimp only
  repeat' first
    | with_reducible assumption | with_reducible intro _ | with_reducible apply State.arrive_sound
    | with_reducible apply State.rspAt_sound | with_reducible apply ite_out_sound | with_reducible apply next_sound
    | with_reducible apply ite_sound | with_reducible apply ite_fst_sound | split

theorem execSnpRspS_sound {o : State} {h : Hub} {m : CMsg} {s : State} (hS : s.Sound ⟨false, k1, k2, k3, false, k5,
    false, false, false, false, false, false, k12, k13, k14, false, false, k17⟩ o) : OutSound ⟨false, k1, k2, k3,
    false, k5, false, false, false, false, false, false, k12, k13, k14, false, false, k17⟩ o (execSnpRspS h m s) := by
  unfold execSnpRspS; try dsimp only
  repeat' first
    | with_reducible assumption | with_reducible intro _ | with_reducible apply State.arrive_sound
    | with_reducible apply State.rspAt_sound | with_reducible apply ite_out_sound | with_reducible apply next_sound
    | with_reducible apply ite_sound | with_reducible apply ite_fst_sound | split

theorem execSnpRspFwdClean_sound {o : State} {h : Hub} {m : CMsg} {s : State} (hS : s.Sound ⟨false, k1, k2, k3, false,
    k5, false, false, false, false, false, false, k12, k13, k14, false, false, k17⟩ o) : OutSound ⟨false, k1, k2, k3,
    false, k5, false, false, false, false, false, false, k12, k13, k14, false, false, k17⟩ o (execSnpRspFwdClean h m
    s) := by
  unfold execSnpRspFwdClean; try dsimp only
  repeat' first
    | with_reducible assumption | with_reducible intro _ | with_reducible apply State.arrive_sound
    | with_reducible apply State.rspAt_sound | with_reducible apply ite_out_sound | with_reducible apply next_sound
    | with_reducible apply ite_sound | with_reducible apply ite_fst_sound | split

theorem execSnpRspFwdDirty_sound {o : State} {h : Hub} {m : CMsg} {s : State} (hS : s.Sound ⟨false, k1, k2, k3, false,
    k5, false, false, false, false, false, false, k12, k13, k14, false, false, k17⟩ o) : OutSound ⟨false, k1, k2, k3,
    false, k5, false, false, false, false, false, false, k12, k13, k14, false, false, k17⟩ o (execSnpRspFwdDirty h m
    s) := by
  unfold execSnpRspFwdDirty; try dsimp only
  repeat' first
    | with_reducible assumption | with_reducible intro _ | with_reducible apply State.arrive_sound
    | with_reducible apply State.rspAt_sound | with_reducible apply ite_out_sound | with_reducible apply next_sound
    | with_reducible apply ite_sound | with_reducible apply ite_fst_sound | split

theorem execSnpRspPassed_sound {o : State} {h : Hub} {m : CMsg} {s : State} (hS : s.Sound ⟨false, k1, k2, k3, false, k5, false, false, false, false, false, false, k12, k13, k14, false, false, k17⟩ o) : OutSound ⟨false, k1, k2, k3, false, k5, false, false, false, false, false, false, k12, k13, k14, false, false, k17⟩ o (execSnpRspPassed h m s) :=
    by
  unfold execSnpRspPassed; try dsimp only
  with_reducible repeat' first
    | assumption | intro _ | apply next_sound | apply ite_out_sound | apply State.arrive_sound
    | apply State.rspAt_sound

theorem execWbAck_sound {o : State} {d : Die} {m : CMsg} {s : State} (hS : s.Sound ⟨false, k1, k2, false, false,
    false, k6, false, k8, k9, false, false, false, false, k14, false, false, k17⟩ o) : OutSound ⟨false, k1, k2, false,
    false, false, k6, false, k8, k9, false, false, false, false, k14, false, false, k17⟩ o (execWbAck d m s) := by
  unfold execWbAck; try dsimp only
  repeat' first
    | with_reducible assumption | with_reducible intro _ | with_reducible apply State.rspRow_sound
    | with_reducible apply State.wbDone_sound | with_reducible apply State.proxyWbDone_sound
    | with_reducible apply ite_out_sound | with_reducible apply next_sound | with_reducible apply ite_sound
    | with_reducible apply ite_fst_sound | split

theorem execRetry_sound {o : State} {m : CMsg} {s : State} (hS : s.Sound ⟨false, k1, k2, k3, false, k5, k6, k7, k8,
    k9, false, k11, false, false, k14, k15, false, k17⟩ o) : OutSound ⟨false, k1, k2, k3, false, k5, k6, k7, k8, k9,
    false, k11, false, false, k14, k15, false, k17⟩ o (execRetry m s) := by
  unfold execRetry; try dsimp only
  repeat' first
    | with_reducible assumption | with_reducible intro _ | with_reducible apply State.arrive_sound
    | with_reducible apply State.take_sound | with_reducible apply State.retryMark_sound
    | with_reducible apply ite_out_sound | with_reducible apply next_sound | with_reducible apply ite_sound
    | with_reducible apply ite_fst_sound | split

theorem execRetryReissue_sound {o : State} {m : CMsg} {s : State} (hS : s.Sound ⟨false, k1, k2, k3, false, k5, k6, k7,
    k8, k9, k10, false, false, false, k14, false, false, k17⟩ o) : OutSound ⟨false, k1, k2, k3, false, k5, k6, k7, k8,
    k9, k10, false, false, false, k14, false, false, k17⟩ o (execRetryReissue m s) := by
  unfold execRetryReissue; try dsimp only
  with_reducible repeat' first
    | assumption | intro _ | apply State.reissue_sound | apply ite_out_sound | apply next_sound | apply ite_sound
    | apply ite_fst_sound

theorem execBusErr_sound {o : State} {m : CMsg} {s : State} (hS : s.Sound ⟨false, k1, k2, false, false, false, k6, k7,
    k8, k9, false, false, false, false, k14, false, false, k17⟩ o) : OutSound ⟨false, k1, k2, false, false, false, k6,
    k7, k8, k9, false, false, false, false, k14, false, false, k17⟩ o (execBusErr m s) := by
  unfold execBusErr; try dsimp only
  repeat' first
    | with_reducible assumption | with_reducible intro _ | with_reducible apply State.rspRow_sound
    | with_reducible apply State.errDone_sound | with_reducible apply ite_out_sound | with_reducible apply next_sound
    | with_reducible apply ite_sound | with_reducible apply ite_fst_sound | split

theorem execDirSweepDone_sound {o : State} {h : Hub} {s : State} (hS : s.Sound ⟨false, k1, k2, k3, k4, k5, k6, false,
    k8, k9, k10, k11, k12, k13, k14, k15, k16, k17⟩ o) : OutSound ⟨false, k1, k2, k3, k4, k5, k6, false, k8, k9, k10,
    k11, k12, k13, k14, k15, k16, k17⟩ o (execDirSweepDone h s) := by
  unfold execDirSweepDone; try dsimp only
  with_reducible repeat' first
    | assumption | intro _ | apply next_sound | apply ite_out_sound | apply State.onHome_sound
    | apply State.setF_sound

theorem State.proxyConfirm_sound {o : State} {s : State} {h : Nat} {line : Nat} (hS : s.Sound ⟨k0, k1, k2, k3, k4, k5,
    k6, false, k8, k9, k10, k11, k12, k13, k14, k15, k16, k17⟩ o) : (State.proxyConfirm s h line).Sound ⟨k0, k1, k2,
    k3, k4, k5, k6, false, k8, k9, k10, k11, k12, k13, k14, k15, k16, k17⟩ o := by
  unfold State.proxyConfirm; try dsimp only
  repeat' first
    | with_reducible assumption | with_reducible intro _ | with_reducible apply State.dirUpd_sound
    | with_reducible apply ite_sound | with_reducible apply ite_fst_sound | split

theorem execUnsureResolve_sound {o : State} {h : Hub} {set : Fin (2 ^ 19)} {way : Fin 16} {s : State} (hS : s.Sound
    ⟨false, k1, k2, k3, false, k5, false, false, false, false, k10, false, k12, k13, k14, false, false, k17⟩ o) :
    OutSound ⟨false, k1, k2, k3, false, k5, false, false, false, false, k10, false, k12, k13, k14, false, false, k17⟩
    o (execUnsureResolve h set way s) := by
  unfold execUnsureResolve; try dsimp only
  with_reducible repeat' first
    | assumption | intro _ | apply State.proxyConfirm_sound | apply State.homeOwn_sound | apply ite_out_sound
    | apply next_sound | apply ite_sound | apply ite_fst_sound

theorem execDieReset_sound {o : State} {d : Die} {s : State} (hS : s.Sound ⟨false, false, k2, false, false, false,
    false, false, false, false, k10, false, k12, k13, false, false, false, k17⟩ o) : OutSound ⟨false, false, k2,
    false, false, false, false, false, false, false, k10, false, k12, k13, false, false, false, k17⟩ o (execDieReset d
    s) := by
  unfold execDieReset; try dsimp only
  with_reducible repeat' first
    | assumption | intro _ | apply next_sound | apply ite_out_sound | apply State.fenceDie_sound | apply ite_sound

theorem execDieClockLost_sound {o : State} {d : Die} {s : State} (hS : s.Sound ⟨false, false, k2, false, false,
    false, false, false, false, false, k10, false, k12, k13, false, false, false, k17⟩ o) : OutSound ⟨false, false,
    k2, false, false, false, false, false, false, false, k10, false, k12, k13, false, false, false, k17⟩ o
   (execDieClockLost d s) := by
  unfold execDieClockLost; try dsimp only
  with_reducible repeat' first
    | assumption | intro _ | apply next_sound | apply ite_out_sound | apply State.fenceDie_sound | apply ite_sound

theorem State.fenceNoticeIn_sound {o : State} {s : State} {h : Nat} {pkg : Nat} {d : Nat} {clear : Bool} (hS : s.Sound
    ⟨false, k1, k2, false, false, k5, false, false, false, false, k10, false, k12, k13, k14, false, false, k17⟩ o) :
    (State.fenceNoticeIn s h pkg d clear).Sound ⟨false, k1, k2, false, false, k5, false, false, false, false, k10,
    false, k12, k13, k14, false, false, k17⟩ o := by
  unfold State.fenceNoticeIn; try dsimp only
  repeat' first
    | with_reducible assumption | with_reducible intro _ | with_reducible apply State.fromPkg_sound
    | with_reducible apply State.take_sound | with_reducible apply State.setFar_sound
    | with_reducible apply State.fenceMask_sound | with_reducible apply State.onHome_sound
    | with_reducible apply State.setF_sound | with_reducible apply ite_sound | with_reducible apply ite_fst_sound
    | with_reducible apply each_sound | with_reducible apply each_fst_sound
    | with_reducible refine each_fst_sound' (by assumption) ?_ ?_ | split

theorem execFenceNotice_sound {o : State} {h : Hub} {pkg : Pkg} {d : Die} {clear : Bool} {s : State} (hS : s.Sound
    ⟨false, k1, k2, false, false, k5, false, false, false, false, k10, false, k12, k13, k14, false, false, k17⟩ o) :
    OutSound ⟨false, k1, k2, false, false, k5, false, false, false, false, k10, false, k12, k13, k14, false, false,
    k17⟩ o (execFenceNotice h pkg d clear s) := by
  unfold execFenceNotice; try dsimp only
  with_reducible repeat' first
    | assumption | intro _ | apply State.fenceNoticeIn_sound | apply ite_out_sound | apply next_sound
    | apply ite_sound | apply ite_fst_sound

theorem execFenceWalkDone_sound {o : State} {h : Hub} {s : State} (hS : s.Sound ⟨false, k1, k2, k3, k4, k5, k6,
    false, false, false, k10, k11, k12, k13, k14, false, false, k17⟩ o) : OutSound ⟨false, k1, k2, k3, k4, k5, k6,
    false, false, false, k10, k11, k12, k13, k14, false, false, k17⟩ o (execFenceWalkDone h s) := by
  unfold execFenceWalkDone; try dsimp only
  with_reducible repeat' first
    | assumption | intro _ | apply next_sound | apply ite_out_sound | apply State.dirWalk_sound
    | apply State.onHome_sound | apply State.setF_sound

theorem State.lineClearOp_sound {o : State} {s : State} {w : Who} {h : Nat} {line : Nat} (hS : s.Sound ⟨false, k1, k2,
    k3, false, k5, false, false, false, false, k10, false, k12, k13, false, false, false, k17⟩ o) : (State.lineClearOp
    s w h line).Sound ⟨false, k1, k2, k3, false, k5, false, false, false, false, k10, false, k12, k13, false, false,
    false, k17⟩ o := by
  unfold State.lineClearOp; try dsimp only
  repeat' first
    | with_reducible assumption | with_reducible intro _ | with_reducible apply State.csGuard_sound
    | with_reducible apply State.csFail_sound | with_reducible apply State.homeOwn_sound
    | with_reducible apply State.whoReply_sound | with_reducible apply ite_sound | with_reducible apply ite_fst_sound
    | split

theorem execLineClear_sound {o : State} {who : Sender} {h : Hub} {line : LineNo} {s : State} (hS : s.Sound ⟨false, k1,
    k2, k3, false, k5, false, false, false, false, k10, false, k12, k13, false, false, false, k17⟩ o) : OutSound
    ⟨false, k1, k2, k3, false, k5, false, false, false, false, k10, false, k12, k13, false, false, false, k17⟩ o
    (execLineClear who h line s) := by
  unfold execLineClear; try dsimp only
  with_reducible repeat' first
    | assumption | intro _ | apply State.lineClearOp_sound | apply ite_out_sound | apply next_sound | apply ite_sound
    | apply ite_fst_sound

theorem State.dirProbeOp_sound {o : State} {s : State} {w : Who} {h : Nat} (hS : s.Sound ⟨k0, k1, k2, k3, k4, k5, k6,
    k7, k8, k9, k10, k11, k12, k13, false, false, false, k17⟩ o) : (State.dirProbeOp s w h).Sound ⟨k0, k1, k2, k3, k4,
    k5, k6, k7, k8, k9, k10, k11, k12, k13, false, false, false, k17⟩ o := by
  unfold State.dirProbeOp; try dsimp only
  repeat' first
    | with_reducible assumption | with_reducible intro _ | with_reducible apply State.csGuard_sound
    | with_reducible apply State.whoReply_sound | with_reducible apply ite_sound | with_reducible apply ite_fst_sound
    | split

theorem execDirProbeData_sound {o : State} {who : Sender} {h : Hub} {s : State} (hS : s.Sound ⟨false, k1, k2, k3, k4,
    k5, k6, false, false, false, k10, k11, k12, k13, false, false, false, k17⟩ o) : OutSound ⟨false, k1, k2, k3, k4,
    k5, k6, false, false, false, k10, k11, k12, k13, false, false, false, k17⟩ o (execDirProbeData who h s) := by
  unfold execDirProbeData; try dsimp only
  with_reducible repeat' first
    | assumption | intro _ | apply next_sound | apply ite_out_sound | apply State.dirProbeOp_sound

end Sys2Proof.Machine
end

