-- ==== Sys2Proof/Laws/KeepCores.lean ====
section
/-! SUPPORT. The operations of Machine/Cores.lean keep State.Sound. -/

namespace Sys2Proof.Machine

variable {k0 k1 k2 k3 k4 k5 k6 k7 k8 k9 k10 k11 k12 k13 k14 k15 k16 k17 : Bool}

theorem State.retireFail_sound {o : State} {s : State} {c : Nat} {bad : List Nat} (hS : s.Sound ⟨false, k1, k2, false,
    false, false, false, false, false, false, k10, k11, k12, false, k14, false, false, k17⟩ o) : (State.retireFail s c
    bad).Sound ⟨false, k1, k2, false, false, false, false, false, false, false, k10, k11, k12, false, k14, false,
    false, k17⟩ o := by
  unfold State.retireFail; try dsimp only
  with_reducible repeat' first
    | assumption | intro _ | apply State.dropCore_sound | apply State.purgeCore_sound | apply State.record_sound
    | apply State.coreDown_sound | apply ite_sound | apply ite_fst_sound

theorem State.checkerOp_sound {o : State} {s : State} {c : Nat} {fresh : Bool} {bad : List Nat} (hS : s.Sound ⟨false,
    k1, k2, false, false, false, false, false, false, false, k10, k11, k12, false, k14, false, false, k17⟩ o) :
    (State.checkerOp s c fresh bad).Sound ⟨false, k1, k2, false, false, false, false, false, false, false, k10, k11,
    k12, false, k14, false, false, k17⟩ o := by
  unfold State.checkerOp; try dsimp only
  repeat' first
    | with_reducible assumption | with_reducible intro _ | with_reducible apply State.retireFail_sound
    | with_reducible apply State.dropLoads_sound | with_reducible apply State.updCoreH_sound
    | with_reducible apply State.incF_sound | with_reducible apply ite_sound | with_reducible apply ite_fst_sound
    | split

theorem execCheckerMismatch_sound {o : State} {c : Core} {freshCheckpoint : Bool} {badLines : List Nat} {s : State}
    (hS : s.Sound ⟨false, k1, k2, false, false, false, false, false, false, false, k10, k11, k12, false, k14, false,
    false, k17⟩ o) : OutSound ⟨false, k1, k2, false, false, false, false, false, false, false, k10, k11, k12, false,
    k14, false, false, k17⟩ o (execCheckerMismatch c freshCheckpoint badLines s) := by
  unfold execCheckerMismatch; try dsimp only
  with_reducible repeat' first
    | assumption | intro _ | apply State.checkerOp_sound | apply ite_out_sound | apply next_sound | apply ite_sound
    | apply ite_fst_sound

theorem State.goCore_sound {o : State} {s : State} {c : Nat} (hS : s.Sound ⟨false, k1, k2, false, k4, k5, k6, k7, k8,
    k9, k10, k11, k12, k13, k14, k15, false, k17⟩ o) : (State.goCore s c).Sound ⟨false, k1, k2, false, k4, k5, k6, k7,
    k8, k9, k10, k11, k12, k13, k14, k15, false, k17⟩ o := by
  unfold State.goCore; try dsimp only
  repeat' first
    | with_reducible assumption | with_reducible intro _ | with_reducible apply State.enterRun_sound
    | with_reducible apply ite_sound | with_reducible apply ite_fst_sound | with_reducible apply each_sound
    | with_reducible apply each_fst_sound | with_reducible refine each_fst_sound' (by assumption) ?_ ?_ | split

theorem State.stopCore_sound {o : State} {s : State} {c : ℕ} (hS : s.Sound ⟨false, k1, k2, false, k4, k5, k6, k7, k8,
    k9, k10, k11, k12, k13, k14, k15, k16, k17⟩ o) : (State.stopCore s c).Sound ⟨false, k1, k2, false, k4, k5, k6, k7,
    k8, k9, k10, k11, k12, k13, k14, k15, k16, k17⟩ o := by
  unfold State.stopCore; try dsimp only
  with_reducible repeat' first
    | assumption | intro _ | apply State.haltOne_sound | apply ite_sound | apply each_sound

theorem State.coreCtlOp_sound {o : State} {s : State} {w : Who} {c : ℕ} {v : Word} (hS : s.Sound ⟨false, k1, k2,
    false, k4, k5, k6, k7, k8, k9, k10, k11, k12, k13, false, false, false, k17⟩ o) : (State.coreCtlOp s w c v).Sound
    ⟨false, k1, k2, false, k4, k5, k6, k7, k8, k9, k10, k11, k12, k13, false, false, false, k17⟩ o := by
  unfold State.coreCtlOp; try dsimp only
  with_reducible repeat' first
    | assumption | intro _ | apply State.csGuard_sound | apply State.csFail_sound | apply State.goCore_sound
    | apply State.stopCore_sound | apply State.whoReply_sound | apply ite_sound

theorem execCoreGo_sound {o : State} {who : Sender} {c : Core} {s : State} (hS : s.Sound ⟨false, k1, k2, false, k4,
    k5, k6, k7, k8, k9, k10, k11, k12, k13, false, false, false, k17⟩ o) : OutSound ⟨false, k1, k2, false, k4, k5, k6,
    k7, k8, k9, k10, k11, k12, k13, false, false, false, k17⟩ o (execCoreGo who c s) := by
  unfold execCoreGo; try dsimp only
  with_reducible repeat' first
    | assumption | intro _ | apply next_sound | apply ite_out_sound | apply State.coreCtlOp_sound

theorem execCoreStop_sound {o : State} {who : Sender} {c : Core} {s : State} (hS : s.Sound ⟨false, k1, k2, false, k4,
    k5, k6, k7, k8, k9, k10, k11, k12, k13, false, false, false, k17⟩ o) : OutSound ⟨false, k1, k2, false, k4, k5, k6,
    k7, k8, k9, k10, k11, k12, k13, false, false, false, k17⟩ o (execCoreStop who c s) := by
  unfold execCoreStop; try dsimp only
  with_reducible repeat' first
    | assumption | intro _ | apply next_sound | apply ite_out_sound | apply State.coreCtlOp_sound

theorem execPmuOverflow_sound {o : State} {c : Core} {n : Fin 8} {s : State} (hS : s.Sound ⟨false, k1, k2, k3, k4, k5,
    k6, k7, k8, k9, k10, k11, k12, k13, k14, k15, false, k17⟩ o) : OutSound ⟨false, k1, k2, k3, k4, k5, k6, k7, k8,
    k9, k10, k11, k12, k13, k14, k15, false, k17⟩ o (execPmuOverflow c n s) := by
  unfold execPmuOverflow; try dsimp only
  repeat' first
    | with_reducible assumption | with_reducible intro _ | with_reducible apply State.setF_sound
    | with_reducible apply State.pmuWrap_sound | with_reducible apply ite_out_sound | with_reducible apply next_sound
    | with_reducible apply ite_sound | with_reducible apply ite_fst_sound | with_reducible apply when_sound | split

theorem State.inputInval_sound {o : State} {s : State} {c : Nat} {line : Nat} (hS : s.Sound ⟨false, k1, k2, k3, false,
    k5, k6, k7, k8, k9, k10, k11, k12, k13, k14, k15, k16, k17⟩ o) : (State.inputInval s c line).Sound ⟨false, k1, k2,
    k3, false, k5, k6, k7, k8, k9, k10, k11, k12, k13, k14, k15, k16, k17⟩ o := by
  unfold State.inputInval; try dsimp only
  repeat' first
    | with_reducible assumption | with_reducible intro _ | with_reducible apply State.incF_sound
    | with_reducible apply State.l1Evict_sound | with_reducible apply ite_sound | with_reducible apply ite_fst_sound
    | with_reducible apply each_sound | with_reducible apply each_fst_sound
    | with_reducible refine each_fst_sound' (by assumption) ?_ ?_ | with_reducible apply when_sound | split

theorem State.inputUpdate_sound {o : State} {s : State} {c : Nat} {line : Nat} {u : Option (Mask × Line)} (hS :
    s.Sound ⟨k0, k1, k2, k3, false, k5, k6, k7, k8, k9, k10, k11, k12, k13, k14, k15, k16, k17⟩ o) :
    (State.inputUpdate s c line u).Sound ⟨k0, k1, k2, k3, false, k5, k6, k7, k8, k9, k10, k11, k12, k13, k14, k15,
    k16, k17⟩ o := by
  unfold State.inputUpdate; try dsimp only
  repeat' first
    | with_reducible assumption | with_reducible intro _ | with_reducible apply State.onCache_sound
    | with_reducible apply ite_sound | with_reducible apply ite_fst_sound | with_reducible apply each_sound
    | with_reducible apply each_fst_sound | with_reducible refine each_fst_sound' (by assumption) ?_ ?_ | split

theorem State.inputOp_sound {o : State} {s : State} {c : Nat} {count : Nat} (hS : s.Sound ⟨false, k1, k2, false,
    false, false, k6, false, k8, k9, k10, k11, k12, k13, k14, false, false, k17⟩ o) : (State.inputOp s c count).Sound
    ⟨false, k1, k2, false, false, false, k6, false, k8, k9, k10, k11, k12, k13, k14, false, false, k17⟩ o := by
  unfold State.inputOp; try dsimp only
  repeat' first
    | with_reducible assumption | with_reducible intro _ | with_reducible apply State.tlbiLocal_sound
    | with_reducible apply State.onCores_sound | with_reducible apply State.pend_sound
    | with_reducible apply State.inputInval_sound | with_reducible apply State.inputUpdate_sound
    | with_reducible apply State.tlbiDo_sound | with_reducible apply State.twinRelease_sound
    | with_reducible apply ite_sound | with_reducible apply ite_fst_sound | split

theorem execTwinInputApply_sound {o : State} {c : Core} {count : Nat} {s : State} (hS : s.Sound ⟨false, k1, k2, false, false, false, k6, false, k8, k9, k10, k11, k12, k13, k14, false, false, k17⟩ o) : OutSound ⟨false, k1, k2, false, false, false, k6, false, k8, k9, k10, k11, k12, k13, k14, false, false, k17⟩ o (execTwinInputApply c count s) :=
    by
  unfold execTwinInputApply; try dsimp only
  with_reducible repeat' first
    | assumption | intro _ | apply State.inputOp_sound | apply ite_out_sound | apply next_sound | apply ite_sound
    | apply ite_fst_sound

theorem State.farDelivery_sound {o : State} {s : State} {p : Nat} {v : Nat} {c : Nat} {prio : Nat} {rsv : Bool}
    {elsewhere : Option (Nat × Nat)} (hS : s.Sound ⟨false, k1, k2, false, k4, k5, k6, k7, k8, k9, k10, k11, k12, k13,
    k14, k15, false, k17⟩ o) : (State.farDelivery s p v c prio rsv elsewhere).Sound ⟨false, k1, k2, false, k4, k5, k6,
    k7, k8, k9, k10, k11, k12, k13, k14, k15, false, k17⟩ o := by
  unfold State.farDelivery; try dsimp only
  repeat' first
    | with_reducible assumption | with_reducible intro _ | with_reducible apply State.place_sound
    | with_reducible refine State.classOf_sound' (by assumption) ?_ | with_reducible apply State.classOf_sound
    | with_reducible apply State.incF_sound | with_reducible apply State.latch_sound | with_reducible apply ite_sound
    | with_reducible apply ite_fst_sound | split

theorem State.carillonOp_sound {o : State} {s : State} {p : Nat} {v : Nat} {kind : Nat} {core : Option Nat} {prio :
    Nat} {rsv : Bool} {late : Bool} {up : Bool} {elsewhere : Option (Nat × Nat)} (hS : s.Sound ⟨false, k1, k2, false,
    k4, k5, k6, k7, k8, k9, k10, k11, k12, k13, k14, false, false, k17⟩ o) : (State.carillonOp s p v kind core prio
    rsv late up elsewhere).Sound ⟨false, k1, k2, false, k4, k5, k6, k7, k8, k9, k10, k11, k12, k13, k14, false, false,
    k17⟩ o := by
  unfold State.carillonOp; try dsimp only
  repeat' first
    | with_reducible assumption | with_reducible intro _ | with_reducible apply State.take_sound
    | with_reducible apply State.carMessage_sound | with_reducible apply State.ifHeard_sound
    | with_reducible apply State.carIpi_sound | with_reducible apply State.farDelivery_sound
    | with_reducible apply ite_sound | with_reducible apply ite_fst_sound | split

theorem execCarillonMessage_sound {o : State} {p : Part} {v : Fin 2048} {kind : Fin 3} {core : Option Core} {prio :
    Fin 16} {rsv : Bool} {late : Bool} {up : Bool} {elsewhere : Option (Pkg × Core)} {s : State} (hS : s.Sound
    ⟨false, k1, k2, false, k4, k5, k6, k7, k8, k9, k10, k11, k12, k13, k14, false, false, k17⟩ o) : OutSound ⟨false,
    k1, k2, false, k4, k5, k6, k7, k8, k9, k10, k11, k12, k13, k14, false, false, k17⟩ o (execCarillonMessage p v kind
    core prio rsv late up elsewhere s) := by
  unfold execCarillonMessage; try dsimp only
  with_reducible repeat' first
    | assumption | intro _ | apply next_sound | apply ite_out_sound | apply State.carillonOp_sound

theorem State.runNoticeOp_sound {o : State} {s : State} {pkg : Nat} {c : Nat} {p : Nat} (hS : s.Sound ⟨false, k1, k2,
    false, k4, k5, k6, k7, k8, k9, k10, k11, k12, k13, k14, k15, false, k17⟩ o) : (State.runNoticeOp s pkg c p).Sound
    ⟨false, k1, k2, false, k4, k5, k6, k7, k8, k9, k10, k11, k12, k13, k14, k15, false, k17⟩ o := by
  unfold State.runNoticeOp; try dsimp only
  repeat' first
    | with_reducible assumption | with_reducible intro _ | with_reducible apply State.carRecheck_sound
    | with_reducible apply State.take_sound | with_reducible apply State.setFar_sound | with_reducible apply ite_sound
    | with_reducible apply ite_fst_sound | with_reducible apply each_sound | with_reducible apply each_fst_sound
    | with_reducible refine each_fst_sound' (by assumption) ?_ ?_ | split

theorem execCoreRunNotice_sound {o : State} {pkg : Pkg} {c : Core} {p : Part} {s : State} (hS : s.Sound ⟨false, k1,
    k2, false, k4, k5, k6, k7, k8, k9, k10, k11, k12, k13, k14, k15, false, k17⟩ o) : OutSound ⟨false, k1, k2, false,
    k4, k5, k6, k7, k8, k9, k10, k11, k12, k13, k14, k15, false, k17⟩ o (execCoreRunNotice pkg c p s) := by
  unfold execCoreRunNotice; try dsimp only
  with_reducible repeat' first
    | assumption | intro _ | apply next_sound | apply ite_out_sound | apply State.fromPkg_sound
    | apply State.runNoticeOp_sound

theorem State.intAckOp_sound {o : State} {s : State} {w : Who} {c : Nat} (hS : s.Sound ⟨false, k1, k2, false, k4, k5,
    k6, k7, k8, k9, k10, k11, k12, k13, false, false, false, k17⟩ o) : (State.intAckOp s w c).Sound ⟨false, k1, k2,
    false, k4, k5, k6, k7, k8, k9, k10, k11, k12, k13, false, false, false, k17⟩ o := by
  unfold State.intAckOp; try dsimp only
  repeat' first
    | with_reducible assumption | with_reducible intro _ | with_reducible apply State.csGuard_sound
    | with_reducible apply State.updCoreH_sound | with_reducible apply State.pend_sound
    | with_reducible apply State.count_sound | with_reducible apply State.whoReply_sound
    | with_reducible apply ite_sound | with_reducible apply ite_fst_sound | with_reducible apply each_sound
    | with_reducible apply each_fst_sound | with_reducible refine each_fst_sound' (by assumption) ?_ ?_ | split

theorem State.intEoiOp_sound {o : State} {s : State} {w : Who} {c : ℕ} {v : Word} (hS : s.Sound ⟨false, k1, k2,
    false, k4, k5, k6, k7, k8, k9, k10, k11, k12, k13, false, false, false, k17⟩ o) : (State.intEoiOp s w c v).Sound
    ⟨false, k1, k2, false, k4, k5, k6, k7, k8, k9, k10, k11, k12, k13, false, false, false, k17⟩ o := by
  unfold State.intEoiOp; try dsimp only
  with_reducible repeat' first
    | assumption | intro _ | apply State.csGuard_sound | apply State.whoReply_sound | apply State.updCoreH_sound
    | apply State.setF_sound | apply ite_sound | apply each_sound

theorem State.intIpiOp_sound {o : State} {s : State} {w : Who} {c : ℕ} {word : Word} (hS : s.Sound ⟨false, k1, k2,
    false, k4, k5, k6, k7, k8, k9, k10, k11, k12, k13, false, false, false, k17⟩ o) : (State.intIpiOp s w c
    word).Sound ⟨false, k1, k2, false, k4, k5, k6, k7, k8, k9, k10, k11, k12, k13, false, false, false, k17⟩ o := by
  unfold State.intIpiOp; try dsimp only
  with_reducible repeat' first
    | assumption | intro _ | apply State.csGuard_sound | apply State.record_sound | apply State.setF_sound
    | apply State.whoReply_sound | apply State.carIpi_sound | apply State.send_sound | apply ite_sound
    | apply each_sound

theorem execIntAck_sound {o : State} {c : Core} {s : State} (hS : s.Sound ⟨false, k1, k2, false, k4, k5, k6, k7, k8,
    k9, k10, k11, k12, k13, false, false, false, k17⟩ o) : OutSound ⟨false, k1, k2, false, k4, k5, k6, k7, k8, k9,
    k10, k11, k12, k13, false, false, false, k17⟩ o (execIntAck c s) := by
  unfold execIntAck; try dsimp only
  with_reducible repeat' first
    | assumption | intro _ | apply next_sound | apply ite_out_sound | apply State.intAckOp_sound

theorem execIntEoi_sound {o : State} {c : Core} {v : Fin 2048} {s : State} (hS : s.Sound ⟨false, k1, k2, false, k4,
    k5, k6, k7, k8, k9, k10, k11, k12, k13, false, false, false, k17⟩ o) : OutSound ⟨false, k1, k2, false, k4, k5, k6,
    k7, k8, k9, k10, k11, k12, k13, false, false, false, k17⟩ o (execIntEoi c v s) := by
  unfold execIntEoi; try dsimp only
  with_reducible repeat' first
    | assumption | intro _ | apply next_sound | apply ite_out_sound | apply State.intEoiOp_sound

theorem execIntIpi_sound {o : State} {c : Core} {v : Fin 2048} {tgtPkg : Pkg} {tgtCore : Fin 256} {s : State} (hS :
    s.Sound ⟨false, k1, k2, false, k4, k5, k6, k7, k8, k9, k10, k11, k12, k13, false, false, false, k17⟩ o) : OutSound
    ⟨false, k1, k2, false, k4, k5, k6, k7, k8, k9, k10, k11, k12, k13, false, false, false, k17⟩ o (execIntIpi c v
    tgtPkg tgtCore s) := by
  unfold execIntIpi; try dsimp only
  with_reducible repeat' first
    | assumption | intro _ | apply next_sound | apply ite_out_sound | apply State.intIpiOp_sound

theorem State.carVecOp_sound {o : State} {s : State} {w : Who} {p : Nat} {v : Nat} {x : Word} (hS : s.Sound ⟨false,
    k1, k2, false, k4, k5, k6, k7, k8, k9, k10, k11, k12, k13, false, false, false, k17⟩ o) : (State.carVecOp s w p v
    x).Sound ⟨false, k1, k2, false, k4, k5, k6, k7, k8, k9, k10, k11, k12, k13, false, false, false, k17⟩ o := by
  unfold State.carVecOp; try dsimp only
  repeat' first
    | with_reducible assumption | with_reducible intro _ | with_reducible apply State.csGuard_sound
    | with_reducible apply State.plainWrite_sound | with_reducible apply State.carRecheck_sound
    | with_reducible apply State.releaseHeld_sound | with_reducible apply State.whoReply_sound
    | with_reducible apply ite_sound | with_reducible apply ite_fst_sound | split

theorem execCarVecWrite_sound {o : State} {who : Sender} {p : Part} {v : Fin 2048} {value : Word} {s : State} (hS :
    s.Sound ⟨false, k1, k2, false, k4, k5, k6, k7, k8, k9, k10, k11, k12, k13, false, false, false, k17⟩ o) : OutSound
    ⟨false, k1, k2, false, k4, k5, k6, k7, k8, k9, k10, k11, k12, k13, false, false, false, k17⟩ o (execCarVecWrite
    who p v value s) := by
  unfold execCarVecWrite; try dsimp only
  with_reducible repeat' first
    | assumption | intro _ | apply next_sound | apply ite_out_sound | apply State.carVecOp_sound

end Sys2Proof.Machine
end

