-- ==== Sys2Proof/Laws/KeepPealOps.lean ====
section
/-! SUPPORT. The operations of Machine/PealOps.lean keep State.Sound. -/

namespace Sys2Proof.Machine

variable {k0 k1 k2 k3 k4 k5 k6 k7 k8 k9 k10 k11 k12 k13 k14 k15 k16 k17 : Bool}

theorem State.beatEvent_sound {o : State} {s : State} {fl : Fld} (hS : s.Sound ⟨false, k1, k2, k3, k4, k5, k6, k7,
    k8, k9, k10, k11, k12, k13, k14, k15, false, k17⟩ o) : (State.beatEvent s fl).Sound ⟨false, k1, k2, k3, k4, k5,
    k6, k7, k8, k9, k10, k11, k12, k13, k14, k15, false, k17⟩ o := by
  unfold State.beatEvent; try dsimp only
  with_reducible repeat' first | assumption | intro _ | apply State.raiseAll_sound | apply State.setF_sound

theorem State.pealLast_sound {o : State} {s : State} {res : ℕ} {kind : ℕ} {seq : ℕ} {target : ℕ} {cause : ℕ × ℕ} (hS
    : s.Sound ⟨false, k1, k2, k3, k4, k5, k6, k7, k8, k9, k10, k11, k12, k13, k14, k15, false, k17⟩ o) :
   (State.pealLast s res kind seq target cause).Sound ⟨false, k1, k2, k3, k4, k5, k6, k7, k8, k9, k10, k11, k12, k13,
    k14, k15, false, k17⟩ o := by
  unfold State.pealLast; try dsimp only
  with_reducible repeat' first | assumption | intro _ | apply State.beatEvent_sound | apply State.setReg_sound

theorem State.armPeal_sound {o : State} {s : State} {i : Nat} {target : Nat} {c : Change} (hS : s.Sound ⟨k0, false,
    k2, k3, k4, k5, k6, k7, k8, k9, k10, k11, k12, k13, k14, k15, false, k17⟩ o) : (State.armPeal s i target c).Sound
    ⟨k0, false, k2, k3, k4, k5, k6, k7, k8, k9, k10, k11, k12, k13, k14, k15, false, k17⟩ o := by
  unfold State.armPeal; try dsimp only
  repeat' first
    | with_reducible assumption | with_reducible intro _ | with_reducible apply State.setSlot_sound
    | with_reducible apply State.onBeat_sound | with_reducible apply State.send_sound | with_reducible apply ite_sound
    | with_reducible apply ite_fst_sound | with_reducible apply each_sound | with_reducible apply each_fst_sound
    | with_reducible refine each_fst_sound' (by assumption) ?_ ?_ | with_reducible rfl | rfl | split

theorem State.reqOver_sound {o : State} {s : State} {c : Change} (hS : s.Sound ⟨k0, k1, k2, k3, k4, k5, k6, false, k8,
    k9, k10, k11, k12, k13, k14, k15, k16, k17⟩ o) : (State.reqOver s c).Sound ⟨k0, k1, k2, k3, k4, k5, k6, false, k8,
    k9, k10, k11, k12, k13, k14, k15, k16, k17⟩ o := by
  unfold State.reqOver; try dsimp only
  repeat' first
    | with_reducible assumption | with_reducible intro _ | with_reducible apply State.onHome_sound
    | with_reducible apply ite_sound | with_reducible apply ite_fst_sound | split

theorem State.pealRefuse_sound {o : State} {s : State} {src : ℕ} {code : ℕ} {target : ℕ} {c : Change} (hS : s.Sound
    ⟨false, k1, k2, k3, k4, k5, k6, false, k8, k9, k10, k11, k12, k13, k14, k15, false, k17⟩ o) : (State.pealRefuse s
    src code target c).Sound ⟨false, k1, k2, k3, k4, k5, k6, false, k8, k9, k10, k11, k12, k13, k14, k15, false, k17⟩
    o := by
  unfold State.pealRefuse; try dsimp only
  with_reducible repeat' first
    | assumption | intro _ | apply State.reqOver_sound | apply State.pealLast_sound | apply State.send_sound
    | apply ite_sound

theorem State.tryPeal_sound {o : State} {s : State} {src : ℕ} {target : ℕ} {c : Change} (hS : s.Sound ⟨false, false,
    k2, k3, k4, k5, k6, false, k8, k9, k10, k11, k12, k13, k14, k15, false, k17⟩ o) : (State.tryPeal s src target
    c).Sound ⟨false, false, k2, k3, k4, k5, k6, false, k8, k9, k10, k11, k12, k13, k14, k15, false, k17⟩ o := by
  unfold State.tryPeal; try dsimp only
  repeat' first
    | with_reducible assumption | with_reducible intro _ | with_reducible apply State.pealRefuse_sound
    | with_reducible apply State.armPeal_sound | with_reducible apply ite_sound | split

theorem State.portArm_sound {o : State} {s : State} (hS : s.Sound ⟨k0, false, k2, k3, k4, k5, k6, k7, k8, k9, k10,
    k11, k12, k13, k14, k15, false, k17⟩ o) : (State.portArm s).Sound ⟨k0, false, k2, k3, k4, k5, k6, k7, k8, k9, k10,
    k11, k12, k13, k14, k15, false, k17⟩ o := by
  unfold State.portArm; try dsimp only
  repeat' first
    | with_reducible assumption | with_reducible intro _ | with_reducible apply State.armPeal_sound
    | with_reducible apply ite_sound | with_reducible apply ite_fst_sound | split

theorem State.portReport_sound {o : State} {s : State} {a : Nat} (hS : s.Sound ⟨k0, false, k2, k3, k4, k5, k6, k7, k8,
    k9, false, k11, k12, k13, k14, k15, false, k17⟩ o) : (State.portReport s a).Sound ⟨k0, false, k2, k3, k4, k5, k6,
    k7, k8, k9, false, k11, k12, k13, k14, k15, false, k17⟩ o := by
  unfold State.portReport; try dsimp only
  repeat' first
    | with_reducible assumption | with_reducible intro _ | with_reducible apply State.onLinks_sound
    | with_reducible apply State.portArm_sound | with_reducible apply ite_sound | with_reducible apply ite_fst_sound
    | split

theorem State.acceptPeal_sound {o : State} {s : State} {src : Nat} {target : Nat} {c : Change} (hS : s.Sound ⟨false,
    false, k2, k3, k4, k5, k6, false, k8, k9, false, k11, k12, k13, k14, false, false, k17⟩ o) : (State.acceptPeal s
    src target c).Sound ⟨false, false, k2, k3, k4, k5, k6, false, k8, k9, false, k11, k12, k13, k14, false, false,
    k17⟩ o := by
  unfold State.acceptPeal; try dsimp only
  repeat' first
    | with_reducible assumption | with_reducible intro _ | with_reducible apply State.portReport_sound
    | with_reducible apply State.pealRefuse_sound | with_reducible apply State.record_sound
    | with_reducible apply State.send_sound | with_reducible apply State.tryPeal_sound
    | with_reducible apply State.onLinks_sound | with_reducible apply State.onHome_sound
    | with_reducible apply ite_sound | with_reducible apply ite_fst_sound | split

theorem State.requestPeal_sound {o : State} {s : State} {target : ℕ} {c : Change} (hS : s.Sound ⟨false, false, k2,
    k3, k4, k5, k6, false, k8, k9, false, k11, k12, k13, k14, false, false, k17⟩ o) : (State.requestPeal s target
    c).Sound ⟨false, false, k2, k3, k4, k5, k6, false, k8, k9, false, k11, k12, k13, k14, false, false, k17⟩ o := by
  unfold State.requestPeal; try dsimp only
  with_reducible repeat' first
    | assumption | intro _ | apply State.acceptPeal_sound | apply State.send_sound | apply ite_sound

theorem State.reportPort_sound {o : State} {s : State} {a : Nat} (hS : s.Sound ⟨false, false, k2, k3, k4, k5, k6,
    false, k8, k9, false, k11, k12, k13, k14, false, false, k17⟩ o) : (State.reportPort s a).Sound ⟨false, false, k2,
    k3, k4, k5, k6, false, k8, k9, false, k11, k12, k13, k14, false, false, k17⟩ o := by
  unfold State.reportPort; try dsimp only
  repeat' first
    | with_reducible assumption | with_reducible intro _ | with_reducible apply State.onLinks_sound
    | with_reducible apply State.requestPeal_sound | with_reducible apply ite_sound
    | with_reducible apply ite_fst_sound | split

theorem State.refusedIn_sound {o : State} {s : State} {code : Nat} {target : Nat} {c : Change} (hS : s.Sound ⟨false,
    k1, k2, k3, k4, k5, k6, false, k8, k9, k10, k11, k12, k13, k14, k15, false, k17⟩ o) : (State.refusedIn s code
    target c).Sound ⟨false, k1, k2, k3, k4, k5, k6, false, k8, k9, k10, k11, k12, k13, k14, k15, false, k17⟩ o := by
  unfold State.refusedIn; try dsimp only
  repeat' first
    | with_reducible assumption | with_reducible intro _ | with_reducible apply State.pealLast_sound
    | with_reducible apply State.take_sound | with_reducible apply State.reqOver_sound
    | with_reducible apply ite_sound | with_reducible apply ite_fst_sound | with_reducible apply when_sound | split

theorem State.setTrig_sound {o : State} {s : State} {b : ℕ} {on : Bool} (hS : s.Sound ⟨false, k1, k2, k3, k4, k5, k6,
    k7, k8, k9, k10, k11, k12, k13, k14, k15, k16, k17⟩ o) : (State.setTrig s b on).Sound ⟨false, k1, k2, k3, k4, k5,
    k6, k7, k8, k9, k10, k11, k12, k13, k14, k15, k16, k17⟩ o := by
  unfold State.setTrig; try dsimp only
  with_reducible repeat' first
    | assumption | intro _ | apply State.setF_sound | apply ite_sound | apply each_sound

theorem State.modeAsk_sound {o : State} {s : State} (hS : s.Sound ⟨false, false, k2, k3, k4, k5, k6, false, k8, k9,
    false, k11, k12, k13, k14, false, false, k17⟩ o) : (State.modeAsk s).Sound ⟨false, false, k2, k3, k4, k5, k6,
    false, k8, k9, false, k11, k12, k13, k14, false, false, k17⟩ o := by
  unfold State.modeAsk; try dsimp only
  with_reducible repeat' first
    | assumption | intro _ | apply State.requestPeal_sound | apply State.onHome_sound | apply ite_sound

theorem State.trigOn_sound {o : State} {s : State} {b : ℕ} (hS : s.Sound ⟨false, false, k2, k3, k4, k5, k6, false,
    k8, k9, false, k11, k12, k13, k14, false, false, k17⟩ o) : (State.trigOn s b).Sound ⟨false, false, k2, k3, k4, k5,
    k6, false, k8, k9, false, k11, k12, k13, k14, false, false, k17⟩ o := by
  unfold State.trigOn; try dsimp only
  with_reducible repeat' first | assumption | intro _ | apply State.modeAsk_sound | apply State.setTrig_sound

theorem State.trigOff_sound {o : State} {s : State} {b : ℕ} (hS : s.Sound ⟨false, k1, k2, k3, k4, k5, k6, k7, k8, k9,
    k10, k11, k12, k13, k14, k15, k16, k17⟩ o) : (State.trigOff s b).Sound ⟨false, k1, k2, k3, k4, k5, k6, k7, k8, k9,
    k10, k11, k12, k13, k14, k15, k16, k17⟩ o := by
  unfold State.trigOff; try dsimp only
  with_reducible repeat' first | assumption | intro _ | apply State.setTrig_sound

theorem State.modeEnter_sound {o : State} {s : State} (hS : s.Sound ⟨false, k1, k2, k3, k4, k5, k6, false, k8, k9,
    k10, k11, k12, k13, k14, k15, k16, k17⟩ o) : (State.modeEnter s).Sound ⟨false, k1, k2, k3, k4, k5, k6, false, k8,
    k9, k10, k11, k12, k13, k14, k15, k16, k17⟩ o := by
  unfold State.modeEnter; try dsimp only
  repeat' first
    | with_reducible assumption | with_reducible intro _ | with_reducible apply State.setF_sound
    | with_reducible apply State.onHome_sound | with_reducible apply ite_sound | with_reducible apply ite_fst_sound
    | with_reducible apply each_sound | with_reducible apply each_fst_sound
    | with_reducible refine each_fst_sound' (by assumption) ?_ ?_ | split

end Sys2Proof.Machine
end

