-- ==== Sys2Proof/Laws/KeepLinkOps.lean ====
section
/-! SUPPORT. The operations of Machine/LinkOps.lean keep State.Sound. -/

namespace Sys2Proof.Machine

variable {k0 k1 k2 k3 k4 k5 k6 k7 k8 k9 k10 k11 k12 k13 k14 k15 k16 k17 : Bool}

theorem State.setLink_sound {o : State} {s : State} {l : ℕ} {v : ℕ} (hS : s.Sound ⟨false, k1, k2, k3, k4, k5, k6, k7,
    k8, k9, k10, k11, k12, k13, k14, k15, k16, k17⟩ o) : (State.setLink s l v).Sound ⟨false, k1, k2, k3, k4, k5, k6,
    k7, k8, k9, k10, k11, k12, k13, k14, k15, k16, k17⟩ o := by
  unfold State.setLink; try dsimp only
  with_reducible repeat' first | assumption | intro _ | apply State.setF_sound

theorem State.linkClear_sound {o : State} {s : State} {l : Nat} (hS : s.Sound ⟨false, k1, k2, k3, k4, k5, k6, k7, k8,
    k9, k10, k11, k12, k13, k14, k15, k16, k17⟩ o) : (State.linkClear s l).Sound ⟨false, k1, k2, k3, k4, k5, k6, k7,
    k8, k9, k10, k11, k12, k13, k14, k15, k16, k17⟩ o := by
  unfold State.linkClear; try dsimp only
  with_reducible repeat' first
    | assumption | intro _ | apply State.setF_sound | apply State.setReg_sound | apply ite_sound | apply ite_fst_sound

theorem State.beginTask_sound {o : State} {s : State} {mem : Bool} {t : Nat} {full : Bool} (hS : s.Sound ⟨k0, k1,
    false, k3, k4, k5, k6, k7, k8, k9, k10, k11, k12, k13, k14, k15, k16, k17⟩ o) : (State.beginTask s mem t
    full).Sound ⟨k0, k1, false, k3, k4, k5, k6, k7, k8, k9, k10, k11, k12, k13, k14, k15, k16, k17⟩ o := by
  unfold State.beginTask; try dsimp only
  repeat' first
    | with_reducible assumption | with_reducible intro _ | with_reducible apply State.onBoot_sound
    | with_reducible apply ite_sound | with_reducible apply ite_fst_sound | with_reducible rfl | rfl | split

theorem State.endTask_sound {o : State} {s : State} {k : SvcTask} (hS : s.Sound ⟨k0, k1, false, k3, k4, k5, k6, k7,
    k8, k9, k10, k11, k12, k13, k14, k15, k16, k17⟩ o) : (State.endTask s k).Sound ⟨k0, k1, false, k3, k4, k5, k6, k7,
    k8, k9, k10, k11, k12, k13, k14, k15, k16, k17⟩ o := by
  unfold State.endTask; try dsimp only
  repeat' first
    | with_reducible assumption | with_reducible intro _ | with_reducible apply State.onBoot_sound
    | with_reducible apply ite_sound | with_reducible apply ite_fst_sound | with_reducible rfl | rfl | split

theorem State.linkTrigEnd_sound {o : State} {s : State} {l : ℕ} (hS : s.Sound ⟨false, k1, k2, k3, k4, k5, k6, k7, k8,
    k9, k10, k11, k12, k13, k14, k15, k16, k17⟩ o) : (State.linkTrigEnd s l).Sound ⟨false, k1, k2, k3, k4, k5, k6, k7,
    k8, k9, k10, k11, k12, k13, k14, k15, k16, k17⟩ o := by
  unfold State.linkTrigEnd; try dsimp only
  with_reducible repeat' first | assumption | intro _ | apply State.trigOff_sound | apply ite_sound

theorem State.retrain_sound {o : State} {s : State} {l : Nat} {step : Nat} (hS : s.Sound ⟨false, false, false, k3, k4,
    k5, false, false, k8, k9, false, k11, k12, k13, k14, false, false, k17⟩ o) : (State.retrain s l step).Sound
    ⟨false, false, false, k3, k4, k5, false, false, k8, k9, false, k11, k12, k13, k14, false, false, k17⟩ o := by
  unfold State.retrain; try dsimp only
  repeat' first
    | with_reducible assumption | with_reducible intro _ | with_reducible apply State.incF_sound
    | with_reducible apply State.setLink_sound | with_reducible apply State.setF_sound
    | with_reducible apply State.setReg_sound | with_reducible apply State.onFab_sound
    | with_reducible apply State.beginTask_sound | with_reducible apply State.trigOn_sound
    | with_reducible apply ite_sound | with_reducible apply ite_fst_sound | split

theorem State.releaseLink_sound {o : State} {s : State} {l : ℕ} (hS : s.Sound ⟨false, k1, k2, k3, k4, k5, k6, k7, k8,
    k9, false, k11, k12, k13, k14, k15, false, k17⟩ o) : (State.releaseLink s l).Sound ⟨false, k1, k2, k3, k4, k5, k6,
    k7, k8, k9, false, k11, k12, k13, k14, k15, false, k17⟩ o := by
  unfold State.releaseLink; try dsimp only
  with_reducible repeat' first
    | assumption | intro _ | apply State.onLinks_sound | apply State.setF_sound | apply State.send_sound
    | apply ite_sound | apply each_sound

theorem State.linkUp_sound {o : State} {s : State} {l : Nat} {width : Nat} (hS : s.Sound ⟨false, k1, k2, k3, k4, k5,
    k6, k7, k8, k9, false, k11, k12, k13, k14, k15, false, k17⟩ o) : (State.linkUp s l width).Sound ⟨false, k1, k2,
    k3, k4, k5, k6, k7, k8, k9, false, k11, k12, k13, k14, k15, false, k17⟩ o := by
  unfold State.linkUp; try dsimp only
  repeat' first
    | with_reducible assumption | with_reducible intro _ | with_reducible apply State.setLink_sound
    | with_reducible apply State.setF_sound | with_reducible apply State.setReg_sound
    | with_reducible apply State.take_sound | with_reducible apply State.onLinks_sound
    | with_reducible apply State.releaseLink_sound | with_reducible apply State.linkTrigEnd_sound
    | with_reducible apply ite_sound | with_reducible apply ite_fst_sound | split

theorem State.portFail_sound {o : State} {s : State} {n : Nat} (hS : s.Sound ⟨false, false, k2, k3, k4, k5, k6, false,
    k8, k9, false, k11, k12, k13, k14, false, false, k17⟩ o) : (State.portFail s n).Sound ⟨false, false, k2, k3, k4,
    k5, k6, false, k8, k9, false, k11, k12, k13, k14, false, false, k17⟩ o := by
  unfold State.portFail; try dsimp only
  repeat' first
    | with_reducible assumption | with_reducible intro _ | with_reducible apply State.setLink_sound
    | with_reducible apply State.setF_sound | with_reducible apply State.setReg_sound
    | with_reducible apply State.onLinks_sound | with_reducible apply State.linkTrigEnd_sound
    | with_reducible apply State.reportPort_sound | with_reducible apply ite_sound
    | with_reducible apply ite_fst_sound | split

theorem State.linkOut_sound {o : State} {s : State} {l : Nat} (hS : s.Sound ⟨false, false, k2, false, false, false,
    false, false, false, false, false, false, k12, k13, false, false, false, k17⟩ o) : (State.linkOut s l).Sound
    ⟨false, false, k2, false, false, false, false, false, false, false, false, false, k12, k13, false, false, false,
    k17⟩ o := by
  unfold State.linkOut; try dsimp only
  repeat' first
    | with_reducible assumption | with_reducible intro _ | with_reducible apply State.setLink_sound
    | with_reducible apply State.setReg_sound | with_reducible apply State.setF_sound
    | with_reducible apply State.portFail_sound | with_reducible apply State.onLinks_sound
    | with_reducible apply State.linkTrigEnd_sound | with_reducible apply State.fenceDie_sound
    | with_reducible apply State.selfFence_sound | with_reducible apply ite_sound | with_reducible apply ite_fst_sound
    | split

theorem State.trainGo_sound {o : State} {s : State} {l : Nat} (hS : s.Sound ⟨false, k1, k2, k3, k4, k5, k6, k7, k8,
    k9, k10, k11, k12, k13, k14, k15, false, k17⟩ o) : (State.trainGo s l).Sound ⟨false, k1, k2, k3, k4, k5, k6, k7,
    k8, k9, k10, k11, k12, k13, k14, k15, false, k17⟩ o := by
  unfold State.trainGo; try dsimp only
  with_reducible repeat' first
    | assumption | intro _ | apply State.setLink_sound | apply State.setF_sound | apply State.setReg_sound
    | apply State.send_sound | apply ite_sound | apply ite_fst_sound

theorem State.ltCtlWrite_sound {o : State} {s : State} {w : Who} {l : ℕ} {v : Word} (hS : s.Sound ⟨false, k1, k2, k3,
    k4, k5, k6, k7, k8, k9, k10, k11, k12, k13, false, false, false, k17⟩ o) : (State.ltCtlWrite s w l v).Sound
    ⟨false, k1, k2, k3, k4, k5, k6, k7, k8, k9, k10, k11, k12, k13, false, false, false, k17⟩ o := by
  unfold State.ltCtlWrite; try dsimp only
  with_reducible repeat' first
    | assumption | intro _ | apply State.csGuard_sound | apply State.plainWrite_sound | apply State.whoReply_sound
    | apply State.trainGo_sound | apply ite_sound

theorem State.mismatch_sound {o : State} {s : State} {l : Nat} (hS : s.Sound ⟨false, false, false, false, false,
    false, false, false, false, false, false, false, k12, k13, false, false, false, k17⟩ o) : (State.mismatch s
    l).Sound ⟨false, false, false, false, false, false, false, false, false, false, false, false, k12, k13, false,
    false, false, k17⟩ o := by
  unfold State.mismatch; try dsimp only
  repeat' first
    | with_reducible assumption | with_reducible intro _ | with_reducible apply State.setLink_sound
    | with_reducible apply State.incF_sound | with_reducible apply State.onLinks_sound
    | with_reducible apply State.linkOut_sound | with_reducible apply State.beginTask_sound
    | with_reducible apply ite_sound | with_reducible apply ite_fst_sound | split

theorem State.confirmEnd_sound {o : State} {s : State} {l : Nat} {peer : Nat} (hS : s.Sound ⟨false, false, false,
    false, false, false, false, false, false, false, false, false, k12, k13, false, false, false, k17⟩ o) :
    (State.confirmEnd s l peer).Sound ⟨false, false, false, false, false, false, false, false, false, false, false,
    false, k12, k13, false, false, false, k17⟩ o := by
  unfold State.confirmEnd; try dsimp only
  with_reducible repeat' first
    | assumption | intro _ | apply State.linkOut_sound | apply State.mismatch_sound | apply State.linkUp_sound
    | apply ite_sound | apply ite_fst_sound

theorem State.stepEnd_sound {o : State} {s : State} {l : Nat} {good : Nat} {peer : Nat} {peerConfirm : Bool} {fail :
    Bool} {delay : Nat} (hS : s.Sound ⟨false, false, false, false, false, false, false, false, false, false, false,
    false, k12, k13, false, false, false, k17⟩ o) : (State.stepEnd s l good peer peerConfirm fail delay).Sound ⟨false,
    false, false, false, false, false, false, false, false, false, false, false, k12, k13, false, false, false, k17⟩ o
    := by
  unfold State.stepEnd; try dsimp only
  repeat' first
    | with_reducible assumption | with_reducible intro _ | with_reducible apply State.setF_sound
    | with_reducible apply State.setReg_sound | with_reducible apply State.onLinks_sound
    | with_reducible apply State.confirmEnd_sound | with_reducible apply ite_sound
    | with_reducible apply ite_fst_sound | split

theorem State.markBad_sound {o : State} {s : State} {e : Nat} {w : Nat} (hS : s.Sound ⟨false, k1, k2, k3, k4, k5, k6,
    k7, k8, k9, false, k11, k12, k13, k14, k15, k16, k17⟩ o) : (State.markBad s e w).Sound ⟨false, k1, k2, k3, k4, k5,
    k6, k7, k8, k9, false, k11, k12, k13, k14, k15, k16, k17⟩ o := by
  unfold State.markBad; try dsimp only
  repeat' first
    | with_reducible assumption | with_reducible intro _ | with_reducible apply State.onLinks_sound
    | with_reducible apply State.setReg_sound | with_reducible apply ite_sound | with_reducible apply ite_fst_sound
    | split

theorem State.countErr_sound {o : State} {s : State} {e : Nat} {fl : Fld} (hS : s.Sound ⟨false, k1, k2, k3, k4, k5,
    k6, k7, k8, k9, false, k11, k12, k13, k14, k15, k16, k17⟩ o) : (State.countErr s e fl).Sound ⟨false, k1, k2, k3,
    k4, k5, k6, k7, k8, k9, false, k11, k12, k13, k14, k15, k16, k17⟩ o := by
  unfold State.countErr; try dsimp only
  repeat' first
    | with_reducible assumption | with_reducible intro _ | with_reducible apply State.onLinks_sound
    | with_reducible apply State.incF_sound | with_reducible apply ite_sound | with_reducible apply ite_fst_sound
    | split

theorem State.laneFail_sound {o : State} {s : State} {l : Nat} {w : Nat} (hS : s.Sound ⟨k0, k1, k2, k3, k4, k5, k6,
    k7, k8, k9, false, k11, k12, k13, k14, k15, k16, k17⟩ o) : (State.laneFail s l w).Sound ⟨k0, k1, k2, k3, k4, k5,
    k6, k7, k8, k9, false, k11, k12, k13, k14, k15, k16, k17⟩ o := by
  unfold State.laneFail; try dsimp only
  repeat' first
    | with_reducible assumption | with_reducible intro _ | with_reducible apply State.onLinks_sound
    | with_reducible apply ite_sound | with_reducible apply ite_fst_sound | split

theorem State.laneOut_sound {o : State} {s : State} {l : Nat} {w : Nat} (hS : s.Sound ⟨false, k1, k2, k3, k4, k5, k6,
    k7, k8, k9, false, k11, k12, k13, k14, k15, k16, k17⟩ o) : (State.laneOut s l w).Sound ⟨false, k1, k2, k3, k4, k5,
    k6, k7, k8, k9, false, k11, k12, k13, k14, k15, k16, k17⟩ o := by
  unfold State.laneOut; try dsimp only
  repeat' first
    | with_reducible assumption | with_reducible intro _ | with_reducible apply State.markBad_sound
    | with_reducible apply State.countErr_sound | with_reducible apply State.onLinks_sound
    | with_reducible apply ite_sound | with_reducible apply ite_fst_sound | split

theorem State.laneOutOp_sound {o : State} {s : State} {l : Nat} {w : Nat} (hS : s.Sound ⟨false, false, false, k3, k4,
    k5, false, false, k8, k9, false, k11, k12, k13, k14, false, false, k17⟩ o) : (State.laneOutOp s l w).Sound ⟨false,
    false, false, k3, k4, k5, false, false, k8, k9, false, k11, k12, k13, k14, false, false, k17⟩ o := by
  unfold State.laneOutOp; try dsimp only
  repeat' first
    | with_reducible assumption | with_reducible intro _ | with_reducible apply State.laneOut_sound
    | with_reducible apply State.onLinks_sound | with_reducible apply State.retrain_sound
    | with_reducible apply ite_sound | with_reducible apply ite_fst_sound | split

theorem State.replaysEnd_sound {o : State} {s : State} {l : ℕ} (hS : s.Sound ⟨k0, k1, k2, k3, k4, k5, false, k7, k8,
    k9, false, k11, k12, k13, k14, k15, k16, k17⟩ o) : (State.replaysEnd s l).Sound ⟨k0, k1, k2, k3, k4, k5, false,
    k7, k8, k9, false, k11, k12, k13, k14, k15, k16, k17⟩ o := by
  unfold State.replaysEnd; try dsimp only
  with_reducible repeat' first | assumption | intro _ | apply State.onLinks_sound | apply State.onFab_sound

theorem State.replayFail_sound {o : State} {s : State} {l : Nat} (hS : s.Sound ⟨false, false, false, k3, k4, k5,
    false, false, k8, k9, false, k11, k12, k13, k14, false, false, k17⟩ o) : (State.replayFail s l).Sound ⟨false,
    false, false, k3, k4, k5, false, false, k8, k9, false, k11, k12, k13, k14, false, false, k17⟩ o := by
  unfold State.replayFail; try dsimp only
  repeat' first
    | with_reducible assumption | with_reducible intro _ | with_reducible apply State.countErr_sound
    | with_reducible apply State.laneOut_sound | with_reducible apply State.replaysEnd_sound
    | with_reducible apply State.retrain_sound | with_reducible apply ite_sound | with_reducible apply ite_fst_sound
    | split

theorem State.replayLink_sound {o : State} {s : State} {l : Nat} {payload : BitVec 608} (hS : s.Sound ⟨k0, k1, k2, k3,
    k4, k5, k6, k7, k8, k9, k10, k11, k12, k13, k14, k15, false, k17⟩ o) : (State.replayLink s l payload).Sound ⟨k0,
    k1, k2, k3, k4, k5, k6, k7, k8, k9, k10, k11, k12, k13, k14, k15, false, k17⟩ o := by
  unfold State.replayLink; try dsimp only
  with_reducible repeat' first
    | assumption | intro _ | apply ite_sound | apply ite_fst_sound | apply mk_sound | apply State.Sound.clock
    | apply State.Sound.queue | apply State.Sound.free | apply State.Sound.fused | apply State.Sound.mem
    | apply State.Sound.regs | apply State.Sound.k_regs | apply State.Sound.k_beat | apply State.Sound.k_boot
    | apply State.Sound.k_cores | apply State.Sound.k_cache | apply State.Sound.k_xlat | apply State.Sound.k_fab
    | apply State.Sound.k_home | apply State.Sound.k_dram | apply State.Sound.k_mem | apply State.Sound.k_links
    | apply State.Sound.k_sec | apply State.Sound.k_crypto | apply State.Sound.k_pcie | apply State.Sound.k_pwr
    | apply State.Sound.k_err | apply State.Sound.k_sent | apply State.Sound.k_freeCtr | apply State.Sound.k_flits
    | exact absurd (by assumption) Bool.false_ne_true

theorem State.crcOp_sound {o : State} {s : State} {l : Nat} {payload : BitVec 608} {crc : BitVec 32} (hS : s.Sound
    ⟨false, false, false, false, false, false, false, false, false, false, false, false, k12, k13, false, false,
    false, k17⟩ o) : (State.crcOp s l payload crc).Sound ⟨false, false, false, false, false, false, false, false,
    false, false, false, false, k12, k13, false, false, false, k17⟩ o := by
  unfold State.crcOp; try dsimp only
  repeat' first
    | with_reducible assumption | with_reducible intro _ | with_reducible apply State.replaysEnd_sound
    | with_reducible apply State.countErr_sound | with_reducible apply State.onFab_sound
    | with_reducible apply State.replayFail_sound | with_reducible apply State.replayLink_sound
    | with_reducible apply State.meshFail_sound | with_reducible apply ite_sound | with_reducible apply ite_fst_sound
    | split

theorem State.lightLoss_sound {o : State} {s : State} {l : Nat} (hS : s.Sound ⟨false, false, false, k3, k4, k5, false,
    false, k8, k9, false, k11, k12, k13, k14, false, false, k17⟩ o) : (State.lightLoss s l).Sound ⟨false, false,
    false, k3, k4, k5, false, false, k8, k9, false, k11, k12, k13, k14, false, false, k17⟩ o := by
  unfold State.lightLoss; try dsimp only
  with_reducible repeat' first
    | assumption | intro _ | apply State.retrain_sound | apply ite_sound | apply ite_fst_sound

theorem State.setTile_sound {o : State} {s : State} {t : ℕ} {v : ℕ} (hS : s.Sound ⟨false, k1, k2, k3, k4, k5, k6, k7,
    k8, k9, k10, k11, k12, k13, k14, k15, k16, k17⟩ o) : (State.setTile s t v).Sound ⟨false, k1, k2, k3, k4, k5, k6,
    k7, k8, k9, k10, k11, k12, k13, k14, k15, k16, k17⟩ o := by
  unfold State.setTile; try dsimp only
  with_reducible repeat' first | assumption | intro _ | apply State.setF_sound

theorem State.laserLoss_sound {o : State} {s : State} {t : ℕ} (hS : s.Sound ⟨false, false, k2, k3, k4, k5, k6, k7,
    k8, k9, false, k11, k12, k13, k14, false, false, k17⟩ o) : (State.laserLoss s t).Sound ⟨false, false, k2, k3, k4,
    k5, k6, k7, k8, k9, false, k11, k12, k13, k14, false, false, k17⟩ o := by
  unfold State.laserLoss; try dsimp only
  repeat' first
    | with_reducible assumption | with_reducible intro _ | with_reducible apply State.setTile_sound
    | with_reducible apply State.record_sound | with_reducible apply State.incF_sound
    | with_reducible apply State.onLinks_sound | with_reducible apply State.selfFence_sound
    | with_reducible apply ite_sound | split

end Sys2Proof.Machine
end

