-- ==== Sys2Proof/Laws/KeepPowerOps.lean ====
section
/-! SUPPORT. The operations of Machine/PowerOps.lean keep State.Sound. -/

namespace Sys2Proof.Machine

variable {k0 k1 k2 k3 k4 k5 k6 k7 k8 k9 k10 k11 k12 k13 k14 k15 k16 k17 : Bool}

theorem State.updUnit_sound {o : State} {s : State} {u : ℕ} {f : UnitPwr → UnitPwr} (hS : s.Sound ⟨k0, k1, k2, k3,
    k4, k5, k6, k7, k8, k9, k10, k11, k12, k13, false, k15, k16, k17⟩ o) : (State.updUnit s u f).Sound ⟨k0, k1, k2,
    k3, k4, k5, k6, k7, k8, k9, k10, k11, k12, k13, false, k15, k16, k17⟩ o := by
  unfold State.updUnit; try dsimp only
  with_reducible repeat' first | assumption | intro _ | apply State.onPwr_sound

theorem State.setLevel_sound {o : State} {s : State} {u : ℕ} {b : ℕ} (hS : s.Sound ⟨false, k1, k2, k3, k4, k5, k6,
    k7, k8, k9, k10, k11, k12, k13, k14, k15, k16, k17⟩ o) : (State.setLevel s u b).Sound ⟨false, k1, k2, k3, k4, k5,
    k6, k7, k8, k9, k10, k11, k12, k13, k14, k15, k16, k17⟩ o := by
  unfold State.setLevel; try dsimp only
  with_reducible repeat' first | assumption | intro _ | apply State.setF_sound

theorem State.startChange_sound {o : State} {s : State} {u : ℕ} {b : ℕ} (hS : s.Sound ⟨false, k1, k2, k3, k4, k5, k6,
    k7, k8, k9, k10, k11, k12, k13, false, k15, false, k17⟩ o) : (State.startChange s u b).Sound ⟨false, k1, k2, k3,
    k4, k5, k6, k7, k8, k9, k10, k11, k12, k13, false, k15, false, k17⟩ o := by
  unfold State.startChange; try dsimp only
  with_reducible repeat' first
    | assumption | intro _ | apply State.setLevel_sound | apply State.updUnit_sound | apply State.setF_sound
    | apply State.send_sound | apply ite_sound

theorem State.endChange_sound {o : State} {s : State} {u : ℕ} (hS : s.Sound ⟨false, k1, k2, k3, k4, k5, k6, k7, k8,
    k9, k10, k11, k12, k13, false, k15, false, k17⟩ o) : (State.endChange s u).Sound ⟨false, k1, k2, k3, k4, k5, k6,
    k7, k8, k9, k10, k11, k12, k13, false, k15, false, k17⟩ o := by
  unfold State.endChange; try dsimp only
  repeat' first
    | with_reducible assumption | with_reducible intro _ | with_reducible apply State.setF_sound
    | with_reducible apply State.startChange_sound | with_reducible apply State.updUnit_sound
    | with_reducible apply ite_sound | split

theorem State.takeAvs_sound {o : State} {s : State} {u : ℕ} (hS : s.Sound ⟨k0, k1, k2, k3, k4, k5, k6, k7, k8, k9,
    k10, k11, k12, k13, k14, k15, false, k17⟩ o) : (State.takeAvs s u).Sound ⟨k0, k1, k2, k3, k4, k5, k6, k7, k8, k9,
    k10, k11, k12, k13, k14, k15, false, k17⟩ o := by
  unfold State.takeAvs; try dsimp only
  with_reducible repeat' first | assumption | intro _ | apply State.take_sound

theorem State.avsDone_sound {o : State} {s : State} {u : Nat} (hS : s.Sound ⟨false, k1, k2, k3, k4, k5, k6, k7, k8,
    k9, k10, k11, k12, k13, false, k15, false, k17⟩ o) : (State.avsDone s u).Sound ⟨false, k1, k2, k3, k4, k5, k6, k7,
    k8, k9, k10, k11, k12, k13, false, k15, false, k17⟩ o := by
  unfold State.avsDone; try dsimp only
  repeat' first
    | with_reducible assumption | with_reducible intro _ | with_reducible apply State.take_sound
    | with_reducible apply State.takeAvs_sound | with_reducible apply State.updUnit_sound
    | with_reducible apply State.setLevel_sound | with_reducible apply State.endChange_sound
    | with_reducible apply ite_sound | with_reducible apply ite_fst_sound | split

theorem State.avsFail_sound {o : State} {s : State} {u : ℕ} (hS : s.Sound ⟨false, k1, k2, k3, k4, k5, k6, k7, k8, k9,
    k10, k11, k12, k13, false, false, false, k17⟩ o) : (State.avsFail s u).Sound ⟨false, k1, k2, k3, k4, k5, k6, k7,
    k8, k9, k10, k11, k12, k13, false, false, false, k17⟩ o := by
  unfold State.avsFail; try dsimp only
  with_reducible repeat' first
    | assumption | intro _ | apply State.send_sound | apply State.updUnit_sound | apply State.takeAvs_sound
    | apply State.incF_sound | apply State.record_sound | apply State.setF_sound | apply State.endChange_sound
    | apply ite_sound

theorem State.grant_sound {o : State} {s : State} {u : ℕ} {b : ℕ} (hS : s.Sound ⟨false, k1, k2, k3, k4, k5, k6, k7,
    k8, k9, k10, k11, k12, k13, false, k15, false, k17⟩ o) : (State.grant s u b).Sound ⟨false, k1, k2, k3, k4, k5, k6,
    k7, k8, k9, k10, k11, k12, k13, false, k15, false, k17⟩ o := by
  unfold State.grant; try dsimp only
  with_reducible repeat' first
    | assumption | intro _ | apply State.setF_sound | apply State.take_sound | apply State.updUnit_sound
    | apply State.startChange_sound | apply ite_sound

theorem State.dropReports_sound {o : State} {s : State} (hS : s.Sound ⟨k0, k1, k2, k3, k4, k5, k6, k7, k8, k9, k10,
    k11, k12, k13, k14, k15, false, k17⟩ o) : (State.dropReports s).Sound ⟨k0, k1, k2, k3, k4, k5, k6, k7, k8, k9,
    k10, k11, k12, k13, k14, k15, false, k17⟩ o := by
  exact ⟨hS.clock, hS.queue, hS.free, hS.fused, hS.mem, hS.regs, hS.k_regs, hS.k_beat, hS.k_boot, hS.k_cores, hS.k_cache, hS.k_xlat, hS.k_fab, hS.k_home, hS.k_dram, hS.k_mem, hS.k_links, hS.k_sec, hS.k_crypto, hS.k_pcie, hS.k_pwr, hS.k_err, nofun, hS.k_freeCtr, hS.k_flits⟩

theorem State.sendReports_sound {o : State} {s : State} {temps : List Nat} {ests : List (List Nat)} (hS : s.Sound
    ⟨false, k1, k2, k3, k4, k5, k6, k7, k8, k9, k10, k11, k12, k13, false, k15, false, k17⟩ o) : (State.sendReports s
    temps ests).Sound ⟨false, k1, k2, k3, k4, k5, k6, k7, k8, k9, k10, k11, k12, k13, false, k15, false, k17⟩ o := by
  unfold State.sendReports; try dsimp only
  repeat' first
    | with_reducible assumption | with_reducible intro _ | with_reducible apply State.updUnit_sound
    | with_reducible apply State.setF_sound | with_reducible apply State.setLevel_sound
    | with_reducible apply State.dropReports_sound | with_reducible apply State.send_sound
    | with_reducible apply ite_sound | with_reducible apply ite_fst_sound | with_reducible apply each_sound
    | with_reducible apply each_fst_sound | with_reducible refine each_fst_sound' (by assumption) ?_ ?_ | split

theorem State.thermtripOn_sound {o : State} {s : State} (hS : s.Sound ⟨k0, k1, k2, k3, k4, k5, k6, k7, k8, k9, k10,
    k11, k12, k13, false, k15, false, k17⟩ o) : (State.thermtripOn s).Sound ⟨k0, k1, k2, k3, k4, k5, k6, k7, k8, k9,
    k10, k11, k12, k13, false, k15, false, k17⟩ o := by
  unfold State.thermtripOn; try dsimp only
  with_reducible repeat' first
    | assumption | intro _ | apply State.send_sound | apply State.onPwr_sound | apply ite_sound

theorem State.thermalRead_sound {o : State} {s : State} {temps : List Nat} (hS : s.Sound ⟨false, false, k2, k3, k4,
    k5, k6, k7, k8, k9, k10, k11, k12, k13, false, false, false, k17⟩ o) : (State.thermalRead s temps).Sound ⟨false,
    false, k2, k3, k4, k5, k6, k7, k8, k9, k10, k11, k12, k13, false, false, false, k17⟩ o := by
  unfold State.thermalRead; try dsimp only
  repeat' first
    | with_reducible assumption | with_reducible intro _ | with_reducible apply State.updUnit_sound
    | with_reducible apply State.setF_sound | with_reducible apply State.raise_sound
    | with_reducible apply State.selfFence_sound | with_reducible apply State.thermtripOn_sound
    | with_reducible apply ite_sound | with_reducible apply ite_fst_sound | with_reducible apply each_sound
    | with_reducible apply each_fst_sound | with_reducible refine each_fst_sound' (by assumption) ?_ ?_ | split

theorem State.assayPower_sound {o : State} {s : State} (hS : s.Sound ⟨k0, k1, k2, k3, k4, k5, k6, k7, k8, k9, k10,
    k11, k12, k13, k14, false, k16, k17⟩ o) : (State.assayPower s).Sound ⟨k0, k1, k2, k3, k4, k5, k6, k7, k8, k9, k10,
    k11, k12, k13, k14, false, k16, k17⟩ o := by
  unfold State.assayPower; try dsimp only
  with_reducible repeat' first | assumption | intro _ | apply State.onErr_sound | apply ite_sound

theorem State.settle_sound {o : State} {s : State} (hS : s.Sound ⟨false, k1, k2, k3, k4, k5, k6, k7, k8, k9, k10, k11,
    k12, k13, false, false, false, k17⟩ o) : (State.settle s).Sound ⟨false, k1, k2, k3, k4, k5, k6, k7, k8, k9, k10,
    k11, k12, k13, false, false, false, k17⟩ o := by
  unfold State.settle; try dsimp only
  repeat' first
    | with_reducible assumption | with_reducible intro _ | with_reducible apply State.assayPower_sound
    | with_reducible apply State.setF_sound | with_reducible apply State.record_sound
    | with_reducible apply State.onPwr_sound | with_reducible apply State.send_sound | with_reducible apply ite_sound
    | with_reducible apply ite_fst_sound | with_reducible apply each_sound | with_reducible apply each_fst_sound
    | with_reducible refine each_fst_sound' (by assumption) ?_ ?_ | split

theorem State.reportIn_sound {o : State} {s : State} {h : ℕ} {u : ℕ} (hS : s.Sound ⟨false, k1, k2, k3, k4, k5, k6,
    k7, k8, k9, k10, k11, k12, k13, false, false, false, k17⟩ o) : (State.reportIn s h u).Sound ⟨false, k1, k2, k3,
    k4, k5, k6, k7, k8, k9, k10, k11, k12, k13, false, false, false, k17⟩ o := by
  unfold State.reportIn; try dsimp only
  with_reducible repeat' first
    | assumption | intro _ | apply State.updUnit_sound | apply State.take_sound | apply State.send_sound
    | apply State.settle_sound | apply ite_sound

theorem State.staleOp_sound {o : State} {s : State} (hS : s.Sound ⟨false, k1, k2, k3, k4, k5, k6, k7, k8, k9, k10,
    k11, k12, k13, k14, k15, false, k17⟩ o) : (State.staleOp s).Sound ⟨false, k1, k2, k3, k4, k5, k6, k7, k8, k9, k10,
    k11, k12, k13, k14, k15, false, k17⟩ o := by
  unfold State.staleOp; try dsimp only
  with_reducible repeat' first
    | assumption | intro _ | apply State.setF_sound | apply State.dropReports_sound | apply ite_sound

theorem State.clkOn_sound {o : State} {s : State} {n : ℕ} {on : Bool} (hS : s.Sound ⟨false, k1, k2, k3, k4, k5, k6,
    k7, k8, k9, k10, k11, k12, k13, k14, k15, k16, k17⟩ o) : (State.clkOn s n on).Sound ⟨false, k1, k2, k3, k4, k5,
    k6, k7, k8, k9, k10, k11, k12, k13, k14, k15, k16, k17⟩ o := by
  unfold State.clkOn; try dsimp only
  with_reducible repeat' first | assumption | intro _ | apply State.setF_sound

theorem State.setCluster_sound {o : State} {s : State} {d : ℕ} {k : ℕ} {on : Bool} (hS : s.Sound ⟨false, k1, k2, k3,
    k4, k5, k6, k7, k8, k9, k10, k11, k12, k13, k14, k15, k16, k17⟩ o) : (State.setCluster s d k on).Sound ⟨false, k1,
    k2, k3, k4, k5, k6, k7, k8, k9, k10, k11, k12, k13, k14, k15, k16, k17⟩ o := by
  unfold State.setCluster; try dsimp only
  with_reducible repeat' first | assumption | intro _ | apply State.clkOn_sound | apply State.setF_sound

theorem State.dcFlush_sound {o : State} {s : State} {d : ℕ} (hS : s.Sound ⟨false, k1, k2, k3, false, k5, k6, k7, k8,
    k9, k10, k11, k12, k13, k14, k15, false, k17⟩ o) : (State.dcFlush s d).Sound ⟨false, k1, k2, k3, false, k5, k6,
    k7, k8, k9, k10, k11, k12, k13, k14, k15, false, k17⟩ o := by
  unfold State.dcFlush; try dsimp only
  with_reducible repeat' first
    | assumption | intro _ | apply State.dcEvict_sound | apply ite_sound | apply each_sound

theorem State.beginDrain_sound {o : State} {s : State} {d : ℕ} {k : ℕ} (hS : s.Sound ⟨false, k1, k2, k3, false, k5,
    k6, k7, k8, k9, k10, k11, k12, k13, false, k15, false, k17⟩ o) : (State.beginDrain s d k).Sound ⟨false, k1, k2,
    k3, false, k5, k6, k7, k8, k9, k10, k11, k12, k13, false, k15, false, k17⟩ o := by
  unfold State.beginDrain; try dsimp only
  with_reducible repeat' first
    | assumption | intro _ | apply State.onPwr_sound | apply State.dcFlush_sound | apply State.setF_sound
    | apply ite_sound

theorem State.powerDowns_sound {o : State} {s : State} (hS : s.Sound ⟨false, k1, k2, k3, false, k5, k6, k7, k8, k9,
    k10, k11, k12, k13, false, k15, false, k17⟩ o) : (State.powerDowns s).Sound ⟨false, k1, k2, k3, false, k5, k6, k7,
    k8, k9, k10, k11, k12, k13, false, k15, false, k17⟩ o := by
  unfold State.powerDowns; try dsimp only
  repeat' first
    | with_reducible assumption | with_reducible intro _ | with_reducible apply State.dcFlush_sound
    | with_reducible apply State.beginDrain_sound | with_reducible apply ite_sound
    | with_reducible apply ite_fst_sound | with_reducible apply each_sound | with_reducible apply each_fst_sound
    | with_reducible refine each_fst_sound' (by assumption) ?_ ?_ | split

theorem State.dirForget_sound {o : State} {s : State} {d : ℕ} (hS : s.Sound ⟨false, k1, k2, k3, k4, k5, k6, false,
    false, false, k10, k11, k12, k13, k14, false, false, k17⟩ o) : (State.dirForget s d).Sound ⟨false, k1, k2, k3, k4,
    k5, k6, false, false, false, k10, k11, k12, k13, k14, false, false, k17⟩ o := by
  unfold State.dirForget; try dsimp only
  with_reducible repeat' first
    | assumption | intro _ | apply State.dirClean_sound | apply ite_sound | apply each_sound

theorem State.dieDown_sound {o : State} {s : State} {d : ℕ} (hS : s.Sound ⟨false, false, k2, k3, false, k5, false,
    false, false, false, k10, k11, k12, k13, k14, false, false, k17⟩ o) : (State.dieDown s d).Sound ⟨false, false, k2,
    k3, false, k5, false, false, false, false, k10, k11, k12, k13, k14, false, false, k17⟩ o := by
  unfold State.dieDown; try dsimp only
  with_reducible repeat' first
    | assumption | intro _ | apply State.clearDie_sound | apply State.dirForget_sound | apply State.pealLeave_sound
    | apply State.arbMaskDie_sound | apply State.setF_sound | apply State.setCluster_sound | apply State.clkOn_sound

theorem State.maskCluster_sound {o : State} {s : State} {d : Nat} {k : Nat} {on : Bool} (hS : s.Sound ⟨false, k1, k2,
    k3, k4, k5, false, k7, k8, k9, k10, k11, k12, k13, k14, k15, k16, k17⟩ o) : (State.maskCluster s d k on).Sound
    ⟨false, k1, k2, k3, k4, k5, false, k7, k8, k9, k10, k11, k12, k13, k14, k15, k16, k17⟩ o := by
  unfold State.maskCluster; try dsimp only
  repeat' first
    | with_reducible assumption | with_reducible intro _ | with_reducible apply State.arbMask_sound
    | with_reducible apply ite_sound | with_reducible apply ite_fst_sound | with_reducible apply each_sound
    | with_reducible apply each_fst_sound | with_reducible refine each_fst_sound' (by assumption) ?_ ?_ | split

theorem State.resumeLink_sound {o : State} {s : State} {l : Nat} (hS : s.Sound ⟨false, k1, false, k3, k4, k5, k6, k7,
    k8, k9, k10, k11, k12, k13, k14, k15, k16, k17⟩ o) : (State.resumeLink s l).Sound ⟨false, k1, false, k3, k4, k5,
    k6, k7, k8, k9, k10, k11, k12, k13, k14, k15, k16, k17⟩ o := by
  unfold State.resumeLink; try dsimp only
  with_reducible repeat' first
    | assumption | intro _ | apply State.setLink_sound | apply State.linkClear_sound | apply State.beginTask_sound
    | apply ite_sound | apply ite_fst_sound

theorem State.drainDone_sound {o : State} {s : State} {d : Nat} {k : Nat} (hS : s.Sound ⟨false, false, false, k3,
    false, k5, false, false, false, false, k10, k11, k12, k13, false, false, false, k17⟩ o) : (State.drainDone s d
    k).Sound ⟨false, false, false, k3, false, k5, false, false, false, false, k10, k11, k12, k13, false, false, false,
    k17⟩ o := by
  unfold State.drainDone; try dsimp only
  repeat' first
    | with_reducible assumption | with_reducible intro _ | with_reducible apply State.onPwr_sound
    | with_reducible apply State.setF_sound | with_reducible apply State.resetDie_sound
    | with_reducible apply State.dieDown_sound | with_reducible apply State.resumeLink_sound
    | with_reducible apply State.resetCluster_sound | with_reducible apply State.setCluster_sound
    | with_reducible apply State.maskCluster_sound | with_reducible apply ite_sound
    | with_reducible apply ite_fst_sound | split

theorem State.startWake_sound {o : State} {s : State} {d : Nat} (hS : s.Sound ⟨false, k1, false, k3, k4, k5, k6, k7,
    k8, k9, k10, k11, k12, k13, false, k15, k16, k17⟩ o) : (State.startWake s d).Sound ⟨false, k1, false, k3, k4, k5,
    k6, k7, k8, k9, k10, k11, k12, k13, false, k15, k16, k17⟩ o := by
  unfold State.startWake; try dsimp only
  repeat' first
    | with_reducible assumption | with_reducible intro _ | with_reducible apply State.resumeLink_sound
    | with_reducible apply State.onPwr_sound | with_reducible apply State.setF_sound | with_reducible apply ite_sound
    | with_reducible apply ite_fst_sound | split

theorem State.wakeDone_sound {o : State} {s : State} {d : Nat} (hS : s.Sound ⟨false, k1, k2, k3, false, k5, false, k7,
    k8, k9, k10, k11, k12, k13, false, k15, false, k17⟩ o) : (State.wakeDone s d).Sound ⟨false, k1, k2, k3, false, k5,
    false, k7, k8, k9, k10, k11, k12, k13, false, k15, false, k17⟩ o := by
  unfold State.wakeDone; try dsimp only
  repeat' first
    | with_reducible assumption | with_reducible intro _ | with_reducible apply State.onPwr_sound
    | with_reducible apply State.clearDie_sound | with_reducible apply State.clkOn_sound
    | with_reducible apply State.resetCluster_sound | with_reducible apply State.setCluster_sound
    | with_reducible apply State.arbMaskDie_sound | with_reducible apply State.maskCluster_sound
    | with_reducible apply State.setF_sound | with_reducible apply State.send_sound | with_reducible apply ite_sound
    | with_reducible apply ite_fst_sound | with_reducible apply each_sound | with_reducible apply each_fst_sound
    | with_reducible refine each_fst_sound' (by assumption) ?_ ?_ | split

end Sys2Proof.Machine
end

