-- ==== Sys2Proof/Laws/KeepSysOps.lean ====
section
/-! SUPPORT. The operations of Machine/SysOps.lean keep State.Sound. -/

namespace Sys2Proof.Machine

variable {k0 k1 k2 k3 k4 k5 k6 k7 k8 k9 k10 k11 k12 k13 k14 k15 k16 k17 : Bool}

theorem State.setRoutes_sound {o : State} {s : State} (hS : s.Sound ⟨false, k1, k2, k3, k4, k5, k6, k7, k8, k9, k10,
    k11, k12, k13, k14, k15, k16, k17⟩ o) : (State.setRoutes s).Sound ⟨false, k1, k2, k3, k4, k5, k6, k7, k8, k9, k10,
    k11, k12, k13, k14, k15, k16, k17⟩ o := by
  unfold State.setRoutes; try dsimp only
  with_reducible repeat' first
    | assumption | intro _ | apply State.setReg_sound | apply ite_sound | apply each_sound

theorem State.setSkt_sound {o : State} {s : State} {i : ℕ} {v : ℕ} (hS : s.Sound ⟨false, k1, k2, k3, k4, k5, k6, k7,
    k8, k9, k10, k11, k12, k13, k14, k15, k16, k17⟩ o) : (State.setSkt s i v).Sound ⟨false, k1, k2, k3, k4, k5, k6,
    k7, k8, k9, k10, k11, k12, k13, k14, k15, k16, k17⟩ o := by
  unfold State.setSkt; try dsimp only
  with_reducible repeat' first | assumption | intro _ | apply State.setF_sound

theorem State.sktEvent_sound {o : State} {s : State} {i : ℕ} {fl : Fld} (hS : s.Sound ⟨false, k1, k2, k3, k4, k5, k6,
    k7, k8, k9, k10, k11, k12, k13, k14, false, false, k17⟩ o) : (State.sktEvent s i fl).Sound ⟨false, k1, k2, k3, k4,
    k5, k6, k7, k8, k9, k10, k11, k12, k13, k14, false, false, k17⟩ o := by
  unfold State.sktEvent; try dsimp only
  with_reducible repeat' first | assumption | intro _ | apply State.record_sound | apply State.setF_sound

theorem State.pwrEn_sound {o : State} {s : State} {i : Nat} {on : Bool} (hS : s.Sound ⟨false, k1, k2, k3, k4, k5, k6,
    k7, k8, k9, k10, k11, k12, k13, k14, k15, false, k17⟩ o) : (State.pwrEn s i on).Sound ⟨false, k1, k2, k3, k4, k5,
    k6, k7, k8, k9, k10, k11, k12, k13, k14, k15, false, k17⟩ o := by
  unfold State.pwrEn; try dsimp only
  with_reducible repeat' first
    | assumption | intro _ | apply State.setF_sound | apply State.send_sound | apply ite_sound | apply ite_fst_sound

theorem State.led_sound {o : State} {s : State} {i : ℕ} {on : Bool} (hS : s.Sound ⟨k0, k1, k2, k3, k4, k5, k6, k7,
    k8, k9, k10, k11, k12, k13, k14, k15, false, k17⟩ o) : (State.led s i on).Sound ⟨k0, k1, k2, k3, k4, k5, k6, k7,
    k8, k9, k10, k11, k12, k13, k14, k15, false, k17⟩ o := by
  unfold State.led; try dsimp only
  with_reducible repeat' first | assumption | intro _ | apply State.send_sound

theorem State.blink_sound {o : State} {s : State} {i : ℕ} (hS : s.Sound ⟨k0, k1, k2, k3, k4, k5, k6, k7, k8, k9, k10,
    k11, k12, k13, k14, k15, false, k17⟩ o) : (State.blink s i).Sound ⟨k0, k1, k2, k3, k4, k5, k6, k7, k8, k9, k10,
    k11, k12, k13, k14, k15, false, k17⟩ o := by
  unfold State.blink; try dsimp only
  with_reducible repeat' first | assumption | intro _ | apply State.send_sound

theorem State.sponsorSkt_sound {o : State} {s : State} {i : Nat} {q : Nat} {was : Bool} (hS : s.Sound ⟨false, k1, k2,
    k3, k4, k5, k6, k7, k8, k9, k10, k11, k12, k13, k14, k15, false, k17⟩ o) : (State.sponsorSkt s i q was).Sound
    ⟨false, k1, k2, k3, k4, k5, k6, k7, k8, k9, k10, k11, k12, k13, k14, k15, false, k17⟩ o := by
  unfold State.sponsorSkt; try dsimp only
  repeat' first
    | with_reducible assumption | with_reducible intro _ | with_reducible apply State.setSkt_sound
    | with_reducible apply State.pwrEn_sound | with_reducible apply State.blink_sound
    | with_reducible apply State.led_sound | with_reducible apply ite_sound | with_reducible apply ite_fst_sound
    | split

theorem State.setSponsor_sound {o : State} {s : State} (hS : s.Sound ⟨false, k1, k2, k3, k4, k5, k6, k7, k8, k9, k10,
    k11, k12, k13, k14, k15, false, k17⟩ o) : (State.setSponsor s).Sound ⟨false, k1, k2, k3, k4, k5, k6, k7, k8, k9,
    k10, k11, k12, k13, k14, k15, false, k17⟩ o := by
  unfold State.setSponsor; try dsimp only
  repeat' first
    | with_reducible assumption | with_reducible intro _ | with_reducible apply State.setF_sound
    | with_reducible apply State.send_sound | with_reducible apply State.sponsorSkt_sound
    | with_reducible apply State.pwrEn_sound | with_reducible apply ite_sound | with_reducible apply ite_fst_sound
    | with_reducible apply each_sound | with_reducible apply each_fst_sound
    | with_reducible refine each_fst_sound' (by assumption) ?_ ?_ | split

theorem State.pealResend_sound {o : State} {s : State} (hS : s.Sound ⟨k0, k1, k2, k3, k4, k5, k6, k7, k8, k9, k10,
    k11, k12, k13, k14, k15, false, k17⟩ o) : (State.pealResend s).Sound ⟨k0, k1, k2, k3, k4, k5, k6, k7, k8, k9, k10,
    k11, k12, k13, k14, k15, false, k17⟩ o := by
  unfold State.pealResend; try dsimp only
  repeat' first
    | with_reducible assumption | with_reducible intro _ | with_reducible apply State.send_sound
    | with_reducible apply ite_sound | with_reducible apply ite_fst_sound | with_reducible apply each_sound
    | with_reducible apply each_fst_sound | with_reducible refine each_fst_sound' (by assumption) ?_ ?_ | split

theorem State.reportAgain_sound {o : State} {s : State} (hS : s.Sound ⟨false, false, k2, k3, k4, k5, k6, false, k8,
    k9, false, k11, k12, k13, k14, false, false, k17⟩ o) : (State.reportAgain s).Sound ⟨false, false, k2, k3, k4, k5,
    k6, false, k8, k9, false, k11, k12, k13, k14, false, false, k17⟩ o := by
  unfold State.reportAgain; try dsimp only
  repeat' first
    | with_reducible assumption | with_reducible intro _ | with_reducible apply State.reportPort_sound
    | with_reducible apply State.onLinks_sound | with_reducible apply ite_sound | with_reducible apply ite_fst_sound
    | with_reducible apply each_sound | with_reducible apply each_fst_sound
    | with_reducible refine each_fst_sound' (by assumption) ?_ ?_ | split

theorem State.setMembers_sound {o : State} {s : State} {ps : List Nat} (hS : s.Sound ⟨false, false, k2, k3, k4, k5,
    k6, false, k8, k9, false, k11, k12, k13, k14, false, false, k17⟩ o) : (State.setMembers s ps).Sound ⟨false, false,
    k2, k3, k4, k5, k6, false, k8, k9, false, k11, k12, k13, k14, false, false, k17⟩ o := by
  unfold State.setMembers; try dsimp only
  repeat' first
    | with_reducible assumption | with_reducible intro _ | with_reducible apply State.setF_sound
    | with_reducible apply State.beatEvent_sound | with_reducible apply State.onHome_sound
    | with_reducible apply State.pealResend_sound | with_reducible apply State.reportAgain_sound
    | with_reducible apply State.setRoutes_sound | with_reducible apply State.setSponsor_sound
    | with_reducible apply ite_sound | with_reducible apply ite_fst_sound | split

theorem State.haltCores_sound {o : State} {s : State} {p : ℕ} (hS : s.Sound ⟨false, k1, k2, k3, k4, k5, k6, k7, k8,
    k9, k10, k11, k12, k13, k14, k15, k16, k17⟩ o) : (State.haltCores s p).Sound ⟨false, k1, k2, k3, k4, k5, k6, k7,
    k8, k9, k10, k11, k12, k13, k14, k15, k16, k17⟩ o := by
  unfold State.haltCores; try dsimp only
  with_reducible repeat' first
    | assumption | intro _ | apply State.setCoreState_sound | apply ite_sound | apply each_sound

theorem State.serviceWrite_sound {o : State} {s : State} {h : Nat} {p : Nat} {pa : Nat} {bytes : List Byte} (hS :
    s.Sound ⟨k0, k1, k2, k3, k4, k5, k6, k7, false, k9, k10, k11, k12, k13, k14, k15, false, k17⟩ o) :
    (State.serviceWrite s h p pa bytes).Sound ⟨k0, k1, k2, k3, k4, k5, k6, k7, false, k9, k10, k11, k12, k13, k14,
    k15, false, k17⟩ o := by
  unfold State.serviceWrite; try dsimp only
  repeat' first
    | with_reducible assumption | with_reducible intro _ | with_reducible apply State.queueWrite_sound
    | with_reducible apply State.send_sound | with_reducible apply ite_sound | with_reducible apply ite_fst_sound
    | with_reducible apply each_sound | with_reducible apply each_fst_sound
    | with_reducible refine each_fst_sound' (by assumption) ?_ ?_ | split

theorem State.prepPart_sound {o : State} {s : State} {r : PartRec} (hS : s.Sound ⟨false, k1, k2, k3, k4, k5, k6, k7,
    false, false, k10, k11, k12, k13, k14, false, false, k17⟩ o) : (State.prepPart s r).Sound ⟨false, k1, k2, k3, k4,
    k5, k6, k7, false, false, k10, k11, k12, k13, k14, false, false, k17⟩ o := by
  unfold State.prepPart; try dsimp only
  with_reducible repeat' first
    | assumption | intro _ | apply State.haltCores_sound | apply State.serviceWrite_sound | apply ite_sound

theorem State.setPartState_sound {o : State} {s : State} {p : ℕ} {v : ℕ} (hS : s.Sound ⟨false, k1, k2, k3, k4, k5,
    k6, k7, k8, k9, k10, k11, k12, k13, k14, k15, k16, k17⟩ o) : (State.setPartState s p v).Sound ⟨false, k1, k2, k3,
    k4, k5, k6, k7, k8, k9, k10, k11, k12, k13, k14, k15, k16, k17⟩ o := by
  unfold State.setPartState; try dsimp only
  with_reducible repeat' first | assumption | intro _ | apply State.setF_sound

theorem State.awaitStart_sound {o : State} {s : State} {p : ℕ} {b : ℕ} (hS : s.Sound ⟨false, k1, false, k3, k4, k5,
    k6, k7, k8, k9, k10, k11, k12, k13, k14, k15, k16, k17⟩ o) : (State.awaitStart s p b).Sound ⟨false, k1, false, k3,
    k4, k5, k6, k7, k8, k9, k10, k11, k12, k13, k14, k15, k16, k17⟩ o := by
  unfold State.awaitStart; try dsimp only
  repeat' first
    | with_reducible assumption | with_reducible intro _ | with_reducible apply State.onBoot_sound
    | with_reducible apply State.setPartState_sound | with_reducible apply State.setReg_sound | with_reducible rfl
    | rfl

theorem State.startOver_sound {o : State} {s : State} {p : Nat} (hS : s.Sound ⟨k0, k1, false, k3, k4, k5, k6, k7, k8,
    k9, k10, k11, k12, k13, k14, k15, k16, k17⟩ o) : (State.startOver s p).Sound ⟨k0, k1, false, k3, k4, k5, k6, k7,
    k8, k9, k10, k11, k12, k13, k14, k15, k16, k17⟩ o := by
  unfold State.startOver; try dsimp only
  repeat' first
    | with_reducible assumption | with_reducible intro _ | with_reducible apply State.onBoot_sound
    | with_reducible apply ite_sound | with_reducible apply ite_fst_sound | with_reducible rfl | rfl | split

theorem State.scheduleStarts_sound {o : State} {s : State} {q : Nat} (hS : s.Sound ⟨false, k1, false, k3, k4, k5, k6,
    k7, false, false, k10, k11, k12, k13, k14, false, false, k17⟩ o) : (State.scheduleStarts s q).Sound ⟨false, k1,
    false, k3, k4, k5, k6, k7, false, false, k10, k11, k12, k13, k14, false, false, k17⟩ o := by
  unfold State.scheduleStarts; try dsimp only
  repeat' first
    | with_reducible assumption | with_reducible intro _ | with_reducible apply State.prepPart_sound
    | with_reducible apply State.awaitStart_sound | with_reducible apply State.haltCores_sound
    | with_reducible apply ite_sound | with_reducible apply ite_fst_sound | with_reducible apply each_sound
    | with_reducible apply each_fst_sound | with_reducible refine each_fst_sound' (by assumption) ?_ ?_
    | with_reducible apply id_sound | split

theorem State.takeStarts_sound {o : State} {s : State} {b : List Byte} (hS : s.Sound ⟨false, k1, false, k3, k4, k5,
    k6, k7, k8, k9, k10, k11, k12, k13, k14, k15, k16, k17⟩ o) : (State.takeStarts s b).Sound ⟨false, k1, false, k3,
    k4, k5, k6, k7, k8, k9, k10, k11, k12, k13, k14, k15, k16, k17⟩ o := by
  unfold State.takeStarts; try dsimp only
  repeat' first
    | with_reducible assumption | with_reducible intro _ | with_reducible apply State.setPartState_sound
    | with_reducible apply State.setF_sound | with_reducible apply State.awaitStart_sound
    | with_reducible apply State.startOver_sound | with_reducible apply State.setReg_sound
    | with_reducible apply ite_sound | with_reducible apply ite_fst_sound | with_reducible apply each_sound
    | with_reducible apply each_fst_sound | with_reducible refine each_fst_sound' (by assumption) ?_ ?_ | split

theorem State.startFail_sound {o : State} {s : State} {p : Nat} {h : Nat} (hS : s.Sound ⟨false, k1, false, k3, k4, k5,
    k6, k7, k8, k9, k10, k11, k12, k13, k14, false, false, k17⟩ o) : (State.startFail s p h).Sound ⟨false, k1, false,
    k3, k4, k5, k6, k7, k8, k9, k10, k11, k12, k13, k14, false, false, k17⟩ o := by
  unfold State.startFail; try dsimp only
  with_reducible repeat' first
    | assumption | intro _ | apply State.startOver_sound | apply State.record_sound | apply State.setPartState_sound
    | apply ite_sound | apply ite_fst_sound

theorem State.soloSurvivors_sound {o : State} {s : State} {p : Nat} (hS : s.Sound ⟨false, k1, k2, false, false, false,
    k6, false, k8, k9, k10, k11, k12, k13, k14, false, false, k17⟩ o) : (State.soloSurvivors s p).Sound ⟨false, k1,
    k2, false, false, false, k6, false, k8, k9, k10, k11, k12, k13, k14, false, false, k17⟩ o := by
  unfold State.soloSurvivors; try dsimp only
  repeat' first
    | with_reducible assumption | with_reducible intro _ | with_reducible apply State.goSolo_sound
    | with_reducible apply ite_sound | with_reducible apply ite_fst_sound | with_reducible apply each_sound
    | with_reducible apply each_fst_sound | with_reducible refine each_fst_sound' (by assumption) ?_ ?_ | split

theorem State.startPart_sound {o : State} {s : State} {p : Nat} {pkg : Nat} {boot : Nat} {entry : Nat} (hS : s.Sound
    ⟨false, k1, false, false, false, false, k6, false, k8, k9, k10, k11, k12, k13, k14, false, false, k17⟩ o) :
    (State.startPart s p pkg boot entry).Sound ⟨false, k1, false, false, false, false, k6, false, k8, k9, k10, k11,
    k12, k13, k14, false, false, k17⟩ o := by
  unfold State.startPart; try dsimp only
  repeat' first
    | with_reducible assumption | with_reducible intro _ | with_reducible apply State.startOver_sound
    | with_reducible apply State.startFail_sound | with_reducible apply State.setPartState_sound
    | with_reducible apply State.soloSurvivors_sound | with_reducible apply State.enterRun_sound
    | with_reducible apply ite_sound | with_reducible apply ite_fst_sound | split

theorem State.setPhase_sound {o : State} {s : State} {v : ℕ} (hS : s.Sound ⟨k0, k1, false, k3, k4, k5, k6, k7, k8,
    k9, k10, k11, k12, k13, k14, k15, k16, k17⟩ o) : (State.setPhase s v).Sound ⟨k0, k1, false, k3, k4, k5, k6, k7,
    k8, k9, k10, k11, k12, k13, k14, k15, k16, k17⟩ o := by
  unfold State.setPhase; try dsimp only
  repeat' first
    | with_reducible assumption | with_reducible intro _ | with_reducible apply State.onBoot_sound
    | with_reducible rfl | rfl

theorem State.bufferClear_sound {o : State} {s : State} (hS : s.Sound ⟨k0, k1, false, k3, k4, k5, k6, k7, k8, k9, k10,
    k11, k12, k13, k14, k15, k16, k17⟩ o) : (State.bufferClear s).Sound ⟨k0, k1, false, k3, k4, k5, k6, k7, k8, k9,
    k10, k11, k12, k13, k14, k15, k16, k17⟩ o := by
  unfold State.bufferClear; try dsimp only
  repeat' first
    | with_reducible assumption | with_reducible intro _ | with_reducible apply State.onBoot_sound
    | with_reducible apply State.setPhase_sound | with_reducible apply ite_sound | with_reducible apply ite_fst_sound
    | with_reducible apply id_sound | with_reducible rfl | rfl | split

theorem State.admitSelf_sound {o : State} {s : State} (hS : s.Sound ⟨false, k1, false, false, k4, k5, k6, k7, k8, k9,
    k10, k11, k12, k13, k14, k15, k16, k17⟩ o) : (State.admitSelf s).Sound ⟨false, k1, false, false, k4, k5, k6, k7,
    k8, k9, k10, k11, k12, k13, k14, k15, k16, k17⟩ o := by
  unfold State.admitSelf; try dsimp only
  repeat' first
    | with_reducible assumption | with_reducible intro _ | with_reducible apply State.setF_sound
    | with_reducible apply State.onCores_sound | with_reducible apply State.trigOff_sound
    | with_reducible apply State.setPhase_sound | with_reducible apply ite_sound | with_reducible apply ite_fst_sound
    | split

theorem State.foundTick_sound {o : State} {s : State} (hS : s.Sound ⟨k0, k1, k2, k3, k4, k5, k6, k7, k8, k9, false,
    k11, k12, k13, k14, k15, k16, k17⟩ o) : (State.foundTick s).Sound ⟨k0, k1, k2, k3, k4, k5, k6, k7, k8, k9, false,
    k11, k12, k13, k14, k15, k16, k17⟩ o := by
  unfold State.foundTick; try dsimp only
  repeat' first
    | with_reducible assumption | with_reducible intro _ | with_reducible apply State.onLinks_sound
    | with_reducible apply ite_sound | with_reducible apply ite_fst_sound | with_reducible apply each_sound
    | with_reducible apply each_fst_sound | with_reducible refine each_fst_sound' (by assumption) ?_ ?_ | split

theorem State.helloIn_sound {o : State} {s : State} {p : Nat} {w : Word} (hS : s.Sound ⟨false, k1, k2, k3, k4, k5, k6,
    k7, k8, k9, false, k11, k12, k13, k14, k15, k16, k17⟩ o) : (State.helloIn s p w).Sound ⟨false, k1, k2, k3, k4, k5,
    k6, k7, k8, k9, false, k11, k12, k13, k14, k15, k16, k17⟩ o := by
  unfold State.helloIn; try dsimp only
  repeat' first
    | with_reducible assumption | with_reducible intro _ | with_reducible apply State.setF_sound
    | with_reducible apply State.onLinks_sound | with_reducible apply ite_sound | with_reducible apply ite_fst_sound
    | split

theorem State.found_sound {o : State} {s : State} (hS : s.Sound ⟨false, false, false, false, k4, k5, k6, false, false,
    false, false, k11, k12, k13, k14, false, false, k17⟩ o) : (State.found s).Sound ⟨false, false, false, false, k4,
    k5, k6, false, false, false, false, k11, k12, k13, k14, false, false, k17⟩ o := by
  unfold State.found; try dsimp only
  with_reducible repeat' first
    | assumption | intro _ | apply State.setMembers_sound | apply State.admitSelf_sound
    | apply State.scheduleStarts_sound | apply ite_sound | apply ite_fst_sound

theorem State.joinAsk_sound {o : State} {s : State} (hS : s.Sound ⟨k0, k1, k2, k3, k4, k5, k6, k7, k8, k9, false,
    k11, k12, k13, k14, k15, false, k17⟩ o) : (State.joinAsk s).Sound ⟨k0, k1, k2, k3, k4, k5, k6, k7, k8, k9, false,
    k11, k12, k13, k14, k15, false, k17⟩ o := by
  unfold State.joinAsk; try dsimp only
  with_reducible repeat' first | assumption | intro _ | apply State.send_sound | apply State.onLinks_sound

theorem State.joinTick_sound {o : State} {s : State} (hS : s.Sound ⟨k0, k1, k2, k3, k4, k5, k6, k7, k8, k9, false,
    k11, k12, k13, k14, k15, false, k17⟩ o) : (State.joinTick s).Sound ⟨k0, k1, k2, k3, k4, k5, k6, k7, k8, k9, false,
    k11, k12, k13, k14, k15, false, k17⟩ o := by
  unfold State.joinTick; try dsimp only
  with_reducible repeat' first | assumption | intro _ | apply State.joinAsk_sound | apply ite_sound

theorem State.joinAgain_sound {o : State} {s : State} (hS : s.Sound ⟨k0, k1, k2, k3, k4, k5, k6, k7, k8, k9, false,
    k11, k12, k13, k14, k15, false, k17⟩ o) : (State.joinAgain s).Sound ⟨k0, k1, k2, k3, k4, k5, k6, k7, k8, k9,
    false, k11, k12, k13, k14, k15, false, k17⟩ o := by
  unfold State.joinAgain; try dsimp only
  repeat' first
    | with_reducible assumption | with_reducible intro _ | with_reducible apply State.joinAsk_sound
    | with_reducible apply ite_sound | split

theorem State.joinOver_sound {o : State} {s : State} (hS : s.Sound ⟨false, k1, k2, k3, k4, k5, k6, k7, k8, k9, false,
    k11, k12, k13, k14, k15, k16, k17⟩ o) : (State.joinOver s).Sound ⟨false, k1, k2, k3, k4, k5, k6, k7, k8, k9,
    false, k11, k12, k13, k14, k15, k16, k17⟩ o := by
  unfold State.joinOver; try dsimp only
  with_reducible repeat' first | assumption | intro _ | apply State.onLinks_sound | apply State.setF_sound

theorem State.joinFault_sound {o : State} {s : State} {p : Nat} (hS : s.Sound ⟨false, k1, k2, k3, k4, k5, k6, k7, k8,
    k9, k10, k11, k12, k13, k14, k15, k16, k17⟩ o) : (State.joinFault s p).Sound ⟨false, k1, k2, k3, k4, k5, k6, k7,
    k8, k9, k10, k11, k12, k13, k14, k15, k16, k17⟩ o := by
  unfold State.joinFault; try dsimp only
  repeat' first
    | with_reducible assumption | with_reducible intro _ | with_reducible apply State.setSkt_sound
    | with_reducible apply ite_sound | with_reducible apply ite_fst_sound | split

theorem State.joinRefuse_sound {o : State} {s : State} {src : Nat} (hS : s.Sound ⟨false, k1, k2, k3, k4, k5, k6, k7,
    k8, k9, k10, k11, k12, k13, k14, false, false, k17⟩ o) : (State.joinRefuse s src).Sound ⟨false, k1, k2, k3, k4,
    k5, k6, k7, k8, k9, k10, k11, k12, k13, k14, false, false, k17⟩ o := by
  unfold State.joinRefuse; try dsimp only
  repeat' first
    | with_reducible assumption | with_reducible intro _ | with_reducible apply State.record_sound
    | with_reducible apply State.send_sound | with_reducible apply State.joinFault_sound
    | with_reducible apply ite_sound | with_reducible apply ite_fst_sound | split

theorem State.logEnd_sound {o : State} {s : State} {src : Nat} (hS : s.Sound ⟨k0, k1, k2, k3, k4, k5, k6, k7, k8, k9,
    false, k11, k12, k13, k14, k15, false, k17⟩ o) : (State.logEnd s src).Sound ⟨k0, k1, k2, k3, k4, k5, k6, k7, k8,
    k9, false, k11, k12, k13, k14, k15, false, k17⟩ o := by
  unfold State.logEnd; try dsimp only
  repeat' first
    | with_reducible assumption | with_reducible intro _ | with_reducible apply State.onLinks_sound
    | with_reducible apply State.send_sound | with_reducible apply ite_sound | with_reducible apply ite_fst_sound
    | split

theorem State.joinReq_sound {o : State} {s : State} {src : Nat} {h0 : Digest} (hS : s.Sound ⟨false, k1, k2, k3, k4,
    k5, k6, k7, k8, k9, false, k11, k12, k13, k14, false, false, k17⟩ o) : (State.joinReq s src h0).Sound ⟨false, k1,
    k2, k3, k4, k5, k6, k7, k8, k9, false, k11, k12, k13, k14, false, false, k17⟩ o := by
  unfold State.joinReq; try dsimp only
  repeat' first
    | with_reducible assumption | with_reducible intro _ | with_reducible apply State.joinFault_sound
    | with_reducible apply State.joinRefuse_sound | with_reducible apply State.send_sound
    | with_reducible apply State.record_sound | with_reducible apply State.setF_sound
    | with_reducible apply State.onLinks_sound | with_reducible apply State.logEnd_sound
    | with_reducible apply ite_sound | with_reducible apply ite_fst_sound | with_reducible apply each_sound
    | with_reducible apply each_fst_sound | with_reducible refine each_fst_sound' (by assumption) ?_ ?_ | split

theorem State.joinArm_sound {o : State} {s : State} (hS : s.Sound ⟨false, false, k2, k3, k4, k5, k6, false, k8, k9,
    k10, k11, k12, k13, k14, k15, false, k17⟩ o) : (State.joinArm s).Sound ⟨false, false, k2, k3, k4, k5, k6, false,
    k8, k9, k10, k11, k12, k13, k14, k15, false, k17⟩ o := by
  unfold State.joinArm; try dsimp only
  repeat' first
    | with_reducible assumption | with_reducible intro _ | with_reducible apply State.tryPeal_sound
    | with_reducible apply ite_sound | with_reducible apply ite_fst_sound | split

theorem State.joinLog_sound {o : State} {s : State} {src : Nat} {h : Digest} (hS : s.Sound ⟨false, false, k2, k3, k4,
    k5, k6, false, k8, k9, false, k11, k12, k13, k14, false, false, k17⟩ o) : (State.joinLog s src h).Sound ⟨false,
    false, k2, k3, k4, k5, k6, false, k8, k9, false, k11, k12, k13, k14, false, false, k17⟩ o := by
  unfold State.joinLog; try dsimp only
  repeat' first
    | with_reducible assumption | with_reducible intro _ | with_reducible apply State.record_sound
    | with_reducible apply State.onLinks_sound | with_reducible apply State.joinRefuse_sound
    | with_reducible apply State.joinOver_sound | with_reducible apply State.joinArm_sound
    | with_reducible apply ite_sound | with_reducible apply ite_fst_sound | split

theorem State.joinMembers_sound {o : State} {s : State} {p : Nat} {mask : Nat} (hS : s.Sound ⟨false, false, k2, k3,
    k4, k5, k6, false, k8, k9, false, k11, k12, k13, k14, false, false, k17⟩ o) : (State.joinMembers s p mask).Sound
    ⟨false, false, k2, k3, k4, k5, k6, false, k8, k9, false, k11, k12, k13, k14, false, false, k17⟩ o := by
  unfold State.joinMembers; try dsimp only
  repeat' first
    | with_reducible assumption | with_reducible intro _ | with_reducible apply State.setMembers_sound
    | with_reducible apply State.joinOver_sound | with_reducible apply ite_sound | with_reducible apply ite_fst_sound
    | split

theorem State.tellFences_sound {o : State} {s : State} {qs : List Nat} (hS : s.Sound ⟨k0, k1, k2, k3, k4, k5, k6, k7,
    k8, k9, k10, k11, k12, k13, k14, k15, false, k17⟩ o) : (State.tellFences s qs).Sound ⟨k0, k1, k2, k3, k4, k5, k6,
    k7, k8, k9, k10, k11, k12, k13, k14, k15, false, k17⟩ o := by
  unfold State.tellFences; try dsimp only
  repeat' first
    | with_reducible assumption | with_reducible intro _ | with_reducible apply State.send_sound
    | with_reducible apply ite_sound | with_reducible apply ite_fst_sound | with_reducible apply each_sound
    | with_reducible apply each_fst_sound | with_reducible refine each_fst_sound' (by assumption) ?_ ?_ | split

theorem State.admitPackage_sound {o : State} {s : State} {p : Nat} {body : List Byte} (hS : s.Sound ⟨false, k1, false,
    false, k4, k5, k6, false, false, false, k10, k11, k12, k13, k14, false, false, k17⟩ o) : (State.admitPackage s p
    body).Sound ⟨false, k1, false, false, k4, k5, k6, false, false, false, k10, k11, k12, k13, k14, false, false, k17⟩
    o := by
  unfold State.admitPackage; try dsimp only
  repeat' first
    | with_reducible assumption | with_reducible intro _ | with_reducible apply State.admitSelf_sound
    | with_reducible apply State.takeStarts_sound | with_reducible apply State.tellFences_sound
    | with_reducible apply State.modeEnter_sound | with_reducible apply State.onHome_sound
    | with_reducible apply State.scheduleStarts_sound | with_reducible apply ite_sound
    | with_reducible apply ite_fst_sound | split

theorem State.suspect_sound {o : State} {s : State} {p : ℕ} (hS : s.Sound ⟨k0, k1, k2, k3, k4, k5, k6, k7, k8, k9,
    false, k11, k12, k13, k14, k15, false, k17⟩ o) : (State.suspect s p).Sound ⟨k0, k1, k2, k3, k4, k5, k6, k7, k8,
    k9, false, k11, k12, k13, k14, k15, false, k17⟩ o := by
  unfold State.suspect; try dsimp only
  with_reducible repeat' first
    | assumption | intro _ | apply State.onLinks_sound | apply State.send_sound | apply ite_sound

theorem State.dropProxies_sound {o : State} {s : State} {p : ℕ} (hS : s.Sound ⟨k0, k1, k2, k3, false, k5, k6, false,
    k8, k9, k10, k11, k12, k13, k14, k15, k16, k17⟩ o) : (State.dropProxies s p).Sound ⟨k0, k1, k2, k3, false, k5, k6,
    false, k8, k9, k10, k11, k12, k13, k14, k15, k16, k17⟩ o := by
  unfold State.dropProxies; try dsimp only
  with_reducible repeat' first
    | assumption | intro _ | apply State.dropLine_sound | apply State.dirFree_sound | apply ite_sound
    | apply each_sound

theorem State.lostRecord_sound {o : State} {s : State} {kind : ℕ} {unit : ℕ} {part : ℕ} {line : ℕ} (hS : s.Sound ⟨k0,
    k1, k2, k3, k4, k5, k6, k7, k8, k9, k10, k11, k12, k13, k14, false, false, k17⟩ o) : (State.lostRecord s kind unit
    part line).Sound ⟨k0, k1, k2, k3, k4, k5, k6, k7, k8, k9, k10, k11, k12, k13, k14, false, false, k17⟩ o := by
  unfold State.lostRecord; try dsimp only
  with_reducible repeat' first | assumption | intro _ | apply State.record_sound

theorem State.failLost_sound {o : State} {s : State} {p : Nat} (hS : s.Sound ⟨false, k1, k2, k3, false, false, k6, k7,
    k8, k9, k10, false, false, false, k14, false, false, k17⟩ o) : (State.failLost s p).Sound ⟨false, k1, k2, k3,
    false, false, k6, k7, k8, k9, k10, false, false, false, k14, false, false, k17⟩ o := by
  unfold State.failLost; try dsimp only
  repeat' first
    | with_reducible assumption | with_reducible intro _ | with_reducible apply State.missFail_sound
    | with_reducible apply State.lostRecord_sound | with_reducible apply State.errDone_sound
    | with_reducible apply State.dmaEnd_sound | with_reducible apply State.agentEnd_sound
    | with_reducible apply ite_sound | with_reducible apply ite_fst_sound | with_reducible apply each_sound
    | with_reducible apply each_fst_sound | with_reducible refine each_fst_sound' (by assumption) ?_ ?_ | split

theorem State.heldStat_sound {o : State} {s : State} (hS : s.Sound ⟨false, k1, k2, k3, k4, k5, k6, k7, k8, k9, k10,
    k11, k12, k13, k14, k15, k16, k17⟩ o) : (State.heldStat s).Sound ⟨false, k1, k2, k3, k4, k5, k6, k7, k8, k9, k10,
    k11, k12, k13, k14, k15, k16, k17⟩ o := by
  unfold State.heldStat; try dsimp only
  repeat' first
    | with_reducible assumption | with_reducible intro _ | with_reducible apply State.setF_sound
    | with_reducible apply ite_sound | with_reducible apply ite_fst_sound | with_reducible apply each_sound
    | with_reducible apply each_fst_sound | with_reducible refine each_fst_sound' (by assumption) ?_ ?_ | split

theorem State.dropTransit_sound {o : State} {s : State} {p : Nat} (hS : s.Sound ⟨false, k1, k2, k3, k4, k5, false, k7,
    k8, k9, false, k11, k12, k13, false, false, false, k17⟩ o) : (State.dropTransit s p).Sound ⟨false, k1, k2, k3, k4,
    k5, false, k7, k8, k9, false, k11, k12, k13, false, false, false, k17⟩ o := by
  unfold State.dropTransit; try dsimp only
  repeat' first
    | with_reducible assumption | with_reducible intro _ | with_reducible apply State.onFab_sound
    | with_reducible apply State.onLinks_sound | with_reducible apply State.heldStat_sound
    | with_reducible apply State.onPwr_sound | with_reducible apply State.lostRecord_sound
    | with_reducible apply State.send_sound | with_reducible apply ite_sound | with_reducible apply ite_fst_sound
    | with_reducible apply each_sound | with_reducible apply each_fst_sound
    | with_reducible refine each_fst_sound' (by assumption) ?_ ?_ | with_reducible apply mk_sound
    | with_reducible apply State.Sound.clock | with_reducible apply State.Sound.queue
    | with_reducible apply State.Sound.free | with_reducible apply State.Sound.fused
    | with_reducible apply State.Sound.mem | with_reducible apply State.Sound.regs
    | with_reducible apply State.Sound.k_regs | with_reducible apply State.Sound.k_beat
    | with_reducible apply State.Sound.k_boot | with_reducible apply State.Sound.k_cores
    | with_reducible apply State.Sound.k_cache | with_reducible apply State.Sound.k_xlat
    | with_reducible apply State.Sound.k_fab | with_reducible apply State.Sound.k_home
    | with_reducible apply State.Sound.k_dram | with_reducible apply State.Sound.k_mem
    | with_reducible apply State.Sound.k_links | with_reducible apply State.Sound.k_sec
    | with_reducible apply State.Sound.k_crypto | with_reducible apply State.Sound.k_pcie
    | with_reducible apply State.Sound.k_pwr | with_reducible apply State.Sound.k_err
    | with_reducible apply State.Sound.k_sent | with_reducible apply State.Sound.k_freeCtr
    | with_reducible apply State.Sound.k_flits | with_reducible exact absurd (by assumption) Bool.false_ne_true
    | split

theorem State.pealForget_sound {o : State} {s : State} {p : ℕ} (hS : s.Sound ⟨k0, false, k2, k3, k4, k5, k6, k7, k8,
    k9, k10, k11, k12, k13, k14, k15, k16, k17⟩ o) : (State.pealForget s p).Sound ⟨k0, false, k2, k3, k4, k5, k6, k7,
    k8, k9, k10, k11, k12, k13, k14, k15, k16, k17⟩ o := by
  unfold State.pealForget; try dsimp only
  with_reducible repeat' first
    | assumption | intro _ | apply State.setSlot_sound | apply ite_sound | apply each_sound

theorem State.lostApply_sound {o : State} {s : State} {p : Nat} {beat : Nat} (hS : s.Sound ⟨false, false, k2, false,
    false, false, false, false, false, false, false, false, false, false, false, false, false, k17⟩ o) :
    (State.lostApply s p beat).Sound ⟨false, false, k2, false, false, false, false, false, false, false, false, false,
    false, false, false, false, false, k17⟩ o := by
  unfold State.lostApply; try dsimp only
  repeat' first
    | with_reducible assumption | with_reducible intro _ | with_reducible apply State.setMembers_sound
    | with_reducible apply State.setF_sound | with_reducible apply State.onLinks_sound
    | with_reducible apply State.failLost_sound | with_reducible apply State.dropTransit_sound
    | with_reducible apply State.dropProxies_sound | with_reducible apply State.onHome_sound
    | with_reducible apply State.fenceTxns_sound | with_reducible apply State.tlbiDrop_sound
    | with_reducible apply State.pealForget_sound | with_reducible apply State.dropFar_sound
    | with_reducible apply State.onSec_sound | with_reducible apply ite_sound | with_reducible apply ite_fst_sound
    | with_reducible apply each_sound | with_reducible apply each_fst_sound
    | with_reducible refine each_fst_sound' (by assumption) ?_ ?_ | split

theorem State.declareLost_sound {o : State} {s : State} {ps : List Nat} (hS : s.Sound ⟨false, false, k2, false, false,
    false, false, false, false, false, false, false, false, false, false, false, false, k17⟩ o) : (State.declareLost s
    ps).Sound ⟨false, false, k2, false, false, false, false, false, false, false, false, false, false, false, false,
    false, false, k17⟩ o := by
  unfold State.declareLost; try dsimp only
  repeat' first
    | with_reducible assumption | with_reducible intro _ | with_reducible apply State.send_sound
    | with_reducible apply State.lostApply_sound | with_reducible apply State.raiseGong_sound
    | with_reducible apply State.selfFence_sound | with_reducible apply ite_sound | with_reducible apply ite_fst_sound
    | with_reducible apply each_sound | with_reducible apply each_fst_sound
    | with_reducible refine each_fst_sound' (by assumption) ?_ ?_ | split

theorem State.lossTick_sound {o : State} {s : State} (hS : s.Sound ⟨false, false, k2, false, false, false, false,
    false, false, false, false, false, false, false, false, false, false, k17⟩ o) : (State.lossTick s).Sound ⟨false,
    false, k2, false, false, false, false, false, false, false, false, false, false, false, false, false, false, k17⟩
    o := by
  unfold State.lossTick; try dsimp only
  with_reducible repeat' first
    | assumption | intro _ | apply State.declareLost_sound | apply ite_sound | apply ite_fst_sound

theorem State.recallPkg_sound {o : State} {s : State} {p : Nat} (hS : s.Sound ⟨false, k1, k2, k3, false, k5, k6,
    false, false, k9, k10, k11, k12, k13, k14, k15, false, k17⟩ o) : (State.recallPkg s p).Sound ⟨false, k1, k2, k3,
    false, k5, k6, false, false, k9, k10, k11, k12, k13, k14, k15, false, k17⟩ o := by
  unfold State.recallPkg; try dsimp only
  repeat' first
    | with_reducible assumption | with_reducible intro _ | with_reducible apply State.recallVictim_sound
    | with_reducible apply ite_sound | with_reducible apply ite_fst_sound | with_reducible apply each_sound
    | with_reducible apply each_fst_sound | with_reducible refine each_fst_sound' (by assumption) ?_ ?_ | split

theorem State.leaveBegin_sound {o : State} {s : State} {p : Nat} (hS : s.Sound ⟨false, k1, k2, k3, false, k5, k6,
    false, false, k9, false, k11, k12, k13, false, k15, false, k17⟩ o) : (State.leaveBegin s p).Sound ⟨false, k1, k2,
    k3, false, k5, k6, false, false, k9, false, k11, k12, k13, false, k15, false, k17⟩ o := by
  unfold State.leaveBegin; try dsimp only
  repeat' first
    | with_reducible assumption | with_reducible intro _ | with_reducible apply State.setTrig_sound
    | with_reducible apply State.onLinks_sound | with_reducible apply State.setSkt_sound
    | with_reducible apply State.blink_sound | with_reducible apply State.beginDrain_sound
    | with_reducible apply State.recallPkg_sound | with_reducible apply ite_sound | with_reducible apply ite_fst_sound
    | with_reducible apply each_sound | with_reducible apply each_fst_sound
    | with_reducible refine each_fst_sound' (by assumption) ?_ ?_ | split

theorem State.leaveArm_sound {o : State} {s : State} (hS : s.Sound ⟨false, false, k2, k3, k4, k5, k6, false, k8, k9,
    k10, k11, k12, k13, k14, k15, false, k17⟩ o) : (State.leaveArm s).Sound ⟨false, false, k2, k3, k4, k5, k6, false,
    k8, k9, k10, k11, k12, k13, k14, k15, false, k17⟩ o := by
  unfold State.leaveArm; try dsimp only
  repeat' first
    | with_reducible assumption | with_reducible intro _ | with_reducible apply State.tryPeal_sound
    | with_reducible apply ite_sound | split

theorem State.leaveGo_sound {o : State} {s : State} (hS : s.Sound ⟨false, false, k2, k3, k4, k5, k6, false, k8, k9,
    false, k11, k12, k13, k14, k15, false, k17⟩ o) : (State.leaveGo s).Sound ⟨false, false, k2, k3, k4, k5, k6, false,
    k8, k9, false, k11, k12, k13, k14, k15, false, k17⟩ o := by
  unfold State.leaveGo; try dsimp only
  repeat' first
    | with_reducible assumption | with_reducible intro _ | with_reducible apply State.onLinks_sound
    | with_reducible apply State.leaveArm_sound | with_reducible apply ite_sound | with_reducible apply ite_fst_sound
    | split

theorem State.leaveReady_sound {o : State} {s : State} {src : Nat} (hS : s.Sound ⟨false, false, k2, k3, k4, k5, k6,
    false, k8, k9, false, k11, k12, k13, k14, k15, false, k17⟩ o) : (State.leaveReady s src).Sound ⟨false, false, k2,
    k3, k4, k5, k6, false, k8, k9, false, k11, k12, k13, k14, k15, false, k17⟩ o := by
  unfold State.leaveReady; try dsimp only
  repeat' first
    | with_reducible assumption | with_reducible intro _ | with_reducible apply State.onLinks_sound
    | with_reducible apply State.leaveGo_sound | with_reducible apply ite_sound | with_reducible apply ite_fst_sound
    | split

theorem State.leaveTick_sound {o : State} {s : State} (hS : s.Sound ⟨false, false, k2, k3, k4, k5, k6, false, k8, k9,
    false, k11, k12, k13, k14, k15, false, k17⟩ o) : (State.leaveTick s).Sound ⟨false, false, k2, k3, k4, k5, k6,
    false, k8, k9, false, k11, k12, k13, k14, k15, false, k17⟩ o := by
  unfold State.leaveTick; try dsimp only
  repeat' first
    | with_reducible assumption | with_reducible intro _ | with_reducible apply State.leaveGo_sound
    | with_reducible apply State.leaveReady_sound | with_reducible apply State.onLinks_sound
    | with_reducible apply State.send_sound | with_reducible apply ite_sound | with_reducible apply ite_fst_sound
    | split

theorem State.leaveEnd_sound {o : State} {s : State} (hS : s.Sound ⟨false, k1, k2, k3, k4, k5, k6, k7, k8, k9, false,
    k11, k12, k13, k14, k15, k16, k17⟩ o) : (State.leaveEnd s).Sound ⟨false, k1, k2, k3, k4, k5, k6, k7, k8, k9,
    false, k11, k12, k13, k14, k15, k16, k17⟩ o := by
  unfold State.leaveEnd; try dsimp only
  repeat' first
    | with_reducible assumption | with_reducible intro _ | with_reducible apply State.setTrig_sound
    | with_reducible apply State.onLinks_sound | with_reducible apply ite_sound | with_reducible apply ite_fst_sound
    | split

theorem State.detachMembers_sound {o : State} {s : State} {p : Nat} (hS : s.Sound ⟨false, false, false, false, false, false, k6, false, k8, k9, false, k11, k12, k13, k14, false, false, k17⟩ o) : (State.detachMembers s p).Sound
    ⟨false, false, false, false, false, false, k6, false, k8, k9, false, k11, k12, k13, k14, false, false, k17⟩ o :=
    by
  unfold State.detachMembers; try dsimp only
  repeat' first
    | with_reducible assumption | with_reducible intro _ | with_reducible apply State.setMembers_sound
    | with_reducible apply State.setLink_sound | with_reducible apply State.linkClear_sound
    | with_reducible apply State.setF_sound | with_reducible apply State.onBoot_sound
    | with_reducible apply State.send_sound | with_reducible apply State.tlbiDrop_sound
    | with_reducible apply State.dropFar_sound | with_reducible apply State.setSkt_sound
    | with_reducible apply State.led_sound | with_reducible apply State.onLinks_sound | with_reducible apply ite_sound
    | with_reducible apply ite_fst_sound | with_reducible apply each_sound | with_reducible apply each_fst_sound
    | with_reducible refine each_fst_sound' (by assumption) ?_ ?_ | with_reducible rfl | rfl | split

theorem State.sktStay_sound {o : State} {s : State} {p : Nat} (hS : s.Sound ⟨false, k1, k2, k3, k4, k5, k6, k7, k8,
    k9, k10, k11, k12, k13, k14, k15, false, k17⟩ o) : (State.sktStay s p).Sound ⟨false, k1, k2, k3, k4, k5, k6, k7,
    k8, k9, k10, k11, k12, k13, k14, k15, false, k17⟩ o := by
  unfold State.sktStay; try dsimp only
  repeat' first
    | with_reducible assumption | with_reducible intro _ | with_reducible apply State.setSkt_sound
    | with_reducible apply State.led_sound | with_reducible apply ite_sound | with_reducible apply ite_fst_sound
    | split

theorem State.leaveCancel_sound {o : State} {s : State} {p : Nat} (hS : s.Sound ⟨false, k1, k2, k3, k4, k5, k6, k7,
    k8, k9, false, k11, k12, k13, k14, false, false, k17⟩ o) : (State.leaveCancel s p).Sound ⟨false, k1, k2, k3, k4,
    k5, k6, k7, k8, k9, false, k11, k12, k13, k14, false, false, k17⟩ o := by
  unfold State.leaveCancel; try dsimp only
  repeat' first
    | with_reducible assumption | with_reducible intro _ | with_reducible apply State.setTrig_sound
    | with_reducible apply State.onLinks_sound | with_reducible apply State.record_sound
    | with_reducible apply State.sktStay_sound | with_reducible apply ite_sound | with_reducible apply ite_fst_sound
    | split

theorem State.leaveAsk_sound {o : State} {s : State} {i : ℕ} (hS : s.Sound ⟨false, false, k2, k3, k4, k5, k6, false,
    k8, k9, false, k11, k12, k13, k14, false, false, k17⟩ o) : (State.leaveAsk s i).Sound ⟨false, false, k2, k3, k4,
    k5, k6, false, k8, k9, false, k11, k12, k13, k14, false, false, k17⟩ o := by
  unfold State.leaveAsk; try dsimp only
  repeat' first
    | with_reducible assumption | with_reducible intro _ | with_reducible apply State.requestPeal_sound
    | with_reducible apply ite_sound | split

theorem State.routeChange_sound {o : State} {s : State} {fp : Nat} {fn : Nat} (hS : s.Sound ⟨false, false, k2, false,
    false, false, false, false, false, false, false, false, false, false, false, false, false, k17⟩ o) :
    (State.routeChange s fp fn).Sound ⟨false, false, k2, false, false, false, false, false, false, false, false,
    false, false, false, false, false, false, k17⟩ o := by
  unfold State.routeChange; try dsimp only
  repeat' first
    | with_reducible assumption | with_reducible intro _ | with_reducible apply State.onLinks_sound
    | with_reducible apply State.setRoutes_sound | with_reducible apply State.setF_sound
    | with_reducible apply State.send_sound | with_reducible apply State.ioFreeze_sound
    | with_reducible apply State.record_sound | with_reducible apply State.declareLost_sound
    | with_reducible apply ite_sound | with_reducible apply ite_fst_sound | with_reducible apply each_sound
    | with_reducible apply each_fst_sound | with_reducible refine each_fst_sound' (by assumption) ?_ ?_ | split

theorem State.modeChange_sound {o : State} {s : State} {c : Change} (hS : s.Sound ⟨false, k1, k2, k3, false, k5, k6,
    false, false, k9, false, k11, k12, k13, false, k15, false, k17⟩ o) : (State.modeChange s c).Sound ⟨false, k1, k2,
    k3, false, k5, k6, false, false, k9, false, k11, k12, k13, false, k15, false, k17⟩ o := by
  unfold State.modeChange; try dsimp only
  repeat' first
    | with_reducible assumption | with_reducible intro _ | with_reducible apply State.onHome_sound
    | with_reducible apply State.modeEnter_sound | with_reducible apply State.leaveBegin_sound
    | with_reducible apply State.setF_sound | with_reducible apply ite_sound | with_reducible apply ite_fst_sound
    | split

theorem State.changeEffect_sound {o : State} {s : State} {c : Change} (hS : s.Sound ⟨false, false, false, false,
    false, false, false, false, false, false, false, false, false, false, false, false, false, k17⟩ o) :
    (State.changeEffect s c).Sound ⟨false, false, false, false, false, false, false, false, false, false, false,
    false, false, false, false, false, false, k17⟩ o := by
  unfold State.changeEffect; try dsimp only
  repeat' first
    | with_reducible assumption | with_reducible intro _ | with_reducible apply State.modeChange_sound
    | with_reducible apply State.admitPackage_sound | with_reducible apply State.leaveEnd_sound
    | with_reducible apply State.routeChange_sound | with_reducible apply ite_sound
    | with_reducible apply ite_fst_sound | split

end Sys2Proof.Machine
end

