-- ==== Sys2Proof/Laws/KeepCryptoOps.lean ====
section
/-! SUPPORT. The operations of Machine/CryptoOps.lean keep State.Sound. -/

namespace Sys2Proof.Machine

variable {k0 k1 k2 k3 k4 k5 k6 k7 k8 k9 k10 k11 k12 k13 k14 k15 k16 k17 : Bool}

theorem State.disagree_sound {o : State} {s : State} (hS : s.Sound ⟨false, false, k2, k3, k4, k5, k6, k7, k8, k9,
    k10, false, k12, k13, k14, false, false, k17⟩ o) : (State.disagree s).Sound ⟨false, false, k2, k3, k4, k5, k6, k7,
    k8, k9, k10, false, k12, k13, k14, false, false, k17⟩ o := by
  unfold State.disagree; try dsimp only
  with_reducible repeat' first
    | assumption | intro _ | apply State.record_sound | apply State.incF_sound | apply State.onSec_sound
    | apply State.selfFence_sound | apply ite_sound

theorem State.comparing_sound {o : State} {s : State} {agree : Bool} {act : State → State} (h_act : ∀ (x0 : State),
    x0.Sound ⟨k0, k1, k2, k3, k4, k5, k6, k7, k8, k9, k10, false, k12, k13, k14, k15, k16, k17⟩ o → (act x0).Sound
    ⟨k0, k1, k2, k3, k4, k5, k6, k7, k8, k9, k10, false, k12, k13, k14, k15, k16, k17⟩ o) (hS : s.Sound ⟨k0, k1, k2,
    k3, k4, k5, k6, k7, k8, k9, k10, false, k12, k13, k14, k15, k16, k17⟩ o) : (State.comparing s agree act).Sound
    ⟨k0, k1, k2, k3, k4, k5, k6, k7, k8, k9, k10, false, k12, k13, k14, k15, k16, k17⟩ o := by
  unfold State.comparing; try dsimp only
  repeat' first
    | with_reducible assumption | with_reducible intro _ | with_reducible apply State.onSec_sound
    | with_reducible apply h_act | with_reducible apply ite_sound | with_reducible apply ite_fst_sound | split

theorem State.agreed_sound {o : State} {s : State} (hS : s.Sound ⟨k0, k1, k2, k3, k4, k5, k6, k7, k8, k9, k10, false,
    k12, k13, k14, k15, k16, k17⟩ o) : (State.agreed s).Sound ⟨k0, k1, k2, k3, k4, k5, k6, k7, k8, k9, k10, false,
    k12, k13, k14, k15, k16, k17⟩ o := by
  unfold State.agreed; try dsimp only
  with_reducible repeat' first | assumption | intro _ | apply State.onSec_sound

theorem State.setKey_sound {o : State} {s : State} {p : ℕ} {slot : ℕ} {k : KeyEnt} (hS : s.Sound ⟨k0, k1, k2, k3, k4,
    k5, k6, k7, k8, k9, k10, k11, false, k13, k14, k15, k16, k17⟩ o) : (State.setKey s p slot k).Sound ⟨k0, k1, k2,
    k3, k4, k5, k6, k7, k8, k9, k10, k11, false, k13, k14, k15, k16, k17⟩ o := by
  unfold State.setKey; try dsimp only
  with_reducible repeat' first | assumption | intro _ | apply State.onCrypto_sound

theorem State.refillTokens_sound {o : State} {s : State} (hS : s.Sound ⟨k0, k1, k2, k3, k4, k5, k6, k7, k8, k9, k10,
    k11, false, k13, k14, k15, k16, k17⟩ o) : (State.refillTokens s).Sound ⟨k0, k1, k2, k3, k4, k5, k6, k7, k8, k9,
    k10, k11, false, k13, k14, k15, k16, k17⟩ o := by
  unfold State.refillTokens; try dsimp only
  repeat' first
    | with_reducible assumption | with_reducible intro _ | with_reducible apply State.onCrypto_sound
    | with_reducible apply ite_sound | with_reducible apply ite_fst_sound | with_reducible apply each_sound
    | with_reducible apply each_fst_sound | with_reducible refine each_fst_sound' (by assumption) ?_ ?_ | split

theorem State.fetchesTo_sound {o : State} {s : State} {r : Nat} (hS : s.Sound ⟨k0, k1, k2, k3, k4, k5, k6, k7, k8, k9,
    k10, k11, false, k13, k14, k15, k16, k17⟩ o) : (State.fetchesTo s r).Sound ⟨k0, k1, k2, k3, k4, k5, k6, k7, k8,
    k9, k10, k11, false, k13, k14, k15, k16, k17⟩ o := by
  unfold State.fetchesTo; try dsimp only
  repeat' first
    | with_reducible assumption | with_reducible intro _ | with_reducible apply State.setRing_sound
    | with_reducible apply State.agentDrop_sound | with_reducible apply ite_sound | with_reducible apply ite_fst_sound
    | split

theorem State.ringTailOp_sound {o : State} {s : State} {w : Who} {r : Nat} {tail : Nat} (hS : s.Sound ⟨false, k1, k2,
    k3, k4, k5, k6, k7, k8, k9, k10, k11, false, k13, false, false, false, k17⟩ o) : (State.ringTailOp s w r
    tail).Sound ⟨false, k1, k2, k3, k4, k5, k6, k7, k8, k9, k10, k11, false, k13, false, false, false, k17⟩ o := by
  unfold State.ringTailOp; try dsimp only
  repeat' first
    | with_reducible assumption | with_reducible intro _ | with_reducible apply State.csGuard_sound
    | with_reducible apply State.setF_sound | with_reducible apply State.ringHalt_sound
    | with_reducible apply State.record_sound | with_reducible apply State.fetchesTo_sound
    | with_reducible apply State.whoReply_sound | with_reducible apply ite_sound | with_reducible apply ite_fst_sound
    | split

theorem State.ringCtlOp_sound {o : State} {s : State} {w : Who} {r : Nat} {v : Word} (hS : s.Sound ⟨false, k1, k2, k3,
    k4, k5, k6, k7, k8, k9, k10, k11, false, k13, false, false, false, k17⟩ o) : (State.ringCtlOp s w r v).Sound
    ⟨false, k1, k2, k3, k4, k5, k6, k7, k8, k9, k10, k11, false, k13, false, false, false, k17⟩ o := by
  unfold State.ringCtlOp; try dsimp only
  repeat' first
    | with_reducible assumption | with_reducible intro _ | with_reducible apply State.csGuard_sound
    | with_reducible apply State.plainWrite_sound | with_reducible apply State.setF_sound
    | with_reducible apply State.dropFetches_sound | with_reducible apply State.setRing_sound
    | with_reducible apply State.whoReply_sound | with_reducible apply ite_sound | with_reducible apply ite_fst_sound
    | split

theorem State.ringFetchOp_sound {o : State} {s : State} {r : Nat} {n : Nat} (hS : s.Sound ⟨false, k1, k2, k3, false,
    k5, k6, k7, k8, k9, k10, false, false, k13, k14, false, false, k17⟩ o) : (State.ringFetchOp s r n).Sound ⟨false,
    k1, k2, k3, false, k5, k6, k7, k8, k9, k10, false, false, k13, k14, false, false, k17⟩ o := by
  unfold State.ringFetchOp; try dsimp only
  repeat' first
    | with_reducible assumption | with_reducible intro _ | with_reducible apply State.setRing_sound
    | with_reducible apply State.agentPush_sound | with_reducible apply ite_sound | with_reducible apply ite_fst_sound
    | split

theorem State.randomBytes_sound {o : State} {k : Nat} {s : State} (h : s.Sound ⟨k0, k1, k2, k3, k4, k5, k6, k7, k8, k9, k10, k11, k12, k13, k14, k15, k16, false⟩ o) :
    (State.randomBytes k s).2.Sound ⟨k0, k1, k2, k3, k4, k5, k6, k7, k8, k9, k10, k11, k12, k13, k14, k15, k16, false⟩ o := by
  induction k generalizing s with
  | zero => exact h
  | succ k ih => exact ih (State.tick_sound h)

theorem State.randomBytes_sound' {o : State} {k : Nat} {s t : State} {l : List Byte}
    (e : State.randomBytes k s = (l, t)) (h : s.Sound ⟨k0, k1, k2, k3, k4, k5, k6, k7, k8, k9, k10, k11, k12, k13, k14, k15, k16, false⟩ o) : t.Sound ⟨k0, k1, k2, k3, k4, k5, k6, k7, k8, k9, k10, k11, k12, k13, k14, k15, k16, false⟩ o := by
  have := State.randomBytes_sound (k := k) h
  rwa [e] at this

theorem State.tokenWaits_sound {o : State} {s : State} {front : ℕ} (hS : s.Sound ⟨false, k1, k2, k3, k4, k5, k6, k7,
    k8, k9, k10, k11, false, k13, k14, k15, k16, k17⟩ o) : (State.tokenWaits s front).Sound ⟨false, k1, k2, k3, k4,
    k5, k6, k7, k8, k9, k10, k11, false, k13, k14, k15, k16, k17⟩ o := by
  unfold State.tokenWaits; try dsimp only
  repeat' first
    | with_reducible assumption | with_reducible intro _ | with_reducible apply State.setRing_sound
    | with_reducible apply State.incF_sound | with_reducible apply ite_sound | with_reducible apply each_sound
    | with_reducible apply each_fst_sound | with_reducible refine each_fst_sound' (by assumption) ?_ ?_ | split

theorem State.cryptoRefill_sound {o : State} {s : State} (hS : s.Sound ⟨false, k1, k2, k3, k4, k5, k6, k7, k8, k9,
    k10, k11, false, k13, k14, k15, k16, k17⟩ o) : (State.cryptoRefill s).Sound ⟨false, k1, k2, k3, k4, k5, k6, k7,
    k8, k9, k10, k11, false, k13, k14, k15, k16, k17⟩ o := by
  unfold State.cryptoRefill; try dsimp only
  with_reducible repeat' first
    | assumption | intro _ | apply State.tokenWaits_sound | apply State.refillTokens_sound | apply ite_sound
    | apply ite_fst_sound

theorem State.issueDesc_sound {o : State} {s : State} {front : Nat} {p : Nat} (hS : s.Sound ⟨false, k1, k2, k3, false,
    k5, k6, k7, k8, k9, k10, false, false, k13, k14, false, false, k17⟩ o) : (State.issueDesc s front p).Sound ⟨false,
    k1, k2, k3, false, k5, k6, k7, k8, k9, k10, false, false, k13, k14, false, false, k17⟩ o := by
  unfold State.issueDesc; try dsimp only
  repeat' first
    | with_reducible assumption | with_reducible intro _ | with_reducible apply State.onCrypto_sound
    | with_reducible apply State.setRing_sound | with_reducible apply State.wrapF_sound
    | with_reducible apply State.setF_sound | with_reducible apply State.descDone_sound
    | with_reducible apply State.agentKick_sound | with_reducible apply State.agentPush_sound
    | with_reducible apply ite_sound | with_reducible apply ite_fst_sound | split

end Sys2Proof.Machine
end

