-- ==== Sys2Proof/Laws/KeepCrypto.lean ====
section
/-! SUPPORT. The operations of Machine/Crypto.lean keep State.Sound. -/

namespace Sys2Proof.Machine

variable {k0 k1 k2 k3 k4 k5 k6 k7 k8 k9 k10 k11 k12 k13 k14 k15 k16 k17 : Bool}

theorem execRingTailWrite_sound {o : State} {who : Sender} {r : Ring} {tail : BitVec 16} {s : State} (hS : s.Sound
    ⟨false, k1, k2, k3, k4, k5, k6, k7, k8, k9, k10, k11, false, k13, false, false, false, k17⟩ o) : OutSound ⟨false,
    k1, k2, k3, k4, k5, k6, k7, k8, k9, k10, k11, false, k13, false, false, false, k17⟩ o (execRingTailWrite who r
    tail s) := by
  unfold execRingTailWrite; try dsimp only
  with_reducible repeat' first
    | assumption | intro _ | apply State.ringTailOp_sound | apply ite_out_sound | apply next_sound | apply ite_sound
    | apply ite_fst_sound

theorem execRingCtlWrite_sound {o : State} {who : Sender} {r : Ring} {v : Word} {s : State} (hS : s.Sound ⟨false, k1,
    k2, k3, k4, k5, k6, k7, k8, k9, k10, k11, false, k13, false, false, false, k17⟩ o) : OutSound ⟨false, k1, k2, k3,
    k4, k5, k6, k7, k8, k9, k10, k11, false, k13, false, false, false, k17⟩ o (execRingCtlWrite who r v s) := by
  unfold execRingCtlWrite; try dsimp only
  with_reducible repeat' first
    | assumption | intro _ | apply State.ringCtlOp_sound | apply ite_out_sound | apply next_sound | apply ite_sound
    | apply ite_fst_sound

theorem execRingFetch_sound {o : State} {r : Ring} {n : Fin 257} {s : State} (hS : s.Sound ⟨false, k1, k2, k3, false,
    k5, k6, k7, k8, k9, k10, false, false, k13, k14, false, false, k17⟩ o) : OutSound ⟨false, k1, k2, k3, false, k5,
    k6, k7, k8, k9, k10, false, false, k13, k14, false, false, k17⟩ o (execRingFetch r n s) := by
  unfold execRingFetch; try dsimp only
  with_reducible repeat' first
    | assumption | intro _ | apply State.ringFetchOp_sound | apply ite_out_sound | apply next_sound | apply ite_sound
    | apply ite_fst_sound

theorem State.descEnd_sound {o : State} {s : State} {r : Nat} {d : DescH} {res : Res} (hS : s.Sound ⟨k0, k1, k2, k3,
    k4, k5, k6, k7, k8, k9, k10, k11, false, k13, k14, k15, k16, k17⟩ o) : (State.descEnd s r d res).Sound ⟨k0, k1,
    k2, k3, k4, k5, k6, k7, k8, k9, k10, k11, false, k13, k14, k15, k16, k17⟩ o := by
  unfold State.descEnd; try dsimp only
  repeat' first
    | with_reducible assumption | with_reducible intro _ | with_reducible apply State.descDone_sound
    | with_reducible apply State.updDesc_sound | with_reducible apply State.agentAdd_sound
    | with_reducible apply ite_sound | with_reducible apply ite_fst_sound | split

theorem State.runOp_sound {o : State} {s : State} {r : Nat} {op : Nat} {agree : Bool} {pre : DescH → Nat} {act : DescH
    → List Byte → State → State × Res} (h_act : ∀ (x0 : DescH) (x1 : List Byte) (x2 : State), x2.Sound ⟨false, false,
    k2, k3, false, k5, k6, k7, k8, k9, k10, false, false, k13, k14, false, false, k17⟩ o → (act x0 x1 x2).1.Sound
    ⟨false, false, k2, k3, false, k5, k6, k7, k8, k9, k10, false, false, k13, k14, false, false, k17⟩ o) (hS : s.Sound
    ⟨false, false, k2, k3, false, k5, k6, k7, k8, k9, k10, false, false, k13, k14, false, false, k17⟩ o) :
    (State.runOp s r op agree pre act).Sound ⟨false, false, k2, k3, false, k5, k6, k7, k8, k9, k10, false, false, k13,
    k14, false, false, k17⟩ o := by
  unfold State.runOp; try dsimp only
  repeat' first
    | with_reducible assumption | with_reducible intro _ | with_reducible apply State.descDone_sound
    | with_reducible apply State.agentKick_sound | with_reducible apply State.disagree_sound
    | with_reducible apply State.agreed_sound | with_reducible apply State.descEnd_sound | with_reducible apply h_act
    | with_reducible apply ite_sound | with_reducible apply ite_fst_sound | split

theorem cipherAct_sound {o : State} {d : DescH} {src : List Byte} {s : State} (hS : s.Sound ⟨k0, k1, k2, k3, k4, k5,
    k6, k7, k8, k9, k10, k11, k12, k13, k14, k15, k16, k17⟩ o) : (cipherAct d src s).1.Sound ⟨k0, k1, k2, k3, k4, k5,
    k6, k7, k8, k9, k10, k11, k12, k13, k14, k15, k16, k17⟩ o := by
  unfold cipherAct; try dsimp only
  repeat' first
    | with_reducible assumption | with_reducible intro _ | with_reducible apply State.take_sound
    | with_reducible apply ite_sound | with_reducible apply ite_fst_sound | split

theorem cipherAct_sound' {o : State} {d : DescH} {src : List Byte} {s : State} {u_ : State} {res} (e : cipherAct d src
    s = (u_, res)) (hS : s.Sound ⟨k0, k1, k2, k3, k4, k5, k6, k7, k8, k9, k10, k11, k12, k13, k14, k15, k16, k17⟩ o) :
    u_.Sound ⟨k0, k1, k2, k3, k4, k5, k6, k7, k8, k9, k10, k11, k12, k13, k14, k15, k16, k17⟩ o :=
  fst_sound e (cipherAct_sound hS)

theorem execCipher_sound {o : State} {r : Ring} {agree : Bool} {s : State} (hS : s.Sound ⟨false, false, k2, k3, false,
    k5, k6, k7, k8, k9, k10, false, false, k13, k14, false, false, k17⟩ o) : OutSound ⟨false, false, k2, k3, false,
    k5, k6, k7, k8, k9, k10, false, false, k13, k14, false, false, k17⟩ o (execCipher r agree s) := by
  unfold execCipher; try dsimp only
  with_reducible repeat' first
    | assumption | intro _ | apply State.runOp_sound | refine cipherAct_sound' (by assumption) ?_
    | apply cipherAct_sound | apply ite_out_sound | apply next_sound | apply ite_sound | apply ite_fst_sound

theorem execHash_sound {o : State} {r : Ring} {agree : Bool} {s : State} (hS : s.Sound ⟨false, false, k2, k3, false,
    k5, k6, k7, k8, k9, k10, false, false, k13, k14, false, false, k17⟩ o) : OutSound ⟨false, false, k2, k3, false,
    k5, k6, k7, k8, k9, k10, false, false, k13, k14, false, false, k17⟩ o (execHash r agree s) := by
  unfold execHash; try dsimp only
  repeat' first
    | with_reducible assumption | with_reducible intro _ | with_reducible apply State.runOp_sound
    | with_reducible apply ite_out_sound | with_reducible apply next_sound | with_reducible apply ite_sound
    | with_reducible apply ite_fst_sound | split

theorem execMacGen_sound {o : State} {r : Ring} {agree : Bool} {s : State} (hS : s.Sound ⟨false, false, k2, k3, false,
    k5, k6, k7, k8, k9, k10, false, false, k13, k14, false, false, k17⟩ o) : OutSound ⟨false, false, k2, k3, false,
    k5, k6, k7, k8, k9, k10, false, false, k13, k14, false, false, k17⟩ o (execMacGen r agree s) := by
  unfold execMacGen; try dsimp only
  repeat' first
    | with_reducible assumption | with_reducible intro _ | with_reducible apply State.runOp_sound
    | with_reducible apply ite_out_sound | with_reducible apply next_sound | with_reducible apply ite_sound
    | with_reducible apply ite_fst_sound | split

theorem execMacVerify_sound {o : State} {r : Ring} {agree : Bool} {s : State} (hS : s.Sound ⟨false, false, k2, k3,
    false, k5, k6, k7, k8, k9, k10, false, false, k13, k14, false, false, k17⟩ o) : OutSound ⟨false, false, k2, k3,
    false, k5, k6, k7, k8, k9, k10, false, false, k13, k14, false, false, k17⟩ o (execMacVerify r agree s) := by
  unfold execMacVerify; try dsimp only
  repeat' first
    | with_reducible assumption | with_reducible intro _ | with_reducible apply State.runOp_sound
    | with_reducible apply State.take_sound | with_reducible apply ite_out_sound | with_reducible apply next_sound
    | with_reducible apply ite_sound | with_reducible apply ite_fst_sound | split

theorem pinAct_sound {o : State} {d : DescH} {src : List Byte} {s : State} (hS : s.Sound ⟨k0, k1, k2, k3, k4, k5, k6, k7, k8, k9, k10, k11, k12, k13, k14, k15, k16, false⟩ o) :
    (pinAct d src s).1.Sound ⟨k0, k1, k2, k3, k4, k5, k6, k7, k8, k9, k10, k11, k12, k13, k14, k15, k16, false⟩ o := by
  unfold pinAct
  dsimp only
  split
  · exact hS
  · exact State.randomBytes_sound (k := 16) hS

theorem pinAct_sound' {o : State} {d : DescH} {src : List Byte} {s t : State} {r : Res}
    (e : pinAct d src s = (t, r)) (hS : s.Sound ⟨k0, k1, k2, k3, k4, k5, k6, k7, k8, k9, k10, k11, k12, k13, k14, k15, k16, false⟩ o) : t.Sound ⟨k0, k1, k2, k3, k4, k5, k6, k7, k8, k9, k10, k11, k12, k13, k14, k15, k16, false⟩ o := fst_sound e (pinAct_sound hS)

theorem execPinTranslate_sound {o : State} {r : Ring} {agree : Bool} {s : State} (hS : s.Sound ⟨false, false, k2, k3,
    false, k5, k6, k7, k8, k9, k10, false, false, k13, k14, false, false, false⟩ o) : OutSound ⟨false, false, k2, k3,
    false, k5, k6, k7, k8, k9, k10, false, false, k13, k14, false, false, false⟩ o (execPinTranslate r agree s) := by
  unfold execPinTranslate; try dsimp only
  with_reducible repeat' first
    | assumption | intro _ | apply State.runOp_sound | refine pinAct_sound' (by assumption) ?_ | apply pinAct_sound
    | apply ite_out_sound | apply next_sound | apply ite_sound | apply ite_fst_sound

theorem execRandom_sound {o : State} {r : Ring} {agree : Bool} {s : State} (hS : s.Sound ⟨false, false, k2, k3, false, k5, k6, k7, k8, k9, k10, false, false, k13, k14, false, false, false⟩ o) :
    OutSound ⟨false, false, k2, k3, false, k5, k6, k7, k8, k9, k10, false, false, k13, k14, false, false, false⟩ o (execRandom r agree s) :=
  next_sound (State.runOp_sound (fun d _ _ h => State.randomBytes_sound (k := dDstLen d.bytes) h) hS)

theorem execSign_sound {o : State} {r : Ring} {agree : Bool} {s : State} (hS : s.Sound ⟨false, false, k2, k3, false,
    k5, k6, k7, k8, k9, k10, false, false, k13, k14, false, false, false⟩ o) : OutSound ⟨false, false, k2, k3, false,
    k5, k6, k7, k8, k9, k10, false, false, k13, k14, false, false, false⟩ o (execSign r agree s) := by
  unfold execSign; try dsimp only
  repeat' first
    | with_reducible assumption | with_reducible intro _ | with_reducible apply State.runOp_sound
    | with_reducible apply State.tick_sound | with_reducible apply ite_out_sound | with_reducible apply next_sound
    | with_reducible apply ite_sound | with_reducible apply ite_fst_sound | split

theorem execVerify_sound {o : State} {r : Ring} {agree : Bool} {s : State} (hS : s.Sound ⟨false, false, k2, k3, false,
    k5, k6, k7, k8, k9, k10, false, false, k13, k14, false, false, k17⟩ o) : OutSound ⟨false, false, k2, k3, false,
    k5, k6, k7, k8, k9, k10, false, false, k13, k14, false, false, k17⟩ o (execVerify r agree s) := by
  unfold execVerify; try dsimp only
  repeat' first
    | with_reducible assumption | with_reducible intro _ | with_reducible apply State.runOp_sound
    | with_reducible apply ite_out_sound | with_reducible apply next_sound | with_reducible apply ite_sound
    | with_reducible apply ite_fst_sound | split

theorem execAsymCrypt_sound {o : State} {r : Ring} {agree : Bool} {s : State} (hS : s.Sound ⟨false, false, k2, k3,
    false, k5, k6, k7, k8, k9, k10, false, false, k13, k14, false, false, false⟩ o) : OutSound ⟨false, false, k2, k3,
    false, k5, k6, k7, k8, k9, k10, false, false, k13, k14, false, false, false⟩ o (execAsymCrypt r agree s) := by
  unfold execAsymCrypt; try dsimp only
  repeat' first
    | with_reducible assumption | with_reducible intro _ | with_reducible apply State.runOp_sound
    | with_reducible apply State.tick_sound | with_reducible apply ite_out_sound | with_reducible apply next_sound
    | with_reducible apply ite_sound | with_reducible apply ite_fst_sound | split

theorem State.chargeMore_sound {o : State} {s : State} {p : Nat} {n : Nat} (hS : s.Sound ⟨k0, k1, k2, k3, k4, k5, k6,
    k7, k8, k9, k10, k11, false, k13, k14, k15, k16, k17⟩ o) : (State.chargeMore s p n).Sound ⟨k0, k1, k2, k3, k4, k5,
    k6, k7, k8, k9, k10, k11, false, k13, k14, k15, k16, k17⟩ o := by
  unfold State.chargeMore; try dsimp only
  repeat' first
    | with_reducible assumption | with_reducible intro _ | with_reducible apply State.onCrypto_sound
    | with_reducible apply ite_sound | with_reducible apply ite_fst_sound | split

theorem keyGenAct_sound {o : State} {r : Nat} {d : DescH} {b : List Byte} {s : State} (hS : s.Sound ⟨k0, k1, k2, k3,
    k4, k5, k6, k7, k8, k9, k10, k11, false, k13, k14, k15, k16, false⟩ o) : (keyGenAct r d b s).1.Sound ⟨k0, k1, k2,
    k3, k4, k5, k6, k7, k8, k9, k10, k11, false, k13, k14, k15, k16, false⟩ o := by
  unfold keyGenAct; try dsimp only
  repeat' first
    | with_reducible assumption | with_reducible intro _ | with_reducible apply State.chargeMore_sound
    | with_reducible apply State.tick_sound | with_reducible apply State.setKey_sound
    | with_reducible apply State.updDesc_sound | with_reducible apply ite_sound | with_reducible apply ite_fst_sound
    | split

theorem keyGenAct_sound' {o : State} {r : Nat} {d : DescH} {b : List Byte} {s : State} {u_ : State} {res} (e :
    keyGenAct r d b s = (u_, res)) (hS : s.Sound ⟨k0, k1, k2, k3, k4, k5, k6, k7, k8, k9, k10, k11, false, k13, k14,
    k15, k16, false⟩ o) : u_.Sound ⟨k0, k1, k2, k3, k4, k5, k6, k7, k8, k9, k10, k11, false, k13, k14, k15, k16,
    false⟩ o :=
  fst_sound e (keyGenAct_sound hS)

theorem execKeyGen_sound {o : State} {r : Ring} {agree : Bool} {s : State} (hS : s.Sound ⟨false, false, k2, k3, false,
    k5, k6, k7, k8, k9, k10, false, false, k13, k14, false, false, false⟩ o) : OutSound ⟨false, false, k2, k3, false,
    k5, k6, k7, k8, k9, k10, false, false, k13, k14, false, false, false⟩ o (execKeyGen r agree s) := by
  unfold execKeyGen; try dsimp only
  repeat' first
    | with_reducible assumption | with_reducible intro _ | with_reducible apply State.runOp_sound
    | with_reducible refine keyGenAct_sound' (by assumption) ?_ | with_reducible apply keyGenAct_sound
    | with_reducible apply ite_out_sound | with_reducible apply next_sound | with_reducible apply ite_sound
    | with_reducible apply ite_fst_sound | split

theorem execKbImport_sound {o : State} {r : Ring} {agree : Bool} {s : State} (hS : s.Sound ⟨false, false, k2, k3,
    false, k5, k6, k7, k8, k9, k10, false, false, k13, k14, false, false, k17⟩ o) : OutSound ⟨false, false, k2, k3,
    false, k5, k6, k7, k8, k9, k10, false, false, k13, k14, false, false, k17⟩ o (execKbImport r agree s) := by
  unfold execKbImport; try dsimp only
  repeat' first
    | with_reducible assumption | with_reducible intro _ | with_reducible apply State.runOp_sound
    | with_reducible apply State.setKey_sound | with_reducible apply ite_out_sound | with_reducible apply next_sound
    | with_reducible apply ite_sound | with_reducible apply ite_fst_sound | split

theorem execKbExport_sound {o : State} {r : Ring} {agree : Bool} {s : State} (hS : s.Sound ⟨false, false, k2, k3,
    false, k5, k6, k7, k8, k9, k10, false, false, k13, k14, false, false, false⟩ o) : OutSound ⟨false, false, k2, k3,
    false, k5, k6, k7, k8, k9, k10, false, false, k13, k14, false, false, false⟩ o (execKbExport r agree s) := by
  unfold execKbExport; try dsimp only
  repeat' first
    | with_reducible assumption | with_reducible intro _ | with_reducible apply State.runOp_sound
    | with_reducible apply State.tick_sound | with_reducible apply ite_out_sound | with_reducible apply next_sound
    | with_reducible apply ite_sound | with_reducible apply ite_fst_sound | split

theorem execKeyErase_sound {o : State} {r : Ring} {agree : Bool} {s : State} (hS : s.Sound ⟨false, false, k2, k3,
    false, k5, k6, k7, k8, k9, k10, false, false, k13, k14, false, false, k17⟩ o) : OutSound ⟨false, false, k2, k3,
    false, k5, k6, k7, k8, k9, k10, false, false, k13, k14, false, false, k17⟩ o (execKeyErase r agree s) := by
  unfold execKeyErase; try dsimp only
  repeat' first
    | with_reducible assumption | with_reducible intro _ | with_reducible apply State.runOp_sound
    | with_reducible apply State.setKey_sound | with_reducible apply ite_out_sound | with_reducible apply next_sound
    | with_reducible apply ite_sound | with_reducible apply ite_fst_sound | split

theorem checkValue_sound {o s t : State} {k : KeyEnt} {l : List Byte}
    (e : checkValue k s = (l, t)) (h : s.Sound ⟨k0, k1, k2, k3, k4, k5, k6, k7, k8, k9, k10, k11, k12, k13, k14, k15, k16, false⟩ o) : t.Sound ⟨k0, k1, k2, k3, k4, k5, k6, k7, k8, k9, k10, k11, k12, k13, k14, k15, k16, false⟩ o := by
  unfold checkValue at e
  split at e
  · obtain ⟨_, rfl⟩ := Prod.mk.inj e; exact h
  · split at e
    · obtain ⟨_, rfl⟩ := Prod.mk.inj e; exact h
    · exact State.randomBytes_sound' e h

theorem execKeyInfo_sound {o : State} {r : Ring} {agree : Bool} {s : State} (hS : s.Sound ⟨false, false, k2, k3, false, k5, k6, k7, k8, k9, k10, false, false, k13, k14, false, false, false⟩ o) :
    OutSound ⟨false, false, k2, k3, false, k5, k6, k7, k8, k9, k10, false, false, k13, k14, false, false, false⟩ o (execKeyInfo r agree s) := by
  refine next_sound (State.runOp_sound (fun d _ t h => ?_) hS)
  cases e : checkValue d.keyA t
  exact checkValue_sound e h

theorem execPubExport_sound {o : State} {r : Ring} {agree : Bool} {s : State} (hS : s.Sound ⟨false, false, k2, k3,
    false, k5, k6, k7, k8, k9, k10, false, false, k13, k14, false, false, k17⟩ o) : OutSound ⟨false, false, k2, k3,
    false, k5, k6, k7, k8, k9, k10, false, false, k13, k14, false, false, k17⟩ o (execPubExport r agree s) := by
  unfold execPubExport; try dsimp only
  repeat' first
    | with_reducible assumption | with_reducible intro _ | with_reducible apply State.runOp_sound
    | with_reducible apply ite_out_sound | with_reducible apply next_sound | with_reducible apply ite_sound
    | with_reducible apply ite_fst_sound | split

end Sys2Proof.Machine
end

