-- ==== Sys2Proof/Laws/KeepFabric.lean ====
section
/-! SUPPORT. The operations of Machine/Fabric.lean keep State.Sound. -/

namespace Sys2Proof.Machine

variable {k0 k1 k2 k3 k4 k5 k6 k7 k8 k9 k10 k11 k12 k13 k14 k15 k16 k17 : Bool}

theorem State.tornFlit_sound {o : State} {s : State} {m : CMsg} (hS : s.Sound ⟨k0, k1, k2, k3, k4, k5, k6, k7, k8, k9,
    k10, k11, k12, k13, k14, false, false, k17⟩ o) : (State.tornFlit s m).Sound ⟨k0, k1, k2, k3, k4, k5, k6, k7, k8,
    k9, k10, k11, k12, k13, k14, false, false, k17⟩ o := by
  unfold State.tornFlit; try dsimp only
  with_reducible repeat' first
    | assumption | intro _ | apply State.take_sound | apply State.record_sound | apply ite_sound | apply ite_fst_sound

theorem State.onLink_sound {o : State} {s : State} {l : Nat} {form : Nat} {m : CMsg} (hS : s.Sound ⟨k0, k1, k2, k3,
    k4, k5, false, k7, k8, k9, k10, k11, k12, k13, k14, k15, k16, k17⟩ o) : (State.onLink s l form m).Sound ⟨k0, k1,
    k2, k3, k4, k5, false, k7, k8, k9, k10, k11, k12, k13, k14, k15, k16, k17⟩ o := by
  unfold State.onLink; try dsimp only
  repeat' first
    | with_reducible assumption | with_reducible intro _ | with_reducible apply State.onFab_sound
    | with_reducible apply ite_sound | with_reducible apply ite_fst_sound | split

theorem State.passEgress_sound {o t_ : State} {s : State} {mesh : Nat} {l : Nat} {form : Nat} {m : CMsg} (e :
    State.passEgress s mesh l form m = some t_) (hS : s.Sound ⟨false, k1, k2, k3, k4, k5, false, k7, k8, k9, k10, k11, k12, k13, k14, k15, k16, k17⟩ o) : t_.Sound ⟨false, k1, k2, k3, k4, k5, false, k7, k8, k9, k10, k11, k12, k13, k14, k15, k16, k17⟩ o := by
  unfold State.passEgress at e
  split at e
  · cases e; exact hS
  · split at e
    · exact State.arbPass_sound e hS
    · cases e; exact hS

theorem State.exitBy_sound {o t_ : State} {s : State} {mesh : Nat} {l : Nat} {vc : Nat} {form : Nat} {free : Bool} {m
    : CMsg} (e : State.exitBy s mesh l vc form free m = some t_) (hS : s.Sound ⟨false, k1, k2, k3, k4, k5, false, k7, k8, k9, k10, k11, k12, k13, k14, k15, k16, k17⟩ o) : t_.Sound ⟨false, k1, k2, k3, k4, k5, false, k7, k8, k9, k10, k11, k12, k13, k14, k15, k16, k17⟩ o := by
  unfold State.exitBy at e
  split at e
  · cases e; exact hS
  · split at e
    · contradiction
    · split at e
      · rename_i h
        cases e
        exact State.onLink_sound (State.creditUse_sound (State.passEgress_sound h hS))
      · contradiction

theorem State.exitMesh_sound {o t_ : State} {s : State} {mesh : Nat} {vc : Nat} {form : Nat} {free : Nat → Bool} {m :
    CMsg} (e : State.exitMesh s mesh vc form free m = some t_) (hS : s.Sound ⟨false, k1, k2, k3, k4, k5, false, k7, k8, k9, k10, k11, k12, k13, k14, k15, k16, k17⟩ o) : t_.Sound ⟨false, k1, k2, k3, k4, k5, false, k7, k8, k9, k10, k11, k12, k13, k14, k15, k16, k17⟩ o := by
  unfold State.exitMesh at e
  split at e
  · exact State.exitBy_sound e hS
  · cases e; exact hS

theorem State.routerOp_sound {o : State} {s : State} {mesh : Nat} {x : Nat} {y : Nat} {dx : Nat} {dy : Nat} {vc : Nat}
    {form : Nat} {m : CMsg} (hS : s.Sound ⟨false, k1, k2, k3, k4, k5, false, k7, k8, k9, k10, k11, k12, k13, k14,
    false, false, k17⟩ o) : (State.routerOp s mesh x y dx dy vc form m).Sound ⟨false, k1, k2, k3, k4, k5, false, k7,
    k8, k9, k10, k11, k12, k13, k14, false, false, k17⟩ o := by
  unfold State.routerOp; try dsimp only
  repeat' first
    | with_reducible assumption | with_reducible intro _ | with_reducible apply State.tornFlit_sound
    | with_reducible apply State.take_sound | with_reducible apply State.offDrop_sound
    | with_reducible refine State.exitMesh_sound (by assumption) ?_ | with_reducible apply State.setFlit_sound
    | with_reducible apply State.creditUse_sound | with_reducible apply State.onLink_sound
    | with_reducible apply ite_sound | with_reducible apply ite_fst_sound | split

theorem execRouterForward_sound {o : State} {mesh : Fin 14} {x : Fin 4} {y : Fin 4} {dx : Fin 4} {dy : Fin 4} {vc :
    Fin 8} {form : Fin 4} {m : CMsg} {s : State} (hS : s.Sound ⟨false, k1, k2, k3, k4, k5, false, k7, k8, k9, k10,
    k11, k12, k13, k14, false, false, k17⟩ o) : OutSound ⟨false, k1, k2, k3, k4, k5, false, k7, k8, k9, k10, k11, k12,
    k13, k14, false, false, k17⟩ o (execRouterForward mesh x y dx dy vc form m s) := by
  unfold execRouterForward; try dsimp only
  with_reducible repeat' first
    | assumption | intro _ | apply State.routerOp_sound | apply ite_out_sound | apply next_sound | apply ite_sound
    | apply ite_fst_sound

theorem State.offAnswer_sound {o : State} {s : State} {m : CMsg} (hS : s.Sound ⟨k0, k1, k2, k3, k4, k5, k6, k7, k8,
    k9, k10, k11, k12, k13, k14, false, false, k17⟩ o) : (State.offAnswer s m).Sound ⟨k0, k1, k2, k3, k4, k5, k6, k7,
    k8, k9, k10, k11, k12, k13, k14, false, false, k17⟩ o := by
  unfold State.offAnswer; try dsimp only
  with_reducible repeat' first
    | assumption | intro _ | apply State.send_sound | apply State.record_sound | apply ite_sound

theorem State.transitSend_sound {o : State} {s : State} {n : Nat} {m : CMsg} (hS : s.Sound ⟨k0, k1, k2, k3, k4, k5,
    false, k7, k8, k9, k10, k11, k12, k13, k14, k15, false, k17⟩ o) : (State.transitSend s n m).Sound ⟨k0, k1, k2, k3,
    k4, k5, false, k7, k8, k9, k10, k11, k12, k13, k14, k15, false, k17⟩ o := by
  unfold State.transitSend; try dsimp only
  repeat' first
    | with_reducible assumption | with_reducible intro _ | with_reducible apply State.creditUse_sound
    | with_reducible apply State.send_sound | with_reducible apply State.onFab_sound | with_reducible apply ite_sound
    | with_reducible apply ite_fst_sound | split

theorem State.transitKick_sound {o : State} {s : State} (hS : s.Sound ⟨k0, k1, k2, k3, k4, k5, false, k7, k8, k9, k10,
    k11, k12, k13, k14, k15, false, k17⟩ o) : (State.transitKick s).Sound ⟨k0, k1, k2, k3, k4, k5, false, k7, k8, k9,
    k10, k11, k12, k13, k14, k15, false, k17⟩ o := by
  unfold State.transitKick; try dsimp only
  repeat' first
    | with_reducible assumption | with_reducible intro _ | with_reducible apply State.onFab_sound
    | with_reducible apply State.creditUse_sound | with_reducible apply State.send_sound
    | with_reducible apply ite_sound | with_reducible apply ite_fst_sound | with_reducible apply each_sound
    | with_reducible apply each_fst_sound | with_reducible refine each_fst_sound' (by assumption) ?_ ?_ | split

theorem State.transitOp_sound {o : State} {s : State} {p : Nat} {m : CMsg} (hS : s.Sound ⟨false, k1, k2, k3, k4, k5,
    false, k7, k8, k9, false, k11, k12, k13, k14, false, false, k17⟩ o) : (State.transitOp s p m).Sound ⟨false, k1,
    k2, k3, k4, k5, false, k7, k8, k9, false, k11, k12, k13, k14, false, false, k17⟩ o := by
  unfold State.transitOp; try dsimp only
  repeat' first
    | with_reducible assumption | with_reducible intro _ | with_reducible apply State.take_sound
    | with_reducible apply State.offAnswer_sound | with_reducible apply State.holdAt_sound
    | with_reducible apply State.transitSend_sound | with_reducible apply ite_sound
    | with_reducible apply ite_fst_sound | split

theorem execTransitForward_sound {o : State} {p : FabPort} {m : CMsg} {s : State} (hS : s.Sound ⟨false, k1, k2, k3,
    k4, k5, false, k7, k8, k9, false, k11, k12, k13, k14, false, false, k17⟩ o) : OutSound ⟨false, k1, k2, k3, k4, k5,
    false, k7, k8, k9, false, k11, k12, k13, k14, false, false, k17⟩ o (execTransitForward p m s) := by
  unfold execTransitForward; try dsimp only
  with_reducible repeat' first
    | assumption | intro _ | apply State.transitOp_sound | apply ite_out_sound | apply next_sound | apply ite_sound
    | apply ite_fst_sound

theorem State.creditOp_sound {o : State} {s : State} {l : Nat} {vc : Nat} (hS : s.Sound ⟨k0, k1, k2, k3, k4, k5,
    false, k7, k8, k9, k10, k11, k12, k13, k14, k15, false, k17⟩ o) : (State.creditOp s l vc).Sound ⟨k0, k1, k2, k3,
    k4, k5, false, k7, k8, k9, k10, k11, k12, k13, k14, k15, false, k17⟩ o := by
  unfold State.creditOp; try dsimp only
  with_reducible repeat' first
    | assumption | intro _ | apply State.creditBack_sound | apply State.transitKick_sound | apply ite_sound
    | apply ite_fst_sound

theorem execCreditReturn_sound {o : State} {link : ℕ} {vc : Fin 8} {s : State} (hS : s.Sound ⟨k0, k1, k2, k3, k4, k5,
    false, k7, k8, k9, k10, k11, k12, k13, k14, k15, false, k17⟩ o) : OutSound ⟨k0, k1, k2, k3, k4, k5, false, k7, k8,
    k9, k10, k11, k12, k13, k14, k15, false, k17⟩ o (execCreditReturn link vc s) := by
  unfold execCreditReturn; try dsimp only
  with_reducible repeat' first
    | assumption | intro _ | apply next_sound | apply ite_out_sound | apply State.creditOp_sound

theorem execFlitCrcFail_sound {o : State} {mesh : Fin 14} {s : State} (hS : s.Sound ⟨false, false, k2, false, false,
    false, false, false, false, false, k10, false, k12, k13, false, false, false, k17⟩ o) : OutSound ⟨false, false,
    k2, false, false, false, false, false, false, false, k10, false, k12, k13, false, false, false, k17⟩ o
    (execFlitCrcFail mesh s) := by
  unfold execFlitCrcFail; try dsimp only
  with_reducible repeat' first
    | assumption | intro _ | apply State.meshFail_sound | apply ite_out_sound | apply next_sound | apply ite_sound
    | apply ite_fst_sound

theorem State.regulatorOp_sound {o : State} {s : State} {a : Nat} {p : Nat} {two : Bool} {m : CMsg} (hS : s.Sound
    ⟨false, k1, k2, k3, k4, k5, false, k7, k8, k9, k10, k11, k12, k13, k14, k15, false, k17⟩ o) : (State.regulatorOp s
    a p two m).Sound ⟨false, k1, k2, k3, k4, k5, false, k7, k8, k9, k10, k11, k12, k13, k14, k15, false, k17⟩ o := by
  unfold State.regulatorOp; try dsimp only
  repeat' first
    | with_reducible assumption | with_reducible intro _
    | with_reducible refine State.arbPass_sound (by assumption) ?_ | with_reducible apply State.take_sound
    | with_reducible apply State.regPass_sound | with_reducible apply ite_sound | with_reducible apply ite_fst_sound
    | split

theorem execRegulatorPass_sound {o : State} {a : Arb} {p : Part} {partialWr : Bool} {m : CMsg} {s : State} (hS :
    s.Sound ⟨false, k1, k2, k3, k4, k5, false, k7, k8, k9, k10, k11, k12, k13, k14, k15, false, k17⟩ o) : OutSound
    ⟨false, k1, k2, k3, k4, k5, false, k7, k8, k9, k10, k11, k12, k13, k14, k15, false, k17⟩ o (execRegulatorPass a p
    partialWr m s) := by
  unfold execRegulatorPass; try dsimp only
  with_reducible repeat' first
    | assumption | intro _ | apply next_sound | apply ite_out_sound | apply State.regulatorOp_sound

theorem State.backoffOp_sound {o : State} {s : State} {a : Nat} {n : Nat} (hS : s.Sound ⟨false, k1, k2, k3, false, k5,
    false, false, false, false, k10, false, k12, k13, k14, false, false, k17⟩ o) : (State.backoffOp s a n).Sound
    ⟨false, k1, k2, k3, false, k5, false, false, false, false, k10, false, k12, k13, k14, false, false, k17⟩ o := by
  unfold State.backoffOp; try dsimp only
  with_reducible repeat' first
    | assumption | intro _ | apply State.setF_sound | apply State.takeQueued_sound | apply ite_sound
    | apply ite_fst_sound

theorem execArbiterBackoffEnd_sound {o : State} {a : Arb} {n : Fin 16} {s : State} (hS : s.Sound ⟨false, k1, k2, k3,
    false, k5, false, false, false, false, k10, false, k12, k13, k14, false, false, k17⟩ o) : OutSound ⟨false, k1, k2,
    k3, false, k5, false, false, false, false, k10, false, k12, k13, k14, false, false, k17⟩ o (execArbiterBackoffEnd
    a n s) := by
  unfold execArbiterBackoffEnd; try dsimp only
  with_reducible repeat' first
    | assumption | intro _ | apply State.backoffOp_sound | apply ite_out_sound | apply next_sound | apply ite_sound
    | apply ite_fst_sound

theorem State.burstOp_sound {o : State} {s : State} {a : Nat} {still : Bool} {cycle : Nat} (hS : s.Sound ⟨false, k1,
    k2, k3, false, k5, false, false, false, false, k10, false, k12, k13, k14, false, false, k17⟩ o) : (State.burstOp s
    a still cycle).Sound ⟨false, k1, k2, k3, false, k5, false, false, false, false, k10, false, k12, k13, k14, false,
    false, k17⟩ o := by
  unfold State.burstOp; try dsimp only
  repeat' first
    | with_reducible assumption | with_reducible intro _ | with_reducible apply State.setF_sound
    | with_reducible apply State.incF_sound | with_reducible apply State.takeQueued_sound
    | with_reducible apply ite_sound | with_reducible apply ite_fst_sound | split

theorem execBurstExpiry_sound {o : State} {a : Arb} {still : Bool} {cycle : Nat} {s : State} (hS : s.Sound ⟨false, k1,
    k2, k3, false, k5, false, false, false, false, k10, false, k12, k13, k14, false, false, k17⟩ o) : OutSound ⟨false,
    k1, k2, k3, false, k5, false, false, false, false, k10, false, k12, k13, k14, false, false, k17⟩ o
    (execBurstExpiry a still cycle s) := by
  unfold execBurstExpiry; try dsimp only
  with_reducible repeat' first
    | assumption | intro _ | apply State.burstOp_sound | apply ite_out_sound | apply next_sound | apply ite_sound
    | apply ite_fst_sound

theorem State.arbClrOp_sound {o : State} {s : State} {w : Who} {a : ℕ} (hS : s.Sound ⟨false, k1, k2, k3, k4, k5, k6,
    k7, k8, k9, k10, k11, k12, k13, false, false, false, k17⟩ o) : (State.arbClrOp s w a).Sound ⟨false, k1, k2, k3,
    k4, k5, k6, k7, k8, k9, k10, k11, k12, k13, false, false, false, k17⟩ o := by
  unfold State.arbClrOp; try dsimp only
  with_reducible repeat' first
    | assumption | intro _ | apply State.csGuard_sound | apply State.whoReply_sound | apply State.setReg_sound

theorem execArbClr_sound {o : State} {who : Sender} {a : Arb} {s : State} (hS : s.Sound ⟨false, k1, k2, k3, k4, k5,
    k6, k7, k8, k9, k10, k11, k12, k13, false, false, false, k17⟩ o) : OutSound ⟨false, k1, k2, k3, k4, k5, k6, k7,
    k8, k9, k10, k11, k12, k13, false, false, false, k17⟩ o (execArbClr who a s) := by
  unfold execArbClr; try dsimp only
  with_reducible repeat' first
    | assumption | intro _ | apply next_sound | apply ite_out_sound | apply State.arbClrOp_sound

end Sys2Proof.Machine
end

