-- ==== Sys2Proof/Laws/KeepLinks.lean ====
section
/-! SUPPORT. The operations of Machine/Links.lean keep State.Sound. -/

namespace Sys2Proof.Machine

variable {k0 k1 k2 k3 k4 k5 k6 k7 k8 k9 k10 k11 k12 k13 k14 k15 k16 k17 : Bool}

theorem execLaserPowerLoss_sound {o : State} {t : Fin 4} {s : State} (hS : s.Sound ⟨false, false, k2, k3, k4, k5, k6,
    k7, k8, k9, false, k11, k12, k13, k14, false, false, k17⟩ o) : OutSound ⟨false, false, k2, k3, k4, k5, k6, k7, k8,
    k9, false, k11, k12, k13, k14, false, false, k17⟩ o (execLaserPowerLoss t s) := by
  unfold execLaserPowerLoss; try dsimp only
  with_reducible repeat' first
    | assumption | intro _ | apply next_sound | apply ite_out_sound | apply State.laserLoss_sound

theorem execLaserSwitchDone_sound {o : State} {half : Fin 2} {s : State} (hS : s.Sound ⟨k0, k1, k2, k3, k4, k5, false,
    k7, k8, k9, false, k11, k12, k13, k14, k15, false, k17⟩ o) : OutSound ⟨k0, k1, k2, k3, k4, k5, false, k7, k8, k9,
    false, k11, k12, k13, k14, k15, false, k17⟩ o (execLaserSwitchDone half s) := by
  unfold execLaserSwitchDone; try dsimp only
  repeat' first
    | with_reducible assumption | with_reducible intro _ | with_reducible apply State.onLinks_sound
    | with_reducible apply State.transitKick_sound | with_reducible apply ite_out_sound
    | with_reducible apply next_sound | with_reducible apply ite_sound | with_reducible apply ite_fst_sound | split

theorem execLtLight_sound {o : State} {who : Sender} {link : Fin 21} {v : Word} {s : State} (hS : s.Sound ⟨false, k1,
    k2, k3, k4, k5, k6, k7, k8, k9, k10, k11, k12, k13, false, false, false, k17⟩ o) : OutSound ⟨false, k1, k2, k3,
    k4, k5, k6, k7, k8, k9, k10, k11, k12, k13, false, false, false, k17⟩ o (execLtLight who link v s) := by
  unfold execLtLight; try dsimp only
  with_reducible repeat' first
    | assumption | intro _ | apply next_sound | apply ite_out_sound | apply State.ltCtlWrite_sound

theorem execLtLock_sound {o : State} {who : Sender} {link : Fin 21} {v : Word} {s : State} (hS : s.Sound ⟨false, k1,
    k2, k3, k4, k5, k6, k7, k8, k9, k10, k11, k12, k13, false, false, false, k17⟩ o) : OutSound ⟨false, k1, k2, k3,
    k4, k5, k6, k7, k8, k9, k10, k11, k12, k13, false, false, false, k17⟩ o (execLtLock who link v s) := by
  unfold execLtLock; try dsimp only
  with_reducible repeat' first
    | assumption | intro _ | apply next_sound | apply ite_out_sound | apply State.ltCtlWrite_sound

theorem execLtAdvertise_sound {o : State} {who : Sender} {link : Fin 21} {v : Word} {s : State} (hS : s.Sound ⟨false,
    k1, k2, k3, k4, k5, k6, k7, k8, k9, k10, k11, k12, k13, false, false, false, k17⟩ o) : OutSound ⟨false, k1, k2,
    k3, k4, k5, k6, k7, k8, k9, k10, k11, k12, k13, false, false, false, k17⟩ o (execLtAdvertise who link v s) := by
  unfold execLtAdvertise; try dsimp only
  with_reducible repeat' first
    | assumption | intro _ | apply next_sound | apply ite_out_sound | apply State.ltCtlWrite_sound

theorem execLtConfirm_sound {o : State} {who : Sender} {link : Fin 21} {v : Word} {s : State} (hS : s.Sound ⟨false,
    k1, k2, k3, k4, k5, k6, k7, k8, k9, k10, k11, k12, k13, false, false, false, k17⟩ o) : OutSound ⟨false, k1, k2,
    k3, k4, k5, k6, k7, k8, k9, k10, k11, k12, k13, false, false, false, k17⟩ o (execLtConfirm who link v s) := by
  unfold execLtConfirm; try dsimp only
  with_reducible repeat' first
    | assumption | intro _ | apply next_sound | apply ite_out_sound | apply State.ltCtlWrite_sound

theorem execLtStepDone_sound {o : State} {link : Fin 21} {good : Word} {peer : Nat} {peerConfirm : Bool} {fail : Bool}
    {delay : Nat} {s : State} (hS : s.Sound ⟨false, false, false, false, false, false, false, false, false, false,
    false, false, k12, k13, false, false, false, k17⟩ o) : OutSound ⟨false, false, false, false, false, false, false,
    false, false, false, false, false, k12, k13, false, false, false, k17⟩ o (execLtStepDone link good peer
    peerConfirm fail delay s) := by
  unfold execLtStepDone; try dsimp only
  with_reducible repeat' first
    | assumption | intro _ | apply State.stepEnd_sound | apply ite_out_sound | apply next_sound | apply ite_sound
    | apply ite_fst_sound

theorem execLaneCheckFail_sound {o : State} {link : Fin 22} {wave : Fin 64} {s : State} (hS : s.Sound ⟨k0, k1, k2, k3,
    k4, k5, k6, k7, k8, k9, false, k11, k12, k13, k14, k15, k16, k17⟩ o) : OutSound ⟨k0, k1, k2, k3, k4, k5, k6, k7,
    k8, k9, false, k11, k12, k13, k14, k15, k16, k17⟩ o (execLaneCheckFail link wave s) := by
  unfold execLaneCheckFail; try dsimp only
  with_reducible repeat' first
    | assumption | intro _ | apply State.laneFail_sound | apply ite_out_sound | apply next_sound | apply ite_sound
    | apply ite_fst_sound

theorem execLaneMapOut_sound {o : State} {link : Fin 22} {wave : Fin 64} {s : State} (hS : s.Sound ⟨false, false, false, k3, k4, k5, false, false, k8, k9, false, k11, k12, k13, k14, false, false, k17⟩ o) : OutSound ⟨false, false, false, k3, k4, k5, false, false, k8, k9, false, k11, k12, k13, k14, false, false, k17⟩ o (execLaneMapOut link wave s) :=
    by
  unfold execLaneMapOut; try dsimp only
  with_reducible repeat' first
    | assumption | intro _ | apply next_sound | apply ite_out_sound | apply State.laneOutOp_sound

theorem execLinkLightLoss_sound {o : State} {link : Fin 21} {s : State} (hS : s.Sound ⟨false, false, false, k3, k4,
    k5, false, false, k8, k9, false, k11, k12, k13, k14, false, false, k17⟩ o) : OutSound ⟨false, false, false, k3,
    k4, k5, false, false, k8, k9, false, k11, k12, k13, k14, false, false, k17⟩ o (execLinkLightLoss link s) := by
  unfold execLinkLightLoss; try dsimp only
  with_reducible repeat' first
    | assumption | intro _ | apply State.lightLoss_sound | apply ite_out_sound | apply next_sound | apply ite_sound
    | apply ite_fst_sound

theorem execLinkCrcError_sound {o : State} {link : Nat} {payload : BitVec 608} {crc : BitVec 32} {s : State} (hS :
    s.Sound ⟨false, false, false, false, false, false, false, false, false, false, false, false, k12, k13, false,
    false, false, k17⟩ o) : OutSound ⟨false, false, false, false, false, false, false, false, false, false, false,
    false, k12, k13, false, false, false, k17⟩ o (execLinkCrcError link payload crc s) := by
  unfold execLinkCrcError; try dsimp only
  with_reducible repeat' first
    | assumption | intro _ | apply State.crcOp_sound | apply ite_out_sound | apply next_sound | apply ite_sound
    | apply ite_fst_sound

end Sys2Proof.Machine
end

