-- ==== Sys2Proof/Laws/KeepMemOps.lean ====
section
/-! SUPPORT. The operations of Machine/MemOps.lean keep State.Sound. -/

namespace Sys2Proof.Machine

variable {k0 k1 k2 k3 k4 k5 k6 k7 k8 k9 k10 k11 k12 k13 k14 k15 k16 k17 : Bool}

theorem State.setChState_sound {o : State} {s : State} {c : ℕ} {v : ℕ} (hS : s.Sound ⟨false, k1, k2, k3, k4, k5, k6,
    k7, k8, k9, k10, k11, k12, k13, k14, k15, k16, k17⟩ o) : (State.setChState s c v).Sound ⟨false, k1, k2, k3, k4,
    k5, k6, k7, k8, k9, k10, k11, k12, k13, k14, k15, k16, k17⟩ o := by
  unfold State.setChState; try dsimp only
  with_reducible repeat' first | assumption | intro _ | apply State.setF_sound

theorem State.unqueue_sound {o : State} {s : State} {r : ChanReq} (hS : s.Sound ⟨k0, k1, k2, k3, k4, k5, k6, k7,
    false, k9, k10, k11, k12, k13, k14, k15, k16, k17⟩ o) : (State.unqueue s r).Sound ⟨k0, k1, k2, k3, k4, k5, k6, k7,
    false, k9, k10, k11, k12, k13, k14, k15, k16, k17⟩ o := by
  unfold State.unqueue; try dsimp only
  repeat' first
    | with_reducible assumption | with_reducible intro _ | with_reducible apply State.onDram_sound
    | with_reducible apply ite_sound | with_reducible rfl | rfl

theorem State.served_sound {o : State} {s : State} {r : ChanReq} {res : Option Line} (hS : s.Sound ⟨false, k1, k2, k3,
    false, k5, false, false, false, false, k10, false, k12, k13, k14, false, false, k17⟩ o) : (State.served s r
    res).Sound ⟨false, k1, k2, k3, false, k5, false, false, false, false, k10, false, k12, k13, k14, false, false,
    k17⟩ o := by
  unfold State.served; try dsimp only
  repeat' first
    | with_reducible assumption | with_reducible intro _ | with_reducible apply State.memBack_sound
    | with_reducible apply ite_sound | with_reducible apply ite_fst_sound | split

theorem State.giveLine_sound {o : State} {s : State} {r : ChanReq} {x : Stored} (hS : s.Sound ⟨false, k1, k2, k3,
    false, k5, false, false, false, false, k10, false, k12, k13, k14, false, false, k17⟩ o) : (State.giveLine s r
    x).Sound ⟨false, k1, k2, k3, false, k5, false, false, false, false, k10, false, k12, k13, k14, false, false, k17⟩
    o := by
  unfold State.giveLine; try dsimp only
  with_reducible repeat' first
    | assumption | intro _ | apply State.served_sound | apply ite_sound | apply ite_fst_sound

theorem State.lockPage_sound {o : State} {s : State} {off : Nat} {n : Nat} {c : Nat} {l : Nat} {r : ChanReq} {own :
    Option Nat} (hS : s.Sound ⟨k0, k1, k2, k3, k4, k5, k6, k7, false, k9, k10, k11, k12, k13, k14, k15, k16, k17⟩ o) :
    (State.lockPage s off n c l r own).Sound ⟨k0, k1, k2, k3, k4, k5, k6, k7, false, k9, k10, k11, k12, k13, k14, k15,
    k16, k17⟩ o := by
  unfold State.lockPage; try dsimp only
  repeat' first
    | with_reducible assumption | with_reducible intro _ | with_reducible apply State.onDram_sound
    | with_reducible apply ite_sound | with_reducible apply ite_fst_sound | with_reducible rfl | rfl | split

theorem State.readNow_sound {o : State} {s : State} {c : Nat} {l : Nat} {r : ChanReq} (hS : s.Sound ⟨false, k1, k2,
    k3, false, k5, false, false, false, false, k10, false, k12, k13, k14, false, false, k17⟩ o) : (State.readNow s c l
    r).Sound ⟨false, k1, k2, k3, false, k5, false, false, false, false, k10, false, k12, k13, k14, false, false, k17⟩
    o := by
  unfold State.readNow; try dsimp only
  repeat' first
    | with_reducible assumption | with_reducible intro _
    | with_reducible refine State.readLine_sound' (by assumption) ?_ | with_reducible apply State.readLine_sound
    | with_reducible apply State.record_sound | with_reducible apply State.served_sound
    | with_reducible apply State.memUe_sound | with_reducible apply State.giveLine_sound
    | with_reducible apply ite_sound | with_reducible apply ite_fst_sound | split

theorem State.writeNow_sound {o : State} {s : State} {r : ChanReq} (hS : s.Sound ⟨false, k1, k2, k3, false, k5, false,
    false, false, false, k10, false, k12, k13, k14, false, false, k17⟩ o) : (State.writeNow s r).Sound ⟨false, k1, k2,
    k3, false, k5, false, false, false, false, k10, false, k12, k13, k14, false, false, k17⟩ o := by
  unfold State.writeNow; try dsimp only
  repeat' first
    | with_reducible assumption | with_reducible intro _ | with_reducible apply State.writePoison_sound
    | with_reducible apply State.served_sound | with_reducible refine State.writeData_sound' (by assumption) ?_
    | with_reducible apply State.writeData_sound | with_reducible apply State.incF_sound
    | with_reducible apply State.record_sound | with_reducible apply ite_sound | with_reducible apply ite_fst_sound
    | split

theorem State.accessOp_sound {o : State} {s : State} {c : Nat} {wr : Bool} (hS : s.Sound ⟨false, k1, k2, k3, false,
    k5, false, false, false, false, k10, false, k12, k13, k14, false, false, k17⟩ o) : (State.accessOp s c wr).Sound
    ⟨false, k1, k2, k3, false, k5, false, false, false, false, k10, false, k12, k13, k14, false, false, k17⟩ o := by
  unfold State.accessOp; try dsimp only
  repeat' first
    | with_reducible assumption | with_reducible intro _ | with_reducible apply State.unqueue_sound
    | with_reducible apply State.served_sound | with_reducible apply State.lockPage_sound
    | with_reducible apply State.writeNow_sound | with_reducible apply State.readNow_sound
    | with_reducible apply ite_sound | with_reducible apply ite_fst_sound | split

theorem State.dramReadOp_sound {o : State} {s : State} {c : Nat} (hS : s.Sound ⟨false, k1, k2, k3, false, k5, false,
    false, false, false, k10, false, k12, k13, k14, false, false, k17⟩ o) : (State.dramReadOp s c).Sound ⟨false, k1,
    k2, k3, false, k5, false, false, false, false, k10, false, k12, k13, k14, false, false, k17⟩ o := by
  unfold State.dramReadOp; try dsimp only
  with_reducible repeat' first
    | assumption | intro _ | apply State.accessOp_sound | apply ite_sound | apply ite_fst_sound

theorem State.dramWriteOp_sound {o : State} {s : State} {c : Nat} (hS : s.Sound ⟨false, k1, k2, k3, false, k5, false,
    false, false, false, k10, false, k12, k13, k14, false, false, k17⟩ o) : (State.dramWriteOp s c).Sound ⟨false, k1,
    k2, k3, false, k5, false, false, false, false, k10, false, k12, k13, k14, false, false, k17⟩ o := by
  unfold State.dramWriteOp; try dsimp only
  with_reducible repeat' first
    | assumption | intro _ | apply State.accessOp_sound | apply ite_sound | apply ite_fst_sound

theorem State.rebuiltRead_sound {o : State} {s : State} {c : Nat} {l : Nat} {r : ChanReq} (hS : s.Sound ⟨false, k1,
    k2, k3, false, k5, false, false, false, false, k10, false, k12, k13, k14, false, false, k17⟩ o) :
    (State.rebuiltRead s c l r).Sound ⟨false, k1, k2, k3, false, k5, false, false, false, false, k10, false, k12, k13,
    k14, false, false, k17⟩ o := by
  unfold State.rebuiltRead; try dsimp only
  repeat' first
    | with_reducible assumption | with_reducible intro _
    | with_reducible refine State.rebuildPage_sound' (by assumption) ?_ | with_reducible apply State.rebuildPage_sound
    | with_reducible apply State.record_sound | with_reducible apply State.giveLine_sound
    | with_reducible apply State.memUe_sound | with_reducible apply State.served_sound
    | with_reducible apply ite_sound | with_reducible apply ite_fst_sound | split

theorem State.rebuiltScrub_sound {o : State} {s : State} {c : Nat} {l : Nat} (hS : s.Sound ⟨false, k1, k2, k3, k4, k5,
    k6, k7, false, false, k10, k11, k12, k13, k14, false, false, k17⟩ o) : (State.rebuiltScrub s c l).Sound ⟨false,
    k1, k2, k3, k4, k5, k6, k7, false, false, k10, k11, k12, k13, k14, false, false, k17⟩ o := by
  unfold State.rebuiltScrub; try dsimp only
  repeat' first
    | with_reducible assumption | with_reducible intro _
    | with_reducible refine State.rebuildPage_sound' (by assumption) ?_ | with_reducible apply State.rebuildPage_sound
    | with_reducible apply State.record_sound | with_reducible apply State.memUe_sound
    | with_reducible apply ite_sound | with_reducible apply ite_fst_sound | split

theorem State.lockDone_sound {o : State} {s : State} {k : PageLock} (hS : s.Sound ⟨k0, k1, k2, k3, k4, k5, k6, k7,
    false, k9, k10, k11, k12, k13, k14, k15, k16, k17⟩ o) : (State.lockDone s k).Sound ⟨k0, k1, k2, k3, k4, k5, k6,
    k7, false, k9, k10, k11, k12, k13, k14, k15, k16, k17⟩ o := by
  unfold State.lockDone; try dsimp only
  repeat' first
    | with_reducible assumption | with_reducible intro _ | with_reducible apply State.onDram_sound
    | with_reducible apply ite_sound | with_reducible apply ite_fst_sound | with_reducible rfl | rfl | split

theorem State.rebuildOp_sound {o : State} {s : State} {c : Nat} (hS : s.Sound ⟨false, k1, k2, k3, false, k5, false,
    false, false, false, k10, false, k12, k13, k14, false, false, k17⟩ o) : (State.rebuildOp s c).Sound ⟨false, k1,
    k2, k3, false, k5, false, false, false, false, k10, false, k12, k13, k14, false, false, k17⟩ o := by
  unfold State.rebuildOp; try dsimp only
  repeat' first
    | with_reducible assumption | with_reducible intro _ | with_reducible apply State.lockDone_sound
    | with_reducible apply State.rebuiltScrub_sound | with_reducible apply State.writeNow_sound
    | with_reducible apply State.rebuiltRead_sound | with_reducible apply ite_sound
    | with_reducible apply ite_fst_sound | split

theorem State.resyncSlot_sound {o : State} {s : State} {c : Nat} {l : Nat} (hS : s.Sound ⟨false, k1, k2, k3, k4, k5,
    k6, k7, false, false, k10, k11, k12, k13, k14, false, false, k17⟩ o) : (State.resyncSlot s c l).Sound ⟨false, k1,
    k2, k3, k4, k5, k6, k7, false, false, k10, k11, k12, k13, k14, false, false, k17⟩ o := by
  unfold State.resyncSlot; try dsimp only
  repeat' first
    | with_reducible assumption | with_reducible intro _ | with_reducible apply State.resyncPage_sound
    | with_reducible apply ite_sound | with_reducible apply ite_fst_sound | split

theorem State.resyncWaiting_sound {o : State} {s : State} (hS : s.Sound ⟨false, k1, k2, k3, k4, k5, k6, k7, false,
    false, k10, k11, k12, k13, k14, false, false, k17⟩ o) : (State.resyncWaiting s).Sound ⟨false, k1, k2, k3, k4, k5,
    k6, k7, false, false, k10, k11, k12, k13, k14, false, false, k17⟩ o := by
  unfold State.resyncWaiting; try dsimp only
  repeat' first
    | with_reducible assumption | with_reducible intro _ | with_reducible apply State.onDram_sound
    | with_reducible apply State.resyncSlot_sound | with_reducible apply ite_sound
    | with_reducible apply ite_fst_sound | with_reducible apply each_sound | with_reducible apply each_fst_sound
    | with_reducible refine each_fst_sound' (by assumption) ?_ ?_ | with_reducible rfl | rfl | split

theorem State.unlockOp_sound {o : State} {s : State} {c : Nat} {page : Nat} (hS : s.Sound ⟨false, k1, k2, k3, k4, k5,
    k6, k7, false, false, k10, k11, k12, k13, k14, false, false, k17⟩ o) : (State.unlockOp s c page).Sound ⟨false, k1,
    k2, k3, k4, k5, k6, k7, false, false, k10, k11, k12, k13, k14, false, false, k17⟩ o := by
  unfold State.unlockOp; try dsimp only
  repeat' first
    | with_reducible assumption | with_reducible intro _ | with_reducible apply State.onDram_sound
    | with_reducible apply State.resyncWaiting_sound | with_reducible apply ite_sound
    | with_reducible apply ite_fst_sound | with_reducible rfl | rfl | split

theorem State.parityErrorOp_sound {o : State} {s : State} {h : Nat} {set : Nat} {way : Nat} {correctable : Bool} (hS :
    s.Sound ⟨false, k1, k2, k3, k4, k5, k6, k7, false, false, k10, k11, k12, k13, k14, false, false, k17⟩ o) :
    (State.parityErrorOp s h set way correctable).Sound ⟨false, k1, k2, k3, k4, k5, k6, k7, false, false, k10, k11,
    k12, k13, k14, false, false, k17⟩ o := by
  unfold State.parityErrorOp; try dsimp only
  repeat' first
    | with_reducible assumption | with_reducible intro _ | with_reducible apply State.onDram_sound
    | with_reducible apply State.resyncSlot_sound | with_reducible apply ite_sound
    | with_reducible apply ite_fst_sound | with_reducible rfl | rfl | split

theorem State.restripeNext_sound {o : State} {s : State} (hS : s.Sound ⟨false, k1, k2, k3, k4, k5, k6, k7, false, k9,
    k10, k11, k12, k13, k14, k15, k16, k17⟩ o) : (State.restripeNext s).Sound ⟨false, k1, k2, k3, k4, k5, k6, k7,
    false, k9, k10, k11, k12, k13, k14, k15, k16, k17⟩ o := by
  unfold State.restripeNext; try dsimp only
  repeat' first
    | with_reducible assumption | with_reducible intro _ | with_reducible apply State.onDram_sound
    | with_reducible apply State.setF_sound | with_reducible apply ite_sound | with_reducible rfl | rfl | split

theorem State.restripeEnd_sound {o : State} {s : State} {r : ℕ} (hS : s.Sound ⟨false, k1, k2, k3, k4, k5, k6, k7,
    false, k9, k10, k11, k12, k13, k14, k15, k16, k17⟩ o) : (State.restripeEnd s r).Sound ⟨false, k1, k2, k3, k4, k5,
    k6, k7, false, k9, k10, k11, k12, k13, k14, k15, k16, k17⟩ o := by
  unfold State.restripeEnd; try dsimp only
  with_reducible repeat' first | assumption | intro _ | apply State.setF_sound | apply State.restripeNext_sound

theorem State.writeRows_sound {o : State} {s : State} {off : Nat} {m : Nat} {n : Nat} (hS : s.Sound ⟨false, k1, k2,
    k3, k4, k5, k6, k7, false, false, k10, k11, k12, k13, k14, k15, k16, k17⟩ o) : (State.writeRows s off m n).Sound
    ⟨false, k1, k2, k3, k4, k5, k6, k7, false, false, k10, k11, k12, k13, k14, k15, k16, k17⟩ o := by
  unfold State.writeRows; try dsimp only
  repeat' first
    | with_reducible assumption | with_reducible intro _ | with_reducible apply State.pcPut_sound
    | with_reducible apply State.setStored_sound | with_reducible apply ite_sound | with_reducible apply ite_fst_sound
    | with_reducible apply each_sound | with_reducible apply each_fst_sound
    | with_reducible refine each_fst_sound' (by assumption) ?_ ?_ | split

theorem State.restripeAt_sound {o : State} {s : State} {r : Nat} {line : Nat} (hS : s.Sound ⟨false, k1, k2, k3, k4,
    k5, k6, k7, false, false, k10, k11, k12, k13, k14, false, false, k17⟩ o) : (State.restripeAt s r line).Sound
    ⟨false, k1, k2, k3, k4, k5, k6, k7, false, false, k10, k11, k12, k13, k14, false, false, k17⟩ o := by
  unfold State.restripeAt; try dsimp only
  repeat' first
    | with_reducible assumption | with_reducible intro _
    | with_reducible refine State.rebuildPage_sound' (by assumption) ?_ | with_reducible apply State.rebuildPage_sound
    | with_reducible apply State.record_sound | with_reducible apply State.writeRows_sound
    | with_reducible apply State.resyncPage_sound | with_reducible apply ite_sound
    | with_reducible apply ite_fst_sound | split

theorem State.restripeOp_sound {o : State} {s : State} (hS : s.Sound ⟨false, k1, k2, k3, k4, k5, k6, k7, false,
    false, k10, k11, k12, k13, k14, false, false, k17⟩ o) : (State.restripeOp s).Sound ⟨false, k1, k2, k3, k4, k5, k6,
    k7, false, false, k10, k11, k12, k13, k14, false, false, k17⟩ o := by
  unfold State.restripeOp; try dsimp only
  with_reducible repeat' first
    | assumption | intro _ | apply State.restripeEnd_sound | apply State.setF_sound | apply State.restripeAt_sound
    | apply ite_sound

theorem State.powerDownOp_sound {o : State} {s : State} {c : ℕ} {rank : ℕ} (hS : s.Sound ⟨false, k1, k2, k3, k4, k5,
    k6, k7, k8, k9, k10, k11, k12, k13, k14, k15, false, k17⟩ o) : (State.powerDownOp s c rank).Sound ⟨false, k1, k2,
    k3, k4, k5, k6, k7, k8, k9, k10, k11, k12, k13, k14, k15, false, k17⟩ o := by
  unfold State.powerDownOp; try dsimp only
  with_reducible repeat' first
    | assumption | intro _ | apply State.send_sound | apply State.incF_sound | apply State.setF_sound
    | apply ite_sound

theorem State.refreshRank_sound {o : State} {s : State} {c : Nat} {rank : Nat} (hS : s.Sound ⟨k0, k1, k2, k3, k4, k5,
    k6, k7, k8, k9, k10, k11, k12, k13, k14, k15, false, k17⟩ o) : (State.refreshRank s c rank).Sound ⟨k0, k1, k2, k3,
    k4, k5, k6, k7, k8, k9, k10, k11, k12, k13, k14, k15, false, k17⟩ o := by
  unfold State.refreshRank; try dsimp only
  with_reducible repeat' first | assumption | intro _ | apply State.send_sound | apply ite_sound | apply ite_fst_sound

theorem State.calRank_sound {o : State} {s : State} {c : Nat} {rank : Nat} (hS : s.Sound ⟨k0, k1, k2, k3, k4, k5, k6,
    k7, false, k9, k10, k11, k12, k13, k14, k15, false, k17⟩ o) : (State.calRank s c rank).Sound ⟨k0, k1, k2, k3, k4,
    k5, k6, k7, false, k9, k10, k11, k12, k13, k14, k15, false, k17⟩ o := by
  unfold State.calRank; try dsimp only
  repeat' first
    | with_reducible assumption | with_reducible intro _ | with_reducible apply State.onDram_sound
    | with_reducible apply State.send_sound | with_reducible apply ite_sound | with_reducible apply ite_fst_sound
    | with_reducible rfl | rfl | split

theorem State.scrubLine_sound {o : State} {s : State} {c : Nat} {l : Nat} (hS : s.Sound ⟨false, k1, k2, k3, k4, k5,
    k6, k7, false, false, k10, k11, k12, k13, k14, false, false, k17⟩ o) : (State.scrubLine s c l).Sound ⟨false, k1,
    k2, k3, k4, k5, k6, k7, false, false, k10, k11, k12, k13, k14, false, false, k17⟩ o := by
  unfold State.scrubLine; try dsimp only
  repeat' first
    | with_reducible assumption | with_reducible intro _
    | with_reducible refine State.readLine_sound' (by assumption) ?_ | with_reducible apply State.readLine_sound
    | with_reducible apply State.memUe_sound | with_reducible apply State.lockPage_sound
    | with_reducible apply ite_sound | with_reducible apply ite_fst_sound | split

theorem State.scrubLap_sound {o : State} {s : State} {c : ℕ} (hS : s.Sound ⟨false, k1, k2, k3, k4, k5, k6, k7, false,
    k9, k10, k11, k12, k13, k14, k15, k16, k17⟩ o) : (State.scrubLap s c).Sound ⟨false, k1, k2, k3, k4, k5, k6, k7,
    false, k9, k10, k11, k12, k13, k14, k15, k16, k17⟩ o := by
  unfold State.scrubLap; try dsimp only
  repeat' first
    | with_reducible assumption | with_reducible intro _ | with_reducible apply State.setF_sound
    | with_reducible apply State.wrapF_sound | with_reducible apply State.onDram_sound
    | with_reducible apply ite_sound | with_reducible rfl | rfl

theorem State.scrubOp_sound {o : State} {s : State} {c : Nat} (hS : s.Sound ⟨false, k1, k2, k3, k4, k5, k6, k7, false,
    false, k10, k11, k12, k13, k14, false, false, k17⟩ o) : (State.scrubOp s c).Sound ⟨false, k1, k2, k3, k4, k5, k6,
    k7, false, false, k10, k11, k12, k13, k14, false, false, k17⟩ o := by
  unfold State.scrubOp; try dsimp only
  repeat' first
    | with_reducible assumption | with_reducible intro _ | with_reducible apply State.onDram_sound
    | with_reducible apply State.scrubLine_sound | with_reducible apply State.scrubLap_sound
    | with_reducible apply State.setF_sound | with_reducible apply ite_sound | with_reducible apply ite_fst_sound
    | with_reducible rfl | rfl | split

theorem State.tokenRefill_sound {o : State} {s : State} {c : Nat} (hS : s.Sound ⟨false, k1, k2, k3, k4, k5, k6, k7,
    false, k9, k10, k11, k12, k13, k14, k15, k16, k17⟩ o) : (State.tokenRefill s c).Sound ⟨false, k1, k2, k3, k4, k5,
    k6, k7, false, k9, k10, k11, k12, k13, k14, k15, k16, k17⟩ o := by
  unfold State.tokenRefill; try dsimp only
  repeat' first
    | with_reducible assumption | with_reducible intro _ | with_reducible apply State.setF_sound
    | with_reducible apply State.onDram_sound | with_reducible apply ite_sound | with_reducible apply ite_fst_sound
    | with_reducible apply each_sound | with_reducible apply each_fst_sound
    | with_reducible refine each_fst_sound' (by assumption) ?_ ?_ | with_reducible rfl | rfl | split

theorem State.scrubGrant_sound {o : State} {s : State} {c : ℕ} (hS : s.Sound ⟨k0, k1, k2, k3, k4, k5, k6, k7, false,
    k9, k10, k11, k12, k13, k14, k15, k16, k17⟩ o) : (State.scrubGrant s c).Sound ⟨k0, k1, k2, k3, k4, k5, k6, k7,
    false, k9, k10, k11, k12, k13, k14, k15, k16, k17⟩ o := by
  unfold State.scrubGrant; try dsimp only
  repeat' first
    | with_reducible assumption | with_reducible intro _ | with_reducible apply State.onDram_sound
    | with_reducible apply ite_sound | with_reducible rfl | rfl

theorem State.passRead_sound {o : State} {s : State} {c : Nat} (hS : s.Sound ⟨k0, k1, k2, k3, k4, k5, k6, k7, false,
    k9, k10, k11, k12, k13, k14, k15, k16, k17⟩ o) : (State.passRead s c).Sound ⟨k0, k1, k2, k3, k4, k5, k6, k7,
    false, k9, k10, k11, k12, k13, k14, k15, k16, k17⟩ o := by
  unfold State.passRead; try dsimp only
  repeat' first
    | with_reducible assumption | with_reducible intro _ | with_reducible apply State.onDram_sound
    | with_reducible apply ite_sound | with_reducible apply ite_fst_sound | with_reducible rfl | rfl | split

theorem State.passReq_sound {o : State} {s : State} {c : Nat} {p : Nat} (hS : s.Sound ⟨k0, k1, k2, k3, k4, k5, k6, k7,
    false, k9, k10, k11, k12, k13, k14, k15, k16, k17⟩ o) : (State.passReq s c p).Sound ⟨k0, k1, k2, k3, k4, k5, k6,
    k7, false, k9, k10, k11, k12, k13, k14, k15, k16, k17⟩ o := by
  unfold State.passReq; try dsimp only
  repeat' first
    | with_reducible assumption | with_reducible intro _ | with_reducible apply State.onDram_sound
    | with_reducible apply ite_sound | with_reducible apply ite_fst_sound | with_reducible rfl | rfl | split

theorem State.chanFail_sound {o : State} {s : State} {c : Nat} (hS : s.Sound ⟨false, k1, k2, k3, false, k5, false,
    false, false, false, k10, false, k12, k13, k14, false, false, k17⟩ o) : (State.chanFail s c).Sound ⟨false, k1, k2,
    k3, false, k5, false, false, false, false, k10, false, k12, k13, k14, false, false, k17⟩ o := by
  unfold State.chanFail; try dsimp only
  repeat' first
    | with_reducible assumption | with_reducible intro _ | with_reducible apply State.setChState_sound
    | with_reducible apply State.onDram_sound | with_reducible apply State.served_sound
    | with_reducible apply State.raiseGong_sound | with_reducible apply ite_sound | with_reducible apply ite_fst_sound
    | with_reducible apply each_sound | with_reducible apply each_fst_sound
    | with_reducible refine each_fst_sound' (by assumption) ?_ ?_ | with_reducible rfl | rfl | split

theorem State.caParityOp_sound {o : State} {s : State} {c : Nat} (hS : s.Sound ⟨false, k1, k2, k3, false, k5, false,
    false, false, false, k10, false, k12, k13, k14, false, false, k17⟩ o) : (State.caParityOp s c).Sound ⟨false, k1,
    k2, k3, false, k5, false, false, false, false, k10, false, k12, k13, k14, false, false, k17⟩ o := by
  unfold State.caParityOp; try dsimp only
  repeat' first
    | with_reducible assumption | with_reducible intro _ | with_reducible apply State.incF_sound
    | with_reducible apply State.onDram_sound | with_reducible apply State.chanFail_sound
    | with_reducible apply ite_sound | with_reducible apply ite_fst_sound | with_reducible rfl | rfl | split

theorem State.cmdDone_sound {o : State} {s : State} {c : ℕ} (hS : s.Sound ⟨k0, k1, k2, k3, k4, k5, k6, k7, false, k9,
    k10, k11, k12, k13, k14, k15, k16, k17⟩ o) : (State.cmdDone s c).Sound ⟨k0, k1, k2, k3, k4, k5, k6, k7, false, k9,
    k10, k11, k12, k13, k14, k15, k16, k17⟩ o := by
  unfold State.cmdDone; try dsimp only
  repeat' first
    | with_reducible assumption | with_reducible intro _ | with_reducible apply State.onDram_sound
    | with_reducible apply ite_sound | with_reducible rfl | rfl

theorem State.flushParity_sound {o : State} {s : State} {h : Nat} (hS : s.Sound ⟨false, k1, k2, k3, k4, k5, k6, k7,
    false, false, k10, k11, k12, k13, k14, k15, k16, k17⟩ o) : (State.flushParity s h).Sound ⟨false, k1, k2, k3, k4,
    k5, k6, k7, false, false, k10, k11, k12, k13, k14, k15, k16, k17⟩ o := by
  unfold State.flushParity; try dsimp only
  repeat' first
    | with_reducible assumption | with_reducible intro _ | with_reducible apply State.pcFlush_sound
    | with_reducible apply ite_sound | with_reducible apply ite_fst_sound | with_reducible apply each_sound
    | with_reducible apply each_fst_sound | with_reducible refine each_fst_sound' (by assumption) ?_ ?_ | split

theorem State.patStep_sound {o s : State} {c l pat seed k : Nat} (hS : s.Sound ⟨false, k1, k2, k3, k4, k5, k6, k7, false, false, k10, k11, k12, k13, k14, k15, k16, false⟩ o) :
    (State.patStep s c l pat seed k).Sound ⟨false, k1, k2, k3, k4, k5, k6, k7, false, false, k10, k11, k12, k13, k14, k15, k16, false⟩ o :=
  each_sound (fun _ _ h => State.tick_sound h) (ite_sound (State.setStored_sound hS) hS)

theorem State.writePattern_sound {o s : State} {c l pat seed k m : Nat} (hS : s.Sound ⟨false, k1, k2, k3, k4, k5, k6, k7, false, false, k10, k11, k12, k13, k14, k15, k16, false⟩ o) :
    (State.writePattern s c l pat seed k m).Sound ⟨false, k1, k2, k3, k4, k5, k6, k7, false, false, k10, k11, k12, k13, k14, k15, k16, false⟩ o := by
  induction m generalizing s l k with
  | zero => exact hS
  | succ m ih => exact ih (State.patStep_sound hS)

theorem State.trnGo_sound {o : State} {s : State} {c : ℕ} (hS : s.Sound ⟨false, k1, k2, k3, k4, k5, k6, k7, false,
    false, k10, k11, k12, k13, k14, k15, k16, false⟩ o) : (State.trnGo s c).Sound ⟨false, k1, k2, k3, k4, k5, k6, k7,
    false, false, k10, k11, k12, k13, k14, k15, k16, false⟩ o := by
  unfold State.trnGo; try dsimp only
  with_reducible repeat' first
    | assumption | intro _ | apply State.setF_sound | apply State.writePattern_sound | apply ite_sound

theorem State.trnCtlWrite_sound {o : State} {s : State} {w : Who} {c : ℕ} {v : Word} (hS : s.Sound ⟨false, k1, k2,
    k3, k4, k5, k6, k7, false, false, k10, k11, k12, k13, false, false, false, false⟩ o) : (State.trnCtlWrite s w c
    v).Sound ⟨false, k1, k2, k3, k4, k5, k6, k7, false, false, k10, k11, k12, k13, false, false, false, false⟩ o := by
  unfold State.trnCtlWrite; try dsimp only
  with_reducible repeat' first
    | assumption | intro _ | apply State.csGuard_sound | apply State.plainWrite_sound | apply State.whoReply_sound
    | apply State.trnGo_sound | apply ite_sound

theorem State.trnDoneOp_sound {o : State} {s : State} {c : ℕ} {bad : ℕ} {lanes : ℕ} {strobe : ℕ} (hS : s.Sound
    ⟨false, k1, k2, k3, k4, k5, k6, k7, k8, k9, k10, k11, k12, k13, k14, k15, k16, k17⟩ o) : (State.trnDoneOp s c bad
    lanes strobe).Sound ⟨false, k1, k2, k3, k4, k5, k6, k7, k8, k9, k10, k11, k12, k13, k14, k15, k16, k17⟩ o := by
  unfold State.trnDoneOp; try dsimp only
  with_reducible repeat' first | assumption | intro _ | apply State.setF_sound | apply ite_sound

end Sys2Proof.Machine
end

