-- ==== Sys2Proof/Laws/KeepBootOps.lean ====
section
/-! SUPPORT. The operations of Machine/BootOps.lean keep State.Sound. -/

namespace Sys2Proof.Machine

variable {k0 k1 k2 k3 k4 k5 k6 k7 k8 k9 k10 k11 k12 k13 k14 k15 k16 k17 : Bool}

theorem State.setStat_sound {o : State} {s : State} {fl : Fld} {v : ℕ} (hS : s.Sound ⟨k0, k1, false, k3, k4, k5, k6,
    k7, k8, k9, k10, k11, k12, k13, k14, k15, k16, k17⟩ o) : (State.setStat s fl v).Sound ⟨k0, k1, false, k3, k4, k5,
    k6, k7, k8, k9, k10, k11, k12, k13, k14, k15, k16, k17⟩ o := by
  unfold State.setStat; try dsimp only
  repeat' first
    | with_reducible assumption | with_reducible intro _ | with_reducible apply State.onBoot_sound
    | with_reducible rfl | rfl

theorem State.diesOff_sound {o : State} {s : State} (hS : s.Sound ⟨false, k1, k2, k3, k4, k5, k6, k7, k8, k9, k10,
    k11, k12, k13, k14, k15, k16, k17⟩ o) : (State.diesOff s).Sound ⟨false, k1, k2, k3, k4, k5, k6, k7, k8, k9, k10,
    k11, k12, k13, k14, k15, k16, k17⟩ o := by
  unfold State.diesOff; try dsimp only
  with_reducible repeat' first
    | assumption | intro _ | apply State.setF_sound | apply State.setCoreState_sound | apply ite_sound
    | apply each_sound

theorem State.lock_sound {o : State} {s : State} {cause : Nat} (hS : s.Sound ⟨false, k1, false, k3, k4, k5, k6, k7,
    k8, k9, k10, k11, k12, false, k14, k15, k16, k17⟩ o) : (State.lock s cause).Sound ⟨false, k1, false, k3, k4, k5,
    k6, k7, k8, k9, k10, k11, k12, false, k14, k15, k16, k17⟩ o := by
  unfold State.lock; try dsimp only
  repeat' first
    | with_reducible assumption | with_reducible intro _ | with_reducible apply State.setStat_sound
    | with_reducible apply State.onBoot_sound | with_reducible apply State.setLink_sound
    | with_reducible apply State.setF_sound | with_reducible apply State.setReg_sound
    | with_reducible apply State.updSeg_sound | with_reducible apply State.diesOff_sound
    | with_reducible apply ite_sound | with_reducible apply ite_fst_sound | with_reducible apply each_sound
    | with_reducible apply each_fst_sound | with_reducible refine each_fst_sound' (by assumption) ?_ ?_
    | with_reducible rfl | rfl | split

theorem State.deassert_follows {o s : State} {strap : Nat} (hS : s.Follows o) : (State.deassert s strap).Follows o := by
  unfold State.deassert
  split
  · exact hS
  · exact ⟨hS.queue, hS.free, hS.fused, hS.mem, regsWf_setReg hS.regs _ _⟩

theorem State.newNonce_sound {o : State} {s : State} (hS : s.Sound ⟨false, k1, k2, k3, k4, k5, k6, k7, k8, k9, k10,
    k11, k12, k13, k14, k15, k16, false⟩ o) : (State.newNonce s).Sound ⟨false, k1, k2, k3, k4, k5, k6, k7, k8, k9,
    k10, k11, k12, k13, k14, k15, k16, false⟩ o := by
  unfold State.newNonce; try dsimp only
  with_reducible repeat' first | assumption | intro _ | apply State.tick_sound | apply State.setReg_sound

theorem State.islandFault_sound {o : State} {s : State} (hS : s.Sound ⟨false, k1, false, k3, k4, k5, k6, k7, k8, k9,
    k10, k11, k12, false, k14, false, false, k17⟩ o) : (State.islandFault s).Sound ⟨false, k1, false, k3, k4, k5, k6,
    k7, k8, k9, k10, k11, k12, false, k14, false, false, k17⟩ o := by
  unfold State.islandFault; try dsimp only
  with_reducible repeat' first
    | assumption | intro _ | apply State.record_sound | apply State.lock_sound | apply ite_sound | apply ite_fst_sound

theorem State.islands_sound {o : State} {s : State} {ok : Bool} (hS : s.Sound ⟨false, k1, false, k3, k4, k5, k6, k7,
    k8, k9, k10, k11, k12, false, k14, false, false, false⟩ o) : (State.islands s ok).Sound ⟨false, k1, false, k3, k4,
    k5, k6, k7, k8, k9, k10, k11, k12, false, k14, false, false, false⟩ o := by
  unfold State.islands; try dsimp only
  repeat' first
    | with_reducible assumption | with_reducible intro _ | with_reducible apply State.islandFault_sound
    | with_reducible apply State.newNonce_sound | with_reducible apply State.setPhase_sound
    | with_reducible apply State.onBoot_sound | with_reducible apply ite_sound | with_reducible apply ite_fst_sound
    | with_reducible rfl | rfl | split

theorem State.flashDone_sound {o : State} {s : State} {h : ℕ} {bytes : Option (List Byte)} {flashSize : ℕ} (hS :
    s.Sound ⟨k0, k1, false, k3, k4, k5, k6, k7, k8, k9, k10, k11, k12, k13, k14, k15, k16, k17⟩ o) : (State.flashDone
    s h bytes flashSize).Sound ⟨k0, k1, false, k3, k4, k5, k6, k7, k8, k9, k10, k11, k12, k13, k14, k15, k16, k17⟩ o
    := by
  unfold State.flashDone; try dsimp only
  repeat' first
    | with_reducible assumption | with_reducible intro _ | with_reducible apply State.onBoot_sound
    | with_reducible apply State.setPhase_sound | with_reducible apply ite_sound | with_reducible rfl | rfl

theorem State.select_sound {o : State} {s : State} {h : ℕ} {i : Image} (hS : s.Sound ⟨k0, k1, false, k3, k4, k5, k6,
    k7, k8, k9, k10, k11, k12, k13, k14, k15, k16, k17⟩ o) : (State.select s h i).Sound ⟨k0, k1, false, k3, k4, k5,
    k6, k7, k8, k9, k10, k11, k12, k13, k14, k15, k16, k17⟩ o := by
  unfold State.select; try dsimp only
  repeat' first
    | with_reducible assumption | with_reducible intro _ | with_reducible apply State.setStat_sound
    | with_reducible apply State.onBoot_sound | with_reducible rfl | rfl

theorem State.choose_sound {o : State} {s : State} {va : Nat × Image} {vb : Nat × Image} (hS : s.Sound ⟨false, k1,
    false, k3, k4, k5, k6, k7, k8, k9, k10, k11, k12, false, k14, false, false, k17⟩ o) : (State.choose s va vb).Sound
    ⟨false, k1, false, k3, k4, k5, k6, k7, k8, k9, k10, k11, k12, false, k14, false, false, k17⟩ o := by
  unfold State.choose; try dsimp only
  repeat' first
    | with_reducible assumption | with_reducible intro _ | with_reducible apply State.record_sound
    | with_reducible apply State.select_sound | with_reducible apply State.lock_sound | with_reducible apply ite_sound
    | with_reducible apply ite_fst_sound | split

theorem State.verifyDone_sound {o : State} {s : State} {flipA : Bool} {flipB : Bool} (hS : s.Sound ⟨false, false, false, k3, k4, k5, k6, k7, k8, k9, k10, false, k12, false, k14, false, false, k17⟩ o) : (State.verifyDone s flipA
    flipB).Sound ⟨false, false, false, k3, k4, k5, k6, k7, k8, k9, k10, false, k12, false, k14, false, false, k17⟩ o :=
    by
  unfold State.verifyDone; try dsimp only
  with_reducible repeat' first
    | assumption | intro _ | apply State.disagree_sound | apply State.agreed_sound | apply State.setStat_sound
    | apply State.choose_sound | apply ite_sound

theorem State.draw512_sound {o s : State} (h : s.Sound ⟨k0, k1, k2, k3, k4, k5, k6, k7, k8, k9, k10, k11, k12, k13, k14, k15, k16, false⟩ o) : s.draw512.2.Sound ⟨k0, k1, k2, k3, k4, k5, k6, k7, k8, k9, k10, k11, k12, k13, k14, k15, k16, false⟩ o := by
  unfold State.draw512 each
  generalize (0 : BitVec 512) = x
  induction List.range 8 generalizing s x with
  | nil => exact h
  | cons a r ih => exact ih (State.tick_sound h) _

theorem State.draw512_sound' {o s t : State} {k : BitVec 512} (e : s.draw512 = (k, t))
    (h : s.Sound ⟨k0, k1, k2, k3, k4, k5, k6, k7, k8, k9, k10, k11, k12, k13, k14, k15, k16, false⟩ o) : t.Sound ⟨k0, k1, k2, k3, k4, k5, k6, k7, k8, k9, k10, k11, k12, k13, k14, k15, k16, false⟩ o := by
  have := State.draw512_sound h
  rwa [e] at this

theorem State.newKey_sound {o s : State} {p : Nat} (hS : s.Sound ⟨false, false, k2, k3, k4, k5, k6, k7, false, k9, k10, false, k12, k13, k14, false, false, false⟩ o) : (State.newKey s p).Sound ⟨false, false, k2, k3, k4, k5, k6, k7, false, k9, k10, false, k12, k13, k14, false, false, false⟩ o := by
  unfold State.newKey
  split
  · exact State.disagree_sound hS
  · exact State.onDram_sound (State.draw512_sound (State.agreed_sound hS)) rfl

theorem State.setShares_sound {o : State} {s : State} {p : ℕ} {mem : ℕ} {inj : ℕ} (hS : s.Sound ⟨false, k1, k2, k3,
    k4, k5, k6, k7, k8, k9, k10, k11, k12, k13, k14, k15, k16, k17⟩ o) : (State.setShares s p mem inj).Sound ⟨false,
    k1, k2, k3, k4, k5, k6, k7, k8, k9, k10, k11, k12, k13, k14, k15, k16, k17⟩ o := by
  unfold State.setShares; try dsimp only
  with_reducible repeat' first
    | assumption | intro _ | apply State.setF_sound | apply ite_sound | apply each_sound

theorem State.setPartInfo_sound {o : State} {s : State} {p : ℕ} {flags : ℕ} {rings : ℕ} {mem : ℕ} {inj : ℕ} (hS :
    s.Sound ⟨false, k1, k2, k3, k4, k5, k6, k7, k8, k9, k10, k11, k12, k13, k14, k15, k16, k17⟩ o) :
   (State.setPartInfo s p flags rings mem inj).Sound ⟨false, k1, k2, k3, k4, k5, k6, k7, k8, k9, k10, k11, k12, k13,
    k14, k15, k16, k17⟩ o := by
  unfold State.setPartInfo; try dsimp only
  with_reducible repeat' first | assumption | intro _ | apply State.setF_sound | apply State.setShares_sound

theorem State.setFns_sound {o : State} {s : State} (hS : s.Sound ⟨false, k1, k2, k3, k4, k5, k6, k7, k8, k9, k10,
    k11, k12, k13, k14, k15, k16, k17⟩ o) : (State.setFns s).Sound ⟨false, k1, k2, k3, k4, k5, k6, k7, k8, k9, k10,
    k11, k12, k13, k14, k15, k16, k17⟩ o := by
  unfold State.setFns; try dsimp only
  with_reducible repeat' first
    | assumption | intro _ | apply State.setF_sound | apply ite_sound | apply each_sound

theorem State.ownCore_sound {o : State} {s : State} {c : ℕ} {p : ℕ} (hS : s.Sound ⟨false, k1, k2, k3, k4, k5, k6, k7,
    k8, k9, k10, k11, k12, k13, k14, k15, k16, k17⟩ o) : (State.ownCore s c p).Sound ⟨false, k1, k2, k3, k4, k5, k6,
    k7, k8, k9, k10, k11, k12, k13, k14, k15, k16, k17⟩ o := by
  unfold State.ownCore; try dsimp only
  with_reducible repeat' first | assumption | intro _ | apply State.setF_sound

theorem State.setRegion_sound {o : State} {s : State} {r : ℕ} {part : ℕ} {strength : ℕ} {prev : ℕ} {base : ℕ} {size :
    ℕ} (hS : s.Sound ⟨false, k1, k2, k3, k4, k5, k6, k7, k8, k9, k10, k11, k12, k13, k14, k15, k16, k17⟩ o) :
   (State.setRegion s r part strength prev base size).Sound ⟨false, k1, k2, k3, k4, k5, k6, k7, k8, k9, k10, k11,
    k12, k13, k14, k15, k16, k17⟩ o := by
  unfold State.setRegion; try dsimp only
  with_reducible repeat' first | assumption | intro _ | apply State.setReg_sound | apply ite_sound

theorem State.setOfficers_sound {o : State} {s : State} {os : List Officer} (hS : s.Sound ⟨false, k1, false, k3, k4,
    k5, k6, k7, k8, k9, k10, k11, k12, k13, k14, k15, k16, k17⟩ o) : (State.setOfficers s os).Sound ⟨false, k1, false,
    k3, k4, k5, k6, k7, k8, k9, k10, k11, k12, k13, k14, k15, k16, k17⟩ o := by
  unfold State.setOfficers; try dsimp only
  repeat' first
    | with_reducible assumption | with_reducible intro _ | with_reducible apply State.onBoot_sound
    | with_reducible apply State.setF_sound | with_reducible rfl | rfl

theorem State.gateClocks_sound {o : State} {s : State} {i : Image} (hS : s.Sound ⟨false, k1, k2, k3, k4, k5, k6, k7,
    k8, k9, k10, k11, k12, k13, k14, k15, k16, k17⟩ o) : (State.gateClocks s i).Sound ⟨false, k1, k2, k3, k4, k5, k6,
    k7, k8, k9, k10, k11, k12, k13, k14, k15, k16, k17⟩ o := by
  unfold State.gateClocks; try dsimp only
  with_reducible repeat' first
    | assumption | intro _ | apply State.clkOn_sound | apply ite_sound | apply each_sound

theorem State.applyMemory_sound {o : State} {s : State} {i : Image} (hS : s.Sound ⟨false, false, k2, k3, k4, k5, k6,
    k7, false, k9, k10, false, k12, k13, k14, false, false, false⟩ o) : (State.applyMemory s i).Sound ⟨false, false,
    k2, k3, k4, k5, k6, k7, false, k9, k10, false, k12, k13, k14, false, false, false⟩ o := by
  unfold State.applyMemory; try dsimp only
  repeat' first
    | with_reducible assumption | with_reducible intro _ | with_reducible apply State.setF_sound
    | with_reducible apply State.setChState_sound | with_reducible apply State.setRegion_sound
    | with_reducible apply State.newKey_sound | with_reducible apply ite_sound | with_reducible apply ite_fst_sound
    | with_reducible apply each_sound | with_reducible apply each_fst_sound
    | with_reducible refine each_fst_sound' (by assumption) ?_ ?_ | split

theorem State.applyKeys_sound {o : State} {s : State} {i : Image} (hS : s.Sound ⟨k0, k1, k2, k3, k4, k5, k6, k7, k8,
    k9, k10, k11, false, k13, k14, false, false, k17⟩ o) : (State.applyKeys s i).Sound ⟨k0, k1, k2, k3, k4, k5, k6,
    k7, k8, k9, k10, k11, false, k13, k14, false, false, k17⟩ o := by
  unfold State.applyKeys; try dsimp only
  repeat' first
    | with_reducible assumption | with_reducible intro _ | with_reducible apply State.setKey_sound
    | with_reducible apply State.record_sound | with_reducible apply ite_sound | with_reducible apply each_sound
    | with_reducible apply each_fst_sound | with_reducible refine each_fst_sound' (by assumption) ?_ ?_ | split

theorem State.applyPcie_sound {o : State} {s : State} {i : Image} (hS : s.Sound ⟨false, k1, k2, k3, k4, k5, k6, k7,
    k8, k9, k10, k11, k12, k13, k14, k15, k16, k17⟩ o) : (State.applyPcie s i).Sound ⟨false, k1, k2, k3, k4, k5, k6,
    k7, k8, k9, k10, k11, k12, k13, k14, k15, k16, k17⟩ o := by
  unfold State.applyPcie; try dsimp only
  with_reducible repeat' first
    | assumption | intro _ | apply State.setF_sound | apply State.setFns_sound | apply ite_sound | apply each_sound

theorem State.applyTopology_sound {o : State} {s : State} {i : Image} (hS : s.Sound ⟨false, k1, k2, k3, k4, k5, k6,
    k7, k8, k9, k10, k11, k12, k13, k14, k15, k16, k17⟩ o) : (State.applyTopology s i).Sound ⟨false, k1, k2, k3, k4,
    k5, k6, k7, k8, k9, k10, k11, k12, k13, k14, k15, k16, k17⟩ o := by
  unfold State.applyTopology; try dsimp only
  repeat' first
    | with_reducible assumption | with_reducible intro _ | with_reducible apply State.setF_sound
    | with_reducible apply State.setLink_sound | with_reducible apply State.setRoutes_sound
    | with_reducible apply ite_sound | with_reducible apply each_sound | with_reducible apply each_fst_sound
    | with_reducible refine each_fst_sound' (by assumption) ?_ ?_ | split

theorem State.startStage_sound {o : State} {s : State} {n : Nat} {mem : Bool} {tasks : List Nat} (hS : s.Sound ⟨k0,
    k1, false, k3, k4, k5, k6, k7, k8, k9, k10, k11, k12, k13, k14, k15, k16, k17⟩ o) : (State.startStage s n mem
    tasks).Sound ⟨k0, k1, false, k3, k4, k5, k6, k7, k8, k9, k10, k11, k12, k13, k14, k15, k16, k17⟩ o := by
  unfold State.startStage; try dsimp only
  repeat' first
    | with_reducible assumption | with_reducible intro _ | with_reducible apply State.beginTask_sound
    | with_reducible apply State.onBoot_sound | with_reducible apply ite_sound | with_reducible apply ite_fst_sound
    | with_reducible apply each_sound | with_reducible apply each_fst_sound
    | with_reducible refine each_fst_sound' (by assumption) ?_ ?_ | with_reducible rfl | rfl | split

theorem State.applyImage_sound {o : State} {s : State} {i : Image} (hS : s.Sound ⟨false, false, false, k3, k4, k5, k6,
    k7, false, k9, k10, false, false, k13, k14, false, false, false⟩ o) : (State.applyImage s i).Sound ⟨false, false,
    false, k3, k4, k5, k6, k7, false, k9, k10, false, false, k13, k14, false, false, false⟩ o := by
  unfold State.applyImage; try dsimp only
  repeat' first
    | with_reducible assumption | with_reducible intro _ | with_reducible apply State.onBoot_sound
    | with_reducible apply State.setF_sound | with_reducible apply State.setPartInfo_sound
    | with_reducible apply State.onSec_sound | with_reducible apply State.ownCore_sound
    | with_reducible apply State.applyMemory_sound | with_reducible apply State.applyPcie_sound
    | with_reducible apply State.applyTopology_sound | with_reducible apply State.setOfficers_sound
    | with_reducible apply State.setReg_sound | with_reducible apply State.applyKeys_sound
    | with_reducible apply State.gateClocks_sound | with_reducible apply State.onBeat_sound
    | with_reducible apply State.startStage_sound | with_reducible apply State.setPhase_sound
    | with_reducible apply ite_sound | with_reducible apply ite_fst_sound | with_reducible apply each_sound
    | with_reducible apply each_fst_sound | with_reducible refine each_fst_sound' (by assumption) ?_ ?_
    | with_reducible apply id_sound | with_reducible rfl | rfl | split

theorem State.taskRecord_sound {o : State} {s : State} {mem : Bool} {t : ℕ} {ret : Option Word} (hS : s.Sound ⟨k0,
    k1, k2, k3, k4, k5, k6, k7, k8, k9, k10, k11, k12, k13, k14, false, false, k17⟩ o) : (State.taskRecord s mem t
    ret).Sound ⟨k0, k1, k2, k3, k4, k5, k6, k7, k8, k9, k10, k11, k12, k13, k14, false, false, k17⟩ o := by
  unfold State.taskRecord; try dsimp only
  repeat' first
    | with_reducible assumption | with_reducible intro _ | with_reducible apply State.record_sound
    | with_reducible apply ite_sound | split

theorem State.setTiles_sound {o : State} {s : State} {good : List ℕ} (hS : s.Sound ⟨false, k1, k2, k3, k4, k5, k6,
    k7, k8, k9, k10, k11, k12, k13, k14, k15, k16, k17⟩ o) : (State.setTiles s good).Sound ⟨false, k1, k2, k3, k4, k5,
    k6, k7, k8, k9, k10, k11, k12, k13, k14, k15, k16, k17⟩ o := by
  unfold State.setTiles; try dsimp only
  with_reducible repeat' first
    | assumption | intro _ | apply State.setTile_sound | apply ite_sound | apply each_sound

theorem State.trainFails_sound {o : State} {s : State} (hS : s.Sound ⟨false, k1, false, k3, k4, k5, k6, k7, k8, k9,
    k10, k11, k12, k13, k14, false, false, k17⟩ o) : (State.trainFails s).Sound ⟨false, k1, false, k3, k4, k5, k6, k7,
    k8, k9, k10, k11, k12, k13, k14, false, false, k17⟩ o := by
  unfold State.trainFails; try dsimp only
  repeat' first
    | with_reducible assumption | with_reducible intro _ | with_reducible apply State.startFail_sound
    | with_reducible apply ite_sound | with_reducible apply ite_fst_sound | with_reducible apply each_sound
    | with_reducible apply each_fst_sound | with_reducible refine each_fst_sound' (by assumption) ?_ ?_
    | with_reducible apply id_sound | split

theorem State.trained_sound {o : State} {s : State} (hS : s.Sound ⟨false, k1, false, k3, k4, k5, k6, k7, k8, k9, k10,
    k11, k12, false, k14, false, false, k17⟩ o) : (State.trained s).Sound ⟨false, k1, false, k3, k4, k5, k6, k7, k8,
    k9, k10, k11, k12, false, k14, false, false, k17⟩ o := by
  unfold State.trained; try dsimp only
  repeat' first
    | with_reducible assumption | with_reducible intro _ | with_reducible apply State.startStage_sound
    | with_reducible apply State.trainFails_sound | with_reducible apply State.slotOn_sound
    | with_reducible apply State.setPhase_sound | with_reducible apply ite_sound | with_reducible apply ite_fst_sound
    | with_reducible apply each_sound | with_reducible apply each_fst_sound
    | with_reducible refine each_fst_sound' (by assumption) ?_ ?_ | split

theorem State.stage5_sound {o : State} {s : State} (hS : s.Sound ⟨false, k1, false, k3, k4, k5, k6, k7, k8, k9, k10,
    k11, k12, false, k14, false, false, k17⟩ o) : (State.stage5 s).Sound ⟨false, k1, false, k3, k4, k5, k6, k7, k8,
    k9, k10, k11, k12, false, k14, false, false, k17⟩ o := by
  unfold State.stage5; try dsimp only
  repeat' first
    | with_reducible assumption | with_reducible intro _ | with_reducible apply State.trained_sound
    | with_reducible apply State.startStage_sound | with_reducible apply ite_sound
    | with_reducible apply ite_fst_sound | split

theorem State.fillInfo_sound {o : State} {s : State} {c : Nat} {l : List Spd} (hS : s.Sound ⟨false, k1, false, k3, k4,
    k5, k6, k7, k8, k9, k10, k11, k12, k13, k14, k15, k16, k17⟩ o) : (State.fillInfo s c l).Sound ⟨false, k1, false,
    k3, k4, k5, k6, k7, k8, k9, k10, k11, k12, k13, k14, k15, k16, k17⟩ o := by
  unfold State.fillInfo; try dsimp only
  repeat' first
    | with_reducible assumption | with_reducible intro _ | with_reducible apply State.setF_sound
    | with_reducible apply State.onBoot_sound | with_reducible apply ite_sound | with_reducible apply ite_fst_sound
    | with_reducible rfl | rfl | split

theorem State.readSpds_sound {o : State} {s : State} {l : List Spd} (hS : s.Sound ⟨false, k1, false, k3, k4, k5, k6,
    k7, k8, k9, k10, k11, k12, k13, k14, k15, k16, k17⟩ o) : (State.readSpds s l).Sound ⟨false, k1, false, k3, k4, k5,
    k6, k7, k8, k9, k10, k11, k12, k13, k14, k15, k16, k17⟩ o := by
  unfold State.readSpds; try dsimp only
  repeat' first
    | with_reducible assumption | with_reducible intro _ | with_reducible apply State.fillInfo_sound
    | with_reducible apply ite_sound | with_reducible apply ite_fst_sound | with_reducible apply each_sound
    | with_reducible apply each_fst_sound | with_reducible refine each_fst_sound' (by assumption) ?_ ?_ | split

theorem State.fillMap_sound {o : State} {s : State} (hS : s.Sound ⟨false, k1, k2, k3, k4, k5, k6, k7, k8, k9, k10,
    k11, k12, k13, k14, k15, k16, k17⟩ o) : (State.fillMap s).Sound ⟨false, k1, k2, k3, k4, k5, k6, k7, k8, k9, k10,
    k11, k12, k13, k14, k15, k16, k17⟩ o := by
  unfold State.fillMap; try dsimp only
  with_reducible repeat' first
    | assumption | intro _ | apply State.setF_sound | apply ite_sound | apply each_sound

theorem State.memTrained_sound {o : State} {s : State} (hS : s.Sound ⟨false, k1, false, k3, k4, k5, k6, k7, k8, k9,
    k10, k11, k12, false, k14, false, false, k17⟩ o) : (State.memTrained s).Sound ⟨false, k1, false, k3, k4, k5, k6,
    k7, k8, k9, k10, k11, k12, false, k14, false, false, k17⟩ o := by
  unfold State.memTrained; try dsimp only
  repeat' first
    | with_reducible assumption | with_reducible intro _ | with_reducible apply State.lock_sound
    | with_reducible apply State.record_sound | with_reducible apply State.fillMap_sound
    | with_reducible apply State.stage5_sound | with_reducible apply State.setChState_sound
    | with_reducible apply ite_sound | with_reducible apply each_sound | with_reducible apply each_fst_sound
    | with_reducible refine each_fst_sound' (by assumption) ?_ ?_ | with_reducible apply foldl_sound
    | with_reducible apply foldl_fst_sound | with_reducible refine foldl_fst_sound' (by assumption) ?_ ?_ | split

theorem State.chanInit_sound {o s : State} {c : Nat} (hS : s.Sound ⟨false, k1, false, k3, k4, k5, k6, k7, false, false, k10, k11, k12, false, k14, false, false, k17⟩ o) : (State.chanInit s c).Sound ⟨false, k1, false, k3, k4, k5, k6, k7, false, false, k10, k11, k12, false, k14, false, false, k17⟩ o := by
  have h1 : ((s.setChState c CH_READY).onDram fun d => { d with mem := d.mem.filter fun e => e.1 / (2 ^ 34 * 128) != c, lost := d.lost.filter fun k => k / 2 ^ 34 != c }).Sound ⟨false, k1, false, k3, k4, k5, k6, k7, false, false, k10, k11, k12, false, k14, false, false, k17⟩ o :=
    let h := State.setChState_sound (c := c) (v := CH_READY) hS
    ⟨h.clock, h.queue, h.free, h.fused, SMap.filter_wf h.mem _, h.regs, nofun, h.k_beat, nofun, h.k_cores, h.k_cache, h.k_xlat, h.k_fab, h.k_home, nofun, nofun, h.k_links, h.k_sec, h.k_crypto, nofun, h.k_pwr, h.k_err, nofun, h.k_freeCtr, h.k_flits⟩
  unfold State.chanInit
  dsimp only
  split
  · exact hS
  · exact ite_sound (State.stage5_sound h1) h1

theorem State.stage4_sound {o : State} {s : State} {spd : List Spd} (hS : s.Sound ⟨false, k1, false, k3, k4, k5, k6,
    k7, k8, k9, k10, k11, k12, false, k14, false, false, k17⟩ o) : (State.stage4 s spd).Sound ⟨false, k1, false, k3,
    k4, k5, k6, k7, k8, k9, k10, k11, k12, false, k14, false, false, k17⟩ o := by
  unfold State.stage4; try dsimp only
  repeat' first
    | with_reducible assumption | with_reducible intro _ | with_reducible apply State.readSpds_sound
    | with_reducible apply State.startStage_sound | with_reducible apply State.setChState_sound
    | with_reducible apply State.memTrained_sound | with_reducible apply ite_sound
    | with_reducible apply ite_fst_sound | with_reducible apply each_sound | with_reducible apply each_fst_sound
    | with_reducible refine each_fst_sound' (by assumption) ?_ ?_ | split

theorem State.dieTrained_sound {o : State} {s : State} {d : ℕ} (hS : s.Sound ⟨false, k1, k2, k3, false, k5, k6, k7,
    k8, k9, k10, k11, k12, k13, k14, k15, k16, k17⟩ o) : (State.dieTrained s d).Sound ⟨false, k1, k2, k3, false, k5,
    k6, k7, k8, k9, k10, k11, k12, k13, k14, k15, k16, k17⟩ o := by
  unfold State.dieTrained; try dsimp only
  with_reducible repeat' first
    | assumption | intro _ | apply State.setF_sound | apply State.clearDie_sound | apply State.setCluster_sound
    | apply State.clkOn_sound | apply State.setCoreState_sound | apply ite_sound | apply each_sound

theorem State.stageTask_sound {o : State} {s : State} {mem : Bool} {e : TaskEnd} (hS : s.Sound ⟨false, false, false,
    false, false, false, false, false, false, false, k10, false, k12, false, false, false, false, k17⟩ o) :
    (State.stageTask s mem e).Sound ⟨false, false, false, false, false, false, false, false, false, false, k10, false,
    k12, false, false, false, false, k17⟩ o := by
  unfold State.stageTask; try dsimp only
  repeat' first
    | with_reducible assumption | with_reducible intro _ | with_reducible apply State.onBoot_sound
    | with_reducible apply State.taskRecord_sound | with_reducible apply State.setTiles_sound
    | with_reducible apply State.record_sound | with_reducible apply State.lock_sound
    | with_reducible apply State.startStage_sound | with_reducible apply State.dieTrained_sound
    | with_reducible apply State.setLink_sound | with_reducible apply State.fenceDie_sound
    | with_reducible apply State.stage4_sound | with_reducible apply State.memTrained_sound
    | with_reducible apply State.trained_sound | with_reducible apply ite_sound | with_reducible apply ite_fst_sound
    | with_reducible rfl | rfl | split

theorem State.resumeTask_sound {o : State} {s : State} {mem : Bool} {e : TaskEnd} (hS : s.Sound ⟨false, false, k2,
    false, false, false, false, false, false, false, false, false, k12, k13, false, false, false, k17⟩ o) :
    (State.resumeTask s mem e).Sound ⟨false, false, k2, false, false, false, false, false, false, false, false, false,
    k12, k13, false, false, false, k17⟩ o := by
  unfold State.resumeTask; try dsimp only
  repeat' first
    | with_reducible assumption | with_reducible intro _ | with_reducible apply State.setChState_sound
    | with_reducible apply State.taskRecord_sound | with_reducible apply State.chanFail_sound
    | with_reducible apply State.linkOut_sound | with_reducible apply ite_sound | with_reducible apply ite_fst_sound
    | split

theorem State.taskEnd_sound {o : State} {s : State} {mem : Bool} {e : TaskEnd} (hS : s.Sound ⟨false, false, false,
    false, false, false, false, false, false, false, false, false, k12, false, false, false, false, k17⟩ o) :
    (State.taskEnd s mem e).Sound ⟨false, false, false, false, false, false, false, false, false, false, false, false,
    k12, false, false, false, false, k17⟩ o := by
  unfold State.taskEnd; try dsimp only
  repeat' first
    | with_reducible assumption | with_reducible intro _ | with_reducible apply State.endTask_sound
    | with_reducible apply State.stageTask_sound | with_reducible apply State.resumeTask_sound
    | with_reducible apply ite_sound | with_reducible apply ite_fst_sound | split

theorem State.busAck_sound {o : State} {s : State} {ack : Bool} (hS : s.Sound ⟨k0, k1, k2, k3, k4, k5, k6, k7, k8,
    k9, k10, k11, k12, k13, k14, k15, false, k17⟩ o) : (State.busAck s ack).Sound ⟨k0, k1, k2, k3, k4, k5, k6, k7, k8,
    k9, k10, k11, k12, k13, k14, k15, false, k17⟩ o := by
  unfold State.busAck; try dsimp only
  with_reducible repeat' first | assumption | intro _ | apply State.send_sound

theorem State.busRead_sound {o : State} {s : State} {addr : ℕ} {code : ℕ} {bytes : List Byte} (hS : s.Sound ⟨k0, k1,
    k2, k3, k4, k5, k6, k7, k8, k9, k10, k11, k12, k13, k14, k15, false, k17⟩ o) : (State.busRead s addr code
    bytes).Sound ⟨k0, k1, k2, k3, k4, k5, k6, k7, k8, k9, k10, k11, k12, k13, k14, k15, false, k17⟩ o := by
  unfold State.busRead; try dsimp only
  with_reducible repeat' first | assumption | intro _ | apply State.send_sound

theorem State.readBootStat_sound {o : State} {s : State} {addr : ℕ} (hS : s.Sound ⟨k0, k1, k2, k3, k4, k5, k6, k7,
    k8, k9, k10, k11, k12, k13, k14, k15, false, k17⟩ o) : (State.readBootStat s addr).Sound ⟨k0, k1, k2, k3, k4, k5,
    k6, k7, k8, k9, k10, k11, k12, k13, k14, k15, false, k17⟩ o := by
  unfold State.readBootStat; try dsimp only
  with_reducible repeat' first | assumption | intro _ | apply State.busRead_sound | apply ite_sound

end Sys2Proof.Machine
end

