-- ==== Sys2Proof/Laws/KeepMemory.lean ====
section
/-! SUPPORT. The operations of Machine/Memory.lean keep State.Sound. -/

namespace Sys2Proof.Machine

variable {k0 k1 k2 k3 k4 k5 k6 k7 k8 k9 k10 k11 k12 k13 k14 k15 k16 k17 : Bool}

theorem execDramRead_sound {o : State} {ch : Chan} {s : State} (hS : s.Sound ⟨false, k1, k2, k3, false, k5, false,
    false, false, false, k10, false, k12, k13, k14, false, false, k17⟩ o) : OutSound ⟨false, k1, k2, k3, false, k5,
    false, false, false, false, k10, false, k12, k13, k14, false, false, k17⟩ o (execDramRead ch s) := by
  unfold execDramRead; try dsimp only
  with_reducible repeat' first
    | assumption | intro _ | apply State.cmdDone_sound | apply State.dramReadOp_sound | apply ite_out_sound
    | apply next_sound | apply ite_sound | apply ite_fst_sound

theorem execMemDevOut_sound {o : State} {ch : Chan} {rank : Fin 4} {sub : Fin 2} {dev : Fin 10} {s : State} (hS :
    s.Sound ⟨false, k1, k2, k3, k4, k5, k6, k7, k8, k9, k10, k11, k12, k13, k14, false, false, k17⟩ o) : OutSound
    ⟨false, k1, k2, k3, k4, k5, k6, k7, k8, k9, k10, k11, k12, k13, k14, false, false, k17⟩ o (execMemDevOut ch rank
    sub dev s) := by
  unfold execMemDevOut; try dsimp only
  with_reducible repeat' first
    | assumption | intro _ | apply next_sound | apply ite_out_sound | apply when_sound | apply State.mapOutDev_sound

theorem execMemPageRebuild_sound {o : State} {ch : Chan} {s : State} (hS : s.Sound ⟨false, k1, k2, k3, false, k5,
    false, false, false, false, k10, false, k12, k13, k14, false, false, k17⟩ o) : OutSound ⟨false, k1, k2, k3, false,
    k5, false, false, false, false, k10, false, k12, k13, k14, false, false, k17⟩ o (execMemPageRebuild ch s) := by
  unfold execMemPageRebuild; try dsimp only
  with_reducible repeat' first
    | assumption | intro _ | apply State.rebuildOp_sound | apply ite_out_sound | apply next_sound | apply ite_sound
    | apply ite_fst_sound

theorem execDramWrite_sound {o : State} {ch : Chan} {s : State} (hS : s.Sound ⟨false, k1, k2, k3, false, k5, false,
    false, false, false, k10, false, k12, k13, k14, false, false, k17⟩ o) : OutSound ⟨false, k1, k2, k3, false, k5,
    false, false, false, false, k10, false, k12, k13, k14, false, false, k17⟩ o (execDramWrite ch s) := by
  unfold execDramWrite; try dsimp only
  with_reducible repeat' first
    | assumption | intro _ | apply State.cmdDone_sound | apply State.dramWriteOp_sound | apply ite_out_sound
    | apply next_sound | apply ite_sound | apply ite_fst_sound

theorem execPageLockRelease_sound {o : State} {ch : Chan} {page : Nat} {s : State} (hS : s.Sound ⟨false, k1, k2, k3,
    k4, k5, k6, k7, false, false, k10, k11, k12, k13, k14, false, false, k17⟩ o) : OutSound ⟨false, k1, k2, k3, k4,
    k5, k6, k7, false, false, k10, k11, k12, k13, k14, false, false, k17⟩ o (execPageLockRelease ch page s) := by
  unfold execPageLockRelease; try dsimp only
  with_reducible repeat' first
    | assumption | intro _ | apply State.unlockOp_sound | apply ite_out_sound | apply next_sound | apply ite_sound
    | apply ite_fst_sound

theorem execParityCacheError_sound {o : State} {h : Hub} {set : Fin 1024} {way : Fin 16} {correctable : Bool} {s :
    State} (hS : s.Sound ⟨false, k1, k2, k3, k4, k5, k6, k7, false, false, k10, k11, k12, k13, k14, false, false, k17⟩
    o) : OutSound ⟨false, k1, k2, k3, k4, k5, k6, k7, false, false, k10, k11, k12, k13, k14, false, false, k17⟩ o
    (execParityCacheError h set way correctable s) := by
  unfold execParityCacheError; try dsimp only
  with_reducible repeat' first
    | assumption | intro _ | apply State.parityErrorOp_sound | apply ite_out_sound | apply next_sound
    | apply ite_sound | apply ite_fst_sound

theorem execRestripePage_sound {o : State} {s : State} (hS : s.Sound ⟨false, k1, k2, k3, k4, k5, k6, k7, false,
    false, k10, k11, k12, k13, k14, false, false, k17⟩ o) : OutSound ⟨false, k1, k2, k3, k4, k5, k6, k7, false, false,
    k10, k11, k12, k13, k14, false, false, k17⟩ o (execRestripePage s) := by
  unfold execRestripePage; try dsimp only
  with_reducible repeat' first
    | assumption | intro _ | apply next_sound | apply ite_out_sound | apply State.restripeOp_sound

theorem execRankPowerDown_sound {o : State} {ch : Chan} {rank : Fin 4} {s : State} (hS : s.Sound ⟨false, k1, k2, k3,
    k4, k5, k6, k7, k8, k9, k10, k11, k12, k13, k14, k15, false, k17⟩ o) : OutSound ⟨false, k1, k2, k3, k4, k5, k6,
    k7, k8, k9, k10, k11, k12, k13, k14, k15, false, k17⟩ o (execRankPowerDown ch rank s) := by
  unfold execRankPowerDown; try dsimp only
  with_reducible repeat' first
    | assumption | intro _ | apply next_sound | apply ite_out_sound | apply State.powerDownOp_sound

theorem execRankRefresh_sound {o : State} {ch : Chan} {rank : Fin 4} {s : State} (hS : s.Sound ⟨k0, k1, k2, k3, k4,
    k5, k6, k7, k8, k9, k10, k11, k12, k13, k14, k15, false, k17⟩ o) : OutSound ⟨k0, k1, k2, k3, k4, k5, k6, k7, k8,
    k9, k10, k11, k12, k13, k14, k15, false, k17⟩ o (execRankRefresh ch rank s) := by
  unfold execRankRefresh; try dsimp only
  with_reducible repeat' first
    | assumption | intro _ | apply State.refreshRank_sound | apply ite_out_sound | apply next_sound | apply ite_sound
    | apply ite_fst_sound

theorem execRankCalibration_sound {o : State} {ch : Chan} {rank : Fin 4} {s : State} (hS : s.Sound ⟨k0, k1, k2, k3,
    k4, k5, k6, k7, false, k9, k10, k11, k12, k13, k14, k15, false, k17⟩ o) : OutSound ⟨k0, k1, k2, k3, k4, k5, k6,
    k7, false, k9, k10, k11, k12, k13, k14, k15, false, k17⟩ o (execRankCalibration ch rank s) := by
  unfold execRankCalibration; try dsimp only
  with_reducible repeat' first
    | assumption | intro _ | apply State.calRank_sound | apply ite_out_sound | apply next_sound | apply ite_sound
    | apply ite_fst_sound

theorem execScrubRead_sound {o : State} {ch : Chan} {s : State} (hS : s.Sound ⟨false, k1, k2, k3, k4, k5, k6, k7,
    false, false, k10, k11, k12, k13, k14, false, false, k17⟩ o) : OutSound ⟨false, k1, k2, k3, k4, k5, k6, k7, false,
    false, k10, k11, k12, k13, k14, false, false, k17⟩ o (execScrubRead ch s) := by
  unfold execScrubRead; try dsimp only
  with_reducible repeat' first
    | assumption | intro _ | apply next_sound | apply ite_out_sound | apply State.scrubOp_sound

theorem execTrnWritePattern_sound {o : State} {who : Sender} {ch : Chan} {v : Word} {s : State} (hS : s.Sound ⟨false,
    k1, k2, k3, k4, k5, k6, k7, false, false, k10, k11, k12, k13, false, false, false, false⟩ o) : OutSound ⟨false,
    k1, k2, k3, k4, k5, k6, k7, false, false, k10, k11, k12, k13, false, false, false, false⟩ o (execTrnWritePattern
    who ch v s) := by
  unfold execTrnWritePattern; try dsimp only
  with_reducible repeat' first
    | assumption | intro _ | apply next_sound | apply ite_out_sound | apply State.trnCtlWrite_sound

theorem execTrnReadCompare_sound {o : State} {who : Sender} {ch : Chan} {v : Word} {s : State} (hS : s.Sound ⟨false,
    k1, k2, k3, k4, k5, k6, k7, false, false, k10, k11, k12, k13, false, false, false, false⟩ o) : OutSound ⟨false,
    k1, k2, k3, k4, k5, k6, k7, false, false, k10, k11, k12, k13, false, false, false, false⟩ o (execTrnReadCompare
    who ch v s) := by
  unfold execTrnReadCompare; try dsimp only
  with_reducible repeat' first
    | assumption | intro _ | apply next_sound | apply ite_out_sound | apply State.trnCtlWrite_sound

theorem execTrnWriteReadCompare_sound {o : State} {who : Sender} {ch : Chan} {v : Word} {s : State} (hS : s.Sound
    ⟨false, k1, k2, k3, k4, k5, k6, k7, false, false, k10, k11, k12, k13, false, false, false, false⟩ o) : OutSound
    ⟨false, k1, k2, k3, k4, k5, k6, k7, false, false, k10, k11, k12, k13, false, false, false, false⟩ o
   (execTrnWriteReadCompare who ch v s) := by
  unfold execTrnWriteReadCompare; try dsimp only
  with_reducible repeat' first
    | assumption | intro _ | apply next_sound | apply ite_out_sound | apply State.trnCtlWrite_sound

theorem execTrnDone_sound {o : State} {ch : Chan} {badLines : List ℕ} {lanes : BitVec 40} {strobe : BitVec 2} {s :
    State} (hS : s.Sound ⟨false, k1, k2, k3, k4, k5, k6, k7, k8, k9, k10, k11, k12, k13, k14, k15, k16, k17⟩ o) :
    OutSound ⟨false, k1, k2, k3, k4, k5, k6, k7, k8, k9, k10, k11, k12, k13, k14, k15, k16, k17⟩ o (execTrnDone ch
    badLines lanes strobe s) := by
  unfold execTrnDone; try dsimp only
  with_reducible repeat' first
    | assumption | intro _ | apply next_sound | apply ite_out_sound | apply State.trnDoneOp_sound

theorem execChannelInitDone_sound {o : State} {ch : Chan} {s : State} (hS : s.Sound ⟨false, k1, false, k3, k4, k5, k6,
    k7, false, false, k10, k11, k12, false, k14, false, false, k17⟩ o) : OutSound ⟨false, k1, false, k3, k4, k5, k6,
    k7, false, false, k10, k11, k12, false, k14, false, false, k17⟩ o (execChannelInitDone ch s) := by
  unfold execChannelInitDone; try dsimp only
  with_reducible repeat' first
    | assumption | intro _ | apply State.chanInit_sound | apply ite_out_sound | apply next_sound | apply ite_sound
    | apply ite_fst_sound

theorem execCaParityError_sound {o : State} {ch : Chan} {s : State} (hS : s.Sound ⟨false, k1, k2, k3, false, k5,
    false, false, false, false, k10, false, k12, k13, k14, false, false, k17⟩ o) : OutSound ⟨false, k1, k2, k3, false,
    k5, false, false, false, false, k10, false, k12, k13, k14, false, false, k17⟩ o (execCaParityError ch s) := by
  unfold execCaParityError; try dsimp only
  with_reducible repeat' first
    | assumption | intro _ | apply State.caParityOp_sound | apply ite_out_sound | apply next_sound | apply ite_sound
    | apply ite_fst_sound

theorem execModuleNotAnswering_sound {o : State} {ch : Chan} {s : State} (hS : s.Sound ⟨false, k1, k2, k3, false, k5,
    false, false, false, false, k10, false, k12, k13, k14, false, false, k17⟩ o) : OutSound ⟨false, k1, k2, k3, false,
    k5, false, false, false, false, k10, false, k12, k13, k14, false, false, k17⟩ o (execModuleNotAnswering ch s) :=
    by
  unfold execModuleNotAnswering; try dsimp only
  repeat' first
    | with_reducible assumption | with_reducible intro _ | with_reducible apply State.chanFail_sound
    | with_reducible apply ite_out_sound | with_reducible apply next_sound | with_reducible apply ite_sound
    | with_reducible apply ite_fst_sound | with_reducible apply when_sound | split

theorem execModuleTemperature_sound {o : State} {ch : Chan} {hot : Bool} {s : State} (hS : s.Sound ⟨false, k1, k2,
    k3, k4, k5, k6, k7, k8, k9, k10, k11, k12, k13, k14, k15, k16, k17⟩ o) : OutSound ⟨false, k1, k2, k3, k4, k5, k6,
    k7, k8, k9, k10, k11, k12, k13, k14, k15, k16, k17⟩ o (execModuleTemperature ch hot s) := by
  unfold execModuleTemperature; try dsimp only
  with_reducible repeat' first
    | assumption | intro _ | apply next_sound | apply ite_out_sound | apply State.setF_sound

end Sys2Proof.Machine
end

