-- ==== Sys2Proof/Laws/KeepAssayOps.lean ====
section
/-! SUPPORT. The operations of Machine/AssayOps.lean keep State.Sound. -/

namespace Sys2Proof.Machine

variable {k0 k1 k2 k3 k4 k5 k6 k7 k8 k9 k10 k11 k12 k13 k14 k15 k16 k17 : Bool}

theorem State.setAssay_sound {o : State} {s : State} {i : ℕ} {v : ℕ} (hS : s.Sound ⟨false, k1, k2, k3, k4, k5, k6,
    k7, k8, k9, k10, k11, k12, k13, k14, k15, k16, k17⟩ o) : (State.setAssay s i v).Sound ⟨false, k1, k2, k3, k4, k5,
    k6, k7, k8, k9, k10, k11, k12, k13, k14, k15, k16, k17⟩ o := by
  unfold State.setAssay; try dsimp only
  with_reducible repeat' first | assumption | intro _ | apply State.setF_sound

theorem State.coreOff_sound {o : State} {s : State} {c : Nat} (hS : s.Sound ⟨false, k1, k2, false, false, false, k6,
    false, false, false, k10, k11, k12, false, k14, false, false, k17⟩ o) : (State.coreOff s c).Sound ⟨false, k1, k2,
    false, false, false, k6, false, false, false, k10, k11, k12, false, k14, false, false, k17⟩ o := by
  unfold State.coreOff; try dsimp only
  with_reducible repeat' first
    | assumption | intro _ | apply State.dropCore_sound | apply State.purgeCore_sound | apply State.coreEmpty_sound
    | apply State.setCoreState_sound | apply State.pendStamped_sound | apply State.redeliver_sound | apply ite_sound
    | apply ite_fst_sound

theorem State.assayResult_sound {o : State} {s : State} {i : ℕ} {res : ℕ} (hS : s.Sound ⟨false, k1, k2, k3, k4, k5,
    k6, k7, k8, k9, k10, k11, k12, k13, k14, false, false, k17⟩ o) : (State.assayResult s i res).Sound ⟨false, k1, k2,
    k3, k4, k5, k6, k7, k8, k9, k10, k11, k12, k13, k14, false, false, k17⟩ o := by
  unfold State.assayResult; try dsimp only
  with_reducible repeat' first
    | assumption | intro _ | apply State.incF_sound | apply State.setF_sound | apply State.record_sound
    | apply ite_sound

theorem State.assayClear_sound {o : State} {s : State} {i : ℕ} (hS : s.Sound ⟨false, k1, k2, k3, k4, k5, k6, k7, k8,
    k9, k10, k11, k12, k13, k14, k15, k16, k17⟩ o) : (State.assayClear s i).Sound ⟨false, k1, k2, k3, k4, k5, k6, k7,
    k8, k9, k10, k11, k12, k13, k14, k15, k16, k17⟩ o := by
  unfold State.assayClear; try dsimp only
  with_reducible repeat' first | assumption | intro _ | apply State.setF_sound

theorem State.assayPush_sound {o : State} {s : State} {i : ℕ} {tests : ℕ} {level : ℕ} (hS : s.Sound ⟨false, k1, k2,
    k3, k4, k5, k6, k7, k8, k9, k10, k11, k12, k13, k14, false, k16, k17⟩ o) : (State.assayPush s i tests level).Sound
    ⟨false, k1, k2, k3, k4, k5, k6, k7, k8, k9, k10, k11, k12, k13, k14, false, k16, k17⟩ o := by
  unfold State.assayPush; try dsimp only
  with_reducible repeat' first
    | assumption | intro _ | apply State.onErr_sound | apply State.setAssay_sound | apply ite_sound

theorem State.assayRequest_sound {o : State} {s : State} {blocks : List ℕ} {tests : ℕ} {level : ℕ} {skipLive : Bool} 
   (hS : s.Sound ⟨false, false, k2, k3, k4, k5, k6, false, k8, k9, false, k11, k12, k13, k14, false, false, k17⟩ o) :
   (State.assayRequest s blocks tests level skipLive).Sound ⟨false, false, k2, k3, k4, k5, k6, false, k8, k9, false,
    k11, k12, k13, k14, false, false, k17⟩ o := by
  unfold State.assayRequest; try dsimp only
  with_reducible repeat' first
    | assumption | intro _ | apply State.assayResult_sound | apply State.assayClear_sound
    | apply State.assayPush_sound | apply State.trigOn_sound | apply ite_sound | apply each_sound

theorem State.assayNext_sound {o : State} {s : State} {i : Nat} {t : Nat} (hS : s.Sound ⟨false, k1, k2, k3, k4, k5,
    k6, k7, false, false, k10, k11, k12, k13, k14, false, k16, k17⟩ o) : (State.assayNext s i t).Sound ⟨false, k1, k2,
    k3, k4, k5, k6, k7, false, false, k10, k11, k12, k13, k14, false, k16, k17⟩ o := by
  unfold State.assayNext; try dsimp only
  repeat' first
    | with_reducible assumption | with_reducible intro _ | with_reducible apply State.onErr_sound
    | with_reducible apply State.flushParity_sound | with_reducible apply State.onDram_sound
    | with_reducible apply ite_sound | with_reducible apply ite_fst_sound | with_reducible rfl | rfl | split

theorem State.assayDrain_sound {o : State} {s : State} {i : Nat} (hS : s.Sound ⟨false, k1, k2, false, false, false,
    k6, false, false, false, k10, k11, k12, false, false, false, false, k17⟩ o) : (State.assayDrain s i).Sound ⟨false,
    k1, k2, false, false, false, k6, false, false, false, k10, k11, k12, false, false, false, false, k17⟩ o := by
  unfold State.assayDrain; try dsimp only
  with_reducible repeat' first
    | assumption | intro _ | apply State.coreOff_sound | apply State.beginDrain_sound | apply ite_sound
    | apply ite_fst_sound | apply each_sound | apply each_fst_sound | refine each_fst_sound' (by assumption) ?_ ?_

theorem State.assayStart_sound {o : State} {s : State} {i : Nat} (hS : s.Sound ⟨false, k1, false, false, false, false,
    k6, false, false, false, k10, k11, k12, false, false, false, false, k17⟩ o) : (State.assayStart s i).Sound ⟨false,
    k1, false, false, false, false, k6, false, false, false, k10, k11, k12, false, false, false, false, k17⟩ o := by
  unfold State.assayStart; try dsimp only
  repeat' first
    | with_reducible assumption | with_reducible intro _ | with_reducible apply State.setAssay_sound
    | with_reducible apply State.assayClear_sound | with_reducible apply State.onErr_sound
    | with_reducible apply State.resumeLink_sound | with_reducible apply State.assayDrain_sound
    | with_reducible apply ite_sound | with_reducible apply ite_fst_sound | split

theorem State.assayClocks_sound {o : State} {s : State} {i : Nat} {on : Bool} (hS : s.Sound ⟨false, k1, k2, k3, k4,
    k5, k6, k7, k8, k9, k10, k11, k12, k13, k14, k15, k16, k17⟩ o) : (State.assayClocks s i on).Sound ⟨false, k1, k2,
    k3, k4, k5, k6, k7, k8, k9, k10, k11, k12, k13, k14, k15, k16, k17⟩ o := by
  unfold State.assayClocks; try dsimp only
  with_reducible repeat' first
    | assumption | intro _ | apply State.setCluster_sound | apply State.clkOn_sound | apply ite_sound
    | apply ite_fst_sound

theorem State.assayReady_sound {o : State} {s : State} {i : Nat} (hS : s.Sound ⟨false, k1, k2, k3, k4, k5, k6, k7,
    false, false, k10, k11, k12, k13, k14, false, k16, k17⟩ o) : (State.assayReady s i).Sound ⟨false, k1, k2, k3, k4,
    k5, k6, k7, false, false, k10, k11, k12, k13, k14, false, k16, k17⟩ o := by
  unfold State.assayReady; try dsimp only
  repeat' first
    | with_reducible assumption | with_reducible intro _ | with_reducible apply State.setAssay_sound
    | with_reducible apply State.setLevel_sound | with_reducible apply State.assayClocks_sound
    | with_reducible apply State.onErr_sound | with_reducible apply State.assayNext_sound
    | with_reducible apply ite_sound | with_reducible apply ite_fst_sound | split

theorem State.assayDone_sound {o : State} {s : State} {i : ℕ} {sig : Word} (hS : s.Sound ⟨false, k1, k2, k3, k4, k5,
    k6, k7, false, false, k10, k11, k12, k13, k14, false, k16, k17⟩ o) : (State.assayDone s i sig).Sound ⟨false, k1,
    k2, k3, k4, k5, k6, k7, false, false, k10, k11, k12, k13, k14, false, k16, k17⟩ o := by
  unfold State.assayDone; try dsimp only
  repeat' first
    | with_reducible assumption | with_reducible intro _ | with_reducible apply State.setF_sound
    | with_reducible apply State.setReg_sound | with_reducible apply State.assayNext_sound
    | with_reducible apply ite_sound | split

theorem State.assayEnd_sound {o : State} {s : State} {i : Nat} {res : Nat} (hS : s.Sound ⟨false, k1, false, false, k4,
    k5, k6, k7, k8, k9, k10, k11, k12, k13, false, false, false, k17⟩ o) : (State.assayEnd s i res).Sound ⟨false, k1,
    false, false, k4, k5, k6, k7, k8, k9, k10, k11, k12, k13, false, false, false, k17⟩ o := by
  unfold State.assayEnd; try dsimp only
  repeat' first
    | with_reducible assumption | with_reducible intro _ | with_reducible apply State.setAssay_sound
    | with_reducible apply State.assayResult_sound | with_reducible apply State.onErr_sound
    | with_reducible apply State.assayClocks_sound | with_reducible apply State.setF_sound
    | with_reducible apply State.updCoreH_sound | with_reducible apply State.startWake_sound
    | with_reducible apply ite_sound | with_reducible apply ite_fst_sound | with_reducible apply each_sound
    | with_reducible apply each_fst_sound | with_reducible refine each_fst_sound' (by assumption) ?_ ?_ | split

theorem State.assayTick_sound {o : State} {s : State} (hS : s.Sound ⟨false, k1, false, false, false, false, k6, false,
    false, false, k10, k11, k12, false, false, false, false, k17⟩ o) : (State.assayTick s).Sound ⟨false, k1, false,
    false, false, false, k6, false, false, false, k10, k11, k12, false, false, false, false, k17⟩ o := by
  unfold State.assayTick; try dsimp only
  repeat' first
    | with_reducible assumption | with_reducible intro _ | with_reducible apply State.assayEnd_sound
    | with_reducible apply State.assayStart_sound | with_reducible apply State.assayDrain_sound
    | with_reducible apply State.trigOff_sound | with_reducible apply ite_sound | with_reducible apply ite_fst_sound
    | with_reducible apply each_sound | with_reducible apply each_fst_sound
    | with_reducible refine each_fst_sound' (by assumption) ?_ ?_ | split

end Sys2Proof.Machine
end

