-- ==== Sys2Proof/Laws/KeepPortOps.lean ====
section
/-! SUPPORT. The operations of Machine/PortOps.lean keep State.Sound. -/

namespace Sys2Proof.Machine

variable {k0 k1 k2 k3 k4 k5 k6 k7 k8 k9 k10 k11 k12 k13 k14 k15 k16 k17 : Bool}

theorem State.clearCfg_sound {o : State} {s : State} {k : ℕ} (hS : s.Sound ⟨false, k1, k2, k3, k4, k5, k6, k7, k8,
    k9, k10, k11, k12, k13, k14, k15, k16, k17⟩ o) : (State.clearCfg s k).Sound ⟨false, k1, k2, k3, k4, k5, k6, k7,
    k8, k9, k10, k11, k12, k13, k14, k15, k16, k17⟩ o := by
  unfold State.clearCfg; try dsimp only
  with_reducible repeat' first
    | assumption | intro _ | apply State.setF_sound | apply ite_sound | apply each_sound

theorem State.cfgIssue_sound {o : State} {s : State} {k : Nat} {w : Who} {wr : Option (BitVec 32)} {t : Nat} (hS :
    s.Sound ⟨k0, k1, k2, k3, k4, k5, k6, k7, k8, k9, k10, k11, k12, false, k14, k15, false, k17⟩ o) : (State.cfgIssue
    s k w wr t).Sound ⟨k0, k1, k2, k3, k4, k5, k6, k7, k8, k9, k10, k11, k12, false, k14, k15, false, k17⟩ o := by
  unfold State.cfgIssue; try dsimp only
  with_reducible repeat' first
    | assumption | intro _ | apply State.issueReq_sound | apply ite_sound | apply ite_fst_sound

theorem State.cfgGo_sound {o : State} {s : State} {k : ℕ} {w : Who} {wr : Option (BitVec 32)} (hS : s.Sound ⟨false,
    k1, k2, k3, k4, k5, k6, k7, k8, k9, k10, k11, k12, false, k14, false, false, k17⟩ o) : (State.cfgGo s k w
    wr).Sound ⟨false, k1, k2, k3, k4, k5, k6, k7, k8, k9, k10, k11, k12, false, k14, false, false, k17⟩ o := by
  unfold State.cfgGo; try dsimp only
  repeat' first
    | with_reducible assumption | with_reducible intro _ | with_reducible apply State.whoReply_sound
    | with_reducible apply State.setF_sound | with_reducible apply State.cfgIssue_sound
    | with_reducible apply ite_sound | split

theorem State.cfgAccess_sound {o : State} {s : State} {k : ℕ} {w : Who} {wr : Option (BitVec 32)} (hS : s.Sound
    ⟨false, k1, k2, k3, k4, k5, k6, k7, k8, k9, k10, k11, k12, false, k14, false, false, k17⟩ o) : (State.cfgAccess s
    k w wr).Sound ⟨false, k1, k2, k3, k4, k5, k6, k7, k8, k9, k10, k11, k12, false, k14, false, false, k17⟩ o := by
  unfold State.cfgAccess; try dsimp only
  with_reducible repeat' first | assumption | intro _ | apply State.cfgGo_sound | apply State.clearCfg_sound

theorem State.cfgRrs_sound {o : State} {s : State} {k : Nat} {r : PcieReq} (hS : s.Sound ⟨false, k1, k2, false, false,
    false, k6, k7, k8, k9, k10, k11, k12, false, k14, false, false, k17⟩ o) : (State.cfgRrs s k r).Sound ⟨false, k1,
    k2, false, false, false, k6, k7, k8, k9, k10, k11, k12, false, k14, false, false, k17⟩ o := by
  unfold State.cfgRrs; try dsimp only
  repeat' first
    | with_reducible assumption | with_reducible intro _ | with_reducible apply State.setF_sound
    | with_reducible apply State.cfgReply_sound | with_reducible apply State.reqEnd_sound
    | with_reducible apply State.updSeg_sound | with_reducible apply ite_sound | with_reducible apply ite_fst_sound
    | split

theorem State.cfgAgain_sound {o : State} {s : State} {k : Nat} (hS : s.Sound ⟨false, k1, k2, false, false, false, k6,
    k7, k8, k9, k10, k11, k12, false, k14, false, false, k17⟩ o) : (State.cfgAgain s k).Sound ⟨false, k1, k2, false,
    false, false, k6, k7, k8, k9, k10, k11, k12, false, k14, false, false, k17⟩ o := by
  unfold State.cfgAgain; try dsimp only
  repeat' first
    | with_reducible assumption | with_reducible intro _ | with_reducible apply State.reqTimedOut_sound
    | with_reducible apply State.issueReq_sound | with_reducible apply State.updSeg_sound
    | with_reducible apply ite_sound | with_reducible apply ite_fst_sound | with_reducible apply each_sound
    | with_reducible apply each_fst_sound | with_reducible refine each_fst_sound' (by assumption) ?_ ?_ | split

theorem State.cplFor_sound {o : State} {s : State} {k : Nat} {r : PcieReq} {status : Nat} {data : Line} (hS : s.Sound
    ⟨false, k1, k2, false, false, false, k6, k7, k8, k9, k10, k11, k12, false, k14, false, false, k17⟩ o) :
    (State.cplFor s k r status data).Sound ⟨false, k1, k2, false, false, false, k6, k7, k8, k9, k10, k11, k12, false,
    k14, false, false, k17⟩ o := by
  unfold State.cplFor; try dsimp only
  repeat' first
    | with_reducible assumption | with_reducible intro _ | with_reducible apply State.deliver_sound
    | with_reducible apply State.failAcc_sound | with_reducible apply State.reqEnd_sound
    | with_reducible apply State.copyFail_sound | with_reducible apply State.dmaPush_sound
    | with_reducible apply State.copyEnd_sound | with_reducible apply State.incF_sound
    | with_reducible apply State.send_sound | with_reducible apply State.cfgReply_sound
    | with_reducible apply State.cfgRrs_sound | with_reducible apply State.setF_sound | with_reducible apply ite_sound
    | with_reducible apply ite_fst_sound | split

theorem State.cplIn_sound {o : State} {s : State} {k : Nat} {tag : Nat} {status : Nat} {data : Line} (hS : s.Sound
    ⟨false, k1, k2, false, false, false, k6, k7, k8, k9, k10, k11, k12, false, k14, false, false, k17⟩ o) :
    (State.cplIn s k tag status data).Sound ⟨false, k1, k2, false, false, false, k6, k7, k8, k9, k10, k11, k12, false,
    k14, false, false, k17⟩ o := by
  unfold State.cplIn; try dsimp only
  repeat' first
    | with_reducible assumption | with_reducible intro _ | with_reducible apply State.updSeg_sound
    | with_reducible apply State.cplFor_sound | with_reducible apply State.kickReqs_sound
    | with_reducible apply State.incF_sound | with_reducible apply State.record_sound | with_reducible apply ite_sound
    | with_reducible apply ite_fst_sound | split

theorem State.cplLate_sound {o : State} {s : State} {k : Nat} {tag : Nat} (hS : s.Sound ⟨false, k1, k2, false, false,
    false, k6, k7, k8, k9, k10, k11, k12, false, k14, false, false, k17⟩ o) : (State.cplLate s k tag).Sound ⟨false,
    k1, k2, false, false, false, k6, k7, k8, k9, k10, k11, k12, false, k14, false, false, k17⟩ o := by
  unfold State.cplLate; try dsimp only
  repeat' first
    | with_reducible assumption | with_reducible intro _ | with_reducible apply State.updSeg_sound
    | with_reducible apply State.reqTimedOut_sound | with_reducible apply ite_sound
    | with_reducible apply ite_fst_sound | split

theorem State.tagFree_sound {o : State} {s : State} {k : ℕ} {tag : ℕ} (hS : s.Sound ⟨k0, k1, k2, k3, k4, k5, k6, k7,
    k8, k9, k10, k11, k12, false, k14, k15, false, k17⟩ o) : (State.tagFree s k tag).Sound ⟨k0, k1, k2, k3, k4, k5,
    k6, k7, k8, k9, k10, k11, k12, false, k14, k15, false, k17⟩ o := by
  unfold State.tagFree; try dsimp only
  with_reducible repeat' first | assumption | intro _ | apply State.kickReqs_sound | apply State.updSeg_sound

theorem State.devRefuse_sound {o : State} {s : State} {k : ℕ} {e : ECode} {pa : ℕ} {tag : ℕ} (hS : s.Sound ⟨k0, k1,
    k2, k3, false, k5, k6, k7, k8, k9, k10, k11, k12, false, k14, false, false, k17⟩ o) : (State.devRefuse s k e pa
    tag).Sound ⟨k0, k1, k2, k3, false, k5, k6, k7, k8, k9, k10, k11, k12, false, k14, false, false, k17⟩ o := by
  unfold State.devRefuse; try dsimp only
  with_reducible repeat' first | assumption | intro _ | apply State.dmaPush_sound | apply State.record_sound

theorem State.devRead_sound {o : State} {s : State} {k : ℕ} {bus : ℕ} {addr : ℕ} {len : ℕ} {tag : ℕ} (hS : s.Sound
    ⟨k0, k1, k2, k3, false, k5, k6, k7, k8, k9, k10, k11, k12, false, k14, false, false, k17⟩ o) : (State.devRead s k
    bus addr len tag).Sound ⟨k0, k1, k2, k3, false, k5, k6, k7, k8, k9, k10, k11, k12, false, k14, false, false, k17⟩
    o := by
  unfold State.devRead; try dsimp only
  repeat' first
    | with_reducible assumption | with_reducible intro _ | with_reducible apply State.devRefuse_sound
    | with_reducible apply State.dmaPush_sound | with_reducible apply ite_sound | split

theorem State.devMsi_sound {o : State} {s : State} {k : ℕ} {addr : ℕ} {bytes : List Byte} (hS : s.Sound ⟨k0, k1, k2,
    k3, k4, k5, k6, k7, k8, k9, k10, k11, k12, false, k14, false, false, k17⟩ o) : (State.devMsi s k addr bytes).Sound
    ⟨k0, k1, k2, k3, k4, k5, k6, k7, k8, k9, k10, k11, k12, false, k14, false, false, k17⟩ o := by
  unfold State.devMsi; try dsimp only
  with_reducible repeat' first
    | assumption | intro _ | apply State.record_sound | apply State.raise_sound | apply State.updSeg_sound
    | apply ite_sound

theorem State.devWrite_sound {o : State} {s : State} {k : Nat} {bus : Nat} {addr : Nat} {bytes : List Byte} {poisoned
    : Bool} (hS : s.Sound ⟨k0, k1, k2, k3, false, k5, k6, k7, k8, k9, k10, k11, k12, false, k14, false, false, k17⟩ o)
    : (State.devWrite s k bus addr bytes poisoned).Sound ⟨k0, k1, k2, k3, false, k5, k6, k7, k8, k9, k10, k11, k12,
    false, k14, false, false, k17⟩ o := by
  unfold State.devWrite; try dsimp only
  repeat' first
    | with_reducible assumption | with_reducible intro _ | with_reducible apply State.record_sound
    | with_reducible apply State.devMsi_sound | with_reducible apply State.dmaPush_sound
    | with_reducible apply ite_sound | with_reducible apply ite_fst_sound | with_reducible apply each_sound
    | with_reducible apply each_fst_sound | with_reducible refine each_fst_sound' (by assumption) ?_ ?_ | split

theorem State.devAtomic_sound {o : State} {s : State} {k : Nat} {bus : Nat} {addr : Nat} {op : Nat} {size : Nat} {arg
    : Word} {arg2 : Word} {tag : Nat} (hS : s.Sound ⟨k0, k1, k2, k3, false, k5, k6, k7, k8, k9, k10, k11, k12, false,
    k14, false, false, k17⟩ o) : (State.devAtomic s k bus addr op size arg arg2 tag).Sound ⟨k0, k1, k2, k3, false, k5,
    k6, k7, k8, k9, k10, k11, k12, false, k14, false, false, k17⟩ o := by
  unfold State.devAtomic; try dsimp only
  repeat' first
    | with_reducible assumption | with_reducible intro _ | with_reducible apply State.devRefuse_sound
    | with_reducible apply State.dmaPush_sound | with_reducible apply ite_sound | with_reducible apply ite_fst_sound
    | split

theorem State.devErr_sound {o : State} {s : State} {k : Nat} {reqId : Nat} {sev : Nat} (hS : s.Sound ⟨false, k1, k2,
    k3, k4, k5, k6, k7, k8, k9, k10, k11, k12, k13, k14, false, false, k17⟩ o) : (State.devErr s k reqId sev).Sound
    ⟨false, k1, k2, k3, k4, k5, k6, k7, k8, k9, k10, k11, k12, k13, k14, false, false, k17⟩ o := by
  unfold State.devErr; try dsimp only
  with_reducible repeat' first
    | assumption | intro _ | apply State.setF_sound | apply State.incF_sound | apply State.record_sound
    | apply State.raiseOwn_sound | apply ite_sound | apply ite_fst_sound

theorem State.devIntx_sound {o : State} {s : State} {k : ℕ} (hS : s.Sound ⟨k0, k1, k2, k3, k4, k5, k6, k7, k8, k9,
    k10, k11, k12, k13, k14, false, false, k17⟩ o) : (State.devIntx s k).Sound ⟨k0, k1, k2, k3, k4, k5, k6, k7, k8,
    k9, k10, k11, k12, k13, k14, false, false, k17⟩ o := by
  unfold State.devIntx; try dsimp only
  with_reducible repeat' first | assumption | intro _ | apply State.record_sound | apply ite_sound

theorem State.setFn_sound {o : State} {s : State} {port : ℕ} {f : ℕ} {fl : Fld} {v : ℕ} (hS : s.Sound ⟨false, k1, k2,
    k3, k4, k5, k6, k7, k8, k9, k10, k11, k12, k13, k14, k15, k16, k17⟩ o) : (State.setFn s port f fl v).Sound ⟨false,
    k1, k2, k3, k4, k5, k6, k7, k8, k9, k10, k11, k12, k13, k14, k15, k16, k17⟩ o := by
  unfold State.setFn; try dsimp only
  with_reducible repeat' first | assumption | intro _ | apply State.setF_sound

theorem State.hostReply_sound {o : State} {s : State} {port : Nat} {f : Nat} {kind : Nat} {v : Word} (hS : s.Sound
    ⟨k0, k1, k2, k3, k4, k5, k6, k7, k8, k9, k10, k11, k12, k13, k14, k15, false, k17⟩ o) : (State.hostReply s port f
    kind v).Sound ⟨k0, k1, k2, k3, k4, k5, k6, k7, k8, k9, k10, k11, k12, k13, k14, k15, false, k17⟩ o := by
  unfold State.hostReply; try dsimp only
  with_reducible repeat' first | assumption | intro _ | apply State.send_sound | apply ite_sound | apply ite_fst_sound

theorem State.setInta_sound {o : State} {s : State} {port : Nat} {f : Nat} (hS : s.Sound ⟨k0, k1, k2, k3, k4, k5, k6,
    k7, k8, k9, k10, k11, k12, false, k14, k15, false, k17⟩ o) : (State.setInta s port f).Sound ⟨k0, k1, k2, k3, k4,
    k5, k6, k7, k8, k9, k10, k11, k12, false, k14, k15, false, k17⟩ o := by
  unfold State.setInta; try dsimp only
  repeat' first
    | with_reducible assumption | with_reducible intro _ | with_reducible apply State.updFn_sound
    | with_reducible apply State.hostReply_sound | with_reducible apply ite_sound | with_reducible apply ite_fst_sound
    | split

theorem State.hostIntAct_sound {o : State} {s : State} {port : Nat} {f : Nat} {v : Nat} (hS : s.Sound ⟨k0, k1, k2, k3,
    k4, k5, k6, k7, k8, k9, k10, k11, k12, false, k14, false, false, k17⟩ o) : (State.hostIntAct s port f v).Sound
    ⟨k0, k1, k2, k3, k4, k5, k6, k7, k8, k9, k10, k11, k12, false, k14, false, false, k17⟩ o := by
  unfold State.hostIntAct; try dsimp only
  repeat' first
    | with_reducible assumption | with_reducible intro _ | with_reducible apply State.setInta_sound
    | with_reducible apply State.updFn_sound | with_reducible apply State.postWrite_sound
    | with_reducible apply ite_sound | with_reducible apply ite_fst_sound | split

theorem State.msixKick_sound {o : State} {s : State} {port : Nat} {f : Nat} (hS : s.Sound ⟨k0, k1, k2, k3, k4, k5, k6,
    k7, k8, k9, k10, k11, k12, false, k14, false, false, k17⟩ o) : (State.msixKick s port f).Sound ⟨k0, k1, k2, k3,
    k4, k5, k6, k7, k8, k9, k10, k11, k12, false, k14, false, false, k17⟩ o := by
  unfold State.msixKick; try dsimp only
  repeat' first
    | with_reducible assumption | with_reducible intro _ | with_reducible apply State.setInta_sound
    | with_reducible apply State.hostIntAct_sound | with_reducible apply ite_sound
    | with_reducible apply ite_fst_sound | with_reducible apply each_sound | with_reducible apply each_fst_sound
    | with_reducible refine each_fst_sound' (by assumption) ?_ ?_ | split

theorem State.hostIntOp_sound {o : State} {s : State} {w : Who} {port : ℕ} {f : ℕ} {v : Word} (hS : s.Sound ⟨k0, k1,
    k2, k3, k4, k5, k6, k7, k8, k9, k10, k11, k12, false, false, false, false, k17⟩ o) : (State.hostIntOp s w port f
    v).Sound ⟨k0, k1, k2, k3, k4, k5, k6, k7, k8, k9, k10, k11, k12, false, false, false, false, k17⟩ o := by
  unfold State.hostIntOp; try dsimp only
  with_reducible repeat' first
    | assumption | intro _ | apply State.csGuard_sound | apply State.updFn_sound | apply State.whoReply_sound
    | apply State.hostIntAct_sound | apply ite_sound | apply each_sound

theorem State.copyAbort_sound {o : State} {s : State} {port : Nat} {f : Nat} (hS : s.Sound ⟨false, k1, k2, k3, k4, k5,
    k6, k7, k8, k9, k10, k11, k12, false, k14, k15, false, k17⟩ o) : (State.copyAbort s port f).Sound ⟨false, k1, k2,
    k3, k4, k5, k6, k7, k8, k9, k10, k11, k12, false, k14, k15, false, k17⟩ o := by
  unfold State.copyAbort; try dsimp only
  repeat' first
    | with_reducible assumption | with_reducible intro _ | with_reducible apply State.updSeg_sound
    | with_reducible apply State.copyEnd_sound | with_reducible apply ite_sound | with_reducible apply ite_fst_sound
    | split

theorem State.setBme_sound {o : State} {s : State} {port : Nat} {f : Nat} {on : Bool} (hS : s.Sound ⟨false, k1, k2,
    k3, k4, k5, k6, k7, k8, k9, k10, k11, k12, false, k14, false, false, k17⟩ o) : (State.setBme s port f on).Sound
    ⟨false, k1, k2, k3, k4, k5, k6, k7, k8, k9, k10, k11, k12, false, k14, false, false, k17⟩ o := by
  unfold State.setBme; try dsimp only
  with_reducible repeat' first
    | assumption | intro _ | apply State.setFn_sound | apply State.fnEvent_sound | apply State.msixKick_sound
    | apply State.copyAbort_sound | apply ite_sound | apply ite_fst_sound

theorem State.bmeClear_sound {o : State} {s : State} {port : Nat} {f : Nat} (hS : s.Sound ⟨false, k1, k2, k3, k4, k5,
    k6, k7, k8, k9, k10, k11, k12, false, k14, false, false, k17⟩ o) : (State.bmeClear s port f).Sound ⟨false, k1, k2,
    k3, k4, k5, k6, k7, k8, k9, k10, k11, k12, false, k14, false, false, k17⟩ o := by
  unfold State.bmeClear; try dsimp only
  with_reducible repeat' first
    | assumption | intro _ | apply State.setBme_sound | apply ite_sound | apply ite_fst_sound

theorem State.fnReset_sound {o : State} {s : State} {port : ℕ} {f : ℕ} (hS : s.Sound ⟨false, k1, k2, k3, k4, k5, k6,
    k7, k8, k9, k10, k11, k12, false, k14, k15, false, k17⟩ o) : (State.fnReset s port f).Sound ⟨false, k1, k2, k3,
    k4, k5, k6, k7, k8, k9, k10, k11, k12, false, k14, k15, false, k17⟩ o := by
  unfold State.fnReset; try dsimp only
  with_reducible repeat' first
    | assumption | intro _ | apply State.setFn_sound | apply State.updFn_sound | apply State.copyAbort_sound
    | apply State.setInta_sound | apply ite_sound | apply each_sound

theorem State.flr_sound {o : State} {s : State} {port : Nat} {f : Nat} (hS : s.Sound ⟨false, k1, k2, k3, k4, k5,
    false, k7, k8, k9, k10, k11, k12, false, k14, k15, false, k17⟩ o) : (State.flr s port f).Sound ⟨false, k1, k2, k3,
    k4, k5, false, k7, k8, k9, k10, k11, k12, false, k14, k15, false, k17⟩ o := by
  unfold State.flr; try dsimp only
  with_reducible repeat' first
    | assumption | intro _ | apply State.fnReset_sound | apply State.arbMask_sound | apply State.fnEvent_sound
    | apply ite_sound | apply ite_fst_sound

theorem State.flrDone_sound {o : State} {s : State} {port : Nat} {f : Nat} (hS : s.Sound ⟨false, k1, k2, k3, k4, k5,
    false, k7, k8, k9, k10, k11, k12, k13, k14, k15, k16, k17⟩ o) : (State.flrDone s port f).Sound ⟨false, k1, k2, k3,
    k4, k5, false, k7, k8, k9, k10, k11, k12, k13, k14, k15, k16, k17⟩ o := by
  unfold State.flrDone; try dsimp only
  with_reducible repeat' first
    | assumption | intro _ | apply State.setFn_sound | apply State.arbMask_sound | apply ite_sound
    | apply ite_fst_sound

theorem State.setLinkUp_sound {o : State} {s : State} {port : ℕ} {v : ℕ} (hS : s.Sound ⟨false, k1, k2, k3, k4, k5,
    k6, k7, k8, k9, k10, k11, k12, k13, k14, k15, k16, k17⟩ o) : (State.setLinkUp s port v).Sound ⟨false, k1, k2, k3,
    k4, k5, k6, k7, k8, k9, k10, k11, k12, k13, k14, k15, k16, k17⟩ o := by
  unfold State.setLinkUp; try dsimp only
  with_reducible repeat' first
    | assumption | intro _ | apply State.setFn_sound | apply ite_sound | apply each_sound

theorem State.fnMasks_sound {o : State} {s : State} {port : Nat} (hS : s.Sound ⟨false, k1, k2, k3, k4, k5, false, k7,
    k8, k9, k10, k11, k12, k13, k14, k15, k16, k17⟩ o) : (State.fnMasks s port).Sound ⟨false, k1, k2, k3, k4, k5,
    false, k7, k8, k9, k10, k11, k12, k13, k14, k15, k16, k17⟩ o := by
  unfold State.fnMasks; try dsimp only
  repeat' first
    | with_reducible assumption | with_reducible intro _ | with_reducible apply State.arbMask_sound
    | with_reducible apply ite_sound | with_reducible apply ite_fst_sound | with_reducible apply each_sound
    | with_reducible apply each_fst_sound | with_reducible refine each_fst_sound' (by assumption) ?_ ?_ | split

theorem State.sepDown_sound {o : State} {s : State} {port : Nat} {newState : Nat} (hS : s.Sound ⟨false, k1, k2, false,
    false, false, false, k7, k8, k9, k10, k11, k12, false, k14, false, false, k17⟩ o) : (State.sepDown s port
    newState).Sound ⟨false, k1, k2, false, false, false, false, k7, k8, k9, k10, k11, k12, false, k14, false, false,
    k17⟩ o := by
  unfold State.sepDown; try dsimp only
  repeat' first
    | with_reducible assumption | with_reducible intro _ | with_reducible apply State.fnReset_sound
    | with_reducible apply State.fnEvent_sound | with_reducible apply State.arbMask_sound
    | with_reducible apply State.linkDrop_sound | with_reducible apply State.setLinkUp_sound
    | with_reducible apply ite_sound | with_reducible apply ite_fst_sound | with_reducible apply each_sound
    | with_reducible apply each_fst_sound | with_reducible refine each_fst_sound' (by assumption) ?_ ?_ | split

theorem State.hostDb_sound {o : State} {s : State} {port : Nat} {f : Nat} {v : BitVec 32} (hS : s.Sound ⟨false, k1,
    k2, k3, k4, k5, k6, k7, k8, k9, k10, k11, k12, k13, k14, k15, false, k17⟩ o) : (State.hostDb s port f v).Sound
    ⟨false, k1, k2, k3, k4, k5, k6, k7, k8, k9, k10, k11, k12, k13, k14, k15, false, k17⟩ o := by
  unfold State.hostDb; try dsimp only
  with_reducible repeat' first
    | assumption | intro _ | apply State.hostReply_sound | apply State.setReg_sound | apply State.fnEvent_sound
    | apply ite_sound | apply ite_fst_sound

theorem State.setMsix_sound {o : State} {s : State} {port : Nat} {f : Nat} {on : Bool} (hS : s.Sound ⟨false, k1, k2,
    k3, k4, k5, k6, k7, k8, k9, k10, k11, k12, false, k14, false, false, k17⟩ o) : (State.setMsix s port f on).Sound
    ⟨false, k1, k2, k3, k4, k5, k6, k7, k8, k9, k10, k11, k12, false, k14, false, false, k17⟩ o := by
  unfold State.setMsix; try dsimp only
  repeat' first
    | with_reducible assumption | with_reducible intro _ | with_reducible apply State.setFn_sound
    | with_reducible apply State.setInta_sound | with_reducible apply State.hostIntAct_sound
    | with_reducible apply State.msixKick_sound | with_reducible apply ite_sound | with_reducible apply ite_fst_sound
    | with_reducible apply each_sound | with_reducible apply each_fst_sound
    | with_reducible refine each_fst_sound' (by assumption) ?_ ?_ | split

theorem State.hostCfg_sound {o : State} {s : State} {port : Nat} {f : Nat} {reg : Nat} {wr : Option (BitVec 32)} (hS :
    s.Sound ⟨false, k1, k2, k3, k4, k5, false, k7, k8, k9, k10, k11, k12, false, k14, false, false, k17⟩ o) :
    (State.hostCfg s port f reg wr).Sound ⟨false, k1, k2, k3, k4, k5, false, k7, k8, k9, k10, k11, k12, false, k14,
    false, false, k17⟩ o := by
  unfold State.hostCfg; try dsimp only
  repeat' first
    | with_reducible assumption | with_reducible intro _ | with_reducible apply State.hostReply_sound
    | with_reducible apply State.updFn_sound | with_reducible apply State.setFn_sound
    | with_reducible apply State.setBme_sound | with_reducible apply State.setInta_sound
    | with_reducible apply State.setMsix_sound | with_reducible apply State.flr_sound | with_reducible apply ite_sound
    | with_reducible apply ite_fst_sound | split

theorem State.copyCtl_sound {o : State} {s : State} {w : Who} {port : ℕ} {f : ℕ} {v : Word} (hS : s.Sound ⟨false, k1,
    k2, k3, false, k5, k6, k7, k8, k9, k10, k11, k12, false, false, false, false, k17⟩ o) : (State.copyCtl s w port f
    v).Sound ⟨false, k1, k2, k3, false, k5, k6, k7, k8, k9, k10, k11, k12, false, false, false, false, k17⟩ o := by
  unfold State.copyCtl; try dsimp only
  with_reducible repeat' first
    | assumption | intro _ | apply State.csGuard_sound | apply State.whoReply_sound | apply State.plainWrite_sound
    | apply State.updFn_sound | apply State.setF_sound | apply State.copyEnd_sound | apply State.copyNext_sound
    | apply ite_sound

theorem State.copyOver_sound {o : State} {s : State} {port : ℕ} {f : ℕ} {code : ℕ} (hS : s.Sound ⟨false, k1, k2, k3,
    k4, k5, k6, k7, k8, k9, k10, k11, k12, false, k14, k15, false, k17⟩ o) : (State.copyOver s port f code).Sound
    ⟨false, k1, k2, k3, k4, k5, k6, k7, k8, k9, k10, k11, k12, false, k14, k15, false, k17⟩ o := by
  unfold State.copyOver; try dsimp only
  repeat' first
    | with_reducible assumption | with_reducible intro _ | with_reducible apply State.copyEnd_sound
    | with_reducible apply ite_sound | split

theorem State.linkUpK_sound {o : State} {s : State} {k : Nat} {speed : Nat} {width : Nat} {flit : Bool} (hS : s.Sound
    ⟨false, k1, k2, k3, k4, k5, false, k7, k8, k9, k10, k11, k12, false, k14, false, false, k17⟩ o) : (State.linkUpK s
    k speed width flit).Sound ⟨false, k1, k2, k3, k4, k5, false, k7, k8, k9, k10, k11, k12, false, k14, false, false,
    k17⟩ o := by
  unfold State.linkUpK; try dsimp only
  with_reducible repeat' first
    | assumption | intro _ | apply State.setF_sound | apply State.setLinkUp_sound | apply State.hpEvent_sound
    | apply State.fnMasks_sound | apply State.arbMask_sound | apply State.kickReqs_sound | apply ite_sound
    | apply ite_fst_sound

theorem State.linkDownK_sound {o : State} {s : State} {k : Nat} {st : Nat} (hS : s.Sound ⟨false, k1, k2, false, false,
    false, false, k7, k8, k9, k10, k11, k12, false, k14, false, false, k17⟩ o) : (State.linkDownK s k st).Sound
    ⟨false, k1, k2, false, false, false, false, k7, k8, k9, k10, k11, k12, false, k14, false, false, k17⟩ o := by
  unfold State.linkDownK; try dsimp only
  repeat' first
    | with_reducible assumption | with_reducible intro _ | with_reducible apply State.sepDown_sound
    | with_reducible apply State.arbMask_sound | with_reducible apply State.linkDrop_sound
    | with_reducible apply ite_sound | with_reducible apply ite_fst_sound | with_reducible apply when_sound | split

theorem State.recoverIn_sound {o : State} {s : State} {k : ℕ} (hS : s.Sound ⟨false, k1, k2, k3, k4, k5, k6, k7, k8,
    k9, k10, k11, k12, k13, k14, k15, k16, k17⟩ o) : (State.recoverIn s k).Sound ⟨false, k1, k2, k3, k4, k5, k6, k7,
    k8, k9, k10, k11, k12, k13, k14, k15, k16, k17⟩ o := by
  unfold State.recoverIn; try dsimp only
  with_reducible repeat' first | assumption | intro _ | apply State.setF_sound | apply ite_sound

theorem State.recoverOut_sound {o : State} {s : State} {k : ℕ} (hS : s.Sound ⟨false, k1, k2, k3, k4, k5, k6, k7, k8,
    k9, k10, k11, k12, false, k14, k15, false, k17⟩ o) : (State.recoverOut s k).Sound ⟨false, k1, k2, k3, k4, k5, k6,
    k7, k8, k9, k10, k11, k12, false, k14, k15, false, k17⟩ o := by
  unfold State.recoverOut; try dsimp only
  with_reducible repeat' first
    | assumption | intro _ | apply State.kickReqs_sound | apply State.setF_sound | apply ite_sound

theorem State.segCtlOp_sound {o : State} {s : State} {w : Who} {k : Nat} {v : Word} (hS : s.Sound ⟨false, k1, k2,
    false, false, false, false, k7, k8, k9, k10, k11, k12, false, false, false, false, k17⟩ o) : (State.segCtlOp s w k
    v).Sound ⟨false, k1, k2, false, false, false, false, k7, k8, k9, k10, k11, k12, false, false, false, false, k17⟩ o
    := by
  unfold State.segCtlOp; try dsimp only
  repeat' first
    | with_reducible assumption | with_reducible intro _ | with_reducible apply State.csGuard_sound
    | with_reducible apply State.plainWrite_sound | with_reducible apply State.whoReply_sound
    | with_reducible apply State.updSeg_sound | with_reducible apply State.perstOn_sound
    | with_reducible apply State.perstOff_sound | with_reducible apply State.linkDrop_sound
    | with_reducible apply State.setF_sound | with_reducible apply State.arbMask_sound
    | with_reducible apply State.send_sound | with_reducible apply ite_sound | with_reducible apply ite_fst_sound
    | split

theorem State.hotResetOver_sound {o : State} {s : State} {k : ℕ} (hS : s.Sound ⟨false, k1, k2, k3, k4, k5, k6, k7,
    k8, k9, k10, k11, k12, k13, k14, k15, k16, k17⟩ o) : (State.hotResetOver s k).Sound ⟨false, k1, k2, k3, k4, k5,
    k6, k7, k8, k9, k10, k11, k12, k13, k14, k15, k16, k17⟩ o := by
  unfold State.hotResetOver; try dsimp only
  with_reducible repeat' first | assumption | intro _ | apply State.setF_sound | apply ite_sound

theorem State.perstHoldOver_sound {o : State} {s : State} {k : Nat} (hS : s.Sound ⟨false, k1, k2, k3, k4, k5, false,
    k7, k8, k9, k10, k11, k12, false, k14, k15, false, k17⟩ o) : (State.perstHoldOver s k).Sound ⟨false, k1, k2, k3,
    k4, k5, false, k7, k8, k9, k10, k11, k12, false, k14, k15, false, k17⟩ o := by
  unfold State.perstHoldOver; try dsimp only
  repeat' first
    | with_reducible assumption | with_reducible intro _ | with_reducible apply State.updSeg_sound
    | with_reducible apply State.perstOff_sound | with_reducible apply ite_sound | with_reducible apply ite_fst_sound
    | split

theorem State.indicator_sound {o : State} {s : State} {name : String} {blink : String} {k : ℕ} {v : ℕ} (hS : s.Sound
    ⟨k0, k1, k2, k3, k4, k5, k6, k7, k8, k9, k10, k11, k12, k13, k14, k15, false, k17⟩ o) : (State.indicator s name
    blink k v).Sound ⟨k0, k1, k2, k3, k4, k5, k6, k7, k8, k9, k10, k11, k12, k13, k14, k15, false, k17⟩ o := by
  unfold State.indicator; try dsimp only
  with_reducible repeat' first | assumption | intro _ | apply State.send_sound

theorem State.hpCtlOp_sound {o : State} {s : State} {w : Who} {k : Nat} {v : Word} (hS : s.Sound ⟨false, k1, k2,
    false, false, false, false, k7, k8, k9, k10, k11, k12, false, false, false, false, k17⟩ o) : (State.hpCtlOp s w k
    v).Sound ⟨false, k1, k2, false, false, false, false, k7, k8, k9, k10, k11, k12, false, false, false, false, k17⟩ o
    := by
  unfold State.hpCtlOp; try dsimp only
  repeat' first
    | with_reducible assumption | with_reducible intro _ | with_reducible apply State.csGuard_sound
    | with_reducible apply State.plainWrite_sound | with_reducible apply State.whoReply_sound
    | with_reducible apply State.indicator_sound | with_reducible apply State.setF_sound
    | with_reducible apply State.perstOn_sound | with_reducible apply State.slotOn_sound
    | with_reducible apply State.updSeg_sound | with_reducible apply ite_sound | with_reducible apply ite_fst_sound
    | split

theorem State.swren_sound {o : State} {s : State} {k : ℕ} {on : Bool} (hS : s.Sound ⟨k0, k1, k2, k3, k4, k5, k6, k7,
    k8, k9, k10, k11, k12, false, k14, k15, false, k17⟩ o) : (State.swren s k on).Sound ⟨k0, k1, k2, k3, k4, k5, k6,
    k7, k8, k9, k10, k11, k12, false, k14, k15, false, k17⟩ o := by
  unfold State.swren; try dsimp only
  with_reducible repeat' first | assumption | intro _ | apply State.send_sound | apply State.updSeg_sound

theorem State.pwrgdLate_sound {o : State} {s : State} {k : ℕ} (hS : s.Sound ⟨false, k1, k2, k3, k4, k5, k6, k7, k8,
    k9, k10, k11, k12, false, k14, false, false, k17⟩ o) : (State.pwrgdLate s k).Sound ⟨false, k1, k2, k3, k4, k5, k6,
    k7, k8, k9, k10, k11, k12, false, k14, false, false, k17⟩ o := by
  unfold State.pwrgdLate; try dsimp only
  with_reducible repeat' first
    | assumption | intro _ | apply State.hpEvent_sound | apply State.setF_sound | apply State.swren_sound
    | apply ite_sound

theorem State.slotRelease_sound {o : State} {s : State} {k : Nat} (hS : s.Sound ⟨false, k1, k2, k3, k4, k5, false, k7,
    k8, k9, k10, k11, k12, false, k14, k15, false, k17⟩ o) : (State.slotRelease s k).Sound ⟨false, k1, k2, k3, k4, k5,
    false, k7, k8, k9, k10, k11, k12, false, k14, k15, false, k17⟩ o := by
  unfold State.slotRelease; try dsimp only
  repeat' first
    | with_reducible assumption | with_reducible intro _ | with_reducible apply State.setF_sound
    | with_reducible apply State.updSeg_sound | with_reducible apply State.perstOff_sound
    | with_reducible apply ite_sound | with_reducible apply ite_fst_sound | split

theorem State.pwrenDrop_sound {o : State} {s : State} {k : ℕ} (hS : s.Sound ⟨k0, k1, k2, k3, k4, k5, k6, k7, k8, k9,
    k10, k11, k12, false, k14, k15, false, k17⟩ o) : (State.pwrenDrop s k).Sound ⟨k0, k1, k2, k3, k4, k5, k6, k7, k8,
    k9, k10, k11, k12, false, k14, k15, false, k17⟩ o := by
  unfold State.pwrenDrop; try dsimp only
  with_reducible repeat' first | assumption | intro _ | apply State.swren_sound | apply ite_sound

theorem State.slotPresence_sound {o : State} {s : State} {k : Nat} {on : Bool} (hS : s.Sound ⟨false, k1, k2, false,
    false, false, false, k7, k8, k9, k10, k11, k12, false, k14, false, false, k17⟩ o) : (State.slotPresence s k
    on).Sound ⟨false, k1, k2, false, false, false, false, k7, k8, k9, k10, k11, k12, false, k14, false, false, k17⟩ o
    := by
  unfold State.slotPresence; try dsimp only
  with_reducible repeat' first
    | assumption | intro _ | apply State.setF_sound | apply State.slotOff_sound | apply State.hpEvent_sound
    | apply ite_sound | apply ite_fst_sound

theorem State.pwrgdFall_sound {o : State} {s : State} {k : Nat} (hS : s.Sound ⟨false, k1, k2, false, false, false,
    false, k7, k8, k9, k10, k11, k12, false, k14, false, false, k17⟩ o) : (State.pwrgdFall s k).Sound ⟨false, k1, k2,
    false, false, false, false, k7, k8, k9, k10, k11, k12, false, k14, false, false, k17⟩ o := by
  unfold State.pwrgdFall; try dsimp only
  with_reducible repeat' first
    | assumption | intro _ | apply State.setF_sound | apply State.slotOff_sound | apply State.hpEvent_sound
    | apply ite_sound | apply ite_fst_sound

theorem State.slotPress_sound {o : State} {s : State} {k : ℕ} (hS : s.Sound ⟨false, k1, k2, k3, k4, k5, k6, k7, k8,
    k9, k10, k11, k12, k13, k14, false, false, k17⟩ o) : (State.slotPress s k).Sound ⟨false, k1, k2, k3, k4, k5, k6,
    k7, k8, k9, k10, k11, k12, k13, k14, false, false, k17⟩ o := by
  unfold State.slotPress; try dsimp only
  with_reducible repeat' first | assumption | intro _ | apply State.hpEvent_sound | apply ite_sound

end Sys2Proof.Machine
end

