-- ==== Sys2Proof/Laws/KeepPower.lean ====
section
/-! SUPPORT. The operations of Machine/Power.lean keep State.Sound. -/

namespace Sys2Proof.Machine

variable {k0 k1 k2 k3 k4 k5 k6 k7 k8 k9 k10 k11 k12 k13 k14 k15 k16 k17 : Bool}

theorem execBudgetReport_sound {o : State} {h : Hub} {unit : Fin 14} {s : State} (hS : s.Sound ⟨false, k1, k2, k3,
    k4, k5, k6, k7, k8, k9, k10, k11, k12, k13, false, false, false, k17⟩ o) : OutSound ⟨false, k1, k2, k3, k4, k5,
    k6, k7, k8, k9, k10, k11, k12, k13, false, false, false, k17⟩ o (execBudgetReport h unit s) := by
  unfold execBudgetReport; try dsimp only
  with_reducible repeat' first
    | assumption | intro _ | apply next_sound | apply ite_out_sound | apply State.reportIn_sound

theorem execBudgetStale_sound {o : State} {s : State} (hS : s.Sound ⟨false, k1, k2, k3, k4, k5, k6, k7, k8, k9, k10,
    k11, k12, k13, k14, k15, false, k17⟩ o) : OutSound ⟨false, k1, k2, k3, k4, k5, k6, k7, k8, k9, k10, k11, k12, k13,
    k14, k15, false, k17⟩ o (execBudgetStale s) := by
  unfold execBudgetStale; try dsimp only
  with_reducible repeat' first
    | assumption | intro _ | apply next_sound | apply ite_out_sound | apply State.staleOp_sound

theorem execPowerGrant_sound {o : State} {unit : Fin 14} {level : Fin 8} {s : State} (hS : s.Sound ⟨false, k1, k2,
    k3, k4, k5, k6, k7, k8, k9, k10, k11, k12, k13, false, k15, false, k17⟩ o) : OutSound ⟨false, k1, k2, k3, k4, k5,
    k6, k7, k8, k9, k10, k11, k12, k13, false, k15, false, k17⟩ o (execPowerGrant unit level s) := by
  unfold execPowerGrant; try dsimp only
  with_reducible repeat' first
    | assumption | intro _ | apply next_sound | apply ite_out_sound | apply State.grant_sound

theorem execAvsVdone_sound {o : State} {unit : Fin 14} {s : State} (hS : s.Sound ⟨false, k1, k2, k3, k4, k5, k6, k7,
    k8, k9, k10, k11, k12, k13, false, k15, false, k17⟩ o) : OutSound ⟨false, k1, k2, k3, k4, k5, k6, k7, k8, k9, k10,
    k11, k12, k13, false, k15, false, k17⟩ o (execAvsVdone unit s) := by
  unfold execAvsVdone; try dsimp only
  with_reducible repeat' first
    | assumption | intro _ | apply next_sound | apply ite_out_sound | apply State.avsDone_sound

theorem execAvsTimeout_sound {o : State} {unit : Fin 14} {s : State} (hS : s.Sound ⟨false, k1, k2, k3, k4, k5, k6,
    k7, k8, k9, k10, k11, k12, k13, false, false, false, k17⟩ o) : OutSound ⟨false, k1, k2, k3, k4, k5, k6, k7, k8,
    k9, k10, k11, k12, k13, false, false, false, k17⟩ o (execAvsTimeout unit s) := by
  unfold execAvsTimeout; try dsimp only
  with_reducible repeat' first
    | assumption | intro _ | apply next_sound | apply ite_out_sound | apply State.avsFail_sound

theorem execDomainDrainDone_sound {o : State} {d : Die} {cluster : Option (Fin 2)} {s : State} (hS : s.Sound ⟨false,
    false, false, k3, false, k5, false, false, false, false, k10, k11, k12, k13, false, false, false, k17⟩ o) :
    OutSound ⟨false, false, false, k3, false, k5, false, false, false, false, k10, k11, k12, k13, false, false, false,
    k17⟩ o (execDomainDrainDone d cluster s) := by
  unfold execDomainDrainDone; try dsimp only
  repeat' first
    | with_reducible assumption | with_reducible intro _ | with_reducible apply State.drainDone_sound
    | with_reducible apply ite_out_sound | with_reducible apply next_sound | with_reducible apply ite_sound
    | with_reducible apply ite_fst_sound | split

theorem execDieWakeDone_sound {o : State} {d : Die} {s : State} (hS : s.Sound ⟨false, k1, k2, k3, false, k5, false,
    k7, k8, k9, k10, k11, k12, k13, false, k15, false, k17⟩ o) : OutSound ⟨false, k1, k2, k3, false, k5, false, k7,
    k8, k9, k10, k11, k12, k13, false, k15, false, k17⟩ o (execDieWakeDone d s) := by
  unfold execDieWakeDone; try dsimp only
  with_reducible repeat' first
    | assumption | intro _ | apply next_sound | apply ite_out_sound | apply State.wakeDone_sound

theorem State.restReqOp_sound {o : State} {s : State} {w : Who} {v : Word} (hS : s.Sound ⟨false, k1, k2, k3, k4, k5,
    k6, k7, k8, k9, k10, k11, k12, k13, false, false, false, k17⟩ o) : (State.restReqOp s w v).Sound ⟨false, k1, k2,
    k3, k4, k5, k6, k7, k8, k9, k10, k11, k12, k13, false, false, false, k17⟩ o := by
  unfold State.restReqOp; try dsimp only
  with_reducible repeat' first
    | assumption | intro _ | apply State.csGuard_sound | apply State.whoReply_sound | apply State.setReg_sound

theorem execRestReqWrite_sound {o : State} {who : Sender} {v : Word} {s : State} (hS : s.Sound ⟨false, k1, k2, k3,
    k4, k5, k6, k7, k8, k9, k10, k11, k12, k13, false, false, false, k17⟩ o) : OutSound ⟨false, k1, k2, k3, k4, k5,
    k6, k7, k8, k9, k10, k11, k12, k13, false, false, false, k17⟩ o (execRestReqWrite who v s) := by
  unfold execRestReqWrite; try dsimp only
  with_reducible repeat' first
    | assumption | intro _ | apply next_sound | apply ite_out_sound | apply State.restReqOp_sound

theorem State.hubReqOp_sound {o : State} {s : State} {w : Who} {v : Word} (hS : s.Sound ⟨false, k1, k2, k3, k4, k5,
    k6, k7, k8, k9, k10, k11, k12, k13, false, false, false, k17⟩ o) : (State.hubReqOp s w v).Sound ⟨false, k1, k2,
    k3, k4, k5, k6, k7, k8, k9, k10, k11, k12, k13, false, false, false, k17⟩ o := by
  unfold State.hubReqOp; try dsimp only
  with_reducible repeat' first
    | assumption | intro _ | apply State.csGuard_sound | apply State.whoReply_sound | apply State.setReg_sound

theorem execPwrHubReqWrite_sound {o : State} {who : Sender} {v : Word} {s : State} (hS : s.Sound ⟨false, k1, k2, k3,
    k4, k5, k6, k7, k8, k9, k10, k11, k12, k13, false, false, false, k17⟩ o) : OutSound ⟨false, k1, k2, k3, k4, k5,
    k6, k7, k8, k9, k10, k11, k12, k13, false, false, false, k17⟩ o (execPwrHubReqWrite who v s) := by
  unfold execPwrHubReqWrite; try dsimp only
  with_reducible repeat' first
    | assumption | intro _ | apply next_sound | apply ite_out_sound | apply State.hubReqOp_sound

theorem State.plReqOp_sound {o : State} {s : State} {w : Who} {d : ℕ} {k : ℕ} {v : Word} (hS : s.Sound ⟨false, k1,
    k2, k3, k4, k5, k6, k7, k8, k9, k10, k11, k12, k13, false, false, false, k17⟩ o) : (State.plReqOp s w d k v).Sound
    ⟨false, k1, k2, k3, k4, k5, k6, k7, k8, k9, k10, k11, k12, k13, false, false, false, k17⟩ o := by
  unfold State.plReqOp; try dsimp only
  with_reducible repeat' first
    | assumption | intro _ | apply State.csGuard_sound | apply State.whoReply_sound | apply State.setReg_sound

theorem execCdPlReqWrite_sound {o : State} {who : Sender} {d : Die} {k : Fin 2} {v : Word} {s : State} (hS : s.Sound
    ⟨false, k1, k2, k3, k4, k5, k6, k7, k8, k9, k10, k11, k12, k13, false, false, false, k17⟩ o) : OutSound ⟨false,
    k1, k2, k3, k4, k5, k6, k7, k8, k9, k10, k11, k12, k13, false, false, false, k17⟩ o (execCdPlReqWrite who d k v s)
    := by
  unfold execCdPlReqWrite; try dsimp only
  with_reducible repeat' first
    | assumption | intro _ | apply next_sound | apply ite_out_sound | apply State.plReqOp_sound

theorem State.plReqReset_sound {o : State} {s : State} {c : ℕ} (hS : s.Sound ⟨false, k1, k2, k3, k4, k5, k6, k7, k8,
    k9, k10, k11, k12, k13, k14, k15, k16, k17⟩ o) : (State.plReqReset s c).Sound ⟨false, k1, k2, k3, k4, k5, k6, k7,
    k8, k9, k10, k11, k12, k13, k14, k15, k16, k17⟩ o := by
  unfold State.plReqReset; try dsimp only
  with_reducible repeat' first | assumption | intro _ | apply State.setF_sound

end Sys2Proof.Machine
end

