-- ==== Sys2Proof/Laws/KeepChangeOps.lean ====
section
/-! SUPPORT. The operations of Machine/ChangeOps.lean keep State.Sound. -/

namespace Sys2Proof.Machine

variable {k0 k1 k2 k3 k4 k5 k6 k7 k8 k9 k10 k11 k12 k13 k14 k15 k16 k17 : Bool}

theorem State.viewLine_sound {o : State} {s : State} {line : Nat} (hS : s.Sound ⟨false, k1, k2, k3, k4, k5, k6, k7,
    false, false, k10, k11, k12, k13, k14, false, false, k17⟩ o) : (State.viewLine s line).1.Sound ⟨false, k1, k2, k3,
    k4, k5, k6, k7, false, false, k10, k11, k12, k13, k14, false, false, k17⟩ o := by
  unfold State.viewLine; try dsimp only
  repeat' first
    | with_reducible assumption | with_reducible intro _
    | with_reducible refine State.readLine_sound' (by assumption) ?_ | with_reducible apply State.readLine_sound
    | with_reducible apply State.memUe_sound | with_reducible refine State.rebuildPage_sound' (by assumption) ?_
    | with_reducible apply State.rebuildPage_sound | with_reducible apply State.record_sound
    | with_reducible apply ite_sound | with_reducible apply ite_fst_sound | with_reducible apply foldl_sound
    | with_reducible apply foldl_fst_sound | with_reducible refine foldl_fst_sound' (by assumption) ?_ ?_ | split

theorem State.viewLine_sound' {o : State} {s : State} {line : Nat} {u_ : State} {res} (e : State.viewLine s line =
    (u_, res)) (hS : s.Sound ⟨false, k1, k2, k3, k4, k5, k6, k7, false, false, k10, k11, k12, k13, k14, false, false,
    k17⟩ o) : u_.Sound ⟨false, k1, k2, k3, k4, k5, k6, k7, false, false, k10, k11, k12, k13, k14, false, false, k17⟩ o
    :=
  fst_sound e (State.viewLine_sound hS)

theorem State.viewPiece_sound {o s : State} {p addr m : Nat} (hS : s.Sound ⟨false, k1, k2, k3, k4, k5, k6, k7, false, false, k10, k11, k12, k13, k14, false, false, false⟩ o) :
    (State.viewPiece s p addr m).1.Sound ⟨false, k1, k2, k3, k4, k5, k6, k7, false, false, k10, k11, k12, k13, k14, false, false, false⟩ o := by
  unfold State.viewPiece
  dsimp only
  split
  · exact hS
  · split
    · exact ite_sound (State.record_sound hS) hS
    · repeat' split
      · exact State.viewLine_sound hS
      · exact State.draw512_sound hS
      · exact hS

theorem State.viewPiece_sound' {o s t : State} {p addr m : Nat} {r : Option (List Byte)}
    (e : State.viewPiece s p addr m = (t, r)) (hS : s.Sound ⟨false, k1, k2, k3, k4, k5, k6, k7, false, false, k10, k11, k12, k13, k14, false, false, false⟩ o) : t.Sound ⟨false, k1, k2, k3, k4, k5, k6, k7, false, false, k10, k11, k12, k13, k14, false, false, false⟩ o := fst_sound e (State.viewPiece_sound hS)

theorem State.viewBytes_sound {o : State} {s : State} {p : Nat} {addr : Nat} {len : Nat} (hS : s.Sound ⟨false, k1, k2,
    k3, k4, k5, k6, k7, false, false, k10, k11, k12, k13, k14, false, false, false⟩ o) : (State.viewBytes s p addr
    len).1.Sound ⟨false, k1, k2, k3, k4, k5, k6, k7, false, false, k10, k11, k12, k13, k14, false, false, false⟩ o :=
    by
  unfold State.viewBytes; try dsimp only
  repeat' first
    | with_reducible assumption | with_reducible intro _
    | with_reducible refine State.viewPiece_sound' (by assumption) ?_ | with_reducible apply State.viewPiece_sound
    | with_reducible apply ite_sound | with_reducible apply ite_fst_sound | with_reducible apply foldl_sound
    | with_reducible apply foldl_fst_sound | with_reducible refine foldl_fst_sound' (by assumption) ?_ ?_ | split

theorem State.viewBytes_sound' {o : State} {s : State} {p : Nat} {addr : Nat} {len : Nat} {u_ : State} {res} (e :
    State.viewBytes s p addr len = (u_, res)) (hS : s.Sound ⟨false, k1, k2, k3, k4, k5, k6, k7, false, false, k10,
    k11, k12, k13, k14, false, false, false⟩ o) : u_.Sound ⟨false, k1, k2, k3, k4, k5, k6, k7, false, false, k10, k11,
    k12, k13, k14, false, false, false⟩ o :=
  fst_sound e (State.viewBytes_sound hS)

theorem State.readFor_sound {o : State} {s : State} {r : TRec} (hS : s.Sound ⟨false, k1, k2, k3, k4, k5, k6, k7,
    false, false, k10, k11, k12, k13, k14, false, false, false⟩ o) : (State.readFor s r).1.Sound ⟨false, k1, k2, k3,
    k4, k5, k6, k7, false, false, k10, k11, k12, k13, k14, false, false, false⟩ o := by
  unfold State.readFor; try dsimp only
  repeat' first
    | with_reducible assumption | with_reducible intro _
    | with_reducible refine State.viewBytes_sound' (by assumption) ?_ | with_reducible apply State.viewBytes_sound
    | with_reducible apply ite_sound | with_reducible apply ite_fst_sound | split

theorem State.readFor_sound' {o : State} {s : State} {r : TRec} {u_ : State} {res} (e : State.readFor s r = (u_, res))
    (hS : s.Sound ⟨false, k1, k2, k3, k4, k5, k6, k7, false, false, k10, k11, k12, k13, k14, false, false, false⟩ o) :
    u_.Sound ⟨false, k1, k2, k3, k4, k5, k6, k7, false, false, k10, k11, k12, k13, k14, false, false, false⟩ o :=
  fst_sound e (State.readFor_sound hS)

theorem State.fetchFor_sound {o : State} {s : State} {t : Ticket} (hS : s.Sound ⟨false, k1, k2, k3, k4, k5, k6, k7,
    false, false, k10, false, k12, k13, k14, false, false, false⟩ o) : (State.fetchFor s t).Sound ⟨false, k1, k2, k3,
    k4, k5, k6, k7, false, false, k10, false, k12, k13, k14, false, false, false⟩ o := by
  unfold State.fetchFor; try dsimp only
  repeat' first
    | with_reducible assumption | with_reducible intro _
    | with_reducible refine State.readFor_sound' (by assumption) ?_ | with_reducible apply State.readFor_sound
    | with_reducible apply State.onSec_sound | with_reducible apply ite_sound | with_reducible apply ite_fst_sound
    | with_reducible apply each_sound | with_reducible apply each_fst_sound
    | with_reducible refine each_fst_sound' (by assumption) ?_ ?_ | split

theorem State.regionRegs_sound {o : State} {s : State} {r : TRec} (hS : s.Sound ⟨false, k1, k2, k3, k4, k5, k6, k7,
    false, k9, k10, k11, k12, k13, k14, k15, k16, k17⟩ o) : (State.regionRegs s r).Sound ⟨false, k1, k2, k3, k4, k5,
    k6, k7, false, k9, k10, k11, k12, k13, k14, k15, k16, k17⟩ o := by
  unfold State.regionRegs; try dsimp only
  repeat' first
    | with_reducible assumption | with_reducible intro _ | with_reducible apply State.onDram_sound
    | with_reducible apply State.setRegion_sound | with_reducible apply State.setF_sound
    | with_reducible apply ite_sound | with_reducible rfl | rfl

theorem State.partRegs_sound {o : State} {s : State} {r : TRec} (hS : s.Sound ⟨false, k1, k2, k3, k4, k5, k6, k7, k8,
    k9, k10, k11, k12, k13, k14, k15, k16, k17⟩ o) : (State.partRegs s r).Sound ⟨false, k1, k2, k3, k4, k5, k6, k7,
    k8, k9, k10, k11, k12, k13, k14, k15, k16, k17⟩ o := by
  unfold State.partRegs; try dsimp only
  with_reducible repeat' first
    | assumption | intro _ | apply State.setPartInfo_sound | apply State.setF_sound | apply State.setFns_sound
    | apply State.ownCore_sound | apply ite_sound | apply each_sound

theorem State.regSetRegs_sound {o : State} {s : State} {r : TRec} (hS : s.Sound ⟨false, k1, k2, k3, k4, k5, k6, k7,
    k8, k9, k10, k11, k12, k13, k14, k15, k16, k17⟩ o) : (State.regSetRegs s r).Sound ⟨false, k1, k2, k3, k4, k5, k6,
    k7, k8, k9, k10, k11, k12, k13, k14, k15, k16, k17⟩ o := by
  unfold State.regSetRegs; try dsimp only
  repeat' first
    | with_reducible assumption | with_reducible intro _ | with_reducible apply State.setReg_sound
    | with_reducible apply State.setF_sound | with_reducible apply ite_sound | split

theorem State.farCeil_sound {o : State} {s : State} {q : ℕ} {v : ℕ} (hS : s.Sound ⟨k0, k1, false, k3, k4, k5, k6, k7,
    k8, k9, k10, k11, k12, k13, k14, k15, k16, k17⟩ o) : (State.farCeil s q v).Sound ⟨k0, k1, false, k3, k4, k5, k6,
    k7, k8, k9, k10, k11, k12, k13, k14, k15, k16, k17⟩ o := by
  unfold State.farCeil; try dsimp only
  repeat' first
    | with_reducible assumption | with_reducible intro _ | with_reducible apply State.onBoot_sound
    | with_reducible apply ite_sound | with_reducible rfl | rfl

theorem State.recRegs_sound {o : State} {s : State} {r : TRec} (hS : s.Sound ⟨false, k1, false, k3, k4, k5, k6, k7,
    false, k9, k10, k11, k12, k13, k14, k15, k16, k17⟩ o) : (State.recRegs s r).Sound ⟨false, k1, false, k3, k4, k5,
    k6, k7, false, k9, k10, k11, k12, k13, k14, k15, k16, k17⟩ o := by
  unfold State.recRegs; try dsimp only
  repeat' first
    | with_reducible assumption | with_reducible intro _ | with_reducible apply State.onBoot_sound
    | with_reducible apply State.ownCore_sound | with_reducible apply State.regionRegs_sound
    | with_reducible apply State.setF_sound | with_reducible apply State.partRegs_sound
    | with_reducible apply State.farCeil_sound | with_reducible apply State.regSetRegs_sound
    | with_reducible apply State.setOfficers_sound | with_reducible apply State.setReg_sound
    | with_reducible apply ite_sound | with_reducible apply each_sound | with_reducible apply each_fst_sound
    | with_reducible refine each_fst_sound' (by assumption) ?_ ?_ | with_reducible rfl | rfl | split

theorem State.moveRegs_sound {o : State} {s : State} {c : ℕ} (hS : s.Sound ⟨false, k1, k2, k3, k4, k5, k6, k7, k8,
    k9, k10, k11, k12, k13, k14, k15, k16, k17⟩ o) : (State.moveRegs s c).Sound ⟨false, k1, k2, k3, k4, k5, k6, k7,
    k8, k9, k10, k11, k12, k13, k14, k15, k16, k17⟩ o := by
  unfold State.moveRegs; try dsimp only
  with_reducible repeat' first
    | assumption | intro _ | apply State.resetReg_sound | apply State.plReqReset_sound | apply State.setF_sound
    | apply ite_sound | apply each_sound

theorem State.moveCore_sound {o : State} {s : State} {c : Nat} {p : Nat} (hS : s.Sound ⟨false, k1, k2, false, false,
    false, false, false, false, false, k10, k11, k12, false, k14, false, false, k17⟩ o) : (State.moveCore s c p).Sound
    ⟨false, k1, k2, false, false, false, false, false, false, false, k10, k11, k12, false, k14, false, false, k17⟩ o
    := by
  unfold State.moveCore; try dsimp only
  repeat' first
    | with_reducible assumption | with_reducible intro _ | with_reducible apply State.moveHeld_sound
    | with_reducible apply State.dropCore_sound | with_reducible apply State.purgeCore_sound
    | with_reducible apply State.coreEmpty_sound | with_reducible apply State.setCoreH_sound
    | with_reducible apply State.moveRegs_sound | with_reducible apply State.onCores_sound
    | with_reducible apply State.twinRelease_sound | with_reducible apply State.ownCore_sound
    | with_reducible apply State.maskCore_sound | with_reducible apply State.setCoreState_sound
    | with_reducible apply ite_sound | with_reducible apply ite_fst_sound | with_reducible apply when_sound | split

theorem State.dieReturn_sound {o : State} {s : State} {d : Nat} (hS : s.Sound ⟨false, false, false, k3, false, k5, k6,
    false, k8, k9, false, k11, k12, k13, k14, false, false, k17⟩ o) : (State.dieReturn s d).Sound ⟨false, false,
    false, k3, false, k5, k6, false, k8, k9, false, k11, k12, k13, k14, false, false, k17⟩ o := by
  unfold State.dieReturn; try dsimp only
  repeat' first
    | with_reducible assumption | with_reducible intro _ | with_reducible apply State.clearDie_sound
    | with_reducible apply State.resumeLink_sound | with_reducible apply State.incF_sound
    | with_reducible apply State.onHome_sound | with_reducible apply State.trigOn_sound
    | with_reducible apply ite_sound | with_reducible apply ite_fst_sound | split

theorem State.moveCores_sound {o : State} {s : State} {r : TRec} (hS : s.Sound ⟨false, false, false, false, false,
    false, false, false, false, false, false, k11, k12, false, false, false, false, k17⟩ o) : (State.moveCores s
    r).Sound ⟨false, false, false, false, false, false, false, false, false, false, false, k11, k12, false, false,
    false, false, k17⟩ o := by
  unfold State.moveCores; try dsimp only
  repeat' first
    | with_reducible assumption | with_reducible intro _ | with_reducible apply State.moveCore_sound
    | with_reducible apply State.dieReturn_sound | with_reducible apply State.startWake_sound
    | with_reducible apply ite_sound | with_reducible apply ite_fst_sound | with_reducible apply each_sound
    | with_reducible apply each_fst_sound | with_reducible refine each_fst_sound' (by assumption) ?_ ?_ | split

theorem State.setXferBusy_sound {o : State} {s : State} (hS : s.Sound ⟨false, k1, k2, k3, k4, k5, k6, k7, k8, k9,
    k10, k11, k12, k13, k14, k15, k16, k17⟩ o) : (State.setXferBusy s).Sound ⟨false, k1, k2, k3, k4, k5, k6, k7, k8,
    k9, k10, k11, k12, k13, k14, k15, k16, k17⟩ o := by
  unfold State.setXferBusy; try dsimp only
  with_reducible repeat' first | assumption | intro _ | apply State.setF_sound

theorem State.xferBegin_sound {o : State} {s : State} {x : Xfer} (hS : s.Sound ⟨false, k1, k2, k3, false, k5, false,
    false, false, false, k10, false, k12, k13, k14, false, false, k17⟩ o) : (State.xferBegin s x).Sound ⟨false, k1,
    k2, k3, false, k5, false, false, false, false, k10, false, k12, k13, k14, false, false, k17⟩ o := by
  unfold State.xferBegin; try dsimp only
  repeat' first
    | with_reducible assumption | with_reducible intro _ | with_reducible apply State.onSec_sound
    | with_reducible apply State.setXferBusy_sound | with_reducible apply State.homeOwn_sound
    | with_reducible apply ite_sound | with_reducible apply ite_fst_sound | with_reducible apply each_sound
    | with_reducible apply each_fst_sound | with_reducible refine each_fst_sound' (by assumption) ?_ ?_ | split

theorem State.regionApply_sound {o : State} {s : State} {r : TRec} {old : Word} {oldSize : Nat} (hS : s.Sound ⟨false,
    k1, k2, k3, false, k5, false, false, false, false, k10, false, k12, k13, k14, false, false, k17⟩ o) :
    (State.regionApply s r old oldSize).Sound ⟨false, k1, k2, k3, false, k5, false, false, false, false, k10, false,
    k12, k13, k14, false, false, k17⟩ o := by
  unfold State.regionApply; try dsimp only
  repeat' first
    | with_reducible assumption | with_reducible intro _ | with_reducible apply State.xferBegin_sound
    | with_reducible apply ite_sound | with_reducible apply ite_fst_sound | split

theorem State.partApply_sound {o : State} {s : State} {r : TRec} {twinWas : Bool} (hS : s.Sound ⟨false, false, k2,
    false, false, k5, false, false, false, false, k10, false, k12, k13, k14, false, false, false⟩ o) :
    (State.partApply s r twinWas).Sound ⟨false, false, k2, false, false, k5, false, false, false, false, k10, false,
    k12, k13, k14, false, false, false⟩ o := by
  unfold State.partApply; try dsimp only
  repeat' first
    | with_reducible assumption | with_reducible intro _ | with_reducible apply State.haltOne_sound
    | with_reducible apply State.setF_sound | with_reducible apply State.onCores_sound
    | with_reducible apply State.newKey_sound | with_reducible apply State.xferBegin_sound
    | with_reducible apply ite_sound | with_reducible apply ite_fst_sound | with_reducible apply each_sound
    | with_reducible apply each_fst_sound | with_reducible refine each_fst_sound' (by assumption) ?_ ?_ | split

theorem State.fnsStart_sound {o : State} {s : State} {p : Nat} (hS : s.Sound ⟨false, k1, k2, k3, k4, k5, false, k7,
    k8, k9, k10, k11, k12, false, k14, false, false, k17⟩ o) : (State.fnsStart s p).Sound ⟨false, k1, k2, k3, k4, k5,
    false, k7, k8, k9, k10, k11, k12, false, k14, false, false, k17⟩ o := by
  unfold State.fnsStart; try dsimp only
  repeat' first
    | with_reducible assumption | with_reducible intro _ | with_reducible apply State.arbMask_sound
    | with_reducible apply State.msixKick_sound | with_reducible apply ite_sound | with_reducible apply ite_fst_sound
    | with_reducible apply each_sound | with_reducible apply each_fst_sound
    | with_reducible refine each_fst_sound' (by assumption) ?_ ?_ | with_reducible apply when_sound | split

theorem State.startApply_sound {o : State} {s : State} {r : TRec} {p : Nat} (hS : s.Sound ⟨false, k1, false, k3,
    false, k5, false, k7, k8, k9, k10, false, false, false, k14, false, false, k17⟩ o) : (State.startApply s r
    p).Sound ⟨false, k1, false, k3, false, k5, false, k7, k8, k9, k10, false, false, false, k14, false, false, k17⟩ o
    := by
  unfold State.startApply; try dsimp only
  repeat' first
    | with_reducible assumption | with_reducible intro _ | with_reducible apply State.setF_sound
    | with_reducible apply State.haltCores_sound | with_reducible apply State.fnsStart_sound
    | with_reducible apply State.copyStop_sound | with_reducible apply State.onSec_sound
    | with_reducible apply State.agentPush_sound | with_reducible apply State.awaitStart_sound
    | with_reducible apply State.setPartState_sound | with_reducible apply ite_sound
    | with_reducible apply ite_fst_sound | split

theorem State.debugApply_sound {o : State} {s : State} {r : TRec} {no : Nat} (hS : s.Sound ⟨false, k1, k2, k3, k4, k5,
    k6, k7, k8, k9, k10, k11, k12, k13, k14, false, false, k17⟩ o) : (State.debugApply s r no).Sound ⟨false, k1, k2,
    k3, k4, k5, k6, k7, k8, k9, k10, k11, k12, k13, k14, false, false, k17⟩ o := by
  unfold State.debugApply; try dsimp only
  repeat' first
    | with_reducible assumption | with_reducible intro _ | with_reducible apply State.setReg_sound
    | with_reducible apply State.onErr_sound | with_reducible apply State.record_sound
    | with_reducible apply ite_sound | with_reducible apply ite_fst_sound | with_reducible apply each_sound
    | with_reducible apply each_fst_sound | with_reducible refine each_fst_sound' (by assumption) ?_ ?_ | split

theorem State.updateApply_sound {o : State} {s : State} {img : List Byte} (hS : s.Sound ⟨false, k1, false, k3, k4, k5,
    k6, k7, k8, k9, k10, false, k12, k13, k14, k15, false, k17⟩ o) : (State.updateApply s img).Sound ⟨false, k1,
    false, k3, k4, k5, k6, k7, k8, k9, k10, false, k12, k13, k14, k15, false, k17⟩ o := by
  unfold State.updateApply; try dsimp only
  repeat' first
    | with_reducible assumption | with_reducible intro _ | with_reducible apply State.setF_sound
    | with_reducible apply State.onSec_sound | with_reducible apply State.onBoot_sound
    | with_reducible apply State.send_sound | with_reducible apply ite_sound | with_reducible apply ite_fst_sound
    | with_reducible rfl | rfl | split

theorem State.extend_sound {o : State} {s : State} {p : ℕ} {no : ℕ} {raw : List Byte} (hS : s.Sound ⟨false, k1, k2,
    k3, k4, k5, k6, k7, k8, k9, k10, false, k12, k13, k14, k15, k16, k17⟩ o) : (State.extend s p no raw).Sound ⟨false,
    k1, k2, k3, k4, k5, k6, k7, k8, k9, k10, false, k12, k13, k14, k15, k16, k17⟩ o := by
  unfold State.extend; try dsimp only
  with_reducible repeat' first
    | assumption | intro _ | apply State.onSec_sound | apply State.setF_sound | apply State.wrapF_sound

theorem State.applyRec_sound {o : State} {s : State} {i0 : Image} {no : Nat} {k : Nat} {r : TRec} (hS : s.Sound
    ⟨false, false, false, false, false, false, false, false, false, false, false, false, false, false, false, false,
    false, false⟩ o) : (State.applyRec s i0 no k r).Sound ⟨false, false, false, false, false, false, false, false,
    false, false, false, false, false, false, false, false, false, false⟩ o := by
  unfold State.applyRec; try dsimp only
  repeat' first
    | with_reducible assumption | with_reducible intro _ | with_reducible apply State.moveCores_sound
    | with_reducible apply State.recRegs_sound | with_reducible apply State.regionApply_sound
    | with_reducible apply State.partApply_sound | with_reducible apply State.startApply_sound
    | with_reducible apply State.setKey_sound | with_reducible apply State.debugApply_sound
    | with_reducible apply State.updateApply_sound | with_reducible apply State.assayRequest_sound
    | with_reducible apply State.extend_sound | with_reducible apply ite_sound | with_reducible apply ite_fst_sound
    | with_reducible apply each_sound | with_reducible apply each_fst_sound
    | with_reducible refine each_fst_sound' (by assumption) ?_ ?_ | split

theorem State.hubCompare_sound {o : State} {s : State} (hS : s.Sound ⟨k0, false, k2, k3, k4, k5, k6, k7, k8, k9, k10,
    k11, k12, k13, k14, false, false, k17⟩ o) : (State.hubCompare s).Sound ⟨k0, false, k2, k3, k4, k5, k6, k7, k8, k9,
    k10, k11, k12, k13, k14, false, false, k17⟩ o := by
  unfold State.hubCompare; try dsimp only
  with_reducible repeat' first | assumption | intro _ | apply State.selfFence_sound | apply ite_sound

theorem State.extendHallmark_sound {o : State} {s : State} {t : Ticket} (hS : s.Sound ⟨false, false, k2, k3, k4, k5,
    k6, k7, k8, k9, k10, k11, k12, k13, k14, false, false, k17⟩ o) : (State.extendHallmark s t).Sound ⟨false, false,
    k2, k3, k4, k5, k6, k7, k8, k9, k10, k11, k12, k13, k14, false, false, k17⟩ o := by
  unfold State.extendHallmark; try dsimp only
  repeat' first
    | with_reducible assumption | with_reducible intro _ | with_reducible apply State.onBeat_sound
    | with_reducible apply State.setF_sound | with_reducible apply State.hubCompare_sound
    | with_reducible apply State.setReg_sound | with_reducible rfl | rfl

theorem State.applyTicket_sound {o : State} {s : State} {bytes : List Byte} (hS : s.Sound ⟨false, false, false, false,
    false, false, false, false, false, false, false, false, false, false, false, false, false, false⟩ o) :
    (State.applyTicket s bytes).Sound ⟨false, false, false, false, false, false, false, false, false, false, false,
    false, false, false, false, false, false, false⟩ o := by
  unfold State.applyTicket; try dsimp only
  repeat' first
    | with_reducible assumption | with_reducible intro _ | with_reducible apply State.applyRec_sound
    | with_reducible apply State.restripeNext_sound | with_reducible apply State.onLinks_sound
    | with_reducible apply State.onSec_sound | with_reducible apply State.send_sound
    | with_reducible apply State.logEnd_sound | with_reducible apply State.extendHallmark_sound
    | with_reducible apply ite_sound | with_reducible apply ite_fst_sound | with_reducible apply each_sound
    | with_reducible apply each_fst_sound | with_reducible refine each_fst_sound' (by assumption) ?_ ?_ | split

end Sys2Proof.Machine
end

