-- ==== Sys2Proof/Laws/KeepSecOps.lean ====
section
/-! SUPPORT. The operations of Machine/SecOps.lean keep State.Sound. -/

namespace Sys2Proof.Machine

variable {k0 k1 k2 k3 k4 k5 k6 k7 k8 k9 k10 k11 k12 k13 k14 k15 k16 k17 : Bool}

theorem State.slotTo_sound {o : State} {s : State} {sl : ℕ} {st : ℕ} {code : ℕ} (hS : s.Sound ⟨false, k1, k2, k3, k4,
    k5, k6, k7, k8, k9, k10, k11, k12, k13, k14, k15, false, k17⟩ o) : (State.slotTo s sl st code).Sound ⟨false, k1,
    k2, k3, k4, k5, k6, k7, k8, k9, k10, k11, k12, k13, k14, k15, false, k17⟩ o := by
  unfold State.slotTo; try dsimp only
  with_reducible repeat' first
    | assumption | intro _ | apply State.setF_sound | apply State.raise_sound | apply ite_sound

theorem State.slotRefuse_sound {o : State} {s : State} {sl : ℕ} {code : ℕ} (hS : s.Sound ⟨false, k1, k2, k3, k4, k5,
    k6, k7, k8, k9, k10, false, k12, k13, k14, k15, false, k17⟩ o) : (State.slotRefuse s sl code).Sound ⟨false, k1,
    k2, k3, k4, k5, k6, k7, k8, k9, k10, false, k12, k13, k14, k15, false, k17⟩ o := by
  unfold State.slotRefuse; try dsimp only
  with_reducible repeat' first | assumption | intro _ | apply State.slotTo_sound | apply State.onSec_sound

theorem State.slotCommand_sound {o : State} {s : State} {sl : ℕ} {cmd : ℕ} {len : ℕ} (hS : s.Sound ⟨false, k1, k2,
    k3, k4, k5, k6, k7, k8, k9, k10, false, k12, k13, k14, k15, false, k17⟩ o) : (State.slotCommand s sl cmd
    len).Sound ⟨false, k1, k2, k3, k4, k5, k6, k7, k8, k9, k10, false, k12, k13, k14, k15, false, k17⟩ o := by
  unfold State.slotCommand; try dsimp only
  repeat' first
    | with_reducible assumption | with_reducible intro _ | with_reducible apply State.setF_sound
    | with_reducible apply State.slotTo_sound | with_reducible apply State.setReg_sound
    | with_reducible apply State.onSec_sound | with_reducible apply ite_sound | with_reducible apply each_sound
    | with_reducible apply each_fst_sound | with_reducible refine each_fst_sound' (by assumption) ?_ ?_ | split

theorem State.slotCtlOp_sound {o : State} {s : State} {w : Who} {sl : ℕ} {v : Word} (hS : s.Sound ⟨false, k1, k2, k3,
    k4, k5, k6, k7, k8, k9, k10, false, k12, k13, false, false, false, k17⟩ o) : (State.slotCtlOp s w sl v).Sound
    ⟨false, k1, k2, k3, k4, k5, k6, k7, k8, k9, k10, false, k12, k13, false, false, false, k17⟩ o := by
  unfold State.slotCtlOp; try dsimp only
  with_reducible repeat' first
    | assumption | intro _ | apply State.csGuard_sound | apply State.whoReply_sound | apply State.slotCommand_sound

theorem State.slotWordOp_sound {o : State} {s : State} {w : Who} {sl : ℕ} {off : ℕ} {v : Word} (hS : s.Sound ⟨false,
    k1, k2, k3, k4, k5, k6, k7, k8, k9, k10, k11, k12, k13, false, false, false, k17⟩ o) : (State.slotWordOp s w sl
    off v).Sound ⟨false, k1, k2, k3, k4, k5, k6, k7, k8, k9, k10, k11, k12, k13, false, false, false, k17⟩ o := by
  unfold State.slotWordOp; try dsimp only
  with_reducible repeat' first
    | assumption | intro _ | apply State.csGuard_sound | apply State.whoReply_sound | apply State.setReg_sound
    | apply ite_sound

theorem State.setTicketBusy_sound {o : State} {s : State} {on : Bool} (hS : s.Sound ⟨false, k1, k2, k3, k4, k5, k6,
    k7, k8, k9, k10, k11, k12, k13, k14, k15, k16, k17⟩ o) : (State.setTicketBusy s on).Sound ⟨false, k1, k2, k3, k4,
    k5, k6, k7, k8, k9, k10, k11, k12, k13, k14, k15, k16, k17⟩ o := by
  unfold State.setTicketBusy; try dsimp only
  with_reducible repeat' first | assumption | intro _ | apply State.setF_sound

theorem State.refuseSlot_sound {o : State} {s : State} {src : ℕ} {sl : ℕ} {code : ℕ} (hS : s.Sound ⟨false, k1, k2,
    k3, k4, k5, k6, k7, k8, k9, k10, false, k12, k13, k14, k15, false, k17⟩ o) : (State.refuseSlot s src sl
    code).Sound ⟨false, k1, k2, k3, k4, k5, k6, k7, k8, k9, k10, false, k12, k13, k14, k15, false, k17⟩ o := by
  unfold State.refuseSlot; try dsimp only
  with_reducible repeat' first
    | assumption | intro _ | apply State.slotRefuse_sound | apply State.send_sound | apply ite_sound

theorem State.ticketRefuse_sound {o : State} {s : State} {code : ℕ} (hS : s.Sound ⟨false, k1, k2, k3, k4, k5, k6, k7,
    k8, k9, k10, false, k12, k13, k14, k15, false, k17⟩ o) : (State.ticketRefuse s code).Sound ⟨false, k1, k2, k3, k4,
    k5, k6, k7, k8, k9, k10, false, k12, k13, k14, k15, false, k17⟩ o := by
  unfold State.ticketRefuse; try dsimp only
  repeat' first
    | with_reducible assumption | with_reducible intro _ | with_reducible apply State.setTicketBusy_sound
    | with_reducible apply State.onSec_sound | with_reducible apply State.refuseSlot_sound
    | with_reducible apply State.send_sound | with_reducible apply ite_sound | with_reducible apply each_sound
    | with_reducible apply each_fst_sound | with_reducible refine each_fst_sound' (by assumption) ?_ ?_ | split

theorem State.ticketDecide_sound {o : State} {s : State} (hS : s.Sound ⟨false, false, k2, k3, k4, k5, k6, false, k8,
    k9, k10, false, k12, k13, k14, k15, false, k17⟩ o) : (State.ticketDecide s).Sound ⟨false, false, k2, k3, k4, k5,
    k6, false, k8, k9, k10, false, k12, k13, k14, k15, false, k17⟩ o := by
  unfold State.ticketDecide; try dsimp only
  repeat' first
    | with_reducible assumption | with_reducible intro _ | with_reducible apply State.ticketRefuse_sound
    | with_reducible apply State.pealRefuse_sound | with_reducible apply State.tryPeal_sound
    | with_reducible apply State.onSec_sound | with_reducible apply ite_sound | with_reducible apply ite_fst_sound
    | with_reducible apply foldl_sound | with_reducible apply foldl_fst_sound
    | with_reducible refine foldl_fst_sound' (by assumption) ?_ ?_ | split

theorem State.ticketArrive_sound {o : State} {s : State} {src : ℕ} {sl : ℕ} {b : List Byte} (hS : s.Sound ⟨false,
    false, k2, k3, k4, k5, k6, false, k8, k9, k10, false, k12, k13, k14, k15, false, k17⟩ o) : (State.ticketArrive s
    src sl b).Sound ⟨false, false, k2, k3, k4, k5, k6, false, k8, k9, k10, false, k12, k13, k14, k15, false, k17⟩ o :=
    by
  unfold State.ticketArrive; try dsimp only
  with_reducible repeat' first
    | assumption | intro _ | apply State.refuseSlot_sound | apply State.setTicketBusy_sound | apply State.onSec_sound
    | apply State.ticketDecide_sound | apply State.send_sound | apply ite_sound | apply each_sound

theorem State.ticketAnswer_sound {o : State} {s : State} {src : ℕ} {code : ℕ} (hS : s.Sound ⟨false, false, k2, k3,
    k4, k5, k6, false, k8, k9, k10, false, k12, k13, k14, k15, false, k17⟩ o) : (State.ticketAnswer s src code).Sound
    ⟨false, false, k2, k3, k4, k5, k6, false, k8, k9, k10, false, k12, k13, k14, k15, false, k17⟩ o := by
  unfold State.ticketAnswer; try dsimp only
  repeat' first
    | with_reducible assumption | with_reducible intro _ | with_reducible apply State.ticketDecide_sound
    | with_reducible apply State.onSec_sound | with_reducible apply ite_sound | split

theorem State.slotVetted_sound {o : State} {s : State} {sl : ℕ} {agree : Bool} (hS : s.Sound ⟨false, false, k2, k3,
    k4, k5, k6, k7, k8, k9, k10, false, k12, k13, k14, false, false, k17⟩ o) : (State.slotVetted s sl agree).Sound
    ⟨false, false, k2, k3, k4, k5, k6, k7, k8, k9, k10, false, k12, k13, k14, false, false, k17⟩ o := by
  unfold State.slotVetted; try dsimp only
  repeat' first
    | with_reducible assumption | with_reducible intro _ | with_reducible apply State.slotRefuse_sound
    | with_reducible apply State.disagree_sound | with_reducible apply State.agreed_sound
    | with_reducible apply State.onSec_sound | with_reducible apply State.send_sound | with_reducible apply ite_sound
    | split

theorem State.ticketIn_sound {o : State} {s : State} {src : ℕ} {sl : ℕ} {b : List Byte} (hS : s.Sound ⟨false, false,
    k2, k3, k4, k5, k6, false, k8, k9, k10, false, k12, k13, k14, k15, false, k17⟩ o) : (State.ticketIn s src sl
    b).Sound ⟨false, false, k2, k3, k4, k5, k6, false, k8, k9, k10, false, k12, k13, k14, k15, false, k17⟩ o := by
  unfold State.ticketIn; try dsimp only
  with_reducible repeat' first
    | assumption | intro _ | apply State.ticketArrive_sound | apply State.take_sound | apply ite_sound

theorem State.replayTicket_sound {o : State} {s : State} {src : Nat} {b : List Byte} {agree : Bool} (hS : s.Sound
    ⟨false, false, false, false, false, false, false, false, false, false, false, false, false, false, false, false,
    false, false⟩ o) : (State.replayTicket s src b agree).Sound ⟨false, false, false, false, false, false, false,
    false, false, false, false, false, false, false, false, false, false, false⟩ o := by
  unfold State.replayTicket; try dsimp only
  with_reducible repeat' first
    | assumption | intro _ | apply State.send_sound | apply State.disagree_sound | apply State.agreed_sound
    | apply State.applyTicket_sound | apply ite_sound | apply ite_fst_sound

theorem State.remoteVet_sound {o : State} {s : State} {src : Nat} {b : List Byte} {agree : Bool} (hS : s.Sound ⟨false,
    false, false, false, false, false, false, false, false, false, false, false, false, false, false, false, false,
    false⟩ o) : (State.remoteVet s src b agree).Sound ⟨false, false, false, false, false, false, false, false, false,
    false, false, false, false, false, false, false, false, false⟩ o := by
  unfold State.remoteVet; try dsimp only
  with_reducible repeat' first
    | assumption | intro _ | apply State.replayTicket_sound | apply State.take_sound | apply State.disagree_sound
    | apply State.ticketAnswer_sound | apply State.agreed_sound | apply State.setTicketBusy_sound
    | apply State.send_sound | apply ite_sound | apply ite_fst_sound

theorem State.vetResult_sound {o : State} {s : State} {src : Nat} {sl : Option Nat} {code : Nat} (hS : s.Sound ⟨false, false, k2, k3, k4, k5, k6, false, k8, k9, k10, false, k12, k13, k14, k15, false, k17⟩ o) : (State.vetResult s src
    sl code).Sound ⟨false, false, k2, k3, k4, k5, k6, false, k8, k9, k10, false, k12, k13, k14, k15, false, k17⟩ o :=
    by
  unfold State.vetResult; try dsimp only
  repeat' first
    | with_reducible assumption | with_reducible intro _ | with_reducible apply State.ticketAnswer_sound
    | with_reducible apply State.setTicketBusy_sound | with_reducible apply State.pealLast_sound
    | with_reducible apply State.slotRefuse_sound | with_reducible apply ite_sound
    | with_reducible apply ite_fst_sound | with_reducible apply when_sound | split

theorem State.vetTimeout_sound {o : State} {s : State} (hS : s.Sound ⟨false, k1, k2, k3, k4, k5, k6, k7, k8, k9, k10,
    false, k12, k13, k14, k15, false, k17⟩ o) : (State.vetTimeout s).Sound ⟨false, k1, k2, k3, k4, k5, k6, k7, k8, k9,
    k10, false, k12, k13, k14, k15, false, k17⟩ o := by
  unfold State.vetTimeout; try dsimp only
  repeat' first
    | with_reducible assumption | with_reducible intro _ | with_reducible apply State.ticketRefuse_sound
    | with_reducible apply ite_sound | split

theorem State.slotArm_sound {o : State} {s : State} {seq : ℕ} {target : ℕ} {b : List Byte} (hS : s.Sound ⟨false, k1,
    k2, k3, k4, k5, k6, k7, k8, k9, k10, false, k12, k13, k14, k15, false, k17⟩ o) : (State.slotArm s seq target
    b).Sound ⟨false, k1, k2, k3, k4, k5, k6, k7, k8, k9, k10, false, k12, k13, k14, k15, false, k17⟩ o := by
  unfold State.slotArm; try dsimp only
  repeat' first
    | with_reducible assumption | with_reducible intro _ | with_reducible apply State.onSec_sound
    | with_reducible apply State.slotTo_sound | with_reducible apply State.setReg_sound
    | with_reducible apply ite_sound | split

theorem State.ticketCheck_sound {o : State} {s : State} {seq : Nat} {b : List Byte} (hS : s.Sound ⟨false, false, k2,
    k3, k4, k5, k6, k7, false, false, k10, false, k12, k13, k14, false, false, false⟩ o) : (State.ticketCheck s seq
    b).1.Sound ⟨false, false, k2, k3, k4, k5, k6, k7, false, false, k10, false, k12, k13, k14, false, false, false⟩ o
    := by
  unfold State.ticketCheck; try dsimp only
  repeat' first
    | with_reducible assumption | with_reducible intro _ | with_reducible apply State.disagree_sound
    | with_reducible apply State.fetchFor_sound | with_reducible apply State.record_sound
    | with_reducible apply State.onSec_sound | with_reducible apply ite_sound | with_reducible apply ite_fst_sound
    | with_reducible apply each_sound | with_reducible apply each_fst_sound
    | with_reducible refine each_fst_sound' (by assumption) ?_ ?_ | split

theorem State.ticketCheck_sound' {o : State} {s : State} {seq : Nat} {b : List Byte} {u_ : State} {res} (e :
    State.ticketCheck s seq b = (u_, res)) (hS : s.Sound ⟨false, false, k2, k3, k4, k5, k6, k7, false, false, k10,
    false, k12, k13, k14, false, false, false⟩ o) : u_.Sound ⟨false, false, k2, k3, k4, k5, k6, k7, false, false, k10,
    false, k12, k13, k14, false, false, false⟩ o :=
  fst_sound e (State.ticketCheck_sound hS)

theorem State.ticketOver_sound {o : State} {s : State} {seq : ℕ} {st : ℕ} {code : ℕ} (hS : s.Sound ⟨false, k1, k2,
    k3, k4, k5, k6, k7, k8, k9, k10, false, k12, k13, k14, k15, false, k17⟩ o) : (State.ticketOver s seq st
    code).Sound ⟨false, k1, k2, k3, k4, k5, k6, k7, k8, k9, k10, false, k12, k13, k14, k15, false, k17⟩ o := by
  unfold State.ticketOver; try dsimp only
  repeat' first
    | with_reducible assumption | with_reducible intro _ | with_reducible apply State.onSec_sound
    | with_reducible apply State.slotTo_sound | with_reducible apply State.setTicketBusy_sound
    | with_reducible apply ite_sound | split

theorem State.perform_sound {o : State} {s : State} {sl : ℕ} {kind : ℕ} {act : State → Command → State} (h_act : ∀ (x0
    : State) (x1 : Command), x0.Sound ⟨false, k1, k2, k3, k4, k5, k6, k7, k8, k9, k10, false, k12, k13, k14, k15,
    false, false⟩ o → (act x0 x1).Sound ⟨false, k1, k2, k3, k4, k5, k6, k7, k8, k9, k10, false, k12, k13, k14, k15,
    false, false⟩ o) (hS : s.Sound ⟨false, k1, k2, k3, k4, k5, k6, k7, k8, k9, k10, false, k12, k13, k14, k15, false,
    false⟩ o) : (State.perform s sl kind act).Sound ⟨false, k1, k2, k3, k4, k5, k6, k7, k8, k9, k10, false, k12, k13,
    k14, k15, false, false⟩ o := by
  unfold State.perform; try dsimp only
  repeat' first
    | with_reducible assumption | with_reducible intro _ | with_reducible apply State.slotRefuse_sound
    | with_reducible apply State.onSec_sound | with_reducible apply State.slotTo_sound
    | with_reducible apply State.newNonce_sound | with_reducible apply ite_sound | with_reducible apply h_act | split

theorem State.cmdRest_sound {o : State} {s : State} {sl : ℕ} (hS : s.Sound ⟨false, k1, k2, k3, k4, k5, k6, k7, k8,
    k9, k10, false, k12, k13, k14, k15, false, false⟩ o) : (State.cmdRest s sl).Sound ⟨false, k1, k2, k3, k4, k5, k6,
    k7, k8, k9, k10, false, k12, k13, k14, k15, false, false⟩ o := by
  unfold State.cmdRest; try dsimp only
  with_reducible repeat' first | assumption | intro _ | apply State.perform_sound | apply State.setF_sound

theorem State.cmdAssay_sound {o : State} {s : State} {sl : ℕ} (hS : s.Sound ⟨false, false, k2, k3, k4, k5, k6, false,
    k8, k9, false, false, k12, k13, k14, false, false, false⟩ o) : (State.cmdAssay s sl).Sound ⟨false, false, k2, k3,
    k4, k5, k6, false, k8, k9, false, false, k12, k13, k14, false, false, false⟩ o := by
  unfold State.cmdAssay; try dsimp only
  with_reducible repeat' first
    | assumption | intro _ | apply State.perform_sound | apply State.assayRequest_sound

theorem State.attGo_sound {o : State} {s : State} {w : Who} {sl : ℕ} {v : Word} (hS : s.Sound ⟨false, k1, k2, k3, k4,
    k5, k6, k7, k8, k9, k10, false, k12, k13, false, false, false, k17⟩ o) : (State.attGo s w sl v).Sound ⟨false, k1,
    k2, k3, k4, k5, k6, k7, k8, k9, k10, false, k12, k13, false, false, false, k17⟩ o := by
  unfold State.attGo; try dsimp only
  with_reducible repeat' first
    | assumption | intro _ | apply State.csGuard_sound | apply State.whoReply_sound | apply State.onSec_sound
    | apply State.setF_sound | apply ite_sound

theorem State.attDone_sound {o : State} {s : State} {sl : ℕ} {agree : Bool} (hS : s.Sound ⟨false, false, k2, k3, k4,
    k5, k6, k7, k8, k9, k10, false, k12, k13, k14, false, false, k17⟩ o) : (State.attDone s sl agree).Sound ⟨false,
    false, k2, k3, k4, k5, k6, k7, k8, k9, k10, false, k12, k13, k14, false, false, k17⟩ o := by
  unfold State.attDone; try dsimp only
  with_reducible repeat' first
    | assumption | intro _ | apply State.setF_sound | apply State.onSec_sound | apply State.disagree_sound
    | apply State.setReg_sound | apply State.agreed_sound | apply ite_sound | apply each_sound

theorem State.xferEnd_sound {o : State} {s : State} {x : Xfer} (hS : s.Sound ⟨false, false, k2, k3, false, k5, false,
    false, false, false, k10, false, k12, k13, k14, false, false, false⟩ o) : (State.xferEnd s x).Sound ⟨false, false,
    k2, k3, false, k5, false, false, false, false, k10, false, k12, k13, k14, false, false, false⟩ o := by
  unfold State.xferEnd; try dsimp only
  repeat' first
    | with_reducible assumption | with_reducible intro _ | with_reducible apply State.onSec_sound
    | with_reducible apply State.newKey_sound | with_reducible apply State.takeReq_sound
    | with_reducible apply State.setXferBusy_sound | with_reducible apply ite_sound
    | with_reducible apply ite_fst_sound | with_reducible apply each_sound | with_reducible apply each_fst_sound
    | with_reducible refine each_fst_sound' (by assumption) ?_ ?_ | split

theorem State.xfersDone_sound {o : State} {s : State} (hS : s.Sound ⟨false, false, k2, k3, false, k5, false, false,
    false, false, k10, false, k12, k13, k14, false, false, false⟩ o) : (State.xfersDone s).Sound ⟨false, false, k2,
    k3, false, k5, false, false, false, false, k10, false, k12, k13, k14, false, false, false⟩ o := by
  unfold State.xfersDone; try dsimp only
  repeat' first
    | with_reducible assumption | with_reducible intro _ | with_reducible apply State.homeOwn_sound
    | with_reducible apply State.xferEnd_sound | with_reducible apply ite_sound | with_reducible apply ite_fst_sound
    | with_reducible apply each_sound | with_reducible apply each_fst_sound
    | with_reducible refine each_fst_sound' (by assumption) ?_ ?_ | split

theorem State.updateDone_sound {o : State} {s : State} {ok : Bool} (hS : s.Sound ⟨false, k1, false, k3, k4, k5, k6,
    k7, k8, k9, k10, false, k12, k13, k14, false, false, k17⟩ o) : (State.updateDone s ok).Sound ⟨false, k1, false,
    k3, k4, k5, k6, k7, k8, k9, k10, false, k12, k13, k14, false, false, k17⟩ o := by
  unfold State.updateDone; try dsimp only
  repeat' first
    | with_reducible assumption | with_reducible intro _ | with_reducible apply State.setF_sound
    | with_reducible apply State.onSec_sound | with_reducible apply State.onBoot_sound
    | with_reducible apply State.record_sound | with_reducible apply State.take_sound
    | with_reducible apply State.send_sound | with_reducible apply ite_sound | with_reducible apply ite_fst_sound
    | with_reducible rfl | rfl | split

theorem State.copyDone_sound {o : State} {s : State} {p : Nat} (hS : s.Sound ⟨k0, k1, k2, k3, k4, k5, k6, k7, k8, k9,
    k10, false, k12, k13, k14, k15, k16, k17⟩ o) : (State.copyDone s p).Sound ⟨k0, k1, k2, k3, k4, k5, k6, k7, k8, k9,
    k10, false, k12, k13, k14, k15, k16, k17⟩ o := by
  unfold State.copyDone; try dsimp only
  repeat' first
    | with_reducible assumption | with_reducible intro _ | with_reducible apply State.updCopy_sound
    | with_reducible apply ite_sound | with_reducible apply ite_fst_sound | split

theorem State.busWrite_sound {o : State} {s : State} {addr : ℕ} {legal : Bool} {pec : Option Bool} {act : State →
    State} (h_act : ∀ (x0 : State), x0.Sound ⟨k0, k1, k2, k3, k4, k5, k6, k7, k8, k9, k10, k11, k12, k13, k14, k15,
    false, k17⟩ o → (act x0).Sound ⟨k0, k1, k2, k3, k4, k5, k6, k7, k8, k9, k10, k11, k12, k13, k14, k15, false, k17⟩
    o) (hS : s.Sound ⟨k0, k1, k2, k3, k4, k5, k6, k7, k8, k9, k10, k11, k12, k13, k14, k15, false, k17⟩ o) :
   (State.busWrite s addr legal pec act).Sound ⟨k0, k1, k2, k3, k4, k5, k6, k7, k8, k9, k10, k11, k12, k13, k14, k15,
    false, k17⟩ o := by
  unfold State.busWrite; try dsimp only
  repeat' first
    | with_reducible assumption | with_reducible intro _ | with_reducible apply State.busAck_sound
    | with_reducible apply ite_sound | with_reducible apply h_act | split

theorem State.busOffset_sound {o : State} {s : State} {addr : ℕ} {v : ℕ} {pec : Option Bool} (hS : s.Sound ⟨k0, k1,
    k2, k3, k4, k5, k6, k7, k8, k9, k10, false, k12, k13, k14, k15, false, k17⟩ o) : (State.busOffset s addr v
    pec).Sound ⟨k0, k1, k2, k3, k4, k5, k6, k7, k8, k9, k10, false, k12, k13, k14, k15, false, k17⟩ o := by
  unfold State.busOffset; try dsimp only
  with_reducible repeat' first
    | assumption | intro _ | apply State.busWrite_sound | apply State.onSec_sound | apply ite_sound

theorem State.busBuffer_sound {o : State} {s : State} {addr : ℕ} {bytes : List Byte} {pec : Option Bool} (hS :
    s.Sound ⟨false, k1, k2, k3, k4, k5, k6, k7, k8, k9, k10, false, k12, k13, k14, k15, false, k17⟩ o) :
   (State.busBuffer s addr bytes pec).Sound ⟨false, k1, k2, k3, k4, k5, k6, k7, k8, k9, k10, false, k12, k13, k14,
    k15, false, k17⟩ o := by
  unfold State.busBuffer; try dsimp only
  with_reducible repeat' first
    | assumption | intro _ | apply State.busWrite_sound | apply State.setReg_sound | apply State.onSec_sound
    | apply ite_sound | apply each_sound

theorem State.busCommand_sound {o : State} {s : State} {addr : ℕ} {v : ℕ} {pec : Option Bool} (hS : s.Sound ⟨false,
    k1, k2, k3, k4, k5, k6, k7, k8, k9, k10, false, k12, k13, k14, k15, false, k17⟩ o) : (State.busCommand s addr v
    pec).Sound ⟨false, k1, k2, k3, k4, k5, k6, k7, k8, k9, k10, false, k12, k13, k14, k15, false, k17⟩ o := by
  unfold State.busCommand; try dsimp only
  with_reducible repeat' first
    | assumption | intro _ | apply State.busWrite_sound | apply State.slotCommand_sound

theorem State.busSlotStat_sound {o : State} {s : State} {addr : ℕ} (hS : s.Sound ⟨k0, k1, k2, k3, k4, k5, k6, k7, k8,
    k9, k10, k11, k12, k13, k14, k15, false, k17⟩ o) : (State.busSlotStat s addr).Sound ⟨k0, k1, k2, k3, k4, k5, k6,
    k7, k8, k9, k10, k11, k12, k13, k14, k15, false, k17⟩ o := by
  unfold State.busSlotStat; try dsimp only
  with_reducible repeat' first
    | assumption | intro _ | apply State.busAck_sound | apply State.busRead_sound | apply ite_sound

theorem State.busLast_sound {o : State} {s : State} {addr : ℕ} (hS : s.Sound ⟨k0, k1, k2, k3, k4, k5, k6, k7, k8, k9,
    k10, k11, k12, k13, k14, k15, false, k17⟩ o) : (State.busLast s addr).Sound ⟨k0, k1, k2, k3, k4, k5, k6, k7, k8,
    k9, k10, k11, k12, k13, k14, k15, false, k17⟩ o := by
  unfold State.busLast; try dsimp only
  with_reducible repeat' first
    | assumption | intro _ | apply State.busAck_sound | apply State.busRead_sound | apply ite_sound

theorem State.busRest_sound {o : State} {s : State} {addr : ℕ} (hS : s.Sound ⟨k0, k1, k2, k3, k4, k5, k6, k7, k8, k9,
    k10, k11, k12, k13, k14, k15, false, k17⟩ o) : (State.busRest s addr).Sound ⟨k0, k1, k2, k3, k4, k5, k6, k7, k8,
    k9, k10, k11, k12, k13, k14, k15, false, k17⟩ o := by
  unfold State.busRest; try dsimp only
  with_reducible repeat' first | assumption | intro _ | apply State.busRead_sound | apply ite_sound

end Sys2Proof.Machine
end

