-- ==== Sys2Proof/Laws/KeepPartitions.lean ====
section
/-! SUPPORT. The operations of Machine/Partitions.lean keep State.Sound. -/

namespace Sys2Proof.Machine

variable {k0 k1 k2 k3 k4 k5 k6 k7 k8 k9 k10 k11 k12 k13 k14 k15 k16 k17 : Bool}

theorem execRegionTransferDone_sound {o : State} {agree : Bool} {s : State} (hS : s.Sound ⟨false, false, k2, k3,
    false, k5, false, false, false, false, k10, false, k12, k13, k14, false, false, false⟩ o) : OutSound ⟨false,
    false, k2, k3, false, k5, false, false, false, false, k10, false, k12, k13, k14, false, false, false⟩ o
    (execRegionTransferDone agree s) := by
  unfold execRegionTransferDone; try dsimp only
  with_reducible repeat' first
    | assumption | intro _ | apply State.comparing_sound | apply State.xfersDone_sound | apply ite_out_sound
    | apply next_sound | apply ite_sound | apply ite_fst_sound

theorem execImageUpdateDone_sound {o : State} {ok : Bool} {s : State} (hS : s.Sound ⟨false, k1, false, k3, k4, k5, k6,
    k7, k8, k9, k10, false, k12, k13, k14, false, false, k17⟩ o) : OutSound ⟨false, k1, false, k3, k4, k5, k6, k7, k8,
    k9, k10, false, k12, k13, k14, false, false, k17⟩ o (execImageUpdateDone ok s) := by
  unfold execImageUpdateDone; try dsimp only
  with_reducible repeat' first
    | assumption | intro _ | apply State.updateDone_sound | apply ite_out_sound | apply next_sound | apply ite_sound
    | apply ite_fst_sound

theorem execPartStartCopyDone_sound {o : State} {p : Part} {s : State} (hS : s.Sound ⟨k0, k1, k2, k3, k4, k5, k6, k7,
    k8, k9, k10, false, k12, k13, k14, k15, k16, k17⟩ o) : OutSound ⟨k0, k1, k2, k3, k4, k5, k6, k7, k8, k9, k10,
    false, k12, k13, k14, k15, k16, k17⟩ o (execPartStartCopyDone p s) := by
  unfold execPartStartCopyDone; try dsimp only
  with_reducible repeat' first
    | assumption | intro _ | apply State.copyDone_sound | apply ite_out_sound | apply next_sound | apply ite_sound
    | apply ite_fst_sound

theorem execAttGo_sound {o : State} {who : Sender} {sl : Slot} {s : State} (hS : s.Sound ⟨false, k1, k2, k3, k4, k5,
    k6, k7, k8, k9, k10, false, k12, k13, false, false, false, k17⟩ o) : OutSound ⟨false, k1, k2, k3, k4, k5, k6, k7,
    k8, k9, k10, false, k12, k13, false, false, false, k17⟩ o (execAttGo who sl s) := by
  unfold execAttGo; try dsimp only
  with_reducible repeat' first
    | assumption | intro _ | apply next_sound | apply ite_out_sound | apply State.attGo_sound

theorem execAttReportDone_sound {o : State} {sl : Slot} {agree : Bool} {s : State} (hS : s.Sound ⟨false, false, k2,
    k3, k4, k5, k6, k7, k8, k9, k10, false, k12, k13, k14, false, false, k17⟩ o) : OutSound ⟨false, false, k2, k3, k4,
    k5, k6, k7, k8, k9, k10, false, k12, k13, k14, false, false, k17⟩ o (execAttReportDone sl agree s) := by
  unfold execAttReportDone; try dsimp only
  with_reducible repeat' first
    | assumption | intro _ | apply next_sound | apply ite_out_sound | apply State.attDone_sound

theorem execSlotSubmitTicket_sound {o : State} {who : Sender} {sl : Slot} {len : Fin 4096} {s : State} (hS : s.Sound
    ⟨false, k1, k2, k3, k4, k5, k6, k7, k8, k9, k10, false, k12, k13, false, false, false, k17⟩ o) : OutSound ⟨false,
    k1, k2, k3, k4, k5, k6, k7, k8, k9, k10, false, k12, k13, false, false, false, k17⟩ o (execSlotSubmitTicket who sl
    len s) := by
  unfold execSlotSubmitTicket; try dsimp only
  with_reducible repeat' first
    | assumption | intro _ | apply next_sound | apply ite_out_sound | apply State.slotCtlOp_sound

theorem execSlotSubmitCommand_sound {o : State} {who : Sender} {sl : Slot} {len : Fin 4096} {s : State} (hS : s.Sound
    ⟨false, k1, k2, k3, k4, k5, k6, k7, k8, k9, k10, false, k12, k13, false, false, false, k17⟩ o) : OutSound ⟨false,
    k1, k2, k3, k4, k5, k6, k7, k8, k9, k10, false, k12, k13, false, false, false, k17⟩ o (execSlotSubmitCommand who
    sl len s) := by
  unfold execSlotSubmitCommand; try dsimp only
  with_reducible repeat' first
    | assumption | intro _ | apply next_sound | apply ite_out_sound | apply State.slotCtlOp_sound

theorem execSlotClear_sound {o : State} {who : Sender} {sl : Slot} {len : Fin 4096} {s : State} (hS : s.Sound ⟨false,
    k1, k2, k3, k4, k5, k6, k7, k8, k9, k10, false, k12, k13, false, false, false, k17⟩ o) : OutSound ⟨false, k1, k2,
    k3, k4, k5, k6, k7, k8, k9, k10, false, k12, k13, false, false, false, k17⟩ o (execSlotClear who sl len s) := by
  unfold execSlotClear; try dsimp only
  with_reducible repeat' first
    | assumption | intro _ | apply next_sound | apply ite_out_sound | apply State.slotCtlOp_sound

theorem execTicketVetted_sound {o : State} {sl : Slot} {agree : Bool} {s : State} (hS : s.Sound ⟨false, false, k2,
    k3, k4, k5, k6, k7, k8, k9, k10, false, k12, k13, k14, false, false, k17⟩ o) : OutSound ⟨false, false, k2, k3, k4,
    k5, k6, k7, k8, k9, k10, false, k12, k13, k14, false, false, k17⟩ o (execTicketVetted sl agree s) := by
  unfold execTicketVetted; try dsimp only
  with_reducible repeat' first
    | assumption | intro _ | apply next_sound | apply ite_out_sound | apply State.slotVetted_sound

theorem execTicketAtMaster_sound {o : State} {src : Pkg} {sl : Slot} {bytes : List Byte} {s : State} (hS : s.Sound
    ⟨false, false, k2, k3, k4, k5, k6, false, k8, k9, k10, false, k12, k13, k14, k15, false, k17⟩ o) : OutSound
    ⟨false, false, k2, k3, k4, k5, k6, false, k8, k9, k10, false, k12, k13, k14, k15, false, k17⟩ o
   (execTicketAtMaster src sl bytes s) := by
  unfold execTicketAtMaster; try dsimp only
  with_reducible repeat' first
    | assumption | intro _ | apply next_sound | apply ite_out_sound | apply State.fromPkg_sound
    | apply State.ticketIn_sound

theorem execTicketRemoteVet_sound {o : State} {src : Pkg} {bytes : List Byte} {agree : Bool} {s : State} (hS : s.Sound
    ⟨false, false, false, false, false, false, false, false, false, false, false, false, false, false, false, false,
    false, false⟩ o) : OutSound ⟨false, false, false, false, false, false, false, false, false, false, false, false,
    false, false, false, false, false, false⟩ o (execTicketRemoteVet src bytes agree s) := by
  unfold execTicketRemoteVet; try dsimp only
  repeat' first
    | with_reducible assumption | with_reducible intro _ | with_reducible apply State.fromPkg_sound
    | with_reducible apply State.remoteVet_sound | with_reducible apply ite_out_sound
    | with_reducible apply next_sound | with_reducible apply ite_sound | with_reducible apply ite_fst_sound | split

theorem execTicketVetResult_sound {o : State} {src : Pkg} {sl : Option Slot} {code : ℕ} {s : State} (hS : s.Sound
    ⟨false, false, k2, k3, k4, k5, k6, false, k8, k9, k10, false, k12, k13, k14, k15, false, k17⟩ o) : OutSound
    ⟨false, false, k2, k3, k4, k5, k6, false, k8, k9, k10, false, k12, k13, k14, k15, false, k17⟩ o
   (execTicketVetResult src sl code s) := by
  unfold execTicketVetResult; try dsimp only
  with_reducible repeat' first
    | assumption | intro _ | apply next_sound | apply ite_out_sound | apply State.fromPkg_sound
    | apply State.vetResult_sound

theorem execTicketVetTimeout_sound {o : State} {s : State} (hS : s.Sound ⟨false, k1, k2, k3, k4, k5, k6, k7, k8, k9,
    k10, false, k12, k13, k14, k15, false, k17⟩ o) : OutSound ⟨false, k1, k2, k3, k4, k5, k6, k7, k8, k9, k10, false,
    k12, k13, k14, k15, false, k17⟩ o (execTicketVetTimeout s) := by
  unfold execTicketVetTimeout; try dsimp only
  with_reducible repeat' first
    | assumption | intro _ | apply next_sound | apply ite_out_sound | apply State.vetTimeout_sound

theorem execOfficerCmdRest_sound {o : State} {sl : Slot} {s : State} (hS : s.Sound ⟨false, k1, k2, k3, k4, k5, k6,
    k7, k8, k9, k10, false, k12, k13, k14, k15, false, false⟩ o) : OutSound ⟨false, k1, k2, k3, k4, k5, k6, k7, k8,
    k9, k10, false, k12, k13, k14, k15, false, false⟩ o (execOfficerCmdRest sl s) := by
  unfold execOfficerCmdRest; try dsimp only
  with_reducible repeat' first
    | assumption | intro _ | apply next_sound | apply ite_out_sound | apply State.cmdRest_sound

theorem execOfficerCmdAssay_sound {o : State} {sl : Slot} {s : State} (hS : s.Sound ⟨false, false, k2, k3, k4, k5,
    k6, false, k8, k9, false, false, k12, k13, k14, false, false, false⟩ o) : OutSound ⟨false, false, k2, k3, k4, k5,
    k6, false, k8, k9, false, false, k12, k13, k14, false, false, false⟩ o (execOfficerCmdAssay sl s) := by
  unfold execOfficerCmdAssay; try dsimp only
  with_reducible repeat' first
    | assumption | intro _ | apply next_sound | apply ite_out_sound | apply State.cmdAssay_sound

theorem execMgmtSetOffset_sound {o : State} {addr : Fin 128} {v : BitVec 16} {pec : Option Bool} {s : State} (hS :
    s.Sound ⟨k0, k1, k2, k3, k4, k5, k6, k7, k8, k9, k10, false, k12, k13, k14, k15, false, k17⟩ o) : OutSound ⟨k0,
    k1, k2, k3, k4, k5, k6, k7, k8, k9, k10, false, k12, k13, k14, k15, false, k17⟩ o (execMgmtSetOffset addr v pec s)
    := by
  unfold execMgmtSetOffset; try dsimp only
  with_reducible repeat' first
    | assumption | intro _ | apply next_sound | apply ite_out_sound | apply State.busOffset_sound

theorem execMgmtBufferWrite_sound {o : State} {addr : Fin 128} {bytes : List Byte} {pec : Option Bool} {s : State} 
   (hS : s.Sound ⟨false, k1, k2, k3, k4, k5, k6, k7, k8, k9, k10, false, k12, k13, k14, k15, false, k17⟩ o) :
    OutSound ⟨false, k1, k2, k3, k4, k5, k6, k7, k8, k9, k10, false, k12, k13, k14, k15, false, k17⟩ o
   (execMgmtBufferWrite addr bytes pec s) := by
  unfold execMgmtBufferWrite; try dsimp only
  with_reducible repeat' first
    | assumption | intro _ | apply next_sound | apply ite_out_sound | apply State.busBuffer_sound

theorem execMgmtSlotCmd_sound {o : State} {addr : Fin 128} {v : Byte} {pec : Option Bool} {s : State} (hS : s.Sound
    ⟨false, k1, k2, k3, k4, k5, k6, k7, k8, k9, k10, false, k12, k13, k14, k15, false, k17⟩ o) : OutSound ⟨false, k1,
    k2, k3, k4, k5, k6, k7, k8, k9, k10, false, k12, k13, k14, k15, false, k17⟩ o (execMgmtSlotCmd addr v pec s) := by
  unfold execMgmtSlotCmd; try dsimp only
  with_reducible repeat' first
    | assumption | intro _ | apply next_sound | apply ite_out_sound | apply State.busCommand_sound

theorem execMgmtReadSlotStat_sound {o : State} {addr : Fin 128} {s : State} (hS : s.Sound ⟨k0, k1, k2, k3, k4, k5,
    k6, k7, k8, k9, k10, k11, k12, k13, k14, k15, false, k17⟩ o) : OutSound ⟨k0, k1, k2, k3, k4, k5, k6, k7, k8, k9,
    k10, k11, k12, k13, k14, k15, false, k17⟩ o (execMgmtReadSlotStat addr s) := by
  unfold execMgmtReadSlotStat; try dsimp only
  with_reducible repeat' first
    | assumption | intro _ | apply next_sound | apply ite_out_sound | apply State.busSlotStat_sound

theorem execMgmtReadLastTicket_sound {o : State} {addr : Fin 128} {s : State} (hS : s.Sound ⟨k0, k1, k2, k3, k4, k5,
    k6, k7, k8, k9, k10, k11, k12, k13, k14, k15, false, k17⟩ o) : OutSound ⟨k0, k1, k2, k3, k4, k5, k6, k7, k8, k9,
    k10, k11, k12, k13, k14, k15, false, k17⟩ o (execMgmtReadLastTicket addr s) := by
  unfold execMgmtReadLastTicket; try dsimp only
  with_reducible repeat' first
    | assumption | intro _ | apply next_sound | apply ite_out_sound | apply State.busLast_sound

theorem execMgmtReadRestStat_sound {o : State} {addr : Fin 128} {s : State} (hS : s.Sound ⟨k0, k1, k2, k3, k4, k5,
    k6, k7, k8, k9, k10, k11, k12, k13, k14, k15, false, k17⟩ o) : OutSound ⟨k0, k1, k2, k3, k4, k5, k6, k7, k8, k9,
    k10, k11, k12, k13, k14, k15, false, k17⟩ o (execMgmtReadRestStat addr s) := by
  unfold execMgmtReadRestStat; try dsimp only
  with_reducible repeat' first
    | assumption | intro _ | apply next_sound | apply ite_out_sound | apply State.busRest_sound

end Sys2Proof.Machine
end

