-- ==== Sys2Proof/Laws/KeepPcie.lean ====
section
/-! SUPPORT. The operations of Machine/Pcie.lean keep State.Sound. -/

namespace Sys2Proof.Machine

variable {k0 k1 k2 k3 k4 k5 k6 k7 k8 k9 k10 k11 k12 k13 k14 k15 k16 k17 : Bool}

theorem execPcieCompletion_sound {o : State} {k : Fin 32} {tag : Fin 1024} {status : Fin 8} {data : Line} {s : State}
    (hS : s.Sound ⟨false, k1, k2, false, false, false, k6, k7, k8, k9, k10, k11, k12, false, k14, false, false, k17⟩
    o) : OutSound ⟨false, k1, k2, false, false, false, k6, k7, k8, k9, k10, k11, k12, false, k14, false, false, k17⟩ o
    (execPcieCompletion k tag status data s) := by
  unfold execPcieCompletion; try dsimp only
  with_reducible repeat' first
    | assumption | intro _ | apply State.cplIn_sound | apply ite_out_sound | apply next_sound | apply ite_sound
    | apply ite_fst_sound

theorem execPcieCplTimeout_sound {o : State} {k : Fin 32} {tag : Fin 1024} {s : State} (hS : s.Sound ⟨false, k1, k2,
    false, false, false, k6, k7, k8, k9, k10, k11, k12, false, k14, false, false, k17⟩ o) : OutSound ⟨false, k1, k2,
    false, false, false, k6, k7, k8, k9, k10, k11, k12, false, k14, false, false, k17⟩ o (execPcieCplTimeout k tag s)
    := by
  unfold execPcieCplTimeout; try dsimp only
  with_reducible repeat' first
    | assumption | intro _ | apply State.cplLate_sound | apply ite_out_sound | apply next_sound | apply ite_sound
    | apply ite_fst_sound

theorem execTagQuarantineEnd_sound {o : State} {k : Fin 32} {tag : Fin 1024} {s : State} (hS : s.Sound ⟨k0, k1, k2,
    k3, k4, k5, k6, k7, k8, k9, k10, k11, k12, false, k14, k15, false, k17⟩ o) : OutSound ⟨k0, k1, k2, k3, k4, k5, k6,
    k7, k8, k9, k10, k11, k12, false, k14, k15, false, k17⟩ o (execTagQuarantineEnd k tag s) := by
  unfold execTagQuarantineEnd; try dsimp only
  with_reducible repeat' first
    | assumption | intro _ | apply next_sound | apply ite_out_sound | apply State.tagFree_sound

theorem execCfgRead_sound {o : State} {who : Sender} {k : Fin 32} {s : State} (hS : s.Sound ⟨false, k1, k2, k3, k4,
    k5, k6, k7, k8, k9, k10, k11, k12, false, false, false, false, k17⟩ o) : OutSound ⟨false, k1, k2, k3, k4, k5, k6,
    k7, k8, k9, k10, k11, k12, false, false, false, false, k17⟩ o (execCfgRead who k s) := by
  unfold execCfgRead; try dsimp only
  with_reducible repeat' first
    | assumption | intro _ | apply next_sound | apply ite_out_sound | apply State.csGuard_sound
    | apply State.cfgAccess_sound

theorem execCfgWrite_sound {o : State} {who : Sender} {k : Fin 32} {v : BitVec 32} {s : State} (hS : s.Sound ⟨false,
    k1, k2, k3, k4, k5, k6, k7, k8, k9, k10, k11, k12, false, false, false, false, k17⟩ o) : OutSound ⟨false, k1, k2,
    k3, k4, k5, k6, k7, k8, k9, k10, k11, k12, false, false, false, false, k17⟩ o (execCfgWrite who k v s) := by
  unfold execCfgWrite; try dsimp only
  with_reducible repeat' first
    | assumption | intro _ | apply next_sound | apply ite_out_sound | apply State.csGuard_sound
    | apply State.cfgAccess_sound

theorem execCfgRrsRetry_sound {o : State} {k : Fin 32} {s : State} (hS : s.Sound ⟨false, k1, k2, false, false, false,
    k6, k7, k8, k9, k10, k11, k12, false, k14, false, false, k17⟩ o) : OutSound ⟨false, k1, k2, false, false, false,
    k6, k7, k8, k9, k10, k11, k12, false, k14, false, false, k17⟩ o (execCfgRrsRetry k s) := by
  unfold execCfgRrsRetry; try dsimp only
  with_reducible repeat' first
    | assumption | intro _ | apply State.cfgAgain_sound | apply ite_out_sound | apply next_sound | apply ite_sound
    | apply ite_fst_sound

theorem execPcieMemoryRead_sound {o : State} {k : Fin 32} {bus : Byte} {addr : Word} {len : ℕ} {tag : ℕ} {s : State} 
   (hS : s.Sound ⟨k0, k1, k2, k3, false, k5, k6, k7, k8, k9, k10, k11, k12, false, k14, false, false, k17⟩ o) :
    OutSound ⟨k0, k1, k2, k3, false, k5, k6, k7, k8, k9, k10, k11, k12, false, k14, false, false, k17⟩ o
   (execPcieMemoryRead k bus addr len tag s) := by
  unfold execPcieMemoryRead; try dsimp only
  with_reducible repeat' first
    | assumption | intro _ | apply next_sound | apply ite_out_sound | apply State.devRead_sound

theorem execPcieMemoryWrite_sound {o : State} {k : Fin 32} {bus : Byte} {addr : Word} {bytes : List Byte} {poisoned :
    Bool} {s : State} (hS : s.Sound ⟨k0, k1, k2, k3, false, k5, k6, k7, k8, k9, k10, k11, k12, false, k14, false,
    false, k17⟩ o) : OutSound ⟨k0, k1, k2, k3, false, k5, k6, k7, k8, k9, k10, k11, k12, false, k14, false, false,
    k17⟩ o (execPcieMemoryWrite k bus addr bytes poisoned s) := by
  unfold execPcieMemoryWrite; try dsimp only
  with_reducible repeat' first
    | assumption | intro _ | apply next_sound | apply ite_out_sound | apply State.devWrite_sound

theorem execPcieAtomicop_sound {o : State} {k : Fin 32} {bus : Byte} {addr : Word} {op : Fin 3} {size : ℕ} {arg :
    Word} {arg2 : Word} {tag : ℕ} {s : State} (hS : s.Sound ⟨k0, k1, k2, k3, false, k5, k6, k7, k8, k9, k10, k11,
    k12, false, k14, false, false, k17⟩ o) : OutSound ⟨k0, k1, k2, k3, false, k5, k6, k7, k8, k9, k10, k11, k12,
    false, k14, false, false, k17⟩ o (execPcieAtomicop k bus addr op size arg arg2 tag s) := by
  unfold execPcieAtomicop; try dsimp only
  with_reducible repeat' first
    | assumption | intro _ | apply next_sound | apply ite_out_sound | apply State.devAtomic_sound

theorem execPcieMsi_sound {o : State} {k : Fin 32} {addr : Word} {bytes : List Byte} {s : State} (hS : s.Sound ⟨k0,
    k1, k2, k3, k4, k5, k6, k7, k8, k9, k10, k11, k12, false, k14, false, false, k17⟩ o) : OutSound ⟨k0, k1, k2, k3,
    k4, k5, k6, k7, k8, k9, k10, k11, k12, false, k14, false, false, k17⟩ o (execPcieMsi k addr bytes s) := by
  unfold execPcieMsi; try dsimp only
  with_reducible repeat' first
    | assumption | intro _ | apply next_sound | apply ite_out_sound | apply State.devMsi_sound

theorem execPcieErrMsg_sound {o : State} {k : Fin 32} {reqId : BitVec 16} {sev : Fin 3} {s : State} (hS : s.Sound
    ⟨false, k1, k2, k3, k4, k5, k6, k7, k8, k9, k10, k11, k12, k13, k14, false, false, k17⟩ o) : OutSound ⟨false, k1,
    k2, k3, k4, k5, k6, k7, k8, k9, k10, k11, k12, k13, k14, false, false, k17⟩ o (execPcieErrMsg k reqId sev s) := by
  unfold execPcieErrMsg; try dsimp only
  with_reducible repeat' first
    | assumption | intro _ | apply next_sound | apply ite_out_sound | apply State.devErr_sound

theorem execPcieIntx_sound {o : State} {k : Fin 32} {x : BitVec 16} {s : State} (hS : s.Sound ⟨k0, k1, k2, k3, k4,
    k5, k6, k7, k8, k9, k10, k11, k12, k13, k14, false, false, k17⟩ o) : OutSound ⟨k0, k1, k2, k3, k4, k5, k6, k7, k8,
    k9, k10, k11, k12, k13, k14, false, false, k17⟩ o (execPcieIntx k x s) := by
  unfold execPcieIntx; try dsimp only
  with_reducible repeat' first
    | assumption | intro _ | apply next_sound | apply ite_out_sound | apply State.devIntx_sound

theorem execPcieLinkDown_sound {o : State} {k : Fin 32} {state : Fin 3} {s : State} (hS : s.Sound ⟨false, k1, k2,
    false, false, false, false, k7, k8, k9, k10, k11, k12, false, k14, false, false, k17⟩ o) : OutSound ⟨false, k1,
    k2, false, false, false, false, k7, k8, k9, k10, k11, k12, false, k14, false, false, k17⟩ o (execPcieLinkDown k
    state s) := by
  unfold execPcieLinkDown; try dsimp only
  with_reducible repeat' first
    | assumption | intro _ | apply State.linkDownK_sound | apply ite_out_sound | apply next_sound | apply ite_sound
    | apply ite_fst_sound

theorem execPcieLinkUp_sound {o : State} {k : Fin 32} {speed : Fin 8} {width : Fin 32} {flit : Bool} {s : State} (hS :
    s.Sound ⟨false, k1, k2, k3, k4, k5, false, k7, k8, k9, k10, k11, k12, false, k14, false, false, k17⟩ o) : OutSound
    ⟨false, k1, k2, k3, k4, k5, false, k7, k8, k9, k10, k11, k12, false, k14, false, false, k17⟩ o (execPcieLinkUp k
    speed width flit s) := by
  unfold execPcieLinkUp; try dsimp only
  with_reducible repeat' first
    | assumption | intro _ | apply State.linkUpK_sound | apply ite_out_sound | apply next_sound | apply ite_sound
    | apply ite_fst_sound

theorem execPcieRecoveryEntry_sound {o : State} {k : Fin 32} {s : State} (hS : s.Sound ⟨false, k1, k2, k3, k4, k5,
    k6, k7, k8, k9, k10, k11, k12, k13, k14, k15, k16, k17⟩ o) : OutSound ⟨false, k1, k2, k3, k4, k5, k6, k7, k8, k9,
    k10, k11, k12, k13, k14, k15, k16, k17⟩ o (execPcieRecoveryEntry k s) := by
  unfold execPcieRecoveryEntry; try dsimp only
  with_reducible repeat' first
    | assumption | intro _ | apply next_sound | apply ite_out_sound | apply State.recoverIn_sound

theorem execPcieRecoveryExit_sound {o : State} {k : Fin 32} {s : State} (hS : s.Sound ⟨false, k1, k2, k3, k4, k5, k6,
    k7, k8, k9, k10, k11, k12, false, k14, k15, false, k17⟩ o) : OutSound ⟨false, k1, k2, k3, k4, k5, k6, k7, k8, k9,
    k10, k11, k12, false, k14, k15, false, k17⟩ o (execPcieRecoveryExit k s) := by
  unfold execPcieRecoveryExit; try dsimp only
  with_reducible repeat' first
    | assumption | intro _ | apply next_sound | apply ite_out_sound | apply State.recoverOut_sound

theorem execSegCtlWrite_sound {o : State} {who : Sender} {k : Fin 32} {v : Word} {s : State} (hS : s.Sound ⟨false, k1,
    k2, false, false, false, false, k7, k8, k9, k10, k11, k12, false, false, false, false, k17⟩ o) : OutSound ⟨false,
    k1, k2, false, false, false, false, k7, k8, k9, k10, k11, k12, false, false, false, false, k17⟩ o (execSegCtlWrite
    who k v s) := by
  unfold execSegCtlWrite; try dsimp only
  with_reducible repeat' first
    | assumption | intro _ | apply State.segCtlOp_sound | apply ite_out_sound | apply next_sound | apply ite_sound
    | apply ite_fst_sound

theorem execSegHotReset_sound {o : State} {who : Sender} {k : Fin 32} {v : Word} {s : State} (hS : s.Sound ⟨false, k1,
    k2, false, false, false, false, k7, k8, k9, k10, k11, k12, false, false, false, false, k17⟩ o) : OutSound ⟨false,
    k1, k2, false, false, false, false, k7, k8, k9, k10, k11, k12, false, false, false, false, k17⟩ o (execSegHotReset
    who k v s) := by
  unfold execSegHotReset; try dsimp only
  with_reducible repeat' first
    | assumption | intro _ | apply State.segCtlOp_sound | apply ite_out_sound | apply next_sound | apply ite_sound
    | apply ite_fst_sound

theorem execHotResetEnd_sound {o : State} {k : Fin 32} {s : State} (hS : s.Sound ⟨false, k1, k2, k3, k4, k5, k6, k7,
    k8, k9, k10, k11, k12, k13, k14, k15, k16, k17⟩ o) : OutSound ⟨false, k1, k2, k3, k4, k5, k6, k7, k8, k9, k10,
    k11, k12, k13, k14, k15, k16, k17⟩ o (execHotResetEnd k s) := by
  unfold execHotResetEnd; try dsimp only
  with_reducible repeat' first
    | assumption | intro _ | apply next_sound | apply ite_out_sound | apply State.hotResetOver_sound

theorem execPerstHoldExpiry_sound {o : State} {k : Fin 32} {s : State} (hS : s.Sound ⟨false, k1, k2, k3, k4, k5,
    false, k7, k8, k9, k10, k11, k12, false, k14, k15, false, k17⟩ o) : OutSound ⟨false, k1, k2, k3, k4, k5, false,
    k7, k8, k9, k10, k11, k12, false, k14, k15, false, k17⟩ o (execPerstHoldExpiry k s) := by
  unfold execPerstHoldExpiry; try dsimp only
  with_reducible repeat' first
    | assumption | intro _ | apply State.perstHoldOver_sound | apply ite_out_sound | apply next_sound
    | apply ite_sound | apply ite_fst_sound

theorem execSlotPowerOn_sound {o : State} {who : Sender} {k : Fin 32} {v : Word} {s : State} (hS : s.Sound ⟨false, k1,
    k2, false, false, false, false, k7, k8, k9, k10, k11, k12, false, false, false, false, k17⟩ o) : OutSound ⟨false,
    k1, k2, false, false, false, false, k7, k8, k9, k10, k11, k12, false, false, false, false, k17⟩ o (execSlotPowerOn
    who k v s) := by
  unfold execSlotPowerOn; try dsimp only
  with_reducible repeat' first
    | assumption | intro _ | apply State.hpCtlOp_sound | apply ite_out_sound | apply next_sound | apply ite_sound
    | apply ite_fst_sound

theorem execSlotPowerOff_sound {o : State} {who : Sender} {k : Fin 32} {v : Word} {s : State} (hS : s.Sound ⟨false,
    k1, k2, false, false, false, false, k7, k8, k9, k10, k11, k12, false, false, false, false, k17⟩ o) : OutSound
    ⟨false, k1, k2, false, false, false, false, k7, k8, k9, k10, k11, k12, false, false, false, false, k17⟩ o
    (execSlotPowerOff who k v s) := by
  unfold execSlotPowerOff; try dsimp only
  with_reducible repeat' first
    | assumption | intro _ | apply State.hpCtlOp_sound | apply ite_out_sound | apply next_sound | apply ite_sound
    | apply ite_fst_sound

theorem execSlotPwrgdTimeout_sound {o : State} {k : Fin 32} {s : State} (hS : s.Sound ⟨false, k1, k2, k3, k4, k5, k6,
    k7, k8, k9, k10, k11, k12, false, k14, false, false, k17⟩ o) : OutSound ⟨false, k1, k2, k3, k4, k5, k6, k7, k8,
    k9, k10, k11, k12, false, k14, false, false, k17⟩ o (execSlotPwrgdTimeout k s) := by
  unfold execSlotPwrgdTimeout; try dsimp only
  with_reducible repeat' first
    | assumption | intro _ | apply next_sound | apply ite_out_sound | apply State.pwrgdLate_sound

theorem execSlotPerstRelease_sound {o : State} {k : Fin 32} {s : State} (hS : s.Sound ⟨false, k1, k2, k3, k4, k5,
    false, k7, k8, k9, k10, k11, k12, false, k14, k15, false, k17⟩ o) : OutSound ⟨false, k1, k2, k3, k4, k5, false,
    k7, k8, k9, k10, k11, k12, false, k14, k15, false, k17⟩ o (execSlotPerstRelease k s) := by
  unfold execSlotPerstRelease; try dsimp only
  with_reducible repeat' first
    | assumption | intro _ | apply State.slotRelease_sound | apply ite_out_sound | apply next_sound | apply ite_sound
    | apply ite_fst_sound

theorem execSlotPwrenDrop_sound {o : State} {k : Fin 32} {s : State} (hS : s.Sound ⟨k0, k1, k2, k3, k4, k5, k6, k7,
    k8, k9, k10, k11, k12, false, k14, k15, false, k17⟩ o) : OutSound ⟨k0, k1, k2, k3, k4, k5, k6, k7, k8, k9, k10,
    k11, k12, false, k14, k15, false, k17⟩ o (execSlotPwrenDrop k s) := by
  unfold execSlotPwrenDrop; try dsimp only
  with_reducible repeat' first
    | assumption | intro _ | apply next_sound | apply ite_out_sound | apply State.pwrenDrop_sound

theorem execSlotPresenceChange_sound {o : State} {k : Fin 32} {present : Bool} {s : State} (hS : s.Sound ⟨false, k1, k2, false, false, false, false, k7, k8, k9, k10, k11, k12, false, k14, false, false, k17⟩ o) : OutSound ⟨false, k1, k2, false, false, false, false, k7, k8, k9, k10, k11, k12, false, k14, false, false, k17⟩ o (execSlotPresenceChange k present s) :=
    by
  unfold execSlotPresenceChange; try dsimp only
  with_reducible repeat' first
    | assumption | intro _ | apply State.slotPresence_sound | apply ite_out_sound | apply next_sound | apply ite_sound
    | apply ite_fst_sound

theorem execSlotPwrgdFall_sound {o : State} {k : Fin 32} {s : State} (hS : s.Sound ⟨false, k1, k2, false, false,
    false, false, k7, k8, k9, k10, k11, k12, false, k14, false, false, k17⟩ o) : OutSound ⟨false, k1, k2, false,
    false, false, false, k7, k8, k9, k10, k11, k12, false, k14, false, false, k17⟩ o (execSlotPwrgdFall k s) := by
  unfold execSlotPwrgdFall; try dsimp only
  with_reducible repeat' first
    | assumption | intro _ | apply State.pwrgdFall_sound | apply ite_out_sound | apply next_sound | apply ite_sound
    | apply ite_fst_sound

theorem execSlotButton_sound {o : State} {k : Fin 32} {s : State} (hS : s.Sound ⟨false, k1, k2, k3, k4, k5, k6, k7,
    k8, k9, k10, k11, k12, k13, k14, false, false, k17⟩ o) : OutSound ⟨false, k1, k2, k3, k4, k5, k6, k7, k8, k9, k10,
    k11, k12, k13, k14, false, false, k17⟩ o (execSlotButton k s) := by
  unfold execSlotButton; try dsimp only
  with_reducible repeat' first
    | assumption | intro _ | apply next_sound | apply ite_out_sound | apply State.slotPress_sound

theorem execSepHostDb_sound {o : State} {port : Fin 2} {f : Fin 8} {v : BitVec 32} {s : State} (hS : s.Sound ⟨false,
    k1, k2, k3, k4, k5, k6, k7, k8, k9, k10, k11, k12, k13, k14, k15, false, k17⟩ o) : OutSound ⟨false, k1, k2, k3,
    k4, k5, k6, k7, k8, k9, k10, k11, k12, k13, k14, k15, false, k17⟩ o (execSepHostDb port f v s) := by
  unfold execSepHostDb; try dsimp only
  with_reducible repeat' first
    | assumption | intro _ | apply next_sound | apply ite_out_sound | apply State.hostDb_sound

theorem execSepHostInt_sound {o : State} {who : Sender} {port : Fin 2} {f : Fin 8} {v : BitVec 4} {s : State} (hS :
    s.Sound ⟨k0, k1, k2, k3, k4, k5, k6, k7, k8, k9, k10, k11, k12, false, false, false, false, k17⟩ o) : OutSound
    ⟨k0, k1, k2, k3, k4, k5, k6, k7, k8, k9, k10, k11, k12, false, false, false, false, k17⟩ o (execSepHostInt who
    port f v s) := by
  unfold execSepHostInt; try dsimp only
  with_reducible repeat' first
    | assumption | intro _ | apply next_sound | apply ite_out_sound | apply State.hostIntOp_sound

theorem execSepCopyGo_sound {o : State} {who : Sender} {port : Fin 2} {f : Fin 8} {v : Word} {s : State} (hS :
    s.Sound ⟨false, k1, k2, k3, false, k5, k6, k7, k8, k9, k10, k11, k12, false, false, false, false, k17⟩ o) :
    OutSound ⟨false, k1, k2, k3, false, k5, k6, k7, k8, k9, k10, k11, k12, false, false, false, false, k17⟩ o
   (execSepCopyGo who port f v s) := by
  unfold execSepCopyGo; try dsimp only
  with_reducible repeat' first
    | assumption | intro _ | apply next_sound | apply ite_out_sound | apply State.copyCtl_sound

theorem execSepCopyDone_sound {o : State} {port : Fin 2} {f : Fin 8} {code : Fin 5} {s : State} (hS : s.Sound ⟨false,
    k1, k2, k3, k4, k5, k6, k7, k8, k9, k10, k11, k12, false, k14, k15, false, k17⟩ o) : OutSound ⟨false, k1, k2, k3,
    k4, k5, k6, k7, k8, k9, k10, k11, k12, false, k14, k15, false, k17⟩ o (execSepCopyDone port f code s) := by
  unfold execSepCopyDone; try dsimp only
  with_reducible repeat' first
    | assumption | intro _ | apply next_sound | apply ite_out_sound | apply State.copyOver_sound

theorem execSepBmeClear_sound {o : State} {port : Fin 2} {f : Fin 8} {s : State} (hS : s.Sound ⟨false, k1, k2, k3, k4,
    k5, k6, k7, k8, k9, k10, k11, k12, false, k14, false, false, k17⟩ o) : OutSound ⟨false, k1, k2, k3, k4, k5, k6,
    k7, k8, k9, k10, k11, k12, false, k14, false, false, k17⟩ o (execSepBmeClear port f s) := by
  unfold execSepBmeClear; try dsimp only
  with_reducible repeat' first
    | assumption | intro _ | apply State.bmeClear_sound | apply ite_out_sound | apply next_sound | apply ite_sound
    | apply ite_fst_sound

theorem execSepFlr_sound {o : State} {port : Fin 2} {f : Fin 8} {s : State} (hS : s.Sound ⟨false, k1, k2, k3, k4, k5,
    false, k7, k8, k9, k10, k11, k12, false, k14, k15, false, k17⟩ o) : OutSound ⟨false, k1, k2, k3, k4, k5, false,
    k7, k8, k9, k10, k11, k12, false, k14, k15, false, k17⟩ o (execSepFlr port f s) := by
  unfold execSepFlr; try dsimp only
  with_reducible repeat' first
    | assumption | intro _ | apply State.flr_sound | apply ite_out_sound | apply next_sound | apply ite_sound
    | apply ite_fst_sound

theorem execSepFlrDone_sound {o : State} {port : Fin 2} {f : Fin 8} {s : State} (hS : s.Sound ⟨false, k1, k2, k3, k4,
    k5, false, k7, k8, k9, k10, k11, k12, k13, k14, k15, k16, k17⟩ o) : OutSound ⟨false, k1, k2, k3, k4, k5, false,
    k7, k8, k9, k10, k11, k12, k13, k14, k15, k16, k17⟩ o (execSepFlrDone port f s) := by
  unfold execSepFlrDone; try dsimp only
  with_reducible repeat' first
    | assumption | intro _ | apply State.flrDone_sound | apply ite_out_sound | apply next_sound | apply ite_sound
    | apply ite_fst_sound

theorem execSepHostPerst_sound {o : State} {port : Fin 2} {linkDown : Bool} {s : State} (hS : s.Sound ⟨false, k1, k2,
    false, false, false, false, k7, k8, k9, k10, k11, k12, false, k14, false, false, k17⟩ o) : OutSound ⟨false, k1,
    k2, false, false, false, false, k7, k8, k9, k10, k11, k12, false, k14, false, false, k17⟩ o (execSepHostPerst port
    linkDown s) := by
  unfold execSepHostPerst; try dsimp only
  with_reducible repeat' first
    | assumption | intro _ | apply State.sepDown_sound | apply State.setF_sound | apply ite_out_sound
    | apply next_sound | apply ite_sound | apply ite_fst_sound

theorem execSepHostPerstRelease_sound {o : State} {port : Fin 2} {s : State} (hS : s.Sound ⟨false, k1, k2, k3, k4, k5,
    k6, k7, k8, k9, k10, k11, k12, k13, k14, k15, k16, k17⟩ o) : OutSound ⟨false, k1, k2, k3, k4, k5, k6, k7, k8, k9,
    k10, k11, k12, k13, k14, k15, k16, k17⟩ o (execSepHostPerstRelease port s) := by
  unfold execSepHostPerstRelease; try dsimp only
  with_reducible repeat' first
    | assumption | intro _ | apply State.setF_sound | apply ite_out_sound | apply next_sound | apply ite_sound
    | apply ite_fst_sound

theorem execSepHostConfig_sound {o : State} {port : Fin 2} {f : Fin 8} {reg : Nat} {wr : Option (BitVec 32)} {s :
    State} (hS : s.Sound ⟨false, k1, k2, k3, k4, k5, false, k7, k8, k9, k10, k11, k12, false, k14, false, false, k17⟩
    o) : OutSound ⟨false, k1, k2, k3, k4, k5, false, k7, k8, k9, k10, k11, k12, false, k14, false, false, k17⟩ o
    (execSepHostConfig port f reg wr s) := by
  unfold execSepHostConfig; try dsimp only
  with_reducible repeat' first
    | assumption | intro _ | apply State.hostCfg_sound | apply ite_out_sound | apply next_sound | apply ite_sound
    | apply ite_fst_sound

end Sys2Proof.Machine
end

