-- ==== Sys2Proof/Laws/KeepRestOps.lean ====
section
/-! SUPPORT. The operations of Machine/RestOps.lean keep State.Sound. -/

namespace Sys2Proof.Machine

variable {k0 k1 k2 k3 k4 k5 k6 k7 k8 k9 k10 k11 k12 k13 k14 k15 k16 k17 : Bool}

theorem State.setRest_sound {o : State} {s : State} {v : ℕ} (hS : s.Sound ⟨false, k1, k2, k3, k4, k5, k6, k7, k8, k9,
    k10, k11, k12, k13, k14, k15, k16, k17⟩ o) : (State.setRest s v).Sound ⟨false, k1, k2, k3, k4, k5, k6, k7, k8, k9,
    k10, k11, k12, k13, k14, k15, k16, k17⟩ o := by
  unfold State.setRest; try dsimp only
  with_reducible repeat' first | assumption | intro _ | apply State.setF_sound

theorem State.restFlush_sound {o : State} {s : State} (hS : s.Sound ⟨false, k1, k2, k3, false, k5, false, false,
    false, false, k10, false, k12, k13, k14, false, false, k17⟩ o) : (State.restFlush s).Sound ⟨false, k1, k2, k3,
    false, k5, false, false, false, false, k10, false, k12, k13, k14, false, false, k17⟩ o := by
  unfold State.restFlush; try dsimp only
  repeat' first
    | with_reducible assumption | with_reducible intro _ | with_reducible apply State.dcFlush_sound
    | with_reducible apply State.homeOwn_sound | with_reducible apply ite_sound | with_reducible apply ite_fst_sound
    | with_reducible apply each_sound | with_reducible apply each_fst_sound
    | with_reducible refine each_fst_sound' (by assumption) ?_ ?_ | split

theorem State.restEnter_sound {o : State} {s : State} (hS : s.Sound ⟨false, k1, k2, false, false, false, false, false,
    false, false, k10, false, false, false, k14, false, false, k17⟩ o) : (State.restEnter s).Sound ⟨false, k1, k2,
    false, false, false, false, false, false, false, k10, false, false, false, k14, false, false, k17⟩ o := by
  unfold State.restEnter; try dsimp only
  repeat' first
    | with_reducible assumption | with_reducible intro _ | with_reducible apply State.setRest_sound
    | with_reducible apply State.setF_sound | with_reducible apply State.send_sound
    | with_reducible apply State.updCoreH_sound | with_reducible apply State.coreOff_sound
    | with_reducible apply State.perstOn_sound | with_reducible apply State.updSeg_sound
    | with_reducible apply State.swren_sound | with_reducible apply State.sepDown_sound
    | with_reducible apply State.dropFetches_sound | with_reducible apply State.restFlush_sound
    | with_reducible apply ite_sound | with_reducible apply ite_fst_sound | with_reducible apply each_sound
    | with_reducible apply each_fst_sound | with_reducible refine each_fst_sound' (by assumption) ?_ ?_ | split

theorem State.restTick_sound {o : State} {s : State} (hS : s.Sound ⟨false, k1, k2, false, false, false, false, false,
    false, false, k10, false, false, false, k14, false, false, k17⟩ o) : (State.restTick s).Sound ⟨false, k1, k2,
    false, false, false, false, false, false, false, k10, false, false, false, k14, false, false, k17⟩ o := by
  unfold State.restTick; try dsimp only
  with_reducible repeat' first
    | assumption | intro _ | apply State.restFlush_sound | apply State.setRest_sound | apply State.setF_sound
    | apply State.restEnter_sound | apply ite_sound | apply ite_fst_sound

theorem State.wakeBegin_sound {o : State} {s : State} (hS : s.Sound ⟨k0, k1, k2, k3, k4, k5, k6, k7, k8, k9, k10, k11,
    k12, k13, false, k15, false, k17⟩ o) : (State.wakeBegin s).Sound ⟨k0, k1, k2, k3, k4, k5, k6, k7, k8, k9, k10,
    k11, k12, k13, false, k15, false, k17⟩ o := by
  unfold State.wakeBegin; try dsimp only
  repeat' first
    | with_reducible assumption | with_reducible intro _ | with_reducible apply State.onPwr_sound
    | with_reducible apply State.send_sound | with_reducible apply ite_sound | with_reducible apply ite_fst_sound
    | with_reducible apply each_sound | with_reducible apply each_fst_sound
    | with_reducible refine each_fst_sound' (by assumption) ?_ ?_ | split

theorem keptRegs_wf {m : SMap Word} (h : regsWf m) : regsWf (keptRegs m) := by
  unfold keptRegs
  exact ⟨(List.Pairwise.map (fun e : Nat × Word => (e.1, keptWord e.1 e.2)) (fun _ _ hab => hab) h.1).filter _,
    fun e he => by simpa using (List.mem_filter.mp he).2⟩

theorem State.restDrain_sound {o s : State} (hS : s.Sound ⟨false, false, k2, false, false, false, false, false, false, false, k10, false, k12, false, false, false, false, k17⟩ o) : s.restDrain.Sound ⟨false, false, k2, false, false, false, false, false, false, false, k10, false, k12, false, false, false, false, k17⟩ o := by
  unfold State.restDrain
  split
  · exact hS
  split
  · exact State.disagree_sound hS
  · extract_lets a b c d e cs cr f g h i j
    have hb : b.Sound ⟨false, false, k2, false, false, false, false, false, false, false, k10, false, k12, false, false, false, false, k17⟩ o := each_sound (fun _ _ h => State.setChState_sound (each_sound (fun _ _ h => State.send_sound h) h)) (State.flushParity_sound (State.flushParity_sound (State.agreed_sound hS)))
    have he : e.Sound ⟨false, false, k2, false, false, false, false, false, false, false, k10, false, k12, false, false, false, false, k17⟩ o := State.setRest_sound (State.setF_sound
      (each_sound (fun _ _ h => State.dieDown_sound h) (each_sound (fun _ _ h => State.send_sound h) hb)))
    have hf : f.Sound ⟨false, false, k2, false, false, false, false, false, false, false, k10, false, k12, false, false, false, false, k17⟩ o := ⟨he.clock, he.queue, he.free, he.fused, he.mem, keptRegs_wf he.regs, nofun, nofun, he.k_boot, nofun, nofun, nofun, nofun, nofun, nofun, nofun, he.k_links, nofun, he.k_crypto, nofun, nofun, nofun, nofun, he.k_freeCtr, he.k_flits⟩
    have hi : j.Sound ⟨false, false, k2, false, false, false, false, false, false, false, k10, false, k12, false, false, false, false, k17⟩ o := each_sound (fun _ _ h => State.send_sound h)
      (State.onPwr_sound (State.onPcie_sound (State.onSec_sound hf)))
    exact ite_sound (State.wakeBegin_sound hi) hi

theorem State.wakeAddr_sound {o : State} {s : State} {addr : ℕ} (hS : s.Sound ⟨k0, k1, k2, k3, k4, k5, k6, k7, k8,
    k9, k10, k11, k12, k13, false, k15, false, k17⟩ o) : (State.wakeAddr s addr).Sound ⟨k0, k1, k2, k3, k4, k5, k6,
    k7, k8, k9, k10, k11, k12, k13, false, k15, false, k17⟩ o := by
  unfold State.wakeAddr; try dsimp only
  with_reducible repeat' first
    | assumption | intro _ | apply State.send_sound | apply State.wakeBegin_sound | apply State.onPwr_sound
    | apply ite_sound

theorem State.wakeFail_sound {o : State} {s : State} (hS : s.Sound ⟨k0, false, k2, k3, k4, k5, k6, k7, k8, k9, k10,
    k11, k12, k13, false, false, false, k17⟩ o) : (State.wakeFail s).Sound ⟨k0, false, k2, k3, k4, k5, k6, k7, k8, k9,
    k10, k11, k12, k13, false, false, false, k17⟩ o := by
  unfold State.wakeFail; try dsimp only
  with_reducible repeat' first | assumption | intro _ | apply State.selfFence_sound | apply State.onPwr_sound

theorem State.wakeMemory_sound {o : State} {s : State} (hS : s.Sound ⟨false, false, false, k3, k4, k5, k6, k7, k8, k9,
    k10, false, k12, k13, k14, false, false, k17⟩ o) : (State.wakeMemory s).Sound ⟨false, false, false, k3, k4, k5,
    k6, k7, k8, k9, k10, false, k12, k13, k14, false, false, k17⟩ o := by
  unfold State.wakeMemory; try dsimp only
  repeat' first
    | with_reducible assumption | with_reducible intro _ | with_reducible apply State.setReg_sound
    | with_reducible apply State.gateClocks_sound | with_reducible apply State.disagree_sound
    | with_reducible apply State.agreed_sound | with_reducible apply State.onSec_sound
    | with_reducible apply State.beginTask_sound | with_reducible apply ite_sound | with_reducible apply ite_fst_sound
    | with_reducible apply each_sound | with_reducible apply each_fst_sound
    | with_reducible refine each_fst_sound' (by assumption) ?_ ?_ | split

theorem State.applyHeld_sound {o : State} {s : State} {b : List Byte} (hS : s.Sound ⟨false, false, false, false,
    false, false, false, false, false, false, false, false, false, false, false, false, false, false⟩ o) :
    (State.applyHeld s b).Sound ⟨false, false, false, false, false, false, false, false, false, false, false, false,
    false, false, false, false, false, false⟩ o := by
  unfold State.applyHeld; try dsimp only
  repeat' first
    | with_reducible assumption | with_reducible intro _ | with_reducible apply State.applyRec_sound
    | with_reducible apply State.restripeNext_sound | with_reducible apply State.onLinks_sound
    | with_reducible apply ite_sound | with_reducible apply ite_fst_sound | with_reducible apply each_sound
    | with_reducible apply each_fst_sound | with_reducible refine each_fst_sound' (by assumption) ?_ ?_ | split

theorem State.applyAllHeld_sound {o : State} {s : State} (hS : s.Sound ⟨false, false, false, false, false, false,
    false, false, false, false, false, false, false, false, false, false, false, false⟩ o) : (State.applyAllHeld
    s).Sound ⟨false, false, false, false, false, false, false, false, false, false, false, false, false, false, false,
    false, false, false⟩ o := by
  unfold State.applyAllHeld; try dsimp only
  repeat' first
    | with_reducible assumption | with_reducible intro _ | with_reducible apply State.onSec_sound
    | with_reducible apply State.changeEffect_sound | with_reducible apply State.disagree_sound
    | with_reducible apply State.selfFence_sound | with_reducible apply State.agreed_sound
    | with_reducible apply State.applyHeld_sound | with_reducible apply ite_sound | with_reducible apply ite_fst_sound
    | with_reducible apply each_sound | with_reducible apply each_fst_sound
    | with_reducible refine each_fst_sound' (by assumption) ?_ ?_ | split

theorem State.wakeLogic_sound {o : State} {s : State} (hS : s.Sound ⟨false, false, false, false, false, false, false,
    false, false, false, false, false, false, false, false, false, false, false⟩ o) : (State.wakeLogic s).Sound
    ⟨false, false, false, false, false, false, false, false, false, false, false, false, false, false, false, false,
    false, false⟩ o := by
  unfold State.wakeLogic; try dsimp only
  repeat' first
    | with_reducible assumption | with_reducible intro _ | with_reducible apply State.applyAllHeld_sound
    | with_reducible apply State.clearDie_sound | with_reducible apply State.resumeLink_sound
    | with_reducible apply State.setF_sound | with_reducible apply ite_sound | with_reducible apply ite_fst_sound
    | with_reducible apply each_sound | with_reducible apply each_fst_sound
    | with_reducible refine each_fst_sound' (by assumption) ?_ ?_ | split

theorem State.coreWake_sound {o : State} {s : State} {c : ℕ} (hS : s.Sound ⟨false, k1, k2, false, k4, k5, k6, k7, k8,
    k9, k10, k11, k12, k13, k14, k15, false, k17⟩ o) : (State.coreWake s c).Sound ⟨false, k1, k2, false, k4, k5, k6,
    k7, k8, k9, k10, k11, k12, k13, k14, k15, false, k17⟩ o := by
  unfold State.coreWake; try dsimp only
  with_reducible repeat' first
    | assumption | intro _ | apply State.updCoreH_sound | apply State.enterRun_sound | apply State.setCoreState_sound
    | apply ite_sound

theorem State.gongHeld_sound {o s : State} {g : Gong} (hS : s.Sound ⟨false, false, k2, false, false, false, false, k7, k8, k9, k10, k11, false, false, k14, false, false, k17⟩ o) : (State.gongHeld s g).Sound ⟨false, false, k2, false, false, false, false, k7, k8, k9, k10, k11, false, false, k14, false, false, k17⟩ o := by
  have h1 : (s.onBeat fun b => { b with now := g.beat }).Sound ⟨false, false, k2, false, false, false, false, k7, k8, k9, k10, k11, false, false, k14, false, false, k17⟩ (o.onBeat fun b => { b with now := g.beat }) :=
    ⟨rfl, hS.queue, hS.free, hS.fused, hS.mem, hS.regs, nofun, nofun, hS.k_boot, nofun, hS.k_cache, hS.k_xlat, hS.k_fab, hS.k_home, hS.k_dram, hS.k_mem, hS.k_links, hS.k_sec, nofun, nofun, hS.k_pwr, nofun, nofun, hS.k_freeCtr, hS.k_flits⟩
  have h2 := State.gongApply_sound (g := g) h1
  exact ⟨hS.clock, h2.queue, h2.free, h2.fused, h2.mem, h2.regs, nofun, nofun, h2.k_boot, nofun, h2.k_cache, h2.k_xlat, h2.k_fab, h2.k_home, h2.k_dram, h2.k_mem, h2.k_links, h2.k_sec, nofun, nofun, h2.k_pwr, nofun, nofun, h2.k_freeCtr, h2.k_flits⟩

theorem State.lateGongs_sound {o : State} {s : State} (hS : s.Sound ⟨false, false, k2, false, false, false, false, k7,
    k8, k9, k10, k11, false, false, false, false, false, k17⟩ o) : (State.lateGongs s).Sound ⟨false, false, k2, false,
    false, false, false, k7, k8, k9, k10, k11, false, false, false, false, false, k17⟩ o := by
  unfold State.lateGongs; try dsimp only
  repeat' first
    | with_reducible assumption | with_reducible intro _ | with_reducible apply State.emptyLogs_sound
    | with_reducible apply State.onErr_sound | with_reducible apply State.gongHeld_sound
    | with_reducible apply State.onPwr_sound | with_reducible apply ite_sound | with_reducible apply ite_fst_sound
    | with_reducible apply each_sound | with_reducible apply each_fst_sound
    | with_reducible refine each_fst_sound' (by assumption) ?_ ?_ | split

theorem State.wakeEnd_sound {o : State} {s : State} (hS : s.Sound ⟨false, false, k2, false, false, false, false, k7,
    k8, k9, k10, k11, false, false, false, false, false, k17⟩ o) : (State.wakeEnd s).Sound ⟨false, false, k2, false,
    false, false, false, k7, k8, k9, k10, k11, false, false, false, false, false, k17⟩ o := by
  unfold State.wakeEnd; try dsimp only
  repeat' first
    | with_reducible assumption | with_reducible intro _ | with_reducible apply State.onPwr_sound
    | with_reducible apply State.clkOn_sound | with_reducible apply State.setCluster_sound
    | with_reducible apply State.maskCluster_sound | with_reducible apply State.arbMaskDie_sound
    | with_reducible apply State.setF_sound | with_reducible apply State.send_sound
    | with_reducible apply State.setReg_sound | with_reducible apply State.setRest_sound
    | with_reducible apply State.incF_sound | with_reducible apply State.lateGongs_sound
    | with_reducible apply State.coreWake_sound | with_reducible apply State.slotOn_sound
    | with_reducible apply State.onCrypto_sound | with_reducible apply ite_sound | with_reducible apply ite_fst_sound
    | with_reducible apply each_sound | with_reducible apply each_fst_sound
    | with_reducible refine each_fst_sound' (by assumption) ?_ ?_ | with_reducible apply foldl_sound
    | with_reducible apply foldl_fst_sound | with_reducible refine foldl_fst_sound' (by assumption) ?_ ?_ | split

theorem State.wakeStepDone_sound {o : State} {s : State} {ready : Bool} (hS : s.Sound ⟨false, false, false, false,
    false, false, false, false, false, false, false, false, false, false, false, false, false, false⟩ o) :
    (State.wakeStepDone s ready).Sound ⟨false, false, false, false, false, false, false, false, false, false, false,
    false, false, false, false, false, false, false⟩ o := by
  unfold State.wakeStepDone; try dsimp only
  repeat' first
    | with_reducible assumption | with_reducible intro _ | with_reducible apply State.onPwr_sound
    | with_reducible apply State.wakeFail_sound | with_reducible apply State.wakeMemory_sound
    | with_reducible apply State.wakeLogic_sound | with_reducible apply State.wakeEnd_sound
    | with_reducible apply ite_sound | with_reducible apply ite_fst_sound | split

theorem State.restNoticeIn_sound {o : State} {s : State} {q : ℕ} (hS : s.Sound ⟨k0, k1, k2, k3, k4, k5, k6, k7, k8,
    k9, k10, k11, k12, k13, false, k15, k16, k17⟩ o) : (State.restNoticeIn s q).Sound ⟨k0, k1, k2, k3, k4, k5, k6, k7,
    k8, k9, k10, k11, k12, k13, false, k15, k16, k17⟩ o := by
  unfold State.restNoticeIn; try dsimp only
  with_reducible repeat' first | assumption | intro _ | apply State.onPwr_sound | apply ite_sound

theorem State.restingIn_sound {o : State} {s : State} {q : Nat} (hS : s.Sound ⟨false, k1, k2, false, k4, k5, k6, k7,
    k8, k9, k10, k11, k12, k13, false, k15, k16, k17⟩ o) : (State.restingIn s q).Sound ⟨false, k1, k2, false, k4, k5,
    k6, k7, k8, k9, k10, k11, k12, k13, false, k15, k16, k17⟩ o := by
  unfold State.restingIn; try dsimp only
  with_reducible repeat' first
    | assumption | intro _ | apply State.restNoticeIn_sound | apply State.dropFar_sound | apply State.setF_sound
    | apply ite_sound | apply ite_fst_sound

theorem State.offIn_sound {o : State} {s : State} {m : CMsg} {wait : Bool} (hS : s.Sound ⟨false, k1, k2, false, false, false, k6, false, k8, k9, false, false, false, false, false, false, false, k17⟩ o) : (State.offIn s m wait).Sound
    ⟨false, k1, k2, false, false, false, k6, false, k8, k9, false, false, false, false, false, false, false, k17⟩ o :=
    by
  unfold State.offIn; try dsimp only
  repeat' first
    | with_reducible assumption | with_reducible intro _ | with_reducible apply State.take_sound
    | with_reducible apply State.record_sound | with_reducible apply State.errDone_sound
    | with_reducible apply State.accsSettle_sound | with_reducible apply State.ioSettle_sound
    | with_reducible apply State.onHome_sound | with_reducible apply State.retryMark_sound
    | with_reducible apply State.onPwr_sound | with_reducible apply ite_sound | with_reducible apply ite_fst_sound
    | split

theorem State.wakeIn_sound {o : State} {s : State} {q : Nat} {d : Option Nat} (hS : s.Sound ⟨false, k1, k2, k3, false,
    k5, k6, false, k8, k9, k10, false, false, false, false, false, false, k17⟩ o) : (State.wakeIn s q d).Sound ⟨false,
    k1, k2, k3, false, k5, k6, false, k8, k9, k10, false, false, false, false, false, false, k17⟩ o := by
  unfold State.wakeIn; try dsimp only
  repeat' first
    | with_reducible assumption | with_reducible intro _ | with_reducible apply State.setF_sound
    | with_reducible apply State.onPwr_sound | with_reducible apply State.onHome_sound
    | with_reducible apply State.reissue_sound | with_reducible apply State.send_sound
    | with_reducible apply ite_sound | with_reducible apply ite_fst_sound | with_reducible apply each_sound
    | with_reducible apply each_fst_sound | with_reducible refine each_fst_sound' (by assumption) ?_ ?_ | split

end Sys2Proof.Machine
end

