-- ==== Sys2Proof/Laws/KeepSystem.lean ====
section
/-! SUPPORT. The operations of Machine/System.lean keep State.Sound. -/

namespace Sys2Proof.Machine

variable {k0 k1 k2 k3 k4 k5 k6 k7 k8 k9 k10 k11 k12 k13 k14 k15 k16 k17 : Bool}

theorem execHelloReceived_sound {o : State} {p : FabPort} {word : Word} {s : State} (hS : s.Sound ⟨false, k1, k2, k3,
    k4, k5, k6, k7, k8, k9, false, k11, k12, k13, k14, k15, k16, k17⟩ o) : OutSound ⟨false, k1, k2, k3, k4, k5, k6,
    k7, k8, k9, false, k11, k12, k13, k14, k15, k16, k17⟩ o (execHelloReceived p word s) := by
  unfold execHelloReceived; try dsimp only
  with_reducible repeat' first
    | assumption | intro _ | apply next_sound | apply ite_out_sound | apply State.helloIn_sound

theorem execSystemFound_sound {o : State} {s : State} (hS : s.Sound ⟨false, false, false, false, k4, k5, k6, false,
    false, false, false, k11, k12, k13, k14, false, false, k17⟩ o) : OutSound ⟨false, false, false, false, k4, k5, k6,
    false, false, false, false, k11, k12, k13, k14, false, false, k17⟩ o (execSystemFound s) := by
  unfold execSystemFound; try dsimp only
  with_reducible repeat' first
    | assumption | intro _ | apply State.found_sound | apply ite_out_sound | apply next_sound | apply ite_sound
    | apply ite_fst_sound

theorem execJoinRequest_sound {o : State} {src : Pkg} {h0 : Digest} {s : State} (hS : s.Sound ⟨false, k1, k2, k3, k4,
    k5, k6, k7, k8, k9, false, k11, k12, k13, k14, false, false, k17⟩ o) : OutSound ⟨false, k1, k2, k3, k4, k5, k6,
    k7, k8, k9, false, k11, k12, k13, k14, false, false, k17⟩ o (execJoinRequest src h0 s) := by
  unfold execJoinRequest; try dsimp only
  with_reducible repeat' first
    | assumption | intro _ | apply next_sound | apply ite_out_sound | apply State.fromPkg_sound
    | apply State.joinReq_sound

theorem execJoinLogDone_sound {o : State} {src : Pkg} {hallmark : Digest} {s : State} (hS : s.Sound ⟨false, false,
    k2, k3, k4, k5, k6, false, k8, k9, false, k11, k12, k13, k14, false, false, k17⟩ o) : OutSound ⟨false, false, k2,
    k3, k4, k5, k6, false, k8, k9, false, k11, k12, k13, k14, false, false, k17⟩ o (execJoinLogDone src hallmark s) :=
    by
  unfold execJoinLogDone; try dsimp only
  with_reducible repeat' first
    | assumption | intro _ | apply next_sound | apply ite_out_sound | apply State.fromPkg_sound
    | apply State.joinLog_sound

theorem execJoinRetry_sound {o : State} {s : State} (hS : s.Sound ⟨k0, k1, k2, k3, k4, k5, k6, k7, k8, k9, false,
    k11, k12, k13, k14, k15, false, k17⟩ o) : OutSound ⟨k0, k1, k2, k3, k4, k5, k6, k7, k8, k9, false, k11, k12, k13,
    k14, k15, false, k17⟩ o (execJoinRetry s) := by
  unfold execJoinRetry; try dsimp only
  with_reducible repeat' first
    | assumption | intro _ | apply next_sound | apply ite_out_sound | apply State.joinAgain_sound

theorem State.sktOn_sound {o : State} {s : State} {i : ℕ} (hS : s.Sound ⟨false, k1, k2, k3, k4, k5, k6, k7, k8, k9,
    k10, k11, k12, k13, k14, k15, false, k17⟩ o) : (State.sktOn s i).Sound ⟨false, k1, k2, k3, k4, k5, k6, k7, k8, k9,
    k10, k11, k12, k13, k14, k15, false, k17⟩ o := by
  unfold State.sktOn; try dsimp only
  with_reducible repeat' first
    | assumption | intro _ | apply State.blink_sound | apply State.pwrEn_sound | apply State.setSkt_sound
    | apply ite_sound

theorem State.sktLeave_sound {o : State} {s : State} {i : Nat} (hS : s.Sound ⟨false, false, k2, k3, k4, k5, k6, false,
    k8, k9, false, k11, k12, k13, k14, false, false, k17⟩ o) : (State.sktLeave s i).Sound ⟨false, false, k2, k3, k4,
    k5, k6, false, k8, k9, false, k11, k12, k13, k14, false, false, k17⟩ o := by
  unfold State.sktLeave; try dsimp only
  repeat' first
    | with_reducible assumption | with_reducible intro _ | with_reducible apply State.setSkt_sound
    | with_reducible apply State.blink_sound | with_reducible apply State.leaveAsk_sound
    | with_reducible apply State.sktStay_sound | with_reducible apply ite_sound | with_reducible apply ite_fst_sound
    | split

theorem State.sktOff_sound {o : State} {s : State} {i : ℕ} (hS : s.Sound ⟨false, k1, k2, k3, k4, k5, k6, k7, k8, k9,
    k10, k11, k12, k13, k14, k15, false, k17⟩ o) : (State.sktOff s i).Sound ⟨false, k1, k2, k3, k4, k5, k6, k7, k8,
    k9, k10, k11, k12, k13, k14, k15, false, k17⟩ o := by
  unfold State.sktOff; try dsimp only
  with_reducible repeat' first
    | assumption | intro _ | apply State.setSkt_sound | apply State.pwrEn_sound | apply ite_sound

theorem State.sktCmd_sound {o : State} {s : State} {i : ℕ} {cmd : ℕ} (hS : s.Sound ⟨false, false, k2, k3, k4, k5, k6,
    false, k8, k9, false, k11, k12, k13, k14, false, false, k17⟩ o) : (State.sktCmd s i cmd).Sound ⟨false, false, k2,
    k3, k4, k5, k6, false, k8, k9, false, k11, k12, k13, k14, false, false, k17⟩ o := by
  unfold State.sktCmd; try dsimp only
  repeat' first
    | with_reducible assumption | with_reducible intro _ | with_reducible apply State.send_sound
    | with_reducible apply State.sktOn_sound | with_reducible apply State.sktLeave_sound
    | with_reducible apply State.sktOff_sound | with_reducible apply ite_sound | split

theorem State.sktCtlOp_sound {o : State} {s : State} {w : Who} {i : ℕ} {v : Word} (hS : s.Sound ⟨false, false, k2,
    k3, k4, k5, k6, false, k8, k9, false, k11, k12, k13, false, false, false, k17⟩ o) : (State.sktCtlOp s w i v).Sound
    ⟨false, false, k2, k3, k4, k5, k6, false, k8, k9, false, k11, k12, k13, false, false, false, k17⟩ o := by
  unfold State.sktCtlOp; try dsimp only
  with_reducible repeat' first
    | assumption | intro _ | apply State.csGuard_sound | apply State.whoReply_sound | apply State.sktCmd_sound
    | apply State.setF_sound

theorem execSktPowerOn_sound {o : State} {who : Sender} {i : Fin 4} {s : State} (hS : s.Sound ⟨false, false, k2, k3,
    k4, k5, k6, false, k8, k9, false, k11, k12, k13, false, false, false, k17⟩ o) : OutSound ⟨false, false, k2, k3,
    k4, k5, k6, false, k8, k9, false, k11, k12, k13, false, false, false, k17⟩ o (execSktPowerOn who i s) := by
  unfold execSktPowerOn; try dsimp only
  with_reducible repeat' first
    | assumption | intro _ | apply next_sound | apply ite_out_sound | apply State.sktCtlOp_sound

theorem execSktLeave_sound {o : State} {who : Sender} {i : Fin 4} {s : State} (hS : s.Sound ⟨false, false, k2, k3,
    k4, k5, k6, false, k8, k9, false, k11, k12, k13, false, false, false, k17⟩ o) : OutSound ⟨false, false, k2, k3,
    k4, k5, k6, false, k8, k9, false, k11, k12, k13, false, false, false, k17⟩ o (execSktLeave who i s) := by
  unfold execSktLeave; try dsimp only
  with_reducible repeat' first
    | assumption | intro _ | apply next_sound | apply ite_out_sound | apply State.sktCtlOp_sound

theorem execSktPowerOff_sound {o : State} {who : Sender} {i : Fin 4} {s : State} (hS : s.Sound ⟨false, false, k2, k3,
    k4, k5, k6, false, k8, k9, false, k11, k12, k13, false, false, false, k17⟩ o) : OutSound ⟨false, false, k2, k3,
    k4, k5, k6, false, k8, k9, false, k11, k12, k13, false, false, false, k17⟩ o (execSktPowerOff who i s) := by
  unfold execSktPowerOff; try dsimp only
  with_reducible repeat' first
    | assumption | intro _ | apply next_sound | apply ite_out_sound | apply State.sktCtlOp_sound

theorem State.sktSuspect_sound {o : State} {s : State} {i : ℕ} (hS : s.Sound ⟨k0, k1, k2, k3, k4, k5, k6, k7, k8, k9,
    false, k11, k12, k13, k14, k15, false, k17⟩ o) : (State.sktSuspect s i).Sound ⟨k0, k1, k2, k3, k4, k5, k6, k7, k8,
    k9, false, k11, k12, k13, k14, k15, false, k17⟩ o := by
  unfold State.sktSuspect; try dsimp only
  repeat' first
    | with_reducible assumption | with_reducible intro _ | with_reducible apply State.suspect_sound
    | with_reducible apply ite_sound | split

theorem State.presence_sound {o : State} {s : State} {i : Nat} {here : Bool} (hS : s.Sound ⟨false, k1, k2, k3, k4, k5,
    k6, k7, k8, k9, false, k11, k12, k13, k14, false, false, k17⟩ o) : (State.presence s i here).Sound ⟨false, k1, k2,
    k3, k4, k5, k6, k7, k8, k9, false, k11, k12, k13, k14, false, false, k17⟩ o := by
  unfold State.presence; try dsimp only
  with_reducible repeat' first
    | assumption | intro _ | apply State.setF_sound | apply State.sktEvent_sound | apply State.pwrEn_sound
    | apply State.setSkt_sound | apply State.sktSuspect_sound | apply ite_sound | apply ite_fst_sound

theorem execSocketPresence_sound {o : State} {i : Fin 4} {present : Bool} {s : State} (hS : s.Sound ⟨false, k1, k2,
    k3, k4, k5, k6, k7, k8, k9, false, k11, k12, k13, k14, false, false, k17⟩ o) : OutSound ⟨false, k1, k2, k3, k4,
    k5, k6, k7, k8, k9, false, k11, k12, k13, k14, false, false, k17⟩ o (execSocketPresence i present s) := by
  unfold execSocketPresence; try dsimp only
  with_reducible repeat' first
    | assumption | intro _ | apply next_sound | apply ite_out_sound | apply State.presence_sound

theorem State.button_sound {o : State} {s : State} {i : ℕ} (hS : s.Sound ⟨false, false, k2, k3, k4, k5, k6, false,
    k8, k9, false, k11, k12, k13, k14, false, false, k17⟩ o) : (State.button s i).Sound ⟨false, false, k2, k3, k4, k5,
    k6, false, k8, k9, false, k11, k12, k13, k14, false, false, k17⟩ o := by
  unfold State.button; try dsimp only
  with_reducible repeat' first
    | assumption | intro _ | apply State.sktEvent_sound | apply State.sktOff_sound | apply State.sktLeave_sound
    | apply State.sktOn_sound | apply ite_sound

theorem execSocketButton_sound {o : State} {i : Fin 4} {s : State} (hS : s.Sound ⟨false, false, k2, k3, k4, k5, k6,
    false, k8, k9, false, k11, k12, k13, k14, false, false, k17⟩ o) : OutSound ⟨false, false, k2, k3, k4, k5, k6,
    false, k8, k9, false, k11, k12, k13, k14, false, false, k17⟩ o (execSocketButton i s) := by
  unfold execSocketButton; try dsimp only
  with_reducible repeat' first
    | assumption | intro _ | apply next_sound | apply ite_out_sound | apply State.button_sound

theorem State.pwrGood_sound {o : State} {s : State} {i : Nat} (hS : s.Sound ⟨false, k1, k2, k3, k4, k5, k6, k7, k8,
    k9, k10, k11, k12, k13, k14, k15, false, k17⟩ o) : (State.pwrGood s i).Sound ⟨false, k1, k2, k3, k4, k5, k6, k7,
    k8, k9, k10, k11, k12, k13, k14, k15, false, k17⟩ o := by
  unfold State.pwrGood; try dsimp only
  with_reducible repeat' first
    | assumption | intro _ | apply State.setF_sound | apply State.pwrEn_sound | apply State.setSkt_sound
    | apply ite_sound | apply ite_fst_sound

theorem execSocketPwrGood_sound {o : State} {i : Fin 4} {s : State} (hS : s.Sound ⟨false, k1, k2, k3, k4, k5, k6, k7,
    k8, k9, k10, k11, k12, k13, k14, k15, false, k17⟩ o) : OutSound ⟨false, k1, k2, k3, k4, k5, k6, k7, k8, k9, k10,
    k11, k12, k13, k14, k15, false, k17⟩ o (execSocketPwrGood i s) := by
  unfold execSocketPwrGood; try dsimp only
  with_reducible repeat' first
    | assumption | intro _ | apply State.pwrGood_sound | apply ite_out_sound | apply next_sound | apply ite_sound
    | apply ite_fst_sound

theorem State.sktFault_sound {o : State} {s : State} {i : ℕ} (hS : s.Sound ⟨false, k1, k2, k3, k4, k5, k6, k7, k8,
    k9, k10, k11, k12, k13, k14, false, false, k17⟩ o) : (State.sktFault s i).Sound ⟨false, k1, k2, k3, k4, k5, k6,
    k7, k8, k9, k10, k11, k12, k13, k14, false, false, k17⟩ o := by
  unfold State.sktFault; try dsimp only
  with_reducible repeat' first
    | assumption | intro _ | apply State.setSkt_sound | apply State.sktEvent_sound | apply State.pwrEn_sound

theorem State.pwrGoodFall_sound {o : State} {s : State} {i : Nat} (hS : s.Sound ⟨false, k1, k2, k3, k4, k5, k6, k7,
    k8, k9, false, k11, k12, k13, k14, false, false, k17⟩ o) : (State.pwrGoodFall s i).Sound ⟨false, k1, k2, k3, k4,
    k5, k6, k7, k8, k9, false, k11, k12, k13, k14, false, false, k17⟩ o := by
  unfold State.pwrGoodFall; try dsimp only
  with_reducible repeat' first
    | assumption | intro _ | apply State.setF_sound | apply State.pwrEn_sound | apply State.sktFault_sound
    | apply State.sktSuspect_sound | apply ite_sound | apply ite_fst_sound

theorem execSocketPwrGoodFall_sound {o : State} {i : Fin 4} {s : State} (hS : s.Sound ⟨false, k1, k2, k3, k4, k5, k6,
    k7, k8, k9, false, k11, k12, k13, k14, false, false, k17⟩ o) : OutSound ⟨false, k1, k2, k3, k4, k5, k6, k7, k8,
    k9, false, k11, k12, k13, k14, false, false, k17⟩ o (execSocketPwrGoodFall i s) := by
  unfold execSocketPwrGoodFall; try dsimp only
  with_reducible repeat' first
    | assumption | intro _ | apply next_sound | apply ite_out_sound | apply State.pwrGoodFall_sound

theorem State.pwrTimeout_sound {o : State} {s : State} {i : ℕ} (hS : s.Sound ⟨false, k1, k2, k3, k4, k5, k6, k7, k8,
    k9, k10, k11, k12, k13, k14, false, false, k17⟩ o) : (State.pwrTimeout s i).Sound ⟨false, k1, k2, k3, k4, k5, k6,
    k7, k8, k9, k10, k11, k12, k13, k14, false, false, k17⟩ o := by
  unfold State.pwrTimeout; try dsimp only
  with_reducible repeat' first
    | assumption | intro _ | apply State.led_sound | apply State.sktFault_sound | apply ite_sound

theorem execSocketPowerTimeout_sound {o : State} {i : Fin 4} {s : State} (hS : s.Sound ⟨false, k1, k2, k3, k4, k5,
    k6, k7, k8, k9, k10, k11, k12, k13, k14, false, false, k17⟩ o) : OutSound ⟨false, k1, k2, k3, k4, k5, k6, k7, k8,
    k9, k10, k11, k12, k13, k14, false, false, k17⟩ o (execSocketPowerTimeout i s) := by
  unfold execSocketPowerTimeout; try dsimp only
  with_reducible repeat' first
    | assumption | intro _ | apply next_sound | apply ite_out_sound | apply State.pwrTimeout_sound

theorem execLeaveDrained_sound {o : State} {src : Pkg} {s : State} (hS : s.Sound ⟨false, false, k2, k3, k4, k5, k6,
    false, k8, k9, false, k11, k12, k13, k14, k15, false, k17⟩ o) : OutSound ⟨false, false, k2, k3, k4, k5, k6, false,
    k8, k9, false, k11, k12, k13, k14, k15, false, k17⟩ o (execLeaveDrained src s) := by
  unfold execLeaveDrained; try dsimp only
  with_reducible repeat' first
    | assumption | intro _ | apply next_sound | apply ite_out_sound | apply State.fromPkg_sound
    | apply State.leaveReady_sound

theorem State.dropEn_sound {o : State} {s : State} {i : ℕ} (hS : s.Sound ⟨false, k1, k2, k3, k4, k5, k6, k7, k8, k9,
    false, k11, k12, k13, k14, k15, false, k17⟩ o) : (State.dropEn s i).Sound ⟨false, k1, k2, k3, k4, k5, k6, k7, k8,
    k9, false, k11, k12, k13, k14, k15, false, k17⟩ o := by
  unfold State.dropEn; try dsimp only
  with_reducible repeat' first
    | assumption | intro _ | apply State.pwrEn_sound | apply State.onLinks_sound | apply ite_sound

theorem execSocketPwrEnDrop_sound {o : State} {i : Fin 4} {s : State} (hS : s.Sound ⟨false, k1, k2, k3, k4, k5, k6,
    k7, k8, k9, false, k11, k12, k13, k14, k15, false, k17⟩ o) : OutSound ⟨false, k1, k2, k3, k4, k5, k6, k7, k8, k9,
    false, k11, k12, k13, k14, k15, false, k17⟩ o (execSocketPwrEnDrop i s) := by
  unfold execSocketPwrEnDrop; try dsimp only
  with_reducible repeat' first
    | assumption | intro _ | apply next_sound | apply ite_out_sound | apply State.dropEn_sound

theorem State.markerTimeout_sound {o : State} {s : State} {p : ℕ} (hS : s.Sound ⟨k0, k1, k2, k3, k4, k5, k6, k7, k8,
    k9, false, k11, k12, k13, k14, k15, false, k17⟩ o) : (State.markerTimeout s p).Sound ⟨k0, k1, k2, k3, k4, k5, k6,
    k7, k8, k9, false, k11, k12, k13, k14, k15, false, k17⟩ o := by
  unfold State.markerTimeout; try dsimp only
  with_reducible repeat' first | assumption | intro _ | apply State.suspect_sound | apply ite_sound

theorem execPkgMarkerTimeout_sound {o : State} {src : Pkg} {s : State} (hS : s.Sound ⟨k0, k1, k2, k3, k4, k5, k6, k7,
    k8, k9, false, k11, k12, k13, k14, k15, false, k17⟩ o) : OutSound ⟨k0, k1, k2, k3, k4, k5, k6, k7, k8, k9, false,
    k11, k12, k13, k14, k15, false, k17⟩ o (execPkgMarkerTimeout src s) := by
  unfold execPkgMarkerTimeout; try dsimp only
  with_reducible repeat' first
    | assumption | intro _ | apply next_sound | apply ite_out_sound | apply State.markerTimeout_sound

theorem State.lostReport_sound {o : State} {s : State} {p : ℕ} (hS : s.Sound ⟨k0, k1, k2, k3, k4, k5, k6, k7, k8, k9,
    false, k11, k12, k13, k14, k15, k16, k17⟩ o) : (State.lostReport s p).Sound ⟨k0, k1, k2, k3, k4, k5, k6, k7, k8,
    k9, false, k11, k12, k13, k14, k15, k16, k17⟩ o := by
  unfold State.lostReport; try dsimp only
  with_reducible repeat' first | assumption | intro _ | apply State.onLinks_sound | apply ite_sound

theorem execPkgLostReport_sound {o : State} {src : Pkg} {s : State} (hS : s.Sound ⟨k0, k1, k2, k3, k4, k5, k6, k7, k8,
    k9, false, k11, k12, k13, k14, k15, k16, k17⟩ o) : OutSound ⟨k0, k1, k2, k3, k4, k5, k6, k7, k8, k9, false, k11,
    k12, k13, k14, k15, k16, k17⟩ o (execPkgLostReport src s) := by
  unfold execPkgLostReport; try dsimp only
  repeat' first
    | with_reducible assumption | with_reducible intro _ | with_reducible apply State.ifHeard_sound
    | with_reducible apply State.lostReport_sound | with_reducible apply ite_out_sound
    | with_reducible apply next_sound | with_reducible apply ite_sound | with_reducible apply ite_fst_sound | split

theorem State.lostIn_sound {o : State} {s : State} {src : Nat} {beat : Nat} (hS : s.Sound ⟨false, false, k2, false,
    false, false, false, false, false, false, false, false, false, false, false, false, false, k17⟩ o) : (State.lostIn
    s src beat).Sound ⟨false, false, k2, false, false, false, false, false, false, false, false, false, false, false,
    false, false, false, k17⟩ o := by
  unfold State.lostIn; try dsimp only
  repeat' first
    | with_reducible assumption | with_reducible intro _ | with_reducible apply State.ifHeard_sound
    | with_reducible apply State.lostApply_sound | with_reducible apply State.selfFence_sound
    | with_reducible apply ite_sound | with_reducible apply ite_fst_sound | split

theorem execPkgLostReceived_sound {o : State} {src : Fin 16} {beat : Nat} {s : State} (hS : s.Sound ⟨false, false, k2,
    false, false, false, false, false, false, false, false, false, false, false, false, false, false, k17⟩ o) :
    OutSound ⟨false, false, k2, false, false, false, false, false, false, false, false, false, false, false, false,
    false, false, k17⟩ o (execPkgLostReceived src beat s) := by
  unfold execPkgLostReceived; try dsimp only
  with_reducible repeat' first
    | assumption | intro _ | apply State.lostIn_sound | apply ite_out_sound | apply next_sound | apply ite_sound
    | apply ite_fst_sound

theorem State.lostDrop_sound {o : State} {s : State} {p : Nat} (hS : s.Sound ⟨false, k1, k2, k3, k4, k5, k6, k7, k8,
    k9, k10, k11, k12, k13, k14, k15, false, k17⟩ o) : (State.lostDrop s p).Sound ⟨false, k1, k2, k3, k4, k5, k6, k7,
    k8, k9, k10, k11, k12, k13, k14, k15, false, k17⟩ o := by
  unfold State.lostDrop; try dsimp only
  repeat' first
    | with_reducible assumption | with_reducible intro _ | with_reducible apply State.pwrEn_sound
    | with_reducible apply ite_sound | with_reducible apply ite_fst_sound | split

theorem execPkgLostPwrEnDrop_sound {o : State} {src : Pkg} {s : State} (hS : s.Sound ⟨false, k1, k2, k3, k4, k5, k6,
    k7, k8, k9, k10, k11, k12, k13, k14, k15, false, k17⟩ o) : OutSound ⟨false, k1, k2, k3, k4, k5, k6, k7, k8, k9,
    k10, k11, k12, k13, k14, k15, false, k17⟩ o (execPkgLostPwrEnDrop src s) := by
  unfold execPkgLostPwrEnDrop; try dsimp only
  with_reducible repeat' first
    | assumption | intro _ | apply next_sound | apply ite_out_sound | apply State.lostDrop_sound

end Sys2Proof.Machine
end

