-- ==== Sys2Proof/Laws/KeepTranslation.lean ====
section
/-! SUPPORT. The operations of Machine/Translation.lean keep State.Sound. -/

namespace Sys2Proof.Machine

variable {k0 k1 k2 k3 k4 k5 k6 k7 k8 k9 k10 k11 k12 k13 k14 k15 k16 k17 : Bool}

theorem State.xlatGuard_sound {o : State} {s : State} {w : Who} {c : ℕ} {off : ℕ} {v : Word} {act : State → ℕ → State}
   (h_act : ∀ (x0 : State) (x1 : ℕ), x0.Sound ⟨k0, k1, k2, k3, k4, k5, k6, k7, k8, k9, k10, k11, k12, k13, false,
    false, false, k17⟩ o → (act x0 x1).Sound ⟨k0, k1, k2, k3, k4, k5, k6, k7, k8, k9, k10, k11, k12, k13, false,
    false, false, k17⟩ o) (hS : s.Sound ⟨k0, k1, k2, k3, k4, k5, k6, k7, k8, k9, k10, k11, k12, k13, false, false,
    false, k17⟩ o) : (State.xlatGuard s w c off v act).Sound ⟨k0, k1, k2, k3, k4, k5, k6, k7, k8, k9, k10, k11, k12,
    k13, false, false, false, k17⟩ o := by
  unfold State.xlatGuard; try dsimp only
  repeat' first
    | with_reducible assumption | with_reducible intro _ | with_reducible apply State.csGuard_sound
    | with_reducible apply State.csFail_sound | with_reducible apply ite_sound | with_reducible apply h_act | split

theorem State.xlatCtlOp_sound {o : State} {s : State} {w : Who} {c : ℕ} {v : Word} (hS : s.Sound ⟨false, k1, k2, k3,
    k4, k5, k6, k7, k8, k9, k10, k11, k12, k13, false, false, false, k17⟩ o) : (State.xlatCtlOp s w c v).Sound ⟨false,
    k1, k2, k3, k4, k5, k6, k7, k8, k9, k10, k11, k12, k13, false, false, false, k17⟩ o := by
  unfold State.xlatCtlOp; try dsimp only
  with_reducible repeat' first
    | assumption | intro _ | apply State.xlatGuard_sound | apply State.whoReply_sound | apply State.setF_sound
    | apply ite_sound | apply each_sound

theorem execXlatCtlWrite_sound {o : State} {who : Sender} {c : Core} {en : Bool} {s : State} (hS : s.Sound ⟨false,
    k1, k2, k3, k4, k5, k6, k7, k8, k9, k10, k11, k12, k13, false, false, false, k17⟩ o) : OutSound ⟨false, k1, k2,
    k3, k4, k5, k6, k7, k8, k9, k10, k11, k12, k13, false, false, false, k17⟩ o (execXlatCtlWrite who c en s) := by
  unfold execXlatCtlWrite; try dsimp only
  with_reducible repeat' first
    | assumption | intro _ | apply next_sound | apply ite_out_sound | apply State.xlatCtlOp_sound

theorem State.xlatBaseOp_sound {o : State} {s : State} {w : Who} {c : ℕ} {v : Word} (hS : s.Sound ⟨false, k1, k2, k3,
    k4, k5, k6, k7, k8, k9, k10, k11, k12, k13, false, false, false, k17⟩ o) : (State.xlatBaseOp s w c v).Sound
    ⟨false, k1, k2, k3, k4, k5, k6, k7, k8, k9, k10, k11, k12, k13, false, false, false, k17⟩ o := by
  unfold State.xlatBaseOp; try dsimp only
  with_reducible repeat' first
    | assumption | intro _ | apply State.xlatGuard_sound | apply State.whoReply_sound | apply State.plainWrite_sound
    | apply ite_sound | apply each_sound

theorem execXlatBaseWrite_sound {o : State} {who : Sender} {c : Core} {v : Word} {s : State} (hS : s.Sound ⟨false,
    k1, k2, k3, k4, k5, k6, k7, k8, k9, k10, k11, k12, k13, false, false, false, k17⟩ o) : OutSound ⟨false, k1, k2,
    k3, k4, k5, k6, k7, k8, k9, k10, k11, k12, k13, false, false, false, k17⟩ o (execXlatBaseWrite who c v s) := by
  unfold execXlatBaseWrite; try dsimp only
  with_reducible repeat' first
    | assumption | intro _ | apply next_sound | apply ite_out_sound | apply State.xlatBaseOp_sound

theorem State.tlbiWrite_sound {o : State} {s : State} {w : Who} {c : ℕ} {v : Word} (hS : s.Sound ⟨false, k1, k2,
    false, false, false, k6, k7, k8, k9, k10, k11, k12, k13, false, false, false, k17⟩ o) : (State.tlbiWrite s w c
    v).Sound ⟨false, k1, k2, false, false, false, k6, k7, k8, k9, k10, k11, k12, k13, false, false, false, k17⟩ o :=
    by
  unfold State.tlbiWrite; try dsimp only
  with_reducible repeat' first
    | assumption | intro _ | apply State.xlatGuard_sound | apply State.whoReply_sound | apply State.setF_sound
    | apply State.tlbiIssue_sound | apply ite_sound | apply each_sound

theorem execTlbiByVaAsid_sound {o : State} {who : Sender} {c : Core} {va : Fin (2 ^ 40)} {asid : BitVec 16} {loc :
    Bool} {s : State} (hS : s.Sound ⟨false, k1, k2, false, false, false, k6, k7, k8, k9, k10, k11, k12, k13, false,
    false, false, k17⟩ o) : OutSound ⟨false, k1, k2, false, false, false, k6, k7, k8, k9, k10, k11, k12, k13, false,
    false, false, k17⟩ o (execTlbiByVaAsid who c va asid loc s) := by
  unfold execTlbiByVaAsid; try dsimp only
  with_reducible repeat' first
    | assumption | intro _ | apply next_sound | apply ite_out_sound | apply State.tlbiWrite_sound

theorem execTlbiByVa_sound {o : State} {who : Sender} {c : Core} {va : Fin (2 ^ 40)} {loc : Bool} {s : State} (hS :
    s.Sound ⟨false, k1, k2, false, false, false, k6, k7, k8, k9, k10, k11, k12, k13, false, false, false, k17⟩ o) :
    OutSound ⟨false, k1, k2, false, false, false, k6, k7, k8, k9, k10, k11, k12, k13, false, false, false, k17⟩ o
   (execTlbiByVa who c va loc s) := by
  unfold execTlbiByVa; try dsimp only
  with_reducible repeat' first
    | assumption | intro _ | apply next_sound | apply ite_out_sound | apply State.tlbiWrite_sound

theorem execTlbiByAsid_sound {o : State} {who : Sender} {c : Core} {asid : BitVec 16} {loc : Bool} {s : State} (hS :
    s.Sound ⟨false, k1, k2, false, false, false, k6, k7, k8, k9, k10, k11, k12, k13, false, false, false, k17⟩ o) :
    OutSound ⟨false, k1, k2, false, false, false, k6, k7, k8, k9, k10, k11, k12, k13, false, false, false, k17⟩ o
   (execTlbiByAsid who c asid loc s) := by
  unfold execTlbiByAsid; try dsimp only
  with_reducible repeat' first
    | assumption | intro _ | apply next_sound | apply ite_out_sound | apply State.tlbiWrite_sound

theorem execTlbiAll_sound {o : State} {who : Sender} {c : Core} {loc : Bool} {s : State} (hS : s.Sound ⟨false, k1,
    k2, false, false, false, k6, k7, k8, k9, k10, k11, k12, k13, false, false, false, k17⟩ o) : OutSound ⟨false, k1,
    k2, false, false, false, k6, k7, k8, k9, k10, k11, k12, k13, false, false, false, k17⟩ o (execTlbiAll who c loc s)
    := by
  unfold execTlbiAll; try dsimp only
  with_reducible repeat' first
    | assumption | intro _ | apply next_sound | apply ite_out_sound | apply State.tlbiWrite_sound

theorem State.tlbiApplyOp_sound {o : State} {s : State} {pkg : ℕ} {c : ℕ} {srcPkg : ℕ} {src : ℕ} {op : ℕ} {va : ℕ}
    {asid : ℕ} {p : ℕ} (hS : s.Sound ⟨false, k1, k2, false, false, false, k6, k7, k8, k9, k10, k11, k12, k13, k14,
    false, false, k17⟩ o) : (State.tlbiApplyOp s pkg c srcPkg src op va asid p).Sound ⟨false, k1, k2, false, false,
    false, k6, k7, k8, k9, k10, k11, k12, k13, k14, false, false, k17⟩ o := by
  unfold State.tlbiApplyOp; try dsimp only
  with_reducible repeat' first
    | assumption | intro _ | apply State.tlbiAck_sound | apply State.take_sound | apply State.send_sound
    | apply State.tlbiDeliver_sound | apply State.tlbiLocal_sound | apply State.tlbiDo_sound | apply ite_sound

theorem execTlbiApply_sound {o : State} {pkg : Pkg} {c : Core} {srcPkg : Pkg} {src : Core} {op : Fin 8} {va : Fin (2 ^
    40)} {asid : BitVec 16} {p : Part} {s : State} (hS : s.Sound ⟨false, k1, k2, false, false, false, k6, k7, k8, k9,
    k10, k11, k12, k13, k14, false, false, k17⟩ o) : OutSound ⟨false, k1, k2, false, false, false, k6, k7, k8, k9,
    k10, k11, k12, k13, k14, false, false, k17⟩ o (execTlbiApply pkg c srcPkg src op va asid p s) := by
  unfold execTlbiApply; try dsimp only
  with_reducible repeat' first
    | assumption | intro _ | apply next_sound | apply ite_out_sound | apply State.fromPkg_sound
    | apply State.tlbiApplyOp_sound

theorem State.tlbiSyncOp_sound {o : State} {s : State} {w : Who} {c : ℕ} {v : Word} (hS : s.Sound ⟨k0, k1, k2, false,
    k4, k5, k6, k7, k8, k9, k10, k11, k12, k13, false, false, false, k17⟩ o) : (State.tlbiSyncOp s w c v).Sound ⟨k0,
    k1, k2, false, k4, k5, k6, k7, k8, k9, k10, k11, k12, k13, false, false, false, k17⟩ o := by
  unfold State.tlbiSyncOp; try dsimp only
  with_reducible repeat' first
    | assumption | intro _ | apply State.xlatGuard_sound | apply State.whoReply_sound | apply State.updCoreH_sound
    | apply ite_sound

theorem execTlbiSync_sound {o : State} {who : Sender} {c : Core} {s : State} (hS : s.Sound ⟨k0, k1, k2, false, k4,
    k5, k6, k7, k8, k9, k10, k11, k12, k13, false, false, false, k17⟩ o) : OutSound ⟨k0, k1, k2, false, k4, k5, k6,
    k7, k8, k9, k10, k11, k12, k13, false, false, false, k17⟩ o (execTlbiSync who c s) := by
  unfold execTlbiSync; try dsimp only
  with_reducible repeat' first
    | assumption | intro _ | apply next_sound | apply ite_out_sound | apply State.tlbiSyncOp_sound

theorem State.tlbiSyncEnd_sound {o : State} {s : State} {c : ℕ} (hS : s.Sound ⟨k0, k1, k2, false, k4, k5, k6, k7, k8,
    k9, k10, k11, k12, k13, k14, false, false, k17⟩ o) : (State.tlbiSyncEnd s c).Sound ⟨k0, k1, k2, false, k4, k5, k6,
    k7, k8, k9, k10, k11, k12, k13, k14, false, false, k17⟩ o := by
  unfold State.tlbiSyncEnd; try dsimp only
  with_reducible repeat' first
    | assumption | intro _ | apply State.coreReply_sound | apply State.updCoreH_sound | apply ite_sound

theorem execTlbiSyncDone_sound {o : State} {c : Core} {s : State} (hS : s.Sound ⟨k0, k1, k2, false, k4, k5, k6, k7,
    k8, k9, k10, k11, k12, k13, k14, false, false, k17⟩ o) : OutSound ⟨k0, k1, k2, false, k4, k5, k6, k7, k8, k9, k10,
    k11, k12, k13, k14, false, false, k17⟩ o (execTlbiSyncDone c s) := by
  unfold execTlbiSyncDone; try dsimp only
  with_reducible repeat' first
    | assumption | intro _ | apply next_sound | apply ite_out_sound | apply State.tlbiSyncEnd_sound

end Sys2Proof.Machine
end

