-- ==== Sys2Proof/Laws/KeepControlSpace.lean ====
section
/-! SUPPORT. The operations of Machine/ControlSpace.lean keep State.Sound. -/

namespace Sys2Proof.Machine

variable {k0 k1 k2 k3 k4 k5 k6 k7 k8 k9 k10 k11 k12 k13 k14 k15 k16 k17 : Bool}

theorem State.elogTailOp_sound {o : State} {s : State} {w : Who} {n : ℕ} {v : ℕ} (hS : s.Sound ⟨k0, k1, k2, k3, k4,
    k5, k6, k7, k8, k9, k10, k11, k12, k13, false, false, false, k17⟩ o) : (State.elogTailOp s w n v).Sound ⟨k0, k1,
    k2, k3, k4, k5, k6, k7, k8, k9, k10, k11, k12, k13, false, false, false, k17⟩ o := by
  unfold State.elogTailOp; try dsimp only
  with_reducible repeat' first
    | assumption | intro _ | apply State.csGuard_sound | apply State.whoReply_sound | apply State.onErr_sound

theorem State.plainOp_sound {o : State} {s : State} {w : Who} {off : ℕ} {v : Word} (hS : s.Sound ⟨false, k1, k2, k3,
    k4, k5, k6, k7, k8, k9, k10, k11, k12, k13, false, false, false, k17⟩ o) : (State.plainOp s w off v).Sound ⟨false,
    k1, k2, k3, k4, k5, k6, k7, k8, k9, k10, k11, k12, k13, false, false, false, k17⟩ o := by
  unfold State.plainOp; try dsimp only
  repeat' first
    | with_reducible assumption | with_reducible intro _ | with_reducible apply State.csGuard_sound
    | with_reducible apply State.whoReply_sound | with_reducible apply State.plainWrite_sound
    | with_reducible apply ite_sound | with_reducible apply each_sound | with_reducible apply each_fst_sound
    | with_reducible refine each_fst_sound' (by assumption) ?_ ?_ | split

theorem State.csStore_sound {o : State} {s : State} {w : Who} {off : Nat} {size : Nat} {v : Word} {user : Bool} (hS :
    s.Sound ⟨false, false, k2, false, false, false, false, false, false, false, false, false, false, false, false,
    false, false, false⟩ o) : (State.csStore s w off size v user).Sound ⟨false, false, k2, false, false, false, false,
    false, false, false, false, false, false, false, false, false, false, false⟩ o := by
  unfold State.csStore; try dsimp only
  repeat' first
    | with_reducible assumption | with_reducible intro _ | with_reducible apply State.csGuard_sound
    | with_reducible apply State.plainOp_sound | with_reducible apply State.plReqOp_sound
    | with_reducible apply State.dcCtlOp_sound | with_reducible apply State.coreCtlOp_sound
    | with_reducible apply State.l1CtlOp_sound | with_reducible apply State.cmoIssue_sound
    | with_reducible apply State.xlatCtlOp_sound | with_reducible apply State.xlatBaseOp_sound
    | with_reducible apply State.tlbiWrite_sound | with_reducible apply State.tlbiSyncOp_sound
    | with_reducible apply State.intEoiOp_sound | with_reducible apply State.intIpiOp_sound
    | with_reducible apply State.trnCtlWrite_sound | with_reducible apply State.lineClearOp_sound
    | with_reducible apply State.segCtlOp_sound | with_reducible apply State.hpCtlOp_sound
    | with_reducible apply State.cfgAccess_sound | with_reducible apply State.hostIntOp_sound
    | with_reducible apply State.copyCtl_sound | with_reducible apply State.ltCtlWrite_sound
    | with_reducible apply State.sktCtlOp_sound | with_reducible apply State.arbClrOp_sound
    | with_reducible apply State.carVecOp_sound | with_reducible apply State.ringCtlOp_sound
    | with_reducible apply State.ringTailOp_sound | with_reducible apply State.elogTailOp_sound
    | with_reducible apply State.hubReqOp_sound | with_reducible apply State.restReqOp_sound
    | with_reducible apply State.slotCtlOp_sound | with_reducible apply State.attGo_sound
    | with_reducible apply State.slotWordOp_sound | with_reducible apply ite_sound
    | with_reducible apply ite_fst_sound | with_reducible apply id_sound | split

theorem State.csLoad_sound {o : State} {s : State} {w : Who} {off : ℕ} {size : ℕ} (hS : s.Sound ⟨false, k1, k2,
    false, k4, k5, k6, false, false, false, k10, k11, k12, false, false, false, false, k17⟩ o) : (State.csLoad s w off
    size).Sound ⟨false, k1, k2, false, k4, k5, k6, false, false, false, k10, k11, k12, false, false, false, false,
    k17⟩ o := by
  unfold State.csLoad; try dsimp only
  repeat' first
    | with_reducible assumption | with_reducible intro _ | with_reducible apply State.csGuard_sound
    | with_reducible apply State.whoReply_sound | with_reducible apply State.intAckOp_sound
    | with_reducible apply State.dirProbeOp_sound | with_reducible apply State.cfgAccess_sound
    | with_reducible apply ite_sound | split

theorem State.csAgain_sound {o : State} {s : State} {h : HeldCs} (hS : s.Sound ⟨false, false, k2, false, false, false,
    false, false, false, false, false, false, false, false, false, false, false, false⟩ o) : (State.csAgain s h).Sound
    ⟨false, false, k2, false, false, false, false, false, false, false, false, false, false, false, false, false,
    false, false⟩ o := by
  unfold State.csAgain; try dsimp only
  repeat' first
    | with_reducible assumption | with_reducible intro _ | with_reducible apply State.csStore_sound
    | with_reducible apply State.csLoad_sound | with_reducible apply State.asAgreed_sound
    | with_reducible apply ite_sound | with_reducible apply ite_fst_sound | split

theorem execCsRegisterWrite_sound {o : State} {who : Sender} {off : Fin (2 ^ 32)} {size : Nat} {v : Word} {s : State}
    (hS : s.Sound ⟨false, false, k2, false, false, false, false, false, false, false, false, false, false, false,
    false, false, false, false⟩ o) : OutSound ⟨false, false, k2, false, false, false, false, false, false, false,
    false, false, false, false, false, false, false, false⟩ o (execCsRegisterWrite who off size v s) := by
  unfold execCsRegisterWrite; try dsimp only
  with_reducible repeat' first
    | assumption | intro _ | apply State.csStore_sound | apply ite_out_sound | apply next_sound | apply ite_sound
    | apply ite_fst_sound

theorem execElogTailWrite_sound {o : State} {who : Sender} {n : Fin 32} {v : BitVec 32} {s : State} (hS : s.Sound
    ⟨k0, k1, k2, k3, k4, k5, k6, k7, k8, k9, k10, k11, k12, k13, false, false, false, k17⟩ o) : OutSound ⟨k0, k1, k2,
    k3, k4, k5, k6, k7, k8, k9, k10, k11, k12, k13, false, false, false, k17⟩ o (execElogTailWrite who n v s) := by
  unfold execElogTailWrite; try dsimp only
  with_reducible repeat' first
    | assumption | intro _ | apply next_sound | apply ite_out_sound | apply State.elogTailOp_sound

end Sys2Proof.Machine
end

