-- ==== Sys2Proof/Laws/KeepAccessOps.lean ====
section
/-! SUPPORT. The operations of Machine/AccessOps.lean keep State.Sound. -/

namespace Sys2Proof.Machine

variable {k0 k1 k2 k3 k4 k5 k6 k7 k8 k9 k10 k11 k12 k13 k14 k15 k16 k17 : Bool}

theorem State.accFail_sound {o : State} {s : State} {a : Acc} {e : ECode} (hS : s.Sound ⟨k0, k1, k2, k3, k4, k5, k6,
    k7, k8, k9, k10, k11, k12, k13, k14, false, false, k17⟩ o) : (State.accFail s a e).Sound ⟨k0, k1, k2, k3, k4, k5,
    k6, k7, k8, k9, k10, k11, k12, k13, k14, false, false, k17⟩ o := by
  unfold State.accFail; try dsimp only
  with_reducible repeat' first | assumption | intro _ | apply State.failAcc_sound | apply State.record_sound

theorem State.csAcc_sound {o : State} {s : State} {a : Acc} {pkg : Nat} {off : Nat} (hS : s.Sound ⟨false, false, k2,
    false, false, false, false, false, false, false, false, false, false, false, false, false, false, false⟩ o) :
    (State.csAcc s a pkg off).Sound ⟨false, false, k2, false, false, false, false, false, false, false, false, false,
    false, false, false, false, false, false⟩ o := by
  unfold State.csAcc; try dsimp only
  with_reducible repeat' first
    | assumption | intro _ | apply State.farSend_sound | apply State.countAcc_sound | apply State.countTo_sound
    | apply State.csStore_sound | apply State.csLoad_sound | apply ite_sound | apply ite_fst_sound

theorem State.performNow_sound {o : State} {s : State} {a : Acc} (hS : s.Sound ⟨false, false, k2, false, false, false,
    false, false, false, false, false, false, false, false, false, false, false, false⟩ o) : (State.performNow s
    a).Sound ⟨false, false, k2, false, false, false, false, false, false, false, false, false, false, false, false,
    false, false, false⟩ o := by
  unfold State.performNow; try dsimp only
  repeat' first
    | with_reducible assumption | with_reducible intro _ | with_reducible apply State.ucSend_sound
    | with_reducible apply State.dramReq_sound | with_reducible apply State.winCore_sound
    | with_reducible apply State.csAcc_sound | with_reducible apply ite_sound | with_reducible apply ite_fst_sound
    | with_reducible apply each_sound | with_reducible apply each_fst_sound
    | with_reducible refine each_fst_sound' (by assumption) ?_ ?_ | split

theorem State.performAcc_sound {o : State} {s : State} {a : Acc} {spec : Bool} (hS : s.Sound ⟨false, false, k2, false,
    false, false, false, false, false, false, false, false, false, false, false, false, false, false⟩ o) :
    (State.performAcc s a spec).Sound ⟨false, false, k2, false, false, false, false, false, false, false, false,
    false, false, false, false, false, false, false⟩ o := by
  unfold State.performAcc; try dsimp only
  repeat' first
    | with_reducible assumption | with_reducible intro _ | with_reducible apply State.accFail_sound
    | with_reducible apply State.toCore_sound | with_reducible apply State.performNow_sound
    | with_reducible apply ite_sound | with_reducible apply ite_fst_sound | split

theorem State.access_sound {o : State} {s : State} {a : Acc} {spec : Bool} (hS : s.Sound ⟨false, false, k2, false,
    false, false, false, false, false, false, false, false, false, false, false, false, false, false⟩ o) :
    (State.access s a spec).Sound ⟨false, false, k2, false, false, false, false, false, false, false, false, false,
    false, false, false, false, false, false⟩ o := by
  unfold State.access; try dsimp only
  repeat' first
    | with_reducible assumption | with_reducible intro _
    | with_reducible refine State.translate_sound' (by assumption) ?_ | with_reducible apply State.translate_sound
    | with_reducible apply State.performAcc_sound | with_reducible apply State.xlatFault_sound
    | with_reducible apply State.startWalk_sound | with_reducible apply ite_sound | with_reducible apply ite_fst_sound
    | split

theorem State.coreAccess_sound {o : State} {s : State} {a : Acc} {spec : Bool} (hS : s.Sound ⟨false, false, k2, false,
    false, false, false, false, false, false, false, false, false, false, false, false, false, false⟩ o) :
    (State.coreAccess s a spec).Sound ⟨false, false, k2, false, false, false, false, false, false, false, false,
    false, false, false, false, false, false, false⟩ o := by
  unfold State.coreAccess; try dsimp only
  with_reducible repeat' first
    | assumption | intro _ | apply State.toCore_sound | apply State.access_sound | apply ite_sound
    | apply ite_fst_sound

theorem State.walkAgain_sound {o : State} {s : State} {w : Walk} (hS : s.Sound ⟨false, false, k2, false, false, false,
    false, false, false, false, false, false, false, false, false, false, false, false⟩ o) : (State.walkAgain s
    w).Sound ⟨false, false, k2, false, false, false, false, false, false, false, false, false, false, false, false,
    false, false, false⟩ o := by
  unfold State.walkAgain; try dsimp only
  repeat' first
    | with_reducible assumption | with_reducible intro _ | with_reducible apply State.cmoWrite_sound
    | with_reducible apply State.access_sound | with_reducible apply ite_sound | with_reducible apply ite_fst_sound
    | split

theorem State.walksAgain_sound {o : State} {s : State} {c : Nat} (hS : s.Sound ⟨false, false, k2, false, false, false,
    false, false, false, false, false, false, false, false, false, false, false, false⟩ o) : (State.walksAgain s
    c).Sound ⟨false, false, k2, false, false, false, false, false, false, false, false, false, false, false, false,
    false, false, false⟩ o := by
  unfold State.walksAgain; try dsimp only
  repeat' first
    | with_reducible assumption | with_reducible intro _
    | with_reducible refine State.takeWaits_sound' (by assumption) ?_ | with_reducible apply State.takeWaits_sound
    | with_reducible apply State.walkAgain_sound | with_reducible apply ite_sound | with_reducible apply ite_fst_sound
    | with_reducible apply each_sound | with_reducible apply each_fst_sound
    | with_reducible refine each_fst_sound' (by assumption) ?_ ?_ | split

theorem State.walkOp_sound {o : State} {s : State} {c : Nat} {n : Nat} (hS : s.Sound ⟨false, false, k2, false, false,
    false, false, false, false, false, false, false, false, false, false, false, false, false⟩ o) : (State.walkOp s c
    n).Sound ⟨false, false, k2, false, false, false, false, false, false, false, false, false, false, false, false,
    false, false, false⟩ o := by
  unfold State.walkOp; try dsimp only
  repeat' first
    | with_reducible assumption | with_reducible intro _
    | with_reducible refine State.walkStep_sound' (by assumption) ?_ | with_reducible apply State.walkStep_sound
    | with_reducible apply State.walksAgain_sound | with_reducible apply State.cmoLeaf_sound
    | with_reducible apply State.performAcc_sound | with_reducible apply State.accsSettle_sound
    | with_reducible apply ite_sound | with_reducible apply ite_fst_sound | split

theorem State.asReserved_sound {o : State} {s : State} {n : Nat} {m : CMsg} (hS : s.Sound ⟨k0, k1, k2, k3, k4, k5, k6,
    k7, k8, k9, k10, k11, k12, k13, k14, k15, false, k17⟩ o) : (State.asReserved s n m).Sound ⟨k0, k1, k2, k3, k4, k5,
    k6, k7, k8, k9, k10, k11, k12, k13, k14, k15, false, k17⟩ o := by
  unfold State.asReserved; try dsimp only
  repeat' first
    | with_reducible assumption | with_reducible intro _ | with_reducible apply State.take_sound
    | with_reducible apply ite_sound | with_reducible apply ite_fst_sound | with_reducible apply mk_sound
    | with_reducible apply State.Sound.clock | with_reducible apply State.Sound.queue
    | with_reducible apply State.Sound.free | with_reducible apply State.Sound.fused
    | with_reducible apply State.Sound.mem | with_reducible apply State.Sound.regs
    | with_reducible apply State.Sound.k_regs | with_reducible apply State.Sound.k_beat
    | with_reducible apply State.Sound.k_boot | with_reducible apply State.Sound.k_cores
    | with_reducible apply State.Sound.k_cache | with_reducible apply State.Sound.k_xlat
    | with_reducible apply State.Sound.k_fab | with_reducible apply State.Sound.k_home
    | with_reducible apply State.Sound.k_dram | with_reducible apply State.Sound.k_mem
    | with_reducible apply State.Sound.k_links | with_reducible apply State.Sound.k_sec
    | with_reducible apply State.Sound.k_crypto | with_reducible apply State.Sound.k_pcie
    | with_reducible apply State.Sound.k_pwr | with_reducible apply State.Sound.k_err
    | with_reducible apply State.Sound.k_sent | with_reducible apply State.Sound.k_freeCtr
    | with_reducible apply State.Sound.k_flits | with_reducible exact absurd (by assumption) Bool.false_ne_true
    | split

theorem State.ucRow_sound {o : State} {s : State} {h : Nat} {m : CMsg} (hS : s.Sound ⟨false, false, k2, false, false,
    false, false, false, false, false, false, false, false, false, false, false, false, false⟩ o) : (State.ucRow s h
    m).Sound ⟨false, false, k2, false, false, false, false, false, false, false, false, false, false, false, false,
    false, false, false⟩ o := by
  unfold State.ucRow; try dsimp only
  repeat' first
    | with_reducible assumption | with_reducible intro _ | with_reducible apply State.arrive_sound
    | with_reducible apply State.homeReq_sound | with_reducible apply State.take_sound
    | with_reducible apply State.csStore_sound | with_reducible apply State.csLoad_sound
    | with_reducible apply State.asReserved_sound | with_reducible apply State.winFar_sound
    | with_reducible apply ite_sound | with_reducible apply ite_fst_sound | split

theorem State.wakeNoticeOp_sound {o : State} {s : State} {q : Nat} {d : Option Nat} (hS : s.Sound ⟨false, false, k2,
    false, false, false, false, false, false, false, false, false, false, false, false, false, false, false⟩ o) :
    (State.wakeNoticeOp s q d).Sound ⟨false, false, k2, false, false, false, false, false, false, false, false, false,
    false, false, false, false, false, false⟩ o := by
  unfold State.wakeNoticeOp; try dsimp only
  repeat' first
    | with_reducible assumption | with_reducible intro _ | with_reducible apply State.wakeIn_sound
    | with_reducible apply State.csAgain_sound | with_reducible apply State.onPwr_sound
    | with_reducible apply ite_sound | with_reducible apply ite_fst_sound | with_reducible apply each_sound
    | with_reducible apply each_fst_sound | with_reducible refine each_fst_sound' (by assumption) ?_ ?_ | split

end Sys2Proof.Machine
end

