-- ==== Sys2Proof/Laws/KeepAccess.lean ====
section
/-! SUPPORT. The operations of Machine/Access.lean keep State.Sound. -/

namespace Sys2Proof.Machine

variable {k0 k1 k2 k3 k4 k5 k6 k7 k8 k9 k10 k11 k12 k13 k14 k15 k16 k17 : Bool}

theorem execCoreLoad_sound {o : State} {c : Core} {va : Word} {size : Nat} {user : Bool} {spec : Bool} {s : State} (hS
    : s.Sound ⟨false, false, k2, false, false, false, false, false, false, false, false, false, false, false, false,
    false, false, false⟩ o) : OutSound ⟨false, false, k2, false, false, false, false, false, false, false, false,
    false, false, false, false, false, false, false⟩ o (execCoreLoad c va size user spec s) := by
  unfold execCoreLoad; try dsimp only
  with_reducible repeat' first
    | assumption | intro _ | apply State.coreAccess_sound | apply ite_out_sound | apply next_sound | apply ite_sound
    | apply ite_fst_sound

theorem execCoreStore_sound {o : State} {c : Core} {va : Word} {size : Nat} {v : Line} {user : Bool} {s : State} (hS :
    s.Sound ⟨false, false, k2, false, false, false, false, false, false, false, false, false, false, false, false,
    false, false, false⟩ o) : OutSound ⟨false, false, k2, false, false, false, false, false, false, false, false,
    false, false, false, false, false, false, false⟩ o (execCoreStore c va size v user s) := by
  unfold execCoreStore; try dsimp only
  with_reducible repeat' first
    | assumption | intro _ | apply State.coreAccess_sound | apply ite_out_sound | apply next_sound | apply ite_sound
    | apply ite_fst_sound

theorem execCoreAtomic_sound {o : State} {c : Core} {va : Word} {op : Nat} {size : Nat} {arg : BitVec 128} {arg2 :
    BitVec 128} {user : Bool} {s : State} (hS : s.Sound ⟨false, false, k2, false, false, false, false, false, false,
    false, false, false, false, false, false, false, false, false⟩ o) : OutSound ⟨false, false, k2, false, false,
    false, false, false, false, false, false, false, false, false, false, false, false, false⟩ o (execCoreAtomic c va
    op size arg arg2 user s) := by
  unfold execCoreAtomic; try dsimp only
  with_reducible repeat' first
    | assumption | intro _ | apply State.coreAccess_sound | apply ite_out_sound | apply next_sound | apply ite_sound
    | apply ite_fst_sound

theorem execCoreFetch_sound {o : State} {c : Core} {va : Word} {user : Bool} {spec : Bool} {s : State} (hS : s.Sound
    ⟨false, false, k2, false, false, false, false, false, false, false, false, false, false, false, false, false,
    false, false⟩ o) : OutSound ⟨false, false, k2, false, false, false, false, false, false, false, false, false,
    false, false, false, false, false, false⟩ o (execCoreFetch c va user spec s) := by
  unfold execCoreFetch; try dsimp only
  with_reducible repeat' first
    | assumption | intro _ | apply State.coreAccess_sound | apply ite_out_sound | apply next_sound | apply ite_sound
    | apply ite_fst_sound

theorem execWalkDescriptor_sound {o : State} {c : Core} {w : Fin 2} {s : State} (hS : s.Sound ⟨false, false, k2,
    false, false, false, false, false, false, false, false, false, false, false, false, false, false, false⟩ o) :
    OutSound ⟨false, false, k2, false, false, false, false, false, false, false, false, false, false, false, false,
    false, false, false⟩ o (execWalkDescriptor c w s) := by
  unfold execWalkDescriptor; try dsimp only
  with_reducible repeat' first
    | assumption | intro _ | apply State.walkOp_sound | apply ite_out_sound | apply next_sound | apply ite_sound
    | apply ite_fst_sound

theorem execUcRd_sound {o : State} {h : Hub} {m : CMsg} {s : State} (hS : s.Sound ⟨false, false, k2, false, false,
    false, false, false, false, false, false, false, false, false, false, false, false, false⟩ o) : OutSound ⟨false,
    false, k2, false, false, false, false, false, false, false, false, false, false, false, false, false, false,
    false⟩ o (execUcRd h m s) := by
  unfold execUcRd; try dsimp only
  with_reducible repeat' first
    | assumption | intro _ | apply State.ucRow_sound | apply ite_out_sound | apply next_sound | apply ite_sound
    | apply ite_fst_sound

theorem execUcWr_sound {o : State} {h : Hub} {m : CMsg} {s : State} (hS : s.Sound ⟨false, false, k2, false, false,
    false, false, false, false, false, false, false, false, false, false, false, false, false⟩ o) : OutSound ⟨false,
    false, k2, false, false, false, false, false, false, false, false, false, false, false, false, false, false,
    false⟩ o (execUcWr h m s) := by
  unfold execUcWr; try dsimp only
  with_reducible repeat' first
    | assumption | intro _ | apply State.ucRow_sound | apply ite_out_sound | apply next_sound | apply ite_sound
    | apply ite_fst_sound

theorem execWakeNotice_sound {o : State} {pkg : Pkg} {d : Option Die} {s : State} (hS : s.Sound ⟨false, false, k2,
    false, false, false, false, false, false, false, false, false, false, false, false, false, false, false⟩ o) :
    OutSound ⟨false, false, k2, false, false, false, false, false, false, false, false, false, false, false, false,
    false, false, false⟩ o (execWakeNotice pkg d s) := by
  unfold execWakeNotice; try dsimp only
  with_reducible repeat' first
    | assumption | intro _ | apply State.wakeNoticeOp_sound | apply ite_out_sound | apply next_sound | apply ite_sound
    | apply ite_fst_sound

end Sys2Proof.Machine
end

