-- ==== Sys2Proof/Laws/KeepBeatOps.lean ====
section
/-! SUPPORT. The operations of Machine/BeatOps.lean keep State.Sound. -/

namespace Sys2Proof.Machine

variable {k0 k1 k2 k3 k4 k5 k6 k7 k8 k9 k10 k11 k12 k13 k14 k15 k16 k17 : Bool}

theorem State.armCheck_sound {o : State} {s : State} {u : Nat} {seq : Nat} {c : Change} (hS : s.Sound ⟨false, false,
    false, k3, k4, k5, k6, k7, false, false, k10, false, k12, k13, k14, false, false, false⟩ o) : (State.armCheck s u
    seq c).1.Sound ⟨false, false, false, k3, k4, k5, k6, k7, false, false, k10, false, k12, k13, k14, false, false,
    false⟩ o := by
  unfold State.armCheck; try dsimp only
  repeat' first
    | with_reducible assumption | with_reducible intro _
    | with_reducible refine State.ticketCheck_sound' (by assumption) ?_ | with_reducible apply State.ticketCheck_sound
    | with_reducible apply State.record_sound | with_reducible apply ite_sound | with_reducible apply ite_fst_sound
    | split

theorem State.armCheck_sound' {o : State} {s : State} {u : Nat} {seq : Nat} {c : Change} {u_ : State} {res} (e :
    State.armCheck s u seq c = (u_, res)) (hS : s.Sound ⟨false, false, false, k3, k4, k5, k6, k7, false, false, k10,
    false, k12, k13, k14, false, false, false⟩ o) : u_.Sound ⟨false, false, false, k3, k4, k5, k6, k7, false, false,
    k10, false, k12, k13, k14, false, false, false⟩ o :=
  fst_sound e (State.armCheck_sound hS)

theorem State.seqSeen_sound {o : State} {s : State} {seq : Nat} (hS : s.Sound ⟨k0, false, k2, k3, k4, k5, k6, k7, k8,
    k9, k10, k11, k12, k13, k14, k15, k16, k17⟩ o) : (State.seqSeen s seq).Sound ⟨k0, false, k2, k3, k4, k5, k6, k7,
    k8, k9, k10, k11, k12, k13, k14, k15, k16, k17⟩ o := by
  unfold State.seqSeen; try dsimp only
  repeat' first
    | with_reducible assumption | with_reducible intro _ | with_reducible apply State.onBeat_sound
    | with_reducible apply ite_sound | with_reducible apply ite_fst_sound | with_reducible rfl | rfl | split

theorem State.armIn_sound {o : State} {s : State} {u : Nat} {seq : Nat} {target : Nat} {c : Change} (hS : s.Sound
    ⟨false, false, false, k3, k4, k5, k6, k7, false, false, k10, false, k12, k13, k14, false, false, false⟩ o) :
    (State.armIn s u seq target c).Sound ⟨false, false, false, k3, k4, k5, k6, k7, false, false, k10, false, k12, k13,
    k14, false, false, false⟩ o := by
  unfold State.armIn; try dsimp only
  repeat' first
    | with_reducible assumption | with_reducible intro _ | with_reducible apply State.take_sound
    | with_reducible apply State.setSlot_sound | with_reducible apply State.seqSeen_sound
    | with_reducible apply State.send_sound | with_reducible apply State.slotArm_sound
    | with_reducible refine State.armCheck_sound' (by assumption) ?_ | with_reducible apply State.armCheck_sound
    | with_reducible apply ite_sound | with_reducible apply ite_fst_sound | with_reducible apply each_sound
    | with_reducible apply each_fst_sound | with_reducible refine each_fst_sound' (by assumption) ?_ ?_ | split

theorem State.ackIn_sound {o : State} {s : State} {u : ℕ} {seq : ℕ} (hS : s.Sound ⟨k0, false, k2, k3, k4, k5, k6, k7,
    k8, k9, k10, k11, k12, k13, k14, k15, false, k17⟩ o) : (State.ackIn s u seq).Sound ⟨k0, false, k2, k3, k4, k5, k6,
    k7, k8, k9, k10, k11, k12, k13, k14, k15, false, k17⟩ o := by
  unfold State.ackIn; try dsimp only
  repeat' first
    | with_reducible assumption | with_reducible intro _ | with_reducible apply State.pealArmed_sound
    | with_reducible apply State.take_sound | with_reducible apply ite_sound | split

theorem State.resultIn_sound {o : State} {s : State} {src : ℕ} {seq : ℕ} {missing : Option ℕ} (hS : s.Sound ⟨k0,
    false, k2, k3, k4, k5, k6, k7, k8, k9, k10, k11, k12, k13, k14, k15, false, k17⟩ o) : (State.resultIn s src seq
    missing).Sound ⟨k0, false, k2, k3, k4, k5, k6, k7, k8, k9, k10, k11, k12, k13, k14, k15, false, k17⟩ o := by
  unfold State.resultIn; try dsimp only
  repeat' first
    | with_reducible assumption | with_reducible intro _ | with_reducible apply State.setSlot_sound
    | with_reducible apply State.take_sound | with_reducible apply ite_sound | split

theorem State.pealDecide_sound {o : State} {s : State} (hS : s.Sound ⟨k0, false, k2, k3, k4, k5, k6, k7, k8, k9, k10,
    k11, k12, k13, k14, k15, false, k17⟩ o) : (State.pealDecide s).Sound ⟨k0, false, k2, k3, k4, k5, k6, k7, k8, k9,
    k10, k11, k12, k13, k14, k15, false, k17⟩ o := by
  unfold State.pealDecide; try dsimp only
  with_reducible repeat' first
    | assumption | intro _ | apply State.setSlot_sound | apply State.send_sound | apply ite_sound | apply each_sound

theorem State.pealReport_sound {o : State} {s : State} (hS : s.Sound ⟨k0, k1, k2, k3, k4, k5, k6, k7, k8, k9, k10,
    k11, k12, k13, k14, k15, false, k17⟩ o) : (State.pealReport s).Sound ⟨k0, k1, k2, k3, k4, k5, k6, k7, k8, k9, k10,
    k11, k12, k13, k14, k15, false, k17⟩ o := by
  unfold State.pealReport; try dsimp only
  with_reducible repeat' first
    | assumption | intro _ | apply State.send_sound | apply ite_sound | apply each_sound

theorem State.verdictIn_sound {o : State} {s : State} {u : Nat} {seq : Nat} {ok : Bool} {cause : Nat × Nat} (hS :
    s.Sound ⟨k0, false, k2, k3, k4, k5, k6, k7, k8, k9, k10, k11, k12, k13, k14, k15, false, k17⟩ o) :
    (State.verdictIn s u seq ok cause).Sound ⟨k0, false, k2, k3, k4, k5, k6, k7, k8, k9, k10, k11, k12, k13, k14, k15,
    false, k17⟩ o := by
  unfold State.verdictIn; try dsimp only
  repeat' first
    | with_reducible assumption | with_reducible intro _ | with_reducible apply State.take_sound
    | with_reducible apply State.setSlot_sound | with_reducible apply State.send_sound
    | with_reducible apply ite_sound | with_reducible apply ite_fst_sound | with_reducible apply each_sound
    | with_reducible apply each_fst_sound | with_reducible refine each_fst_sound' (by assumption) ?_ ?_ | split

theorem State.pealHold_sound {o : State} {s : State} {c : Change} (hS : s.Sound ⟨false, false, false, false, false,
    false, k6, false, k8, k9, false, false, k12, k13, k14, false, false, k17⟩ o) : (State.pealHold s c).Sound ⟨false,
    false, false, false, false, false, k6, false, k8, k9, false, false, k12, k13, k14, false, false, k17⟩ o := by
  unfold State.pealHold; try dsimp only
  repeat' first
    | with_reducible assumption | with_reducible intro _ | with_reducible apply State.onSec_sound
    | with_reducible apply State.extendHallmark_sound | with_reducible apply State.joinMembers_sound
    | with_reducible apply State.detachMembers_sound | with_reducible apply ite_sound
    | with_reducible apply ite_fst_sound | split

theorem State.pealEffect_sound {o : State} {s : State} {seq : Nat} {c : Change} (hS : s.Sound ⟨false, false, false,
    false, false, false, false, false, false, false, false, false, false, false, false, false, false, false⟩ o) :
    (State.pealEffect s seq c).Sound ⟨false, false, false, false, false, false, false, false, false, false, false,
    false, false, false, false, false, false, false⟩ o := by
  unfold State.pealEffect; try dsimp only
  repeat' first
    | with_reducible assumption | with_reducible intro _ | with_reducible apply State.pealHold_sound
    | with_reducible apply State.applyTicket_sound | with_reducible apply State.joinMembers_sound
    | with_reducible apply State.changeEffect_sound | with_reducible apply State.detachMembers_sound
    | with_reducible apply State.ticketOver_sound | with_reducible apply ite_sound
    | with_reducible apply ite_fst_sound | split

theorem State.pealUndone_sound {o : State} {s : State} {seq : Nat} {c : Change} (hS : s.Sound ⟨false, k1, k2, k3, k4,
    k5, k6, false, k8, k9, false, false, k12, k13, k14, false, false, k17⟩ o) : (State.pealUndone s seq c).Sound
    ⟨false, k1, k2, k3, k4, k5, k6, false, k8, k9, false, false, k12, k13, k14, false, false, k17⟩ o := by
  unfold State.pealUndone; try dsimp only
  repeat' first
    | with_reducible assumption | with_reducible intro _ | with_reducible apply State.ticketOver_sound
    | with_reducible apply State.onHome_sound | with_reducible apply State.onLinks_sound
    | with_reducible apply State.sktStay_sound | with_reducible apply State.joinOver_sound
    | with_reducible apply State.leaveCancel_sound | with_reducible apply ite_sound
    | with_reducible apply ite_fst_sound | split

theorem State.cancelRecord_sound {o : State} {s : State} {q : PealSlot} (hS : s.Sound ⟨k0, k1, k2, k3, k4, k5, k6,
    k7, k8, k9, k10, k11, k12, k13, k14, false, false, k17⟩ o) : (State.cancelRecord s q).Sound ⟨k0, k1, k2, k3, k4,
    k5, k6, k7, k8, k9, k10, k11, k12, k13, k14, false, false, k17⟩ o := by
  unfold State.cancelRecord; try dsimp only
  with_reducible repeat' first | assumption | intro _ | apply State.record_sound

theorem State.pealEnd_sound {o : State} {s : State} {i : Nat} {q : PealSlot} (hS : s.Sound ⟨false, false, false,
    false, false, false, false, false, false, false, false, false, false, false, false, false, false, false⟩ o) :
    (State.pealEnd s i q).Sound ⟨false, false, false, false, false, false, false, false, false, false, false, false,
    false, false, false, false, false, false⟩ o := by
  unfold State.pealEnd; try dsimp only
  repeat' first
    | with_reducible assumption | with_reducible intro _ | with_reducible apply State.setSlot_sound
    | with_reducible apply State.raiseGong_sound | with_reducible apply State.onBeat_sound
    | with_reducible apply State.pealLast_sound | with_reducible apply State.wrapF_sound
    | with_reducible apply State.ticketOver_sound | with_reducible apply State.pealUndone_sound
    | with_reducible apply State.fenceDie_sound | with_reducible apply State.pealEffect_sound
    | with_reducible apply State.cancelRecord_sound | with_reducible apply ite_sound
    | with_reducible apply ite_fst_sound | with_reducible apply each_sound | with_reducible apply each_fst_sound
    | with_reducible refine each_fst_sound' (by assumption) ?_ ?_ | with_reducible rfl | rfl | split

theorem State.pealApply_sound {o : State} {s : State} (hS : s.Sound ⟨false, false, false, false, false, false, false,
    false, false, false, false, false, false, false, false, false, false, false⟩ o) : (State.pealApply s).Sound
    ⟨false, false, false, false, false, false, false, false, false, false, false, false, false, false, false, false,
    false, false⟩ o := by
  unfold State.pealApply; try dsimp only
  with_reducible repeat' first
    | assumption | intro _ | apply State.pealEnd_sound | apply ite_sound | apply each_sound

theorem State.peerHeard_sound {o : State} {s : State} {p : ℕ} {h : Digest} (hS : s.Sound ⟨false, false, k2, k3, k4,
    k5, k6, k7, k8, k9, k10, k11, k12, k13, k14, k15, k16, k17⟩ o) : (State.peerHeard s p h).Sound ⟨false, false, k2,
    k3, k4, k5, k6, k7, k8, k9, k10, k11, k12, k13, k14, k15, k16, k17⟩ o := by
  unfold State.peerHeard; try dsimp only
  repeat' first
    | with_reducible assumption | with_reducible intro _ | with_reducible apply State.setF_sound
    | with_reducible apply State.onBeat_sound | with_reducible rfl | rfl

theorem State.raiseFuse_sound {o s : State} (hS : s.Sound ⟨k0, k1, false, k3, k4, k5, k6, k7, k8, k9, k10, k11, k12, k13, k14, k15, k16, k17⟩ o) : s.raiseFuse.Sound ⟨k0, k1, false, k3, k4, k5, k6, k7, k8, k9, k10, k11, k12, k13, k14, k15, k16, k17⟩ o := by
  unfold State.raiseFuse
  split
  · rename_i hlt
    refine ⟨hS.clock, hS.queue, hS.free, hS.fused.trans ?_, hS.mem, hS.regs, hS.k_regs, hS.k_beat, nofun, hS.k_cores, hS.k_cache, hS.k_xlat, hS.k_fab, hS.k_home, hS.k_dram, hS.k_mem, hS.k_links, hS.k_sec, hS.k_crypto, hS.k_pcie, hS.k_pwr, hS.k_err, hS.k_sent, hS.k_freeCtr, hS.k_flits⟩
    exact (le_max_right _ _).trans (Nat.le_of_lt hlt)
  · exact hS

theorem State.exchangeEnd_sound {o : State} {s : State} {b : Nat} (hS : s.Sound ⟨false, false, false, k3, k4, k5, k6,
    k7, k8, k9, k10, k11, k12, k13, k14, false, false, k17⟩ o) : (State.exchangeEnd s b).Sound ⟨false, false, false,
    k3, k4, k5, k6, k7, k8, k9, k10, k11, k12, k13, k14, false, false, k17⟩ o := by
  unfold State.exchangeEnd; try dsimp only
  repeat' first
    | with_reducible assumption | with_reducible intro _ | with_reducible apply State.onBeat_sound
    | with_reducible apply State.setF_sound | with_reducible apply State.selfFence_sound
    | with_reducible apply State.raiseFuse_sound | with_reducible apply ite_sound | with_reducible apply ite_fst_sound
    | with_reducible apply each_sound | with_reducible apply each_fst_sound
    | with_reducible refine each_fst_sound' (by assumption) ?_ ?_ | with_reducible rfl | rfl | split

theorem State.exchange_sound {o : State} {s : State} (hS : s.Sound ⟨false, false, false, k3, k4, k5, k6, k7, k8, k9,
    k10, k11, k12, k13, k14, false, false, k17⟩ o) : (State.exchange s).Sound ⟨false, false, false, k3, k4, k5, k6,
    k7, k8, k9, k10, k11, k12, k13, k14, false, false, k17⟩ o := by
  unfold State.exchange; try dsimp only
  repeat' first
    | with_reducible assumption | with_reducible intro _ | with_reducible apply State.onBeat_sound
    | with_reducible apply State.setReg_sound | with_reducible apply State.hubCompare_sound
    | with_reducible apply State.send_sound | with_reducible apply State.peerHeard_sound
    | with_reducible apply State.exchangeEnd_sound | with_reducible apply ite_sound
    | with_reducible apply ite_fst_sound | with_reducible apply each_sound | with_reducible apply each_fst_sound
    | with_reducible refine each_fst_sound' (by assumption) ?_ ?_ | with_reducible rfl | rfl | split

theorem State.hallmarkIn_sound {o : State} {s : State} {src : Nat} {h : Digest} {beat : Nat} (hS : s.Sound ⟨false, false, false, k3, k4, k5, k6, k7, k8, k9, k10, k11, k12, k13, k14, false, false, k17⟩ o) : (State.hallmarkIn s src
    h beat).Sound ⟨false, false, false, k3, k4, k5, k6, k7, k8, k9, k10, k11, k12, k13, k14, false, false, k17⟩ o :=
    by
  unfold State.hallmarkIn; try dsimp only
  with_reducible repeat' first
    | assumption | intro _ | apply State.peerHeard_sound | apply State.beatEvent_sound | apply State.exchangeEnd_sound
    | apply ite_sound | apply ite_fst_sound

theorem State.exchangeLate_sound {o : State} {s : State} (hS : s.Sound ⟨false, false, false, k3, k4, k5, k6, k7, k8,
    k9, false, k11, k12, k13, k14, false, false, k17⟩ o) : (State.exchangeLate s).Sound ⟨false, false, false, k3, k4,
    k5, k6, k7, k8, k9, false, k11, k12, k13, k14, false, false, k17⟩ o := by
  unfold State.exchangeLate; try dsimp only
  with_reducible repeat' first
    | assumption | intro _ | apply State.suspect_sound | apply State.exchangeEnd_sound | apply ite_sound
    | apply ite_fst_sound | apply each_sound | apply each_fst_sound | refine each_fst_sound' (by assumption) ?_ ?_

theorem State.worstNow_sound {o : State} {s : State} (hS : s.Sound ⟨false, false, k2, k3, k4, k5, k6, k7, k8, k9, k10,
    k11, k12, k13, k14, k15, k16, k17⟩ o) : (State.worstNow s).Sound ⟨false, false, k2, k3, k4, k5, k6, k7, k8, k9,
    k10, k11, k12, k13, k14, k15, k16, k17⟩ o := by
  unfold State.worstNow; try dsimp only
  repeat' first
    | with_reducible assumption | with_reducible intro _ | with_reducible apply State.onBeat_sound
    | with_reducible apply State.setF_sound | with_reducible apply ite_sound | with_reducible apply ite_fst_sound
    | with_reducible rfl | rfl | split

theorem State.steer_sound {o : State} {s : State} {off : Int} (hS : s.Sound ⟨false, false, k2, k3, k4, k5, k6, k7, k8,
    k9, k10, k11, k12, k13, k14, k15, false, k17⟩ o) : (State.steer s off).Sound ⟨false, false, k2, k3, k4, k5, k6,
    k7, k8, k9, k10, k11, k12, k13, k14, k15, false, k17⟩ o := by
  unfold State.steer; try dsimp only
  repeat' first
    | with_reducible assumption | with_reducible intro _ | with_reducible apply State.onBeat_sound
    | with_reducible apply State.worstNow_sound | with_reducible apply State.setF_sound
    | with_reducible apply State.beatEvent_sound | with_reducible apply ite_sound | with_reducible apply ite_fst_sound
    | with_reducible rfl | rfl | split

theorem State.markerIn_sound {o : State} {s : State} {p : Nat} {w : Word} {beat : Option Word} {arrival : Int} (hS :
    s.Sound ⟨false, false, k2, k3, k4, k5, k6, k7, k8, k9, false, k11, k12, k13, k14, k15, false, k17⟩ o) :
    (State.markerIn s p w beat arrival).Sound ⟨false, false, k2, k3, k4, k5, k6, k7, k8, k9, false, k11, k12, k13,
    k14, k15, false, k17⟩ o := by
  unfold State.markerIn; try dsimp only
  repeat' first
    | with_reducible assumption | with_reducible intro _ | with_reducible apply State.setF_sound
    | with_reducible apply State.onLinks_sound | with_reducible apply State.onBeat_sound
    | with_reducible apply State.steer_sound | with_reducible apply ite_sound | with_reducible apply ite_fst_sound
    | with_reducible rfl | rfl | split

theorem State.markerGone_sound {o : State} {s : State} {p : ℕ} (hS : s.Sound ⟨false, k1, k2, k3, k4, k5, k6, k7, k8,
    k9, k10, k11, k12, k13, k14, k15, false, k17⟩ o) : (State.markerGone s p).Sound ⟨false, k1, k2, k3, k4, k5, k6,
    k7, k8, k9, k10, k11, k12, k13, k14, k15, false, k17⟩ o := by
  unfold State.markerGone; try dsimp only
  with_reducible repeat' first
    | assumption | intro _ | apply State.beatEvent_sound | apply State.incF_sound | apply ite_sound

theorem State.beatGone_sound {o : State} {s : State} (hS : s.Sound ⟨k0, false, k2, k3, k4, k5, k6, k7, k8, k9, k10,
    k11, k12, k13, k14, false, false, k17⟩ o) : (State.beatGone s).Sound ⟨k0, false, k2, k3, k4, k5, k6, k7, k8, k9,
    k10, k11, k12, k13, k14, false, false, k17⟩ o := by
  unfold State.beatGone; try dsimp only
  with_reducible repeat' first | assumption | intro _ | apply State.selfFence_sound | apply ite_sound

theorem State.markerCounts_sound {o s : State} (hS : s.Sound ⟨false, false, k2, k3, k4, k5, k6, k7, k8, k9, false, k11, k12, k13, k14, k15, k16, k17⟩ o) : s.markerCounts.Sound ⟨false, false, k2, k3, k4, k5, k6, k7, k8, k9, false, k11, k12, k13, k14, k15, k16, k17⟩ o := by
  unfold State.markerCounts
  extract_lets off a b c near
  have ha : a.Sound ⟨false, false, k2, k3, k4, k5, k6, k7, k8, k9, false, k11, k12, k13, k14, k15, k16, k17⟩ o := ite_sound (State.setF_sound hS) hS
  have hb : b.Sound ⟨false, false, k2, k3, k4, k5, k6, k7, k8, k9, false, k11, k12, k13, k14, k15, k16, k17⟩ o := State.onBeat_sound ha (by split <;> rfl)
  exact State.onLinks_sound (State.worstNow_sound hb)

theorem State.ctlSlots_sound {o : State} {s : State} (hS : s.Sound ⟨k0, k1, k2, k3, k4, k5, k6, k7, k8, k9, k10, k11,
    k12, k13, k14, k15, false, false⟩ o) : (State.ctlSlots s).Sound ⟨k0, k1, k2, k3, k4, k5, k6, k7, k8, k9, k10, k11,
    k12, k13, k14, k15, false, false⟩ o := by
  unfold State.ctlSlots; try dsimp only
  with_reducible repeat' first
    | assumption | intro _ | apply State.tick_sound | apply State.send_sound | apply ite_sound | apply each_sound

theorem State.gongTick_sound {o : State} {s : State} (hS : s.Sound ⟨false, false, k2, false, false, false, false, k7,
    k8, k9, k10, k11, false, false, k14, false, false, k17⟩ o) : (State.gongTick s).Sound ⟨false, false, k2, false,
    false, false, false, k7, k8, k9, k10, k11, false, false, k14, false, false, k17⟩ o := by
  unfold State.gongTick; try dsimp only
  repeat' first
    | with_reducible assumption | with_reducible intro _ | with_reducible apply State.onErr_sound
    | with_reducible apply State.gongApply_sound | with_reducible apply State.raise_sound
    | with_reducible apply State.send_sound | with_reducible apply State.onBeat_sound
    | with_reducible apply State.setF_sound | with_reducible apply ite_sound | with_reducible apply ite_fst_sound
    | with_reducible apply each_sound | with_reducible apply each_fst_sound
    | with_reducible refine each_fst_sound' (by assumption) ?_ ?_ | with_reducible rfl | rfl | split

theorem State.gongIn_sound {o : State} {s : State} {g : Gong} (hS : s.Sound ⟨k0, false, k2, k3, k4, k5, k6, k7, k8,
    k9, k10, k11, k12, k13, false, false, false, k17⟩ o) : (State.gongIn s g).Sound ⟨k0, false, k2, k3, k4, k5, k6,
    k7, k8, k9, k10, k11, k12, k13, false, false, false, k17⟩ o := by
  unfold State.gongIn; try dsimp only
  repeat' first
    | with_reducible assumption | with_reducible intro _ | with_reducible apply State.take_sound
    | with_reducible apply State.onBeat_sound | with_reducible apply State.send_sound
    | with_reducible apply State.onPwr_sound | with_reducible apply State.onErr_sound | with_reducible apply ite_sound
    | with_reducible apply each_sound | with_reducible rfl | rfl

theorem State.rejoinPair_sound {o : State} {s : State} {c : Nat} (hS : s.Sound ⟨false, k1, k2, false, k4, k5, false,
    k7, k8, k9, k10, k11, k12, k13, k14, k15, k16, k17⟩ o) : (State.rejoinPair s c).Sound ⟨false, k1, k2, false, k4,
    k5, false, k7, k8, k9, k10, k11, k12, k13, k14, k15, k16, k17⟩ o := by
  unfold State.rejoinPair; try dsimp only
  repeat' first
    | with_reducible assumption | with_reducible intro _ | with_reducible apply State.setCoreH_sound
    | with_reducible apply State.setCoreState_sound | with_reducible apply State.setReg_sound
    | with_reducible apply State.setF_sound | with_reducible apply State.maskCore_sound
    | with_reducible apply State.onCores_sound | with_reducible apply ite_sound | with_reducible apply ite_fst_sound
    | split

theorem State.twinBeat_sound {o : State} {s : State} (hS : s.Sound ⟨false, k1, k2, false, k4, k5, false, k7, k8, k9,
    k10, k11, k12, k13, k14, k15, k16, k17⟩ o) : (State.twinBeat s).Sound ⟨false, k1, k2, false, k4, k5, false, k7,
    k8, k9, k10, k11, k12, k13, k14, k15, k16, k17⟩ o := by
  unfold State.twinBeat; try dsimp only
  repeat' first
    | with_reducible assumption | with_reducible intro _ | with_reducible apply State.rejoinPair_sound
    | with_reducible apply State.onCores_sound | with_reducible apply ite_sound | with_reducible apply ite_fst_sound
    | with_reducible apply each_sound | with_reducible apply each_fst_sound
    | with_reducible refine each_fst_sound' (by assumption) ?_ ?_ | split

theorem State.unfence_sound {o : State} {s : State} {d : ℕ} (hS : s.Sound ⟨false, k1, k2, k3, k4, k5, false, false,
    k8, k9, k10, k11, k12, k13, k14, k15, false, k17⟩ o) : (State.unfence s d).Sound ⟨false, k1, k2, k3, k4, k5,
    false, false, k8, k9, k10, k11, k12, k13, k14, k15, false, k17⟩ o := by
  unfold State.unfence; try dsimp only
  with_reducible repeat' first
    | assumption | intro _ | apply State.onHome_sound | apply State.setF_sound | apply State.send_sound
    | apply State.arbMaskDie_sound | apply State.setReg_sound | apply State.setCoreState_sound | apply ite_sound
    | apply each_sound

theorem State.diesBack_sound {o : State} {s : State} (hS : s.Sound ⟨false, k1, k2, k3, k4, k5, false, false, k8, k9,
    k10, k11, k12, k13, k14, k15, false, k17⟩ o) : (State.diesBack s).Sound ⟨false, k1, k2, k3, k4, k5, false, false,
    k8, k9, k10, k11, k12, k13, k14, k15, false, k17⟩ o := by
  unfold State.diesBack; try dsimp only
  with_reducible repeat' first
    | assumption | intro _ | apply State.unfence_sound | apply ite_sound | apply each_sound

theorem State.wokenCores_sound {o : State} {s : State} (hS : s.Sound ⟨false, k1, k2, k3, k4, k5, k6, k7, k8, k9, k10,
    k11, k12, k13, false, k15, k16, k17⟩ o) : (State.wokenCores s).Sound ⟨false, k1, k2, k3, k4, k5, k6, k7, k8, k9,
    k10, k11, k12, k13, false, k15, k16, k17⟩ o := by
  unfold State.wokenCores; try dsimp only
  with_reducible repeat' first
    | assumption | intro _ | apply State.onPwr_sound | apply State.setCoreState_sound | apply ite_sound
    | apply each_sound

theorem State.startDue_sound {o : State} {s : State} (hS : s.Sound ⟨false, k1, false, false, false, false, k6, false,
    k8, k9, k10, false, false, k13, k14, false, false, k17⟩ o) : (State.startDue s).Sound ⟨false, k1, false, false,
    false, false, k6, false, k8, k9, k10, false, false, k13, k14, false, false, k17⟩ o := by
  unfold State.startDue; try dsimp only
  repeat' first
    | with_reducible assumption | with_reducible intro _ | with_reducible apply State.startFail_sound
    | with_reducible apply State.copyStop_sound | with_reducible apply State.startPart_sound
    | with_reducible apply ite_sound | with_reducible apply ite_fst_sound | with_reducible apply each_sound
    | with_reducible apply each_fst_sound | with_reducible refine each_fst_sound' (by assumption) ?_ ?_ | split

theorem State.beatNext_follows {o s : State} (hS : s.Follows o) : s.beatNext.Follows o := by
  unfold State.beatNext
  split
  · exact ⟨hS.queue, hS.free, hS.fused, hS.mem, regsWf_setReg hS.regs _ _⟩
  · exact ⟨hS.queue, hS.free, hS.fused, hS.mem, hS.regs⟩

theorem State.beatRefill_sound {o : State} {s : State} {temps : List Nat} {ests : List (List Nat)} (hS : s.Sound
    ⟨false, false, k2, k3, k4, k5, false, k7, false, k9, k10, k11, false, k13, false, false, false, k17⟩ o) :
    (State.beatRefill s temps ests).Sound ⟨false, false, k2, k3, k4, k5, false, k7, false, k9, k10, k11, false, k13,
    false, false, false, k17⟩ o := by
  unfold State.beatRefill; try dsimp only
  with_reducible repeat' first
    | assumption | intro _ | apply State.fabricBeat_sound | apply State.tokenRefill_sound
    | apply State.cryptoRefill_sound | apply State.sendReports_sound | apply State.thermalRead_sound
    | apply State.scrubGrant_sound | apply ite_sound | apply ite_fst_sound | apply each_sound | apply each_fst_sound
    | refine each_fst_sound' (by assumption) ?_ ?_

theorem State.beatAwake_sound {o : State} {s : State} (hS : s.Sound ⟨false, false, false, false, false, false, false,
    false, false, false, false, false, false, false, false, false, false, false⟩ o) : (State.beatAwake s).Sound
    ⟨false, false, false, false, false, false, false, false, false, false, false, false, false, false, false, false,
    false, false⟩ o := by
  unfold State.beatAwake; try dsimp only
  repeat' first
    | with_reducible assumption | with_reducible intro _ | with_reducible apply State.wokenCores_sound
    | with_reducible apply State.diesBack_sound | with_reducible apply State.powerDowns_sound
    | with_reducible apply State.ioSettle_sound | with_reducible apply State.modeAsk_sound
    | with_reducible apply State.foundTick_sound | with_reducible apply State.joinTick_sound
    | with_reducible apply State.joinArm_sound | with_reducible apply State.portArm_sound
    | with_reducible apply State.leaveTick_sound | with_reducible apply State.leaveArm_sound
    | with_reducible apply State.applyImage_sound | with_reducible apply State.startDue_sound
    | with_reducible apply State.bufferClear_sound | with_reducible apply State.assayTick_sound
    | with_reducible apply State.twinBeat_sound | with_reducible apply State.restTick_sound
    | with_reducible apply ite_sound | with_reducible apply ite_fst_sound | split

/-- What a boundary does after the beat counter has moved. -/
theorem State.boundary_after {s : State} (temps : List Nat) (ests : List (List Nat)) (hr : s.beat.running = true) (hS : s.Inv) :
    (s.boundary temps ests).Sound ⟨false, false, false, false, false, false, false, false, false, false, false, false, false, false, false, false, false, false⟩ s.beatNext := by
  have h1 : s.beatNext.exchangeLate.Sound ⟨false, false, false, false, false, false, false, false, false, false, false, false, false, false, false, false, false, false⟩ s.beatNext :=
    State.exchangeLate_sound (State.beatNext_follows (State.Sound.self (k := ⟨false, false, false, false, false, false, false, false, false, false, false, false, false, false, false, false, false, false⟩) hS).follows).self
  unfold State.boundary
  rw [if_neg (by simp [hr])]
  generalize s.beatNext.exchangeLate = y at h1 ⊢
  generalize s.beatNext = o at h1 ⊢
  extract_lets z a b c awake d e f g h i
  have ha : a.Sound ⟨false, false, false, false, false, false, false, false, false, false, false, false, false, false, false, false, false, false⟩ o := ite_sound (State.onBeat_sound h1 rfl) h1
  have hc : c.Sound ⟨false, false, false, false, false, false, false, false, false, false, false, false, false, false, false, false, false, false⟩ o := State.pealApply_sound (State.onCores_sound ha)
  have hd : d.Sound ⟨false, false, false, false, false, false, false, false, false, false, false, false, false, false, false, false, false, false⟩ o := when_sound (fun _ h => State.beatRefill_sound h) hc
  have hf : f.Sound ⟨false, false, false, false, false, false, false, false, false, false, false, false, false, false, false, false, false, false⟩ o := State.lossTick_sound (State.markerCounts_sound (State.pealDecide_sound (State.pealReport_sound hd)))
  have hg : g.Sound ⟨false, false, false, false, false, false, false, false, false, false, false, false, false, false, false, false, false, false⟩ o := when_sound (fun _ h => State.beatAwake_sound h) hf
  have hh : h.Sound ⟨false, false, false, false, false, false, false, false, false, false, false, false, false, false, false, false, false, false⟩ o := ite_sound (State.onLinks_sound hg) hg
  have hi : i.Sound ⟨false, false, false, false, false, false, false, false, false, false, false, false, false, false, false, false, false, false⟩ o := ite_sound (State.exchange_sound hh) hh
  exact State.gongTick_sound (State.ctlSlots_sound hi)

theorem State.boundary_follows {o s : State} {temps : List Nat} {ests : List (List Nat)} (hS : s.Follows o) :
    (s.boundary temps ests).Follows o := by
  by_cases hr : s.beat.running = true
  · have h1 : (s.boundary temps ests).Sound ⟨false, false, false, false, false, false, false, false, false, false, false, false, false, false, false, false, false, false⟩ s.beatNext := State.boundary_after temps ests hr ⟨hS.mem, hS.regs⟩
    exact h1.follows.trans (State.beatNext_follows hS)
  · unfold State.boundary
    simpa [hr] using hS

end Sys2Proof.Machine
end

