-- ==== Sys2Proof/Laws/KeepBeat.lean ====
section
/-! SUPPORT. The operations of Machine/Beat.lean keep State.Sound. -/

namespace Sys2Proof.Machine

variable {k0 k1 k2 k3 k4 k5 k6 k7 k8 k9 k10 k11 k12 k13 k14 k15 k16 k17 : Bool}

theorem execBeatBoundary_follows {o s : State} {temps : List Nat} {ests : List (List Nat)} {agree : Bool} (hS : s.Follows o) :
    OutFollows o (execBeatBoundary temps ests agree s) :=
  let h := State.boundary_follows (s := s.onSec fun q => { q with differ := !agree }) ⟨hS.queue, hS.free, hS.fused, hS.mem, hS.regs⟩
  ⟨h.queue, h.free, h.fused, h.mem, h.regs⟩

theorem execBeatMarker_sound {o : State} {p : FabPort} {marker : Word} {beat : Option Word} {arrivalPs : Int} {s :
    State} (hS : s.Sound ⟨false, false, k2, k3, k4, k5, k6, k7, k8, k9, false, k11, k12, k13, k14, k15, false, k17⟩ o)
    : OutSound ⟨false, false, k2, k3, k4, k5, k6, k7, k8, k9, false, k11, k12, k13, k14, k15, false, k17⟩ o
    (execBeatMarker p marker beat arrivalPs s) := by
  unfold execBeatMarker; try dsimp only
  with_reducible repeat' first
    | assumption | intro _ | apply State.markerIn_sound | apply ite_out_sound | apply next_sound | apply ite_sound
    | apply ite_fst_sound

theorem execMarkerMiss_sound {o : State} {p : FabPort} {s : State} (hS : s.Sound ⟨false, k1, k2, k3, k4, k5, k6, k7,
    k8, k9, k10, k11, k12, k13, k14, k15, false, k17⟩ o) : OutSound ⟨false, k1, k2, k3, k4, k5, k6, k7, k8, k9, k10,
    k11, k12, k13, k14, k15, false, k17⟩ o (execMarkerMiss p s) := by
  unfold execMarkerMiss; try dsimp only
  with_reducible repeat' first
    | assumption | intro _ | apply State.markerGone_sound | apply ite_out_sound | apply next_sound | apply ite_sound
    | apply ite_fst_sound

theorem execBeatLost_sound {o : State} {s : State} (hS : s.Sound ⟨k0, false, k2, k3, k4, k5, k6, k7, k8, k9, k10, k11,
    k12, k13, k14, false, false, k17⟩ o) : OutSound ⟨k0, false, k2, k3, k4, k5, k6, k7, k8, k9, k10, k11, k12, k13,
    k14, false, false, k17⟩ o (execBeatLost s) := by
  unfold execBeatLost; try dsimp only
  with_reducible repeat' first
    | assumption | intro _ | apply State.beatGone_sound | apply ite_out_sound | apply next_sound | apply ite_sound
    | apply ite_fst_sound

theorem State.leaveRefused_sound {o : State} {r : State} {s : State} {target : Nat} {c : Change} (hS : r.Sound ⟨false,
    k1, k2, k3, k4, k5, k6, k7, k8, k9, k10, k11, k12, k13, k14, k15, false, k17⟩ o) : (State.leaveRefused r s target
    c).Sound ⟨false, k1, k2, k3, k4, k5, k6, k7, k8, k9, k10, k11, k12, k13, k14, k15, false, k17⟩ o := by
  unfold State.leaveRefused; try dsimp only
  repeat' first
    | with_reducible assumption | with_reducible intro _ | with_reducible apply State.sktStay_sound
    | with_reducible apply ite_sound | with_reducible apply ite_fst_sound | split

theorem execPealRequest_sound {o : State} {src : Pkg} {target : Nat} {kind : Fin 16} {body : List Byte} {arg : Nat}
    {refusal : Option (Fin 16)} {s : State} (hS : s.Sound ⟨false, false, k2, k3, k4, k5, k6, false, k8, k9, false,
    k11, k12, k13, k14, false, false, k17⟩ o) : OutSound ⟨false, false, k2, k3, k4, k5, k6, false, k8, k9, false, k11,
    k12, k13, k14, false, false, k17⟩ o (execPealRequest src target kind body arg refusal s) := by
  unfold execPealRequest; try dsimp only
  repeat' first
    | with_reducible assumption | with_reducible intro _ | with_reducible apply State.refusedIn_sound
    | with_reducible apply State.leaveRefused_sound | with_reducible apply State.requestPeal_sound
    | with_reducible apply State.acceptPeal_sound | with_reducible apply ite_out_sound
    | with_reducible apply next_sound | with_reducible apply ite_sound | with_reducible apply ite_fst_sound | split

theorem execPealArming_sound {o : State} {unit : Fin 15} {seq : Nat} {target : Nat} {kind : Fin 16} {body : List Byte}
    {arg : Nat} {agree : Bool} {s : State} (hS : s.Sound ⟨false, false, false, k3, k4, k5, k6, k7, false, false, k10,
    false, k12, k13, k14, false, false, false⟩ o) : OutSound ⟨false, false, false, k3, k4, k5, k6, k7, false, false,
    k10, false, k12, k13, k14, false, false, false⟩ o (execPealArming unit seq target kind body arg agree s) := by
  unfold execPealArming; try dsimp only
  repeat' first
    | with_reducible assumption | with_reducible intro _ | with_reducible apply State.comparing_sound
    | with_reducible apply State.armIn_sound | with_reducible apply ite_out_sound | with_reducible apply next_sound
    | with_reducible apply ite_sound | with_reducible apply ite_fst_sound | split

theorem execPealAck_sound {o : State} {unit : Fin 15} {seq : Nat} {s : State} (hS : s.Sound ⟨k0, false, k2, k3, k4,
    k5, k6, k7, k8, k9, k10, k11, k12, k13, k14, k15, false, k17⟩ o) : OutSound ⟨k0, false, k2, k3, k4, k5, k6, k7,
    k8, k9, k10, k11, k12, k13, k14, k15, false, k17⟩ o (execPealAck unit seq s) := by
  unfold execPealAck; try dsimp only
  with_reducible repeat' first
    | assumption | intro _ | apply State.ackIn_sound | apply ite_out_sound | apply next_sound | apply ite_sound
    | apply ite_fst_sound

theorem execPealPackageResult_sound {o : State} {src : Pkg} {seq : Nat} {missing : Option (Fin 15)} {s : State} (hS :
    s.Sound ⟨k0, false, k2, k3, k4, k5, k6, k7, k8, k9, k10, k11, k12, k13, k14, k15, false, k17⟩ o) : OutSound ⟨k0,
    false, k2, k3, k4, k5, k6, k7, k8, k9, k10, k11, k12, k13, k14, k15, false, k17⟩ o (execPealPackageResult src seq
    missing s) := by
  unfold execPealPackageResult; try dsimp only
  repeat' first
    | with_reducible assumption | with_reducible intro _ | with_reducible apply State.fromPkg_sound
    | with_reducible apply State.resultIn_sound | with_reducible apply ite_out_sound | with_reducible apply next_sound
    | with_reducible apply ite_sound | with_reducible apply ite_fst_sound | split

theorem execPealVerdict_sound {o : State} {unit : Fin 15} {seq : Nat} {commit : Bool} {causePkg : Pkg} {causeUnit :
    Fin 15} {s : State} (hS : s.Sound ⟨k0, false, k2, k3, k4, k5, k6, k7, k8, k9, k10, k11, k12, k13, k14, k15, false,
    k17⟩ o) : OutSound ⟨k0, false, k2, k3, k4, k5, k6, k7, k8, k9, k10, k11, k12, k13, k14, k15, false, k17⟩ o
    (execPealVerdict unit seq commit causePkg causeUnit s) := by
  unfold execPealVerdict; try dsimp only
  with_reducible repeat' first
    | assumption | intro _ | apply State.verdictIn_sound | apply ite_out_sound | apply next_sound | apply ite_sound
    | apply ite_fst_sound

theorem execHallmarkReceived_sound {o : State} {src : Pkg} {hallmark : Digest} {x : Nat} {beat : Nat} {s : State} (hS
    : s.Sound ⟨false, false, false, k3, k4, k5, k6, k7, k8, k9, k10, k11, k12, k13, k14, false, false, k17⟩ o) :
    OutSound ⟨false, false, false, k3, k4, k5, k6, k7, k8, k9, k10, k11, k12, k13, k14, false, false, k17⟩ o
    (execHallmarkReceived src hallmark x beat s) := by
  unfold execHallmarkReceived; try dsimp only
  with_reducible repeat' first
    | assumption | intro _ | apply State.hallmarkIn_sound | apply ite_out_sound | apply next_sound | apply ite_sound
    | apply ite_fst_sound

end Sys2Proof.Machine
end

