-- ==== Sys2Proof/Laws/KeepDebug.lean ====
section
/-! SUPPORT. The operations of Machine/Debug.lean keep State.Sound. -/

namespace Sys2Proof.Machine

variable {k0 k1 k2 k3 k4 k5 k6 k7 k8 k9 k10 k11 k12 k13 k14 k15 k16 k17 : Bool}

theorem State.tapLoad_sound {o : State} {s : State} {code : ℕ} {pins : ℕ} (hS : s.Sound ⟨k0, k1, k2, k3, k4, k5, k6,
    k7, k8, k9, k10, k11, k12, k13, k14, false, k16, k17⟩ o) : (State.tapLoad s code pins).Sound ⟨k0, k1, k2, k3, k4,
    k5, k6, k7, k8, k9, k10, k11, k12, k13, k14, false, k16, k17⟩ o := by
  unfold State.tapLoad; try dsimp only
  with_reducible repeat' first | assumption | intro _ | apply State.onErr_sound

theorem State.tapData_sound {o : State} {s : State} {l : List Word} (hS : s.Sound ⟨k0, k1, k2, k3, k4, k5, k6, k7,
    k8, k9, k10, k11, k12, k13, k14, false, k16, k17⟩ o) : (State.tapData s l).Sound ⟨k0, k1, k2, k3, k4, k5, k6, k7,
    k8, k9, k10, k11, k12, k13, k14, false, k16, k17⟩ o := by
  unfold State.tapData; try dsimp only
  with_reducible repeat' first | assumption | intro _ | apply State.onErr_sound

theorem State.tapDenied_sound {o : State} {s : State} (hS : s.Sound ⟨k0, k1, k2, k3, k4, k5, k6, k7, k8, k9, k10,
    k11, k12, k13, k14, false, false, k17⟩ o) : (State.tapDenied s).Sound ⟨k0, k1, k2, k3, k4, k5, k6, k7, k8, k9,
    k10, k11, k12, k13, k14, false, false, k17⟩ o := by
  unfold State.tapDenied; try dsimp only
  with_reducible repeat' first
    | assumption | intro _ | apply when_sound | apply State.record_sound | apply State.tapLoad_sound

theorem State.tapDrive_sound {o : State} {s : State} {code : ℕ} {pins : ℕ} (hS : s.Sound ⟨k0, k1, k2, k3, k4, k5, k6,
    k7, k8, k9, k10, k11, k12, k13, k14, false, false, k17⟩ o) : (State.tapDrive s code pins).Sound ⟨k0, k1, k2, k3,
    k4, k5, k6, k7, k8, k9, k10, k11, k12, k13, k14, false, false, k17⟩ o := by
  unfold State.tapDrive; try dsimp only
  with_reducible repeat' first
    | assumption | intro _ | apply State.tapDenied_sound | apply State.tapLoad_sound | apply ite_sound

theorem execTapIdcode_sound {o : State} {s : State} (hS : s.Sound ⟨k0, k1, k2, k3, k4, k5, k6, k7, k8, k9, k10, k11,
    k12, k13, k14, false, k16, k17⟩ o) : OutSound ⟨k0, k1, k2, k3, k4, k5, k6, k7, k8, k9, k10, k11, k12, k13, k14,
    false, k16, k17⟩ o (execTapIdcode s) := by
  unfold execTapIdcode; try dsimp only
  with_reducible repeat' first
    | assumption | intro _ | apply next_sound | apply ite_out_sound | apply State.tapData_sound
    | apply State.tapLoad_sound

theorem execTapSamplePreload_sound {o : State} {pins : List Bool} {load : List Bool} {s : State} (hS : s.Sound ⟨k0,
    k1, k2, k3, k4, k5, k6, k7, k8, k9, k10, k11, k12, k13, k14, false, k16, k17⟩ o) : OutSound ⟨k0, k1, k2, k3, k4,
    k5, k6, k7, k8, k9, k10, k11, k12, k13, k14, false, k16, k17⟩ o (execTapSamplePreload pins load s) := by
  unfold execTapSamplePreload; try dsimp only
  with_reducible repeat' first
    | assumption | intro _ | apply next_sound | apply ite_out_sound | apply State.onErr_sound
    | apply State.tapData_sound | apply State.tapLoad_sound

theorem execTapExtest_sound {o : State} {s : State} (hS : s.Sound ⟨k0, k1, k2, k3, k4, k5, k6, k7, k8, k9, k10, k11,
    k12, k13, k14, false, false, k17⟩ o) : OutSound ⟨k0, k1, k2, k3, k4, k5, k6, k7, k8, k9, k10, k11, k12, k13, k14,
    false, false, k17⟩ o (execTapExtest s) := by
  unfold execTapExtest; try dsimp only
  with_reducible repeat' first
    | assumption | intro _ | apply next_sound | apply ite_out_sound | apply State.tapDrive_sound

theorem execTapClamp_sound {o : State} {s : State} (hS : s.Sound ⟨k0, k1, k2, k3, k4, k5, k6, k7, k8, k9, k10, k11,
    k12, k13, k14, false, false, k17⟩ o) : OutSound ⟨k0, k1, k2, k3, k4, k5, k6, k7, k8, k9, k10, k11, k12, k13, k14,
    false, false, k17⟩ o (execTapClamp s) := by
  unfold execTapClamp; try dsimp only
  with_reducible repeat' first
    | assumption | intro _ | apply next_sound | apply ite_out_sound | apply State.tapDrive_sound

theorem execTapHighz_sound {o : State} {s : State} (hS : s.Sound ⟨k0, k1, k2, k3, k4, k5, k6, k7, k8, k9, k10, k11,
    k12, k13, k14, false, false, k17⟩ o) : OutSound ⟨k0, k1, k2, k3, k4, k5, k6, k7, k8, k9, k10, k11, k12, k13, k14,
    false, false, k17⟩ o (execTapHighz s) := by
  unfold execTapHighz; try dsimp only
  with_reducible repeat' first
    | assumption | intro _ | apply next_sound | apply ite_out_sound | apply State.tapDrive_sound

theorem execTapBypass_sound {o : State} {s : State} (hS : s.Sound ⟨k0, k1, k2, k3, k4, k5, k6, k7, k8, k9, k10, k11,
    k12, k13, k14, false, k16, k17⟩ o) : OutSound ⟨k0, k1, k2, k3, k4, k5, k6, k7, k8, k9, k10, k11, k12, k13, k14,
    false, k16, k17⟩ o (execTapBypass s) := by
  unfold execTapBypass; try dsimp only
  with_reducible repeat' first
    | assumption | intro _ | apply next_sound | apply ite_out_sound | apply State.tapLoad_sound

theorem State.dbgInstr_sound {o : State} {s : State} {code : ℕ} {perm : Bool} {act : State → ℕ → State} (h_act : ∀ (x0
    : State) (x1 : ℕ), x0.Sound ⟨k0, k1, k2, k3, k4, k5, k6, k7, k8, k9, k10, k11, k12, k13, k14, false, false, k17⟩ o
    → (act x0 x1).Sound ⟨k0, k1, k2, k3, k4, k5, k6, k7, k8, k9, k10, k11, k12, k13, k14, false, false, k17⟩ o) (hS :
    s.Sound ⟨k0, k1, k2, k3, k4, k5, k6, k7, k8, k9, k10, k11, k12, k13, k14, false, false, k17⟩ o) : (State.dbgInstr
    s code perm act).Sound ⟨k0, k1, k2, k3, k4, k5, k6, k7, k8, k9, k10, k11, k12, k13, k14, false, false, k17⟩ o :=
    by
  unfold State.dbgInstr; try dsimp only
  repeat' first
    | with_reducible assumption | with_reducible intro _ | with_reducible apply State.tapDenied_sound
    | with_reducible apply State.tapLoad_sound | with_reducible apply ite_sound | with_reducible apply h_act | split

theorem execDbgSelect_sound {o : State} {c : Core} {s : State} (hS : s.Sound ⟨k0, k1, k2, k3, k4, k5, k6, k7, k8, k9,
    k10, k11, k12, k13, k14, false, false, k17⟩ o) : OutSound ⟨k0, k1, k2, k3, k4, k5, k6, k7, k8, k9, k10, k11, k12,
    k13, k14, false, false, k17⟩ o (execDbgSelect c s) := by
  unfold execDbgSelect; try dsimp only
  with_reducible repeat' first
    | assumption | intro _ | apply next_sound | apply ite_out_sound | apply State.tapDenied_sound
    | apply State.onErr_sound | apply State.tapLoad_sound | apply ite_sound

theorem State.dbgHaltOp_sound {o : State} {s : State} {c : Nat} {halt : Bool} (hS : s.Sound ⟨false, k1, k2, false, k4,
    k5, k6, k7, k8, k9, k10, k11, k12, k13, k14, k15, false, k17⟩ o) : (State.dbgHaltOp s c halt).Sound ⟨false, k1,
    k2, false, k4, k5, k6, k7, k8, k9, k10, k11, k12, k13, k14, k15, false, k17⟩ o := by
  unfold State.dbgHaltOp; try dsimp only
  with_reducible repeat' first
    | assumption | intro _ | apply State.stopCore_sound | apply State.goCore_sound | apply ite_sound
    | apply ite_fst_sound

theorem execDbgHalt_sound {o : State} {halt : Bool} {s : State} (hS : s.Sound ⟨false, k1, k2, false, k4, k5, k6, k7,
    k8, k9, k10, k11, k12, k13, k14, false, false, k17⟩ o) : OutSound ⟨false, k1, k2, false, k4, k5, k6, k7, k8, k9,
    k10, k11, k12, k13, k14, false, false, k17⟩ o (execDbgHalt halt s) := by
  unfold execDbgHalt; try dsimp only
  with_reducible repeat' first
    | assumption | intro _ | apply next_sound | apply ite_out_sound | apply State.dbgInstr_sound
    | apply State.dbgHaltOp_sound

theorem State.dbgRegsOp_sound {o : State} {s : State} {c : ℕ} {reg : ℕ} {wr : Option Word} (hS : s.Sound ⟨k0, k1, k2,
    false, k4, k5, k6, k7, k8, k9, k10, k11, k12, k13, k14, false, k16, false⟩ o) : (State.dbgRegsOp s c reg wr).Sound
    ⟨k0, k1, k2, false, k4, k5, k6, k7, k8, k9, k10, k11, k12, k13, k14, false, k16, false⟩ o := by
  unfold State.dbgRegsOp; try dsimp only
  repeat' first
    | with_reducible assumption | with_reducible intro _ | with_reducible apply State.updCoreH_sound
    | with_reducible apply State.tapData_sound | with_reducible apply State.tick_sound
    | with_reducible apply ite_sound | with_reducible apply each_sound | with_reducible apply each_fst_sound
    | with_reducible refine each_fst_sound' (by assumption) ?_ ?_ | split

theorem execDbgRegs_sound {o : State} {reg : ℕ} {wr : Option Word} {s : State} (hS : s.Sound ⟨k0, k1, k2, false, k4,
    k5, k6, k7, k8, k9, k10, k11, k12, k13, k14, false, false, false⟩ o) : OutSound ⟨k0, k1, k2, false, k4, k5, k6,
    k7, k8, k9, k10, k11, k12, k13, k14, false, false, false⟩ o (execDbgRegs reg wr s) := by
  unfold execDbgRegs; try dsimp only
  with_reducible repeat' first
    | assumption | intro _ | apply next_sound | apply ite_out_sound | apply State.dbgInstr_sound
    | apply State.dbgRegsOp_sound

theorem State.dbgMemOp_sound {o : State} {s : State} {c : Nat} {pa : Nat} {wr : Option Word} (hS : s.Sound ⟨false,
    false, k2, false, false, false, false, false, false, false, false, false, false, false, false, false, false,
    false⟩ o) : (State.dbgMemOp s c pa wr).Sound ⟨false, false, k2, false, false, false, false, false, false, false,
    false, false, false, false, false, false, false, false⟩ o := by
  unfold State.dbgMemOp; try dsimp only
  repeat' first
    | with_reducible assumption | with_reducible intro _ | with_reducible apply State.tapData_sound
    | with_reducible apply State.accFail_sound | with_reducible apply State.performNow_sound
    | with_reducible apply ite_sound | with_reducible apply ite_fst_sound | split

theorem execDbgMem_sound {o : State} {pa : Word} {wr : Option Word} {s : State} (hS : s.Sound ⟨false, false, k2,
    false, false, false, false, false, false, false, false, false, false, false, false, false, false, false⟩ o) :
    OutSound ⟨false, false, k2, false, false, false, false, false, false, false, false, false, false, false, false,
    false, false, false⟩ o (execDbgMem pa wr s) := by
  unfold execDbgMem; try dsimp only
  repeat' first
    | with_reducible assumption | with_reducible intro _ | with_reducible apply State.dbgInstr_sound
    | with_reducible apply State.dbgMemOp_sound | with_reducible apply ite_out_sound | with_reducible apply next_sound
    | with_reducible apply ite_sound | with_reducible apply ite_fst_sound | split

theorem State.dbgArrayOp_sound {o : State} {s : State} {c : ℕ} {level : ℕ} {set : ℕ} {way : ℕ} (hS : s.Sound ⟨k0, k1,
    k2, k3, k4, k5, k6, k7, k8, k9, k10, k11, k12, k13, k14, false, k16, k17⟩ o) : (State.dbgArrayOp s c level set
    way).Sound ⟨k0, k1, k2, k3, k4, k5, k6, k7, k8, k9, k10, k11, k12, k13, k14, false, k16, k17⟩ o := by
  unfold State.dbgArrayOp; try dsimp only
  repeat' first
    | with_reducible assumption | with_reducible intro _ | with_reducible apply State.tapData_sound
    | with_reducible apply ite_sound | split

theorem execDbgArray_sound {o : State} {level : Fin 5} {set : ℕ} {way : ℕ} {s : State} (hS : s.Sound ⟨k0, k1, k2, k3,
    k4, k5, k6, k7, k8, k9, k10, k11, k12, k13, k14, false, false, k17⟩ o) : OutSound ⟨k0, k1, k2, k3, k4, k5, k6, k7,
    k8, k9, k10, k11, k12, k13, k14, false, false, k17⟩ o (execDbgArray level set way s) := by
  unfold execDbgArray; try dsimp only
  with_reducible repeat' first
    | assumption | intro _ | apply next_sound | apply ite_out_sound | apply State.dbgInstr_sound
    | apply State.dbgArrayOp_sound

end Sys2Proof.Machine
end

