-- ==== Sys2Proof/Laws/KeepErrors.lean ====
section
/-! SUPPORT. The operations of Machine/Errors.lean keep State.Sound. -/

namespace Sys2Proof.Machine

variable {k0 k1 k2 k3 k4 k5 k6 k7 k8 k9 k10 k11 k12 k13 k14 k15 k16 k17 : Bool}

theorem execGongMessage_sound {o : State} {x : Hub} {src : Pkg} {cause : ℕ} {unitKind : ℕ} {unitNum : ℕ} {beat : ℕ}
    {mask : BitVec 16} {s : State} (hS : s.Sound ⟨k0, false, k2, k3, k4, k5, k6, k7, k8, k9, k10, k11, k12, k13,
    false, false, false, k17⟩ o) : OutSound ⟨k0, false, k2, k3, k4, k5, k6, k7, k8, k9, k10, k11, k12, k13, false,
    false, false, k17⟩ o (execGongMessage x src cause unitKind unitNum beat mask s) := by
  unfold execGongMessage; try dsimp only
  with_reducible repeat' first
    | assumption | intro _ | apply next_sound | apply ite_out_sound | apply State.fromPkg_sound
    | apply State.gongIn_sound

theorem execAssayPrepared_sound {o : State} {i : Fin 14} {s : State} (hS : s.Sound ⟨false, k1, k2, k3, k4, k5, k6,
    k7, false, false, k10, k11, k12, k13, k14, false, k16, k17⟩ o) : OutSound ⟨false, k1, k2, k3, k4, k5, k6, k7,
    false, false, k10, k11, k12, k13, k14, false, k16, k17⟩ o (execAssayPrepared i s) := by
  unfold execAssayPrepared; try dsimp only
  with_reducible repeat' first
    | assumption | intro _ | apply next_sound | apply ite_out_sound | apply State.assayReady_sound

theorem execAssayTestDone_sound {o : State} {i : Fin 14} {sig : Word} {s : State} (hS : s.Sound ⟨false, k1, k2, k3,
    k4, k5, k6, k7, false, false, k10, k11, k12, k13, k14, false, k16, k17⟩ o) : OutSound ⟨false, k1, k2, k3, k4, k5,
    k6, k7, false, false, k10, k11, k12, k13, k14, false, k16, k17⟩ o (execAssayTestDone i sig s) := by
  unfold execAssayTestDone; try dsimp only
  with_reducible repeat' first
    | assumption | intro _ | apply next_sound | apply ite_out_sound | apply State.assayDone_sound

end Sys2Proof.Machine
end

