-- ==== Sys2Proof/Laws/KeepHostAccess.lean ====
section
/-! SUPPORT. The operations of Machine/HostAccess.lean keep State.Sound. -/

namespace Sys2Proof.Machine

variable {k0 k1 k2 k3 k4 k5 k6 k7 k8 k9 k10 k11 k12 k13 k14 k15 k16 k17 : Bool}

theorem State.barPut_sound {o : State} {s : State} {port : Nat} {f : Nat} {off : Nat} {v : Word} (hS : s.Sound ⟨k0,
    k1, k2, k3, k4, k5, k6, k7, k8, k9, k10, k11, k12, false, k14, false, false, k17⟩ o) : (State.barPut s port f off
    v).Sound ⟨k0, k1, k2, k3, k4, k5, k6, k7, k8, k9, k10, k11, k12, false, k14, false, false, k17⟩ o := by
  unfold State.barPut; try dsimp only
  repeat' first
    | with_reducible assumption | with_reducible intro _ | with_reducible apply State.updFn_sound
    | with_reducible apply State.setInta_sound | with_reducible apply State.msixKick_sound
    | with_reducible apply ite_sound | with_reducible apply ite_fst_sound | split

theorem State.hostData_sound {o : State} {s : State} {port : Nat} {f : Nat} {bytes : List Byte} {wr : Bool} (hS :
    s.Sound ⟨k0, k1, k2, k3, k4, k5, k6, k7, k8, k9, k10, k11, k12, k13, k14, k15, false, k17⟩ o) : (State.hostData s
    port f bytes wr).Sound ⟨k0, k1, k2, k3, k4, k5, k6, k7, k8, k9, k10, k11, k12, k13, k14, k15, false, k17⟩ o := by
  unfold State.hostData; try dsimp only
  with_reducible repeat' first | assumption | intro _ | apply State.send_sound | apply ite_sound | apply ite_fst_sound

theorem State.bar0_sound {o : State} {s : State} {port : Nat} {f : Nat} {off : Nat} {size : Nat} {wr : Bool} {v :
    Word} (hS : s.Sound ⟨false, false, k2, false, false, false, false, false, false, false, false, false, false,
    false, false, false, false, false⟩ o) : (State.bar0 s port f off size wr v).Sound ⟨false, false, k2, false, false,
    false, false, false, false, false, false, false, false, false, false, false, false, false⟩ o := by
  unfold State.bar0; try dsimp only
  repeat' first
    | with_reducible assumption | with_reducible intro _ | with_reducible apply State.csStore_sound
    | with_reducible apply State.csLoad_sound | with_reducible apply State.hostData_sound
    | with_reducible apply State.hostReply_sound | with_reducible apply State.hostDb_sound
    | with_reducible apply State.barPut_sound | with_reducible apply ite_sound | with_reducible apply ite_fst_sound
    | split

theorem State.hostDram_sound {o : State} {s : State} {port : Nat} {f : Nat} {p : Nat} {pa : Nat} {size : Nat} {wr :
    Bool} {bytes : List Byte} (hS : s.Sound ⟨k0, k1, k2, k3, false, k5, k6, k7, k8, k9, k10, k11, k12, false, k14,
    false, false, k17⟩ o) : (State.hostDram s port f p pa size wr bytes).Sound ⟨k0, k1, k2, k3, false, k5, k6, k7, k8,
    k9, k10, k11, k12, false, k14, false, false, k17⟩ o := by
  unfold State.hostDram; try dsimp only
  repeat' first
    | with_reducible assumption | with_reducible intro _ | with_reducible apply State.record_sound
    | with_reducible apply State.hostReply_sound | with_reducible apply State.dmaPush_sound
    | with_reducible apply ite_sound | with_reducible apply ite_fst_sound | split

theorem State.bar2_sound {o : State} {s : State} {port : Nat} {f : Nat} {off : Nat} {size : Nat} {wr : Bool} {bytes :
    List Byte} (hS : s.Sound ⟨k0, k1, k2, k3, false, k5, k6, k7, k8, k9, k10, k11, k12, false, k14, false, false, k17⟩
    o) : (State.bar2 s port f off size wr bytes).Sound ⟨k0, k1, k2, k3, false, k5, k6, k7, k8, k9, k10, k11, k12,
    false, k14, false, false, k17⟩ o := by
  unfold State.bar2; try dsimp only
  with_reducible repeat' first
    | assumption | intro _ | apply State.hostReply_sound | apply State.hostDram_sound | apply ite_sound
    | apply ite_fst_sound

theorem State.hostAccess_sound {o : State} {s : State} {port : Nat} {f : Nat} {bar : Nat} {off : Nat} {size : Nat} {wr
    : Bool} {bytes : List Byte} (hS : s.Sound ⟨false, false, k2, false, false, false, false, false, false, false,
    false, false, false, false, false, false, false, false⟩ o) : (State.hostAccess s port f bar off size wr
    bytes).Sound ⟨false, false, k2, false, false, false, false, false, false, false, false, false, false, false,
    false, false, false, false⟩ o := by
  unfold State.hostAccess; try dsimp only
  repeat' first
    | with_reducible assumption | with_reducible intro _ | with_reducible apply State.hostReply_sound
    | with_reducible apply State.bar2_sound | with_reducible apply State.bar0_sound
    | with_reducible apply State.take_sound | with_reducible apply State.hostData_sound
    | with_reducible apply ite_sound | with_reducible apply ite_fst_sound | split

theorem execSepHostAccess_sound {o : State} {port : Fin 2} {f : Fin 8} {bar : Fin 4} {off : Nat} {size : Nat} {wr :
    Bool} {bytes : List Byte} {s : State} (hS : s.Sound ⟨false, false, k2, false, false, false, false, false, false,
    false, false, false, false, false, false, false, false, false⟩ o) : OutSound ⟨false, false, k2, false, false,
    false, false, false, false, false, false, false, false, false, false, false, false, false⟩ o (execSepHostAccess
    port f bar off size wr bytes s) := by
  unfold execSepHostAccess; try dsimp only
  with_reducible repeat' first
    | assumption | intro _ | apply State.hostAccess_sound | apply ite_out_sound | apply next_sound | apply ite_sound
    | apply ite_fst_sound

end Sys2Proof.Machine
end

