-- ==== Sys2Proof/Laws/KeepPins.lean ====
section
/-! SUPPORT. The operations of Machine/Pins.lean keep State.Sound. -/

namespace Sys2Proof.Machine

variable {k0 k1 k2 k3 k4 k5 k6 k7 k8 k9 k10 k11 k12 k13 k14 k15 k16 k17 : Bool}

theorem execThermtripAnalog_sound {o : State} {s : State} (hS : s.Sound ⟨k0, k1, k2, k3, k4, k5, k6, k7, k8, k9, k10,
    k11, k12, k13, false, k15, false, k17⟩ o) : OutSound ⟨k0, k1, k2, k3, k4, k5, k6, k7, k8, k9, k10, k11, k12, k13,
    false, k15, false, k17⟩ o (execThermtripAnalog s) := by
  unfold execThermtripAnalog; try dsimp only
  with_reducible repeat' first
    | assumption | intro _ | apply next_sound | apply ite_out_sound | apply State.thermtripOn_sound

theorem execVrPgFall_sound {o : State} {d : Die} {s : State} (hS : s.Sound ⟨false, false, k2, false, false, false,
    false, false, false, false, k10, false, k12, k13, false, false, false, k17⟩ o) : OutSound ⟨false, false, k2,
    false, false, false, false, false, false, false, k10, false, k12, k13, false, false, false, k17⟩ o (execVrPgFall d
    s) := by
  unfold execVrPgFall; try dsimp only
  with_reducible repeat' first
    | assumption | intro _ | apply next_sound | apply ite_out_sound | apply State.fenceDie_sound | apply ite_sound

theorem State.resetIn_follows {o s : State} (hS : s.Follows o) : (State.resetIn s).Follows o :=
  ⟨hS.queue, hS.free, hS.fused, rfl, List.Pairwise.nil, by simp [State.resetIn, State.reset]⟩

theorem execResetAssert_follows {o s : State} (hS : s.Follows o) : OutFollows o (execResetAssert s) := State.resetIn_follows hS

theorem execRefclkLoss_sound {o : State} {s : State} (hS : s.Sound ⟨k0, false, k2, k3, k4, k5, k6, k7, k8, k9, k10,
    k11, k12, k13, k14, k15, k16, k17⟩ o) : OutSound ⟨k0, false, k2, k3, k4, k5, k6, k7, k8, k9, k10, k11, k12, k13,
    k14, k15, k16, k17⟩ o (execRefclkLoss s) := by
  unfold execRefclkLoss; try dsimp only
  repeat' first
    | with_reducible assumption | with_reducible intro _ | with_reducible apply next_sound
    | with_reducible apply ite_out_sound | with_reducible apply State.onBeat_sound | with_reducible rfl | rfl

theorem execMgmtBusTimeout_sound {o : State} {s : State} (hS : s.Sound ⟨k0, k1, k2, k3, k4, k5, k6, k7, k8, k9, k10,
    k11, k12, k13, k14, k15, k16, k17⟩ o) : OutSound ⟨k0, k1, k2, k3, k4, k5, k6, k7, k8, k9, k10, k11, k12, k13, k14,
    k15, k16, k17⟩ o (execMgmtBusTimeout s) := by
  unfold execMgmtBusTimeout; try dsimp only
  with_reducible repeat' first | assumption | intro _ | apply next_sound

end Sys2Proof.Machine
end

