-- ==== Sys2Proof/Laws/KeepRest.lean ====
section
/-! SUPPORT. The operations of Machine/Rest.lean keep State.Sound. -/

namespace Sys2Proof.Machine

variable {k0 k1 k2 k3 k4 k5 k6 k7 k8 k9 k10 k11 k12 k13 k14 k15 k16 k17 : Bool}

theorem execTargetOff_sound {o : State} {m : CMsg} {wait : Bool} {s : State} (hS : s.Sound ⟨false, k1, k2, false, false, false, k6, false, k8, k9, false, false, false, false, false, false, false, k17⟩ o) : OutSound ⟨false, k1, k2, false, false, false, k6, false, k8, k9, false, false, false, false, false, false, false, k17⟩ o (execTargetOff m wait s) :=
    by
  unfold execTargetOff; try dsimp only
  with_reducible repeat' first
    | assumption | intro _ | apply next_sound | apply ite_out_sound | apply State.arrive_sound
    | apply State.offIn_sound

theorem execRestNotice_sound {o : State} {src : Pkg} {s : State} (hS : s.Sound ⟨k0, k1, k2, k3, k4, k5, k6, k7, k8,
    k9, k10, k11, k12, k13, false, k15, k16, k17⟩ o) : OutSound ⟨k0, k1, k2, k3, k4, k5, k6, k7, k8, k9, k10, k11,
    k12, k13, false, k15, k16, k17⟩ o (execRestNotice src s) := by
  unfold execRestNotice; try dsimp only
  with_reducible repeat' first
    | assumption | intro _ | apply next_sound | apply ite_out_sound | apply State.fromPkg_sound
    | apply State.restNoticeIn_sound

theorem execRestDrainDone_sound {o : State} {agree : Bool} {s : State} (hS : s.Sound ⟨false, false, k2, false, false,
    false, false, false, false, false, k10, false, k12, false, false, false, false, k17⟩ o) : OutSound ⟨false, false,
    k2, false, false, false, false, false, false, false, k10, false, k12, false, false, false, false, k17⟩ o
    (execRestDrainDone agree s) := by
  unfold execRestDrainDone; try dsimp only
  with_reducible repeat' first
    | assumption | intro _ | apply State.comparing_sound | apply State.restDrain_sound | apply ite_out_sound
    | apply next_sound | apply ite_sound | apply ite_fst_sound

theorem execRestingNotice_sound {o : State} {src : Pkg} {s : State} (hS : s.Sound ⟨false, k1, k2, false, k4, k5, k6,
    k7, k8, k9, k10, k11, k12, k13, false, k15, k16, k17⟩ o) : OutSound ⟨false, k1, k2, false, k4, k5, k6, k7, k8, k9,
    k10, k11, k12, k13, false, k15, k16, k17⟩ o (execRestingNotice src s) := by
  unfold execRestingNotice; try dsimp only
  repeat' first
    | with_reducible assumption | with_reducible intro _ | with_reducible apply State.fromPkg_sound
    | with_reducible apply State.restingIn_sound | with_reducible apply ite_out_sound
    | with_reducible apply next_sound | with_reducible apply ite_sound | with_reducible apply ite_fst_sound | split

theorem execWakeMatch_sound {o : State} {addr : Fin 128} {s : State} (hS : s.Sound ⟨k0, k1, k2, k3, k4, k5, k6, k7,
    k8, k9, k10, k11, k12, k13, false, k15, false, k17⟩ o) : OutSound ⟨k0, k1, k2, k3, k4, k5, k6, k7, k8, k9, k10,
    k11, k12, k13, false, k15, false, k17⟩ o (execWakeMatch addr s) := by
  unfold execWakeMatch; try dsimp only
  with_reducible repeat' first
    | assumption | intro _ | apply next_sound | apply ite_out_sound | apply State.wakeAddr_sound

theorem execWakeStepEnd_sound {o : State} {ready : Bool} {agree : Bool} {s : State} (hS : s.Sound ⟨false, false,
    false, false, false, false, false, false, false, false, false, false, false, false, false, false, false, false⟩ o)
    : OutSound ⟨false, false, false, false, false, false, false, false, false, false, false, false, false, false,
    false, false, false, false⟩ o (execWakeStepEnd ready agree s) := by
  unfold execWakeStepEnd; try dsimp only
  repeat' first
    | with_reducible assumption | with_reducible intro _ | with_reducible apply State.comparing_sound
    | with_reducible apply State.wakeStepDone_sound | with_reducible apply ite_out_sound
    | with_reducible apply next_sound | with_reducible apply ite_sound | with_reducible apply ite_fst_sound | split

end Sys2Proof.Machine
end

