-- ==== Sys2Proof/Laws/KeepScheduler.lean ====
section
/-! SUPPORT. The operations of Machine/Scheduler.lean keep State.Sound. -/

namespace Sys2Proof.Machine

variable {k0 k1 k2 k3 k4 k5 k6 k7 k8 k9 k10 k11 k12 k13 k14 k15 k16 k17 : Bool}

theorem State.arbPasser_sound {o : State} {s : State} {a : Nat} {reqs : List (Nat × Bool)} {cycle : Nat} (hS : s.Sound
    ⟨false, k1, k2, k3, k4, k5, false, k7, k8, k9, k10, k11, k12, k13, k14, k15, k16, k17⟩ o) : (State.arbPasser s a
    reqs cycle).1.Sound ⟨false, k1, k2, k3, k4, k5, false, k7, k8, k9, k10, k11, k12, k13, k14, k15, k16, k17⟩ o := by
  unfold State.arbPasser; try dsimp only
  repeat' first
    | with_reducible assumption | with_reducible intro _
    | with_reducible refine State.arbRound_sound' (by assumption) ?_ | with_reducible apply State.arbRound_sound
    | with_reducible apply State.updArb_sound | with_reducible apply ite_sound | with_reducible apply ite_fst_sound
    | split

theorem State.arbPasser_sound' {o : State} {s : State} {a : Nat} {reqs : List (Nat × Bool)} {cycle : Nat} {u_ : State}
    {res} (e : State.arbPasser s a reqs cycle = (u_, res)) (hS : s.Sound ⟨false, k1, k2, k3, k4, k5, false, k7, k8,
    k9, k10, k11, k12, k13, k14, k15, k16, k17⟩ o) : u_.Sound ⟨false, k1, k2, k3, k4, k5, false, k7, k8, k9, k10, k11,
    k12, k13, k14, k15, k16, k17⟩ o :=
  fst_sound e (State.arbPasser_sound hS)

theorem State.schedRound_sound {o : State} {s : State} {a : Nat} {reqs : List (Nat × Bool)} {cycle : Nat} (hS :
    s.Sound ⟨false, k1, k2, k3, k4, k5, false, k7, false, k9, k10, k11, k12, k13, k14, k15, k16, k17⟩ o) :
    (State.schedRound s a reqs cycle).Sound ⟨false, k1, k2, k3, k4, k5, false, k7, false, k9, k10, k11, k12, k13, k14,
    k15, k16, k17⟩ o := by
  unfold State.schedRound; try dsimp only
  repeat' first
    | with_reducible assumption | with_reducible intro _
    | with_reducible refine State.arbPasser_sound' (by assumption) ?_ | with_reducible apply State.arbPasser_sound
    | with_reducible apply State.passRead_sound | with_reducible apply State.passReq_sound
    | with_reducible apply ite_sound | with_reducible apply ite_fst_sound | split

theorem State.frontRound_sound {o : State} {s : State} {a : Nat} {cycle : Nat} (hS : s.Sound ⟨false, k1, k2, k3,
    false, k5, false, k7, k8, k9, k10, false, false, k13, k14, false, false, k17⟩ o) : (State.frontRound s a
    cycle).Sound ⟨false, k1, k2, k3, false, k5, false, k7, k8, k9, k10, false, false, k13, k14, false, false, k17⟩ o
    := by
  unfold State.frontRound; try dsimp only
  repeat' first
    | with_reducible assumption | with_reducible intro _ | with_reducible apply State.tokenWaits_sound
    | with_reducible refine State.arbPasser_sound' (by assumption) ?_ | with_reducible apply State.arbPasser_sound
    | with_reducible apply State.issueDesc_sound | with_reducible apply ite_sound | with_reducible apply ite_fst_sound
    | split

theorem execArbiterRound_sound {o : State} {a : Arb} {reqs : List (Nat × Bool)} {cycle : Nat} {s : State} (hS :
    s.Sound ⟨false, k1, k2, k3, false, k5, false, k7, false, k9, k10, false, false, k13, k14, false, false, k17⟩ o) :
    OutSound ⟨false, k1, k2, k3, false, k5, false, k7, false, k9, k10, false, false, k13, k14, false, false, k17⟩ o
    (execArbiterRound a reqs cycle s) := by
  unfold execArbiterRound; try dsimp only
  with_reducible repeat' first
    | assumption | intro _ | apply State.schedRound_sound | apply State.frontRound_sound
    | refine State.arbRound_sound' (by assumption) ?_ | apply State.arbRound_sound | apply ite_out_sound
    | apply next_sound | apply ite_sound | apply ite_fst_sound

end Sys2Proof.Machine
end

