-- ==== Sys2Proof/Laws/KeepStartup.lean ====
section
/-! SUPPORT. The operations of Machine/Startup.lean keep State.Sound. -/

namespace Sys2Proof.Machine

variable {k0 k1 k2 k3 k4 k5 k6 k7 k8 k9 k10 k11 k12 k13 k14 k15 k16 k17 : Bool}

theorem execResetDeassert_follows {o s : State} {strap : Pkg} (hS : s.Follows o) : OutFollows o (execResetDeassert strap s) :=
  State.deassert_follows hS

theorem execIslandConfirm_sound {o : State} {fuseA : Bool} {fuseB : Bool} {derA : Bool} {derB : Bool} {s : State} (hS
    : s.Sound ⟨false, k1, false, k3, k4, k5, k6, k7, k8, k9, k10, k11, k12, false, k14, false, false, false⟩ o) :
    OutSound ⟨false, k1, false, k3, k4, k5, k6, k7, k8, k9, k10, k11, k12, false, k14, false, false, false⟩ o
    (execIslandConfirm fuseA fuseB derA derB s) := by
  unfold execIslandConfirm; try dsimp only
  with_reducible repeat' first
    | assumption | intro _ | apply State.islands_sound | apply ite_out_sound | apply next_sound | apply ite_sound
    | apply ite_fst_sound

theorem execIslandConfirmTimeout_sound {o : State} {s : State} (hS : s.Sound ⟨false, k1, false, k3, k4, k5, k6, k7,
    k8, k9, k10, k11, k12, false, k14, false, false, k17⟩ o) : OutSound ⟨false, k1, false, k3, k4, k5, k6, k7, k8, k9,
    k10, k11, k12, false, k14, false, false, k17⟩ o (execIslandConfirmTimeout s) := by
  unfold execIslandConfirmTimeout; try dsimp only
  with_reducible repeat' first
    | assumption | intro _ | apply State.islandFault_sound | apply ite_out_sound | apply next_sound | apply ite_sound
    | apply ite_fst_sound | apply when_sound

theorem execFlashReadDone_sound {o : State} {h : Hub} {bytes : Option (List Byte)} {flashSize : ℕ} {s : State} (hS :
    s.Sound ⟨k0, k1, false, k3, k4, k5, k6, k7, k8, k9, k10, k11, k12, k13, k14, k15, k16, k17⟩ o) : OutSound ⟨k0, k1,
    false, k3, k4, k5, k6, k7, k8, k9, k10, k11, k12, k13, k14, k15, k16, k17⟩ o (execFlashReadDone h bytes flashSize
    s) := by
  unfold execFlashReadDone; try dsimp only
  with_reducible repeat' first
    | assumption | intro _ | apply next_sound | apply ite_out_sound | apply State.flashDone_sound

theorem execImageVerifyDone_sound {o : State} {flipA : Bool} {flipB : Bool} {s : State} (hS : s.Sound ⟨false, false,
    false, k3, k4, k5, k6, k7, k8, k9, k10, false, k12, false, k14, false, false, k17⟩ o) : OutSound ⟨false, false,
    false, k3, k4, k5, k6, k7, k8, k9, k10, false, k12, false, k14, false, false, k17⟩ o (execImageVerifyDone flipA
    flipB s) := by
  unfold execImageVerifyDone; try dsimp only
  with_reducible repeat' first
    | assumption | intro _ | apply State.verifyDone_sound | apply ite_out_sound | apply next_sound | apply ite_sound
    | apply ite_fst_sound

theorem execTrainingTaskDone_sound {o : State} {task : Nat} {memTask : Bool} {ret : Word} {spd : List Spd} {s : State}
    (hS : s.Sound ⟨false, false, false, false, false, false, false, false, false, false, false, false, k12, false,
    false, false, false, k17⟩ o) : OutSound ⟨false, false, false, false, false, false, false, false, false, false,
    false, false, k12, false, false, false, false, k17⟩ o (execTrainingTaskDone task memTask ret spd s) := by
  unfold execTrainingTaskDone; try dsimp only
  with_reducible repeat' first
    | assumption | intro _ | apply State.taskEnd_sound | apply ite_out_sound | apply next_sound | apply ite_sound
    | apply ite_fst_sound

theorem execModuleTimeout_sound {o : State} {task : Nat} {memTask : Bool} {spd : List Spd} {s : State} (hS : s.Sound
    ⟨false, false, false, false, false, false, false, false, false, false, false, false, k12, false, false, false,
    false, k17⟩ o) : OutSound ⟨false, false, false, false, false, false, false, false, false, false, false, false,
    k12, false, false, false, false, k17⟩ o (execModuleTimeout task memTask spd s) := by
  unfold execModuleTimeout; try dsimp only
  with_reducible repeat' first
    | assumption | intro _ | apply State.taskEnd_sound | apply ite_out_sound | apply next_sound | apply ite_sound
    | apply ite_fst_sound

theorem execMgmtReadBootStat_sound {o : State} {addr : Fin 128} {s : State} (hS : s.Sound ⟨k0, k1, k2, k3, k4, k5,
    k6, k7, k8, k9, k10, k11, k12, k13, k14, k15, false, k17⟩ o) : OutSound ⟨k0, k1, k2, k3, k4, k5, k6, k7, k8, k9,
    k10, k11, k12, k13, k14, k15, false, k17⟩ o (execMgmtReadBootStat addr s) := by
  unfold execMgmtReadBootStat; try dsimp only
  with_reducible repeat' first
    | assumption | intro _ | apply next_sound | apply ite_out_sound | apply State.readBootStat_sound

end Sys2Proof.Machine
end

