-- ==== Sys2Proof/Laws/KeepTwin.lean ====
section
/-! SUPPORT. The operations of Machine/Twin.lean keep State.Sound. -/

namespace Sys2Proof.Machine

variable {k0 k1 k2 k3 k4 k5 k6 k7 k8 k9 k10 k11 k12 k13 k14 k15 k16 k17 : Bool}

theorem State.timeReply_sound {o : State} {s : State} {core : Nat} (hS : s.Sound ⟨k0, k1, k2, false, k4, k5, k6, k7,
    k8, k9, k10, k11, k12, k13, k14, false, false, false⟩ o) : (State.timeReply s core).Sound ⟨k0, k1, k2, false, k4,
    k5, k6, k7, k8, k9, k10, k11, k12, k13, k14, false, false, false⟩ o := by
  unfold State.timeReply; try dsimp only
  repeat' first
    | with_reducible assumption | with_reducible intro _ | with_reducible apply State.coreReply_sound
    | with_reducible apply State.onCores_sound | with_reducible apply State.tick_sound
    | with_reducible apply ite_sound | with_reducible apply ite_fst_sound | split

theorem State.twinEffect_sound {o : State} {s : State} {core : Nat} {m : TwinMsg} {twin : Bool} (hS : s.Sound ⟨false,
    false, k2, false, false, false, false, false, false, false, false, false, false, false, false, false, false,
    false⟩ o) : (State.twinEffect s core m twin).Sound ⟨false, false, k2, false, false, false, false, false, false,
    false, false, false, false, false, false, false, false, false⟩ o := by
  unfold State.twinEffect; try dsimp only
  repeat' first
    | with_reducible assumption | with_reducible intro _ | with_reducible apply State.intAckOp_sound
    | with_reducible apply State.intEoiOp_sound | with_reducible apply State.timeReply_sound
    | with_reducible apply State.coreReply_sound | with_reducible apply State.tick_sound
    | with_reducible apply State.performAcc_sound | with_reducible apply ite_sound
    | with_reducible apply ite_fst_sound | split

theorem State.twinPerform_sound {o : State} {s : State} {core : Nat} {m : TwinMsg} {twin : Bool} (hS : s.Sound ⟨false,
    false, k2, false, false, false, false, false, false, false, false, false, false, false, false, false, false,
    false⟩ o) : (State.twinPerform s core m twin).Sound ⟨false, false, k2, false, false, false, false, false, false,
    false, false, false, false, false, false, false, false, false⟩ o := by
  unfold State.twinPerform; try dsimp only
  repeat' first
    | with_reducible assumption | with_reducible intro _ | with_reducible apply State.asAgreed_sound
    | with_reducible apply State.twinEffect_sound | with_reducible apply ite_sound
    | with_reducible apply ite_fst_sound | split

theorem State.twinStop_sound {o : State} {s : State} {k : Nat} (hS : s.Sound ⟨false, k1, k2, false, k4, k5, k6, k7,
    k8, k9, k10, k11, k12, k13, k14, k15, k16, k17⟩ o) : (State.twinStop s k).Sound ⟨false, k1, k2, false, k4, k5, k6,
    k7, k8, k9, k10, k11, k12, k13, k14, k15, k16, k17⟩ o := by
  unfold State.twinStop; try dsimp only
  repeat' first
    | with_reducible assumption | with_reducible intro _ | with_reducible apply State.enterHalt_sound
    | with_reducible apply State.updCoreH_sound | with_reducible apply ite_sound | with_reducible apply ite_fst_sound
    | split

theorem State.twinAgreed_sound {o : State} {s : State} {c : ℕ} (hS : s.Sound ⟨k0, k1, k2, false, k4, k5, k6, k7, k8,
    k9, k10, k11, k12, k13, k14, k15, k16, k17⟩ o) : (State.twinAgreed s c).Sound ⟨k0, k1, k2, false, k4, k5, k6, k7,
    k8, k9, k10, k11, k12, k13, k14, k15, k16, k17⟩ o := by
  unfold State.twinAgreed; try dsimp only
  with_reducible repeat' first
    | assumption | intro _ | apply State.updCoreH_sound | apply State.onCores_sound | apply ite_sound
    | apply each_sound

theorem State.twinRollback_sound {o : State} {s : State} {c : Nat} {bad : Nat} (hS : s.Sound ⟨k0, k1, k2, false,
    false, false, k6, k7, k8, k9, k10, k11, k12, false, k14, false, false, k17⟩ o) : (State.twinRollback s c
    bad).Sound ⟨k0, k1, k2, false, false, false, k6, k7, k8, k9, k10, k11, k12, false, k14, false, false, k17⟩ o := by
  unfold State.twinRollback; try dsimp only
  repeat' first
    | with_reducible assumption | with_reducible intro _ | with_reducible apply State.onCores_sound
    | with_reducible apply State.dropLoads_sound | with_reducible apply State.emptyTlbs_sound
    | with_reducible apply State.toCore_sound | with_reducible apply ite_sound | with_reducible apply ite_fst_sound
    | with_reducible apply each_sound | with_reducible apply each_fst_sound
    | with_reducible refine each_fst_sound' (by assumption) ?_ ?_ | split

theorem State.twinDrop_sound {o : State} {s : State} {c : Nat} {out : Nat} (hS : s.Sound ⟨false, false, k2, false,
    false, false, false, false, false, false, false, false, false, false, false, false, false, false⟩ o) :
    (State.twinDrop s c out).Sound ⟨false, false, k2, false, false, false, false, false, false, false, false, false,
    false, false, false, false, false, false⟩ o := by
  unfold State.twinDrop; try dsimp only
  repeat' first
    | with_reducible assumption | with_reducible intro _ | with_reducible apply State.onCores_sound
    | with_reducible apply State.record_sound | with_reducible apply State.fenceCore_sound
    | with_reducible apply State.twinPerform_sound | with_reducible apply State.twinStop_sound
    | with_reducible apply ite_sound | with_reducible apply ite_fst_sound | split

theorem State.twinLost_sound {o : State} {s : State} {c : Nat} (hS : s.Sound ⟨false, k1, k2, false, false, false,
    false, false, false, false, k10, k11, k12, false, k14, false, false, k17⟩ o) : (State.twinLost s c).Sound ⟨false,
    k1, k2, false, false, false, false, false, false, false, k10, k11, k12, false, k14, false, false, k17⟩ o := by
  unfold State.twinLost; try dsimp only
  repeat' first
    | with_reducible assumption | with_reducible intro _ | with_reducible apply State.record_sound
    | with_reducible apply State.dropCore_sound | with_reducible apply State.purgeCore_sound
    | with_reducible apply State.setCoreState_sound | with_reducible apply State.setF_sound
    | with_reducible apply State.updCoreH_sound | with_reducible apply State.maskCore_sound
    | with_reducible apply State.coreEmpty_sound | with_reducible apply State.coreLost_sound
    | with_reducible apply ite_sound | with_reducible apply ite_fst_sound | with_reducible apply each_sound
    | with_reducible apply each_fst_sound | with_reducible refine each_fst_sound' (by assumption) ?_ ?_ | split

theorem State.twinMismatch_sound {o : State} {s : State} {c : Nat} {bad : Nat} {timeout : Bool} (hS : s.Sound ⟨false,
    false, k2, false, false, false, false, false, false, false, false, false, false, false, false, false, false,
    false⟩ o) : (State.twinMismatch s c bad timeout).Sound ⟨false, false, k2, false, false, false, false, false,
    false, false, false, false, false, false, false, false, false, false⟩ o := by
  unfold State.twinMismatch; try dsimp only
  repeat' first
    | with_reducible assumption | with_reducible intro _ | with_reducible apply State.incF_sound
    | with_reducible apply State.twinRollback_sound | with_reducible apply State.twinDrop_sound
    | with_reducible apply State.twinLost_sound | with_reducible apply ite_sound | with_reducible apply ite_fst_sound
    | with_reducible apply each_sound | with_reducible apply each_fst_sound
    | with_reducible refine each_fst_sound' (by assumption) ?_ ?_ | split

theorem State.twinDecide_sound {o : State} {s : State} {c : Nat} (hS : s.Sound ⟨false, false, k2, false, false, false,
    false, false, false, false, false, false, false, false, false, false, false, false⟩ o) : (State.twinDecide s
    c).Sound ⟨false, false, k2, false, false, false, false, false, false, false, false, false, false, false, false,
    false, false, false⟩ o := by
  unfold State.twinDecide; try dsimp only
  repeat' first
    | with_reducible assumption | with_reducible intro _ | with_reducible apply State.twinAgreed_sound
    | with_reducible apply State.twinPerform_sound | with_reducible apply State.twinStop_sound
    | with_reducible apply State.twinMismatch_sound | with_reducible apply ite_sound
    | with_reducible apply ite_fst_sound | with_reducible apply each_sound | with_reducible apply each_fst_sound
    | with_reducible refine each_fst_sound' (by assumption) ?_ ?_ | split

theorem State.twinIn_sound {o : State} {s : State} {c : Nat} {upper : Bool} {m : TwinMsg} (hS : s.Sound ⟨false, false,
    k2, false, false, false, false, false, false, false, false, false, false, false, false, false, false, false⟩ o) :
    (State.twinIn s c upper m).Sound ⟨false, false, k2, false, false, false, false, false, false, false, false, false,
    false, false, false, false, false, false⟩ o := by
  unfold State.twinIn; try dsimp only
  repeat' first
    | with_reducible assumption | with_reducible intro _ | with_reducible apply State.toCore_sound
    | with_reducible apply State.onCores_sound | with_reducible apply State.count_sound
    | with_reducible apply State.twinDecide_sound | with_reducible apply ite_sound
    | with_reducible apply ite_fst_sound | split

theorem execTwinCompare_sound {o : State} {c : Fin 120} {upper : Bool} {kind : Nat} {addr : Word} {size : Nat} {attr :
    Attr} {mask : Mask} {data : Line} {retired : Nat} {user : Bool} {s : State} (hS : s.Sound ⟨false, false, k2,
    false, false, false, false, false, false, false, false, false, false, false, false, false, false, false⟩ o) :
    OutSound ⟨false, false, k2, false, false, false, false, false, false, false, false, false, false, false, false,
    false, false, false⟩ o (execTwinCompare c upper kind addr size attr mask data retired user s) := by
  unfold execTwinCompare; try dsimp only
  with_reducible repeat' first
    | assumption | intro _ | apply State.twinIn_sound | apply ite_out_sound | apply next_sound | apply ite_sound
    | apply ite_fst_sound

theorem State.twinLate_sound {o : State} {s : State} {c : Nat} (hS : s.Sound ⟨false, false, k2, false, false, false,
    false, false, false, false, false, false, false, false, false, false, false, false⟩ o) : (State.twinLate s
    c).Sound ⟨false, false, k2, false, false, false, false, false, false, false, false, false, false, false, false,
    false, false, false⟩ o := by
  unfold State.twinLate; try dsimp only
  repeat' first
    | with_reducible assumption | with_reducible intro _ | with_reducible apply State.twinMismatch_sound
    | with_reducible apply ite_sound | with_reducible apply ite_fst_sound | split

theorem execTwinCompareTimeout_sound {o : State} {c : Fin 120} {s : State} (hS : s.Sound ⟨false, false, k2, false,
    false, false, false, false, false, false, false, false, false, false, false, false, false, false⟩ o) : OutSound
    ⟨false, false, k2, false, false, false, false, false, false, false, false, false, false, false, false, false,
    false, false⟩ o (execTwinCompareTimeout c s) := by
  unfold execTwinCompareTimeout; try dsimp only
  with_reducible repeat' first
    | assumption | intro _ | apply State.twinLate_sound | apply ite_out_sound | apply next_sound | apply ite_sound
    | apply ite_fst_sound

theorem State.stateCompare_sound {o : State} {s : State} {c : Nat} {a : Word} {b : Word} {ra : Nat} {rb : Nat} (hS :
    s.Sound ⟨false, false, k2, false, false, false, false, false, false, false, false, false, false, false, false,
    false, false, false⟩ o) : (State.stateCompare s c a b ra rb).Sound ⟨false, false, k2, false, false, false, false,
    false, false, false, false, false, false, false, false, false, false, false⟩ o := by
  unfold State.stateCompare; try dsimp only
  repeat' first
    | with_reducible assumption | with_reducible intro _ | with_reducible apply State.onCores_sound
    | with_reducible apply State.rejoinPair_sound | with_reducible apply State.twinStop_sound
    | with_reducible apply State.twinAgreed_sound | with_reducible apply State.twinMismatch_sound
    | with_reducible apply ite_sound | with_reducible apply ite_fst_sound | with_reducible apply each_sound
    | with_reducible apply each_fst_sound | with_reducible refine each_fst_sound' (by assumption) ?_ ?_ | split

theorem execTwinStateCompare_sound {o : State} {c : Fin 120} {sigLower : Word} {sigUpper : Word} {retLower : Nat}
    {retUpper : Nat} {s : State} (hS : s.Sound ⟨false, false, k2, false, false, false, false, false, false, false,
    false, false, false, false, false, false, false, false⟩ o) : OutSound ⟨false, false, k2, false, false, false,
    false, false, false, false, false, false, false, false, false, false, false, false⟩ o (execTwinStateCompare c
    sigLower sigUpper retLower retUpper s) := by
  unfold execTwinStateCompare; try dsimp only
  with_reducible repeat' first
    | assumption | intro _ | apply State.stateCompare_sound | apply ite_out_sound | apply next_sound | apply ite_sound
    | apply ite_fst_sound

end Sys2Proof.Machine
end

