-- ==== Sys2Proof/Laws/Settle.lean ====
section
/-! SUPPORT. Where nothing waits for an access of a core to end, the end of one lets nothing else go on. -/

namespace Sys2Proof.Machine

theorem State.retryWaiting_none {s : State} {d : Nat} (h1 : s.cache.waitL1 = []) (h2 : s.cache.waitDc = []) : s.retryWaiting d = s := by
  obtain ⟨_, _, _, _, c, _⟩ := s
  obtain ⟨⟩ := c
  simp only at h1 h2
  subst h1 h2
  rfl

theorem State.cmoSweep_none {s : State} (h : s.cache.cmoOut = []) : s.cmoSweep = s := by
  unfold State.cmoSweep State.cmoPart
  split
  · rfl
  · obtain ⟨_, _, _, _, c, _⟩ := s
    obtain ⟨⟩ := c
    simp only at h
    subst h
    rfl

/-- No descriptor read of the page walkers waits (R143). -/
theorem State.walksHeld_none {s : State} (h : ∀ w ∈ s.xlat.walks, w.held = false) (d : Nat) : s.walksHeld d = s := by
  have e : (s.xlat.walks.filter fun w => w.held && dieOf w.core = d) = [] := by
    simp only [List.filter_eq_nil_iff]
    intro w hw
    simp [h w hw]
  unfold State.walksHeld
  rw [e]
  rfl

/-- No maintenance operation waits (R142). -/
theorem State.cmoWait_none {s : State} {f : Nat × Nat × Nat × Bool → Bool} (h : s.cache.cmoWait = []) :
    (s.onCache fun k => { k with cmoWait := k.cmoWait.filter f }) = s := by
  obtain ⟨_, _, _, _, c, _⟩ := s
  obtain ⟨⟩ := c
  simp only at h
  subst h
  rfl

theorem State.cmoResume_none {s : State} (h : s.NoneWait) (d : Nat) : s.cmoResume d = s := by
  obtain ⟨h1, h2, h3, h4, -, -, -, -, h5⟩ := h
  unfold State.cmoResume
  rw [State.cmoSweep_none h4]
  dsimp only
  rw [State.cmoWait_none h3, h3]
  show State.walksHeld (State.retryWaiting s d) d = s
  rw [State.retryWaiting_none h1 h2, State.walksHeld_none h5]

/-- No access waits for those before it (R132). -/
theorem State.directKick_none {s : State} (h : ∀ q ∈ s.cache.direct, q.txn ≠ noTag) : s.directKick = s := by
  have e : (s.cache.direct.filter fun q => q.txn = noTag) = [] := by
    simpa [List.filter_eq_nil_iff] using h
  unfold State.directKick
  rw [e]
  rfl

theorem State.tlbiSettle_none {s : State} (h1 : ∀ e ∈ s.cores.hid, e.2.tlbiStall = []) (h2 : ∀ t ∈ s.xlat.tlbis, t.todo ≠ []) :
    s.tlbiSettle = s := by
  have a : (s.xlat.tlbis.filter fun t => t.todo = []) = [] := by
    simpa [List.filter_eq_nil_iff] using h2
  have b : (s.xlat.tlbis.filter fun t => t.todo != []) = s.xlat.tlbis := by
    rw [List.filter_eq_self]
    simpa using h2
  have c : s.tlbiStalled = [] := by
    simp only [State.tlbiStalled, List.map_eq_nil_iff, List.filter_eq_nil_iff]
    intro e he
    simp [h1 e he]
  unfold State.tlbiSettle
  rw [a, show (s.onXlat fun x => { x with tlbis := x.tlbis.filter fun t => t.todo != [] }) = s by
    simp only [State.onXlat, b]]
  simp only [List.map_nil, List.eraseDups_nil, each, List.foldl_nil]
  rw [c]
  rfl

/-- Nothing goes on at the end of an access (R142, R143, R167, R168). -/
theorem State.accsSettle_none {s : State} (h : s.NoneWait) (d : Nat) : s.accsSettle d = s := by
  unfold State.accsSettle
  rw [State.cmoResume_none h, State.cmoResume_none h, State.tlbiSettle_none h.2.2.2.2.1 h.2.2.2.2.2.1]

/-- No IO message waits for its route (R284). -/
theorem State.ioSettle_none {s : State} (h : s.links.ioOld = []) : s.ioSettle = s := by
  unfold State.ioSettle
  simp [h]

end Sys2Proof.Machine
end

