-- ==== Sys2Proof/Tests/Slice0.lean ====
section
/-! SUPPORT. Tests: each check of WellFormed refuses an ill-formed term; for each statement, states and operands that meet the
hypotheses of its clauses; and single steps whose results the spec gives. -/

namespace Sys2Proof.Machine

/-- Reaches, as a test. -/
def State.reachesB (s : State) (w : Who) (off : Nat) (wr : Bool) : Bool :=
  s.whoRuns w && (s.whoCore w).all (fun c => !s.coreBlocked c && !s.unagreed c) && off % 8 == 0 && !s.partFenced (s.whoPart w) &&
    match locate off with
    | some (b, n, rel) => (servingDie b n).all (fun d => !s.dieFenced d && !s.dieOff d) && (s.csLinks w b n rel wr).all s.linkCarries
    | none => false

/-- What Admitted asks besides, as a test. -/
def State.rightB (s : State) (w : Who) (off : Nat) (wr : Bool) : Bool :=
  !whoService w && match locate off with
    | some (b, n, rel) => (trainOnly b n rel).isNone && s.csRight (s.whoPart w) b n rel wr
    | none => false

namespace Wit

/-- A package that runs: partition 1 has the SYSTEM right and owns cores 0 and 1; core 0 runs, core 1 halts; their die link and
the hub bridge are in service. -/
def sys : State :=
  let s : State := { State.reset with boot := { State.reset.boot with inReset := false, applied := true, stage := 6 },
                                      beat := { State.reset.beat with running := true, now := 1000 } }
  let s := s.setReg (R.PART_INFO 1) (F.PART_INFO_DEFINED.set (F.PART_INFO_SYSTEM.set (s.reg (R.PART_INFO 1)) 1) 1)
  let s := s.setReg (R.CORE_STAT 0) (F.CORE_STAT_PARTITION.set (F.CORE_STAT_STATE.set (s.reg (R.CORE_STAT 0)) 2) 1)
  let s := s.setReg (R.CORE_STAT 1) (F.CORE_STAT_PARTITION.set (F.CORE_STAT_STATE.set (s.reg (R.CORE_STAT 1)) 1) 1)
  (((s.setF (R.PWR_DIE 0) F.PWR_DIE_STATE 2).setF R.CLKD_ON F.CLKD_ON_ON 7).setF (R.LINK_STAT 8) F.LINK_STAT_STATE 5).setF
    (R.LINK_STAT 20) F.LINK_STAT_STATE 5

/-- A twin pair: partition 1 in twin mode owns cores 0 and 120, and both run. -/
def twin : State :=
  let s := sys.setF (R.PART_INFO 1) F.PART_INFO_TWIN 1
  s.setReg (R.CORE_STAT 120) (F.CORE_STAT_PARTITION.set (F.CORE_STAT_STATE.set (s.reg (R.CORE_STAT 120)) 2) 1)

/-- The same with a channel: channel 0 has 1 MiB in use, all of it region 0 of partition 1. -/
def mem : State :=
  let s := (sys.setF (R.MC_MAP 0) F.MC_MAP_USABLE_MIB 2).setF (R.MC_INFO 0) F.MC_INFO_CAP_GIB 1
  let s := ((s.setF (R.MC_CFG 0) F.MC_CFG_ORDER 3).setF (R.MC_STAT 0) F.MC_STAT_STATE 4).setF (R.HOME_MODE 0) F.HOME_MODE_MODE 0
  (s.setReg (R.MR_BASE 0 0) (F.MR_BASE_VALID.set (F.MR_BASE_PART.set 0 1) 1)).setReg (R.MR_SIZE 0 0) (F.MR_SIZE_SIZE.set 0 1)

/-- A request of die 0 for line 1, of partition 1. -/
def req : CMsg := { (default : CMsg) with line := 1, src := { pkg := 0, unit := 0xF0 }, dst := { pkg := 0, unit := 0xFC }, txn := 7, part := 1,
                                          mask := 0xFF, data := 5 }

/-- Two packages of one system: this one is 0 and master, 1 is admitted. -/
def two : State := (sys.setF R.SYS_STAT F.SYS_STAT_ADMITTED 3).setF R.PKG_INFO F.PKG_INFO_ADMITTED 1

/-- The same seen from package 1. -/
def slave : State := { two with boot := { two.boot with strap := 1 } }

def me : Sender := .core 0 0 1

/-- Port 0 is a root port with one segment of partition 1, its link in L0, buses 1 to 3 behind it. -/
def pci : State :=
  let s := mem.setF (R.PCIE_INFO 0) F.PCIE_INFO_MODE 1
  let s := ((s.setF (R.SEG_STAT 0 0) F.SEG_STAT_OWNER 1).setF (R.SEG_STAT 0 0) F.SEG_STAT_LTSSM 3).setF (R.SEG_STAT 0 0) F.SEG_STAT_DLL_ACTIVE 1
  let s := (s.setF (R.SEG_STAT 0 0) F.SEG_STAT_PERST 0).setF (R.SEG_CTL 0 0) F.SEG_CTL_PERST 0
  (s.setF (R.SEG_CTL 0 0) F.SEG_CTL_SEC_BUS 1).setF (R.SEG_CTL 0 0) F.SEG_CTL_SUB_BUS 3

/-- Port 3 is a Service Endpoint whose function 1 is partition 1's, its link in L0 and Bus Master Enable set. -/
def sep : State :=
  let s := (mem.setF (R.PCIE_INFO 3) F.PCIE_INFO_MODE 2).setF (R.SEG_STAT 3 0) F.SEG_STAT_LTSSM 3
  let s := (s.setF (R.SEP_FN_INFO 3 1) F.SEP_FN_INFO_PRESENT 1).setF (R.SEP_FN_INFO 3 1) F.SEP_FN_INFO_PART 1
  s.setF (R.SEP_FN_INFO 3 1) F.SEP_FN_INFO_BME 1

/-- A core read of 8 bytes in the PCIe region. -/
def acc : Acc := { (default : Acc) with core := 0, src := .load, pa := 0x1000000000000, size := 8, part := 1 }

/-- Partition 1 has one ring, ring 4, which executes d. -/
def ring (d : DescH) : State :=
  ((mem.setF (R.PART_INFO 1) F.PART_INFO_RINGS 1).setF (R.RING_BASE 4) F.RING_BASE_BASE 4).setRing 4 { (default : RingH) with exec := [d] }

/-- A descriptor: opcode, key slots, PARAM, source and destination lengths, AUX; its source stands at 0x1000, its destination at 0x2000. -/
def desc (op keyA keyB param srcLen dstLen aux : Nat) : BitVec 512 :=
  BitVec.ofNat 512 (op + keyA * 2 ^ 16 + keyB * 2 ^ 32 + param * 2 ^ 48 + 0x1000 * 2 ^ 64 + 0x2000 * 2 ^ 128 + srcLen * 2 ^ 192 +
    dstLen * 2 ^ 224 + aux * 2 ^ 256)

/-- A key whose header has these characters for usage, algorithm, mode of use and exportability. -/
def key (u1 u2 alg mode exp : Char) (len : Nat) : KeyEnt :=
  { header := ['D', '0', '1', '1', '2', u1, u2, alg, mode, '0', '0', exp, '0', '0', '0', '0'].map fun c => BitVec.ofNat 8 c.toNat
    opt := [], key := List.replicate len 1 }

/-- A descriptor in execution, its keys and the bytes of its source. -/
def run (b : BitVec 512) (a k : KeyEnt) (src : List Byte) : DescH :=
  { (default : DescH) with bytes := b, keyA := a, keyB := k, src := src }

/-- The request of ring 4's agent, of this kind, for descriptor no, on its way to home 0; and its answer. -/
def piece (kind no : Nat) : CMsg :=
  { (default : CMsg) with op := .dmaRd, line := 1, src := { pkg := 0, unit := 0xFC }, dst := { pkg := 0, unit := 0xFC }, txn := 9, part := 1,
                          aop := { (default : AtOp) with off := 0, size := 64 }, fwd := { pkg := kind, unit := 0 }, fwdTxn := no }
def reply : CMsg := { (default : CMsg) with op := .dataUc, line := 1, src := { pkg := 0, unit := 0xFC }, dst := { pkg := 0, unit := 0xFC }, txn := 9,
                                            part := 1, data := 5 }

/-- The debug unit has selected core 1, with every right on partition 1. -/
def dbg : State :=
  let s := ((mem.setF (R.DBG_STAT 0) F.DBG_STAT_SCOPE 1).setF (R.DBG_STAT 0) F.DBG_STAT_PART 1).setF (R.DBG_STAT 0) F.DBG_STAT_TAP_PRIVATE 1
  ((s.setF (R.DBG_STAT 0) F.DBG_STAT_CORE_PROBE 1).setF (R.DBG_STAT 0) F.DBG_STAT_ARRAY_READ 1).onErr fun e => { e with dbgCore := some 1 }

/-- A read of line 1 by core 3, and its answer. -/
def ucRd : CMsg := { (default : CMsg) with op := .ucRd, line := 1, src := { pkg := 0, unit := 3 }, dst := { pkg := 0, unit := 0xFC }, txn := 7,
                                           part := 1, mask := 0xFF }
def back : CMsg := { ucRd with op := .dataUc, src := ucRd.dst, dst := ucRd.src }

/-- A partial write of line 1 by core 3: a mask flit and its data flit. -/
def part : CMsg := { ucRd with op := .ucWr, mask := 0xF }

/-- An access of line 1, in channel 0; transaction 7 waits for it. -/
def rq (wr : Bool) (slot : Option Nat) : ChanReq :=
  { (default : ChanReq) with ch := 0, line := 1, wr := wr, part := 1, hub := 0, slot := slot, passed := true, data := 5, mask := 1 }
def tx : Txn := { (default : Txn) with hub := 0, slot := 7, req := { req with op := .rdUnique }, waits := [{ pkg := 0, unit := 0xF5 }], needMem := true }

/-- The same with key slot 1 loaded, line 1 holding x, and accesses that wait for channel 0; strong: every page has one parity row. -/
def chan (x : Stored) (q : List ChanReq) : State :=
  (((mem.setF (R.MC_STAT 0) F.MC_STAT_KEYS 2).setStored 0 1 x).onDram fun d => { d with queue := q }).onHome fun h => { h with txns := [tx] }
def strong (s : State) : State :=
  ((s.setF (R.MC_CFG 0) F.MC_CFG_CARVE_S 1).setF (R.MR_BASE 0 0) F.MR_BASE_STRENGTH 1).setF (R.MR_BASE 0 0) F.MR_BASE_PREV_S 1

/-- A rebuild that access r or the scrubber asked for. -/
def lock (r : ChanReq) : PageLock := { group := 0, page := 0, req := r, own := none, reads := [], done := false }

/-- A line in which two devices have failed. -/
def torn : Stored := BitVec.ofNat 640 (1 + 3 * 2 ^ 70)

end Wit

/-! ## Hypotheses that are predicates of Safety -/

theorem issues_of {s : State} {w : Who} (h1 : s.whoRuns w = true := by decide +kernel)
    (h2 : (s.whoCore w).all (fun c => !s.coreBlocked c && !s.unagreed c) = true := by decide +kernel) : s.Issues w := by
  refine ⟨h1, fun c hc => ?_⟩
  rw [hc] at h2
  simpa using h2

theorem reaches_of {s : State} {w : Who} {off : Nat} {wr : Bool} (h : s.reachesB w off wr = true := by decide +kernel) : s.Reaches w off wr := by
  unfold State.reachesB at h
  simp only [Bool.and_eq_true, Bool.not_eq_true', beq_iff_eq] at h
  obtain ⟨⟨⟨⟨h1, h6⟩, h2⟩, h4⟩, h⟩ := h
  split at h
  · rename_i b n rel hl
    simp only [Bool.and_eq_true, List.all_eq_true] at h
    refine ⟨issues_of h1 h6, h2, h4, b, n, rel, hl, fun d hd => ?_, h.2⟩
    have := h.1
    rw [hd] at this
    simpa using this
  · simp at h

theorem admitted_of {s : State} {w : Who} {off : Nat} {wr : Bool} (h : s.reachesB w off wr = true := by decide +kernel)
    (h' : s.rightB w off wr = true := by decide +kernel) : s.Admitted w off wr := by
  refine ⟨reaches_of h, ?_⟩
  unfold State.rightB at h'
  simp only [Bool.and_eq_true, Bool.not_eq_true'] at h'
  refine ⟨h'.1, ?_⟩
  have h := h'.2
  split at h
  · simp only [Bool.and_eq_true, Option.isNone_iff_eq_none] at h
    exact ⟨_, _, _, ‹_›, h⟩
  · simp at h

theorem inv_of {s : State} (h : (Mem.wf s.dram.mem && decide (s.regs.Pairwise fun a b => a.1 < b.1) &&
    s.regs.all fun e => e.2 != regReset e.1) = true := by decide +kernel) : s.Inv := by
  simp only [Bool.and_eq_true, decide_eq_true_eq, List.all_eq_true, bne_iff_ne] at h
  exact ⟨h.1.1, h.1.2, h.2⟩

theorem runs_of {s : State} {c : Nat} (h : s.coreState c = 2 ∧ s.coreBlocked c = false := by decide +kernel) : s.Runs c := h

theorem noneWait_of {s : State} (h : s.cache.waitL1 = [] ∧ s.cache.waitDc = [] ∧ s.cache.cmoWait = [] ∧ s.cache.cmoOut = [] ∧
    (∀ e ∈ s.cores.hid, e.2.tlbiStall = []) ∧ (∀ t ∈ s.xlat.tlbis, t.todo ≠ []) ∧ s.links.ioOld = [] ∧
    (∀ q ∈ s.cache.direct, q.txn ≠ noTag) ∧ ∀ w ∈ s.xlat.walks, w.held = false := by decide +kernel) : s.NoneWait := h

theorem arrives_of {s : State} {m : CMsg} (h : s.arrived m = true ∧ s.locked = false ∧ (∀ l ∈ s.pathLinks m, s.linkActive l = true ∧ s.paused l = false) ∧
    s.beat.isolated = false := by decide +kernel) : s.Arrives m := h

theorem opens_of {s : State} {h line part slot : Nat} (ok : s.homedAt h line = true ∧ (part = 0 ∨ (s.inXfer line = false ∧ s.partFenced part = false ∧
      s.lineOwner line = part)) ∧ s.chanDead line = false ∧ s.ordered h = false ∧ s.lineBusy h line = false ∧ s.freeSlot h = some slot ∧
    s.poisonSeen line = false ∧ s.f (R.ARB_RR (62 + h)) F.ARB_RR_HELD = 0 ∧ (∀ t ∈ s.home.txns, t.recallFor = none) ∧ s.dirWay h line = none ∧
    ∃ w < 16, (s.home.dir.get (dirKey h (dirSet line) w)).valid = false := by decide +kernel) : s.Opens h line part slot := ok

theorem snooped_of {s : State} {d : Nat} {m : CMsg} {w : Nat} {l : DcLine} (ha : s.Arrives m := by exact arrives_of)
    (h : s.dieFenced d = false ∧ s.dieOff d = false ∧ s.dcWay d m.line = some w ∧ s.dcAt d m.line w = l ∧ l.presence = 0 ∧
      (∀ e ∈ s.cache.wb, e.die = d → e.line ≠ m.line) ∧ ∀ q ∈ s.cache.dcMiss, q.die = d → q.line ≠ m.line := by decide +kernel) :
    s.Snooped d m w l := ⟨ha, h⟩

theorem backed_of {s : State} {pa : Nat} (h1 : pa < 2 ^ 52 ∧ s.undecoded pa = none := by decide +kernel) (h2 : isDram pa = true := by decide +kernel) :
    s.Backed pa := by
  refine ⟨h1.1, h1.2, ?_⟩
  unfold isDram at h2
  split at h2
  · exact ⟨_, ‹_›⟩
  · simp at h2

theorem executes_of {s : State} {r op : Nat} {d : DescH} (h : (s.ringH r).exec = [d] ∧ d.done = false ∧ d.told = false ∧ d.need = 0 ∧ d.wait = 0 ∧
      d.bad = false ∧ dOp d.bytes = op ∧ lensOk d.bytes = true ∧ s.agentQ r = [] := by decide +kernel)
    (hb : s.Backed (s.complPa r d.seq) := by exact backed_of) : s.Executes r op d :=
  ⟨h.1, h.2.1, h.2.2.1, h.2.2.2.1, h.2.2.2.2.1, h.2.2.2.2.2.1, h.2.2.2.2.2.2.1, h.2.2.2.2.2.2.2.1, h.2.2.2.2.2.2.2.2, hb⟩

theorem takes_of {s : State} {r : Nat} {d : DescH} {n : Nat} (h : 0 < n ∧ n ≤ dDstLen d.bytes := by decide +kernel)
    (hb : s.Backed (dDstPa d.bytes) := by exact backed_of) (hn : ∀ e ∈ linePieces (n / 64 + 2) (dDstPa d.bytes) n,
      s.agentBarred (s.agentMsg r true e.1 e.2 (s.ringOwner r) A_DST d.seq 0) = false := by decide +kernel) : s.Takes r d n := ⟨h.1, h.2, hb, hn⟩

theorem answers_of {s : State} {r : Nat} {m q : CMsg} (ha : s.Arrives m := by exact arrives_of)
    (h : m.dst = s.hubUnit (agentHub r) ∧ s.dmaOf (agentHub r) m = none ∧ s.agentOf (agentHub r) m = some r ∧ (s.agentQ r).head? = some q := by
      decide +kernel) : s.Answers r m q := ⟨ha, h⟩

theorem freeTag_full {s : State} {k : Nat} (h : (s.seg k).quarantine = List.range 1024) : s.freeTag k = none := by
  simp [State.freeTag, h]
  exact fun x hx _ => hx

/-! ## Pages of empty lines -/

theorem lineDecode_zero : lineDecode 0#640 none = .clean := by decide +kernel

theorem readLine_zero {s : State} {c l : Nat} (hg : s.chanGone c = false) (hs : s.stored c l = 0) (hd : s.devOut c l = none)
    (hp : s.f (R.MC_PD_STAT c) F.MC_PD_STAT_IN_PD = 0) : s.readLine c l = (s, .clean, 0) := by
  have h : s.wakeRank c (s.rankOf c l) = s := by simp [State.wakeRank, hp, bit]
  simp only [State.readLine, hg, hs, hd, h, Bool.false_eq_true, if_false]
  rw [show (0 : Stored) = 0#640 from rfl, lineDecode_zero]

theorem readLines_zero {s : State} (L : List (Nat × Nat)) (acc : List (LineRes × Stored)) (h : ∀ e ∈ L, s.chanGone e.1 = false ∧
      s.stored e.1 e.2 = 0 ∧ s.devOut e.1 e.2 = none ∧ s.f (R.MC_PD_STAT e.1) F.MC_PD_STAT_IN_PD = 0) :
    L.foldl (fun (a : State × List (LineRes × Stored)) e => let (s, r, x) := a.1.readLine e.1 e.2; (s, a.2 ++ [(r, x)])) (s, acc) =
      (s, acc ++ L.map fun _ => (.clean, 0)) := by
  induction L generalizing acc with
  | nil => simp
  | cons e L ih =>
    obtain ⟨hg, hs, hd, hp⟩ := h e (by simp)
    simp [readLine_zero hg hs hd hp, ih _ fun e he => h e (by simp [he])]

theorem pair_eq {α β : Type} {p : α × β} {b : β} (h : p.2 = b) : p = (p.1, b) := by rw [← h]

theorem page_zero {s : State} {off : Nat} (h : ∀ e ∈ s.pageLoc off, s.chState e.1 ≠ 6 ∧ s.stored e.1 e.2 = 0 ∧ s.devOut e.1 e.2 = none := by
    decide +kernel) : ∀ e ∈ s.pageLoc off, s.chState e.1 ≠ 6 ∧ lineDecode (s.stored e.1 e.2) (s.devOut e.1 e.2) = .clean :=
  fun e he => ⟨(h e he).1, by rw [(h e he).2.1, (h e he).2.2]; exact lineDecode_zero⟩

/-- A page of empty lines whose one parity slot has failed is rebuilt, with one line. -/
theorem rebuild_row {s t : State} {off : Nat} {e w : Nat × Nat} {x : Stored} (h : ∀ e ∈ s.pageLoc off, s.chanGone e.1 = false ∧
      s.stored e.1 e.2 = 0 ∧ s.devOut e.1 e.2 = none ∧ s.f (R.MC_PD_STAT e.1) F.MC_PD_STAT_IN_PD = 0) (hr : s.rowLoc off 1 = [e])
    (hp : s.readParity e.1 e.2 = (t, .failed, x)) (hl : t.isLost w.1 w.2 = false) : (s.rebuildPage off 1 (some w)).2 = some 1 := by
  have h1 : s.readPage off 1 (some w) = (t, { data := (s.pageLoc off).map fun _ => (.clean, 0), rows := [(.failed, x)] }) := by
    unfold State.readPage
    rw [readLines_zero _ _ h]
    simp [hr, hp]
  have h0 (n : Nat) (L : List (Nat × Nat)) : ((L.map fun _ => (LineRes.clean, (0 : Stored))).zipIdx n).filter (fun e => e.1.1 = .failed) = [] := by
    induction L generalizing n with
    | nil => rfl
    | cons a L ih => rw [List.map_cons, List.zipIdx_cons, List.filter_cons_of_neg (by simp), ih]
  have h2 : failedIdx ((s.pageLoc off).map fun _ => (LineRes.clean, (0 : Stored))) = [] := by
    unfold failedIdx
    rw [h0]
    rfl
  have h2' : failedIdx [(LineRes.failed, x)] = [0] := rfl
  have h3 (L : List Line) : pageSolve L [] [] = some [] := by
    have h4 : (List.range 64).mapM (fun _ => (some [] : Option (List Nat))) = some (List.replicate 64 []) := by decide
    simp only [pageSolve, gfSolve, List.map_nil, List.length_nil, List.all_nil, if_true, List.range_zero]
    rw [h4]
  unfold State.rebuildPage
  rw [h1]
  simp only [h2, h2', List.filter_nil, List.length_nil, List.length_cons, Option.any_some, hl]
  simp [h3]

/-- A rebuild for transaction 7 of a page whose data lines all read well by now, and whose parity slot has failed. -/
def Wit.rebuild : State := ((Wit.strong (Wit.chan 0 [])).setStored 0 32768 Wit.torn).onDram fun d =>
  { d with locks := [Wit.lock (Wit.rq false (some 7))] }

theorem rebuild_solved : (Wit.rebuild.lockDone (Wit.lock (Wit.rq false (some 7)))).rebuildPage (offOfLine (Wit.lock (Wit.rq false (some 7))).req.line)
      (Wit.rebuild.pageStrength (Wit.lock (Wit.rq false (some 7))).req.line) (some (0, 1)) =
    (((Wit.rebuild.lockDone (Wit.lock (Wit.rq false (some 7)))).rebuildPage 1 1 (some (0, 1))).1, some 1) := by
  have e : Wit.rebuild.pageStrength (Wit.lock (Wit.rq false (some 7))).req.line = 1 := by decide +kernel
  have e' : offOfLine (Wit.lock (Wit.rq false (some 7))).req.line = 1 := by decide +kernel
  have h2 : ((Wit.rebuild.lockDone (Wit.lock (Wit.rq false (some 7)))).readParity 0 32768).2.1 = .failed := by decide +kernel
  have h3 : ((Wit.rebuild.lockDone (Wit.lock (Wit.rq false (some 7)))).readParity 0 32768).1.isLost 0 1 = false := by decide +kernel
  have h4 : (Wit.rebuild.lockDone (Wit.lock (Wit.rq false (some 7)))).rowLoc 1 1 = [(0, 32768)] := by decide +kernel
  have h5 : ∀ e ∈ (Wit.rebuild.lockDone (Wit.lock (Wit.rq false (some 7)))).pageLoc 1,
      (Wit.rebuild.lockDone (Wit.lock (Wit.rq false (some 7)))).chanGone e.1 = false ∧
      (Wit.rebuild.lockDone (Wit.lock (Wit.rq false (some 7)))).stored e.1 e.2 = 0 ∧
      (Wit.rebuild.lockDone (Wit.lock (Wit.rq false (some 7)))).devOut e.1 e.2 = none ∧
      (Wit.rebuild.lockDone (Wit.lock (Wit.rq false (some 7)))).f (R.MC_PD_STAT e.1) F.MC_PD_STAT_IN_PD = 0 := by decide +kernel
  rw [e, e']
  generalize Wit.rebuild.lockDone (Wit.lock (Wit.rq false (some 7))) = s at *
  rcases hp : s.readParity 0 32768 with ⟨t, r, x⟩
  simp only [hp] at h2 h3
  subst h2
  exact pair_eq (rebuild_row h5 h4 hp h3)

/-- The same where the page's channel has failed. -/
def Wit.failing : State := Wit.rebuild.setF (R.MC_STAT 0) F.MC_STAT_STATE 6

theorem readLines_gone {s : State} (L : List (Nat × Nat)) (acc : List (LineRes × Stored)) (h : ∀ e ∈ L, s.chanGone e.1 = true) :
    L.foldl (fun (a : State × List (LineRes × Stored)) e => let (s, r, x) := a.1.readLine e.1 e.2; (s, a.2 ++ [(r, x)])) (s, acc) =
      (s, acc ++ L.map fun _ => (.failed, 0)) := by
  induction L generalizing acc with
  | nil => simp
  | cons e L ih =>
    have he : s.readLine e.1 e.2 = (s, .failed, 0) := by simp [State.readLine, h e (by simp)]
    simp [he, ih _ fun e he => h e (by simp [he])]

/-- A page all of whose lines stand in failed channels is not rebuilt. -/
theorem rebuild_gone {s : State} {off n : Nat} {w : Nat × Nat} (h : ∀ e ∈ s.pageLoc off, s.chanGone e.1 = true) (hn : n < (s.pageLoc off).length) :
    (s.rebuildPage off n (some w)).2 = none := by
  have h2 (k : Nat) (L : List (Nat × Nat)) : ((L.map fun _ => (LineRes.failed, (0 : Stored))).zipIdx k).filter (fun e => e.1.1 = .failed) =
      (L.map fun _ => (LineRes.failed, (0 : Stored))).zipIdx k := by
    induction L generalizing k with
    | nil => rfl
    | cons a L ih => rw [List.map_cons, List.zipIdx_cons, List.filter_cons_of_pos (by simp), ih]
  have h1 : (s.readPage off n (some w)).2.data = (s.pageLoc off).map fun _ => (.failed, 0) := by
    unfold State.readPage
    rw [readLines_gone _ _ h]
    simp
  unfold State.rebuildPage
  rcases hp : s.readPage off n (some w) with ⟨t, p⟩
  rw [hp] at h1
  have h3 : n < (failedIdx p.data).length + (failedIdx p.rows).length := by
    simp only [] at h1
    rw [h1]
    unfold failedIdx
    rw [h2]
    simp
    omega
  simp [h3]

theorem rebuild_failed : (Wit.failing.lockDone (Wit.lock (Wit.rq false (some 7)))).rebuildPage (offOfLine (Wit.lock (Wit.rq false (some 7))).req.line)
      (Wit.failing.pageStrength (Wit.lock (Wit.rq false (some 7))).req.line) (some (0, 1)) =
    (((Wit.failing.lockDone (Wit.lock (Wit.rq false (some 7)))).rebuildPage 1 1 (some (0, 1))).1, none) := by
  have e : Wit.failing.pageStrength (Wit.lock (Wit.rq false (some 7))).req.line = 1 := by decide +kernel
  have e' : offOfLine (Wit.lock (Wit.rq false (some 7))).req.line = 1 := by decide +kernel
  have h : ∀ e ∈ (Wit.failing.lockDone (Wit.lock (Wit.rq false (some 7)))).pageLoc 1,
      (Wit.failing.lockDone (Wit.lock (Wit.rq false (some 7)))).chanGone e.1 = true := by decide +kernel
  have hn : 1 < ((Wit.failing.lockDone (Wit.lock (Wit.rq false (some 7)))).pageLoc 1).length := by decide +kernel
  rw [e, e']
  generalize Wit.failing.lockDone (Wit.lock (Wit.rq false (some 7))) = s at *
  exact pair_eq (rebuild_gone h hn)

/-! ## WellFormed refuses an ill-formed term of each check -/

def Wit.bad (op : COp) : CMsg := { (default : CMsg) with op := op, line := 2 ^ 46 }

theorem test_wf_sizes : (Instr.csRegisterWrite (.service 0) 0 3 0).wf = false ∧ (Instr.coreLoad 0 0 5 false false).wf = false ∧
    (Instr.coreLoad 0 4 8 false false).wf = false ∧ (Instr.coreStore 0 0 128 0 false).wf = false ∧ (Instr.coreStore 0 1 2 0 false).wf = false ∧
    (Instr.coreAtomic 0 0 0 32 0 0 false).wf = false ∧ (Instr.coreAtomic 0 8 0 16 0 0 false).wf = false ∧
    (Instr.coreAtomic 0 0 256 8 0 0 false).wf = false ∧ (Instr.coreFetch 0 2 false false).wf = false ∧
    (Instr.sepHostAccess 0 0 0 0 0 false []).wf = false ∧ (Instr.sepHostAccess 0 0 0 2 4 true []).wf = false ∧
    (Instr.twinCompare 0 false 10 0 8 .wb 0 0 0 false).wf = false ∧ (Instr.twinCompare 0 false 0 0 3 .wb 0 0 0 false).wf = false := by decide

theorem test_wf_peal : (Instr.pealRequest 0 0 5 [] 0 none).wf = false ∧ (Instr.pealRequest 0 0 1 [0] 0 none).wf = false ∧
    (Instr.pealRequest 0 0 1 [] 0 (some 2)).wf = false ∧
    (Instr.pealArming 0 0 0 0 [] 0 true).wf = false ∧ (Instr.pealArming 0 1 0 5 [] 0 true).wf = false ∧ (Instr.pealAck 0 65536).wf = false ∧
    (Instr.pealPackageResult 0 0 none).wf = false ∧ (Instr.pealVerdict 0 0 true 0 0).wf = false := by decide

theorem test_wf_lists : (Instr.beatBoundary [] [] true).wf = false ∧ (Instr.beatBoundary (List.replicate 14 0) (List.replicate 13 []) true).wf = false ∧
    (Instr.beatBoundary (List.replicate 14 0) (List.replicate 14 [0]) true).wf = false ∧
    (Instr.arbiterRound 0 [(16, false)] 0).wf = false ∧
    (Instr.mgmtBufferWrite 0 (List.replicate 33 0) none).wf = false ∧ (Instr.pcieMsi 0 0 [0, 0, 0, 0, 0]).wf = false ∧
    (Instr.pcieMemoryWrite 0 0 0 [] false).wf = false ∧ (Instr.trainingTaskDone 0x10 true 0 [default]).wf = false := by decide

theorem test_wf_long_lists : (Instr.trnDone 0 (List.replicate 65536 0) 0 0).wf = false ∧ (Instr.ticketAtMaster 0 0 (List.replicate 4097 0)).wf = false ∧
    (Instr.ticketRemoteVet 0 (List.replicate 4097 0) true).wf = false ∧ (Instr.pcieMemoryWrite 0 0 0 (List.replicate 4097 0) false).wf = false := by
  simp only [Instr.wf, List.length_replicate]
  decide

theorem test_wf_numbers : (Instr.moduleTimeout 0x28 false []).wf = false ∧ (Instr.moduleTimeout 0 false [default]).wf = false ∧
    (Instr.trainingTaskDone 0x28 false 0 []).wf = false ∧ (Instr.trainingTaskDone 0 false 0 [default]).wf = false ∧
    (Instr.cacheArrayError 0 0 0 32 0 true).wf = false ∧ (Instr.cacheArrayError 1 0 32 0 0 true).wf = false ∧
    (Instr.cacheArrayError 3 0 0 16 0 true).wf = false ∧ (Instr.cacheArrayError 4 0 256 0 0 true).wf = false ∧
    (Instr.dbgArray 0 0 32).wf = false ∧ (Instr.dbgArray 1 32 0).wf = false ∧ (Instr.dbgArray 3 65536 0).wf = false ∧ (Instr.dbgArray 4 257 0).wf = false ∧
    (Instr.linkCrcError 22 0 0).wf = false ∧ (Instr.creditReturn (32 + 14 * 64) 0).wf = false ∧
    (Instr.pcieMemoryRead 0 0 0 0 0).wf = false ∧ (Instr.pcieMemoryRead 0 0 0 4097 0).wf = false ∧ (Instr.pcieMemoryRead 0 0 0 1 1024).wf = false ∧
    (Instr.pcieAtomicop 0 0 0 0 4 0 0 1024).wf = false ∧ (Instr.gongMessage 0 0 256 0 0 0 0).wf = false ∧ (Instr.gongMessage 0 0 0 16 0 0 0).wf = false ∧
    (Instr.sepHostConfig 0 0 1024 none).wf = false := by decide

theorem test_wf_headers : (Instr.routerForward 0 0 0 0 0 0 0 (Wit.bad .comp)).wf = false ∧ (Instr.transitForward 0 (Wit.bad .comp)).wf = false ∧
    (Instr.regulatorPass 0 0 false (Wit.bad .comp)).wf = false ∧ (Instr.retryReissue (Wit.bad .comp)).wf = false ∧
    (Instr.comp { (default : CMsg) with op := .comp, src := { pkg := 8, unit := 0 } }).wf = false ∧
    (Instr.comp { (default : CMsg) with op := .comp, dst := { pkg := 0, unit := 0xFE } }).wf = false ∧
    (Instr.comp { (default : CMsg) with op := .comp, txn := 4096 }).wf = false ∧
    (Instr.comp { (default : CMsg) with op := .comp, part := 16 }).wf = false := by decide

theorem test_wf_opcodes :
    ([.rdUnique 0, .upgrade 0, .wtWrite 0, .farAtomic 0, .cmoClean 0, .cmoCleanInv 0, .dmaRd 0, .dmaWr 0, .ucRd 0, .ucWr 0, .ucAtomic 0,
      .snpShared 0, .snpUnique 0, .snpInv 0, .snpClean 0, .snpRecall 0, .snpOrderShared 0, .snpOrderUnique 0, .snpOrderRecall 0] ++
      [.wbDirty 0, .evictClean 0, .wbLost 0, .dataS 0, .dataE 0, .dataM 0, .dataO 0, .snpData 0, .dataUc, .atomicData 0, .atomicDataSole 0, .comp,
      .compContended, .compAck 0, .snpRspI 0, .snpRspS 0, .snpRspFwdClean 0, .snpRspFwdDirty 0, .snpRspPassed 0, .wbAck 0, .retry, .busErr] ++
      [fun m => .targetOff m false, fun m => .rdShared 0 { m with op := .comp }] : List (CMsg → Instr)).all
      (fun c => !(c { (default : CMsg) with op := .rdShared }).wf) = true := by decide

/-! ## Hypotheses of the statements can be met -/

section
-- One theorem after the other: each check by the kernel in a thread of its own takes too much memory together.
set_option Elab.async false

/-- A state that meets the hypothesis of Obligations.StepRunsFrontCommand. -/
theorem test_StepRunsFrontCommand_hyps : ∃ s : State, s.pending = [] := ⟨Wit.sys, rfl⟩

/-- A state that meets the hypotheses of Obligations.StepKeepsInvariant, with a command queued. -/
theorem test_StepKeepsInvariant_hyps : ∃ s t : State, s.Inv ∧ step s = .next t :=
  ⟨{ Wit.sys with pending := [.tapIdcode] }, _, inv_of, rfl⟩

/-- A command and states that meet the hypotheses of Obligations.CommandsKeepTheRest. -/
theorem test_CommandsKeepTheRest_hyps : ∃ (c : Instr) (s t : State) (p : Component), s.Inv ∧ exec c s = .next t ∧ p ∉ mayChange c :=
  ⟨.tapIdcode, Wit.sys, _, .registers, inv_of, rfl, by decide⟩

/-- A command and states that meet the hypotheses of Obligations.OnlyBoundariesMoveTheBeat. -/
theorem test_OnlyBoundariesMoveTheBeat_hyps : ∃ (c : Instr) (s t : State), s.Inv ∧ (∀ l m a, c ≠ .beatBoundary l m a) ∧
    c ≠ .resetAssert ∧ (∀ p, c ≠ .resetDeassert p) ∧ exec c s = .next t :=
  ⟨.tapIdcode, Wit.sys, _, inv_of, fun _ _ _ => by simp, by simp, fun _ => by simp, rfl⟩

/-- A command and states that meet the hypotheses of Obligations.RollbackNeverFalls. -/
theorem test_RollbackNeverFalls_hyps : ∃ (c : Instr) (s t : State), s.Inv ∧ exec c s = .next t :=
  ⟨.tapIdcode, Wit.sys, _, inv_of, rfl⟩

/-- States and operands that meet the hypotheses of each clause of Obligations.ControlSpaceAccessRules. -/
theorem test_ControlSpaceAccessRules_hyps :
  (∃ (s : State) (who : Sender) (off : Fin (2 ^ 32)) (size : Nat) (v : Word), s.Issues who.who ∧ (size ≠ 8 ∨ off.val % 8 ≠ 0)) ∧
  (∃ (s : State) (c : Core) (va : Word) (size : Nat) (user : Bool) (off : Nat), s.Runs c ∧ s.accsOut c (fun _ => true) = false ∧ s.f (R.XLAT_CTL c)
    F.XLAT_CTL_EN = 0 ∧ va.toNat = s.csAddr off ∧ off < 2 ^ 32 ∧ s.pkg < 8 ∧ 0 < size ∧ size < 8 ∧ s.paired (s.corePart c) c = false) ∧
  (∃ (s : State) (c : Core) (va : Word) (size : Nat) (v : Line) (user : Bool) (off : Nat), s.Runs c ∧ s.accsOut c (fun _ => true) = false ∧ s.f
    (R.XLAT_CTL c) F.XLAT_CTL_EN = 0 ∧ va.toNat = s.csAddr off ∧ off < 2 ^ 32 ∧ s.pkg < 8 ∧ 0 < size ∧ size < 8 ∧ s.paired (s.corePart c) c =
    false) ∧
  (∃ (s : State) (who : Sender) (off : Fin (2 ^ 32)) (v : Word), s.Issues who.who ∧ off.val % 8 = 0 ∧ locate off = none) ∧
  (∃ (s : State) (c : Core) (va : Word) (user : Bool) (off : Nat), s.Runs c ∧ s.accsOut c (fun _ => true) = false ∧ s.f (R.XLAT_CTL c)
    F.XLAT_CTL_EN = 0 ∧ va.toNat = s.csAddr off ∧ off < 2 ^ 32 ∧ s.pkg < 8 ∧ off % 8 = 0 ∧ locate off = none ∧ s.paired (s.corePart c) c = false) ∧
  (∃ (s : State) (c : Core) (va : Word) (v : Line) (user : Bool) (off : Nat), s.Runs c ∧ s.accsOut c (fun _ => true) = false ∧ s.f (R.XLAT_CTL c)
    F.XLAT_CTL_EN = 0 ∧ va.toNat = s.csAddr off ∧ off < 2 ^ 32 ∧ s.pkg < 8 ∧ off % 8 = 0 ∧ locate off = none ∧ s.paired (s.corePart c) c = false) ∧
  (∃ (s : State) (who : Sender) (off : Fin (2 ^ 32)) (v : Word), s.Reaches who.who off true ∧ regAt off = none) ∧
  (∃ (s : State) (c : Core) (va : Word) (user : Bool) (off : Nat) (pkg : Pkg) (p : Sys2Proof.Part), s.Runs c ∧ s.Reaches (.core pkg c p) off false
    ∧ s.accsOut c (fun _ => true) = false ∧ s.f (R.XLAT_CTL c) F.XLAT_CTL_EN = 0 ∧ va.toNat = s.csAddr off ∧ off < 2 ^ 32 ∧ pkg.val = s.pkg ∧ regAt
    off = none ∧ s.paired (s.corePart c) c = false) :=
  ⟨⟨Wit.sys, Wit.me, 0x08, 4, 7, issues_of, by decide +kernel⟩,
  ⟨Wit.sys, 0, BitVec.ofNat 64 (Wit.sys.csAddr 8), 4, false, 8, runs_of, by decide +kernel⟩,
  ⟨Wit.sys, 0, BitVec.ofNat 64 (Wit.sys.csAddr 8), 4, 1, false, 8, runs_of, by decide +kernel⟩,
  ⟨Wit.sys, Wit.me, 0xFFFFFFF8, 7, issues_of, by decide +kernel⟩,
  ⟨Wit.sys, 0, BitVec.ofNat 64 (Wit.sys.csAddr 0xFFFFFFF8), false, 0xFFFFFFF8, runs_of, by decide +kernel⟩,
  ⟨Wit.sys, 0, BitVec.ofNat 64 (Wit.sys.csAddr 0xFFFFFFF8), 7, false, 0xFFFFFFF8, runs_of, by decide +kernel⟩,
  ⟨Wit.sys, Wit.me, 0xF8, 7, reaches_of, by decide +kernel⟩,
  ⟨Wit.sys, 0, BitVec.ofNat 64 (Wit.sys.csAddr 0xF8), false, 0xF8, 0, 1, runs_of, reaches_of, by decide +kernel⟩⟩

/-- States and operands that meet the hypotheses of each clause of Obligations.AddressRange. -/
theorem test_AddressRange_hyps :
  (∃ (s : State) (c : Core) (va : Word) (size : Nat) (user : Bool), s.Runs c ∧ 2 ^ 52 ≤ va.toNat) ∧
  (∃ (s : State) (c : Core) (va : Word) (size : Nat) (v : Line) (user : Bool), s.Runs c ∧ 2 ^ 52 ≤ va.toNat) ∧
  (∃ (s : State) (c : Core) (va : Word) (op size : Nat) (x y : BitVec 128) (user : Bool), s.Runs c ∧ 2 ^ 52 ≤ va.toNat) ∧
  (∃ (s : State) (c : Core) (va : Word) (user : Bool), s.Runs c ∧ 2 ^ 52 ≤ va.toNat) ∧
  (∃ (s : State) (c : Core) (va : Word) (size : Nat) (user : Bool), s.Runs c ∧ 2 ^ 52 ≤ va.toNat) :=
  ⟨⟨Wit.sys, 0, 0x10000000000000, 8, false, runs_of, by decide +kernel⟩,
  ⟨Wit.sys, 0, 0x10000000000000, 8, 3, false, runs_of, by decide +kernel⟩,
  ⟨Wit.sys, 0, 0x10000000000000, 1, 8, 3, 0, false, runs_of, by decide +kernel⟩,
  ⟨Wit.sys, 0, 0x10000000000000, false, runs_of, by decide +kernel⟩,
  ⟨Wit.sys, 0, 0x10000000000000, 8, false, runs_of, by decide +kernel⟩⟩

/-- States and operands that meet the hypotheses of each clause of Obligations.TrainingRegistersOwner. -/
theorem test_TrainingRegistersOwner_hyps :
  (∃ (s : State) (who : Sender) (off : Fin (2 ^ 32)) (v : Word) (c rel : Nat), s.Issues who.who ∧ (∀ l ∈ s.csLinks who.who .mc c rel true,
    s.linkCarries l = true) ∧ off.val % 8 = 0 ∧ locate off = some (.mc, c, rel) ∧ (regAt off).isSome = true ∧ 0x1000 ≤ rel ∧ rel < 0x2000 ∧ (∀ h,
    who = .service h → h.val ≠ c / 8) ∧ (s.whoPart who.who ≠ 0 → s.partFenced (s.whoPart who.who) = false)) ∧
  (∃ (s : State) (c : Chan) (v : Word), s.chState c = 4) ∧
  (∃ (s : State) (c : Chan) (v : Word), s.chState c = 4) ∧
  (∃ (s : State) (c : Chan) (v : Word), s.chState c = 4) :=
  ⟨⟨Wit.mem, Wit.me, ⟨R.TRN_CTL 3, by decide⟩, 7, 3, 0x1000, issues_of, by decide +kernel⟩,
  ⟨Wit.mem, 0, (F.TRN_CTL_LINES.set (F.TRN_CTL_PATTERN.set 0 2) 1), by decide +kernel⟩,
  ⟨Wit.mem, 0, (F.TRN_CTL_LINES.set (F.TRN_CTL_PATTERN.set 0 2) 1), by decide +kernel⟩,
  ⟨Wit.mem, 0, (F.TRN_CTL_LINES.set (F.TRN_CTL_PATTERN.set 0 2) 1), by decide +kernel⟩⟩

/-- States and operands that meet the hypotheses of each clause of Obligations.RingControlRules. -/
theorem test_RingControlRules_hyps :
  (∃ (s : State) (who : Sender) (r : Ring) (v : Word), s.Admitted who.who (R.RING_CTL r) true ∧ s.f (R.RING_CTL r) F.RING_CTL_EN = 0 ∧
    F.RING_CTL_EN.get v = 1) ∧
  (∃ (s : State) (who : Sender) (r : Ring) (v : Word), s.Admitted who.who (R.RING_CTL r) true ∧ F.RING_CTL_EN.get v = 0) ∧
  (∃ (s : State) (who : Sender) (r : Ring) (off : Fin (2 ^ 32)) (v : Word), s.Admitted who.who (R.RING_BASE r) true ∧ off.val = R.RING_BASE r ∧ s.f
    (R.RING_CTL r) F.RING_CTL_EN = 1) ∧
  (∃ (s : State) (who : Sender) (r : Ring) (off : Fin (2 ^ 32)) (v : Word), s.Admitted who.who (R.RING_BASE r) true ∧ off.val = R.RING_BASE r ∧ s.f
    (R.RING_CTL r) F.RING_CTL_EN = 0) ∧
  (∃ (s : State) (who : Sender) (r : Ring) (v : BitVec 16), s.Admitted who.who (R.RING_TAIL r) true ∧ 256 < (v.toNat + 65536 - s.f (R.RING_HEAD r)
    F.RING_HEAD_HEAD) % 65536) ∧
  (∃ (s : State) (r : Ring) (m q : CMsg), s.Answers r { m with op := .busErr } q ∧ s.agentQ r = [q] ∧ q.fwd.pkg = A_FETCH ∧ s.missOf m = none ∧
    s.directOf m = none ∧ s.links.ioOld = []) :=
  ⟨⟨((Wit.sys.setF (R.PART_INFO 1) F.PART_INFO_RINGS 1).setF (R.RING_HEAD 4) F.RING_HEAD_HEAD 5).setF (R.RING_TAIL 4) F.RING_TAIL_TAIL 9, Wit.me,
    4, 1, admitted_of, by decide +kernel⟩,
  ⟨(Wit.ring (default : DescH)).setF (R.RING_CTL 4) F.RING_CTL_EN 1, Wit.me, 4, 0, admitted_of, by decide +kernel⟩,
  ⟨(Wit.ring (default : DescH)).setF (R.RING_CTL 4) F.RING_CTL_EN 1, Wit.me, 4, ⟨R.RING_BASE 4, by decide⟩, 0xFFFFFFFFFFFF, admitted_of, by
    decide +kernel⟩,
  ⟨Wit.ring (default : DescH), Wit.me, 4, ⟨R.RING_BASE 4, by decide⟩, 0xFFFFFFFFFFFF, admitted_of, by decide +kernel⟩,
  ⟨(Wit.ring (default : DescH)).setF (R.RING_CTL 4) F.RING_CTL_EN 1, Wit.me, 4, 300, admitted_of, by decide +kernel⟩,
  ⟨(Wit.ring (default : DescH)).setAgentQ 4 [Wit.piece A_FETCH 5], 4, Wit.reply, Wit.piece A_FETCH 5, answers_of, by decide +kernel⟩⟩

/-- States and operands that meet the hypotheses of each clause of Obligations.LateCompletions. -/
theorem test_LateCompletions_hyps :
  (∃ (s : State) (k : Fin 32) (tag : Fin 1024) (st : Fin 8) (d : Line), (s.seg k).out.find? (fun r => r.tag = tag.val) = none ∧ tag.val ∈ (s.seg
    k).quarantine) ∧
  (∃ (s : State) (k : Fin 32) (tag : Fin 1024) (st : Fin 8) (d : Line), (s.seg k).out.find? (fun r => r.tag = tag.val) = none ∧ tag.val ∉ (s.seg
    k).quarantine) ∧
  (∃ (s : State) (k : Fin 32) (who : Sender), s.Admitted who.who (R.CFG_DATA (k / 4) (k % 4)) false ∧ s.freeTag k = none ∧ s.ltssm k = 3 ∧ s.f
    (rCfgAddr k) F.CFG_ADDR_BUS = s.f (rSegCtl k) F.SEG_CTL_SEC_BUS ∧ s.f (rCfgAddr k) F.CFG_ADDR_DEV = 0) :=
  ⟨⟨(Wit.pci.updSeg 0 fun g => { g with quarantine := [5] }), 0, 5, 0, 9, by decide +kernel⟩,
  ⟨Wit.pci, 0, 5, 0, 9, by decide +kernel⟩,
  ⟨(Wit.pci.updSeg 0 fun g => { g with quarantine := List.range 1024 }).setF (R.CFG_ADDR 0 0) F.CFG_ADDR_BUS 1, 0, Wit.me, admitted_of,
    freeTag_full (by decide +kernel), by decide +kernel⟩⟩

/-- States and operands that meet the hypotheses of Obligations.PlainRegisterWrites. -/
theorem test_PlainRegisterWrites_hyps :
  ∃ (s : State) (who : Sender) (off : Fin (2 ^ 32)) (v : Word) (n : Nat) (ix : List Nat) (r : RegRow), s.Admitted who.who off true ∧ regAt off =
    some (.pkg, n, ix, r) :=
  ⟨(Wit.sys.setReg 0x20 7), Wit.me, 0x20, 0x4, 0, [], ((regAt 0x20).map (·.2.2.2) |>.getD default), admitted_of, by decide +kernel⟩

/-- States and operands that meet the hypotheses of each clause of Obligations.CoreAccesses. -/
theorem test_CoreAccesses_hyps :
  (∃ (s : State) (c : Core) (va : Word) (size w : Nat) (user spec : Bool) (x : Sector), s.Runs c ∧ s.f (R.XLAT_CTL c) F.XLAT_CTL_EN = 0 ∧ isDram
    va.toNat = true ∧ va.toNat < 2 ^ 52 ∧ s.undecoded va.toNat = none ∧ s.l1Find c false (va.toNat / 64) = some (w, x) ∧ s.cmoHeld c (va.toNat /
    64) false = false) ∧
  (∃ (s : State) (c : Core) (va : Word) (w : Nat) (user spec : Bool) (x : Sector), s.Runs c ∧ s.f (R.XLAT_CTL c) F.XLAT_CTL_EN = 0 ∧ isDram
    va.toNat = true ∧ va.toNat < 2 ^ 52 ∧ s.undecoded va.toNat = none ∧ s.l1Find c true (va.toNat / 64) = some (w, x) ∧ s.cmoHeld c (va.toNat / 64)
    true = false) ∧
  (∃ (s : State) (c : Core) (va : Word) (size : Nat) (v : Line) (user : Bool) (l : DcLine), s.Runs c ∧ s.f (R.XLAT_CTL c) F.XLAT_CTL_EN = 0 ∧
    isDram va.toNat = true ∧ va.toNat < 2 ^ 52 ∧ s.undecoded va.toNat = none ∧ s.isTwin (s.corePart c) = false ∧ s.dcHit (dieOf c) (va.toNat / 64)
    (s.corePart c) = some l ∧ (l.coh = .m ∨ l.coh = .e) ∧ l.presence = 0 ∧ s.l1Find c false (va.toNat / 64) = none ∧ s.f (R.L1_CTL c) F.L1_CTL_EN =
    0 ∧ s.cmoHeld c (va.toNat / 64) false = false) ∧
  (∃ (s : State) (c : Core) (va : Word) (op size : Nat) (arg arg2 : BitVec 128) (user : Bool), s.Runs c ∧ s.f (R.XLAT_CTL c) F.XLAT_CTL_EN = 0 ∧
    isDram va.toNat = true ∧ va.toNat < 2 ^ 52 ∧ s.undecoded va.toNat = none ∧ s.paired (s.corePart c) c = false ∧ s.l1Find c false (va.toNat / 64)
    = none ∧ s.f (R.ATOM_POLICY (hubOfDie (dieOf c))) F.ATOM_POLICY_POLICY / 4 ^ s.corePart c % 4 = 2 ∧ s.cmoHeld c (va.toNat / 64) false = false ∧
    s.inWb (dieOf c) (va.toNat / 64) = false) ∧
  (∃ (s : State) (c : Core) (n : Fin 2) (w : Walk) (d : Word), s.Inv ∧ (s.xlat.walks.find? fun v => v.core = c.val && v.n = n.val && v.got.isSome)
    = some w ∧ w.got = some (some d) ∧ lV d = true ∧ descCheck w.level d = 0 ∧ lLeaf d = false ∧ (s.descDecode (descAddr (lAddr d) w.va (w.level +
    1))).1 = 0) ∧
  (∃ (s : State) (pkg : Pkg), s.Inv) :=
  ⟨⟨(Wit.mem.onCache fun k =>
    { k with l1d := [(blkKey 0 0 0, { used := true, tag := l1Tag 0 })], l1dS := [(secKey 0 0 0, { valid := true, dirty := false, data := 77 })] }),
    0, 0, 8, (secKey 0 0 0), false, false, { valid := true, dirty := false, data := 77 }, runs_of, by decide +kernel⟩,
  ⟨(Wit.mem.onCache fun k =>
    { k with l1i := [(blkKey 0 0 0, { used := true, tag := l1Tag 0 })], l1iS := [(secKey 0 0 0, { valid := true, dirty := false, data := 77 })] }),
    0, 60, (secKey 0 0 0), false, false, { valid := true, dirty := false, data := 77 }, runs_of, by decide +kernel⟩,
  ⟨((Wit.mem.onCache fun k =>
    { k with dc := [(dcKey 0 (dcSetOf 1) 0, { line := 1, coh := .e, part := 1, presence := 0, data := 5, clean := false })] }).setF (R.L1_CTL 0)
    F.L1_CTL_EN 0), 0, 0x48, 8, 7, false, { line := 1, coh := .e, part := 1, presence := 0, data := 5, clean := false }, runs_of, by
    decide +kernel⟩,
  ⟨(Wit.mem.setReg (R.ATOM_POLICY 0) 8), 0, 0x48, 0, 8, 7, 0, false, runs_of, by decide +kernel⟩,
  ⟨(Wit.mem.onXlat fun x => { x with walks := [{ (default : Walk) with core := 0, n := 1, va := 0x1000, level := 0, got := some (some 1) }] }), 0,
    1, { (default : Walk) with core := 0, n := 1, va := 0x1000, level := 0, got := some (some 1) }, 1, inv_of, by decide +kernel⟩,
  ⟨(Wit.sys.setReg R.REST_STAT 0xFFFFFFFFFFFFFFFF), 7, inv_of⟩⟩

/-- States and operands that meet the hypotheses of each clause of Obligations.CacheControls. -/
theorem test_CacheControls_hyps :
  (∃ (s : State) (who : Sender) (blk : Core) (level : Fin 4) (user : Bool) (c : Nat), s.Admitted who.who (R.CMO_ISSUE blk) true ∧ c < 240 ∧
    s.ownBlk who.who blk = some c ∧ s.f (R.CMO_STAT c) F.CMO_STAT_BUSY = 0 ∧ (∀ k ∈ s.cmoCores c, s.accsOut k (fun _ => true) = false)) ∧
  (∃ (s : State) (who : Sender) (blk : Core) (level : Fin 4) (user : Bool) (c : Nat), s.Admitted who.who (R.CMO_ISSUE blk) true ∧ c < 240 ∧
    s.ownBlk who.who blk = some c ∧ s.f (R.CMO_STAT c) F.CMO_STAT_BUSY = 0 ∧ (∀ k ∈ s.cmoCores c, s.accsOut k (fun _ => true) = false)) ∧
  (∃ (s : State) (who : Sender) (blk : Core) (level : Fin 4) (user : Bool) (c : Nat), s.Admitted who.who (R.CMO_ISSUE blk) true ∧ c < 240 ∧
    s.ownBlk who.who blk = some c ∧ s.f (R.CMO_STAT c) F.CMO_STAT_BUSY = 0 ∧ (∀ k ∈ s.cmoCores c, s.accsOut k (fun _ => true) = false)) ∧
  (∃ (s : State) (c : Core), s.f (R.CMO_STAT c) F.CMO_STAT_BUSY = 1 ∧ 13 ≤ s.f (R.CMO_STAT c) F.CMO_STAT_WALK_CMD ∧ s.f (R.CMO_STAT c)
    F.CMO_STAT_WALK_CMD ≤ 15 ∧ s.paired (s.corePart c) c = false ∧ (∀ o ∈ s.cache.cmoOut, o.walk = true → o.core ≠ c.val)) ∧
  (∃ (s : State) (who : Sender) (c : Core) (en : Bool), s.Admitted who.who (R.L1_CTL c) true ∧ s.isTwin (s.corePart c) = false) ∧
  (∃ (s : State) (who : Sender) (d : Die) (en : Bool), s.Admitted who.who (R.DC_CTL d) true ∧ (∀ c ∈ coresOfDie d, s.coreState c = 0 ∨ s.corePart c
    = s.whoPart who.who)) ∧
  (∃ (s : State) (c : Core) (set way : Nat) (sector : Fin 4) (correctable : Bool), way < 32 ∧ s.cache.l0.get (c * 32 + way) ≠ 0) ∧
  (∃ (s : State) (who : Sender) (c : Core) (en : Bool), s.Admitted who.who (R.XLAT_CTL c) true ∧ s.ownBlk who.who c = some c.val ∧ s.isTwin
    (s.corePart c) = false) ∧
  (∃ (s : State) (who : Sender) (c : Core) (v : Word), s.Admitted who.who (R.XLAT_BASE c) true ∧ s.ownBlk who.who c = some c.val ∧ s.isTwin
    (s.corePart c) = false) :=
  ⟨⟨Wit.sys, Wit.me, 0, 1, true, 0, admitted_of, by decide +kernel⟩,
  ⟨Wit.sys, Wit.me, 0, 1, true, 0, admitted_of, by decide +kernel⟩,
  ⟨Wit.sys, Wit.me, 0, 1, true, 0, admitted_of, by decide +kernel⟩,
  ⟨(((Wit.sys.setF (R.CMO_STAT 0) F.CMO_STAT_BUSY 1).setF (R.CMO_STAT 0) F.CMO_STAT_WALK_CMD 14).onCache fun k => { k with l0 := [(3, 9)] }), 0, by
    decide +kernel⟩,
  ⟨Wit.sys, Wit.me, 0, false, admitted_of, by decide +kernel⟩,
  ⟨Wit.sys, Wit.me, 0, false, admitted_of, by decide +kernel⟩,
  ⟨(Wit.sys.onCache fun k => { k with l0 := [(31, 9)] }), 0, 0, 31, 0, false, by decide +kernel⟩,
  ⟨Wit.sys, Wit.me, 0, true, admitted_of, by decide +kernel⟩,
  ⟨Wit.sys, Wit.me, 0, 0xABCD000012345678, admitted_of, by decide +kernel⟩⟩

/-- States and operands that meet the hypotheses of each clause of Obligations.TlbInvalidations. -/
theorem test_TlbInvalidations_hyps :
  (∃ (s : State) (who : Sender) (c : Core) (va : Fin (2 ^ 40)) (asid : BitVec 16), s.Admitted who.who (R.TLBI_ISSUE c) true ∧ s.ownBlk who.who c =
    some c.val ∧ s.isTwin (s.corePart c) = false ∧ (∀ w ∈ s.xlat.walks, w.core ≠ c.val) ∧ s.storesOut c = false ∧ s.tlbiBusy c 1 (va.val * 4096) =
    false) ∧
  (∃ (s : State) (who : Sender) (c : Core) (va : Fin (2 ^ 40)), s.Admitted who.who (R.TLBI_ISSUE c) true ∧ s.ownBlk who.who c = some c.val ∧
    s.isTwin (s.corePart c) = false ∧ (∀ w ∈ s.xlat.walks, w.core ≠ c.val) ∧ s.storesOut c = false ∧ s.tlbiBusy c 2 (va.val * 4096) = false) ∧
  (∃ (s : State) (who : Sender) (c : Core) (asid : BitVec 16), s.Admitted who.who (R.TLBI_ISSUE c) true ∧ s.ownBlk who.who c = some c.val ∧
    s.isTwin (s.corePart c) = false ∧ (∀ w ∈ s.xlat.walks, w.core ≠ c.val) ∧ s.storesOut c = false ∧ s.tlbiBusy c 3 0 = false) ∧
  (∃ (s : State) (who : Sender) (c : Core), s.Admitted who.who (R.TLBI_ISSUE c) true ∧ s.ownBlk who.who c = some c.val ∧ s.isTwin (s.corePart c) =
    false ∧ (∀ w ∈ s.xlat.walks, w.core ≠ c.val) ∧ s.storesOut c = false ∧ s.tlbiBusy c 4 0 = false) ∧
  (∃ (s : State) (c src : Core) (asid : BitVec 16) (p : Sys2Proof.Part), s.pkg < 8 ∧ .tlbi s.pkg c 4 0 asid.toNat p ∈ s.sent ∧ s.alive c = true ∧
    s.corePart c = p ∧ s.isTwin p = false ∧ (∀ w ∈ s.xlat.walks, w.core ≠ c.val) ∧ s.tlbiBusy c 4 0 = false) ∧
  (∃ (s : State) (who : Sender) (c : Core), s.Admitted who.who (R.TLBI_SYNC c) true ∧ s.ownBlk who.who c = some c.val) ∧
  (∃ (s : State) (c : Core), (s.coreH c).syncWait = true ∧ s.tlbisOf c = [] ∧ (s.coreH c).tlbiStall = [] ∧ s.sharers c = [c.val]) :=
  ⟨⟨(Wit.sys.onXlat fun x => { x with l1 := [(5, { (default : TlbEnt) with valid := true, part := 1, asid := 7, va := 0x1000, bits := 12 })] }),
    Wit.me, 0, 1, 7, admitted_of, by decide +kernel⟩,
  ⟨(Wit.sys.onXlat fun x => { x with l1 := [(5, { (default : TlbEnt) with valid := true, part := 1, asid := 7, va := 0x1000, bits := 12 })] }),
    Wit.me, 0, 1, admitted_of, by decide +kernel⟩,
  ⟨(Wit.sys.onXlat fun x => { x with l1 := [(5, { (default : TlbEnt) with valid := true, part := 1, asid := 7, va := 0x1000, bits := 12 })] }),
    Wit.me, 0, 7, admitted_of, by decide +kernel⟩,
  ⟨(Wit.sys.onXlat fun x => { x with l1 := [(5, { (default : TlbEnt) with valid := true, part := 1, asid := 7, va := 0x1000, bits := 12 })] }),
    Wit.me, 0, admitted_of, by decide +kernel⟩,
  ⟨{ (Wit.sys.onXlat fun x => { x with tlbis := [{ core := 0, op := 4, va := 0, asid := 0, part := 1, todo := [(0, 1)], loc := false }] }) with sent := [.tlbi 0 1 4 0 0 1] },
    1, 0, 0, 1, by decide +kernel⟩,
  ⟨(Wit.sys.onXlat fun x => { x with tlbis := [{ core := 0, op := 4, va := 0, asid := 0, part := 1, todo := [(0, 1)], loc := false }] }), Wit.me,
    0, admitted_of, by decide +kernel⟩,
  ⟨(Wit.sys.updCoreH 0 fun h => { h with syncWait := true }), 0, by decide +kernel⟩⟩

/-- States and operands that meet the hypotheses of each clause of Obligations.BeatCommands. -/
theorem test_BeatCommands_hyps :
  (∃ (s : State) (temps : List Nat) (ests : List (List Nat)) (agree : Bool), s.Inv ∧ s.beat.running = true ∧ s.beat.heardFrom = [] ∧ s.beat.adopt =
    none) ∧
  (∃ (s : State) (p : FabPort) (w : Word) (ps : Int), bits w 0 4 = 1 ∧ s.linkActive p = true ∧ s.beat.running = true) ∧
  (∃ (s : State) (p : FabPort), s.linkActive p = true) ∧
  (∃ (s : State), s.isIn = true ∧ s.isMaster = false ∧ 16 ≤ s.beat.over20 ∧ s.beat.selfFenced = false) :=
  ⟨⟨Wit.sys, [], [], true, inv_of, by decide +kernel⟩,
  ⟨(Wit.sys.setF (R.LINK_STAT 3) F.LINK_STAT_STATE 5), 3, 0xC01, 25, by decide +kernel⟩,
  ⟨(Wit.sys.setF (R.LINK_STAT 3) F.LINK_STAT_STATE 5), 3, by decide +kernel⟩,
  ⟨{ Wit.slave with beat := { Wit.slave.beat with over20 := 16 } }, by decide +kernel⟩⟩

/-- States and operands that meet the hypotheses of each clause of Obligations.PealProtocol. -/
theorem test_PealProtocol_hyps :
  (∃ (s : State) (target : Nat) (kind : Fin 16) (body : List Byte) (arg : Nat) (src : Pkg), src.val = s.pkg ∧ s.isMaster = false) ∧
  (∃ (s : State) (target : Nat) (kind : Fin 16) (body : List Byte) (arg : Nat) (src : Pkg) (code : Fin 16), 3 ≤ code.val ∧ code.val ≤ 5 ∧ src.val =
    s.pkg ∧ .pealReq s.master target { kind := kind, body := body, arg := arg } ∈ s.sent) ∧
  (∃ (s : State) (u : Fin 15) (seq target : Nat) (kind : Fin 16) (body : List Byte) (arg i : Nat) (agree : Bool) (p : PealSlot), u.val < 12 ∧
    s.armKnown u seq target { kind := kind, body := body, arg := arg } = true ∧ s.now < target ∧ s.pealOf seq = some (i, p) ∧ s.takesPart p u =
    true) ∧
  (∃ (s : State) (u : Fin 15) (seq i : Nat) (p : PealSlot), s.sentBy (.peal s.pkg u seq 2 true) = true ∧ s.pealOf seq = some (i, p) ∧ s.now + 2 <
    p.target ∧ p.valid = true ∧ s.beat.slots.get i = p ∧ u.val ∈ p.waiting) ∧
  (∃ (s : State) (src : Pkg) (seq i : Nat) (p : PealSlot), s.isMaster = true ∧ src.val ≠ s.pkg ∧ s.beat.isolated = false ∧ s.locked = false ∧
    s.pealOf seq = some (i, p) ∧ s.now + 1 < p.target) ∧
  (∃ (s : State) (u : Fin 15) (seq i : Nat) (ok : Bool) (cp : Pkg) (cu : Fin 15) (p : PealSlot), u.val < 12 ∧ s.sentBy (.peal s.pkg u seq 4 ok) =
    true ∧ s.pealOf seq = some (i, p) ∧ s.now < p.target ∧ s.takesPart p u = true) ∧
  (∃ (s : State) (src : Pkg) (h : Digest) (n beat : Nat), s.others.contains src.val = true ∧ s.beat.heardFrom.contains src.val = false ∧
    s.beat.heardFrom ≠ [] ∧ beat = s.now ∧ s.admitted.all (addOnce s.beat.heardFrom src.val).contains = false) :=
  ⟨⟨Wit.slave, 5000, 1, [], 0, 1, by decide +kernel⟩,
  ⟨(Wit.slave.send (.pealReq 0 5000 { kind := 1, body := [], arg := 0 })), 5000, 1, [], 0, 1, 3, by decide +kernel⟩,
  ⟨({ Wit.two with sent := [.pealArm 0 0 5 2000 { kind := 1, body := [], arg := 0 }] }.setSlot 3
    { (default : PealSlot) with valid := true, seq := 5, target := 2000, waiting := [0], units := [0] }), 0, 5, 2000, 1, [], 0, 3, true,
    { (default : PealSlot) with valid := true, seq := 5, target := 2000, waiting := [0], units := [0] }, by decide +kernel⟩,
  ⟨({ Wit.two with sent := [.peal 0 0 5 2 true] }.setSlot 3
    { (default : PealSlot) with valid := true, seq := 5, target := 2000, waiting := [0, 12] }), 0, 5, 3,
    { (default : PealSlot) with valid := true, seq := 5, target := 2000, waiting := [0, 12] }, by decide +kernel⟩,
  ⟨(Wit.two.setSlot 3 { (default : PealSlot) with valid := true, seq := 5, target := 2000, waitPkgs := [1] }), 1, 5, 3,
    { (default : PealSlot) with valid := true, seq := 5, target := 2000, waitPkgs := [1] }, by decide +kernel⟩,
  ⟨({ Wit.two with sent := [.peal 0 0 5 4 true] }.setSlot 3 { (default : PealSlot) with valid := true, seq := 5, target := 2000, units := [0] }),
    0, 5, 3, true, 0, 0, { (default : PealSlot) with valid := true, seq := 5, target := 2000, units := [0] }, by decide +kernel⟩,
  ⟨{ (Wit.two.setF R.SYS_STAT F.SYS_STAT_ADMITTED 7) with beat := { Wit.two.beat with heardFrom := [0] } }, 1, 9, 4, 1000, by decide +kernel⟩⟩

/-- States and operands that meet the hypotheses of each clause of Obligations.CoresAndTwins. -/
theorem test_CoresAndTwins_hyps :
  (∃ (s : State) (c : Core), s.coreState c = 2 ∧ (s.coreH c).retries < 3) ∧
  (∃ (s : State) (c : Fin 120) (kind : Nat) (addr : Word) (size : Nat) (attr : Attr) (mask : Mask) (data : Line) (retired : Nat) (user : Bool),
    s.pairRuns c = true ∧ s.coreBlocked c = false ∧ s.accsOut c (fun _ => true) = false ∧ (s.cores.twins.get c).lowerMsg = none ∧
    (s.cores.twins.get c).upperMsg = none) ∧
  (∃ (s : State) (c : Fin 120) (a : TwinMsg), (s.cores.twins.get c).lowerMsg = some a ∧ (s.cores.twins.get c).upperMsg = none ∧ (s.cores.twins.get
    c).mismatched = false) ∧
  (∃ (s : State) (c : Fin 120) (n : Nat) (i : TwinInput), s.firstInput c = some i ∧ i.kind = 0 ∧ i.d ≤ n ∧ (∀ q ∈ (s.coreH c).pend, q.vec ≠ i.arg)) ∧
  (∃ (s : State) (c : Core) (n : Nat) (i : TwinInput), s.firstInput c = some i ∧ n < i.d) ∧
  (∃ (s : State) (c : Fin 120) (n : Nat) (sig : Word) (ra rb : Nat), (s.cores.twins.get c).stateCmp = some n ∧ (s.cores.twins.get c).rejoin = none
    ∧ s.pairRuns c = true) ∧
  (∃ (s : State) (who : Sender) (c : Core), s.Admitted who.who (R.CORE_CTL c) true ∧ s.isTwin (s.corePart c) = false ∧ s.coreState c = 1) ∧
  (∃ (s : State) (who : Sender) (c : Core), s.Admitted who.who (R.CORE_CTL c) true ∧ s.isTwin (s.corePart c) = false ∧ s.atCompare (mirror c) =
    false ∧ s.coreState c = 2) :=
  ⟨⟨Wit.sys, 0, by decide +kernel⟩,
  ⟨Wit.twin, 0, 1, 0x1000, 8, .wb, 0, 5, 77, true, by decide +kernel⟩,
  ⟨(Wit.twin.onCores fun k =>
    { k with twins := k.twins.put 0 { (default : TwinH) with lowerMsg := some { (default : TwinMsg) with retired := 5 } } }), 0,
    { (default : TwinMsg) with retired := 5 }, by decide +kernel⟩,
  ⟨(Wit.twin.onCores fun k =>
    { k with twins := k.twins.put 0 { (default : TwinH) with inputs := [{ d := 9, kind := 0, arg := 40, prio := 3, rsv := true, upd := none, lower := true, upper := true }, { d := 4, kind := 0, arg := 41, prio := 3, rsv := false, upd := none, lower := false, upper := true }] } }),
    0, 9, { d := 9, kind := 0, arg := 40, prio := 3, rsv := true, upd := none, lower := true, upper := true }, by decide +kernel⟩,
  ⟨(Wit.twin.onCores fun k =>
    { k with twins := k.twins.put 0 { (default : TwinH) with inputs := [{ d := 9, kind := 0, arg := 40, prio := 3, rsv := true, upd := none, lower := true, upper := true }, { d := 4, kind := 0, arg := 41, prio := 3, rsv := false, upd := none, lower := false, upper := true }] } }),
    0, 8, { d := 9, kind := 0, arg := 40, prio := 3, rsv := true, upd := none, lower := true, upper := true }, by decide +kernel⟩,
  ⟨(Wit.twin.onCores fun k => { k with twins := k.twins.put 0 { (default : TwinH) with stateCmp := some 4, mismatched := true } }), 0, 4, 17, 5, 6,
    by decide +kernel⟩,
  ⟨(Wit.sys.setF (R.CORE_START_PC 1) F.CORE_START_PC_PC 64), Wit.me, 1, admitted_of, by decide +kernel⟩,
  ⟨Wit.sys, Wit.me, 0, admitted_of, by decide +kernel⟩⟩

/-- States and operands that meet the hypotheses of each clause of Obligations.CarillonAndCounters. -/
theorem test_CarillonAndCounters_hyps :
  (∃ (s : State) (c : Core) (n : Fin 8), s.pmuRuns c n = true) ∧
  (∃ (s : State) (p : Sys2Proof.Part) (v : Fin 2048) (src : Option Core) (late up : Bool) (ew : Option (Pkg × Core)), .source p v (src.map (·.val))
    ∈ s.sent ∧ noSource v = false ∧ s.f (R.CAR_CTL p) F.CAR_CTL_EN = 1 ∧ s.f (R.CAR_VEC p v) F.CAR_VEC_EN = 1 ∧ s.f (R.CAR_VEC p v) F.CAR_VEC_MASK
    = 1) ∧
  (∃ (s : State) (c : Core) (p : Sys2Proof.Part), .runNotice s.pkg c p ∈ s.sent ∧ s.pkg < 8 ∧ s.latchedOf p = []) ∧
  (∃ (s : State) (c : Core) (q : PendVec), s.Admitted (s.selfWho c) (R.INT_ACK c) false ∧ s.pkg < 8 ∧ s.sharers c = [c.val] ∧ s.presented c = some
    q) ∧
  (∃ (s : State) (c : Core) (v : Fin 2048), s.Admitted (s.selfWho c) (R.INT_EOI c) true ∧ s.sharers c = [c.val] ∧ (bestVec (s.coreH c).active).map
    (·.vec) = some v.val) ∧
  (∃ (s : State) (c : Core) (v : Fin 2048) (tgt : Core), s.Admitted (s.selfWho c) (R.INT_IPI c) true ∧ s.pkg < 8 ∧ 32 ≤ v.val ∧ s.corePart tgt =
    s.corePart c ∧ s.f (R.CAR_CTL (s.corePart c)) F.CAR_CTL_EN = 1 ∧ s.f (R.CAR_VEC (s.corePart c) v) F.CAR_VEC_EN = 1 ∧ s.f (R.CAR_VEC (s.corePart
    c) v) F.CAR_VEC_MASK = 1 ∧ s.isTwin (s.corePart c) = false) ∧
  (∃ (s : State) (who : Sender) (p : Sys2Proof.Part) (v : Fin 2048) (x : Word), s.Admitted who.who (R.CAR_VEC p v) true ∧ s.f (R.CAR_VEC p v)
    F.CAR_VEC_LATCHED = 0 ∧ s.f (R.CAR_VEC p v) F.CAR_VEC_MASK = 0) :=
  ⟨⟨(((Wit.sys.setF (R.PMU_CTL 0 7) F.PMU_CTL_SUPER 1).setF (R.PMU_CTL 0 7) F.PMU_CTL_EN 1).setF (R.PMU_CTL 0 7) F.PMU_CTL_EVENT 1).setF (R.PMU_CTL
    0 7) F.PMU_CTL_OVF_INT 1, 0, 7, by decide +kernel⟩,
  ⟨(((Wit.sys.send (.source 1 2047 none)).setReg (R.CAR_VEC 1 2047) 3).setF (R.CAR_CTL 1) F.CAR_CTL_EN 1), 1, 2047, none, false, false, none, by
    decide +kernel⟩,
  ⟨(Wit.sys.send (.runNotice 0 0 1)), 0, 1, by decide +kernel⟩,
  ⟨((Wit.sys.setF (R.INT_CTL 0) F.INT_CTL_EN 1).updCoreH 0 fun h => { h with pend := [{ vec := 40, prio := 3, rsv := false }] }), 0,
    { vec := 40, prio := 3, rsv := false }, admitted_of, by decide +kernel⟩,
  ⟨(Wit.sys.updCoreH 0 fun h => { h with active := [{ vec := 2047, prio := 3, rsv := false }] }), 0, 2047, admitted_of, by decide +kernel⟩,
  ⟨((Wit.sys.setReg (R.CAR_VEC 1 32) 3).setF (R.CAR_CTL 1) F.CAR_CTL_EN 1), 0, 32, 1, admitted_of, by decide +kernel⟩,
  ⟨Wit.sys, Wit.me, 1, 2047, 0x12341, admitted_of, by decide +kernel⟩⟩

/-- States and operands that meet the hypotheses of each clause of Obligations.FabricAndDieLinks. -/
theorem test_FabricAndDieLinks_hyps :
  (∃ (s : State) (mesh : Fin 14) (x y dx dy : Fin 4) (vc : Fin 8) (form : Fin 4) (dir : Nat) (m : CMsg), s.meshUp mesh y = true ∧ s.exitRouter mesh
    m = (dx.val, dy.val) ∧ vc.val = vcOf m ∧ form.val ∈ formsOf m ∧ form.val ≠ 2 ∧ s.unpassed m = false ∧ s.standsAt mesh (x.val, y.val) form m =
    true ∧ (form.val = 1 → s.srcFenced m = false) ∧ s.maskedDrop mesh vc m = none ∧ routeDir x y dx dy = some dir ∧ s.heldFor (meshLink mesh x y
    dir) vc = none ∧ s.creditFree (meshLink mesh x y dir) vc = true) ∧
  (∃ (s : State) (mesh : Fin 14) (x y : Fin 4) (vc : Fin 8) (m : CMsg), s.meshUp mesh y = true ∧ s.goalOf mesh 0 m = (x.val, y.val) ∧ s.exitLink
    mesh m = none ∧ vc.val = vcOf m ∧ formsOf m = [0] ∧ s.unpassed m = false ∧ s.standsAt mesh (x.val, y.val) 0 m = true ∧ s.maskedDrop mesh vc m =
    none) ∧
  (∃ (s : State) (mesh : Fin 14) (x y dx dy : Fin 4) (vc : Fin 8) (dir : Nat) (m : CMsg), s.meshUp mesh y = true ∧ s.exitRouter mesh m = (dx.val,
    dy.val) ∧ vc.val = vcOf m ∧ 2 ∈ formsOf m ∧ s.unpassed m = false ∧ .coh m ∈ s.sent ∧ s.maskedDrop mesh vc m = none ∧ routeDir x y dx dy = some
    dir ∧ s.heldFor (meshLink mesh x y dir) vc = some m ∧ s.creditFree (meshLink mesh x y dir) vc = true) ∧
  (∃ (s : State) (mesh : Fin 14) (x y dx dy : Fin 4) (vc : Fin 8) (dir : Nat) (m k : CMsg), k ≠ m ∧ s.maskedDrop mesh vc m = none ∧ routeDir x y dx
    dy = some dir ∧ s.heldFor (meshLink mesh x y dir) vc = some k) ∧
  (∃ (s : State) (p : FabPort) (n : Nat) (m : CMsg), m.dst.pkg ≠ s.pkg ∧ s.paused p = false ∧ s.beat.isolated = false ∧ s.locked = false ∧
    s.resting = false ∧ s.outPort m = some n ∧ (∀ l ∈ s.wayOut p n m, s.linkActive l = true) ∧ s.targetRests m = false ∧ s.linkCarries n = true ∧
    s.creditFree (s.creditSet n m) (vcOf m) = true ∧ (∀ e ∈ s.fab.transit, s.creditSet e.1 e.2 ≠ s.creditSet n m ∨ vcOf e.2 ≠ vcOf m)) ∧
  (∃ (s : State) (l : Fin 21) (payload : BitVec 608) (crc : BitVec 32), s.linkState l = 5 ∧ s.paused l = false ∧ flitCrc payload ≠ crc ∧
    s.fab.replays.get l < 3) ∧
  (∃ (s : State) (payload : BitVec 608) (crc : BitVec 32), s.linkState 20 = 5 ∧ s.paused 20 = false ∧ flitCrc payload ≠ crc ∧ s.fab.replays.get 21
    < 3) ∧
  (∃ (s : State) (mesh : Fin 14) (x y dir : Fin 4) (payload : BitVec 608) (crc : BitVec 32), flitCrc payload ≠ crc ∧ s.fab.replays.get (meshLink
    mesh x y dir) < 3) ∧
  (∃ (s : State) (d : Die), s.dieOff d = false ∧ s.dieFenced d = false) ∧
  (∃ (s : State) (link : Nat) (vc : Fin 8), (link < 21 → s.paused link = false) ∧ (21 ≤ link → link < 29 → s.paused (link - 21) = false) ∧
    s.fab.transit = []) ∧
  (∃ (s : State) (d : Die), s.dieState d ≠ 0 ∧ s.dieFenced d = false) ∧
  (∃ (s : State) (d : Die), s.dieState d ≠ 0 ∧ s.dieFenced d = false) ∧
  (∃ (s : State) (d : Die), s.dieState d ≠ 0 ∧ s.restState ≠ ST_REST ∧ s.dieFenced d = false) ∧
  (∃ (s : State) (d : Die), (s.dieState d = 0 ∨ s.restState = ST_REST)) :=
  ⟨⟨Wit.sys.send (.coh Wit.ucRd), 0, 1, 0, 1, 1, 1, 3, 3, Wit.ucRd, by decide +kernel⟩,
  ⟨{ Wit.sys.send (.coh Wit.back) with flits := [{ (default : FlitAt) with msg := Wit.back, router := some (0, 1, 0), goal := (1, 0) }] }, 0, 1, 0,
    4, Wit.back, by decide +kernel⟩,
  ⟨(Wit.sys.send (.coh Wit.part)).onFab fun f => { f with torn := [(meshLink 0 1 0 3, Wit.part)] }, 0, 1, 0, 1, 1, 1, 3, Wit.part, by
    decide +kernel⟩,
  ⟨(Wit.sys.send (.coh Wit.part)).onFab fun f => { f with torn := [(meshLink 0 1 0 3, Wit.part)] }, 0, 1, 0, 1, 1, 1, 3, Wit.ucRd, Wit.part, by
    decide +kernel⟩,
  ⟨(((Wit.two.setF (R.LINK_STAT 5) F.LINK_STAT_STATE 5).setF (R.FP_PEER 5) F.FP_PEER_CONNECTED 1).setF (R.FP_PEER 5) F.FP_PEER_PEER_PKG 1).send
    (.coh { (default : CMsg) with src := { pkg := 2, unit := 0xF0 }, dst := { pkg := 1, unit := 0xF0 } }), 2, 5,
    { (default : CMsg) with src := { pkg := 2, unit := 0xF0 }, dst := { pkg := 1, unit := 0xF0 } }, by decide +kernel⟩,
  ⟨(Wit.sys.setF (R.LINK_STAT 20) F.LINK_STAT_STATE 5), 20, 0, 1, by decide +kernel⟩,
  ⟨(Wit.sys.setF (R.LINK_STAT 20) F.LINK_STAT_STATE 5), 0, 1, by decide +kernel⟩,
  ⟨Wit.sys.onFab fun f => { f with replayBuf := [(meshLink 0 1 0 3, [Wit.ucRd])] }, 0, 1, 0, 3, 0, 1, by decide +kernel⟩,
  ⟨Wit.sys, 0, by decide +kernel⟩,
  ⟨(Wit.sys.onFab fun f => { f with credits := [(25, 4)] }), 3, 1, by decide +kernel⟩,
  ⟨Wit.sys, 0, by decide +kernel⟩,
  ⟨Wit.sys, 0, by decide +kernel⟩,
  ⟨Wit.sys, 0, by decide +kernel⟩,
  ⟨Wit.sys, 5, by decide +kernel⟩⟩

/-- States and operands that meet the hypotheses of each clause of Obligations.Arbiters. -/
theorem test_Arbiters_hyps :
  (∃ (s : State) (a : Arb) (p : Sys2Proof.Part) (m : CMsg) (n : Nat), hasReg a = true ∧ s.regOf m = some (a.val, n) ∧ s.f (R.ARB_RR a)
    F.ARB_RR_HELD = 0 ∧ p.val = m.part ∧ p.val ≠ 0 ∧ (vcOf m = 0 ∨ vcOf m = 1) ∧ partialWrite m = false ∧ .coh m ∈ s.sent ∧ (s.flitAt m).passed =
    false ∧ m.rsv = false ∧ 1 ≤ (s.regH a).rsv.get p) ∧
  (∃ (s : State) (a : Arb) (p : Sys2Proof.Part) (m : CMsg) (n : Nat), hasReg a = true ∧ s.regOf m = some (a.val, n) ∧ s.f (R.ARB_RR a)
    F.ARB_RR_HELD = 0 ∧ p.val = m.part ∧ p.val ≠ 0 ∧ (vcOf m = 0 ∨ vcOf m = 1) ∧ partialWrite m = false ∧ .coh m ∈ s.sent ∧ (s.flitAt m).passed =
    false ∧ m.rsv = false ∧ regTake (s.regH a) (s.f (R.INJ_CTL a) F.INJ_CTL_RATE) p 1 = none) ∧
  (∃ (s : State) (a : Arb) (p : Sys2Proof.Part) (m : CMsg) (n : Nat) (two : Bool), s.regOf m = some (a.val, n) ∧ s.f (R.ARB_RR a) F.ARB_RR_HELD ≠ 0
    ∧ s.f (R.ARB_RR a) F.ARB_RR_OWNER ≠ n) ∧
  (∃ (s : State) (a : Arb) (m n : Fin 16) (cycle : Nat), (a.val < 24 ∨ 42 ≤ a.val) ∧ m ≠ n ∧ s.f (R.ARB_RR a) F.ARB_RR_HELD = 0 ∧ s.arbOpen a m =
    true ∧ s.arbOpen a n = true ∧ s.f (R.ARB_REQ a n) F.ARB_REQ_ECLASS < s.f (R.ARB_REQ a m) F.ARB_REQ_ECLASS ∧ m.val < s.arbNreq a ∧ n.val <
    s.arbNreq a) ∧
  (∃ (s : State) (a : Arb) (n : Fin 16), (a.val = 60 ∨ a.val = 61 → s.home.lineq = [] ∧ s.home.proxyWait = [] ∧ ∀ x ∈ s.home.txns, x.ordered =
    false)) ∧
  (∃ (s : State) (a : Arb) (cycle : Nat), s.f (R.ARB_RR a) F.ARB_RR_HELD = 1 ∧ (s.arbH a).served = true ∧ (s.f (R.ARB_REQ a (s.f (R.ARB_RR a)
    F.ARB_RR_OWNER)) F.ARB_REQ_UNIT = 1 → (s.arbH a).burstLeft = 0) ∧ (s.f (R.ARB_REQ a (s.f (R.ARB_RR a) F.ARB_RR_OWNER)) F.ARB_REQ_UNIT = 0 →
    (s.arbH a).grantAt + s.f (R.ARB_REQ a (s.f (R.ARB_RR a) F.ARB_RR_OWNER)) F.ARB_REQ_BURST ≤ cycle) ∧ (∀ e ∈ s.fab.torn, arbLink a ≠ some e.1) ∧
    (a.val = 60 ∨ a.val = 61 → s.home.lineq = [] ∧ s.home.proxyWait = [] ∧ ∀ x ∈ s.home.txns, x.ordered = false)) ∧
  (∃ (s : State) (a : Arb) (cycle : Nat), (s.arbH a).served = false) ∧
  (∃ (s : State) (a : Arb) (e : Nat × CMsg) (still : Bool) (cycle : Nat), e ∈ s.fab.torn ∧ arbLink a = some e.1) ∧
  (∃ (s : State) (who : Sender) (a : Arb), s.Admitted who.who (R.ARB_CLR a) true) :=
  ⟨⟨(Wit.sys.send (.coh Wit.ucRd)).onFab fun f => { f with regs := [(0, { (default : RegH) with rsv := [(1, 1)] })] }, 0, 1, Wit.ucRd, 3, by
    decide +kernel⟩,
  ⟨(Wit.sys.send (.coh Wit.ucRd)).setF (R.INJ_CTL 0) F.INJ_CTL_RATE 5, 0, 1, Wit.ucRd, 3, by decide +kernel⟩,
  ⟨((Wit.sys.send (.coh Wit.ucRd)).setF (R.ARB_RR 0) F.ARB_RR_HELD 1).setF (R.ARB_RR 0) F.ARB_RR_OWNER 15, 0, 1, Wit.ucRd, 3, false, by
    decide +kernel⟩,
  ⟨(Wit.sys.setF (R.ARB_REQ 63 15) F.ARB_REQ_ECLASS 3), 63, 15, 0, 7, by decide +kernel⟩,
  ⟨(Wit.sys.setF (R.ARB_REQ 60 15) F.ARB_REQ_WAIT_LEFT 3), 60, 15, by decide +kernel⟩,
  ⟨(((Wit.sys.setF (R.ARB_RR 63) F.ARB_RR_HELD 1).setF (R.ARB_REQ 63 0) F.ARB_REQ_ECLASS 3).setF (R.ARB_REQ 63 0) F.ARB_REQ_BURST 4).onFab fun f =>
    { f with arbs := f.arbs.put 63 { f.arbs.get 63 with served := true, grantAt := 7 } }, 63, 11, by decide +kernel⟩,
  ⟨Wit.sys.setF (R.ARB_RR 63) F.ARB_RR_HELD 1, 63, 11, by decide +kernel⟩,
  ⟨(Wit.sys.setF (R.ARB_RR 58) F.ARB_RR_HELD 1).onFab fun f => { f with torn := [(20, Wit.part)] }, 58, (20, Wit.part), true, 11, by
    decide +kernel⟩,
  ⟨(Wit.sys.setReg (R.ARB_STAT 63) 77), Wit.me, 63, admitted_of⟩⟩

/-- States and operands that meet the hypotheses of each clause of Obligations.PhotonicLinks. -/
theorem test_PhotonicLinks_hyps :
  (∃ (s : State) (i : Fin 4) (k role : Nat), s.tile i = role ∧ (role = 1 ∨ role = 2) ∧ (List.range 4).find? (fun k => s.tile k = 3) = some k) ∧
  (∃ (s : State) (l : Fin 21) (w : Fin 64), s.linkState l = 5 ∧ s.paused l = false ∧ (s.reg (R.LINK_MAP l)).getLsbD w = true) ∧
  (∃ (s : State) (w : Fin 64), s.linkState 20 = 5 ∧ s.paused 20 = false ∧ (s.endMap 21).getLsbD w = true) ∧
  (∃ (s : State) (l : Fin 21) (w : Fin 64), s.linkState l = 5 ∧ s.paused l = false ∧ s.f (R.LINK_CTL l) F.LINK_CTL_LANE_LIMIT <
    s.links.laneFails.get (l * 64 + w)) ∧
  (∃ (s : State) (w : Fin 64), s.linkState 20 = 5 ∧ s.paused 20 = false ∧ s.f (R.LINK_CTL 20) F.LINK_CTL_LANE_LIMIT < s.links.laneFails.get (21 *
    64 + w)) ∧
  (∃ (s : State) (l : Fin 21), s.linkState l = 5 ∧ s.paused l = false) :=
  ⟨⟨((Wit.sys.setTile 1 2).setTile 3 3), 1, 3, 2, by decide +kernel⟩,
  ⟨((Wit.sys.setF (R.LINK_STAT 20) F.LINK_STAT_STATE 5).setReg (R.LINK_MAP 20) 0xFFFFFFFFFFFFFFFF), 20, 63, by decide +kernel⟩,
  ⟨((Wit.sys.setF (R.LINK_STAT 20) F.LINK_STAT_STATE 5).setF (R.LINK_STAT 20) F.LINK_STAT_WIDTH 64).onLinks (fun k =>
    { k with txMap := [(20, 2 ^ 64 - 1)] }), 63, by decide +kernel⟩,
  ⟨(((Wit.sys.setF (R.LINK_STAT 20) F.LINK_STAT_STATE 5).setReg (R.LINK_CTL 20) 0).onLinks fun k => { k with laneFails := [(20 * 64 + 63, 1)] }),
    20, 63, by decide +kernel⟩,
  ⟨(((Wit.sys.setF (R.LINK_STAT 20) F.LINK_STAT_STATE 5).setReg (R.LINK_CTL 20) 0).onLinks fun k => { k with laneFails := [(21 * 64 + 63, 1)] }),
    63, by decide +kernel⟩,
  ⟨(Wit.sys.setF (R.LINK_STAT 20) F.LINK_STAT_STATE 5), 20, by decide +kernel⟩⟩

/-- States and operands that meet the hypotheses of each clause of Obligations.LinkTraining. -/
theorem test_LinkTraining_hyps :
  (∃ (s : State) (l : Fin 21) (v : Word), s.linkState l ≠ 7 ∧ s.linkState l ≠ 8 ∧ stepMay (s.linkState l) 1 = true ∧ s.f (R.LT_STAT l)
    F.LT_STAT_BUSY = 0 ∧ s.locked = false) ∧
  (∃ (s : State) (l : Fin 21) (v : Word), s.linkState l ≠ 7 ∧ s.linkState l ≠ 8 ∧ stepMay (s.linkState l) 2 = true ∧ s.f (R.LT_STAT l)
    F.LT_STAT_BUSY = 0 ∧ s.locked = false) ∧
  (∃ (s : State) (l : Fin 21) (v : Word), s.linkState l ≠ 7 ∧ s.linkState l ≠ 8 ∧ stepMay (s.linkState l) 3 = true ∧ s.f (R.LT_STAT l)
    F.LT_STAT_BUSY = 0 ∧ s.locked = false) ∧
  (∃ (s : State) (l : Fin 21) (v : Word), s.linkState l ≠ 7 ∧ s.linkState l ≠ 8 ∧ stepMay (s.linkState l) 4 = true ∧ s.f (R.LT_STAT l)
    F.LT_STAT_BUSY = 0 ∧ s.locked = false) ∧
  (∃ (s : State) (l : Fin 21) (good : Word) (peer : Nat) (pc : Bool) (delay : Nat), s.f (R.LT_STAT l) F.LT_STAT_BUSY = 1 ∧ s.linkState l = 2) ∧
  (∃ (s : State) (l : Fin 21) (good : Word) (peer delay : Nat), s.f (R.LT_STAT l) F.LT_STAT_BUSY = 1 ∧ s.linkState l = 4 ∧ 8 ≤ l.val ∧ peer ≠ 0 ∧
    peer = min (s.f (R.LINK_STAT l) F.LINK_STAT_CAP) (s.f (R.LINK_STAT l) F.LINK_STAT_PEER_CAP)) :=
  ⟨⟨Wit.sys, 20, 0, by decide +kernel⟩,
  ⟨(Wit.sys.setF (R.LINK_STAT 3) F.LINK_STAT_STATE 1), 3, 0, by decide +kernel⟩,
  ⟨(Wit.sys.setF (R.LINK_STAT 8) F.LINK_STAT_STATE 2), 8, 0, by decide +kernel⟩,
  ⟨(Wit.sys.setF (R.LINK_STAT 20) F.LINK_STAT_STATE 3), 20, 0, by decide +kernel⟩,
  ⟨((Wit.sys.setF (R.LINK_STAT 20) F.LINK_STAT_STATE 2).setF (R.LT_STAT 20) F.LT_STAT_BUSY 1), 20, 0xFFFFFFFFFFFFFFFF, 0, false, 0, by
    decide +kernel⟩,
  ⟨((((Wit.sys.setF (R.LINK_STAT 19) F.LINK_STAT_STATE 4).setF (R.LT_STAT 19) F.LT_STAT_BUSY 1).setF (R.LINK_STAT 19) F.LINK_STAT_CAP 16).setF
    (R.LINK_STAT 19) F.LINK_STAT_PEER_CAP 8), 19, 0, 8, 0, by decide +kernel⟩⟩

/-- States and operands that meet the hypotheses of each clause of Obligations.HomeReads. -/
theorem test_HomeReads_hyps :
  (∃ (s : State) (h : Hub) (m : CMsg) (slot : Nat), s.Arrives { m with op := .rdShared } ∧ s.Opens h m.line m.part slot ∧ s.cutOff h m.src = false) ∧
  (∃ (s : State) (h : Hub) (m : CMsg) (slot : Nat), s.Arrives { m with op := .rdUnique } ∧ s.Opens h m.line m.part slot ∧ s.cutOff h m.src = false) ∧
  (∃ (s : State) (h : Hub) (m : CMsg) (slot : Nat), s.Arrives { m with op := .upgrade } ∧ s.Opens h m.line m.part slot ∧ s.cutOff h m.src = false) ∧
  (∃ (s : State) (h : Hub) (m : CMsg) (slot : Nat), s.Arrives { m with op := .dmaRd } ∧ s.Opens h m.line m.part slot ∧ s.cutOff h m.src = false) ∧
  (∃ (s : State) (h : Hub) (m : CMsg) (slot : Nat), s.Arrives { m with op := .ucRd } ∧ s.Opens h m.line m.part slot ∧ s.cutOff h m.src = false) ∧
  (∃ (s : State) (h : Hub) (m : CMsg) (slot : Nat), s.Arrives { m with op := .farAtomic } ∧ s.Opens h m.line m.part slot ∧ s.cutOff h m.src = false
    ∧ s.atomicSlot h m.line = true ∧ s.f (R.ARB_REQ (60 + h) (s.srcPort h m)) F.ARB_REQ_WAIT_LEFT = 0) ∧
  (∃ (s : State) (h : Hub) (m : CMsg) (slot : Nat), s.Arrives { m with op := .ucAtomic } ∧ s.Opens h m.line m.part slot ∧ s.cutOff h m.src = false
    ∧ s.atomicSlot h m.line = true ∧ s.f (R.ARB_REQ (60 + h) (s.srcPort h m)) F.ARB_REQ_WAIT_LEFT = 0) :=
  ⟨⟨Wit.mem, 0, Wit.req, 0, arrives_of, opens_of, by decide +kernel⟩,
  ⟨Wit.mem, 0, Wit.req, 0, arrives_of, opens_of, by decide +kernel⟩,
  ⟨Wit.mem, 0, Wit.req, 0, arrives_of, opens_of, by decide +kernel⟩,
  ⟨Wit.mem, 0, Wit.req, 0, arrives_of, opens_of, by decide +kernel⟩,
  ⟨Wit.mem, 0, Wit.req, 0, arrives_of, opens_of, by decide +kernel⟩,
  ⟨Wit.mem, 0, Wit.req, 0, arrives_of, opens_of, by decide +kernel⟩,
  ⟨Wit.mem, 0, Wit.req, 0, arrives_of, opens_of, by decide +kernel⟩⟩

/-- States and operands that meet the hypotheses of each clause of Obligations.HomeWritesAndMaintenance. -/
theorem test_HomeWritesAndMaintenance_hyps :
  (∃ (s : State) (h : Hub) (m : CMsg) (slot : Nat), s.Arrives { m with op := .wtWrite } ∧ s.Opens h m.line m.part slot ∧ s.cutOff h m.src = false) ∧
  (∃ (s : State) (h : Hub) (m : CMsg) (slot : Nat), s.Arrives { m with op := .dmaWr } ∧ s.Opens h m.line m.part slot ∧ s.cutOff h m.src = false) ∧
  (∃ (s : State) (h : Hub) (m : CMsg) (slot : Nat), s.Arrives { m with op := .ucWr } ∧ s.Opens h m.line m.part slot ∧ s.cutOff h m.src = false) ∧
  (∃ (s : State) (h : Hub) (m : CMsg) (slot : Nat), s.Arrives { m with op := .cmoClean } ∧ s.Opens h m.line m.part slot ∧ s.cutOff h m.src = false
    ∧ m.txn ≠ noSlot) ∧
  (∃ (s : State) (h : Hub) (m : CMsg) (slot : Nat), s.Arrives { m with op := .cmoCleanInv } ∧ s.Opens h m.line m.part slot ∧ s.cutOff h m.src =
    false ∧ m.txn ≠ noSlot) :=
  ⟨⟨Wit.mem, 0, Wit.req, 0, arrives_of, opens_of, by decide +kernel⟩,
  ⟨Wit.mem, 0, Wit.req, 0, arrives_of, opens_of, by decide +kernel⟩,
  ⟨Wit.mem, 0, Wit.req, 0, arrives_of, opens_of, by decide +kernel⟩,
  ⟨Wit.mem, 0, Wit.req, 0, arrives_of, opens_of, by decide +kernel⟩,
  ⟨Wit.mem, 0, Wit.req, 0, arrives_of, opens_of, by decide +kernel⟩⟩

/-- States and operands that meet the hypotheses of each clause of Obligations.Snoops. -/
theorem test_Snoops_hyps :
  (∃ (s : State) (d : Die) (m : CMsg) (w : Nat) (l : DcLine), s.Snooped d { m with op := .snpShared } w l ∧ l.coh = .m) ∧
  (∃ (s : State) (d : Die) (m : CMsg) (w : Nat) (l : DcLine), s.Snooped d { m with op := .snpUnique } w l ∧ (l.coh = .m ∨ l.coh = .o)) ∧
  (∃ (s : State) (d : Die) (m : CMsg) (w : Nat) (l : DcLine), s.Snooped d { m with op := .snpInv } w l ∧ (l.coh = .s ∨ l.coh = .e)) ∧
  (∃ (s : State) (d : Die) (m : CMsg) (w : Nat) (l : DcLine), s.Snooped d { m with op := .snpClean } w l ∧ l.coh = .m) ∧
  (∃ (s : State) (d : Die) (m : CMsg) (w : Nat) (l : DcLine), s.Snooped d { m with op := .snpRecall } w l ∧ (l.coh = .m ∨ l.coh = .o)) ∧
  (∃ (s : State) (d : Die) (m : CMsg) (w : Nat) (l : DcLine), s.Snooped d { m with op := .snpOrderShared } w l ∧ l.coh = .e) ∧
  (∃ (s : State) (d : Die) (m : CMsg) (w : Nat) (l : DcLine), s.Snooped d { m with op := .snpOrderUnique } w l ∧ l.coh = .e) ∧
  (∃ (s : State) (d : Die) (m : CMsg) (w : Nat) (l : DcLine), s.Snooped d { m with op := .snpOrderRecall } w l ∧ (l.coh = .m ∨ l.coh = .o)) :=
  ⟨⟨(Wit.mem.onCache fun k =>
    { k with dc := [(dcKey 0 (dcSetOf 1) 15, { line := 1, coh := .m, part := 1, presence := 0, data := 9, clean := false })] }), 0,
    { Wit.req with src := { pkg := 0, unit := 0xFC }, dst := { pkg := 0, unit := 0xF0 }, fwd := { pkg := 0, unit := 0xF5 }, fwdTxn := 9 }, 15,
    { line := 1, coh := .m, part := 1, presence := 0, data := 9, clean := false }, snooped_of, by decide +kernel⟩,
  ⟨(Wit.mem.onCache fun k =>
    { k with dc := [(dcKey 0 (dcSetOf 1) 15, { line := 1, coh := .o, part := 1, presence := 0, data := 9, clean := false })] }), 0,
    { Wit.req with src := { pkg := 0, unit := 0xFC }, dst := { pkg := 0, unit := 0xF0 }, fwd := { pkg := 0, unit := 0xF5 }, fwdTxn := 9 }, 15,
    { line := 1, coh := .o, part := 1, presence := 0, data := 9, clean := false }, snooped_of, by decide +kernel⟩,
  ⟨(Wit.mem.onCache fun k =>
    { k with dc := [(dcKey 0 (dcSetOf 1) 15, { line := 1, coh := .s, part := 1, presence := 0, data := 9, clean := false })] }), 0,
    { Wit.req with src := { pkg := 0, unit := 0xFC }, dst := { pkg := 0, unit := 0xF0 }, fwd := { pkg := 0, unit := 0xF5 }, fwdTxn := 9 }, 15,
    { line := 1, coh := .s, part := 1, presence := 0, data := 9, clean := false }, snooped_of, by decide +kernel⟩,
  ⟨(Wit.mem.onCache fun k =>
    { k with dc := [(dcKey 0 (dcSetOf 1) 15, { line := 1, coh := .m, part := 1, presence := 0, data := 9, clean := false })] }), 0,
    { Wit.req with src := { pkg := 0, unit := 0xFC }, dst := { pkg := 0, unit := 0xF0 }, fwd := { pkg := 0, unit := 0xF5 }, fwdTxn := 9 }, 15,
    { line := 1, coh := .m, part := 1, presence := 0, data := 9, clean := false }, snooped_of, by decide +kernel⟩,
  ⟨(Wit.mem.onCache fun k =>
    { k with dc := [(dcKey 0 (dcSetOf 1) 15, { line := 1, coh := .o, part := 1, presence := 0, data := 9, clean := false })] }), 0,
    { Wit.req with src := { pkg := 0, unit := 0xFC }, dst := { pkg := 0, unit := 0xF0 }, fwd := { pkg := 0, unit := 0xF5 }, fwdTxn := 9 }, 15,
    { line := 1, coh := .o, part := 1, presence := 0, data := 9, clean := false }, snooped_of, by decide +kernel⟩,
  ⟨(Wit.mem.onCache fun k =>
    { k with dc := [(dcKey 0 (dcSetOf 1) 15, { line := 1, coh := .e, part := 1, presence := 0, data := 9, clean := false })] }), 0,
    { Wit.req with src := { pkg := 0, unit := 0xFC }, dst := { pkg := 0, unit := 0xF0 }, fwd := { pkg := 0, unit := 0xF5 }, fwdTxn := 9 }, 15,
    { line := 1, coh := .e, part := 1, presence := 0, data := 9, clean := false }, snooped_of, by decide +kernel⟩,
  ⟨(Wit.mem.onCache fun k =>
    { k with dc := [(dcKey 0 (dcSetOf 1) 15, { line := 1, coh := .e, part := 1, presence := 0, data := 9, clean := false })] }), 0,
    { Wit.req with src := { pkg := 0, unit := 0xFC }, dst := { pkg := 0, unit := 0xF0 }, fwd := { pkg := 0, unit := 0xF5 }, fwdTxn := 9 }, 15,
    { line := 1, coh := .e, part := 1, presence := 0, data := 9, clean := false }, snooped_of, by decide +kernel⟩,
  ⟨(Wit.mem.onCache fun k =>
    { k with dc := [(dcKey 0 (dcSetOf 1) 15, { line := 1, coh := .m, part := 1, presence := 0, data := 9, clean := false })] }), 0,
    { Wit.req with src := { pkg := 0, unit := 0xFC }, dst := { pkg := 0, unit := 0xF0 }, fwd := { pkg := 0, unit := 0xF5 }, fwdTxn := 9 }, 15,
    { line := 1, coh := .m, part := 1, presence := 0, data := 9, clean := false }, snooped_of, by decide +kernel⟩⟩

/-- States and operands that meet the hypotheses of each clause of Obligations.WriteBacks. -/
theorem test_WriteBacks_hyps :
  (∃ (s : State) (h : Hub) (m : CMsg) (w : Nat), s.Arrives { m with op := .wbDirty } ∧ s.cutOff h m.src = false ∧ s.homedAt h m.line = true ∧
    s.chanDead m.line = false ∧ s.lineBusy h m.line = false ∧ s.dirWay h m.line = some w ∧ (s.dirEnt h m.line).ds = .excl ∧ s.ownerOf h (s.dirEnt h
    m.line) = some (s.holderOf h m.src) ∧ s.holderOf h m.src ∈ s.holders h (s.dirEnt h m.line) ∧ m.src.unit < 0xFC ∧ m.src.pkg = s.pkg) ∧
  (∃ (s : State) (h : Hub) (m : CMsg) (w : Nat), s.Arrives { m with op := .evictClean } ∧ s.cutOff h m.src = false ∧ s.homedAt h m.line = true ∧
    s.lineBusy h m.line = false ∧ s.dirWay h m.line = some w ∧ (s.dirEnt h m.line).ds = .shared ∧ s.holderOf h m.src ∈ s.holders h (s.dirEnt h
    m.line) ∧ m.src.unit < 0xFC ∧ m.src.pkg = s.pkg) ∧
  (∃ (s : State) (h : Hub) (m : CMsg), s.Arrives { m with op := .wbLost } ∧ s.cutOff h m.src = false ∧ s.homedAt h m.line = true ∧ s.lineBusy h
    m.line = false ∧ s.holderOf h m.src ∈ s.holders h (s.dirEnt h m.line) ∧ m.aop.code ≠ 0 ∧ m.aop.code < 16 ∧ s.chanDead m.line = false) ∧
  (∃ (s : State) (h : Hub) (m : CMsg), s.Arrives { m with op := .wbLost } ∧ s.cutOff h m.src = false ∧ s.homedAt h m.line = true ∧ s.lineBusy h
    m.line = true ∧ s.home.heldWb.countP (fun e => e.1 = h.val) < 64) ∧
  (∃ (s : State) (h : Hub) (m : CMsg) (x : Txn), s.Arrives { m with op := .compAck } ∧ s.home.txns.find? (fun t => t.hub = h.val && t.ackDue &&
    t.req.src = m.src && t.req.txn = m.txn && t.req.line = m.line) = some x ∧ (∀ e ∈ s.home.lineq, e.1 ≠ h.val) ∧ (∀ y ∈ s.home.txns, y.ordered =
    false) ∧ (∀ e ∈ s.home.heldWb, e.2.line ≠ m.line) ∧ s.home.proxyWait = []) ∧
  (∃ (s : State) (d : Die) (m : CMsg), s.Arrives { m with op := .wbAck } ∧ s.NoneWait ∧ m.dst = s.dieUnit d ∧ s.dieFenced d = false ∧ s.dieOff d =
    false ∧ (∀ q ∈ s.cache.dcMiss, q.die = d.val → q.line ≠ m.line) ∧ (∀ q ∈ s.cache.direct, q.line ≠ m.line)) :=
  ⟨⟨(Wit.mem.onHome fun q =>
    { q with dir := [(dirKey 0 (dirSet 1) 15, { (default : DirEnt) with valid := true, ds := .excl, ownerDie := 0, dieVec := 1, tag := dirTag 1 })] }),
    0, Wit.req, 15, arrives_of, by decide +kernel⟩,
  ⟨(Wit.mem.onHome fun q =>
    { q with dir := [(dirKey 0 (dirSet 1) 15, { (default : DirEnt) with valid := true, ds := .shared, ownerDie := 0, dieVec := 3, tag := dirTag 1 })] }),
    0, Wit.req, 15, arrives_of, by decide +kernel⟩,
  ⟨(Wit.mem.onHome fun q =>
    { q with dir := [(dirKey 0 (dirSet 1) 15, { (default : DirEnt) with valid := true, ds := .excl, ownerDie := 0, dieVec := 1, tag := dirTag 1 })] }),
    0, { Wit.req with aop := { (default : AtOp) with code := 3 } }, arrives_of, by decide +kernel⟩,
  ⟨(Wit.mem.onHome fun q => { q with txns := [{ (default : Txn) with hub := 0, req := { Wit.req with op := .rdShared } }] }), 0, Wit.req,
    arrives_of, by decide +kernel⟩,
  ⟨(Wit.mem.onHome fun q =>
    { q with txns := [{ (default : Txn) with hub := 0, slot := 3, req := { Wit.req with op := .rdUnique }, ackDue := true }] }), 0, Wit.req,
    { (default : Txn) with hub := 0, slot := 3, req := { Wit.req with op := .rdUnique }, ackDue := true }, arrives_of, by decide +kernel⟩,
  ⟨(Wit.mem.onCache fun k => { k with wb := [{ die := 0, line := 1, coh := .m, part := 1, data := 3, txn := 3 }] }), 0,
    { Wit.req with dst := Wit.req.src, src := Wit.req.dst }, arrives_of, noneWait_of, by decide +kernel⟩⟩

/-- States and operands that meet the hypotheses of each clause of Obligations.DataToDies. -/
theorem test_DataToDies_hyps :
  (∃ (s : State) (d : Die) (m : CMsg) (q : DcMiss), s.Arrives { m with op := .dataS } ∧ s.NoneWait ∧ s.dieFenced d = false ∧ s.dieOff d = false ∧
    s.cache.dcMiss.find? (fun q => q.die = d.val && q.txn = m.txn && q.line = m.line && q.sent) = some q ∧ q.grant = none) ∧
  (∃ (s : State) (d : Die) (m : CMsg) (q : DcMiss), s.Arrives { m with op := .dataE } ∧ s.NoneWait ∧ s.dieFenced d = false ∧ s.dieOff d = false ∧
    s.cache.dcMiss.find? (fun q => q.die = d.val && q.txn = m.txn && q.line = m.line && q.sent) = some q ∧ q.grant = none) ∧
  (∃ (s : State) (d : Die) (m : CMsg) (q : DcMiss), s.Arrives { m with op := .dataM } ∧ s.NoneWait ∧ s.dieFenced d = false ∧ s.dieOff d = false ∧
    s.cache.dcMiss.find? (fun q => q.die = d.val && q.txn = m.txn && q.line = m.line && q.sent) = some q ∧ q.grant = none) ∧
  (∃ (s : State) (d : Die) (m : CMsg) (q : DcMiss), s.Arrives { m with op := .dataO } ∧ s.NoneWait ∧ s.dieFenced d = false ∧ s.dieOff d = false ∧
    s.cache.dcMiss.find? (fun q => q.die = d.val && q.txn = m.txn && q.line = m.line && q.sent) = some q ∧ q.grant = none) ∧
  (∃ (s : State) (m : CMsg) (q : DcMiss) (x : Coh × Line), s.Arrives { m with op := .comp } ∧ s.NoneWait ∧ s.dstDie m = some q.die ∧ s.dieFenced
    q.die = false ∧ s.dieOff q.die = false ∧ s.missOf m = some q ∧ s.cache.dcMiss.find? (fun y => y.die = q.die && y.line = q.line) = some q ∧ q.op
    ≠ .upgrade ∧ q.got = some x ∧ x.1 ≠ .i ∧ q.l1s = [] ∧ q.way < 16 ∧ s.dcFind q.die q.line = none ∧ pkgOfLine q.line = s.pkg) ∧
  (∃ (s : State) (m : CMsg) (q : DcMiss), s.Arrives { m with op := .compContended } ∧ s.NoneWait ∧ s.dstDie m = some q.die ∧ s.dieFenced q.die =
    false ∧ s.dieOff q.die = false ∧ s.missOf m = some q ∧ s.cache.dcMiss.find? (fun y => y.die = q.die && y.line = q.line) = some q ∧ q.op ≠
    .upgrade ∧ q.got = none) ∧
  (∃ (s : State) (m : CMsg) (q : DcMiss), s.Arrives { m with op := .retry } ∧ s.missOf m = some q) ∧
  (∃ (s : State) (m : CMsg) (q : DcMiss), s.cache.dcMiss.find? (fun q => m.dst = s.dieUnit q.die && q.txn = m.txn && q.line = m.line && !q.sent) =
    some q ∧ s.inWb q.die q.line = false) :=
  ⟨⟨(Wit.mem.onCache fun k =>
    { k with dcMiss := [{ (default : DcMiss) with die := 0, line := 1, way := 15, op := .rdShared, txn := 7, part := 1, sent := true }] }), 0,
    { Wit.req with dst := Wit.req.src, src := Wit.req.dst },
    { (default : DcMiss) with die := 0, line := 1, way := 15, op := .rdShared, txn := 7, part := 1, sent := true }, arrives_of, noneWait_of, by
    decide +kernel⟩,
  ⟨(Wit.mem.onCache fun k =>
    { k with dcMiss := [{ (default : DcMiss) with die := 0, line := 1, way := 15, op := .rdShared, txn := 7, part := 1, sent := true }] }), 0,
    { Wit.req with dst := Wit.req.src, src := Wit.req.dst },
    { (default : DcMiss) with die := 0, line := 1, way := 15, op := .rdShared, txn := 7, part := 1, sent := true }, arrives_of, noneWait_of, by
    decide +kernel⟩,
  ⟨(Wit.mem.onCache fun k =>
    { k with dcMiss := [{ (default : DcMiss) with die := 0, line := 1, way := 15, op := .rdShared, txn := 7, part := 1, sent := true }] }), 0,
    { Wit.req with dst := Wit.req.src, src := Wit.req.dst },
    { (default : DcMiss) with die := 0, line := 1, way := 15, op := .rdShared, txn := 7, part := 1, sent := true }, arrives_of, noneWait_of, by
    decide +kernel⟩,
  ⟨(Wit.mem.onCache fun k =>
    { k with dcMiss := [{ (default : DcMiss) with die := 0, line := 1, way := 15, op := .rdShared, txn := 7, part := 1, sent := true }] }), 0,
    { Wit.req with dst := Wit.req.src, src := Wit.req.dst },
    { (default : DcMiss) with die := 0, line := 1, way := 15, op := .rdShared, txn := 7, part := 1, sent := true }, arrives_of, noneWait_of, by
    decide +kernel⟩,
  ⟨(Wit.mem.onCache fun k =>
    { k with dcMiss := [{ (default : DcMiss) with die := 0, line := 1, way := 15, op := .rdUnique, txn := 7, part := 1, sent := true, got := some (.e, 9) }] }),
    { Wit.req with dst := Wit.req.src, src := Wit.req.dst },
    { (default : DcMiss) with die := 0, line := 1, way := 15, op := .rdUnique, txn := 7, part := 1, sent := true, got := some (.e, 9) }, (.e, 9),
    arrives_of, noneWait_of, by decide +kernel⟩,
  ⟨(Wit.mem.onCache fun k =>
    { k with dcMiss := [{ (default : DcMiss) with die := 0, line := 1, way := 15, op := .rdShared, txn := 7, part := 1, sent := true }] }),
    { Wit.req with dst := Wit.req.src, src := Wit.req.dst },
    { (default : DcMiss) with die := 0, line := 1, way := 15, op := .rdShared, txn := 7, part := 1, sent := true }, arrives_of, noneWait_of, by
    decide +kernel⟩,
  ⟨(Wit.mem.onCache fun k =>
    { k with dcMiss := [{ (default : DcMiss) with die := 0, line := 1, way := 15, op := .rdShared, txn := 7, part := 1, sent := true }] }),
    { Wit.req with dst := Wit.req.src, src := Wit.req.dst },
    { (default : DcMiss) with die := 0, line := 1, way := 15, op := .rdShared, txn := 7, part := 1, sent := true }, arrives_of, by decide +kernel⟩,
  ⟨(Wit.mem.onCache fun k =>
    { k with dcMiss := [{ (default : DcMiss) with die := 0, line := 1, way := 15, op := .rdShared, txn := 7, part := 1, sent := false }] }),
    { Wit.req with dst := Wit.req.src, src := Wit.req.dst },
    { (default : DcMiss) with die := 0, line := 1, way := 15, op := .rdShared, txn := 7, part := 1, sent := false }, by decide +kernel⟩⟩

/-- States and operands that meet the hypotheses of each clause of Obligations.UncachedAnswers. -/
theorem test_UncachedAnswers_hyps :
  (∃ (s : State) (c : Core) (m : CMsg) (q : Direct), s.Arrives { m with op := .atomicData } ∧ s.NoneWait ∧ s.dstDie m = some (dieOf c) ∧
    s.dieFenced (dieOf c) = false ∧ s.dieOff (dieOf c) = false ∧ s.directOf m = some q ∧ (∀ k ∈ q.acc.cores, k ≠ DEBUG_PORT)) ∧
  (∃ (s : State) (c : Core) (m : CMsg) (q : Direct), s.Arrives { m with op := .atomicDataSole } ∧ s.NoneWait ∧ s.dstDie m = some (dieOf c) ∧
    s.dieFenced (dieOf c) = false ∧ s.dieOff (dieOf c) = false ∧ s.directOf m = some q ∧ (∀ k ∈ q.acc.cores, k ≠ DEBUG_PORT)) ∧
  (∃ (s : State) (m : CMsg) (d : Nat) (q : Direct), s.Arrives { m with op := .dataUc } ∧ s.NoneWait ∧ s.dstDie m = some d ∧ s.dieFenced d = false ∧
    s.dieOff d = false ∧ s.directOf m = some q ∧ q.acc.src = .load ∧ (∀ k ∈ q.acc.cores, k ≠ DEBUG_PORT)) ∧
  (∃ (s : State) (m : CMsg) (d : Nat) (q : Direct), s.Arrives { m with op := .busErr } ∧ s.NoneWait ∧ s.dstDie m = some d ∧ s.dieFenced d = false ∧
    s.dieOff d = false ∧ s.missOf m = none ∧ s.directOf m = some q ∧ q.acc.src = .load ∧ isCmo q.op = false ∧ (∀ k ∈ q.acc.cores, k ≠ DEBUG_PORT)) ∧
  (∃ (s : State) (m : CMsg) (q : Direct), s.Arrives m ∧ s.NoneWait ∧ s.missOf m = none ∧ s.directOf m = some q ∧ isCmo q.op = false ∧ q.acc.src ≠
    .maint ∧ (∀ c ∈ q.acc.cores, c ≠ DEBUG_PORT)) ∧
  (∃ (s : State) (m : CMsg), s.Arrives m ∧ m.dst.unit < 0xFC) :=
  ⟨⟨((Wit.mem.onCache fun k =>
    { k with direct := [{ acc := { (default : Acc) with core := 0, src := .atomic, pa := 0x48, size := 8, part := 1 }, unit := 0xF0, op := .farAtomic, line := 1, txn := 7, sent := true }] }).onCache
    fun k => { k with predictor := [(predIdx 0 1, 2)] }), 0, { Wit.req with dst := Wit.req.src, src := Wit.req.dst },
    { acc := { (default : Acc) with core := 0, src := .atomic, pa := 0x48, size := 8, part := 1 }, unit := 0xF0, op := .farAtomic, line := 1, txn := 7, sent := true },
    arrives_of, noneWait_of, by decide +kernel⟩,
  ⟨((Wit.mem.onCache fun k =>
    { k with direct := [{ acc := { (default : Acc) with core := 0, src := .atomic, pa := 0x48, size := 8, part := 1 }, unit := 0xF0, op := .farAtomic, line := 1, txn := 7, sent := true }] }).onCache
    fun k => { k with predictor := [(predIdx 0 1, 2)] }), 0, { Wit.req with dst := Wit.req.src, src := Wit.req.dst },
    { acc := { (default : Acc) with core := 0, src := .atomic, pa := 0x48, size := 8, part := 1 }, unit := 0xF0, op := .farAtomic, line := 1, txn := 7, sent := true },
    arrives_of, noneWait_of, by decide +kernel⟩,
  ⟨(Wit.mem.onCache fun k =>
    { k with direct := [{ acc := { (default : Acc) with core := 0, src := .load, pa := 0x48, size := 8, part := 1 }, unit := 0, op := .ucRd, line := 1, txn := 7, sent := true }] }),
    { Wit.req with dst := { pkg := 0, unit := 0 }, src := Wit.req.dst }, 0,
    { acc := { (default : Acc) with core := 0, src := .load, pa := 0x48, size := 8, part := 1 }, unit := 0, op := .ucRd, line := 1, txn := 7, sent := true },
    arrives_of, noneWait_of, by decide +kernel⟩,
  ⟨(Wit.mem.onCache fun k =>
    { k with direct := [{ acc := { (default : Acc) with core := 0, src := .load, pa := 0x48, size := 8, part := 1 }, unit := 0, op := .ucRd, line := 1, txn := 7, sent := true }] }),
    { Wit.req with dst := { pkg := 0, unit := 0 }, src := Wit.req.dst }, 0,
    { acc := { (default : Acc) with core := 0, src := .load, pa := 0x48, size := 8, part := 1 }, unit := 0, op := .ucRd, line := 1, txn := 7, sent := true },
    arrives_of, noneWait_of, by decide +kernel⟩,
  ⟨(Wit.mem.onCache fun k => { k with direct := [{ acc := Wit.acc, unit := 0, op := .ucRd, line := 1, txn := 7, sent := true }] }),
    { Wit.req with dst := { pkg := 0, unit := 0 }, src := { pkg := 0, unit := 0xFC } },
    { acc := Wit.acc, unit := 0, op := .ucRd, line := 1, txn := 7, sent := true }, arrives_of, noneWait_of, by decide +kernel⟩,
  ⟨(Wit.mem.onCache fun k => { k with direct := [{ acc := Wit.acc, unit := 0, op := .ucRd, line := 1, txn := 7, sent := true }] }),
    { Wit.req with dst := { pkg := 0, unit := 0 }, src := { pkg := 0, unit := 0xFC } }, arrives_of, by decide +kernel⟩⟩

/-- States and operands that meet the hypotheses of each clause of Obligations.SnoopResponses. -/
theorem test_SnoopResponses_hyps :
  (∃ (s : State) (h : Hub) (m : CMsg) (x : Txn), s.Arrives { m with op := .snpRspI } ∧ s.cutOff h m.src = false ∧ pkgOfLine m.line = s.pkg ∧
    s.txnAt h m.txn = some x ∧ x.req.line = m.line ∧ s.holderOf h m.src ∈ x.waits ∧ x.waits.erase (s.holderOf h m.src) ≠ [] ∧ m.mask = 0 ∧
    m.aop.code = 0) ∧
  (∃ (s : State) (h : Hub) (m : CMsg) (x : Txn), s.Arrives { m with op := .snpRspS } ∧ s.cutOff h m.src = false ∧ pkgOfLine m.line = s.pkg ∧
    s.txnAt h m.txn = some x ∧ x.req.line = m.line ∧ s.holderOf h m.src ∈ x.waits ∧ x.waits.erase (s.holderOf h m.src) ≠ [] ∧ m.mask = 0) ∧
  (∃ (s : State) (h : Hub) (m : CMsg) (x : Txn), s.Arrives { m with op := .snpRspFwdClean } ∧ s.cutOff h m.src = false ∧ pkgOfLine m.line = s.pkg ∧
    s.txnAt h m.txn = some x ∧ x.req.line = m.line ∧ s.holderOf h m.src ∈ x.waits ∧ x.waits.erase (s.holderOf h m.src) ≠ [] ∧ m.mask = 0) ∧
  (∃ (s : State) (h : Hub) (m : CMsg) (x : Txn), s.Arrives { m with op := .snpRspFwdDirty } ∧ s.cutOff h m.src = false ∧ pkgOfLine m.line = s.pkg ∧
    s.txnAt h m.txn = some x ∧ x.req.line = m.line ∧ s.holderOf h m.src ∈ x.waits ∧ x.waits.erase (s.holderOf h m.src) ≠ [] ∧ m.mask = 0) ∧
  (∃ (s : State) (h : Hub) (m : CMsg) (x : Txn), s.Arrives { m with op := .snpData } ∧ s.cutOff h m.src = false ∧ pkgOfLine m.line = s.pkg ∧
    s.txnAt h m.txn = some x ∧ x.req.line = m.line ∧ s.holderOf h m.src ∈ x.waits ∧ x.waits.erase (s.holderOf h m.src) ≠ [] ∧ m.mask = 0) ∧
  (∃ (s : State) (h : Hub) (m : CMsg) (x : Txn), s.Arrives { m with op := .snpRspPassed } ∧ s.cutOff h m.src = false ∧ pkgOfLine m.line = s.pkg ∧
    s.txnAt h m.txn = some x ∧ x.req.line = m.line ∧ s.holderOf h m.src ∈ x.waits ∧ m.fwd ∈ x.olders) :=
  ⟨⟨(Wit.mem.onHome fun q =>
    { q with txns := [{ (default : Txn) with hub := 0, slot := 7, req := { Wit.req with op := .rdUnique }, waits := [{ pkg := 0, unit := 0xF0 }, { pkg := 0, unit := 0xF5 }] }] }),
    0, { Wit.req with mask := 0, txn := 7 },
    { (default : Txn) with hub := 0, slot := 7, req := { Wit.req with op := .rdUnique }, waits := [{ pkg := 0, unit := 0xF0 }, { pkg := 0, unit := 0xF5 }] },
    arrives_of, by decide +kernel⟩,
  ⟨(Wit.mem.onHome fun q =>
    { q with txns := [{ (default : Txn) with hub := 0, slot := 7, req := { Wit.req with op := .rdUnique }, waits := [{ pkg := 0, unit := 0xF0 }, { pkg := 0, unit := 0xF5 }] }] }),
    0, { Wit.req with mask := 0, txn := 7 },
    { (default : Txn) with hub := 0, slot := 7, req := { Wit.req with op := .rdUnique }, waits := [{ pkg := 0, unit := 0xF0 }, { pkg := 0, unit := 0xF5 }] },
    arrives_of, by decide +kernel⟩,
  ⟨(Wit.mem.onHome fun q =>
    { q with txns := [{ (default : Txn) with hub := 0, slot := 7, req := { Wit.req with op := .rdUnique }, waits := [{ pkg := 0, unit := 0xF0 }, { pkg := 0, unit := 0xF5 }] }] }),
    0, { Wit.req with mask := 0, txn := 7 },
    { (default : Txn) with hub := 0, slot := 7, req := { Wit.req with op := .rdUnique }, waits := [{ pkg := 0, unit := 0xF0 }, { pkg := 0, unit := 0xF5 }] },
    arrives_of, by decide +kernel⟩,
  ⟨(Wit.mem.onHome fun q =>
    { q with txns := [{ (default : Txn) with hub := 0, slot := 7, req := { Wit.req with op := .rdUnique }, waits := [{ pkg := 0, unit := 0xF0 }, { pkg := 0, unit := 0xF5 }] }] }),
    0, { Wit.req with mask := 0, txn := 7 },
    { (default : Txn) with hub := 0, slot := 7, req := { Wit.req with op := .rdUnique }, waits := [{ pkg := 0, unit := 0xF0 }, { pkg := 0, unit := 0xF5 }] },
    arrives_of, by decide +kernel⟩,
  ⟨(Wit.mem.onHome fun q =>
    { q with txns := [{ (default : Txn) with hub := 0, slot := 7, req := { Wit.req with op := .rdUnique }, waits := [{ pkg := 0, unit := 0xF0 }, { pkg := 0, unit := 0xF5 }] }] }),
    0, { Wit.req with mask := 0, txn := 7 },
    { (default : Txn) with hub := 0, slot := 7, req := { Wit.req with op := .rdUnique }, waits := [{ pkg := 0, unit := 0xF0 }, { pkg := 0, unit := 0xF5 }] },
    arrives_of, by decide +kernel⟩,
  ⟨(Wit.mem.onHome fun q =>
    { q with txns := [{ (default : Txn) with hub := 0, slot := 7, req := { Wit.req with op := .rdUnique }, waits := [{ pkg := 0, unit := 0xF0 }, { pkg := 0, unit := 0xF5 }], olders := [{ pkg := 0, unit := 0xF6 }] }] }),
    0, { Wit.req with mask := 0, txn := 7, fwd := { pkg := 0, unit := 0xF6 } },
    { (default : Txn) with hub := 0, slot := 7, req := { Wit.req with op := .rdUnique }, waits := [{ pkg := 0, unit := 0xF0 }, { pkg := 0, unit := 0xF5 }], olders := [{ pkg := 0, unit := 0xF6 }] },
    arrives_of, by decide +kernel⟩⟩

/-- States and operands that meet the hypotheses of each clause of Obligations.DirectoryAndFences. -/
theorem test_DirectoryAndFences_hyps :
  (∃ (s : State) (h : Hub), s.f (R.HOME_MODE h) F.HOME_MODE_SWEEP_BUSY = 1) ∧
  (∃ (s : State) (h : Hub) (set : Fin (2 ^ 19)) (way : Fin 16) (e : DirEnt) (d : Nat), s.home.dir.get (dirKey h set way) = e ∧ e.valid = true ∧
    e.unsure = true ∧ e.proxy = false ∧ s.ordered h = false ∧ s.dirWay h (dirLine set e.tag) = some way.val ∧ s.lineBusy h (dirLine set e.tag) =
    false ∧ s.chanDead (dirLine set e.tag) = false ∧ (s.freeSlot h).isSome = true ∧ s.reg (R.FENCE_STAT h) = 0 ∧ s.isPoisoned (dirLine set e.tag) =
    false ∧ dirSet (dirLine set e.tag) = set ∧ dirTag (dirLine set e.tag) = e.tag ∧ d ∈ s.openDies) ∧
  (∃ (s : State) (h : Hub) (d : Die), s.pkg < 8) ∧
  (∃ (s : State) (h : Hub) (d : Die), s.pkg < 8 ∧ s.home.txns = [] ∧ s.home.proxies = [] ∧ s.home.lineq = [] ∧ s.home.proxyWait = []) ∧
  (∃ (s : State) (h : Hub), s.f (R.FENCE_STAT h) F.FENCE_STAT_WALK_BUSY = 1) ∧
  (∃ (s : State) (who : Sender) (h : Hub) (line : LineNo) (slot : Nat), s.Admitted who.who (R.LINE_CLEAR h) true ∧ s.Opens h line 0 slot ∧
    s.whoPart who.who = s.lineOwner line) ∧
  (∃ (s : State) (h : Hub) (c : Core), s.Admitted (s.selfWho c) (R.DIR_PROBE_DATA h) false ∧ s.pkg < 8 ∧ s.sharers c = [c.val]) :=
  ⟨⟨(Wit.mem.setF (R.HOME_MODE 1) F.HOME_MODE_SWEEP_BUSY 1), 1, by decide +kernel⟩,
  ⟨(Wit.mem.onHome fun q =>
    { q with dir := [(dirKey 0 (dirSet 1) 15, { (default : DirEnt) with valid := true, unsure := true, dieVec := 1, tag := dirTag 1 })] }), 0, 1,
    15, { (default : DirEnt) with valid := true, unsure := true, dieVec := 1, tag := dirTag 1 }, 0, by decide +kernel⟩,
  ⟨(Wit.mem.setF (R.FENCE_STAT 1) F.FENCE_STAT_DIE_FENCED 0xFFF), 1, 11, by decide +kernel⟩,
  ⟨Wit.mem, 1, 11, by decide +kernel⟩,
  ⟨(Wit.mem.setF (R.FENCE_STAT 1) F.FENCE_STAT_WALK_BUSY 1), 1, by decide +kernel⟩,
  ⟨Wit.mem, Wit.me, 0, 1, 0, admitted_of, opens_of, by decide +kernel⟩,
  ⟨((Wit.mem.onHome fun q =>
    { q with dir := [(dirKey 0 (dirSet 1) 15, { (default : DirEnt) with valid := true, ds := .shared, ownerDie := 0, dieVec := 3, tag := dirTag 1 })] }).setF
    (R.DIR_PROBE_ADDR 0) F.DIR_PROBE_ADDR_PA 1), 0, 0, admitted_of, by decide +kernel⟩⟩

/-- States and operands that meet the hypotheses of each clause of Obligations.DramAccesses. -/
theorem test_DramAccesses_hyps :
  (∃ (s : State) (ch : Chan) (r : ChanReq) (l : Nat) (x : Txn) (n : Nat), s.chState ch = 4 ∧ s.nextReq ch false = some r ∧ s.chanOf (offOfLine
    r.line) = some (ch.val, l) ∧ lineDecode (s.stored ch l) (s.devOut ch l) = .clean ∧ r.slot = some n ∧ s.txnAt r.hub n = some x ∧ x.waits ≠ []) ∧
  (∃ (s : State) (ch : Chan) (r : ChanReq) (l dev : Nat) (y : Stored) (x : Txn) (n : Nat), s.chState ch = 4 ∧ s.nextReq ch false = some r ∧
    s.chanOf (offOfLine r.line) = some (ch.val, l) ∧ lineDecode (s.stored ch l) (s.devOut ch l) = .corrected dev y ∧ r.slot = some n ∧ s.txnAt
    r.hub n = some x ∧ x.waits ≠ []) ∧
  (∃ (s : State) (ch : Chan) (r : ChanReq) (l : Nat) (x : Txn) (n : Nat), s.chState ch = 4 ∧ s.nextReq ch false = some r ∧ s.chanOf (offOfLine
    r.line) = some (ch.val, l) ∧ lineDecode (s.stored ch l) (s.devOut ch l) = .poisoned ∧ r.hub < 2 ∧ r.slot = some n ∧ s.txnAt r.hub n = some x ∧
    x.waits ≠ []) ∧
  (∃ (s : State) (ch : Chan) (r : ChanReq) (l : Nat) (x : Txn) (n : Nat), s.chState ch = 4 ∧ s.nextReq ch false = some r ∧ s.chanOf (offOfLine
    r.line) = some (ch.val, l) ∧ lineDecode (s.stored ch l) (s.devOut ch l) = .failed ∧ s.pageStrength r.line = 0 ∧ r.slot = some n ∧ s.txnAt r.hub
    n = some x ∧ x.waits ≠ []) ∧
  (∃ (s : State) (ch : Chan) (r : ChanReq) (l : Nat), s.chState ch = 4 ∧ s.nextReq ch false = some r ∧ s.chanOf (offOfLine r.line) = some (ch.val,
    l) ∧ lineDecode (s.stored ch l) (s.devOut ch l) = .failed ∧ s.pageStrength r.line ≠ 0 ∧ s.isLost ch l = false) ∧
  (∃ (s : State) (c : Chan) (rank : Fin 4) (sub : Fin 2) (dev : Fin 10), s.f (R.MC_PD_CTL c) F.MC_PD_CTL_DEV_THRESH ≠ 0 ∧ s.f (R.MC_PD_CTL c)
    F.MC_PD_CTL_DEV_THRESH ≤ s.dram.devCnt.get (devKey c rank sub dev) ∧ bits (s.reg (R.MC_DEV_OUT c)) (8 * (2 * rank + sub)) 8 = 0) ∧
  (∃ (s u : State) (ch : Chan) (k : PageLock) (c l cnt : Nat) (x : Txn) (n : Nat), (s.lockDone k).rebuildPage (offOfLine k.req.line)
    (s.pageStrength k.req.line) (some (c, l)) = (u, some cnt) ∧ s.dram.locks.find? (fun k => k.req.ch = ch.val && !k.done && k.reads = []) = some k
    ∧ k.own = none ∧ k.req.wr = false ∧ s.chanOf (offOfLine k.req.line) = some (c, l) ∧ k.req.slot = some n ∧ s.txnAt k.req.hub n = some x ∧
    x.waits ≠ []) ∧
  (∃ (s u : State) (ch : Chan) (k : PageLock) (c l : Nat) (x : Txn) (n : Nat), (s.lockDone k).rebuildPage (offOfLine k.req.line) (s.pageStrength
    k.req.line) (some (c, l)) = (u, none) ∧ s.dram.locks.find? (fun k => k.req.ch = ch.val && !k.done && k.reads = []) = some k ∧ k.own = none ∧
    k.req.wr = false ∧ s.chanOf (offOfLine k.req.line) = some (c, l) ∧ k.req.slot = some n ∧ s.txnAt k.req.hub n = some x ∧ x.waits ≠ []) ∧
  (∃ (s : State) (c : Chan) (k : PageLock), s.dram.locks.find? (fun k => k.req.ch = c.val && !k.done && k.reads = []) = some k ∧ k.req.slot = none) ∧
  (∃ (s : State) (c : Chan), (∀ k ∈ s.dram.locks, k.req.ch = c.val → k.done = true ∨ k.reads ≠ [])) ∧
  (∃ (s : State) (ch : Chan) (r : ChanReq) (l : Nat), s.chState ch = 4 ∧ s.nextReq ch true = some r ∧ s.chanOf (offOfLine r.line) = some (ch.val,
    l) ∧ r.poison = false ∧ s.pageStrength r.line = 0 ∧ r.mask ≠ fullMask ∧ lineDecode (s.stored ch l) (s.devOut ch l) = .clean ∧ r.slot = none) ∧
  (∃ (s : State) (ch : Chan) (r : ChanReq) (l : Nat), s.chState ch = 4 ∧ s.nextReq ch true = some r ∧ s.chanOf (offOfLine r.line) = some (ch.val,
    l) ∧ r.poison = false ∧ s.pageStrength r.line = 0 ∧ r.mask = fullMask ∧ r.slot = none) ∧
  (∃ (s : State) (ch : Chan) (r : ChanReq) (l : Nat), s.chState ch = 4 ∧ s.nextReq ch true = some r ∧ s.chanOf (offOfLine r.line) = some (ch.val,
    l) ∧ r.poison = true ∧ s.pageStrength r.line = 0 ∧ r.slot = none) ∧
  (∃ (s : State) (ch : Chan) (r : ChanReq) (l g P i c' l' w : Nat) (x y : Stored), y = rsEncode (s.encrypt r.line (merge (s.decrypt r.line
    (storedData x)) r.data r.mask)) ∧ s.chState ch = 4 ∧ s.nextReq ch true = some r ∧ s.chanOf (offOfLine r.line) = some (ch.val, l) ∧ s.pageOf
    (offOfLine r.line) = some (g, P, i) ∧ s.pageStrength r.line = 1 ∧ s.rowLoc (offOfLine r.line) 1 = [(c', l')] ∧ s.pcWay c' l' = some w ∧
    s.pcTested (hubOfChan c') = false ∧ (c' ≠ ch.val ∨ l' % 2 ^ 34 ≠ l % 2 ^ 34) ∧ r.poison = false ∧ r.slot = none ∧ s.stored ch l = x ∧
    lineDecode x (s.devOut ch l) = .clean) ∧
  (∃ (s : State) (c : Chan) (page : Nat), s.dram.resyncs = []) ∧
  (∃ (s : State) (c : Chan) (page off i : Nat), s.dram.resyncs = [] ∧ s.pageOf off = some (s.lockGroup c, page, i) ∧ (∀ k ∈ s.dram.locks, k.group =
    s.lockGroup c → k.page = page → k.done = true)) ∧
  (∃ (s : State) (h : Hub) (set : Fin 1024) (way : Fin 16), (s.dram.pcache.get (pcKey h set way)).valid = true ∧ (s.dram.pcache.get (pcKey h set
    way)).dirty = false) ∧
  (∃ (s : State) (h : Hub) (set : Fin 1024) (way : Fin 16) (p : PLine) (off j : Nat), s.dram.pcache.get (pcKey h set way) = p ∧ p.valid = true ∧
    p.dirty = true ∧ p.ch < 16 ∧ s.slotPage p.ch p.addr = some (off, j) ∧ s.pageLocked off = false) ∧
  (∃ (s : State) (h : Hub) (set : Fin 1024) (way : Fin 16) (p : PLine) (off j : Nat), s.dram.pcache.get (pcKey h set way) = p ∧ p.valid = true ∧
    p.dirty = true ∧ s.slotPage p.ch p.addr = some (off, j) ∧ s.pageLocked off = true) ∧
  (∃ (s : State) (r d off c' l' : Nat), (∀ e ∈ s.pageLoc off, s.chState e.1 ≠ 6 ∧ lineDecode (s.stored e.1 e.2) (s.devOut e.1 e.2) = .clean) ∧ s.f
    (R.MC_RESTRIPE 0) F.MC_RESTRIPE_BUSY = 1 ∧ s.f (R.MC_RESTRIPE 0) F.MC_RESTRIPE_REGION = r ∧ s.f (R.MC_RESTRIPE 0) F.MC_RESTRIPE_DONE_PAGES = d
    ∧ d + 1 < s.f (R.MR_SIZE 0 r) F.MR_SIZE_SIZE * 512 ∧ d + 1 < 2 ^ F.MC_RESTRIPE_DONE_PAGES.width ∧ off = offOfLine (s.f (R.MR_BASE 0 r)
    F.MR_BASE_BASE * 2 ^ 15 + d * 64) ∧ s.pageLocked off = false ∧ s.f (R.MR_BASE 0 r) F.MR_BASE_PREV_S = 0 ∧ s.f (R.MR_BASE 0 r)
    F.MR_BASE_STRENGTH = 1 ∧ s.rowLoc off 1 = [(c', l')] ∧ s.chState c' ≠ 6) ∧
  (∃ (s : State), s.f (R.MC_RESTRIPE 0) F.MC_RESTRIPE_DONE_PAGES < s.f (R.MR_SIZE 0 (s.f (R.MC_RESTRIPE 0) F.MC_RESTRIPE_REGION)) F.MR_SIZE_SIZE *
    512 ∧ s.pageLocked (offOfLine (s.f (R.MR_BASE 0 (s.f (R.MC_RESTRIPE 0) F.MC_RESTRIPE_REGION)) F.MR_BASE_BASE * 2 ^ 15 + s.f (R.MC_RESTRIPE 0)
    F.MC_RESTRIPE_DONE_PAGES * 64)) = true) ∧
  (∃ (s : State), s.f (R.MC_RESTRIPE 0) F.MC_RESTRIPE_BUSY = 1 ∧ s.f (R.MR_SIZE 0 (s.f (R.MC_RESTRIPE 0) F.MC_RESTRIPE_REGION)) F.MR_SIZE_SIZE *
    512 ≤ s.f (R.MC_RESTRIPE 0) F.MC_RESTRIPE_DONE_PAGES ∧ s.dram.restripePend = []) :=
  ⟨⟨Wit.chan 0 [Wit.rq false (some 7)], 0, Wit.rq false (some 7), 1, Wit.tx, 7, by decide +kernel⟩,
  ⟨Wit.chan 1 [Wit.rq false (some 7)], 0, Wit.rq false (some 7), 1, 0, 0, Wit.tx, 7, by decide +kernel⟩,
  ⟨Wit.chan poisonMarker [Wit.rq false (some 7)], 0, Wit.rq false (some 7), 1, Wit.tx, 7, by decide +kernel⟩,
  ⟨Wit.chan Wit.torn [Wit.rq false (some 7)], 0, Wit.rq false (some 7), 1, Wit.tx, 7, by decide +kernel⟩,
  ⟨Wit.strong (Wit.chan Wit.torn [Wit.rq false (some 7)]), 0, Wit.rq false (some 7), 1, by decide +kernel⟩,
  ⟨((Wit.mem.setF (R.MC_PD_CTL 15) F.MC_PD_CTL_DEV_THRESH 2).onDram fun d => { d with devCnt := [(devKey 15 3 1 9, 2)] }), 15, 3, 1, 9, by
    decide +kernel⟩,
  ⟨Wit.rebuild, ((Wit.rebuild.lockDone (Wit.lock (Wit.rq false (some 7)))).rebuildPage 1 1 (some (0, 1))).1, 0, Wit.lock (Wit.rq false (some 7)),
    0, 1, 1, Wit.tx, 7, rebuild_solved, by decide +kernel⟩,
  ⟨Wit.failing, ((Wit.failing.lockDone (Wit.lock (Wit.rq false (some 7)))).rebuildPage 1 1 (some (0, 1))).1, 0, Wit.lock (Wit.rq false (some 7)),
    0, 1, Wit.tx, 7, rebuild_failed, by decide +kernel⟩,
  ⟨Wit.mem.onDram (fun d => { d with locks := [Wit.lock (Wit.rq false none)] }), 0, Wit.lock (Wit.rq false none), by decide +kernel⟩,
  ⟨Wit.mem.onDram (fun d => { d with locks := [{ Wit.lock (Wit.rq false none) with reads := [0] }] }), 0, by decide +kernel⟩,
  ⟨Wit.chan 0 [Wit.rq true none], 0, Wit.rq true none, 1, by decide +kernel⟩,
  ⟨Wit.chan Wit.torn [{ Wit.rq true none with mask := fullMask, full := true }], 0, { Wit.rq true none with mask := fullMask, full := true }, 1, by
    decide +kernel⟩,
  ⟨Wit.chan 0 [{ Wit.rq true none with poison := true }], 0, { Wit.rq true none with poison := true }, 1, by decide +kernel⟩,
  ⟨((Wit.strong (Wit.chan 0 [Wit.rq true none])).onDram fun d =>
    { d with pcache := [(pcKey 0 (pcSet 32768) 3, { valid := true, ch := 0, addr := 32768, dirty := false, data := 0 })] }), 0, Wit.rq true none,
    1, 0, 0, 1, 0, 32768, 3, 0, rsEncode ((((Wit.strong (Wit.chan 0 [Wit.rq true none])).onDram fun d =>
    { d with pcache := [(pcKey 0 (pcSet 32768) 3, { valid := true, ch := 0, addr := 32768, dirty := false, data := 0 })] })).encrypt 1 (merge
    ((((Wit.strong (Wit.chan 0 [Wit.rq true none])).onDram fun d =>
    { d with pcache := [(pcKey 0 (pcSet 32768) 3, { valid := true, ch := 0, addr := 32768, dirty := false, data := 0 })] })).decrypt 1 (storedData
    0)) 5 1)), rfl, by decide +kernel⟩,
  ⟨Wit.mem.onDram (fun d => { d with locks := [{ Wit.lock default with done := true }] }), 0, 0, by decide +kernel⟩,
  ⟨Wit.mem.onDram (fun d => { d with locks := [{ Wit.lock default with done := true }] }), 0, 0, 1, 1, by decide +kernel⟩,
  ⟨(Wit.mem.onDram fun d => { d with pcache := [(pcKey 1 1023 15, { (default : PLine) with valid := true, ch := 8 })] }), 1, 1023, 15, by
    decide +kernel⟩,
  ⟨((Wit.strong (Wit.chan 0 [])).onDram fun d =>
    { d with pcache := [(pcKey 0 0 15, { valid := true, ch := 0, addr := 32768, dirty := true, data := 0 })], locks := [] }), 0, 0, 15,
    { valid := true, ch := 0, addr := 32768, dirty := true, data := 0 }, 0, 0, by decide +kernel⟩,
  ⟨((Wit.strong (Wit.chan 0 [])).onDram fun d =>
    { d with pcache := [(pcKey 0 0 15, { valid := true, ch := 0, addr := 32768, dirty := true, data := 0 })], locks := [Wit.lock default] }), 0, 0,
    15, { valid := true, ch := 0, addr := 32768, dirty := true, data := 0 }, 0, 0, by decide +kernel⟩,
  ⟨((Wit.strong Wit.mem).setF (R.MC_RESTRIPE 0) F.MC_RESTRIPE_BUSY 1).setF (R.MR_BASE 0 0) F.MR_BASE_PREV_S 0, 0, 0, 0, 0, 32768, page_zero, by
    decide +kernel⟩,
  ⟨Wit.mem.onDram (fun d => { d with locks := [Wit.lock default] }), by decide +kernel⟩,
  ⟨(((Wit.mem.setF (R.MC_RESTRIPE 0) F.MC_RESTRIPE_BUSY 1).setF (R.MR_BASE 0 0) F.MR_BASE_STRENGTH 2).setF (R.MC_RESTRIPE 0)
    F.MC_RESTRIPE_DONE_PAGES 512), by decide +kernel⟩⟩

/-- States and operands that meet the hypotheses of each clause of Obligations.Channels. -/
theorem test_Channels_hyps :
  (∃ (s : State) (c : Chan) (rank : Fin 4), s.f (R.MC_PD_CTL c) F.MC_PD_CTL_IDLE ≠ 0 ∧ s.chState c = 4 ∧ rank < s.ranks c ∧ (s.f (R.MC_PD_STAT c)
    F.MC_PD_STAT_IN_PD).testBit rank = false ∧ (∀ r ∈ s.dram.queue, r.ch ≠ c.val)) ∧
  (∃ (s : State) (c : Chan) (rank : Fin 4), s.chState c = 4 ∧ rank < s.ranks c) ∧
  (∃ (s : State) (c : Chan) (rank : Fin 4), s.chState c = 4 ∧ rank < s.ranks c ∧ s.dram.calAt.get (c * 4 + rank) + 1024 ≤ s.now) ∧
  (∃ (s : State) (c : Chan) (rank : Fin 4), s.now < s.dram.calAt.get (c * 4 + rank) + 1024) ∧
  (∃ (s : State) (c : Chan) (l : Nat), s.chState c = 4 ∧ s.f (R.MC_SCRUB_CTL c) F.MC_SCRUB_CTL_EN = 1 ∧ s.dram.scrubLeft.get c ≠ 0 ∧ (∀ r ∈
    s.dram.queue, r.ch ≠ c.val) ∧ s.f (R.MC_SCRUB_POS c) F.MC_SCRUB_POS_ADDR = l ∧ s.scrubSkips c l = false ∧ l + 1 < s.chanLines c ∧ l + 1 < 2 ^
    F.MC_SCRUB_POS_ADDR.width ∧ lineDecode (s.stored c l) (s.devOut c l) = .clean ∧ (∀ k < 4, s.calDue c k = false) ∧ (∀ k ∈ s.dram.locks, k.done =
    true ∨ (k.req.ch ≠ c.val ∧ c.val ∉ k.reads))) ∧
  (∃ (s : State) (c : Chan) (l : Nat), s.chState c = 4 ∧ s.f (R.MC_SCRUB_CTL c) F.MC_SCRUB_CTL_EN = 1 ∧ s.dram.scrubLeft.get c ≠ 0 ∧ (∀ r ∈
    s.dram.queue, r.ch ≠ c.val) ∧ s.f (R.MC_SCRUB_POS c) F.MC_SCRUB_POS_ADDR = l ∧ s.scrubSkips c l = false ∧ l + 1 < s.chanLines c ∧ l + 1 < 2 ^
    F.MC_SCRUB_POS_ADDR.width ∧ lineDecode (s.stored c l) (s.devOut c l) = .failed ∧ l < s.usable c ∧ s.pageStrength (s.lineOf (s.offOf c l)) ≠ 0 ∧
    (s.pageOf (s.offOf c l)).isSome = true ∧ s.isLost c l = false ∧ (∀ k < 4, s.calDue c k = false) ∧ (∀ k ∈ s.dram.locks, k.done = true ∨
    (k.req.ch ≠ c.val ∧ c.val ∉ k.reads))) ∧
  (∃ (s : State) (c : Chan) (r : ChanReq), r ∈ s.dram.queue ∧ r.ch = c.val) ∧
  (∃ (s : State) (c : Chan), s.chState c = 3 ∧ s.boot.stage ≠ 4 ∧ s.locked = false) ∧
  (∃ (s : State) (c : Chan), s.chState c = 4 ∧ s.dram.caRetry.get c < 3) ∧
  (∃ (s : State) (c : Chan), s.chState c = 4 ∧ 3 ≤ s.dram.caRetry.get c) ∧
  (∃ (s : State) (c : Chan), s.chState c = 4) :=
  ⟨⟨((((Wit.mem.setF (R.MC_INFO 0) F.MC_INFO_MODULES 2).setF (R.MC_INFO 0) F.MC_INFO_PRANKS 2).setF (R.MC_PD_CTL 0) F.MC_PD_CTL_IDLE 5)), 0, 3, by
    decide +kernel⟩,
  ⟨((((Wit.mem.setF (R.MC_INFO 0) F.MC_INFO_MODULES 2).setF (R.MC_INFO 0) F.MC_INFO_PRANKS 2).setF (R.MC_PD_CTL 0) F.MC_PD_CTL_IDLE 5).setF
    (R.MC_STAT 0) F.MC_STAT_HOT 1), 0, 3, by decide +kernel⟩,
  ⟨{ (((Wit.mem.setF (R.MC_INFO 0) F.MC_INFO_MODULES 2).setF (R.MC_INFO 0) F.MC_INFO_PRANKS 2).setF (R.MC_PD_CTL 0) F.MC_PD_CTL_IDLE 5) with beat := { Wit.mem.beat with now := 1024 } },
    0, 3, by decide +kernel⟩,
  ⟨(((Wit.mem.setF (R.MC_INFO 0) F.MC_INFO_MODULES 2).setF (R.MC_INFO 0) F.MC_INFO_PRANKS 2).setF (R.MC_PD_CTL 0) F.MC_PD_CTL_IDLE 5), 0, 3, by
    decide +kernel⟩,
  ⟨((Wit.mem.setF (R.MC_SCRUB_CTL 0) F.MC_SCRUB_CTL_EN 1).onDram fun d => { d with scrubLeft := [(0, 3)] }), 0, 0, by decide +kernel⟩,
  ⟨(((Wit.strong (Wit.chan Wit.torn [])).setF (R.MC_SCRUB_CTL 0) F.MC_SCRUB_CTL_EN 1).setF (R.MC_SCRUB_POS 0) F.MC_SCRUB_POS_ADDR 1).onDram (fun d
    => { d with scrubLeft := [(0, 3)] }), 0, 1, by decide +kernel⟩,
  ⟨Wit.chan 0 [Wit.rq false (some 7)], 0, Wit.rq false (some 7), by decide +kernel⟩,
  ⟨{ (Wit.mem.setF (R.MC_STAT 0) F.MC_STAT_STATE 3) with dram := { Wit.mem.dram with mem := [(3, 9)] } }, 0, by decide +kernel⟩,
  ⟨(Wit.mem.onDram fun d => { d with caRetry := [(0, 2)] }), 0, by decide +kernel⟩,
  ⟨(Wit.mem.onDram fun d => { d with caRetry := [(0, 3)] }), 0, by decide +kernel⟩,
  ⟨Wit.mem, 0, by decide +kernel⟩⟩

/-- States and operands that meet the hypotheses of each clause of Obligations.MemoryTraining. -/
theorem test_MemoryTraining_hyps :
  (∃ (s : State) (c : Chan) (v : Word), s.chState c ≠ 4 ∧ s.chState c ≠ 6 ∧ s.f (R.TRN_STAT c) F.TRN_STAT_BUSY = 0 ∧ F.TRN_CTL_PATTERN.get v = 2 ∧
    F.TRN_CTL_LINES.get v = 1 ∧ s.trnStart c (s.f (R.TRN_ADDR c) F.TRN_ADDR_ADDR) (F.TRN_CTL_RANK.get v) (F.TRN_CTL_SUBCH.get v) < s.chanLines c ∧
    s.locked = false) ∧
  (∃ (s : State) (c : Chan) (v : Word), s.chState c ≠ 4 ∧ s.chState c ≠ 6 ∧ s.f (R.TRN_STAT c) F.TRN_STAT_BUSY = 0 ∧ F.TRN_CTL_PATTERN.get v = 2 ∧
    F.TRN_CTL_LINES.get v = 1 ∧ s.trnStart c (s.f (R.TRN_ADDR c) F.TRN_ADDR_ADDR) (F.TRN_CTL_RANK.get v) (F.TRN_CTL_SUBCH.get v) < s.chanLines c ∧
    s.locked = false) ∧
  (∃ (s : State) (c : Chan) (v : Word), s.chState c ≠ 4 ∧ s.f (R.TRN_STAT c) F.TRN_STAT_BUSY = 0 ∧ s.locked = false) ∧
  (∃ (s : State) (c : Chan) (bad : List Nat) (lanes : BitVec 40) (strobe : BitVec 2), s.f (R.TRN_STAT c) F.TRN_STAT_BUSY = 1 ∧ s.f (R.TRN_CTL c)
    F.TRN_CTL_OP ≠ 0 ∧ bad.length < 2 ^ F.TRN_STAT_MISMATCH.width) :=
  ⟨⟨(Wit.mem.setF (R.MC_STAT 0) F.MC_STAT_STATE 2), 0, (F.TRN_CTL_LINES.set (F.TRN_CTL_PATTERN.set 0 2) 1), by decide +kernel⟩,
  ⟨(Wit.mem.setF (R.MC_STAT 0) F.MC_STAT_STATE 2), 0, (F.TRN_CTL_LINES.set (F.TRN_CTL_PATTERN.set 0 2) 1), by decide +kernel⟩,
  ⟨(Wit.mem.setF (R.MC_STAT 0) F.MC_STAT_STATE 2), 0, (F.TRN_CTL_LINES.set (F.TRN_CTL_PATTERN.set 0 2) 1), by decide +kernel⟩,
  ⟨((Wit.mem.setF (R.TRN_CTL 15) F.TRN_CTL_OP 1).setF (R.TRN_STAT 15) F.TRN_STAT_BUSY 1), 15, [3, 5], 0xFFFFFFFFFF, 2, by decide +kernel⟩⟩

/-- States and operands that meet the hypotheses of each clause of Obligations.PowerBudget. -/
theorem test_PowerBudget_hyps :
  (∃ (s : State) (h : Hub) (u : Fin 14), u.val < 12 ∧ .report h u ∈ s.sent ∧ (∀ d ∈ s.reporters h, d = u.val ∨ (s.unitPwr d).reported = true)) ∧
  (∃ (s : State) (h u : Nat), .report h u ∈ s.sent) ∧
  (∃ (s : State) (u : Fin 14) (b : Fin 8), .power u b ∈ s.sent ∧ s.changing u = false ∧ s.railFault u = false ∧ b.val ≠ s.level u) ∧
  (∃ (s : State) (u : Fin 14), s.pwr.wakeStep ≠ 1 ∧ s.changing u = true ∧ (s.unitPwr u).kept = none ∧ (s.unitPwr u).goal < 8) ∧
  (∃ (s : State) (u : Fin 14), s.changing u = true ∧ (s.unitPwr u).kept = none ∧ (s.unitPwr u).first = true) ∧
  (∃ (s : State) (d : Die), d.val ∈ s.pwr.waking ∧ s.linkActive (8 + d) = true) ∧
  (∃ (s : State) (who : Sender) (v : Word), s.Admitted who.who R.REST_REQ true) ∧
  (∃ (s : State) (who : Sender) (v : Word), s.Admitted who.who R.PWR_HUB_REQ true) ∧
  (∃ (s : State) (who : Sender) (d : Die) (v : Word), s.Admitted who.who (R.CD_PL_REQ_0 d) true) ∧
  (∃ (s : State) (d : Die) (k : Fin 2), (d.val, k.val) ∈ s.pwr.drain ∧ (∀ c ∈ domainCores d k, s.coreState c = 0)) :=
  ⟨⟨{ Wit.sys with sent := [.report 0 0], pwr := { Wit.sys.pwr with units := [(0, { (default : UnitPwr) with reported := false })] } }, 0, 0, by
    decide +kernel⟩,
  ⟨(Wit.sys.send (.report 1 13)), 1, 13, by decide +kernel⟩,
  ⟨(Wit.sys.send (.power 13 7)), 13, 7, by decide +kernel⟩,
  ⟨((Wit.sys.setF (rUnit 0) F.PWR_DIE_CHANGING 1).updUnit 0 fun p => { p with goal := 7, fails := 1 }), 0, by decide +kernel⟩,
  ⟨((Wit.sys.setF (rUnit 13) F.PWR_DIE_CHANGING 1).updUnit 13 fun p => { p with goal := 7, fails := 2, first := true }), 13, by decide +kernel⟩,
  ⟨((Wit.sys.setF (R.LINK_STAT 19) F.LINK_STAT_STATE 5).onPwr fun p => { p with waking := [11] }), 11, by decide +kernel⟩,
  ⟨Wit.sys, Wit.me, (0xFFFF), admitted_of⟩,
  ⟨Wit.sys, Wit.me, (0xFFFFFFFFFFFFFFFF), admitted_of⟩,
  ⟨Wit.sys, Wit.me, 0, (0xFFFFFFFFFFFFFFFF), admitted_of⟩,
  ⟨(Wit.sys.onPwr fun p => { p with drain := [(5, 1)] }), 5, 1, by decide +kernel⟩⟩

/-- States and operands that meet the hypotheses of each clause of Obligations.RestAndWake. -/
theorem test_RestAndWake_hyps :
  (∃ (s : State) (p : Pkg), p.val ∈ s.others ∧ s.beat.isolated = false ∧ s.locked = false) ∧
  (∃ (s : State) (p : Pkg), p.val ∈ s.others ∧ s.beat.isolated = false ∧ s.locked = false) ∧
  (∃ (s : State), s.Inv ∧ s.restState = ST_ENTERING ∧ s.restDrained = true ∧ s.pwr.wakeLatched = false) ∧
  (∃ (s : State), s.restState = ST_ENTERING ∧ s.restDrained = true ∧ s.sec.disagreeRow < 2) ∧
  (∃ (s : State) (agree : Bool), s.restState = ST_ENTERING ∧ s.restDrained = false ∧ s.sec.differ = false) ∧
  (∃ (s : State) (a : Fin 128), s.boot.applied = true ∧ a.val = s.boot.cfg.wakeAddr + s.pkg ∧ s.restState = ST_REST ∧ s.pwr.wakeStep = 0) ∧
  (∃ (s : State) (a : Fin 128), s.boot.applied = true ∧ a.val = s.boot.cfg.wakeAddr + s.pkg ∧ s.restState = ST_ENTERING) ∧
  (∃ (s : State) (agree : Bool), s.pwr.wakeStep = 1 ∧ s.railsSet = true) ∧
  (∃ (s : State) (agree : Bool), 1 ≤ s.pwr.wakeStep ∧ s.pwr.wakeStep ≤ 4) ∧
  (∃ (s : State) (agree : Bool), s.pwr.wakeStep = 4 ∧ s.linksReady = true) :=
  ⟨⟨Wit.two, 1, by decide +kernel⟩,
  ⟨Wit.two, 1, by decide +kernel⟩,
  ⟨(Wit.sys.setRest 2), inv_of, by decide +kernel⟩,
  ⟨(Wit.sys.setRest 2), by decide +kernel⟩,
  ⟨((Wit.sys.setRest 2).onHome fun h => { h with txns := [default] }), true, by decide +kernel⟩,
  ⟨{ (Wit.sys.setRest 3) with boot := { Wit.sys.boot with cfg := { (default : Image) with wakeAddr := 0x40 } } }, 0x40, by decide +kernel⟩,
  ⟨{ (Wit.sys.setRest 2) with boot := { Wit.sys.boot with cfg := { (default : Image) with wakeAddr := 0x40 } } }, 0x40, by decide +kernel⟩,
  ⟨(((Wit.sys.setRest 3).onPwr fun p => { p with wakeStep := 1 })), true, by decide +kernel⟩,
  ⟨(((Wit.sys.setRest 3).onPwr fun p => { p with wakeStep := 4 })), true, by decide +kernel⟩,
  ⟨(((((Wit.sys.setRest 3).onPwr fun p => { p with wakeStep := 4 }).setF (R.LINK_STAT 20) F.LINK_STAT_STATE 5).setF (R.LINK_STAT 8)
    F.LINK_STAT_STATE 5).setReg R.REST_REQ 6), true, by decide +kernel⟩⟩

/-- States and operands that meet the hypotheses of each clause of Obligations.ErrorsAndAssay. -/
theorem test_ErrorsAndAssay_hyps :
  (∃ (s : State) (who : Sender) (n : Fin 32) (v : BitVec 32), s.Admitted who.who (R.ELOG_TAIL n) true ∧ v.toNat ≤ (s.err.logs.get n).written ∧
    (s.err.logs.get n).written - v.toNat ≤ 120 ∧ (s.err.logs.get n).written < 2 ^ 32) ∧
  (∃ (s : State) (h : Hub) (src : Pkg) (cause k u b : Nat) (m : BitVec 16), s.beat.isolated = false ∧ s.locked = false ∧ s.restState ≠ ST_REST ∧ (∀
    o ∈ s.err.gongs, ¬ (o.src = src.val ∧ o.cause = cause ∧ o.beat = b))) ∧
  (∃ (s : State) (h : Hub) (src : Pkg) (cause k u b : Nat) (m : BitVec 16), s.beat.isolated = false ∧ s.locked = false ∧ (∃ o ∈ s.err.gongs, o.src
    = src.val ∧ o.cause = cause ∧ o.beat = b)) ∧
  (∃ (s : State) (i : Fin 14), s.assayHead = some i.val ∧ s.assayState i = ASSAY_PREPARING ∧ (12 ≤ i.val ∨ s.dieState i = 0 ∨ s.dieFenced i = true)
    ∧ s.err.assayLevel.get i < 8 ∧ bit (s.err.assayTests.get i) 0 = true ∧ (i.val < 12 → s.taskOf false (linkTask (8 + i)) = none)) ∧
  (∃ (s : State) (i : Fin 14) (sig : Word) (e : SigRec), s.assayHead = some i.val ∧ s.assayState i = ASSAY_TESTING ∧ s.err.assayFresh = false ∧
    s.err.assayRes = none ∧ s.err.assayTest < 4 ∧ (s.boot.cfg.sigs.find? fun e => e.block = i.val && e.test = s.err.assayTest) = some e ∧ e.sig =
    sig.toNat) ∧
  (∃ (s : State) (i : Fin 14) (sig : Word) (e : SigRec), s.assayHead = some i.val ∧ s.assayState i = ASSAY_TESTING ∧ s.err.assayFresh = false ∧
    s.err.assayRes = none ∧ s.err.assayTest < 4 ∧ (s.boot.cfg.sigs.find? fun e => e.block = i.val && e.test = s.err.assayTest) = some e ∧ e.sig ≠
    sig.toNat) ∧
  (∃ (s : State) (i : Fin 14) (sig : Word), s.assayHead = some i.val ∧ s.assayState i = ASSAY_TESTING ∧ s.err.assayFresh = false ∧ s.err.assayRes =
    none ∧ s.err.assayTest < 4 ∧ (s.boot.cfg.sigs.find? fun e => e.block = i.val && e.test = s.err.assayTest) = none) ∧
  (∃ (s : State), s.pwr.thermtrip = false) :=
  ⟨⟨(((Wit.sys.record E.CRYPTO_RING_FETCH 11 4).record E.CRYPTO_RING_FETCH 11 5).record E.CRYPTO_RING_FETCH 11 6), Wit.me, 16, 2, admitted_of, by
    decide +kernel⟩,
  ⟨Wit.two, 0, 1, 0x105, 4, 7, 1001, 6, by decide +kernel⟩,
  ⟨(Wit.two.onErr fun e => { e with gongs := [{ src := 1, cause := 0x105, kind := 4, unit := 7, beat := 1001, mask := 6, done := true }] }), 0, 1,
    0x105, 4, 7, 1001, 6, by decide +kernel⟩,
  ⟨((Wit.sys.setAssay 13 2).onErr fun e =>
    { e with assayQ := [13], assayTests := [(13, 15)], assayLevel := [(13, 2)], assayTest := 0, assayRes := none }), 13, by decide +kernel⟩,
  ⟨{ ((Wit.sys.setAssay 13 3).onErr fun e => { e with assayQ := [13], assayTests := [(13, 15)], assayLevel := [(13, 2)], assayTest := 0, assayRes := none }) with boot := { Wit.sys.boot with cfg := { (default : Image) with sigs := [{ block := 13, test := 0, sig := 77 }] } } },
    13, 77, { block := 13, test := 0, sig := 77 }, by decide +kernel⟩,
  ⟨{ ((Wit.sys.setAssay 13 3).onErr fun e => { e with assayQ := [13], assayTests := [(13, 15)], assayLevel := [(13, 2)], assayTest := 0, assayRes := none }) with boot := { Wit.sys.boot with cfg := { (default : Image) with sigs := [{ block := 13, test := 0, sig := 77 }] } } },
    13, 78, { block := 13, test := 0, sig := 77 }, by decide +kernel⟩,
  ⟨((Wit.sys.setAssay 13 3).onErr fun e =>
    { e with assayQ := [13], assayTests := [(13, 15)], assayLevel := [(13, 2)], assayTest := 0, assayRes := none }), 13, 78, by decide +kernel⟩,
  ⟨(Wit.sys), by decide +kernel⟩⟩

/-- States and operands that meet the hypotheses of each clause of Obligations.TestAccessPort. -/
theorem test_TestAccessPort_hyps :
  (∃ (s : State), (s.boot.inReset = true ∨ s.locked = true)) ∧
  (∃ (s : State), s.pkgRuns = true) ∧
  (∃ (s : State), (s.boot.inReset = true ∨ s.locked = true)) ∧
  (∃ (s : State), s.pkgRuns = true) ∧
  (∃ (s : State), (s.boot.inReset = true ∨ s.locked = true)) ∧
  (∃ (s : State), s.pkgRuns = true) :=
  ⟨⟨(State.reset), by decide +kernel⟩,
  ⟨(Wit.sys), by decide +kernel⟩,
  ⟨(State.reset), by decide +kernel⟩,
  ⟨(Wit.sys), by decide +kernel⟩,
  ⟨(State.reset), by decide +kernel⟩,
  ⟨(Wit.sys), by decide +kernel⟩⟩

/-- States and operands that meet the hypotheses of each clause of Obligations.DebugSelectAndHalt. -/
theorem test_DebugSelectAndHalt_hyps :
  (∃ (s : State) (c : Core), s.dbg F.DBG_STAT_TAP_PRIVATE = 1 ∧ s.dbgScope (s.corePart c) = true) ∧
  (∃ (s : State) (c : Core), s.dbg F.DBG_STAT_TAP_PRIVATE = 0 ∧ s.pkgRuns = true) ∧
  (∃ (s : State) (c : Core), s.dbg F.DBG_STAT_TAP_PRIVATE = 1 ∧ s.dbgScope (s.corePart c) = false) ∧
  (∃ (s : State) (c : Core), s.dbg F.DBG_STAT_TAP_PRIVATE = 1 ∧ s.probes = true ∧ s.err.dbgCore = some c.val ∧ s.coreState c = 2 ∧ s.isTwin
    (s.corePart c) = false ∧ s.atCompare (mirror c) = false) ∧
  (∃ (s : State) (c : Core), s.dbg F.DBG_STAT_TAP_PRIVATE = 1 ∧ s.probes = true ∧ s.err.dbgCore = some c.val ∧ s.coreState c = 1 ∧ s.isTwin
    (s.corePart c) = false) ∧
  (∃ (s : State) (h : Bool), (s.dbg F.DBG_STAT_TAP_PRIVATE = 0 ∨ s.probes = false) ∧ s.pkgRuns = true) :=
  ⟨⟨(((((Wit.mem.setF (R.DBG_STAT 0) F.DBG_STAT_SCOPE 1).setF (R.DBG_STAT 0) F.DBG_STAT_PART 1).setF (R.DBG_STAT 0) F.DBG_STAT_TAP_PRIVATE 1).setF
    (R.DBG_STAT 0) F.DBG_STAT_CORE_PROBE 1).setF (R.DBG_STAT 0) F.DBG_STAT_ARRAY_READ 1), 0, by decide +kernel⟩,
  ⟨Wit.sys, 0, by decide +kernel⟩,
  ⟨(((((Wit.mem.setF (R.DBG_STAT 0) F.DBG_STAT_SCOPE 1).setF (R.DBG_STAT 0) F.DBG_STAT_PART 1).setF (R.DBG_STAT 0) F.DBG_STAT_TAP_PRIVATE 1).setF
    (R.DBG_STAT 0) F.DBG_STAT_CORE_PROBE 1).setF (R.DBG_STAT 0) F.DBG_STAT_ARRAY_READ 1), 5, by decide +kernel⟩,
  ⟨((((((Wit.mem.setF (R.DBG_STAT 0) F.DBG_STAT_SCOPE 1).setF (R.DBG_STAT 0) F.DBG_STAT_PART 1).setF (R.DBG_STAT 0) F.DBG_STAT_TAP_PRIVATE 1).setF
    (R.DBG_STAT 0) F.DBG_STAT_CORE_PROBE 1).setF (R.DBG_STAT 0) F.DBG_STAT_ARRAY_READ 1).onErr fun e => { e with dbgCore := some 0 }), 0, by
    decide +kernel⟩,
  ⟨Wit.dbg, 1, by decide +kernel⟩,
  ⟨Wit.sys, true, by decide +kernel⟩⟩

/-- States and operands that meet the hypotheses of each clause of Obligations.DebugAccesses. -/
theorem test_DebugAccesses_hyps :
  (∃ (s : State) (c : Core) (r : Nat) (v : Word), s.dbg F.DBG_STAT_TAP_PRIVATE = 1 ∧ s.probes = true ∧ s.err.dbgCore = some c.val ∧ s.coreState c =
    1 ∧ s.isTwin (s.corePart c) = false) ∧
  (∃ (s : State) (c : Core) (r : Nat) (v : Word), s.dbg F.DBG_STAT_TAP_PRIVATE = 1 ∧ s.probes = true ∧ s.err.dbgCore = some c.val ∧ s.coreState c =
    1 ∧ regFind (s.coreH c).debugRegs r = some v) ∧
  (∃ (s : State) (c : Core) (r : Nat), s.dbg F.DBG_STAT_TAP_PRIVATE = 1 ∧ s.probes = true ∧ s.err.dbgCore = some c.val ∧ s.coreState c = 1 ∧
    regFind (s.coreH c).debugRegs r = none) ∧
  (∃ (s : State) (c : Core) (pa : Word) (p : Nat) (v : Word), s.dbg F.DBG_STAT_TAP_PRIVATE = 1 ∧ s.probes = true ∧ s.err.dbgCore = some c.val ∧
    pa.toNat % 8 = 0 ∧ pa.toNat < 2 ^ 52 ∧ paKind pa.toNat = .dram p ∧ s.undecoded pa.toNat = none ∧ s.ioHeld (pkgOfLine (pa.toNat / 64)) = false) ∧
  (∃ (s : State) (c : Core) (pa : Word) (wr : Option Word), (∀ p off, paKind pa.toNat ≠ .cs p off) ∧ s.dbg F.DBG_STAT_TAP_PRIVATE = 1 ∧ s.probes =
    true ∧ s.err.dbgCore = some c.val ∧ pa.toNat % 8 ≠ 0) ∧
  (∃ (s : State) (c : Core) (off : Fin (2 ^ 32)) (wr : Option Word), s.dbg F.DBG_STAT_TAP_PRIVATE = 1 ∧ s.probes = true ∧ s.err.dbgCore = some
    c.val ∧ s.locked = false ∧ s.pkg < 8 ∧ off.val % 8 ≠ 0) ∧
  (∃ (s : State) (c : Core) (set way : Nat) (l : DcLine), s.dbg F.DBG_STAT_TAP_PRIVATE = 1 ∧ s.dbg F.DBG_STAT_ARRAY_READ = 1 ∧ s.err.dbgCore = some
    c.val ∧ set < 65536 ∧ way < 16 ∧ s.cache.dc.get (dcKey (dieOf c) set way) = l ∧ l.coh ≠ .i ∧ s.dbgScope l.part = true) ∧
  (∃ (s : State) (c : Core) (set way : Nat) (l : DcLine), s.dbg F.DBG_STAT_TAP_PRIVATE = 1 ∧ s.dbg F.DBG_STAT_ARRAY_READ = 1 ∧ s.err.dbgCore = some
    c.val ∧ set < 65536 ∧ way < 16 ∧ s.cache.dc.get (dcKey (dieOf c) set way) = l ∧ l.coh ≠ .i ∧ s.dbgScope l.part = false) :=
  ⟨⟨Wit.dbg, 1, 5, 99, by decide +kernel⟩,
  ⟨(Wit.dbg.updCoreH 1 fun h => { h with debugRegs := [(5, 99)] }), 1, 5, 99, by decide +kernel⟩,
  ⟨Wit.dbg, 1, 5, by decide +kernel⟩,
  ⟨Wit.dbg, 1, 0x1008, 0, 99, by decide +kernel⟩,
  ⟨Wit.dbg, 1, 0x1009, none, (fun p o h => by have e : paKind (BitVec.toNat (0x1009 : Word)) = .dram 0 := by { decide +kernel }; rw [e] at h; cases
    h), by decide +kernel⟩,
  ⟨Wit.dbg, 1, 0xFFFFFFFF, some 3, by decide +kernel⟩,
  ⟨(Wit.dbg.onCache fun k => { k with dc := [(dcKey 0 1 2, { line := 1, coh := .e, part := 1, presence := 0, data := 7, clean := false })] }), 1,
    1, 2, { line := 1, coh := .e, part := 1, presence := 0, data := 7, clean := false }, by decide +kernel⟩,
  ⟨(Wit.dbg.onCache fun k => { k with dc := [(dcKey 0 1 2, { line := 1, coh := .e, part := 2, presence := 0, data := 7, clean := false })] }), 1,
    1, 2, { line := 1, coh := .e, part := 2, presence := 0, data := 7, clean := false }, by decide +kernel⟩⟩

/-- States and operands that meet the hypotheses of each clause of Obligations.StartUp. -/
theorem test_StartUp_hyps :
  (∃ (s : State) (strap : Pkg), s.boot.inReset = true) ∧
  (∃ s : State, s.awaitsIslands = true) ∧
  (∃ s : State, s.awaitsIslands = true) ∧
  (∃ (s : State) (h : Hub) (b : List Byte) (size : Nat), s.phase = 1 ∧ (s.boot.copies.get h).done = false ∧ imageLenOk (field b 40 4) size = true ∧
    field b 40 4 ≤ b.length) ∧
  (∃ (s : State) (flipB : Bool), s.phase = 2 ∧ s.boot.selected = none) ∧
  (∃ (s : State) (task : Nat) (spd : List Spd) (k : SvcTask), s.locked = false ∧ s.boot.applied = true ∧ s.boot.stage = 1 ∧ s.taskOf false task =
    some k ∧ k.full = true ∧ s.now ≤ k.start + s.boot.cfg.linkTrain.timeLimit ∧ (s.boot.svcTasks.erase k).any (·.full) = true) ∧
  (∃ (s : State) (task : Nat) (k : SvcTask) (spd : List Spd), s.locked = false ∧ s.boot.applied = true ∧ s.boot.stage = 1 ∧ s.taskOf false task =
    some k ∧ k.full = true ∧ k.start + s.boot.cfg.linkTrain.timeLimit ≤ s.now ∧ task < 4 ∧ (s.boot.svcTasks.erase k).any (·.full) = true) ∧
  (∃ (s : State) (task : Nat) (mem : Bool) (k : SvcTask) (spd : List Spd), s.taskOf mem task = some k ∧ s.now < k.start + (s.moduleFor
    mem).timeLimit) ∧
  (∃ (s : State) (addr : Fin 128), s.busHit addr = true ∧ s.boot.applied = false) :=
  ⟨⟨State.reset, 3, by decide +kernel⟩,
  ⟨{ State.reset with boot := { State.reset.boot with inReset := false } }, by decide +kernel⟩,
  ⟨{ State.reset with boot := { State.reset.boot with inReset := false } }, by decide +kernel⟩,
  ⟨({ State.reset with boot := { State.reset.boot with inReset := false } }.setPhase 1), 1, (List.replicate 41 0 ++ [0x40] ++ List.replicate 16400
    0), 0x100000, by decide +kernel⟩,
  ⟨({ State.reset with boot := { State.reset.boot with inReset := false, copies := [(1, { (default : ImgCopy) with done := true, fault := 4 })] } }.setPhase
    2), true, by decide +kernel⟩,
  ⟨{ Wit.sys with boot := { Wit.sys.boot with stage := 1, svcTasks := [{ mem := false, task := 0, hub := 0, entry := 0, data := 0, start := 900, full := true }, { mem := false, task := 3, hub := 0, entry := 0, data := 0, start := 900, full := true }], cfg := { Wit.sys.boot.cfg with linkTrain := { Wit.sys.boot.cfg.linkTrain with timeLimit := 100 } } } },
    3, [], { mem := false, task := 3, hub := 0, entry := 0, data := 0, start := 900, full := true }, by decide +kernel⟩,
  ⟨{ Wit.sys with boot := { Wit.sys.boot with stage := 1, svcTasks := [{ mem := false, task := 0, hub := 0, entry := 0, data := 0, start := 900, full := true }, { mem := false, task := 3, hub := 0, entry := 0, data := 0, start := 900, full := true }], cfg := { Wit.sys.boot.cfg with linkTrain := { Wit.sys.boot.cfg.linkTrain with timeLimit := 100 } } } },
    3, { mem := false, task := 3, hub := 0, entry := 0, data := 0, start := 900, full := true }, [], by decide +kernel⟩,
  ⟨{ Wit.sys with boot := { Wit.sys.boot with stage := 1, svcTasks := [{ mem := false, task := 0, hub := 0, entry := 0, data := 0, start := 900, full := true }, { mem := false, task := 3, hub := 0, entry := 0, data := 0, start := 901, full := true }], cfg := { Wit.sys.boot.cfg with linkTrain := { Wit.sys.boot.cfg.linkTrain with timeLimit := 100 } } } },
    3, false, { mem := false, task := 3, hub := 0, entry := 0, data := 0, start := 901, full := true }, [], by decide +kernel⟩,
  ⟨{ State.reset with boot := { State.reset.boot with inReset := false } }, 0x60, by decide +kernel⟩⟩

/-- States and operands that meet the hypotheses of each clause of Obligations.Membership. -/
theorem test_Membership_hyps :
  (∃ (s : State) (p : FabPort) (w : Word), bits w 0 4 = 3 ∧ s.linkActive p = true) ∧
  (∃ (s : State), s.mayFound = true ∧ 1024 ≤ s.links.candSince ∧ s.pkg < 8) ∧
  (∃ (s : State) (src : Pkg) (h0 : Digest), s.isMaster = true ∧ s.pkg ∈ s.admitted ∧ src.val ∈ s.listed ∧ src.val ∉ s.admitted ∧ s.beat.isolated =
    false ∧ h0 = s.beat.h0 ∧ s.anyPeal = false ∧ s.links.join = none ∧ s.links.ticketLog.length ≤ 4096 ∧ s.locked = false) ∧
  (∃ (s : State) (src : Pkg) (h : Digest) (j : JoinH), s.pkg ∈ s.admitted ∧ s.links.join = some j ∧ j.pkg = src ∧ j.ready = false ∧ j.ends = 1 ∧ h
    = s.beat.hallmark.getD 0 0 ∧ s.beat.isolated = false ∧ s.locked = false) ∧
  (∃ (s : State) (b : Nat), s.links.joinWait = some b ∧ s.joinable = true ∧ b ≤ s.now) ∧
  (∃ (s : State) (src : Pkg), 16 ≤ s.links.lastMarker.get src ∧ src.val ∈ s.admitted) ∧
  (∃ (s : State) (src : Pkg), src.val ∈ s.admitted ∧ s.pkg ∈ s.admitted ∧ s.beat.isolated = false ∧ s.locked = false) ∧
  (∃ (s : State) (src : Fin 16) (beat : Nat), src.val < 8 ∧ src.val ∈ s.admitted ∧ src.val ≠ s.pkg ∧ s.beat.isolated = false ∧ s.locked = false) ∧
  (∃ (s : State) (src : Fin 16) (beat : Nat), 8 ≤ src.val ∧ s.pkg ∈ s.admitted ∧ s.beat.selfFenced = false ∧ s.beat.isolated = false ∧ s.locked =
    false) ∧
  (∃ (s : State) (src : Pkg) (i : Nat), s.isSponsor = true ∧ s.socketOf src = some i ∧ 0 < s.links.lostAt.get src ∧ s.links.lostAt.get src + 63 ≤
    s.now ∧ s.f (R.SKT_STAT i) F.SKT_STAT_PWR_EN = 1) :=
  ⟨⟨(Wit.sys.setF (R.LINK_STAT 7) F.LINK_STAT_STATE 5), 7, 0x13, by decide +kernel⟩,
  ⟨(({ Wit.sys with boot := { Wit.sys.boot with cfg := { (default : Image) with topo := [{ (default : TopoEntry) with pkg := 0 }] } } }.setPhase
    5).onLinks fun k => { k with cand := 1, candSince := 1024 }), by decide +kernel⟩,
  ⟨{ Wit.two with boot := { Wit.two.boot with cfg := { (default : Image) with topo := [{ (default : TopoEntry) with pkg := 0 }, { (default : TopoEntry) with pkg := 1 }, { (default : TopoEntry) with pkg := 2 }] } } },
    2, 0, by decide +kernel⟩,
  ⟨({ Wit.two with boot := { Wit.two.boot with cfg := { (default : Image) with topo := [{ (default : TopoEntry) with pkg := 0 }, { (default : TopoEntry) with pkg := 1 }, { (default : TopoEntry) with pkg := 2 }] } } }).onLinks
    (fun k => { k with join := some { pkg := 2, h0 := 0, ready := false, ends := 1 } }), 2, 0, { pkg := 2, h0 := 0, ready := false, ends := 1 }, by
    decide +kernel⟩,
  ⟨((({ Wit.sys with boot := { Wit.sys.boot with strap := 1 } }.setPhase 5).setF R.BEAT_SYNC F.BEAT_SYNC_ADOPTED 1).setF R.BEAT_SYNC
    F.BEAT_SYNC_LOCKED 1).onLinks (fun k => { k with joinWait := some 900, h0Heard := true }), 900, by decide +kernel⟩,
  ⟨({ Wit.two with boot := { Wit.two.boot with cfg := { (default : Image) with topo := [{ (default : TopoEntry) with pkg := 0 }, { (default : TopoEntry) with pkg := 1 }, { (default : TopoEntry) with pkg := 2 }] } } }).onLinks
    (fun k => { k with lastMarker := [(1, 16)] }), 1, by decide +kernel⟩,
  ⟨{ Wit.two with boot := { Wit.two.boot with cfg := { (default : Image) with topo := [{ (default : TopoEntry) with pkg := 0 }, { (default : TopoEntry) with pkg := 1 }, { (default : TopoEntry) with pkg := 2 }] } } },
    1, by decide +kernel⟩,
  ⟨{ Wit.two with boot := { Wit.two.boot with cfg := { (default : Image) with topo := [{ (default : TopoEntry) with pkg := 0 }, { (default : TopoEntry) with pkg := 1 }, { (default : TopoEntry) with pkg := 2 }] } } },
    1, 900, by decide +kernel⟩,
  ⟨{ Wit.two with boot := { Wit.two.boot with cfg := { (default : Image) with topo := [{ (default : TopoEntry) with pkg := 0 }, { (default : TopoEntry) with pkg := 1 }, { (default : TopoEntry) with pkg := 2 }] } } },
    9, 900, by decide +kernel⟩,
  ⟨((({ Wit.two with boot := { Wit.two.boot with cfg := { (default : Image) with topo := [{ (default : TopoEntry) with pkg := 0 }, { (default : TopoEntry) with pkg := 1 }, { (default : TopoEntry) with pkg := 2 }] } } }).setF
    (R.SKT_STAT 3) F.SKT_STAT_STATE 7).setF (R.SKT_STAT 1) F.SKT_STAT_PWR_EN 1).onLinks (fun k => { k with lostAt := [(1, 937)] }), 1, 1, by
    decide +kernel⟩⟩

/-- States and operands that meet the hypotheses of each clause of Obligations.Sockets. -/
theorem test_Sockets_hyps :
  (∃ (s : State) (i : Fin 4), s.isSponsor = true ∧ s.f (R.SKT_STAT i) F.SKT_STAT_PRSNT = 0 ∧ s.sktState i = 0) ∧
  (∃ (s : State) (i : Fin 4), s.isSponsor = true ∧ s.f (R.SKT_CTL i) F.SKT_CTL_BUTTON_EN = 1 ∧ s.sktState i = 1) ∧
  (∃ (s : State) (i : Fin 4), s.isSponsor = true ∧ s.sktState i = 2) ∧
  (∃ (s : State) (i : Fin 4), s.isSponsor = true ∧ s.f (R.SKT_STAT i) F.SKT_STAT_PWR_GOOD = 1 ∧ s.f (R.SKT_STAT i) F.SKT_STAT_PWR_EN = 1) ∧
  (∃ (s : State) (i : Fin 4), s.isSponsor = true ∧ s.sktState i = 2) ∧
  (∃ (s : State) (who : Sender) (i : Fin 4), s.Admitted who.who (R.SKT_CTL i) true ∧ s.isSponsor = true ∧ s.sktState i = 1) ∧
  (∃ (s : State) (who : Sender) (i : Fin 4) (p : Nat), s.Admitted who.who (R.SKT_CTL i) true ∧ s.isSponsor = true ∧ s.isMaster = false ∧ s.sktState
    i = 4 ∧ s.socketPkg i = some p ∧ s.links.leave = none) ∧
  (∃ (s : State) (who : Sender) (i : Fin 4), s.Admitted who.who (R.SKT_CTL i) true ∧ s.isSponsor = true ∧ s.sktState i = 7 ∧ s.f (R.SKT_STAT i)
    F.SKT_STAT_PRSNT = 1) ∧
  (∃ (s : State) (src : Pkg) (p n : Nat), s.links.leave = some (p, 1, n) ∧ s.isMaster = true ∧ src.val ≠ s.pkg ∧ (∀ q ∈ s.admitted, q = src.val ∨ q
    ∈ s.links.leaveDone) ∧ s.beat.isolated = false ∧ s.locked = false) ∧
  (∃ (s : State) (src : Pkg) (p n q : Nat), s.links.leave = some (p, 1, n) ∧ s.isMaster = true ∧ src.val ≠ s.pkg ∧ q ∈ s.admitted ∧ q ≠ src.val ∧ q
    ∉ s.links.leaveDone ∧ s.beat.isolated = false ∧ s.locked = false) ∧
  (∃ (s : State) (i : Fin 4) (b : Nat), (i.val, b) ∈ s.links.pwrEnDrop ∧ b ≤ s.now ∧ s.f (R.SKT_STAT i) F.SKT_STAT_PWR_EN = 1 ∧ s.isSponsor = true) :=
  ⟨⟨{ Wit.two with boot := { Wit.two.boot with cfg := { (default : Image) with topo := [{ (default : TopoEntry) with pkg := 0 }, { (default : TopoEntry) with pkg := 1 }, { (default : TopoEntry) with pkg := 2 }] } } },
    3, by decide +kernel⟩,
  ⟨(({ Wit.two with boot := { Wit.two.boot with cfg := { (default : Image) with topo := [{ (default : TopoEntry) with pkg := 0 }, { (default : TopoEntry) with pkg := 1 }, { (default : TopoEntry) with pkg := 2 }] } } }).setF
    (R.SKT_STAT 3) F.SKT_STAT_STATE 1).setF (R.SKT_CTL 3) F.SKT_CTL_BUTTON_EN 1, 3, by decide +kernel⟩,
  ⟨({ Wit.two with boot := { Wit.two.boot with cfg := { (default : Image) with topo := [{ (default : TopoEntry) with pkg := 0 }, { (default : TopoEntry) with pkg := 1 }, { (default : TopoEntry) with pkg := 2 }] } } }).setF
    (R.SKT_STAT 3) F.SKT_STAT_STATE 2, 3, by decide +kernel⟩,
  ⟨((({ Wit.two with boot := { Wit.two.boot with cfg := { (default : Image) with topo := [{ (default : TopoEntry) with pkg := 0 }, { (default : TopoEntry) with pkg := 1 }, { (default : TopoEntry) with pkg := 2 }] } } }).setF
    (R.SKT_STAT 3) F.SKT_STAT_STATE 3).setF (R.SKT_STAT 3) F.SKT_STAT_PWR_GOOD 1).setF (R.SKT_STAT 3) F.SKT_STAT_PWR_EN 1, 3, by decide +kernel⟩,
  ⟨(({ Wit.two with boot := { Wit.two.boot with cfg := { (default : Image) with topo := [{ (default : TopoEntry) with pkg := 0 }, { (default : TopoEntry) with pkg := 1 }, { (default : TopoEntry) with pkg := 2 }] } } }).setF
    (R.SKT_STAT 3) F.SKT_STAT_STATE 2).setF (R.SKT_STAT 3) F.SKT_STAT_PWR_EN 1, 3, by decide +kernel⟩,
  ⟨({ Wit.two with boot := { Wit.two.boot with cfg := { (default : Image) with topo := [{ (default : TopoEntry) with pkg := 0 }, { (default : TopoEntry) with pkg := 1 }, { (default : TopoEntry) with pkg := 2 }] } } }).setF
    (R.SKT_STAT 3) F.SKT_STAT_STATE 1, Wit.me, 3, admitted_of, by decide +kernel⟩,
  ⟨((({ Wit.sys with boot := { Wit.sys.boot with strap := 1, cfg := { (default : Image) with topo := [{ (default : TopoEntry) with pkg := 0, board := 5 }, { (default : TopoEntry) with pkg := 1 }] } } }).setF
    R.SYS_STAT F.SYS_STAT_ADMITTED 3).setF (R.SKT_STAT 1) F.SKT_STAT_STATE 4), (.core 1 0 1), 1, 1, admitted_of, by decide +kernel⟩,
  ⟨(({ Wit.two with boot := { Wit.two.boot with cfg := { (default : Image) with topo := [{ (default : TopoEntry) with pkg := 0 }, { (default : TopoEntry) with pkg := 1 }, { (default : TopoEntry) with pkg := 2 }] } } }).setF
    (R.SKT_STAT 3) F.SKT_STAT_STATE 7).setF (R.SKT_STAT 3) F.SKT_STAT_PRSNT 1, Wit.me, 3, admitted_of, by decide +kernel⟩,
  ⟨({ Wit.two with boot := { Wit.two.boot with cfg := { (default : Image) with topo := [{ (default : TopoEntry) with pkg := 0 }, { (default : TopoEntry) with pkg := 1 }, { (default : TopoEntry) with pkg := 2 }] } } }).onLinks
    (fun k => { k with leave := some (1, 1, 2), leaveDone := [0] }), 1, 1, 2, by decide +kernel⟩,
  ⟨({ Wit.two with boot := { Wit.two.boot with cfg := { (default : Image) with topo := [{ (default : TopoEntry) with pkg := 0 }, { (default : TopoEntry) with pkg := 1 }, { (default : TopoEntry) with pkg := 2 }] } } }).onLinks
    (fun k => { k with leave := some (1, 1, 2) }), 1, 1, 2, 0, by decide +kernel⟩,
  ⟨(({ Wit.two with boot := { Wit.two.boot with cfg := { (default : Image) with topo := [{ (default : TopoEntry) with pkg := 0 }, { (default : TopoEntry) with pkg := 1 }, { (default : TopoEntry) with pkg := 2 }] } } }).setF
    (R.SKT_STAT 3) F.SKT_STAT_STATE 6).setF (R.SKT_STAT 3) F.SKT_STAT_PWR_EN 1 |>.onLinks (fun k => { k with pwrEnDrop := [(3, 999)] }), 3, 999, by
    decide +kernel⟩⟩

/-- States and operands that meet the hypotheses of each clause of Obligations.IslandsAndImages. -/
theorem test_IslandsAndImages_hyps :
  (∃ (s : State) (x : Xfer) (agree : Bool), s.sec.xfers = [x] ∧ x.newKey = none ∧ s.xferLeft x = false ∧ s.sec.heldReq = []) ∧
  (∃ (s : State) (img : List Byte), s.sec.imgUpd = some img) ∧
  (∃ (s : State) (img : List Byte), s.sec.imgUpd = some img ∧ .flash 1 img ∈ s.sent) ∧
  (∃ (s : State) (img : List Byte), s.sec.imgUpd = some img ∧ .flash 1 img ∉ s.sent) ∧
  (∃ (s : State) (p : Sys2Proof.Part) (c : StartCopy), (s.sec.copies.find? fun c => c.part = p.val && !c.done && c.pkg = s.pkg) = some c ∧ c.bad =
    true) ∧
  (∃ (s : State) (p : Sys2Proof.Part) (c : StartCopy), (s.sec.copies.find? fun c => c.part = p.val && !c.done && c.pkg = s.pkg) = some c ∧ c.bad =
    false ∧ c.need = 0 ∧ c.wait = 0 ∧ (∀ e ∈ s.sec.copies, e.part = p.val → e = c)) ∧
  (∃ (s : State) (p : Sys2Proof.Part) (c : StartCopy), (s.sec.copies.find? fun c => c.part = p.val && !c.done && c.pkg = s.pkg) = some c ∧ c.bad =
    false ∧ (¬ (c.need = 0 ∧ c.wait = 0))) ∧
  (∃ (s : State) (who : Sender) (sl : Slot), s.Admitted who.who (R.ATT_CTL sl) true ∧ s.f (R.ATT_STAT sl) F.ATT_STAT_BUSY = 0) ∧
  (∃ (s : State) (sl : Slot), sl.val ∈ s.sec.attesting) ∧
  (∃ (s : State) (sl : Slot), sl.val ∈ s.sec.attesting ∧ s.sec.disagreeRow < 2) ∧
  (∃ (s : State) (sl : Slot) (b : List Byte), s.sec.commands.find? (fun e => e.1 = sl.val) = some (sl.val, b) ∧ (commandOf b).kind = CMD_REST) ∧
  (∃ (s : State) (sl : Slot) (b : List Byte), s.sec.commands.find? (fun e => e.1 = sl.val) = some (sl.val, b) ∧ (commandOf b).kind = CMD_ASSAY) :=
  ⟨⟨(Wit.mem.onSec fun q => { q with xfers := [{ ranges := [(0, 16)], newKey := none, olds := [] }] }).setF R.MB_INFO F.MB_INFO_XFER_BUSY 1,
    { ranges := [(0, 16)], newKey := none, olds := [] }, true, by decide +kernel⟩,
  ⟨(Wit.sys.onSec fun q => { q with imgUpd := some [1, 2] }), [1, 2], by decide +kernel⟩,
  ⟨(Wit.sys.onSec fun q => { q with imgUpd := some [1, 2] }).send (.flash 1 [1, 2]), [1, 2], by decide +kernel⟩,
  ⟨(Wit.sys.onSec fun q => { q with imgUpd := some [1, 2] }).send (.flash 0 [1, 2]), [1, 2], by decide +kernel⟩,
  ⟨(Wit.mem.onSec fun q =>
    { q with copies := [{ (default : StartCopy) with part := 1, pkg := 0, src := 0x200, srcPart := 1, load := 0x1000, len := 4, buf := [1, 2, 3, 4], bad := true, need := 2 }] }),
    1,
    { (default : StartCopy) with part := 1, pkg := 0, src := 0x200, srcPart := 1, load := 0x1000, len := 4, buf := [1, 2, 3, 4], bad := true, need := 2 },
    by decide +kernel⟩,
  ⟨(Wit.mem.onSec fun q =>
    { q with copies := [{ (default : StartCopy) with part := 1, pkg := 0, src := 0x200, srcPart := 1, load := 0x1000, len := 4, buf := [1, 2, 3, 4], bad := false, need := 0 }] }),
    1,
    { (default : StartCopy) with part := 1, pkg := 0, src := 0x200, srcPart := 1, load := 0x1000, len := 4, buf := [1, 2, 3, 4], bad := false, need := 0 },
    by decide +kernel⟩,
  ⟨(Wit.mem.onSec fun q =>
    { q with copies := [{ (default : StartCopy) with part := 1, pkg := 0, src := 0x200, srcPart := 1, load := 0x1000, len := 4, buf := [1, 2, 3, 4], bad := false, need := 1 }] }),
    1,
    { (default : StartCopy) with part := 1, pkg := 0, src := 0x200, srcPart := 1, load := 0x1000, len := 4, buf := [1, 2, 3, 4], bad := false, need := 1 },
    by decide +kernel⟩,
  ⟨Wit.sys, Wit.me, 1, admitted_of, by decide +kernel⟩,
  ⟨(Wit.sys.onSec fun q => { q with attesting := [1] }).setF (R.ATT_STAT 1) F.ATT_STAT_BUSY 1, 1, by decide +kernel⟩,
  ⟨(Wit.sys.onSec fun q => { q with attesting := [1] }).setF (R.ATT_STAT 1) F.ATT_STAT_BUSY 1, 1, by decide +kernel⟩,
  ⟨((Wit.sys.onSec fun q => { q with commands := [(1, [0, 0, 0, 0, 0, 0, 1, 1])] }).setF (R.SLOT_STAT 1) F.SLOT_STAT_STATE 1), 1, [0, 0, 0, 0, 0,
    0, 1, 1], by decide +kernel⟩,
  ⟨((Wit.sys.onSec fun q => { q with commands := [(1, [0, 0, 0, 0, 0, 0, 1, 2])] }).setF (R.SLOT_STAT 1) F.SLOT_STAT_STATE 1), 1, [0, 0, 0, 0, 0,
    0, 1, 2], by decide +kernel⟩⟩

/-- States and operands that meet the hypotheses of each clause of Obligations.MailboxSlots. -/
theorem test_MailboxSlots_hyps :
  (∃ (s : State) (who : Sender) (sl : Slot) (len : Fin 4096), s.Admitted who.who (R.SLOT_CTL sl) true ∧ s.slotHeld sl = false ∧ s.maySubmit sl =
    true) ∧
  (∃ (s : State) (who : Sender) (sl : Slot) (len : Fin 4096), s.Admitted who.who (R.SLOT_CTL sl) true ∧ s.slotHeld sl = false ∧ s.maySubmit sl =
    false) ∧
  (∃ (s : State) (who : Sender) (sl : Slot) (len : Fin 4096), s.Admitted who.who (R.SLOT_CTL sl) true ∧ s.slotHeld sl = true) ∧
  (∃ (s : State) (who : Sender) (sl : Slot) (len : Fin 4096), s.Admitted who.who (R.SLOT_CTL sl) true ∧ s.slotHeld sl = false ∧ s.maySubmit sl =
    true) ∧
  (∃ (s : State) (who : Sender) (sl : Slot) (len : Fin 4096), s.Admitted who.who (R.SLOT_CTL sl) true ∧ s.slotHeld sl = false ∧ s.maySubmit sl =
    false) ∧
  (∃ (s : State) (who : Sender) (sl : Slot) (len : Fin 4096), s.Admitted who.who (R.SLOT_CTL sl) true ∧ s.slotHeld sl = true) ∧
  (∃ (s : State) (who : Sender) (sl : Slot) (len : Fin 4096), s.Admitted who.who (R.SLOT_CTL sl) true ∧ s.slotHeld sl = false ∧ s.slotState sl ≠ 0) ∧
  (∃ (s : State) (who : Sender) (sl : Slot) (len : Fin 4096), s.Admitted who.who (R.SLOT_CTL sl) true ∧ s.slotHeld sl = true) :=
  ⟨⟨Wit.sys.setF (R.PART_INFO 1) F.PART_INFO_MAILBOX 1, Wit.me, 1, 300, admitted_of, by decide +kernel⟩,
  ⟨Wit.sys, Wit.me, 1, 300, admitted_of, by decide +kernel⟩,
  ⟨Wit.sys.setF (R.SLOT_STAT 1) F.SLOT_STAT_STATE 2, Wit.me, 1, 300, admitted_of, by decide +kernel⟩,
  ⟨Wit.sys.setF (R.PART_INFO 1) F.PART_INFO_MAILBOX 1, Wit.me, 1, 200, admitted_of, by decide +kernel⟩,
  ⟨Wit.sys, Wit.me, 1, 300, admitted_of, by decide +kernel⟩,
  ⟨Wit.sys.setF (R.SLOT_STAT 1) F.SLOT_STAT_STATE 2, Wit.me, 1, 300, admitted_of, by decide +kernel⟩,
  ⟨((Wit.sys.setF (R.SLOT_STAT 1) F.SLOT_STAT_STATE 4).setReg (R.MB_BUF 1 7) 9), Wit.me, 1, 0, admitted_of, by decide +kernel⟩,
  ⟨Wit.sys.setF (R.SLOT_STAT 1) F.SLOT_STAT_STATE 2, Wit.me, 1, 300, admitted_of, by decide +kernel⟩⟩

/-- States and operands that meet the hypotheses of each clause of Obligations.Tickets. -/
theorem test_Tickets_hyps :
  (∃ (s : State) (sl : Slot) (b : List Byte), s.sec.vetting.find? (fun e => e.1 = sl.val) = some (sl.val, b)) ∧
  (∃ (s : State) (sl : Slot) (b : List Byte), s.sec.vetting.find? (fun e => e.1 = sl.val) = some (sl.val, b) ∧ s.sec.disagreeRow < 2) ∧
  (∃ (s : State) (src : Pkg) (sl : Slot) (b : List Byte), s.isMaster = true ∧ s.pkg ∈ s.admitted ∧ src.val ∈ s.admitted ∧ src.val ≠ s.pkg ∧
    s.beat.isolated = false ∧ s.sec.ticket = none ∧ s.f R.REST_STAT F.REST_STAT_RESTING = 0 ∧ s.f R.REST_STAT F.REST_STAT_STATE ≠ 3 ∧ s.locked =
    false) ∧
  (∃ (s : State) (src : Pkg) (sl : Slot) (b : List Byte), s.isMaster = true ∧ s.pkg ∈ s.admitted ∧ src.val ∈ s.admitted ∧ src.val ≠ s.pkg ∧
    s.beat.isolated = false ∧ s.sec.ticket.isSome = true ∧ s.locked = false) ∧
  (∃ (s : State) (src : Pkg) (b : List Byte), s.pkg ∈ s.admitted ∧ src.val = s.master ∧ s.isMaster = false ∧ s.beat.isolated = false ∧ s.f
    R.REST_STAT F.REST_STAT_STATE ≠ 3 ∧ s.locked = false) ∧
  (∃ (s : State) (src : Pkg) (b : List Byte), s.pkg ∈ s.admitted ∧ src.val = s.master ∧ s.isMaster = false ∧ s.beat.isolated = false ∧ s.f
    R.REST_STAT F.REST_STAT_STATE ≠ 3 ∧ s.sec.disagreeRow < 2 ∧ s.locked = false) ∧
  (∃ (s : State) (src : Pkg) (sl : Option Slot) (code : Nat) (p : TicketProg), s.isMaster = true ∧ s.sec.ticket = some p ∧ p.waitPkgs = [src.val] ∧
    p.refusals = [] ∧ p.seq = 0 ∧ p.origin ≠ s.pkg ∧ code ≠ 0 ∧ s.beat.isolated = false ∧ s.locked = false) ∧
  (∃ (s : State) (src : Pkg) (sl : Slot) (code : Nat), s.isMaster = false ∧ src.val = s.master ∧ (s.sec.forwarded.any fun e => e.1 = sl.val) = true
    ∧ code < 32 ∧ s.beat.isolated = false ∧ s.locked = false) ∧
  (∃ (s : State) (p : TicketProg), s.sec.ticket = some p ∧ p.waitPkgs ≠ [] ∧ p.seq = 0 ∧ p.origin ≠ s.pkg) :=
  ⟨⟨(Wit.sys.onSec fun q => { q with vetting := [(1, [1, 2])] }).setF (R.SLOT_STAT 1) F.SLOT_STAT_STATE 1, 1, [1, 2], by decide +kernel⟩,
  ⟨(Wit.sys.onSec fun q => { q with vetting := [(1, [1, 2])] }).setF (R.SLOT_STAT 1) F.SLOT_STAT_STATE 1, 1, [1, 2], by decide +kernel⟩,
  ⟨Wit.two, 1, 2, [1, 2], by decide +kernel⟩,
  ⟨(Wit.two.onSec fun q => { q with ticket := some { origin := 1, slot := 2, bytes := [7], waitPkgs := [1], refusals := [], seq := 0 } }), 1, 2,
    [1, 2], by decide +kernel⟩,
  ⟨Wit.slave, 0, [1, 2], by decide +kernel⟩,
  ⟨Wit.slave, 0, [1, 2], by decide +kernel⟩,
  ⟨(Wit.two.onSec fun q => { q with ticket := some { origin := 1, slot := 2, bytes := [7], waitPkgs := [1], refusals := [], seq := 0 } }), 1, none,
    4, { origin := 1, slot := 2, bytes := [7], waitPkgs := [1], refusals := [], seq := 0 }, by decide +kernel⟩,
  ⟨((Wit.slave.onSec fun q => { q with forwarded := [(1, [3])] }).setF (R.SLOT_STAT 1) F.SLOT_STAT_STATE 1), 0, 1, 9, by decide +kernel⟩,
  ⟨(Wit.two.onSec fun q => { q with ticket := some { origin := 1, slot := 2, bytes := [7], waitPkgs := [1], refusals := [], seq := 0 } }),
    { origin := 1, slot := 2, bytes := [7], waitPkgs := [1], refusals := [], seq := 0 }, by decide +kernel⟩⟩

/-- States and operands that meet the hypotheses of each clause of Obligations.ManagementBus. -/
theorem test_ManagementBus_hyps :
  (∃ (s : State) (a : Fin 128) (v : BitVec 16), s.busOpen a = true ∧ s.boot.cfg.pec = false ∧ v.toNat % 8 = 0 ∧ v.toNat < 2048 ∧ s.slotHeld 0 =
    false) ∧
  (∃ (s : State) (a : Fin 128) (v : BitVec 16) (p : Option Bool), s.busOpen a = true ∧ (¬ (v.toNat % 8 = 0 ∧ v.toNat < 2048))) ∧
  (∃ (s : State) (a : Fin 128) (l : List Byte), s.busOpen a = true ∧ s.boot.cfg.pec = false ∧ l.length = 8 ∧ s.sec.mgmtOff + 8 ≤ 2048 ∧ s.slotHeld
    0 = false) ∧
  (∃ (s : State) (a : Fin 128) (l : List Byte) (p : Option Bool), s.busOpen a = true ∧ (l.length < 8 ∨ 32 < l.length ∨ l.length % 8 ≠ 0 ∨ 2048 <
    s.sec.mgmtOff + l.length)) ∧
  (∃ (s : State) (a : Fin 128), s.busOpen a = true ∧ s.boot.cfg.pec = false ∧ s.slotHeld 0 = false ∧ s.sec.mgmtOff < 4096) ∧
  (∃ (s : State) (a : Fin 128), s.busOpen a = true ∧ s.boot.cfg.pec = false) ∧
  (∃ (s : State) (a : Fin 128), s.busOpen a = true ∧ s.boot.cfg.pec = false) ∧
  (∃ (s : State) (a : Fin 128), s.busHit a = true ∧ s.boot.cfg.pec = false) :=
  ⟨⟨Wit.sys, 0, 24, by decide +kernel⟩,
  ⟨Wit.sys, 0, 20, none, by decide +kernel⟩,
  ⟨Wit.sys, 0, [1, 2, 3, 4, 5, 6, 7, 8], by decide +kernel⟩,
  ⟨Wit.sys, 0, [1], none, by decide +kernel⟩,
  ⟨(Wit.sys.onSec fun q => { q with mgmtOff := 200 }), 0, by decide +kernel⟩,
  ⟨Wit.sys, 0, by decide +kernel⟩,
  ⟨Wit.sys, 0, by decide +kernel⟩,
  ⟨Wit.sys, 0, by decide +kernel⟩⟩

/-- States and operands that meet the hypotheses of each clause of Obligations.CryptoRings. -/
theorem test_CryptoRings_hyps :
  (∃ (s : State) (who : Sender) (r : Ring) (v : BitVec 16), s.Admitted who.who (R.RING_TAIL r) true ∧ (v.toNat + 65536 - s.f (R.RING_HEAD r)
    F.RING_HEAD_HEAD) % 65536 ≤ 256 ∧ s.fromHead r (s.ringH r).fetchAt ≤ s.fromHead r v.toNat) ∧
  (∃ (s : State) (who : Sender) (r : Ring) (v : BitVec 16), s.Admitted who.who (R.RING_TAIL r) true ∧ s.fromHead r v.toNat ≤ 256 ∧ s.fromHead r
    v.toNat < s.fromHead r (s.ringH r).fetchAt) ∧
  (∃ (s : State) (who : Sender) (r : Ring) (v : BitVec 16), s.Admitted who.who (R.RING_TAIL r) true ∧ 256 < (v.toNat + 65536 - s.f (R.RING_HEAD r)
    F.RING_HEAD_HEAD) % 65536) ∧
  (∃ (s : State) (r : Ring) (n : Fin 257) (k : Nat), s.Backed (s.slotPa r ((s.ringH r).fetchAt % 65536)) ∧ s.ringOn r = true ∧ s.agentQ r = [] ∧ k
    = min n.val (s.fromHead r (s.f (R.RING_TAIL r) F.RING_TAIL_TAIL) - s.fromHead r (s.ringH r).fetchAt) ∧ 0 < k) ∧
  (∃ (s : State) (r : Ring) (m q : CMsg), s.Answers r { m with op := .dataUc } q ∧ s.NoneWait ∧ q.fwd.pkg = A_FETCH ∧ s.directOf m = none ∧
    s.agentQ r = [q]) ∧
  (∃ (s : State) (r : Ring) (m q : CMsg), s.Answers r { m with op := .busErr } q ∧ s.NoneWait ∧ q.fwd.pkg = A_FETCH ∧ s.missOf m = none ∧
    s.directOf m = none ∧ s.agentQ r = [q]) ∧
  (∃ (s : State) (r : Ring) (m q : CMsg) (d : DescH), s.Answers r { m with op := .comp } q ∧ s.NoneWait ∧ s.Backed (s.complPa r d.seq) ∧ q.fwd.pkg
    = A_DST ∧ s.missOf m = none ∧ s.directOf m = none ∧ s.agentQ r = [q] ∧ (s.ringH r).exec = [d] ∧ d.seq = q.fwdTxn ∧ d.wait = 1 ∧ d.bad = false ∧
    d.done = false ∧ d.told = false) ∧
  (∃ (s : State) (r : Ring) (m q : CMsg) (d : DescH), s.Answers r { m with op := .comp } q ∧ s.NoneWait ∧ q.fwd.pkg = A_DONE ∧ s.missOf m = none ∧
    s.directOf m = none ∧ s.agentQ r = [q] ∧ (s.ringH r).exec = [d]) :=
  ⟨⟨(Wit.sys.setF (R.PART_INFO 1) F.PART_INFO_RINGS 1).setF (R.RING_HEAD 4) F.RING_HEAD_HEAD 65535 |>.setRing 4
    { (default : RingH) with fetchAt := 1 }, Wit.me, 4, 255, admitted_of, by decide +kernel⟩,
  ⟨(Wit.sys.setF (R.PART_INFO 1) F.PART_INFO_RINGS 1).setF (R.RING_HEAD 4) F.RING_HEAD_HEAD 65535 |>.setRing 4
    { (default : RingH) with fetchAt := 3, fetched := [{ (default : DescH) with seq := 0 }] }, Wit.me, 4, 1, admitted_of, by decide +kernel⟩,
  ⟨((Wit.sys.setF (R.PART_INFO 1) F.PART_INFO_RINGS 1).setF (R.RING_HEAD 4) F.RING_HEAD_HEAD 5), Wit.me, 4, 3, admitted_of, by decide +kernel⟩,
  ⟨((Wit.ring (default : DescH)).setF (R.RING_CTL 4) F.RING_CTL_EN 1).setF (R.RING_TAIL 4) F.RING_TAIL_TAIL 3, 4, 2, 2, backed_of, by
    decide +kernel⟩,
  ⟨(Wit.ring (default : DescH)).setAgentQ 4 [Wit.piece A_FETCH 65535], 4, Wit.reply, Wit.piece A_FETCH 65535, answers_of, noneWait_of, by
    decide +kernel⟩,
  ⟨(Wit.ring (default : DescH)).setAgentQ 4 [Wit.piece A_FETCH 5], 4, Wit.reply, Wit.piece A_FETCH 5, answers_of, noneWait_of, by decide +kernel⟩,
  ⟨(Wit.ring { (default : DescH) with seq := 5, wait := 1, outLen := 16, bytes := 0x100 }).setAgentQ 4 [Wit.piece A_DST 5], 4, Wit.reply, Wit.piece
    A_DST 5, { (default : DescH) with seq := 5, wait := 1, outLen := 16, bytes := 0x100 }, answers_of, noneWait_of, backed_of, by decide +kernel⟩,
  ⟨((Wit.ring { (default : DescH) with seq := 5, done := true, told := true, bytes := 0x100 }).setAgentQ 4 [Wit.piece A_DONE 5]).setReg (R.RING_CTL
    4) (F.RING_CTL_INT_EN.set (F.RING_CTL_VECTOR.set 0 40) 1), 4, Wit.reply, Wit.piece A_DONE 5,
    { (default : DescH) with seq := 5, done := true, told := true, bytes := 0x100 }, answers_of, noneWait_of, by decide +kernel⟩⟩

/-- States and operands that meet the hypotheses of each clause of Obligations.CiphersAndDigests. -/
theorem test_CiphersAndDigests_hyps :
  (∃ (s : State) (r : Ring) (d : DescH), s.Executes r 0x01 d ∧ s.Takes r d d.src.length ∧ dParam d.bytes % 4 < 2 ∧ dParam d.bytes < 8 ∧
    d.keyA.empty = false ∧ d.keyA.usage = ascii2 'D' '0' ∧ (d.keyA.alg = algA ∨ d.keyA.alg = algT) ∧ (d.keyA.mode = 'B'.toNat ∨ d.keyA.mode = (if
    (dParam d.bytes).testBit 2 then 'E'.toNat else 'D'.toNat)) ∧ dSrcLen d.bytes % blockOf d.keyA = 0) ∧
  (∃ (s : State) (r : Ring) (d : DescH), s.Executes r 0x01 d ∧ cipherPre d ≠ 0) ∧
  (∃ (s : State) (r : Ring) (d : DescH), s.Executes r 0x01 d ∧ cipherPre d = 0 ∧ dParam d.bytes % 4 < 2 ∧ dDstLen d.bytes < d.src.length) ∧
  (∃ (s : State) (r : Ring) (d : DescH) (e : ECode), s.Executes r 0x01 d ∧ cipherPre d = 0 ∧ dParam d.bytes % 4 < 2 ∧ 0 < d.src.length ∧
    d.src.length ≤ dDstLen d.bytes ∧ dDstPa d.bytes < 2 ^ 52 ∧ dDstPa d.bytes % 64 + d.src.length ≤ 64 ∧ s.undecoded (dDstPa d.bytes) = some e) ∧
  (∃ (s : State) (r : Ring) (d : DescH), s.Backed (s.complPa r d.seq) ∧ (s.ringH r).exec = [d] ∧ d.done = false ∧ d.told = false ∧ d.need = 0 ∧
    d.wait = 0 ∧ d.bad = true ∧ dOp d.bytes = 0x01 ∧ lensOk d.bytes = true ∧ s.agentQ r = [] ∧ cipherPre d = 0) ∧
  (∃ (s : State) (r : Ring) (d : DescH), s.Executes r 0x02 d ∧ s.Takes r d (hashLen (dParam d.bytes)) ∧ dParam d.bytes < 7) ∧
  (∃ (s : State) (r : Ring) (d : DescH), s.Executes r 0x02 d ∧ 7 ≤ dParam d.bytes) ∧
  (∃ (s : State) (r : Ring) (d : DescH), s.Executes r 0x02 d ∧ s.sec.disagreeRow < 2) ∧
  (∃ (s : State) (r : Ring) (d : DescH), s.Executes r 0x03 d ∧ s.Takes r d (macLen d) ∧ macPre false d = 0) ∧
  (∃ (s : State) (r : Ring) (d : DescH), s.Executes r 0x04 d ∧ macPre true d = 0) :=
  ⟨⟨(Wit.ring (Wit.run (Wit.desc 1 1 2 4 16 16 0) (Wit.key 'D' '0' 'A' 'E' 'N' 16) default (List.replicate 16 7))), 4, Wit.run (Wit.desc 1 1 2 4 16
    16 0) (Wit.key 'D' '0' 'A' 'E' 'N' 16) default (List.replicate 16 7), executes_of, takes_of, by decide +kernel⟩,
  ⟨(Wit.ring (Wit.run (Wit.desc 1 1 2 4 16 16 0) default default (List.replicate 16 7))), 4, Wit.run (Wit.desc 1 1 2 4 16 16 0) default default
    (List.replicate 16 7), executes_of, by decide +kernel⟩,
  ⟨(Wit.ring (Wit.run (Wit.desc 1 1 2 4 16 8 0) (Wit.key 'D' '0' 'A' 'E' 'N' 16) default (List.replicate 16 7))), 4, Wit.run (Wit.desc 1 1 2 4 16 8
    0) (Wit.key 'D' '0' 'A' 'E' 'N' 16) default (List.replicate 16 7), executes_of, by decide +kernel⟩,
  ⟨(Wit.ring (Wit.run ((Wit.desc 1 1 2 4 16 16 0) ||| (0x8000000 : BitVec 512) <<< 128) (Wit.key 'D' '0' 'A' 'E' 'N' 16) default (List.replicate 16
    7))), 4, Wit.run ((Wit.desc 1 1 2 4 16 16 0) ||| (0x8000000 : BitVec 512) <<< 128) (Wit.key 'D' '0' 'A' 'E' 'N' 16) default (List.replicate 16
    7), E.PA_UNMAPPED, executes_of, by decide +kernel⟩,
  ⟨(Wit.ring ({ Wit.run (Wit.desc 1 1 2 4 16 16 0) (Wit.key 'D' '0' 'A' 'E' 'N' 16) default (List.replicate 16 7) with bad := true })), 4,
    { Wit.run (Wit.desc 1 1 2 4 16 16 0) (Wit.key 'D' '0' 'A' 'E' 'N' 16) default (List.replicate 16 7) with bad := true }, backed_of, by
    decide +kernel⟩,
  ⟨(Wit.ring (Wit.run (Wit.desc 2 1 2 2 3 48 0) default default [1, 2, 3])), 4, Wit.run (Wit.desc 2 1 2 2 3 48 0) default default [1, 2, 3],
    executes_of, takes_of, by decide +kernel⟩,
  ⟨(Wit.ring (Wit.run (Wit.desc 2 1 2 7 3 48 0) default default [1, 2, 3])), 4, Wit.run (Wit.desc 2 1 2 7 3 48 0) default default [1, 2, 3],
    executes_of, by decide +kernel⟩,
  ⟨(Wit.ring (Wit.run (Wit.desc 2 1 2 2 3 48 0) default default [1, 2, 3])), 4, Wit.run (Wit.desc 2 1 2 2 3 48 0) default default [1, 2, 3],
    executes_of, by decide +kernel⟩,
  ⟨(Wit.ring (Wit.run (Wit.desc 3 1 2 2050 3 8 0) (Wit.key 'M' '6' 'A' 'C' 'N' 16) default [1, 2, 3])), 4, Wit.run (Wit.desc 3 1 2 2050 3 8 0)
    (Wit.key 'M' '6' 'A' 'C' 'N' 16) default [1, 2, 3], executes_of, takes_of, by decide +kernel⟩,
  ⟨(Wit.ring (Wit.run (Wit.desc 4 1 2 1026 8 0 0) (Wit.key 'M' '6' 'A' 'C' 'N' 16) default [1, 2, 3, 4, 5, 6, 7, 8])), 4, Wit.run (Wit.desc 4 1 2
    1026 8 0 0) (Wit.key 'M' '6' 'A' 'C' 'N' 16) default [1, 2, 3, 4, 5, 6, 7, 8], executes_of, by decide +kernel⟩⟩

/-- States and operands that meet the hypotheses of each clause of Obligations.PinsAndSignatures. -/
theorem test_PinsAndSignatures_hyps :
  (∃ (s : State) (r : Ring) (d : DescH), s.Executes r 0x05 d ∧ pinPre d = 0 ∧ pinDukpt d = false) ∧
  (∃ (s : State) (r : Ring) (d : DescH), s.Executes r 0x06 d ∧ s.Takes r d (dDstLen d.bytes) ∧ dParam d.bytes = 0 ∧ dDstLen d.bytes ≤ 4096) ∧
  (∃ (s : State) (r : Ring) (d : DescH), s.Executes r 0x07 d ∧ dParam d.bytes < 2 ∧ d.keyA.empty = false ∧ d.keyA.usage = ascii2 'S' '0' ∧
    d.keyA.alg = algR ∧ d.keyA.mode = 'S'.toNat) ∧
  (∃ (s : State) (r : Ring) (d : DescH), s.Executes r 0x08 d ∧ dParam d.bytes < 2 ∧ d.keyA.empty = false ∧ d.keyA.usage = ascii2 'S' '0' ∧
    d.keyA.alg = algR ∧ d.keyA.mode = 'S'.toNat) ∧
  (∃ (s : State) (r : Ring) (d : DescH), s.Executes r 0x09 d ∧ dParam d.bytes = 0 ∧ d.keyA.empty = false ∧ d.keyA.usage = ascii2 'D' '1' ∧
    d.keyA.alg = algR ∧ d.keyA.mode = 'B'.toNat) :=
  ⟨⟨(Wit.ring (Wit.run (Wit.desc 5 1 2 48 8 8 14507109835375550096474112) (Wit.key 'P' '0' 'T' 'D' 'N' 16) (Wit.key 'P' '0' 'T' 'E' 'N' 16) [1, 2,
    3, 4, 5, 6, 7, 8])), 4, Wit.run (Wit.desc 5 1 2 48 8 8 14507109835375550096474112) (Wit.key 'P' '0' 'T' 'D' 'N' 16) (Wit.key 'P' '0' 'T' 'E'
    'N' 16) [1, 2, 3, 4, 5, 6, 7, 8], executes_of, by decide +kernel⟩,
  ⟨(Wit.ring (Wit.run (Wit.desc 6 1 2 0 0 4 0) default default [])), 4, Wit.run (Wit.desc 6 1 2 0 0 4 0) default default [], executes_of, takes_of,
    by decide +kernel⟩,
  ⟨(Wit.ring (Wit.run (Wit.desc 7 1 2 0 3 512 0) (Wit.key 'S' '0' 'R' 'S' 'N' 16) default [1, 2, 3])), 4, Wit.run (Wit.desc 7 1 2 0 3 512 0)
    (Wit.key 'S' '0' 'R' 'S' 'N' 16) default [1, 2, 3], executes_of, by decide +kernel⟩,
  ⟨(Wit.ring ({ Wit.run (Wit.desc 8 1 2 0 3 256 0) (Wit.key 'S' '0' 'R' 'S' 'N' 16) default [1, 2, 3] with sig := [9] })), 4,
    { Wit.run (Wit.desc 8 1 2 0 3 256 0) (Wit.key 'S' '0' 'R' 'S' 'N' 16) default [1, 2, 3] with sig := [9] }, executes_of, by decide +kernel⟩,
  ⟨(Wit.ring (Wit.run (Wit.desc 9 1 2 0 3 512 0) (Wit.key 'D' '1' 'R' 'B' 'N' 16) default [1, 2, 3])), 4, Wit.run (Wit.desc 9 1 2 0 3 512 0)
    (Wit.key 'D' '1' 'R' 'B' 'N' 16) default [1, 2, 3], executes_of, by decide +kernel⟩⟩

/-- States and operands that meet the hypotheses of each clause of Obligations.Keys. -/
theorem test_Keys_hyps :
  (∃ (s : State) (r : Ring) (d : DescH), s.Executes r 0x0A d ∧ dParam d.bytes = 0 ∧ dSrcLen d.bytes = 16 ∧ dKeyB d.bytes < 1024 ∧ (s.keySlot
    (s.ringOwner r) (dKeyB d.bytes)).empty = true ∧ genOk d.src = true ∧ (d.src.getD 7 0).toNat ≠ algE) ∧
  (∃ (s : State) (r : Ring) (d : DescH), s.Executes r 0x0A d ∧ dParam d.bytes = 0 ∧ dSrcLen d.bytes = 16 ∧ dKeyB d.bytes < 1024 ∧ (s.keySlot
    (s.ringOwner r) (dKeyB d.bytes)).empty = true ∧ genOk d.src = true ∧ (d.src.getD 7 0).toNat = algE) ∧
  (∃ (s : State) (r : Ring) (d : DescH), s.Executes r 0x0B d ∧ dParam d.bytes = 0 ∧ d.keyA.empty = false ∧ d.keyA.usage = ascii2 'K' '1' ∧
    d.keyA.alg = algA ∧ d.keyA.key.length = 32 ∧ dKeyB d.bytes < 1024 ∧ (s.keySlot (s.ringOwner r) (dKeyB d.bytes)).empty = true) ∧
  (∃ (s : State) (r : Ring) (d : DescH), s.Executes r 0x0C d ∧ dParam d.bytes = 0 ∧ d.keyA.empty = false ∧ d.keyA.export = 'E'.toNat ∧ d.keyB.empty
    = false ∧ d.keyB.usage = ascii2 'K' '1' ∧ d.keyB.alg = algA ∧ d.keyB.key.length = 32) ∧
  (∃ (s : State) (r : Ring) (d : DescH), s.Executes r 0x0C d ∧ dParam d.bytes = 0 ∧ d.keyA.empty = false ∧ d.keyA.export ≠ 'E'.toNat) ∧
  (∃ (s : State) (r : Ring) (d : DescH), s.Executes r 0x0D d ∧ dParam d.bytes = 0 ∧ dKeyA d.bytes < 1024 ∧ (s.keySlot (s.ringOwner r) (dKeyA
    d.bytes)).empty = false) ∧
  (∃ (s : State) (r : Ring) (d : DescH), s.Executes r 0x0E d ∧ s.Takes r d 24 ∧ dParam d.bytes = 0 ∧ d.keyA.empty = false ∧ (d.keyA.alg = algA ∨
    d.keyA.alg = algT)) ∧
  (∃ (s : State) (r : Ring) (d : DescH), s.Executes r 0x0F d ∧ dParam d.bytes = 0 ∧ d.keyA.empty = false ∧ d.keyA.usage = ascii2 'S' '0' ∧
    d.keyA.alg = algR) :=
  ⟨⟨(Wit.ring (Wit.run (Wit.desc 10 1 2 0 16 64 0) default default (Wit.key 'D' '0' 'A' 'B' 'E' 0).header)), 4, Wit.run (Wit.desc 10 1 2 0 16 64 0)
    default default (Wit.key 'D' '0' 'A' 'B' 'E' 0).header, executes_of, by decide +kernel⟩,
  ⟨(Wit.ring (Wit.run (Wit.desc 10 1 2 0 16 64 0) default default (Wit.key 'S' '0' 'E' 'S' 'E' 0).header)), 4, Wit.run (Wit.desc 10 1 2 0 16 64 0)
    default default (Wit.key 'S' '0' 'E' 'S' 'E' 0).header, executes_of, by decide +kernel⟩,
  ⟨(Wit.ring (Wit.run (Wit.desc 11 1 2 0 48 0 0) (Wit.key 'K' '1' 'A' 'B' 'N' 32) default (Wit.key 'D' '0' 'A' 'B' 'E' 0).header)), 4, Wit.run
    (Wit.desc 11 1 2 0 48 0 0) (Wit.key 'K' '1' 'A' 'B' 'N' 32) default (Wit.key 'D' '0' 'A' 'B' 'E' 0).header, executes_of, by decide +kernel⟩,
  ⟨(Wit.ring (Wit.run (Wit.desc 12 1 2 0 0 65536 0) (Wit.key 'D' '0' 'A' 'B' 'E' 16) (Wit.key 'K' '1' 'A' 'B' 'N' 32) [])), 4, Wit.run (Wit.desc 12
    1 2 0 0 65536 0) (Wit.key 'D' '0' 'A' 'B' 'E' 16) (Wit.key 'K' '1' 'A' 'B' 'N' 32) [], executes_of, by decide +kernel⟩,
  ⟨(Wit.ring (Wit.run (Wit.desc 12 1 2 0 0 65536 0) (Wit.key 'D' '0' 'A' 'B' 'N' 16) (Wit.key 'K' '1' 'A' 'B' 'N' 32) [])), 4, Wit.run (Wit.desc 12
    1 2 0 0 65536 0) (Wit.key 'D' '0' 'A' 'B' 'N' 16) (Wit.key 'K' '1' 'A' 'B' 'N' 32) [], executes_of, by decide +kernel⟩,
  ⟨(Wit.ring (Wit.run (Wit.desc 13 1 2 0 0 0 0) default default [])).setKey 1 1 (Wit.key 'D' '0' 'A' 'B' 'E' 16), 4, Wit.run (Wit.desc 13 1 2 0 0 0
    0) default default [], executes_of, by decide +kernel⟩,
  ⟨(Wit.ring (Wit.run (Wit.desc 14 1 2 0 0 24 0) (Wit.key 'D' '0' 'A' 'B' 'E' 16) default [])), 4, Wit.run (Wit.desc 14 1 2 0 0 24 0) (Wit.key 'D'
    '0' 'A' 'B' 'E' 16) default [], executes_of, takes_of, by decide +kernel⟩,
  ⟨(Wit.ring (Wit.run (Wit.desc 15 1 2 0 0 65536 0) (Wit.key 'S' '0' 'R' 'S' 'N' 16) default [])), 4, Wit.run (Wit.desc 15 1 2 0 0 65536 0)
    (Wit.key 'S' '0' 'R' 'S' 'N' 16) default [], executes_of, by decide +kernel⟩⟩

/-- States and operands that meet the hypotheses of each clause of Obligations.NonPostedRequests. -/
theorem test_NonPostedRequests_hyps :
  (∃ (s : State) (k : Fin 32) (tag : Fin 1024) (d : Line) (r : PcieReq), s.NoneWait ∧ (s.seg k).out.find? (fun r => r.tag = tag.val) = some r ∧
    r.kind = 0 ∧ (∀ c ∈ r.acc.cores, c ≠ DEBUG_PORT) ∧ (s.seg k).waitTag = []) ∧
  (∃ (s : State) (k : Fin 32) (tag : Fin 1024) (st : Fin 8) (d : Line) (r : PcieReq), s.NoneWait ∧ (s.seg k).out.find? (fun r => r.tag = tag.val) =
    some r ∧ r.kind = 0 ∧ st ≠ 0 ∧ (∀ c ∈ r.acc.cores, c ≠ DEBUG_PORT) ∧ (s.seg k).waitTag = []) ∧
  (∃ (s : State) (k : Fin 32) (tag : Fin 1024) (r : PcieReq), s.NoneWait ∧ (s.seg k).out.find? (fun r => r.tag = tag.val) = some r ∧ r.kind = 0 ∧
    (∀ c ∈ r.acc.cores, c ≠ DEBUG_PORT)) ∧
  (∃ (s : State) (k : Fin 32) (tag : Fin 1024), (s.seg k).waitTag = []) ∧
  (∃ (s : State) (k : Fin 32) (who : Sender) (tg : Nat), s.Admitted who.who (R.CFG_DATA (k / 4) (k % 4)) false ∧ s.ltssm k = 3 ∧ s.freeTag k = some
    tg ∧ s.f (rCfgAddr k) F.CFG_ADDR_BUS = s.f (rSegCtl k) F.SEG_CTL_SEC_BUS ∧ s.f (rCfgAddr k) F.CFG_ADDR_DEV = 0 ∧ (s.seg k).waitTag = []) ∧
  (∃ (s : State) (k : Fin 32) (c : Core) (p : Sys2Proof.Part), s.Admitted (.core (Fin.ofNat 8 s.pkg) c p) (R.CFG_DATA (k / 4) (k % 4)) false ∧
    s.pkg < 8 ∧ s.sharers c = [c.val] ∧ s.cfgTarget k = none) ∧
  (∃ (s : State) (k : Fin 32) (who : Sender) (tg : Nat) (v : BitVec 32), s.Admitted who.who (R.CFG_DATA (k / 4) (k % 4)) true ∧ s.ltssm k = 3 ∧
    s.freeTag k = some tg ∧ s.f (rCfgAddr k) F.CFG_ADDR_BUS = s.f (rSegCtl k) F.SEG_CTL_SEC_BUS ∧ s.f (rCfgAddr k) F.CFG_ADDR_DEV = 0 ∧ (s.seg
    k).waitTag = []) ∧
  (∃ (s : State) (k : Fin 32) (r : PcieReq) (n tg : Nat), (s.seg k).rrs = [(r, n)] ∧ n < 999 ∧ r.kind = 1 ∧ s.ltssm k = 3 ∧ (s.seg k).waitTag = []
    ∧ s.freeTag k = some tg) ∧
  (∃ (s : State) (k : Fin 32) (r : PcieReq) (n : Nat), (s.seg k).rrs = [(r, n)] ∧ 999 ≤ n ∧ r.kind = 1) :=
  ⟨⟨(Wit.pci.updSeg 0 fun g => { g with out := [{ tag := 5, kind := 0, acc := Wit.acc, cfg := 0, sent := true, rsv := false }] }), 0, 5, 77,
    { tag := 5, kind := 0, acc := Wit.acc, cfg := 0, sent := true, rsv := false }, noneWait_of, by decide +kernel⟩,
  ⟨(Wit.pci.updSeg 0 fun g => { g with out := [{ tag := 5, kind := 0, acc := Wit.acc, cfg := 0, sent := true, rsv := false }] }), 0, 5, 1, 77,
    { tag := 5, kind := 0, acc := Wit.acc, cfg := 0, sent := true, rsv := false }, noneWait_of, by decide +kernel⟩,
  ⟨(Wit.pci.updSeg 0 fun g => { g with out := [{ tag := 5, kind := 0, acc := Wit.acc, cfg := 0, sent := true, rsv := false }] }), 0, 5,
    { tag := 5, kind := 0, acc := Wit.acc, cfg := 0, sent := true, rsv := false }, noneWait_of, by decide +kernel⟩,
  ⟨(Wit.pci.updSeg 0 fun g => { g with quarantine := [5] }), 0, 5, by decide +kernel⟩,
  ⟨(Wit.pci.setF (R.CFG_ADDR 0 0) F.CFG_ADDR_BUS 1).setF (R.CFG_ADDR 0 0) F.CFG_ADDR_REG 4, 0, Wit.me, 0, admitted_of, by decide +kernel⟩,
  ⟨(Wit.pci.setF (R.CFG_ADDR 0 0) F.CFG_ADDR_BUS 9).setF (R.CFG_ADDR 0 0) F.CFG_ADDR_REG 4, 0, 0, 1, admitted_of, by decide +kernel⟩,
  ⟨(Wit.pci.setF (R.CFG_ADDR 0 0) F.CFG_ADDR_BUS 1).setF (R.CFG_ADDR 0 0) F.CFG_ADDR_REG 4, 0, Wit.me, 0, 0x12345678, admitted_of, by
    decide +kernel⟩,
  ⟨(Wit.pci.updSeg 0 fun g => { g with rrs := [({ tag := 5, kind := 1, acc := Wit.acc, cfg := 0, sent := true, rsv := false }, 998)] }), 0,
    { tag := 5, kind := 1, acc := Wit.acc, cfg := 0, sent := true, rsv := false }, 998, 0, by decide +kernel⟩,
  ⟨(Wit.pci.updSeg 0 fun g => { g with rrs := [({ tag := 5, kind := 1, acc := Wit.acc, cfg := 0, sent := true, rsv := false }, 999)] }), 0,
    { tag := 5, kind := 1, acc := Wit.acc, cfg := 0, sent := true, rsv := false }, 999, by decide +kernel⟩⟩

/-- States and operands that meet the hypotheses of each clause of Obligations.DeviceRequests. -/
theorem test_DeviceRequests_hyps :
  (∃ (s : State) (k : Fin 32) (b : Byte) (a : Word) (p n tag : Nat), s.devUp k = true ∧ s.f (rSegCtl k) F.SEG_CTL_SEC_BUS ≤ b.toNat ∧ b.toNat ≤ s.f
    (rSegCtl k) F.SEG_CTL_SUB_BUS ∧ a.toNat < 2 ^ 52 ∧ paKind a.toNat = .dram p ∧ s.undecoded a.toNat = none ∧ 0 < n ∧ a.toNat % 64 + n ≤ 64 ∧
    (s.seg k).dma = []) ∧
  (∃ (s : State) (k : Fin 32) (b : Byte) (a : Word) (n tag : Nat), s.devUp k = true ∧ (b.toNat < s.f (rSegCtl k) F.SEG_CTL_SEC_BUS ∨ s.f (rSegCtl
    k) F.SEG_CTL_SUB_BUS < b.toNat) ∧ (s.seg k).dma = []) ∧
  (∃ (s : State) (k : Fin 32) (b : Byte) (a : Word) (n tag : Nat) (e : ECode), s.devUp k = true ∧ s.f (rSegCtl k) F.SEG_CTL_SEC_BUS ≤ b.toNat ∧
    b.toNat ≤ s.f (rSegCtl k) F.SEG_CTL_SUB_BUS ∧ s.undecoded a.toNat = some e ∧ 0 < n ∧ a.toNat % 64 + n ≤ 64 ∧ (s.seg k).dma = []) ∧
  (∃ (s : State) (k : Fin 32) (b : Byte) (a : Word) (p : Nat) (l : List Byte), s.devUp k = true ∧ s.f (rSegCtl k) F.SEG_CTL_SEC_BUS ≤ b.toNat ∧
    b.toNat ≤ s.f (rSegCtl k) F.SEG_CTL_SUB_BUS ∧ (¬ (MSI_ADDR ≤ a.toNat ∧ a.toNat < MSI_ADDR + 4096)) ∧ a.toNat < 2 ^ 52 ∧ paKind a.toNat = .dram
    p ∧ s.undecoded a.toNat = none ∧ 0 < l.length ∧ a.toNat % 64 + l.length ≤ 64 ∧ (s.seg k).dma = []) ∧
  (∃ (s : State) (k : Fin 32) (b : Byte) (a : Word) (l : List Byte), s.devUp k = true ∧ s.f (rSegCtl k) F.SEG_CTL_SEC_BUS ≤ b.toNat ∧ b.toNat ≤ s.f
    (rSegCtl k) F.SEG_CTL_SUB_BUS ∧ (¬ (MSI_ADDR ≤ a.toNat ∧ a.toNat < MSI_ADDR + 4096))) ∧
  (∃ (s : State) (k : Fin 32) (b : Byte) (a : Word) (p n tag : Nat) (op : Fin 3) (x y : Word), s.devUp k = true ∧ s.f (rSegCtl k) F.SEG_CTL_SEC_BUS
    ≤ b.toNat ∧ b.toNat ≤ s.f (rSegCtl k) F.SEG_CTL_SUB_BUS ∧ a.toNat < 2 ^ 52 ∧ paKind a.toNat = .dram p ∧ s.undecoded a.toNat = none ∧ (n = 4 ∨ n
    = 8) ∧ a.toNat % n = 0 ∧ (s.seg k).dma = [] ∧ s.ioHeld (pkgOfLine (a.toNat / 64)) = false) ∧
  (∃ (s : State) (k : Fin 32) (b : Byte) (a : Word) (p n tag : Nat) (op : Fin 3) (x y : Word), s.devUp k = true ∧ s.f (rSegCtl k) F.SEG_CTL_SEC_BUS
    ≤ b.toNat ∧ b.toNat ≤ s.f (rSegCtl k) F.SEG_CTL_SUB_BUS ∧ a.toNat < 2 ^ 52 ∧ paKind a.toNat = .dram p ∧ s.undecoded a.toNat = none ∧ (¬ ((n = 4
    ∨ n = 8) ∧ a.toNat % n = 0)) ∧ (s.seg k).dma = []) ∧
  (∃ (s : State) (k : Fin 32) (l : List Byte), s.devUp k = true ∧ s.owner k ≠ 0 ∧ l.length = 4 ∧ 32 ≤ leNat l ∧ leNat l < 2048 ∧ (∀ m ∈ (s.seg
    k).dma, m.fwd.pkg ≠ D_WRITE)) ∧
  (∃ (s : State) (k : Fin 32) (l : List Byte), s.devUp k = true ∧ l.length = 4 ∧ 32 ≤ leNat l ∧ leNat l < 2048 ∧ (∃ m ∈ (s.seg k).dma, m.fwd.pkg =
    D_WRITE)) ∧
  (∃ (s : State) (k : Fin 32) (a : Word) (l : List Byte), s.devUp k = true ∧ (a.toNat ≠ MSI_ADDR ∨ l.length ≠ 4)) ∧
  (∃ (s : State) (k : Fin 32) (id : BitVec 16) (sv : Fin 3), s.devUp k = true) ∧
  (∃ (s : State) (k : Fin 32) (id : BitVec 16), s.devUp k = true) :=
  ⟨⟨Wit.pci, 0, 2, 0x1004, 0, 8, 3, by decide +kernel⟩,
  ⟨Wit.pci, 0, 9, 0x1004, 8, 3, by decide +kernel⟩,
  ⟨Wit.pci, 0, 2, 0x8000000, 8, 3, E.PA_UNMAPPED, by decide +kernel⟩,
  ⟨Wit.pci, 0, 2, 0x1004, 0, [1, 2, 3, 4], by decide +kernel⟩,
  ⟨Wit.pci, 0, 2, 0x1004, [1, 2, 3, 4], by decide +kernel⟩,
  ⟨Wit.pci, 0, 2, 0x1008, 0, 8, 3, 1, 5, 0, by decide +kernel⟩,
  ⟨Wit.pci, 0, 2, 0x1004, 0, 8, 3, 1, 5, 0, by decide +kernel⟩,
  ⟨Wit.pci, 0, [33, 0, 0, 0], by decide +kernel⟩,
  ⟨(Wit.pci.updSeg 0 fun g => { g with dma := [{ (default : CMsg) with fwd := { pkg := 2, unit := 0 } }] }), 0, [33, 0, 0, 0], by decide +kernel⟩,
  ⟨Wit.pci, 0, 0x0FFFFFFFFF004, [33, 0, 0, 0], by decide +kernel⟩,
  ⟨Wit.pci, 0, 0x100, 2, by decide +kernel⟩,
  ⟨Wit.pci, 0, 0x100, by decide +kernel⟩⟩

/-- States and operands that meet the hypotheses of each clause of Obligations.SegmentLinks. -/
theorem test_SegmentLinks_hyps :
  (∃ (s : State) (k : Fin 32) (st : Fin 3), s.segReal k = true ∧ s.isSep (k / 4) = false ∧ s.linkOff k = false) ∧
  (∃ (s : State) (k : Fin 32) (g : Fin 8) (w : Fin 32) (fl : Bool), s.segReal k = true ∧ s.ltssm k = L_DETECT ∧ (s.seg k).waitTag = [] ∧ s.locked =
    false) ∧
  (∃ (s : State) (k : Fin 32), s.ltssm k = L_L0) ∧
  (∃ (s : State) (k : Fin 32), s.ltssm k = L_RECOVERY ∧ (∀ r ∈ (s.seg k).waitTag, r.kind = 6)) ∧
  (∃ (s : State) (k : Fin 32) (who : Sender) (v : Word), s.Admitted who.who (rSegCtl k) true ∧ F.SEG_CTL_PERST.get v = 0 ∧ F.SEG_CTL_LINK_DIS.get v
    = 0 ∧ s.f (rStat k) F.SEG_STAT_PERST = 0 ∧ s.f (rSegCtl k) F.SEG_CTL_LINK_DIS = 0 ∧ s.linkOff k = false) ∧
  (∃ (s : State) (k : Fin 32), s.ltssm k = L_HOT_RESET) ∧
  (∃ (s : State) (k : Fin 32) (who : Sender) (v : Word), s.Admitted who.who (rSegCtl k) true ∧ F.SEG_CTL_PERST.get v = 1 ∧ s.f (rStat k)
    F.SEG_STAT_PERST = 0 ∧ (s.seg k).out = [] ∧ (s.seg k).waitTag = [] ∧ (s.seg k).rrs = []) ∧
  (∃ (s : State) (k : Fin 32) (who : Sender) (v : Word), s.Admitted who.who (rSegCtl k) true ∧ F.SEG_CTL_PERST.get v = 0 ∧ F.SEG_CTL_LINK_DIS.get v
    = 0 ∧ F.SEG_CTL_HOT_RESET.get v = 0 ∧ s.f (rStat k) F.SEG_STAT_PERST = 1 ∧ (s.seg k).perstHeld = false) ∧
  (∃ (s : State) (k : Fin 32) (who : Sender) (v : Word), s.Admitted who.who (rSegCtl k) true ∧ F.SEG_CTL_PERST.get v = 0 ∧ F.SEG_CTL_LINK_DIS.get v
    = 0 ∧ F.SEG_CTL_HOT_RESET.get v = 0 ∧ s.f (rStat k) F.SEG_STAT_PERST = 1 ∧ (s.seg k).perstHeld = true) ∧
  (∃ (s : State) (k : Fin 32), (s.seg k).perstRel = true ∧ s.f (rSegCtl k) F.SEG_CTL_LINK_DIS = 0) :=
  ⟨⟨Wit.pci, 0, 1, by decide +kernel⟩,
  ⟨(Wit.pci.setF (R.SEG_STAT 0 0) F.SEG_STAT_LTSSM 1).setF (R.PCIE_INFO 0) F.PCIE_INFO_MAX_GEN 6, 0, 6, 8, false, by decide +kernel⟩,
  ⟨Wit.pci, 0, by decide +kernel⟩,
  ⟨(Wit.pci.setF (R.SEG_STAT 0 0) F.SEG_STAT_LTSSM 4).updSeg 0 fun g =>
    { g with waitTag := [{ tag := 0, kind := 6, acc := Wit.acc, cfg := 0, sent := false, rsv := false }] }, 0, by decide +kernel⟩,
  ⟨Wit.pci, 0, Wit.me, 0, admitted_of, by decide +kernel⟩,
  ⟨Wit.pci.setF (R.SEG_STAT 0 0) F.SEG_STAT_LTSSM 5, 0, by decide +kernel⟩,
  ⟨Wit.pci, 0, Wit.me, 1, admitted_of, by decide +kernel⟩,
  ⟨(((Wit.pci.setF (R.SEG_STAT 0 0) F.SEG_STAT_PERST 1).setF (R.SEG_CTL 0 0) F.SEG_CTL_PERST 1).setF (R.SEG_STAT 0 0) F.SEG_STAT_LTSSM 0), 0,
    Wit.me, 0, admitted_of, by decide +kernel⟩,
  ⟨(((Wit.pci.setF (R.SEG_STAT 0 0) F.SEG_STAT_PERST 1).setF (R.SEG_CTL 0 0) F.SEG_CTL_PERST 1).setF (R.SEG_STAT 0 0) F.SEG_STAT_LTSSM 0).updSeg 0
    fun g => { g with perstHeld := true }, 0, Wit.me, 0, admitted_of, by decide +kernel⟩,
  ⟨(((Wit.pci.setF (R.SEG_STAT 0 0) F.SEG_STAT_PERST 1).setF (R.SEG_CTL 0 0) F.SEG_CTL_PERST 1).setF (R.SEG_STAT 0 0) F.SEG_STAT_LTSSM 0).updSeg 0
    fun g => { g with perstHeld := true, perstRel := true }, 0, by decide +kernel⟩⟩

/-- States and operands that meet the hypotheses of each clause of Obligations.SlotPower. -/
theorem test_SlotPower_hyps :
  (∃ (s : State) (k : Fin 32) (who : Sender) (v : Word), s.Admitted who.who (rHpCtl k) true ∧ s.f (rHpCtl k) F.HP_CTL_PWR = 0 ∧ s.f (rHpStat k)
    F.HP_STAT_PRESENT = 1 ∧ s.isSep (k / 4) = false) ∧
  (∃ (s : State) (k : Fin 32) (who : Sender) (v : Word), s.Admitted who.who (rHpCtl k) true ∧ s.f (rHpCtl k) F.HP_CTL_PWR = 0 ∧ s.f (rHpStat k)
    F.HP_STAT_PRESENT = 0 ∧ s.isSep (k / 4) = false) ∧
  (∃ (s : State) (k : Fin 32) (who : Sender) (v : Word), s.Admitted who.who (rHpCtl k) true ∧ s.f (rHpCtl k) F.HP_CTL_PWR = 1 ∧ s.isSep (k / 4) =
    false) ∧
  (∃ (s : State) (k : Fin 32), (s.seg k).pwrSeq = 1 ∧ s.f (rHpStat k) F.HP_STAT_PWR_GOOD = 0 ∧ s.isSep (k / 4) = false) ∧
  (∃ (s : State) (k : Fin 32), (s.seg k).pwrSeq = 1 ∧ s.f (rSegCtl k) F.SEG_CTL_LINK_DIS = 0 ∧ s.partFenced (s.owner k) = false) ∧
  (∃ (s : State) (k : Fin 32), (s.seg k).pwrSeq = 3) ∧
  (∃ (s : State) (k : Fin 32), s.f (rHpStat k) F.HP_STAT_PRESENT = 1 ∧ s.f (rHpCtl k) F.HP_CTL_PWR = 1 ∧ s.segReal k = true ∧ s.isSep (k / 4) =
    false) ∧
  (∃ (s : State) (k : Fin 32), s.f (rHpStat k) F.HP_STAT_PRESENT = 0 ∧ s.segReal k = true ∧ s.isSep (k / 4) = false) ∧
  (∃ (s : State) (k : Fin 32), s.segReal k = true ∧ s.isSep (k / 4) = false) ∧
  (∃ (s : State) (k : Fin 32), s.segReal k = true ∧ s.isSep (k / 4) = false) :=
  ⟨⟨Wit.pci.setF (R.HP_STAT 0 0) F.HP_STAT_PRESENT 1, 0, Wit.me, 0, admitted_of, by decide +kernel⟩,
  ⟨Wit.pci, 0, Wit.me, 0, admitted_of, by decide +kernel⟩,
  ⟨(Wit.pci.setF (R.HP_STAT 0 0) F.HP_STAT_PRESENT 1).setF (R.HP_CTL 0 0) F.HP_CTL_PWR 1, 0, Wit.me, 0, admitted_of, by decide +kernel⟩,
  ⟨(((Wit.pci.setF (R.HP_STAT 0 0) F.HP_STAT_PRESENT 1).setF (R.HP_CTL 0 0) F.HP_CTL_PWR 1).updSeg 0 fun g =>
    { g with pwrSeq := 1, swren := true }), 0, by decide +kernel⟩,
  ⟨(((Wit.pci.setF (R.HP_STAT 0 0) F.HP_STAT_PRESENT 1).setF (R.HP_CTL 0 0) F.HP_CTL_PWR 1).updSeg 0 fun g =>
    { g with pwrSeq := 1, swren := true }), 0, by decide +kernel⟩,
  ⟨(((Wit.pci.setF (R.HP_STAT 0 0) F.HP_STAT_PRESENT 1).setF (R.HP_CTL 0 0) F.HP_CTL_PWR 1).updSeg 0 fun g =>
    { g with pwrSeq := 3, swren := true }), 0, by decide +kernel⟩,
  ⟨(((Wit.pci.setF (R.HP_STAT 0 0) F.HP_STAT_PRESENT 1).setF (R.HP_CTL 0 0) F.HP_CTL_PWR 1).updSeg 0 fun g =>
    { g with pwrSeq := 0, swren := true }), 0, by decide +kernel⟩,
  ⟨Wit.pci, 0, by decide +kernel⟩,
  ⟨(((Wit.pci.setF (R.HP_STAT 0 0) F.HP_STAT_PRESENT 1).setF (R.HP_CTL 0 0) F.HP_CTL_PWR 1).updSeg 0 fun g =>
    { g with pwrSeq := 0, swren := true }), 0, by decide +kernel⟩,
  ⟨Wit.pci, 0, by decide +kernel⟩⟩

/-- States and operands that meet the hypotheses of each clause of Obligations.ServiceEndpointHost. -/
theorem test_ServiceEndpointHost_hyps :
  (∃ (s : State) (p : Fin 2) (f : Fin 8) (v : List Byte), s.fnPresent (sepPort p) f = true ∧ s.sepUp (sepPort p) = true ∧ s.fnFenced (sepPort p) f
    = false ∧ s.fnInfo (sepPort p) f F.SEP_FN_INFO_FLR_BUSY = 0 ∧ s.hostBusy (sepPort p) f = false) ∧
  (∃ (s : State) (p : Fin 2) (f : Fin 8) (v : List Byte), s.fnPresent (sepPort p) f = true ∧ s.sepUp (sepPort p) = true ∧ s.fnFenced (sepPort p) f
    = false ∧ s.fnInfo (sepPort p) f F.SEP_FN_INFO_FLR_BUSY = 0 ∧ s.hostBusy (sepPort p) f = false) ∧
  (∃ (s : State) (p : Fin 2) (f : Fin 8) (off size : Nat) (v : List Byte), s.Backed (s.f (R.SEP_WIN (sepPort p) f) F.SEP_WIN_BASE * 2 ^ 30 + off) ∧
    s.fnPresent (sepPort p) f = true ∧ s.sepUp (sepPort p) = true ∧ s.fnFenced (sepPort p) f = false ∧ s.fnInfo (sepPort p) f
    F.SEP_FN_INFO_FLR_BUSY = 0 ∧ s.fnPart (sepPort p) f ≠ 0 ∧ s.f (R.SEP_WIN (sepPort p) f) F.SEP_WIN_VALID = 1 ∧ off < 2 ^ 30 ∧ 0 < size ∧ off %
    64 + size ≤ 64 ∧ (s.seg (sepSeg (sepPort p))).dma = []) ∧
  (∃ (s : State) (p : Fin 2) (f : Fin 8) (bar : Fin 4) (off size : Nat) (wr : Bool) (v : List Byte), s.fnPresent (sepPort p) f = true ∧ s.sepUp
    (sepPort p) = true ∧ (s.fnFenced (sepPort p) f = true ∨ s.fnInfo (sepPort p) f F.SEP_FN_INFO_FLR_BUSY = 1)) ∧
  (∃ (s : State) (p : Fin 2) (f : Fin 8) (v : BitVec 32), s.fnPresent (sepPort p) f = true ∧ s.sepUp (sepPort p) = true ∧ s.fnFenced (sepPort p) f
    = false ∧ s.hostBusy (sepPort p) f = false) ∧
  (∃ (s : State) (p : Fin 2) (f : Fin 8) (who : Sender) (v : BitVec 4), s.Admitted who.who (R.SEP_HOST_INT (sepPort p) f) true ∧ s.fnInfo (sepPort
    p) f F.SEP_FN_INFO_MSIX_EN = 0 ∧ s.fnInfo (sepPort p) f F.SEP_FN_INFO_INTX_DIS = 0 ∧ v ≠ 0 ∧ s.fnFenced (sepPort p) f = false ∧ (s.fn (sepPort
    p) f).inta = false) ∧
  (∃ (s : State) (p : Fin 2) (f : Fin 8) (v : BitVec 32), s.fnPresent (sepPort p) f = true ∧ s.sepUp (sepPort p) = true ∧ s.fnFenced (sepPort p) f
    = false ∧ s.fnInfo (sepPort p) f F.SEP_FN_INFO_FLR_BUSY = 0 ∧ s.f (R.SEP_DMA_CTL (sepPort p) f) F.SEP_DMA_CTL_BUSY = 0 ∧ s.fnInfo (sepPort p) f
    F.SEP_FN_INFO_MSIX_EN = 0 ∧ s.hostBusy (sepPort p) f = false) ∧
  (∃ (s : State) (p : Fin 2) (f : Fin 8) (r : Nat), s.fnPresent (sepPort p) f = true ∧ s.sepUp (sepPort p) = true ∧ s.fnFenced (sepPort p) f =
    false ∧ s.fnInfo (sepPort p) f F.SEP_FN_INFO_FLR_BUSY = 0 ∧ s.hostBusy (sepPort p) f = false) ∧
  (∃ (s : State) (p : Fin 2) (f : Fin 8) (r : Nat) (v : Option (BitVec 32)), s.fnPresent (sepPort p) f = true ∧ s.sepUp (sepPort p) = true ∧
    s.fnFenced (sepPort p) f = false ∧ s.fnInfo (sepPort p) f F.SEP_FN_INFO_FLR_BUSY = 1) :=
  ⟨⟨(Wit.sep.updFn 3 1 fun g => { g with hostStat := 5 }), 0, 1, [], by decide +kernel⟩,
  ⟨(Wit.sep.updFn 3 1 fun g => { g with hostStat := 5, inta := true }), 0, 1, [1, 0, 0, 0, 0, 0, 0, 0], by decide +kernel⟩,
  ⟨(Wit.sep.setF (R.SEP_WIN 3 1) F.SEP_WIN_VALID 1), 0, 1, 0x1008, 8, [], backed_of, by decide +kernel⟩,
  ⟨(Wit.sep.setF (R.SEP_FN_INFO 3 1) F.SEP_FN_INFO_FLR_BUSY 1), 0, 1, 0, 8, 8, false, [], by decide +kernel⟩,
  ⟨Wit.sep, 0, 1, 6, by decide +kernel⟩,
  ⟨Wit.sep, 0, 1, Wit.me, 2, admitted_of, by decide +kernel⟩,
  ⟨Wit.sep, 0, 1, 0, by decide +kernel⟩,
  ⟨Wit.sep, 0, 1, 0x12, by decide +kernel⟩,
  ⟨(Wit.sep.setF (R.SEP_FN_INFO 3 1) F.SEP_FN_INFO_FLR_BUSY 1), 0, 1, 4, none, by decide +kernel⟩⟩

/-- States and operands that meet the hypotheses of each clause of Obligations.ServiceEndpointFunctions. -/
theorem test_ServiceEndpointFunctions_hyps :
  (∃ (s : State) (p : Fin 2) (f : Fin 8) (who : Sender) (v : Word) (tg : Nat), s.Admitted who.who (R.SEP_DMA_CTL (sepPort p) f) true ∧ s.fnPresent
    (sepPort p) f = true ∧ s.f (R.SEP_DMA_CTL (sepPort p) f) F.SEP_DMA_CTL_BUSY = 0 ∧ s.fnInfo (sepPort p) f F.SEP_FN_INFO_BME = 1 ∧ s.sepUp
    (sepPort p) = true ∧ F.SEP_DMA_CTL_DIR.get v = 0 ∧ (s.seg (sepSeg (sepPort p))).waitTag = [] ∧ s.freeTag (sepSeg (sepPort p)) = some tg) ∧
  (∃ (s : State) (p : Fin 2) (f : Fin 8) (who : Sender) (v : Word), s.Admitted who.who (R.SEP_DMA_CTL (sepPort p) f) true ∧ s.fnPresent (sepPort p)
    f = true ∧ s.f (R.SEP_DMA_CTL (sepPort p) f) F.SEP_DMA_CTL_BUSY = 0 ∧ s.fnInfo (sepPort p) f F.SEP_FN_INFO_BME = 0) ∧
  (∃ (s : State) (p : Fin 2) (f : Fin 8) (n : Nat), (s.fn (sepPort p) f).copy = some (n, n) ∧ s.f (R.SEP_DMA_CTL (sepPort p) f) F.SEP_DMA_CTL_BUSY
    = 1) ∧
  (∃ (s : State) (p : Fin 2) (f : Fin 8), s.fnPresent (sepPort p) f = true ∧ s.fnInfo (sepPort p) f F.SEP_FN_INFO_BME = 1 ∧ s.f (R.SEP_DMA_CTL
    (sepPort p) f) F.SEP_DMA_CTL_BUSY = 1) ∧
  (∃ (s : State) (p : Fin 2) (f : Fin 8), s.fnPresent (sepPort p) f = true) ∧
  (∃ (s : State) (p : Fin 2) (f : Fin 8), s.fnPresent (sepPort p) f = true) ∧
  (∃ (s : State) (p : Fin 2), s.isSep (sepPort p) = true) ∧
  (∃ (s : State) (p : Fin 2), s.isSep (sepPort p) = true ∧ s.linkOff (sepSeg (sepPort p)) = false) ∧
  (∃ (s : State) (p : Fin 2), s.isSep (sepPort p) = true ∧ s.ltssm (sepSeg (sepPort p)) = L_DISABLED ∧ s.locked = false) :=
  ⟨⟨Wit.sep, 0, 1, Wit.me, 0x200, 0, admitted_of, by decide +kernel⟩,
  ⟨Wit.sep.setF (R.SEP_FN_INFO 3 1) F.SEP_FN_INFO_BME 0, 0, 1, Wit.me, 0x200, admitted_of, by decide +kernel⟩,
  ⟨((Wit.sep.updFn 3 1 fun g => { g with copy := some (2, 2) }).setF (R.SEP_DMA_CTL 3 1) F.SEP_DMA_CTL_BUSY 1), 0, 1, 2, by decide +kernel⟩,
  ⟨((Wit.sep.updFn 3 1 fun g => { g with copy := some (2, 2) }).setF (R.SEP_DMA_CTL 3 1) F.SEP_DMA_CTL_BUSY 1), 0, 1, by decide +kernel⟩,
  ⟨((Wit.sep.updFn 3 1 fun g => { g with copy := some (2, 2) }).setF (R.SEP_DMA_CTL 3 1) F.SEP_DMA_CTL_BUSY 1), 0, 1, by decide +kernel⟩,
  ⟨Wit.sep.setF (R.SEP_FN_INFO 3 1) F.SEP_FN_INFO_FLR_BUSY 1, 0, 1, by decide +kernel⟩,
  ⟨Wit.sep, 0, by decide +kernel⟩,
  ⟨Wit.sep, 0, by decide +kernel⟩,
  ⟨Wit.sep.setF (R.SEG_STAT 3 0) F.SEG_STAT_LTSSM 0, 0, by decide +kernel⟩⟩

/-- States and operands that meet the hypotheses of each clause of Obligations.FlitLayout. -/
theorem test_FlitLayout_hyps :
  (∃ (m : CMsg) (form : Nat), m.ok = true ∧ form < 4 ∧ form ≠ 2) ∧
  (∃ (m n : CMsg) (f g : Nat), f < 4 ∧ f ≠ 2 ∧ g < 4 ∧ g ≠ 2 ∧ flitField (flitWord m f) 0 3 = flitField (flitWord n g) 0 3 ∧ flitField (flitWord m
    f) 44 6 = flitField (flitWord n g) 44 6) ∧
  (∃ (m : CMsg), partialWrite m = true) ∧
  (∃ (m : CMsg) (i : Nat), partialWrite m = true ∧ i < 64) ∧
  (∃ (m : CMsg), partialRead m = true) ∧
  (∃ (m : CMsg) (i : Nat), i < 64 ∧ m.op ∈ [COp.dataS, .dataE, .dataM, .dataO, .dataUc, .snpData, .wbDirty]) :=
  ⟨⟨{ Wit.req with op := .rdShared }, 0, by decide +kernel⟩,
  ⟨{ Wit.req with op := .rdShared }, { Wit.req with op := .rdShared, txn := 8 }, 0, 3, by decide +kernel⟩,
  ⟨Wit.part, by decide +kernel⟩,
  ⟨Wit.part, 3, by decide +kernel⟩,
  ⟨Wit.ucRd, by decide +kernel⟩,
  ⟨{ Wit.req with op := .dataM }, 63, by decide +kernel⟩⟩

/-- States and operands that meet the hypotheses of Obligations.DramLocations. -/
theorem test_DramLocations_hyps :
  ∃ (s : State) (c : Chan) (l k : Nat), s.rankLines c = 2 ^ 13 * (s.rowsOf c * s.diesOf c) ∧ s.dramLoc c l = s.dramLoc c k :=
  ⟨((Wit.mem.setF (R.MC_INFO 0) F.MC_INFO_MODULES 1).setF (R.MC_INFO 0) F.MC_INFO_PRANKS 1).setF (R.MC_INFO 0) F.MC_INFO_CAP_GIB 32, 0, 5, 5, by
    decide +kernel⟩

end

/-! ## Single steps -/

/-- The three partitions of chapter 7's worked example at an arbiter of a mesh join, with their classes and the pointer given. -/
def Wit.arb (e1 e2 e3 ptr : Nat) : State :=
  let s := ((sys.setF (R.ARB_REQ 50 1) F.ARB_REQ_CEIL 3).setF (R.ARB_REQ 50 2) F.ARB_REQ_CLASS 1).setF (R.ARB_REQ 50 2) F.ARB_REQ_CEIL 2
  let s := (s.setF (R.ARB_REQ 50 3) F.ARB_REQ_CEIL 3).setF (R.ARB_RR 50) F.ARB_RR_POINTER ptr
  ((s.setF (R.ARB_REQ 50 1) F.ARB_REQ_ECLASS e1).setF (R.ARB_REQ 50 2) F.ARB_REQ_ECLASS e2).setF (R.ARB_REQ 50 3) F.ARB_REQ_ECLASS e3

/-- Winner, pointer and effective classes after a round in which all three request. -/
def Wit.round (s : State) : List Nat :=
  match exec (.arbiterRound 50 [(1, false), (2, false), (3, false)] 0) s with
  | .next t => [t.f (R.ARB_RR 50) F.ARB_RR_OWNER, t.f (R.ARB_RR 50) F.ARB_RR_POINTER, t.f (R.ARB_REQ 50 1) F.ARB_REQ_ECLASS,
      t.f (R.ARB_REQ 50 2) F.ARB_REQ_ECLASS, t.f (R.ARB_REQ 50 3) F.ARB_REQ_ECLASS]
  | _ => []

/-- Chapter 7, the worked example's second table, round 3: the tie is counted from 4 through 15 to 0 and 1. -/
theorem test_arbiter_round_3 : Wit.round (Wit.arb 2 2 0 4) = [1, 2, 0, 2, 1] := by decide +kernel

/-- The same table, round 1: the highest class wins and the losers escalate. -/
theorem test_arbiter_round_1 : Wit.round (Wit.arb 0 1 0 0) = [2, 3, 1, 1, 1] := by decide +kernel

/-- R243: a codeword that was stored is read without an error. -/
theorem test_line_code_clean : lineDecode (rsEncode 0x123456789ABCDEF) none = .clean := by decide +kernel

/-- R66: RESET_N rises and the timebase begins at beat 0. -/
theorem test_reset_deassert : ∃ t, exec (.resetDeassert 3) State.reset = .next t ∧ t.beat.now = 0 ∧ t.beat.running = true ∧ t.pkg = 3 :=
  ⟨_, rfl, by decide +kernel, by decide +kernel, by decide +kernel⟩

/-- R13: a 4-byte access to Control Space is a bus error and is recorded. -/
theorem test_cs_width : ∃ t, exec (.csRegisterWrite Wit.me 8 4 7) Wit.sys = .next t ∧ .core 0 1 0 ∈ t.sent ∧
    (t.newest ELOG_PKG).code = E.CS_ACCESS_WIDTH.val := ⟨_, rfl, by decide +kernel, by decide +kernel⟩

/-- The command at the front of the queue runs first. -/
theorem test_step_front : ∃ t, step { State.reset with pending := [.tapIdcode, .tapBypass] } = .next t ∧ t.pending = [.tapBypass] ∧ t.err.tapIr = 1 :=
  ⟨_, rfl, by decide +kernel, by decide +kernel⟩

/-- R181 by hand: CLASS 0, PART 1 at bit 6, SRC_UNIT 0xF0 at 13, DST_UNIT 0xFC at 24, TXN 7 at 32, OPCODE 1 at 44, ADDR 1 at 50. -/
theorem test_flit_header : flitHeader { Wit.req with op := .rdShared } 0 = 0x00041007FC1E0040 := by decide +kernel

/-- R183: the mask flit of a write of bytes 0 to 3 carries mask 0xF; the data flit's header ends at bit 43. -/
theorem test_flit_mask : flitPayload Wit.part 1 = 0xF ∧ (flitHeader Wit.part 2).toNat < 2 ^ 44 := by decide +kernel

/-- R240: line 2^29 + 2^28 + 3 of a channel with two 16 Gb single-die ranks: rank 1, and bit 28 is a row bit. -/
theorem test_dram_loc : (((Wit.mem.setF (R.MC_INFO 0) F.MC_INFO_MODULES 1).setF (R.MC_INFO 0) F.MC_INFO_PRANKS 2).setF (R.MC_INFO 0)
    F.MC_INFO_CAP_GIB 64).dramLoc 0 (2 ^ 29 + 2 ^ 28 + 3) = { subch := 1, col := 1, bankGroup := 0, bank := 0, row := 2 ^ 15, die := 0, rank := 1 } := by
  decide +kernel

end Sys2Proof.Machine
end

section
/-! SUPPORT. Proofs of the statements on steps, frames and plain Control Space accesses (spec/00_scope.md). -/

namespace Sys2Proof.Machine

/-! ## What a command keeps -/

/-- The parts of the state that a list of components leaves out. -/
def Kept.except (l : List Component) : Kept where
  regs := Component.registers ∉ l
  beat := Component.beat ∉ l
  boot := Component.start ∉ l
  cores := Component.cores ∉ l
  cache := Component.caches ∉ l
  xlat := Component.translation ∉ l
  fab := Component.fabric ∉ l
  home := Component.homes ∉ l
  dram := Component.dram ∉ l
  mem := Component.memory ∉ l
  links := Component.links ∉ l
  sec := Component.islands ∉ l
  crypto := Component.crypto ∉ l
  pcie := Component.pcie ∉ l
  pwr := Component.power ∉ l
  err := Component.errors ∉ l
  sent := Component.sent ∉ l
  freeCtr := Component.free ∉ l

theorem State.Sound.same_of_not_mem {s t : State} {l : List Component} (h : t.Sound (.except l) s) {p : Component} (hp : p ∉ l) :
    p.Same s t := by
  cases p with
  | registers => exact h.k_regs (decide_eq_true hp)
  | beat => exact h.k_beat (decide_eq_true hp)
  | start => exact h.k_boot (decide_eq_true hp)
  | cores => exact h.k_cores (decide_eq_true hp)
  | caches => exact h.k_cache (decide_eq_true hp)
  | translation => exact h.k_xlat (decide_eq_true hp)
  | fabric => exact h.k_fab (decide_eq_true hp)
  | homes => exact h.k_home (decide_eq_true hp)
  | dram => exact h.k_dram (decide_eq_true hp)
  | memory => exact h.k_mem (decide_eq_true hp)
  | links => exact h.k_links (decide_eq_true hp)
  | islands => exact h.k_sec (decide_eq_true hp)
  | crypto => exact h.k_crypto (decide_eq_true hp)
  | pcie => exact h.k_pcie (decide_eq_true hp)
  | power => exact h.k_pwr (decide_eq_true hp)
  | errors => exact h.k_err (decide_eq_true hp)
  | sent => exact ⟨h.k_sent (decide_eq_true hp), h.k_flits (decide_eq_true hp)⟩
  | free => exact h.k_freeCtr (decide_eq_true hp)

/-- An outcome follows the state it came from and agrees with it in every part that l does not list. -/
def OutAgrees (l : List Component) (s : State) (o : Out) : Prop :=
  ∀ t, o = .next t → t.Follows s ∧ ∀ p, p ∉ l → p.Same s t

theorem OutAgrees.of_sound {l : List Component} {s : State} {o : Out} (h : OutSound (.except l) s o) : OutAgrees l s o := by
  rintro t rfl
  exact ⟨State.Sound.follows h, fun _ => State.Sound.same_of_not_mem h⟩

/-- Every part of the state. -/
def everyPart : List Component :=
  [.registers, .beat, .start, .cores, .caches, .translation, .fabric, .homes, .dram, .memory, .links, .islands, .crypto, .pcie, .power,
    .errors, .sent, .free]

theorem mem_everyPart (p : Component) : p ∈ everyPart := by
  cases p <;> decide

/-- Where every part is listed, following is enough. -/
theorem OutAgrees.of_follows {s : State} {o : Out} (h : OutFollows s o) : OutAgrees everyPart s o := by
  rintro t rfl
  exact ⟨h, fun p hp => absurd (mem_everyPart p) hp⟩

theorem State.Follows.inv {s o : State} (h : s.Follows o) : s.Inv := ⟨h.mem, h.regs⟩

theorem State.Follows.refl {s : State} (h : s.Inv) : s.Follows s := (State.Sound.self (k := .except []) h).follows

theorem Component.same_refl (s : State) (p : Component) : p.Same s s := by
  cases p with
  | sent => exact ⟨rfl, rfl⟩
  | _ => rfl

/-- RESET_N rises: the registers, the beat and the start-up move, the rest stays (R66). -/
theorem execResetDeassert_agrees {s : State} (h : s.Inv) (strap : Pkg) :
    OutAgrees [.registers, .beat, .start] s (execResetDeassert strap s) := by
  rintro t ⟨⟩
  refine ⟨State.deassert_follows (.refl h), fun p hp => ?_⟩
  unfold State.deassert
  split
  · exact Component.same_refl s p
  · cases p with
    | registers | beat | start => simp at hp
    | sent => exact ⟨rfl, rfl⟩
    | _ => rfl

/-- Every command follows the state it starts from and leaves what mayChange does not list; one line per command, the lemma of its
own meaning. -/
theorem exec_agrees (c : Instr) {s : State} (h : s.Inv) : OutAgrees (mayChange c) s (exec c s) := by
  cases c with
  | beatBoundary => exact .of_follows (execBeatBoundary_follows (.refl h))
  | resetAssert => exact .of_follows (execResetAssert_follows (.refl h))
  | resetDeassert strap => exact execResetDeassert_agrees h strap
  | csRegisterWrite => exact .of_sound (execCsRegisterWrite_sound (.self h))
  | coreLoad => exact .of_sound (execCoreLoad_sound (.self h))
  | coreStore => exact .of_sound (execCoreStore_sound (.self h))
  | coreAtomic => exact .of_sound (execCoreAtomic_sound (.self h))
  | coreFetch => exact .of_sound (execCoreFetch_sound (.self h))
  | budgetReport => exact .of_sound (execBudgetReport_sound (.self h))
  | budgetStale => exact .of_sound (execBudgetStale_sound (.self h))
  | powerGrant => exact .of_sound (execPowerGrant_sound (.self h))
  | avsVdone => exact .of_sound (execAvsVdone_sound (.self h))
  | avsTimeout => exact .of_sound (execAvsTimeout_sound (.self h))
  | beatMarker => exact .of_sound (execBeatMarker_sound (.self h))
  | markerMiss => exact .of_sound (execMarkerMiss_sound (.self h))
  | beatLost => exact .of_sound (execBeatLost_sound (.self h))
  | pealRequest => exact .of_sound (execPealRequest_sound (.self h))
  | pealArming => exact .of_sound (execPealArming_sound (.self h))
  | pealAck => exact .of_sound (execPealAck_sound (.self h))
  | pealPackageResult => exact .of_sound (execPealPackageResult_sound (.self h))
  | pealVerdict => exact .of_sound (execPealVerdict_sound (.self h))
  | hallmarkReceived _ _ ticket => exact .of_sound (execHallmarkReceived_sound (x := ticket) (.self h))
  | islandConfirm => exact .of_sound (execIslandConfirm_sound (.self h))
  | islandConfirmTimeout => exact .of_sound (execIslandConfirmTimeout_sound (.self h))
  | flashReadDone => exact .of_sound (execFlashReadDone_sound (.self h))
  | imageVerifyDone => exact .of_sound (execImageVerifyDone_sound (.self h))
  | trainingTaskDone => exact .of_sound (execTrainingTaskDone_sound (.self h))
  | moduleTimeout => exact .of_sound (execModuleTimeout_sound (.self h))
  | mgmtReadBootStat => exact .of_sound (execMgmtReadBootStat_sound (.self h))
  | checkerMismatch => exact .of_sound (execCheckerMismatch_sound (.self h))
  | twinCompare => exact .of_sound (execTwinCompare_sound (.self h))
  | twinCompareTimeout => exact .of_sound (execTwinCompareTimeout_sound (.self h))
  | twinInputApply => exact .of_sound (execTwinInputApply_sound (.self h))
  | twinStateCompare => exact .of_sound (execTwinStateCompare_sound (.self h))
  | coreGo => exact .of_sound (execCoreGo_sound (.self h))
  | coreStop => exact .of_sound (execCoreStop_sound (.self h))
  | pmuOverflow => exact .of_sound (execPmuOverflow_sound (.self h))
  | carillonMessage => exact .of_sound (execCarillonMessage_sound (.self h))
  | coreRunNotice => exact .of_sound (execCoreRunNotice_sound (.self h))
  | intAck => exact .of_sound (execIntAck_sound (.self h))
  | intEoi => exact .of_sound (execIntEoi_sound (.self h))
  | intIpi => exact .of_sound (execIntIpi_sound (.self h))
  | carVecWrite => exact .of_sound (execCarVecWrite_sound (.self h))
  | cmoIssueClean => exact .of_sound (execCmoIssueClean_sound (.self h))
  | cmoIssueInvalidate => exact .of_sound (execCmoIssueInvalidate_sound (.self h))
  | cmoIssueCleanInval => exact .of_sound (execCmoIssueCleanInval_sound (.self h))
  | cmoWalkDone => exact .of_sound (execCmoWalkDone_sound (.self h))
  | l1CtlWrite => exact .of_sound (execL1CtlWrite_sound (.self h))
  | dcCtlWrite => exact .of_sound (execDcCtlWrite_sound (.self h))
  | cacheArrayError => exact .of_sound (execCacheArrayError_sound (.self h))
  | walkDescriptor => exact .of_sound (execWalkDescriptor_sound (.self h))
  | xlatCtlWrite => exact .of_sound (execXlatCtlWrite_sound (.self h))
  | xlatBaseWrite => exact .of_sound (execXlatBaseWrite_sound (.self h))
  | tlbiByVaAsid => exact .of_sound (execTlbiByVaAsid_sound (.self h))
  | tlbiByVa => exact .of_sound (execTlbiByVa_sound (.self h))
  | tlbiByAsid => exact .of_sound (execTlbiByAsid_sound (.self h))
  | tlbiAll => exact .of_sound (execTlbiAll_sound (.self h))
  | tlbiApply => exact .of_sound (execTlbiApply_sound (.self h))
  | tlbiSync => exact .of_sound (execTlbiSync_sound (.self h))
  | tlbiSyncDone => exact .of_sound (execTlbiSyncDone_sound (.self h))
  | routerForward => exact .of_sound (execRouterForward_sound (.self h))
  | transitForward => exact .of_sound (execTransitForward_sound (.self h))
  | linkCrcError => exact .of_sound (execLinkCrcError_sound (.self h))
  | flitCrcFail => exact .of_sound (execFlitCrcFail_sound (.self h))
  | creditReturn => exact .of_sound (execCreditReturn_sound (.self h))
  | regulatorPass => exact .of_sound (execRegulatorPass_sound (.self h))
  | arbiterRound => exact .of_sound (execArbiterRound_sound (.self h))
  | arbiterBackoffEnd => exact .of_sound (execArbiterBackoffEnd_sound (.self h))
  | burstExpiry => exact .of_sound (execBurstExpiry_sound (.self h))
  | arbClr => exact .of_sound (execArbClr_sound (.self h))
  | rdShared => exact .of_sound (execRdShared_sound (.self h))
  | rdUnique => exact .of_sound (execRdUnique_sound (.self h))
  | upgrade => exact .of_sound (execUpgrade_sound (.self h))
  | wtWrite => exact .of_sound (execWtWrite_sound (.self h))
  | farAtomic => exact .of_sound (execFarAtomic_sound (.self h))
  | cmoClean => exact .of_sound (execCmoClean_sound (.self h))
  | cmoCleanInv => exact .of_sound (execCmoCleanInv_sound (.self h))
  | dmaRd => exact .of_sound (execDmaRd_sound (.self h))
  | dmaWr => exact .of_sound (execDmaWr_sound (.self h))
  | ucRd => exact .of_sound (execUcRd_sound (.self h))
  | ucWr => exact .of_sound (execUcWr_sound (.self h))
  | ucAtomic => exact .of_sound (execUcAtomic_sound (.self h))
  | snpShared => exact .of_sound (execSnpShared_sound (.self h))
  | snpUnique => exact .of_sound (execSnpUnique_sound (.self h))
  | snpInv => exact .of_sound (execSnpInv_sound (.self h))
  | snpClean => exact .of_sound (execSnpClean_sound (.self h))
  | snpRecall => exact .of_sound (execSnpRecall_sound (.self h))
  | snpOrderShared => exact .of_sound (execSnpOrderShared_sound (.self h))
  | snpOrderUnique => exact .of_sound (execSnpOrderUnique_sound (.self h))
  | snpOrderRecall => exact .of_sound (execSnpOrderRecall_sound (.self h))
  | wbDirty => exact .of_sound (execWbDirty_sound (.self h))
  | evictClean => exact .of_sound (execEvictClean_sound (.self h))
  | wbLost => exact .of_sound (execWbLost_sound (.self h))
  | dataS => exact .of_sound (execDataS_sound (.self h))
  | dataE => exact .of_sound (execDataE_sound (.self h))
  | dataM => exact .of_sound (execDataM_sound (.self h))
  | dataO => exact .of_sound (execDataO_sound (.self h))
  | snpData => exact .of_sound (execSnpData_sound (.self h))
  | dataUc => exact .of_sound (execDataUc_sound (.self h))
  | atomicData => exact .of_sound (execAtomicData_sound (.self h))
  | atomicDataSole => exact .of_sound (execAtomicDataSole_sound (.self h))
  | comp => exact .of_sound (execComp_sound (.self h))
  | compContended => exact .of_sound (execCompContended_sound (.self h))
  | compAck => exact .of_sound (execCompAck_sound (.self h))
  | snpRspI => exact .of_sound (execSnpRspI_sound (.self h))
  | snpRspS => exact .of_sound (execSnpRspS_sound (.self h))
  | snpRspFwdClean => exact .of_sound (execSnpRspFwdClean_sound (.self h))
  | snpRspFwdDirty => exact .of_sound (execSnpRspFwdDirty_sound (.self h))
  | snpRspPassed => exact .of_sound (execSnpRspPassed_sound (.self h))
  | wbAck => exact .of_sound (execWbAck_sound (.self h))
  | retry => exact .of_sound (execRetry_sound (.self h))
  | retryReissue => exact .of_sound (execRetryReissue_sound (.self h))
  | busErr => exact .of_sound (execBusErr_sound (.self h))
  | dirSweepDone => exact .of_sound (execDirSweepDone_sound (.self h))
  | unsureResolve => exact .of_sound (execUnsureResolve_sound (.self h))
  | dieReset => exact .of_sound (execDieReset_sound (.self h))
  | dieClockLost => exact .of_sound (execDieClockLost_sound (.self h))
  | fenceNotice => exact .of_sound (execFenceNotice_sound (.self h))
  | fenceWalkDone => exact .of_sound (execFenceWalkDone_sound (.self h))
  | lineClear => exact .of_sound (execLineClear_sound (.self h))
  | dirProbeData => exact .of_sound (execDirProbeData_sound (.self h))
  | dramRead => exact .of_sound (execDramRead_sound (.self h))
  | memDevOut => exact .of_sound (execMemDevOut_sound (.self h))
  | memPageRebuild => exact .of_sound (execMemPageRebuild_sound (.self h))
  | dramWrite => exact .of_sound (execDramWrite_sound (.self h))
  | pageLockRelease => exact .of_sound (execPageLockRelease_sound (.self h))
  | parityCacheError => exact .of_sound (execParityCacheError_sound (.self h))
  | restripePage => exact .of_sound (execRestripePage_sound (.self h))
  | rankPowerDown => exact .of_sound (execRankPowerDown_sound (.self h))
  | rankRefresh => exact .of_sound (execRankRefresh_sound (.self h))
  | rankCalibration => exact .of_sound (execRankCalibration_sound (.self h))
  | scrubRead => exact .of_sound (execScrubRead_sound (.self h))
  | trnWritePattern => exact .of_sound (execTrnWritePattern_sound (.self h))
  | trnReadCompare => exact .of_sound (execTrnReadCompare_sound (.self h))
  | trnWriteReadCompare => exact .of_sound (execTrnWriteReadCompare_sound (.self h))
  | trnDone => exact .of_sound (execTrnDone_sound (.self h))
  | channelInitDone => exact .of_sound (execChannelInitDone_sound (.self h))
  | caParityError => exact .of_sound (execCaParityError_sound (.self h))
  | laserPowerLoss => exact .of_sound (execLaserPowerLoss_sound (.self h))
  | ltLight => exact .of_sound (execLtLight_sound (.self h))
  | ltLock => exact .of_sound (execLtLock_sound (.self h))
  | ltAdvertise => exact .of_sound (execLtAdvertise_sound (.self h))
  | ltConfirm => exact .of_sound (execLtConfirm_sound (.self h))
  | ltStepDone => exact .of_sound (execLtStepDone_sound (.self h))
  | laneCheckFail => exact .of_sound (execLaneCheckFail_sound (.self h))
  | laneMapOut => exact .of_sound (execLaneMapOut_sound (.self h))
  | linkLightLoss => exact .of_sound (execLinkLightLoss_sound (.self h))
  | helloReceived => exact .of_sound (execHelloReceived_sound (.self h))
  | systemFound => exact .of_sound (execSystemFound_sound (.self h))
  | joinRequest => exact .of_sound (execJoinRequest_sound (.self h))
  | joinLogDone => exact .of_sound (execJoinLogDone_sound (.self h))
  | joinRetry => exact .of_sound (execJoinRetry_sound (.self h))
  | socketPresence => exact .of_sound (execSocketPresence_sound (.self h))
  | socketButton => exact .of_sound (execSocketButton_sound (.self h))
  | socketPwrGood => exact .of_sound (execSocketPwrGood_sound (.self h))
  | socketPwrGoodFall => exact .of_sound (execSocketPwrGoodFall_sound (.self h))
  | socketPowerTimeout => exact .of_sound (execSocketPowerTimeout_sound (.self h))
  | sktPowerOn => exact .of_sound (execSktPowerOn_sound (.self h))
  | sktLeave => exact .of_sound (execSktLeave_sound (.self h))
  | sktPowerOff => exact .of_sound (execSktPowerOff_sound (.self h))
  | leaveDrained => exact .of_sound (execLeaveDrained_sound (.self h))
  | socketPwrEnDrop => exact .of_sound (execSocketPwrEnDrop_sound (.self h))
  | pkgMarkerTimeout => exact .of_sound (execPkgMarkerTimeout_sound (.self h))
  | pkgLostReport => exact .of_sound (execPkgLostReport_sound (.self h))
  | pkgLostReceived => exact .of_sound (execPkgLostReceived_sound (.self h))
  | pkgLostPwrEnDrop => exact .of_sound (execPkgLostPwrEnDrop_sound (.self h))
  | regionTransferDone => exact .of_sound (execRegionTransferDone_sound (.self h))
  | imageUpdateDone => exact .of_sound (execImageUpdateDone_sound (.self h))
  | partStartCopyDone => exact .of_sound (execPartStartCopyDone_sound (.self h))
  | attGo => exact .of_sound (execAttGo_sound (.self h))
  | attReportDone => exact .of_sound (execAttReportDone_sound (.self h))
  | slotSubmitTicket => exact .of_sound (execSlotSubmitTicket_sound (.self h))
  | slotSubmitCommand => exact .of_sound (execSlotSubmitCommand_sound (.self h))
  | slotClear => exact .of_sound (execSlotClear_sound (.self h))
  | ticketVetted => exact .of_sound (execTicketVetted_sound (.self h))
  | ticketAtMaster => exact .of_sound (execTicketAtMaster_sound (.self h))
  | ticketRemoteVet => exact .of_sound (execTicketRemoteVet_sound (.self h))
  | ticketVetResult => exact .of_sound (execTicketVetResult_sound (.self h))
  | ticketVetTimeout => exact .of_sound (execTicketVetTimeout_sound (.self h))
  | officerCmdRest => exact .of_sound (execOfficerCmdRest_sound (.self h))
  | officerCmdAssay => exact .of_sound (execOfficerCmdAssay_sound (.self h))
  | mgmtSetOffset => exact .of_sound (execMgmtSetOffset_sound (.self h))
  | mgmtBufferWrite => exact .of_sound (execMgmtBufferWrite_sound (.self h))
  | mgmtSlotCmd => exact .of_sound (execMgmtSlotCmd_sound (.self h))
  | mgmtReadSlotStat => exact .of_sound (execMgmtReadSlotStat_sound (.self h))
  | mgmtReadLastTicket => exact .of_sound (execMgmtReadLastTicket_sound (.self h))
  | mgmtReadRestStat => exact .of_sound (execMgmtReadRestStat_sound (.self h))
  | ringTailWrite => exact .of_sound (execRingTailWrite_sound (.self h))
  | ringCtlWrite => exact .of_sound (execRingCtlWrite_sound (.self h))
  | ringFetch => exact .of_sound (execRingFetch_sound (.self h))
  | cipher => exact .of_sound (execCipher_sound (.self h))
  | hash => exact .of_sound (execHash_sound (.self h))
  | macGen => exact .of_sound (execMacGen_sound (.self h))
  | macVerify => exact .of_sound (execMacVerify_sound (.self h))
  | pinTranslate => exact .of_sound (execPinTranslate_sound (.self h))
  | random => exact .of_sound (execRandom_sound (.self h))
  | sign => exact .of_sound (execSign_sound (.self h))
  | verify => exact .of_sound (execVerify_sound (.self h))
  | asymCrypt => exact .of_sound (execAsymCrypt_sound (.self h))
  | keyGen => exact .of_sound (execKeyGen_sound (.self h))
  | kbImport => exact .of_sound (execKbImport_sound (.self h))
  | kbExport => exact .of_sound (execKbExport_sound (.self h))
  | keyErase => exact .of_sound (execKeyErase_sound (.self h))
  | keyInfo => exact .of_sound (execKeyInfo_sound (.self h))
  | pubExport => exact .of_sound (execPubExport_sound (.self h))
  | pcieCompletion => exact .of_sound (execPcieCompletion_sound (.self h))
  | pcieCplTimeout => exact .of_sound (execPcieCplTimeout_sound (.self h))
  | tagQuarantineEnd => exact .of_sound (execTagQuarantineEnd_sound (.self h))
  | cfgRead => exact .of_sound (execCfgRead_sound (.self h))
  | cfgWrite => exact .of_sound (execCfgWrite_sound (.self h))
  | cfgRrsRetry => exact .of_sound (execCfgRrsRetry_sound (.self h))
  | pcieMemoryRead => exact .of_sound (execPcieMemoryRead_sound (.self h))
  | pcieMemoryWrite => exact .of_sound (execPcieMemoryWrite_sound (.self h))
  | pcieAtomicop => exact .of_sound (execPcieAtomicop_sound (.self h))
  | pcieMsi => exact .of_sound (execPcieMsi_sound (.self h))
  | pcieErrMsg => exact .of_sound (execPcieErrMsg_sound (.self h))
  | pcieIntx _ reqId => exact .of_sound (execPcieIntx_sound (x := reqId) (.self h))
  | pcieLinkDown => exact .of_sound (execPcieLinkDown_sound (.self h))
  | pcieLinkUp => exact .of_sound (execPcieLinkUp_sound (.self h))
  | segCtlWrite => exact .of_sound (execSegCtlWrite_sound (.self h))
  | segHotReset => exact .of_sound (execSegHotReset_sound (.self h))
  | hotResetEnd => exact .of_sound (execHotResetEnd_sound (.self h))
  | slotPowerOn => exact .of_sound (execSlotPowerOn_sound (.self h))
  | slotPowerOff => exact .of_sound (execSlotPowerOff_sound (.self h))
  | slotPwrgdTimeout => exact .of_sound (execSlotPwrgdTimeout_sound (.self h))
  | slotPerstRelease => exact .of_sound (execSlotPerstRelease_sound (.self h))
  | slotPwrenDrop => exact .of_sound (execSlotPwrenDrop_sound (.self h))
  | slotPresenceChange => exact .of_sound (execSlotPresenceChange_sound (.self h))
  | slotPwrgdFall => exact .of_sound (execSlotPwrgdFall_sound (.self h))
  | slotButton => exact .of_sound (execSlotButton_sound (.self h))
  | sepHostAccess => exact .of_sound (execSepHostAccess_sound (.self h))
  | sepHostDb => exact .of_sound (execSepHostDb_sound (.self h))
  | sepHostInt => exact .of_sound (execSepHostInt_sound (.self h))
  | sepCopyGo => exact .of_sound (execSepCopyGo_sound (.self h))
  | sepCopyDone => exact .of_sound (execSepCopyDone_sound (.self h))
  | sepBmeClear => exact .of_sound (execSepBmeClear_sound (.self h))
  | sepFlr => exact .of_sound (execSepFlr_sound (.self h))
  | sepFlrDone => exact .of_sound (execSepFlrDone_sound (.self h))
  | sepHostPerst => exact .of_sound (execSepHostPerst_sound (.self h))
  | domainDrainDone => exact .of_sound (execDomainDrainDone_sound (.self h))
  | targetOff => exact .of_sound (execTargetOff_sound (.self h))
  | wakeNotice => exact .of_sound (execWakeNotice_sound (.self h))
  | dieWakeDone => exact .of_sound (execDieWakeDone_sound (.self h))
  | restNotice => exact .of_sound (execRestNotice_sound (.self h))
  | restDrainDone => exact .of_sound (execRestDrainDone_sound (.self h))
  | restingNotice => exact .of_sound (execRestingNotice_sound (.self h))
  | restReqWrite => exact .of_sound (execRestReqWrite_sound (.self h))
  | pwrHubReqWrite => exact .of_sound (execPwrHubReqWrite_sound (.self h))
  | cdPlReqWrite => exact .of_sound (execCdPlReqWrite_sound (.self h))
  | wakeMatch => exact .of_sound (execWakeMatch_sound (.self h))
  | wakeStepEnd => exact .of_sound (execWakeStepEnd_sound (.self h))
  | elogTailWrite => exact .of_sound (execElogTailWrite_sound (.self h))
  | gongMessage hub => exact .of_sound (execGongMessage_sound (x := hub) (.self h))
  | assayPrepared => exact .of_sound (execAssayPrepared_sound (.self h))
  | assayTestDone => exact .of_sound (execAssayTestDone_sound (.self h))
  | tapIdcode => exact .of_sound (execTapIdcode_sound (.self h))
  | tapSamplePreload => exact .of_sound (execTapSamplePreload_sound (.self h))
  | tapExtest => exact .of_sound (execTapExtest_sound (.self h))
  | tapClamp => exact .of_sound (execTapClamp_sound (.self h))
  | tapHighz => exact .of_sound (execTapHighz_sound (.self h))
  | dbgSelect => exact .of_sound (execDbgSelect_sound (.self h))
  | dbgHalt => exact .of_sound (execDbgHalt_sound (.self h))
  | dbgRegs => exact .of_sound (execDbgRegs_sound (.self h))
  | dbgMem => exact .of_sound (execDbgMem_sound (.self h))
  | dbgArray => exact .of_sound (execDbgArray_sound (.self h))
  | tapBypass => exact .of_sound (execTapBypass_sound (.self h))
  | thermtripAnalog => exact .of_sound (execThermtripAnalog_sound (.self h))
  | vrPgFall => exact .of_sound (execVrPgFall_sound (.self h))
  | refclkLoss => exact .of_sound (execRefclkLoss_sound (.self h))
  | laserSwitchDone => exact .of_sound (execLaserSwitchDone_sound (.self h))
  | pcieRecoveryEntry => exact .of_sound (execPcieRecoveryEntry_sound (.self h))
  | pcieRecoveryExit => exact .of_sound (execPcieRecoveryExit_sound (.self h))
  | sepHostPerstRelease => exact .of_sound (execSepHostPerstRelease_sound (.self h))
  | sepHostConfig => exact .of_sound (execSepHostConfig_sound (.self h))
  | moduleNotAnswering => exact .of_sound (execModuleNotAnswering_sound (.self h))
  | moduleTemperature => exact .of_sound (execModuleTemperature_sound (.self h))
  | mgmtBusTimeout => exact .of_sound (execMgmtBusTimeout_sound (.self h))
  | perstHoldExpiry => exact .of_sound (execPerstHoldExpiry_sound (.self h))

/-! ## Steps -/

theorem step_of_empty {s : State} (h : s.pending = []) : step s = .next s := by
  simp [step, h]

theorem step_of_cons {s : State} {c : Instr} {r : List Instr} (h : s.pending = c :: r) :
    step s = exec c { s with pending := r } := by
  simp [step, h]

/-! Three meanings choose between next states by their condition. -/

theorem execDirSweepDone_next (h : Hub) (s : State) : ∃ t, execDirSweepDone h s = .next t := by
  unfold execDirSweepDone
  split
  · exact ⟨_, rfl⟩
  · exact ⟨_, rfl⟩

theorem execFenceWalkDone_next (h : Hub) (s : State) : ∃ t, execFenceWalkDone h s = .next t := by
  unfold execFenceWalkDone
  split
  · exact ⟨_, rfl⟩
  · exact ⟨_, rfl⟩

theorem execUnsureResolve_next (h : Hub) (set : Fin (2 ^ 19)) (way : Fin 16) (s : State) :
    ∃ t, execUnsureResolve h set way s = .next t := by
  unfold execUnsureResolve
  dsimp only
  split
  · exact ⟨_, rfl⟩
  split
  · exact ⟨_, rfl⟩
  split
  · exact ⟨_, rfl⟩
  · exact ⟨_, rfl⟩

/-- The state at reset has the canonical forms: it lists nothing. -/
theorem State.reset_inv : State.reset.Inv := ⟨rfl, .nil, nofun⟩

/-! ## Plain writes to the package block -/

theorem locate_of_regAt {off n : Nat} {b : Blk} {ix : List Nat} {r : RegRow} (h : regAt off = some (b, n, ix, r)) :
    ∃ rel, locate off = some (b, n, rel) := by
  unfold regAt at h
  cases hl : locate off with
  | none => simp [hl] at h
  | some x =>
    obtain ⟨b', n', rel⟩ := x
    simp only [hl] at h
    obtain ⟨q, -, hq⟩ := List.exists_of_findSome?_eq_some h
    obtain ⟨_, -, he⟩ := Option.map_eq_some_iff.mp hq
    cases he
    exact ⟨rel, rfl⟩

/-- Only the region registers of the channel blocks have copies (R267). -/
theorem canonOff_of_ne_mc {off n rel : Nat} {b : Blk} (h : locate off = some (b, n, rel)) (hb : b ≠ .mc) : canonOff off = off := by
  unfold canonOff
  rw [h]
  cases b with
  | mc => exact absurd rfl hb
  | _ => rfl

/-- The register that a plain write names holds each field by its type (R17, R18); the RWL_WRITE record changes no register. -/
theorem State.reg_plainWrite {s : State} {off n : Nat} {b : Blk} {ix : List Nat} {r : RegRow} (h : regAt off = some (b, n, ix, r))
    (hb : b ≠ .mc) (v : Word) (p k : Nat) :
    (s.plainWrite off v p).reg k = if k = off then fieldWrite r.flds (s.reg off) v else s.reg k := by
  obtain ⟨rel, hl⟩ := locate_of_regAt h
  unfold State.plainWrite
  simp only [h, canonOff_of_ne_mc hl hb, State.reg_setReg]
  congr 1
  split
  · exact State.record_reg ..
  · rfl

/-- No register of the package block has a write effect of its own, and none is missing from an instance. -/
theorem State.csStore_pkg {s : State} {w : Who} {off n : Nat} {v : Word} {ix : List Nat} {r : RegRow} (ha : s.Admitted w off true)
    (h : regAt off = some (.pkg, n, ix, r)) : s.csStore w off 8 v = (s.plainWrite off v (s.whoPart w)).whoReply w 0 := by
  have ho : off % 8 = 0 := ha.1.2.1
  have hstore : s.csStore w off 8 v = s.plainOp w off v := by
    simp [State.csStore, ho, h, State.absent]
  rw [hstore, State.plainOp, State.csGuard_admitted ha]
  simp [h, State.absent]

/-! ## A read that a lost core left behind -/

/-- Core 0 runs, outside any pair. A UC read that was performed once for the pair of cores 0 and 120 is still at its home; core 0 has
failed since and is no longer answered (R88), but it is one of the read's makers. -/
def lostRead : State :=
  let s : State := { State.reset with boot := { State.reset.boot with inReset := false } }
  (s.setCoreState 0 2).onCache fun k => { k with
    direct := [{ (default : Direct) with
      op := .ucRd
      acc := { (default : Acc) with core := 0, src := .load, size := 8, attr := .uc, twin := true, lost := [0] } }] }

/-- accsOut asks whom an access answers, and finds none of core 0. -/
theorem lostRead_accsOut : lostRead.accsOut 0 (fun _ => true) = false := by decide +kernel

/-- devAhead asks who made an access: core 0's load of 4 bytes at Control Space offset 8 waits for the read and is to be issued again
(answer 4), so it is no bus error. -/
theorem lostRead_reissues :
    exec (.coreLoad 0 (BitVec.ofNat 64 (lostRead.csAddr 8)) 4 false false) lostRead = .next (lostRead.toCore 0 4) :=
  congrArg Host.Outcome.next (by decide +kernel)

/-- Core 0 runs, and no write of it is outstanding. -/
theorem lostRead_runs : lostRead.Runs 0 := ⟨by decide +kernel, by decide +kernel⟩

end Sys2Proof.Machine

open Sys2Proof Sys2Proof.Machine

/-- Settles O4: every command that a step runs follows the state it starts from, and keeps the canonical forms with it. -/
theorem stepKeepsInvariant : Obligations.StepKeepsInvariant := by
  intro s t hs hstep
  cases hp : s.pending with
  | nil =>
    rw [step_of_empty hp] at hstep
    cases hstep
    exact hs
  | cons c r =>
    rw [step_of_cons hp] at hstep
    exact (exec_agrees c (s := { s with pending := r }) hs t hstep).1.inv

/-- Settles O5: by the command, each by the lemma of its own meaning. -/
theorem commandsKeepTheRest : Obligations.CommandsKeepTheRest := by
  intro c s t hs hexec
  obtain ⟨hfollows, hsame⟩ := exec_agrees c hs t hexec
  exact ⟨hfollows.queue, hsame⟩

/-- Refutes O8: while an access that core 0 helped to make is outstanding, though it no longer answers core 0, a load of core 0 of a wrong
width at Control Space is answered with reissue instead of a bus error (the second clause). -/
theorem not_controlSpaceAccessRules : ¬ Obligations.ControlSpaceAccessRules := by
  rintro ⟨-, hload, -⟩
  obtain ⟨t, ht, -, hbusErr, -⟩ := hload lostRead 0 (BitVec.ofNat 64 (lostRead.csAddr 8)) 4 false 8
    lostRead_runs lostRead_accsOut (by decide +kernel) (by decide +kernel) (by decide) (by decide +kernel) (by decide) (by decide) (by decide +kernel)
  rw [lostRead_reissues] at ht
  cases ht
  exact absurd hbusErr (by decide +kernel)

/-- Settles O13: the write reaches plainWrite, which sets the one register; record and answer leave the registers. -/
theorem plainRegisterWrites : Obligations.PlainRegisterWrites := by
  intro s who off v n ix r ha hreg
  refine ⟨_, congrArg Host.Outcome.next (State.csStore_pkg ha hreg), ?_, fun k hk => ?_⟩
  · rw [State.whoReply_reg, State.reg_plainWrite hreg (by decide), if_pos rfl]
  · rw [State.whoReply_reg, State.reg_plainWrite hreg (by decide), if_neg (by simpa using hk)]

/-- Settles O1: by the two equations of step. -/
theorem stepRunsFrontCommand : Obligations.StepRunsFrontCommand :=
  ⟨fun _ _ _ => step_of_cons rfl, fun _ => step_of_empty⟩

/-- Settles O2: nothing is listed in State.reset, so every register reads its Reset value. -/
theorem resetLeavesResetValues : Obligations.ResetLeavesResetValues :=
  ⟨State.reset_inv, fun _ => rfl, rfl, rfl, rfl, rfl, rfl⟩

/-- Settles O3: every meaning is a next state; three commands choose between next states by their condition. -/
theorem everyCommandCompletes : Obligations.EveryCommandCompletes := by
  intro c s
  cases c with
  | dirSweepDone h => exact execDirSweepDone_next h s
  | fenceWalkDone h => exact execFenceWalkDone_next h s
  | unsureResolve h set way => exact execUnsureResolve_next h set way s
  | _ => exact ⟨_, rfl⟩

end

section
/-! SUPPORT. A table walk that a stalled invalidation restarts (R160, R167, R168), against the statement on core accesses. -/

namespace Sys2Proof.Machine

/-- Walker 0 of core 0 has read a valid table descriptor at level 0; its table stands at address 0. -/
def tableWalk : Walk := { (default : Walk) with core := 0, n := 0, va := 0x1000, level := 0, got := some (some 1) }

/-- Core 0 runs, address 0 is backed, and die 1 has woken. A store of core 0 to a register of die 1 is still held (R392), and behind it
stands a local TLBI_ISSUE of core 0 for all entries (R167). -/
def stalledInvalidation : State :=
  let s := ((State.reset.setF (R.MC_MAP 0) F.MC_MAP_USABLE_MIB 2).setCoreState 0 2).setF (R.PWR_DIE 1) F.PWR_DIE_STATE 2
  ((s.onXlat fun x => { x with walks := [tableWalk] }).onPwr fun p =>
    { p with heldCs := [{ die := 1, who := .core 0 0 0, off := R.L1_CTL 20, wr := some 1 }] }).updCoreH 0 fun h =>
    { h with tlbiStall := [(4 + 8, 0, 0)] }

/-- The state after the wake notice of die 1: the store is held no more, and it is to be issued again. -/
def freedInvalidation : State := stalledInvalidation.wakeNoticeOp 0 (some 1)

theorem State.Inv.setF {s : State} (h : s.Inv) (off : Nat) (fl : Fld) (v : Nat) : (s.setF off fl v).Inv :=
  ⟨h.1, regsWf_setReg h.2 ..⟩

/-- The invariant speaks of registers and DRAM only, and three registers are written. -/
theorem stalledInvalidation_inv : stalledInvalidation.Inv :=
  ((State.reset_inv.setF (R.MC_MAP 0) F.MC_MAP_USABLE_MIB 2).setF (R.CORE_STAT 0) F.CORE_STAT_STATE 2).setF (R.PWR_DIE 1) F.PWR_DIE_STATE 2

theorem freedInvalidation_inv : freedInvalidation.Inv :=
  (exec_agrees (.wakeNotice 0 (some 1)) stalledInvalidation_inv freedInvalidation rfl).1.inv

/-- The wake notice frees the invalidation, but leaves it stalled: it goes on when the next access of its die ends. -/
theorem wakeNotice_frees_invalidation : stalledInvalidation.tlbiHold 0 true = true ∧ freedInvalidation.tlbiHold 0 true = false ∧
    (freedInvalidation.coreH 0).tlbiStall = [(4 + 8, 0, 0)] := by decide +kernel

/-- The descriptor alone takes the walk to level 1. -/
theorem freedInvalidation_walkStep :
    (freedInvalidation.walkStep tableWalk).1.xlat.walks = [{ tableWalk with level := 1, got := none }] := by decide +kernel

/-- The whole command then performs the freed invalidation, which starts the walk over at level 0 (R168). -/
theorem freedInvalidation_walkOp : (freedInvalidation.walkOp 0 0).xlat.walks = [{ tableWalk with got := none }] := by decide +kernel

end Sys2Proof.Machine

open Sys2Proof Sys2Proof.Machine

/-- Refutes O14: a table descriptor arrives while an invalidation of the core is stalled that nothing holds any longer. WALK_DESCRIPTOR lets
the invalidation go on, and the walk is back at level 0 (the fifth clause). -/
theorem not_coreAccesses : ¬ Obligations.CoreAccesses := by
  rintro ⟨-, -, -, -, hwalk, -⟩
  obtain ⟨t, ht, v, hv, -, -, -, hlevel, -⟩ := hwalk freedInvalidation 0 0 tableWalk 1 freedInvalidation_inv
    (by decide +kernel) rfl (by decide) (by decide) (by decide) (by decide +kernel)
  cases ht
  have hwalks : v ∈ [{ tableWalk with got := none }] := freedInvalidation_walkOp ▸ hv
  cases List.mem_singleton.mp hwalks
  exact absurd hlevel (by decide)

end

section
/-! SUPPORT. The beat number (R44): which commands leave it as it was. -/

namespace Sys2Proof.Machine

/-- Whatever parts of the state an outcome changes, it stays in its beat. -/
theorem clock_of_sound {s t : State} {o : Out} (h : OutSound (.except everyPart) s o) (ht : o = .next t) : t.beat.now = s.beat.now := by
  subst ht
  exact State.Sound.clock h

/-- The beat number is a part of the beat. -/
theorem exec_clock_of_beat_kept {c : Instr} {s t : State} (h : s.Inv) (ht : exec c s = .next t) (hc : Component.beat ∉ mayChange c) :
    t.beat.now = s.beat.now :=
  congrArg BeatSt.now ((exec_agrees c h t ht).2 .beat hc)

/-- Of the commands that may change the beat (its Peals, its counts, its adoption), only a boundary and the edges of RESET_N move its
number; one line per command, the lemma of its own meaning. -/
theorem exec_clock {c : Instr} {s t : State} (h : s.Inv) (hb : ∀ temps ests agree, c ≠ .beatBoundary temps ests agree) (ha : c ≠ .resetAssert)
    (hd : ∀ strap, c ≠ .resetDeassert strap) (ht : exec c s = .next t) : t.beat.now = s.beat.now := by
  cases c with
  | beatBoundary temps ests agree => exact absurd rfl (hb temps ests agree)
  | resetAssert => exact absurd rfl ha
  | resetDeassert => exact absurd rfl (hd _)
  | csRegisterWrite => exact clock_of_sound (execCsRegisterWrite_sound (.self h)) ht
  | coreLoad => exact clock_of_sound (execCoreLoad_sound (.self h)) ht
  | coreStore => exact clock_of_sound (execCoreStore_sound (.self h)) ht
  | coreAtomic => exact clock_of_sound (execCoreAtomic_sound (.self h)) ht
  | coreFetch => exact clock_of_sound (execCoreFetch_sound (.self h)) ht
  | beatMarker => exact clock_of_sound (execBeatMarker_sound (.self h)) ht
  | beatLost => exact clock_of_sound (execBeatLost_sound (.self h)) ht
  | pealRequest => exact clock_of_sound (execPealRequest_sound (.self h)) ht
  | pealArming => exact clock_of_sound (execPealArming_sound (.self h)) ht
  | pealAck => exact clock_of_sound (execPealAck_sound (.self h)) ht
  | pealPackageResult => exact clock_of_sound (execPealPackageResult_sound (.self h)) ht
  | pealVerdict => exact clock_of_sound (execPealVerdict_sound (.self h)) ht
  | hallmarkReceived _ _ ticket => exact clock_of_sound (execHallmarkReceived_sound (x := ticket) (.self h)) ht
  | imageVerifyDone => exact clock_of_sound (execImageVerifyDone_sound (.self h)) ht
  | trainingTaskDone => exact clock_of_sound (execTrainingTaskDone_sound (.self h)) ht
  | moduleTimeout => exact clock_of_sound (execModuleTimeout_sound (.self h)) ht
  | twinCompare => exact clock_of_sound (execTwinCompare_sound (.self h)) ht
  | twinCompareTimeout => exact clock_of_sound (execTwinCompareTimeout_sound (.self h)) ht
  | twinStateCompare => exact clock_of_sound (execTwinStateCompare_sound (.self h)) ht
  | walkDescriptor => exact clock_of_sound (execWalkDescriptor_sound (.self h)) ht
  | linkCrcError => exact clock_of_sound (execLinkCrcError_sound (.self h)) ht
  | flitCrcFail => exact clock_of_sound (execFlitCrcFail_sound (.self h)) ht
  | ucRd => exact clock_of_sound (execUcRd_sound (.self h)) ht
  | ucWr => exact clock_of_sound (execUcWr_sound (.self h)) ht
  | dieReset => exact clock_of_sound (execDieReset_sound (.self h)) ht
  | dieClockLost => exact clock_of_sound (execDieClockLost_sound (.self h)) ht
  | laserPowerLoss => exact clock_of_sound (execLaserPowerLoss_sound (.self h)) ht
  | ltStepDone => exact clock_of_sound (execLtStepDone_sound (.self h)) ht
  | laneMapOut => exact clock_of_sound (execLaneMapOut_sound (.self h)) ht
  | linkLightLoss => exact clock_of_sound (execLinkLightLoss_sound (.self h)) ht
  | systemFound => exact clock_of_sound (execSystemFound_sound (.self h)) ht
  | joinLogDone => exact clock_of_sound (execJoinLogDone_sound (.self h)) ht
  | socketButton => exact clock_of_sound (execSocketButton_sound (.self h)) ht
  | sktPowerOn => exact clock_of_sound (execSktPowerOn_sound (.self h)) ht
  | sktLeave => exact clock_of_sound (execSktLeave_sound (.self h)) ht
  | sktPowerOff => exact clock_of_sound (execSktPowerOff_sound (.self h)) ht
  | leaveDrained => exact clock_of_sound (execLeaveDrained_sound (.self h)) ht
  | pkgLostReceived => exact clock_of_sound (execPkgLostReceived_sound (.self h)) ht
  | regionTransferDone => exact clock_of_sound (execRegionTransferDone_sound (.self h)) ht
  | attReportDone => exact clock_of_sound (execAttReportDone_sound (.self h)) ht
  | ticketVetted => exact clock_of_sound (execTicketVetted_sound (.self h)) ht
  | ticketAtMaster => exact clock_of_sound (execTicketAtMaster_sound (.self h)) ht
  | ticketRemoteVet => exact clock_of_sound (execTicketRemoteVet_sound (.self h)) ht
  | ticketVetResult => exact clock_of_sound (execTicketVetResult_sound (.self h)) ht
  | officerCmdAssay => exact clock_of_sound (execOfficerCmdAssay_sound (.self h)) ht
  | cipher => exact clock_of_sound (execCipher_sound (.self h)) ht
  | hash => exact clock_of_sound (execHash_sound (.self h)) ht
  | macGen => exact clock_of_sound (execMacGen_sound (.self h)) ht
  | macVerify => exact clock_of_sound (execMacVerify_sound (.self h)) ht
  | pinTranslate => exact clock_of_sound (execPinTranslate_sound (.self h)) ht
  | random => exact clock_of_sound (execRandom_sound (.self h)) ht
  | sign => exact clock_of_sound (execSign_sound (.self h)) ht
  | verify => exact clock_of_sound (execVerify_sound (.self h)) ht
  | asymCrypt => exact clock_of_sound (execAsymCrypt_sound (.self h)) ht
  | keyGen => exact clock_of_sound (execKeyGen_sound (.self h)) ht
  | kbImport => exact clock_of_sound (execKbImport_sound (.self h)) ht
  | kbExport => exact clock_of_sound (execKbExport_sound (.self h)) ht
  | keyErase => exact clock_of_sound (execKeyErase_sound (.self h)) ht
  | keyInfo => exact clock_of_sound (execKeyInfo_sound (.self h)) ht
  | pubExport => exact clock_of_sound (execPubExport_sound (.self h)) ht
  | sepHostAccess => exact clock_of_sound (execSepHostAccess_sound (.self h)) ht
  | domainDrainDone => exact clock_of_sound (execDomainDrainDone_sound (.self h)) ht
  | wakeNotice => exact clock_of_sound (execWakeNotice_sound (.self h)) ht
  | restDrainDone => exact clock_of_sound (execRestDrainDone_sound (.self h)) ht
  | wakeStepEnd => exact clock_of_sound (execWakeStepEnd_sound (.self h)) ht
  | gongMessage hub => exact clock_of_sound (execGongMessage_sound (x := hub) (.self h)) ht
  | dbgMem => exact clock_of_sound (execDbgMem_sound (.self h)) ht
  | vrPgFall => exact clock_of_sound (execVrPgFall_sound (.self h)) ht
  | refclkLoss => exact clock_of_sound (execRefclkLoss_sound (.self h)) ht
  | _ => exact exec_clock_of_beat_kept h ht (of_decide_eq_false rfl)

end Sys2Proof.Machine

open Sys2Proof Sys2Proof.Machine

/-- Settles O6: by the command. -/
theorem onlyBoundariesMoveTheBeat : Obligations.OnlyBoundariesMoveTheBeat :=
  fun _ _ _ hs hb ha hd ht => exec_clock hs hb ha hd ht

end

section
/-! SUPPORT. Beat boundaries, markers and the loss of the beat (R44, R47, R48), and the events of the beat block (R64). -/

namespace Sys2Proof.Machine

/-! ## Registers that stand apart -/

theorem FP_SYNC_ne_BEAT_STAT (p : Nat) : R.FP_SYNC p ≠ R.BEAT_STAT := by simp only [R.FP_SYNC, R.BEAT_STAT]; omega
theorem FP_SYNC_ne_BEAT_SYNC (p : Nat) : R.FP_SYNC p ≠ R.BEAT_SYNC := by simp only [R.FP_SYNC, R.BEAT_SYNC]; omega

/-! ## Events of the beat block (R64) -/

section
variable (s : State)

@[simp] theorem State.beatEvent_beat (fl : Fld) : (s.beatEvent fl).beat = s.beat := by simp [State.beatEvent]

theorem State.beatEvent_f_ne (fl gl : Fld) {k : Nat} (h : k ≠ R.BEAT_STAT) : (s.beatEvent fl).f k gl = s.f k gl := by
  rw [State.beatEvent, State.raiseAll_f, State.f_setF_ne _ _ _ _ h]

theorem State.beatEvent_f_same {fl : Fld} (h : fl.fits) (h1 : 0 < fl.width) : (s.beatEvent fl).f R.BEAT_STAT fl = 1 := by
  rw [State.beatEvent, State.raiseAll_f, State.f_setF_same _ _ h, Nat.mod_eq_of_lt (Nat.one_lt_two_pow (by omega))]

/-! ## Markers (R47, R48) -/

/-- A counter that is raised reads its saturated successor. -/
theorem State.f_incF_same {off : Nat} {fl : Fld} (h : fl.fits) (n : Nat) : (s.incF off fl n).f off fl = min (s.f off fl + n) fl.max := by
  have hlt : min (s.f off fl + n) fl.max < 2 ^ fl.width :=
    lt_of_le_of_lt (min_le_right _ _) (Nat.sub_lt (Nat.two_pow_pos _) one_pos)
  rw [State.incF, State.f_setF_same _ _ h, Nat.mod_eq_of_lt hlt]

theorem State.worstNow_f_ne (fl : Fld) {k : Nat} (h : k ≠ R.BEAT_SYNC) : s.worstNow.f k fl = s.f k fl := by
  rw [State.worstNow, State.f_setF_ne _ _ _ _ h, State.onBeat_f]

/-- Steering shows in BEAT_SYNC and BEAT_STAT only. -/
theorem State.steer_f_ne (off : Int) (fl : Fld) {k : Nat} (h1 : k ≠ R.BEAT_SYNC) (h2 : k ≠ R.BEAT_STAT) : (s.steer off).f k fl = s.f k fl := by
  unfold State.steer
  dsimp only
  split
  · simp [State.beatEvent_f_ne, State.f_setF_ne, State.worstNow_f_ne, h1, h2]
  · simp [State.f_setF_ne, State.worstNow_f_ne, h1]

/-- A marker sets HOPS of its port and clears MISSED (R47); the count of beats without the master and the steering show elsewhere. -/
theorem State.markerIn_hops_missed {p : Nat} {w : Word} (ps : Int) (hk : bits w 0 4 = 1) (hp : s.linkActive p = true)
    (hr : s.beat.running = true) :
    (s.markerIn p w none ps).f (R.FP_SYNC p) F.FP_SYNC_HOPS = bits w 10 2 ∧
      (s.markerIn p w none ps).f (R.FP_SYNC p) F.FP_SYNC_MISSED = 0 := by
  unfold State.markerIn
  rw [if_neg (by simp [hk, hp, hr])]
  extract_lets r b a c d e
  have hhops : a.f r F.FP_SYNC_HOPS = bits w 10 2 := by
    rw [State.f_setF_apart _ _ (by decide) (by decide), State.f_setF_same _ _ (by decide), bits, Nat.mod_mod]
  have hmissed : a.f r F.FP_SYNC_MISSED = 0 := State.f_setF_same _ _ (by decide) _
  have he (fl : Fld) : e.f r fl = a.f r fl := by
    show State.f (if _ then _ else _) r fl = _
    split
    · rfl
    · rfl
  split
  · rw [he, he]
    exact ⟨hhops, hmissed⟩
  · rw [State.steer_f_ne _ _ _ (FP_SYNC_ne_BEAT_SYNC p) (FP_SYNC_ne_BEAT_STAT p), he,
      State.steer_f_ne _ _ _ (FP_SYNC_ne_BEAT_SYNC p) (FP_SYNC_ne_BEAT_STAT p), he]
    exact ⟨hhops, hmissed⟩

theorem State.markerGone_missed {p : Nat} (hp : s.linkActive p = true) :
    (s.markerGone p).f (R.FP_SYNC p) F.FP_SYNC_MISSED = min (s.f (R.FP_SYNC p) F.FP_SYNC_MISSED + 1) F.FP_SYNC_MISSED.max ∧
      (s.markerGone p).f R.BEAT_STAT F.BEAT_STAT_MARKER_MISS = 1 := by
  rw [State.markerGone, if_pos hp, State.beatEvent_f_ne _ _ _ (FP_SYNC_ne_BEAT_STAT p), State.f_incF_same _ (by decide)]
  exact ⟨rfl, State.beatEvent_f_same _ (by decide) (by decide)⟩

/-! ## The boundary (R44, R50) -/

variable {s} in
/-- A boundary that adopts no beat raises the number by 1 (R44); nothing that it does after that moves it. -/
theorem State.boundary_now (temps : List Nat) (ests : List (List Nat)) (hs : s.Inv) (hr : s.beat.running = true)
    (ha : s.beat.adopt = none) : (s.boundary temps ests).beat.now = (s.beat.now + 1) % 2 ^ 64 := by
  rw [(State.boundary_after temps ests hr hs).clock, State.beatNext, ha]
  rfl

/-! ## Gongs that a package raises (R418) -/

theorem State.selfFence_logged (e : ECode) (kind unit detail : Nat) : (s.selfFence e kind unit detail).Logged e kind unit :=
  (s.record_logged e kind unit [] none detail).of_logs rfl rfl

theorem State.selfFence_raise (e : ECode) (kind unit detail : Nat) :
    ∃ g ∈ (s.selfFence e kind unit detail).err.raise, g.cause = e.val ∧ g.beat = s.now + 1 := by
  refine ⟨_, List.mem_append_right _ (List.mem_singleton_self _), rfl, ?_⟩
  simp [State.now]

/-- After 16 markers out of 20 ns an admitted package that is not the master fences itself (R48). -/
theorem State.beatGone_fences (hin : s.isIn = true) (hm : s.isMaster = false) (ho : 16 ≤ s.beat.over20) (hf : s.beat.selfFenced = false) :
    s.beatGone = s.selfFence E.BEAT_LOST 2 0 := by
  simp [State.beatGone, hin, hm, ho, hf]

end

end Sys2Proof.Machine

open Sys2Proof Sys2Proof.Machine

/-- Settles O17: the boundary by what it does after its counter has moved, the others by what their one operation writes. -/
theorem beatCommands : Obligations.BeatCommands := by
  refine ⟨fun s temps ests agree hs hr _ ha => ⟨_, rfl, State.boundary_now (s := s.onSec _) temps ests hs hr ha⟩,
    fun s p w ps hk hp hr => ⟨_, rfl, s.markerIn_hops_missed ps hk hp hr⟩, fun s p hp => ⟨_, rfl, s.markerGone_missed hp⟩,
    fun s hin hm hover hself => ⟨_, rfl, ?_⟩⟩
  rw [s.beatGone_fences hin hm hover hself]
  exact ⟨rfl, State.selfFence_logged s _ _ _ _, s.selfFence_raise _ _ _ _⟩

end

section
/-! SUPPORT. Peals and the hallmark exchange: what each message of the protocol leaves behind (R53 to R57, R63). -/

namespace Sys2Proof.Machine

/-! ## Registers that stand apart -/

theorem HALLMARK_PEER_ne_BEAT_STAT (p : Nat) : R.HALLMARK_PEER p ≠ R.BEAT_STAT := by simp only [R.HALLMARK_PEER, R.BEAT_STAT]; omega
theorem SYS_STAT_ne_HALLMARK_PEER (p : Pkg) : R.SYS_STAT ≠ R.HALLMARK_PEER p := by
  have := p.isLt
  simp only [R.HALLMARK_PEER, R.SYS_STAT]
  omega
theorem PEAL_LAST_ne_SKT_STAT (i : Nat) : R.PEAL_LAST ≠ R.SKT_STAT i := by simp only [R.PEAL_LAST, R.SKT_STAT]; omega
theorem BEAT_STAT_ne_SKT_STAT (i : Nat) : R.BEAT_STAT ≠ R.SKT_STAT i := by simp only [R.BEAT_STAT, R.SKT_STAT]; omega

section
variable {s : State}

/-! ## Requests (R52, R53) -/

theorem State.requestPeal_forwards (hm : s.isMaster = false) (target : Nat) (c : Change) :
    s.requestPeal target c = s.send (.pealReq s.master target c) := by
  simp [State.requestPeal, hm]

/-- PEAL_LAST shows the outcome, and PEAL_DONE is set (R64). -/
theorem State.pealLast_shows (s : State) {res : Nat} (hres : res < 16) (kind seq target : Nat) (cause : Nat × Nat) :
    (s.pealLast res kind seq target cause).f R.PEAL_LAST F.PEAL_LAST_RESULT = res ∧
      (s.pealLast res kind seq target cause).f R.PEAL_LAST F.PEAL_LAST_SEQ = seq % 2 ^ 16 ∧
      (s.pealLast res kind seq target cause).f R.PEAL_LAST F.PEAL_LAST_KIND = kind % 16 ∧
      (s.pealLast res kind seq target cause).f R.BEAT_STAT F.BEAT_STAT_PEAL_DONE = 1 := by
  refine ⟨?_, ?_, ?_, State.beatEvent_f_same _ (by decide) (by decide)⟩
  all_goals
    rw [State.pealLast, State.beatEvent_f_ne _ _ _ (by decide), State.f_setReg_same, Fld.get, BitVec.toNat_ofNat,
      Nat.shiftRight_eq_div_pow]
    dsimp only
    omega

/-- A socket that stays ADMITTED shows in its SKT_STAT only (R290). -/
theorem State.sktStay_f_ne (p : Nat) (fl : Fld) {k : Nat} (h : ∀ i, k ≠ R.SKT_STAT i) : (s.sktStay p).f k fl = s.f k fl := by
  unfold State.sktStay
  split
  · split
    · exact State.f_setF_ne _ _ _ _ (h _)
    · rfl
  · rfl

theorem State.leaveRefused_f_ne (r : State) (target : Nat) (c : Change) (fl : Fld) {k : Nat} (h : ∀ i, k ≠ R.SKT_STAT i) :
    (r.leaveRefused s target c).f k fl = r.f k fl := by
  unfold State.leaveRefused
  split
  · split
    · exact State.sktStay_f_ne _ _ h
    · rfl
  · rfl

theorem State.reqOver_f (c : Change) (k : Nat) (fl : Fld) : (s.reqOver c).f k fl = s.f k fl := by
  unfold State.reqOver
  split
  · rfl
  · rfl

/-- A refusal of a request that was forwarded reaches PEAL_LAST; settling the request changes no register (R53). -/
theorem State.refusedIn_f {code target : Nat} {c : Change} (hc : code ≠ 0) (hs : .pealReq s.master target c ∈ s.sent) (k : Nat) (fl : Fld) :
    (s.refusedIn code target c).f k fl = ((s.take (.pealReq s.master target c)).pealLast code c.kind 0 target).f k fl := by
  unfold State.refusedIn
  dsimp only
  rw [if_neg (by simpa using hs), State.reqOver_f, when, if_pos (by simpa using hc)]

/-! ## Arming (R57 steps 1 and 2) -/

/-- A die forwards nothing, keeps no mailbox and checks no ticket: it acknowledges. -/
theorem State.armIn_die {u seq target i : Nat} {c : Change} {p : PealSlot} (hu : u < 12) (hk : s.armKnown u seq target c = true)
    (ht : s.now < target) (hp : s.pealOf seq = some (i, p)) (hpart : s.takesPart p u = true) :
    s.armIn u seq target c = (s.take (.pealArm s.pkg u seq target c)).send (.peal s.pkg u seq 2 true) := by
  have h12 : u ≠ 12 := by omega
  have h13 : u ≠ 13 := by omega
  have h14 : u ≠ 14 := by omega
  have hpkg : (s.take (.pealArm s.pkg u seq target c)).pkg = s.pkg := rfl
  have hp' : (s.take (.pealArm s.pkg u seq target c)).pealOf seq = some (i, p) := hp
  unfold State.armIn
  rw [if_neg (by simp [State.checkHeld, h12, h13, hk, hp, hpart, ht])]
  simp [hp', hpkg, State.armCheck, h12, h13, h14]

/-! ## Acknowledgements, results and verdicts (R57 steps 2 to 4) -/

@[simp] theorem State.setSlot_get (i : Nat) (p : PealSlot) : (s.setSlot i p).beat.slots.get i = p := by
  simp [State.setSlot]

theorem State.pealArmed_waiting {i u : Nat} (hv : (s.beat.slots.get i).valid = true) (hu : u ∈ (s.beat.slots.get i).waiting) :
    ((s.pealArmed i u).beat.slots.get i).waiting = (s.beat.slots.get i).waiting.filter fun x => x != u := by
  unfold State.pealArmed
  rw [if_neg (by simp [hv, hu])]
  extract_lets q t
  have ht : (t.beat.slots.get i).waiting = q.waiting := congrArg PealSlot.waiting (State.setSlot_get i q)
  split
  · exact ht
  · exact ht

theorem State.ackIn_awaited {u seq i : Nat} {p : PealSlot} (hs : s.sentBy (.peal s.pkg u seq 2 true) = true) (hp : s.pealOf seq = some (i, p))
    (ht : s.now + 2 < p.target) : s.ackIn u seq = (s.take (.peal s.pkg u seq 2 true)).pealArmed i u := by
  simp [State.ackIn, hp, hs, ht]

theorem State.resultIn_complete {src seq i : Nat} {p : PealSlot} (hm : s.isMaster = true) (hsrc : src ≠ s.pkg) (hp : s.pealOf seq = some (i, p))
    (ht : s.now + 1 < p.target) :
    s.resultIn src seq none = (s.take (.peal s.pkg 0 seq 3 true)).setSlot i { p with waitPkgs := p.waitPkgs.filter (· != src) } := by
  simp [State.resultIn, hp, hm, hsrc, ht]

theorem State.fromPkg_heard {src : Nat} (hi : s.beat.isolated = false) (hl : s.locked = false) (act : State → State) :
    s.fromPkg src act = act s := by
  simp [State.fromPkg, hi, hl]

/-- A die keeps the verdict and passes it on to nobody. -/
theorem State.verdictIn_die {u seq i : Nat} {ok : Bool} (cause : Nat × Nat) {p : PealSlot} (hu : u < 12)
    (hs : s.sentBy (.peal s.pkg u seq 4 ok) = true) (hp : s.pealOf seq = some (i, p)) (ht : s.now < p.target) (hpart : s.takesPart p u = true) :
    s.verdictIn u seq ok cause = (s.take (.peal s.pkg u seq 4 ok)).setSlot i
      { p with verdicts := p.verdicts.filter (fun e => e.1 != u) ++ [(u, ok)] } := by
  have h12 : u ≠ 12 := by omega
  have h13 : u ≠ 13 := by omega
  have h14 : u ≠ 14 := by omega
  simp [State.verdictIn, hp, hs, ht, hpart, h12, h13, h14]

/-! ## The hallmark exchange (R63) -/

theorem mem_addOnce {α : Type} [DecidableEq α] (l : List α) (x : α) : x ∈ addOnce l x := by
  by_cases h : x ∈ l <;> simp [addOnce, h]

/-- A package's hallmark is kept, and its HALLMARK_PEER shows whether it is this package's own. -/
theorem State.peerHeard_shows (p : Nat) (h : Digest) :
    (s.peerHeard p h).beat.peers.get p = h ∧ p ∈ (s.peerHeard p h).beat.heardFrom ∧
      (s.peerHeard p h).f (R.HALLMARK_PEER p) F.HALLMARK_PEER_PRESENT = 1 ∧
      (s.peerHeard p h).f (R.HALLMARK_PEER p) F.HALLMARK_PEER_MATCH = (decide (h = s.beat.hallmark.getD 0 0)).toNat := by
  unfold State.peerHeard
  dsimp only
  refine ⟨by simp, mem_addOnce _ _, ?_, ?_⟩
  · rw [State.onBeat_f, State.f_setF_apart _ _ (by decide) (by decide), State.f_setF_same _ _ (by decide)]
    rfl
  · rw [State.onBeat_f, State.f_setF_same _ _ (by decide)]
    exact Nat.mod_eq_of_lt (Bool.toNat_lt _)

theorem State.peerHeard_heardFrom (p : Nat) (h : Digest) : (s.peerHeard p h).beat.heardFrom = addOnce s.beat.heardFrom p := rfl

theorem State.peerHeard_admitted (p : Pkg) (h : Digest) : (s.peerHeard p h).admitted = s.admitted := by
  have hne := SYS_STAT_ne_HALLMARK_PEER p
  simp [State.admitted, State.peerHeard, State.f_setF_ne, hne]

theorem State.beatEvent_admitted (fl : Fld) : (s.beatEvent fl).admitted = s.admitted := by
  rw [State.admitted, State.beatEvent_f_ne _ _ _ (by decide), State.admitted]

/-- A hallmark of this beat that leaves another awaited ends no exchange: it is kept, and beyond that only BEAT_STAT may change. -/
theorem State.hallmarkIn_awaits {p : Pkg} {h : Digest} {beat : Nat} (ho : s.others.contains p.val = true)
    (hnew : s.beat.heardFrom.contains p.val = false) (hin : s.beat.heardFrom ≠ []) (hb : beat = s.now)
    (hwait : s.admitted.all (addOnce s.beat.heardFrom p.val).contains = false) :
    (s.hallmarkIn p h beat).beat = (s.peerHeard p h).beat ∧
      ∀ (fl : Fld) {k : Nat}, k ≠ R.BEAT_STAT → (s.hallmarkIn p h beat).f k fl = (s.peerHeard p h).f k fl := by
  have hgo : ¬(!s.others.contains p.val || s.beat.heardFrom = [] || s.beat.heardFrom.contains p.val || beat != s.now) = true := by
    simp only [ho, hnew, hin, hb]
    simp
  unfold State.hallmarkIn
  rw [if_neg hgo]
  dsimp only
  split
  · rw [if_neg (by rw [State.peerHeard_admitted, State.peerHeard_heardFrom, hwait]; decide)]
    exact ⟨rfl, fun _ _ _ => rfl⟩
  · rw [if_neg (by rw [State.beatEvent_admitted, State.beatEvent_beat, State.peerHeard_admitted, State.peerHeard_heardFrom, hwait]; decide)]
    exact ⟨State.beatEvent_beat _ _, fun _ _ hk => State.beatEvent_f_ne _ _ _ hk⟩

end

end Sys2Proof.Machine

open Sys2Proof Sys2Proof.Machine

/-- Settles O18: each clause by the lemma of its message. -/
theorem pealProtocol : Obligations.PealProtocol := by
  refine ⟨fun s target kind body arg src hsrc hm => ?_, fun s target kind body arg src code h3 _ hsrc hs => ?_,
    fun s u seq target kind body arg i agree p hu hk ht hp hpart => ?_, fun s u seq i p hs hp ht hv hslot hu => ?_,
    fun s src seq i p hm hsrc hi hl hp ht => ?_, fun s u seq i ok cp cu p hu hs hp ht hpart => ?_,
    fun s src h n beat ho hnew hin hb hwait => ?_⟩
  · exact ⟨_, congrArg Host.Outcome.next (if_pos hsrc), State.requestPeal_forwards hm target _⟩
  · refine ⟨_, congrArg Host.Outcome.next (if_pos hsrc), ?_⟩
    have hf {k : Nat} (fl : Fld) (hk : ∀ i, k ≠ R.SKT_STAT i) := (State.leaveRefused_f_ne (s := s) _ target
      { kind := kind, body := body, arg := arg } fl hk).trans (State.refusedIn_f (code := code) (by omega) hs k fl)
    obtain ⟨hres, hseq, hkind, hdone⟩ := State.pealLast_shows (s.take (.pealReq s.master target { kind := kind, body := body, arg := arg }))
      code.isLt kind 0 target (0, 0)
    exact ⟨(hf _ PEAL_LAST_ne_SKT_STAT).trans hres, (hf _ PEAL_LAST_ne_SKT_STAT).trans hseq,
      (hf _ PEAL_LAST_ne_SKT_STAT).trans (hkind.trans (Nat.mod_eq_of_lt kind.isLt)), (hf _ BEAT_STAT_ne_SKT_STAT).trans hdone⟩
  · exact ⟨_, rfl, congrArg State.sent (State.armIn_die (s := s.onSec _) hu hk ht hp hpart)⟩
  · subst hslot
    exact ⟨_, congrArg Host.Outcome.next (State.ackIn_awaited hs hp ht), State.pealArmed_waiting (s := s.take _) hv hu⟩
  · exact ⟨_, congrArg Host.Outcome.next ((State.fromPkg_heard hi hl _).trans (State.resultIn_complete hm hsrc hp ht)),
      congrArg PealSlot.waitPkgs (State.setSlot_get i _)⟩
  · exact ⟨_, congrArg Host.Outcome.next (State.verdictIn_die _ hu hs hp ht hpart), congrArg PealSlot.verdicts (State.setSlot_get i _)⟩
  · obtain ⟨hpeer, hheard, hpresent, hmatch⟩ := s.peerHeard_shows src h
    obtain ⟨hbeat, hf⟩ := State.hallmarkIn_awaits (h := h) ho hnew hin hb hwait
    have hne := HALLMARK_PEER_ne_BEAT_STAT src
    exact ⟨_, rfl, by rwa [hbeat], by rwa [hbeat], (hf _ hne).trans hpresent, (hf _ hne).trans hmatch⟩

end

section
/-! SUPPORT. The anti-rollback counter (R74, R78). -/

namespace Sys2Proof.Machine

/-- What the Islands compare is the fused value or what they have advanced it to, and only the latter can change. -/
theorem State.Follows.fusedRollback_le {s t : State} (h : t.Follows s) : s.fusedRollback ≤ t.fusedRollback :=
  max_le_max_left _ h.fused

end Sys2Proof.Machine

open Sys2Proof Sys2Proof.Machine

/-- Settles O7: the state after a command follows the one before it, with as many free values taken and as high a counter. -/
theorem rollbackNeverFalls : Obligations.RollbackNeverFalls := by
  intro c s t hs hexec
  have hfollows : t.Follows s := (exec_agrees c hs t hexec).1
  exact ⟨hfollows.fusedRollback_le, hfollows.free⟩

end

section
/-! SUPPORT. Start-up (R66, R69, R74 to R76, R79, R80, R83): the locked state, the copies of the image and the choice between them, the
laser tasks, and BOOT_STAT on the management bus. -/

namespace Sys2Proof.Machine

/-! ## The locked state (R83) -/

/-- The start-up state of a locked package. -/
def BootSt.locked (k : BootSt) (cause : Nat) : BootSt :=
  { k with
    stat := F.BOOT_STAT_PHASE.set (F.BOOT_STAT_LOCK_CAUSE.set (F.BOOT_STAT_LOCKED.set k.stat 1) cause) 15
    flashHiZ := true
    flashEnabled := false
    stage := 6
    svcTasks := []
    selected := none }

section
variable {s : State} {β : Type} {g : State → β}

/-- What no register shows is untouched when the dies are switched off. -/
theorem State.diesOff_field (hreg : ∀ (t : State) off w, g (t.setReg off w) = g t) : g s.diesOff = g s := by
  unfold State.diesOff
  refine (each_field _ g fun t c => ?_).trans (each_field _ g fun t d => ?_)
  · split
    · rfl
    · exact hreg t _ _
  · split
    · rfl
    · exact (hreg _ _ _).trans ((hreg _ _ _).trans (hreg t _ _))

/-- Beyond the start-up state, the locked state shows in registers and in the segments' state only. -/
theorem State.lock_field (hreg : ∀ (t : State) off w, g (t.setReg off w) = g t) (hpcie : ∀ (t : State) f, g (t.onPcie f) = g t)
    (cause : Nat) : g (s.lock cause) = g (s.onBoot (·.locked cause)) := by
  unfold State.lock
  extract_lets a b links segs
  have hlinks : g links = g b := each_field _ g fun t l => by
    split
    · rfl
    · exact (hreg _ _ _).trans ((hreg _ _ _).trans (hreg t _ _))
  have hsegs : g segs = g links := each_field _ g fun t k => (each_field _ g fun u fl => hreg u _ _).trans (hpcie t _)
  exact (hreg _ _ _).trans ((State.diesOff_field hreg).trans (hsegs.trans hlinks))

theorem State.lock_boot (cause : Nat) : (s.lock cause).boot = s.boot.locked cause :=
  State.lock_field State.setReg_boot State.onPcie_boot cause

theorem State.lock_err (cause : Nat) : (s.lock cause).err = s.err :=
  State.lock_field State.setReg_err State.onPcie_err cause

theorem State.lock_clocks (cause : Nat) : (s.lock cause).reg R.CLKD_ON = BitVec.ofNat 64 CLK_LOCKED := State.reg_setReg_same ..

theorem State.lock_locked (cause : Nat) : (s.lock cause).locked = true := by
  simp (disch := decide) [State.locked, State.stat, State.lock_boot, BootSt.locked, Fld.get_set, Fld.get_set_apart]

theorem State.lock_cause (cause : Nat) : (s.lock cause).stat F.BOOT_STAT_LOCK_CAUSE = cause % 256 := by
  simp (disch := decide) [State.stat, State.lock_boot, BootSt.locked, Fld.get_set, Fld.get_set_apart]

/-- A lock leaves what the copies were found to be. -/
theorem State.lock_stat_apart (cause : Nat) {fl : Fld} (h1 : fl.apart F.BOOT_STAT_LOCKED) (h2 : fl.apart F.BOOT_STAT_LOCK_CAUSE)
    (h3 : fl.apart F.BOOT_STAT_PHASE) : (s.lock cause).stat fl = s.stat fl := by
  rw [State.stat, State.lock_boot]
  dsimp only [BootSt.locked]
  rw [Fld.get_set_apart (by decide) h3, Fld.get_set_apart (by decide) h2, Fld.get_set_apart (by decide) h1, State.stat]

theorem State.Logged.lock {e : ECode} {kind unit : Nat} (h : s.Logged e kind unit) (cause : Nat) : (s.lock cause).Logged e kind unit := by
  unfold State.Logged State.newest at *
  rwa [State.lock_err, State.lock_boot]

end

section
variable {s : State}

/-! ## Reset and the Islands (R65, R66) -/

theorem State.deassert_starts (strap : Nat) (h : s.boot.inReset = true) : s.deassert strap =
    ((s.onBoot fun k => { k with inReset := false, flashHiZ := false, strap := strap }).onBeat fun b =>
      { b with now := 0, running := true }).setReg R.CLKD_ON (BitVec.ofNat 64 (2 ^ 64 - 2 ^ 48)) := by
  simp [State.deassert, h]

theorem State.newNonce_draws : s.newNonce.reg (R.MB_CMD_NONCE 0) = Config.freeValue s.freeCtr ∧
    s.newNonce.reg (R.MB_CMD_NONCE 1) = Config.freeValue (s.freeCtr + 1) ∧ s.newNonce.freeCtr = s.freeCtr + 2 :=
  ⟨(State.reg_setReg_ne _ _ (by decide)).trans (State.reg_setReg_same ..), State.reg_setReg_same .., rfl⟩

theorem State.islands_confirmed (h : s.awaitsIslands = true) :
    s.islands true = (s.newNonce.setPhase 1).onBoot fun k => { k with flashEnabled := true } := by
  simp [State.islands, h]

theorem State.setPhase_phase (v : Nat) : (s.setPhase v).phase = v % 16 := Fld.get_set (by decide) _ _

/-! ## The flash (R69) -/

/-- The image buffer of hub h holds what its read gave. -/
def State.keepCopy (s : State) (h : Nat) (c : ImgCopy) : State := s.onBoot fun k => { k with copies := k.copies.put h c }

/-- The copy that a hub keeps of a flash that it could read: the first IMAGE_LEN bytes. -/
def readCopy (b : List Byte) : ImgCopy := { done := true, fault := 0, bytes := b.take (field b 40 4) }

theorem State.keepCopy_get (h : Nat) (c : ImgCopy) : (s.keepCopy h c).boot.copies.get h = c :=
  (SMap.get_put s.boot.copies h h c).trans (if_pos rfl)

/-- With the copy of one hub kept, both are there if the other hub's is. -/
theorem State.keepCopy_both (h : Hub) {c : ImgCopy} (hc : c.done = true) :
    (((s.keepCopy h c).boot.copies.get 0).done && ((s.keepCopy h c).boot.copies.get 1).done) = (s.boot.copies.get (1 - h)).done := by
  fin_cases h <;> simp [State.keepCopy, State.onBoot, hc]

/-- A flash that could be read is kept; with the other hub's copy there, verification begins (R74). -/
theorem State.flashDone_read {h : Hub} {b : List Byte} {size : Nat} (hp : s.phase = 1) (hd : (s.boot.copies.get h).done = false)
    (hlen : imageLenOk (field b 40 4) size = true) (hb : field b 40 4 ≤ b.length) :
    s.flashDone h (some b) size = if (s.boot.copies.get (1 - h)).done then
      ((s.keepCopy h (readCopy b)).setPhase 2).onBoot fun k => { k with flashEnabled := false } else s.keepCopy h (readCopy b) := by
  rw [← State.keepCopy_both h (c := readCopy b) rfl]
  simp only [State.flashDone, hp, hd, hlen, Nat.not_lt.mpr hb]
  rfl

theorem State.flashDone_shows {h : Hub} {b : List Byte} {size : Nat} (hp : s.phase = 1) (hd : (s.boot.copies.get h).done = false)
    (hlen : imageLenOk (field b 40 4) size = true) (hb : field b 40 4 ≤ b.length) :
    (s.flashDone h (some b) size).boot.copies.get h = readCopy b ∧
      ((s.flashDone h (some b) size).phase = 2 ↔ (s.boot.copies.get (1 - h)).done = true) := by
  rw [State.flashDone_read hp hd hlen hb]
  have hcopy := s.keepCopy_get h (readCopy b)
  split
  next hother => exact ⟨hcopy, iff_of_true (State.setPhase_phase 2) hother⟩
  next hother => exact ⟨hcopy, iff_of_false (fun h2 => absurd (hp.symm.trans h2) (by decide)) hother⟩

/-! ## The choice between the copies (R74 to R76) -/

theorem State.disagree_boot : s.disagree.boot = s.boot := by
  unfold State.disagree
  dsimp only
  split
  · exact (State.record_boot ..).trans (State.record_boot ..)
  · exact State.record_boot ..

/-- The Islands' comparison of a copy is no part of the start-up state. -/
theorem State.compared_boot (flip : Bool) : (if flip then s.disagree else s.agreed).boot = s.boot := by
  split
  · exact State.disagree_boot
  · rfl

theorem State.copyVerdict_disagree (h : Nat) : s.copyVerdict h true = (IMG_DISAGREE, default) := rfl

/-- Both copies are judged, and BOOT_STAT shows each verdict, before one is chosen. -/
theorem State.verifyDone_chooses (hp : s.phase = 2) (hsel : s.boot.selected = none) (flipA flipB : Bool) :
    ∃ u : State, u.boot = { s.boot with
        stat := F.BOOT_STAT_FAULT_B.set (F.BOOT_STAT_FAULT_A.set (F.BOOT_STAT_COPY_B_OK.set
          (F.BOOT_STAT_COPY_A_OK.set s.boot.stat (decide ((s.copyVerdict 0 flipA).1 = 0)).toNat)
          (decide ((s.copyVerdict 1 flipB).1 = 0)).toNat) (s.copyVerdict 0 flipA).1) (s.copyVerdict 1 flipB).1 } ∧
      s.verifyDone flipA flipB = u.choose (s.copyVerdict 0 flipA) (s.copyVerdict 1 flipB) := by
  refine ⟨_, ?_, if_neg (by simp [hp, hsel])⟩
  simp only [State.setStat, State.onBoot, State.compared_boot]

theorem State.select_boot (h : Nat) (i : Image) : (s.select h i).boot = { s.boot with
    stat := F.BOOT_STAT_IMAGE_ROLLBACK.set (F.BOOT_STAT_COPY_USED.set s.boot.stat h) i.rollback
    selected := some i } := rfl

theorem State.choose_second {va vb : Nat × Image} (ha : va.1 ≠ 0) (hb : vb.1 = 0) :
    s.choose va vb = (s.record E.IMAGE_COPY_BAD 2 0 [] none va.1).select 1 vb.2 := by
  simp [State.choose, ha, hb]

theorem State.choose_neither {va vb : Nat × Image} (ha : va.1 ≠ 0) (hb : vb.1 ≠ 0) :
    s.choose va vb = ((s.record E.IMAGE_COPY_BAD 2 0 [] none va.1).record E.IMAGE_COPY_BAD 2 1 [] none vb.1).lock 13 := by
  simp [State.choose, ha, hb]

/-- A choice shows where BOOT_STAT does not show the copies. -/
theorem State.select_stat_apart (h : Nat) (i : Image) {fl : Fld} (h1 : fl.apart F.BOOT_STAT_COPY_USED)
    (h2 : fl.apart F.BOOT_STAT_IMAGE_ROLLBACK) : (s.select h i).stat fl = s.stat fl :=
  (Fld.get_set_apart (by decide) h2 _ _).trans (Fld.get_set_apart (by decide) h1 _ _)

theorem State.select_used {h : Nat} (hh : h < 2) (i : Image) : (s.select h i).stat F.BOOT_STAT_COPY_USED = h := by
  rw [State.stat, State.select_boot]
  dsimp only
  rw [Fld.get_set_apart (by decide) (by decide), Fld.get_set (by decide)]
  exact Nat.mod_eq_of_lt hh

/-- The fields of BOOT_STAT that a choice or a lock writes. -/
def choiceFields : List Fld :=
  [F.BOOT_STAT_COPY_USED, F.BOOT_STAT_IMAGE_ROLLBACK, F.BOOT_STAT_LOCKED, F.BOOT_STAT_LOCK_CAUSE, F.BOOT_STAT_PHASE]

/-- Where the first copy is bad, what becomes of the second changes no field that shows the copies. -/
theorem State.choose_stat_apart {va vb : Nat × Image} (ha : va.1 ≠ 0) {fl : Fld} (h : ∀ gl ∈ choiceFields, fl.apart gl) :
    (s.choose va vb).stat fl = s.stat fl := by
  by_cases hb : vb.1 = 0
  · rw [State.choose_second ha hb, State.select_stat_apart _ _ (h _ (by decide)) (h _ (by decide)), State.stat, State.record_boot,
      State.stat]
  · rw [State.choose_neither ha hb, State.lock_stat_apart _ (h _ (by decide)) (h _ (by decide)) (h _ (by decide)), State.stat,
      State.record_boot, State.record_boot, State.stat]

/-! ## Tasks of the modules (R79, R80) -/

theorem State.taskOf_mem {mem : Bool} {t : Nat} {k : SvcTask} (h : s.taskOf mem t = some k) : k.mem = mem := by
  have := List.find?_some h
  simp only [Bool.and_eq_true, decide_eq_true_eq] at this
  exact this.1

/-- A task may be stopped once TIME_LIMIT beats have passed. -/
theorem State.overTime_maybe {mem : Bool} {t : Nat} {k : SvcTask} (h : s.taskOf mem t = some k) :
    s.overTime k false = decide (k.start + (s.moduleFor mem).timeLimit ≤ s.now) := by
  simp [State.overTime, State.taskOf_mem h]

theorem State.overTime_sure {mem : Bool} {t : Nat} {k : SvcTask} (h : s.taskOf mem t = some k) :
    s.overTime k true = decide (k.start + (s.moduleFor mem).timeLimit < s.now) := by
  simp [State.overTime, State.taskOf_mem h]

theorem State.taskEnd_full {mem : Bool} {e : TaskEnd} {k : SvcTask} (hl : s.locked = false) (ha : s.boot.applied = true)
    (ht : s.taskOf mem e.task = some k) (ho : s.overTime k e.ret.isSome = e.ret.isNone) (hf : k.full = true) :
    s.taskEnd mem e = (s.endTask k).stageTask mem e := by
  simp [State.taskEnd, ht, hl, ha, ho, hf]

theorem State.taskEnd_refused {mem : Bool} {e : TaskEnd} {k : SvcTask} (ht : s.taskOf mem e.task = some k)
    (ho : s.overTime k e.ret.isSome ≠ e.ret.isNone) : s.taskEnd mem e = s := by
  simp [State.taskEnd, ht, ho]

/-- That the next task of its Service Core begins as one ends (the model's choice, log entry 86) leaves the tasks to be done as they are. -/
theorem State.endTask_busy (k : SvcTask) : (s.endTask k).stageBusy = (s.boot.svcTasks.erase k).any (·.full) := by
  unfold State.stageBusy State.endTask State.onBoot
  rw [List.any_map]
  congr 1
  funext x
  simp only [Function.comp]
  split <;> rfl

theorem State.taskRecord_boot (mem : Bool) (t : Nat) (ret : Option Word) : (s.taskRecord mem t ret).boot = s.boot := by
  cases ret with
  | none => exact State.record_boot ..
  | some r => exact State.record_boot ..

/-- The unit of a tile's task is the tile (R413). -/
theorem taskUnit_tile {t : Nat} (ht : t < 4) : taskUnit false t = (12, t) := by
  interval_cases t <;> rfl

/-- A tile's task that is stopped is recorded against the tile (R79). -/
theorem State.taskRecord_stopped_logged {t : Nat} (ht : t < 4) : (s.taskRecord false t none).Logged E.MODULE_TIMEOUT 12 t := by
  unfold State.taskRecord
  rw [taskUnit_tile ht]
  exact State.record_logged _ _ _ _ _ _

/-- A laser task that leaves others of its stage lists the tile, or is recorded (R80). -/
theorem State.taskEnd_laser {e : TaskEnd} {k : SvcTask} (hl : s.locked = false) (ha : s.boot.applied = true) (h1 : s.boot.stage = 1)
    (ht : s.taskOf false e.task = some k) (ho : s.overTime k e.ret.isSome = e.ret.isNone) (hf : k.full = true)
    (hb : (s.boot.svcTasks.erase k).any (·.full) = true) : s.taskEnd false e =
      if e.ok then (s.endTask k).onBoot fun b => { b with tilesOk := addOnce b.tilesOk e.task }
      else (s.endTask k).taskRecord false e.task e.ret := by
  have hbusy : (s.endTask k).stageBusy = true := (State.endTask_busy k).trans hb
  have hstage : (s.endTask k).boot.stage = 1 := h1
  rw [State.taskEnd_full hl ha ht ho hf, State.stageTask, hstage]
  refine if_pos ?_
  split
  · exact hbusy
  · rwa [State.stageBusy, State.taskRecord_boot]

end

end Sys2Proof.Machine

open Sys2Proof Sys2Proof.Machine

/-- Settles O42: each clause by the lemma of its command. That the Service Core's next task begins as one ends, in the clauses on laser
tasks, is the model's choice (log entry 86). -/
theorem startUp : Obligations.StartUp := by
  refine ⟨fun s strap hr => ?_, fun s hw => ?_, fun s hw => ?_, fun s h b size hp hd hlen hb => ?_, fun s flipB hp hsel => ?_,
    fun s task spd k hl ha h1 ht hf ho hb => ?_, fun s task k spd hl ha h1 ht hf ho h4 hb => ?_, fun s task mem k spd ht ho => ?_,
    fun s addr hit ha => ?_⟩
  · refine ⟨_, congrArg Host.Outcome.next (State.deassert_starts strap hr), rfl, rfl, rfl, rfl, State.reg_setReg_same .., fun k hk => ?_⟩
    exact State.reg_setReg_ne _ _ (by simpa using hk)
  · exact ⟨_, congrArg Host.Outcome.next (State.islands_confirmed hw), s.newNonce.setPhase_phase 1, rfl, s.newNonce_draws⟩
  · refine ⟨_, congrArg Host.Outcome.next (if_pos hw), (State.record_logged _ _ _ _ _ _).lock 14, State.lock_locked 14, State.lock_cause 14, ?_,
      State.lock_clocks 14⟩
    rw [State.islandFault, State.lock_boot]
    rfl
  · exact ⟨_, rfl, State.flashDone_shows hp hd hlen hb⟩
  · obtain ⟨u, hu, hv⟩ := State.verifyDone_chooses hp hsel true flipB
    have hbad : (s.copyVerdict 0 true).1 ≠ 0 := by simp [State.copyVerdict_disagree, IMG_DISAGREE]
    refine ⟨_, congrArg Host.Outcome.next hv, ?_, ?_, ?_, fun hgood => ?_, fun hfail => ?_⟩
    · rw [State.choose_stat_apart hbad (by decide), State.stat, hu]
      simp (disch := decide) [Fld.get_set, Fld.get_set_apart, State.copyVerdict_disagree, IMG_DISAGREE]
    · rw [State.choose_stat_apart hbad (by decide), State.stat, hu]
      simp (disch := decide) [Fld.get_set, Fld.get_set_apart, State.copyVerdict_disagree, IMG_DISAGREE]
    · rw [State.choose_stat_apart hbad (by decide), State.stat, hu]
      dsimp only
      rw [Fld.get_set_apart (by decide) (by decide), Fld.get_set_apart (by decide) (by decide), Fld.get_set (by decide)]
      exact Nat.mod_eq_of_lt (Bool.toNat_lt _)
    · rw [State.choose_second hbad hgood]
      exact ⟨rfl, State.select_used (by decide) _⟩
    · rw [State.choose_neither hbad hfail]
      exact State.lock_locked 13
  · have hover : s.overTime k true = false := (State.overTime_sure ht).trans (decide_eq_false (Nat.not_lt.mpr ho))
    exact ⟨_, congrArg Host.Outcome.next ((State.taskEnd_laser hl ha h1 ht hover hf hb).trans (if_pos rfl)), rfl, rfl, rfl⟩
  · have hover : s.overTime k false = true := (State.overTime_maybe ht).trans (decide_eq_true ho)
    refine ⟨_, congrArg Host.Outcome.next ((State.taskEnd_laser hl ha h1 ht hover hf hb).trans (if_neg (by simp [TaskEnd.ok]))), ?_, ?_, ?_⟩
    · exact State.taskRecord_stopped_logged h4
    · rw [State.taskRecord_boot]
      rfl
    · rw [State.taskRecord_boot]
      rfl
  · exact ⟨_, congrArg Host.Outcome.next (State.taskEnd_refused ht (by simp [State.overTime_maybe ht, ho])), rfl⟩
  · exact ⟨_, congrArg Host.Outcome.next (if_neg (by simp [hit])), by simp [State.busRead, ha, leBytes]⟩

end

section
/-! SUPPORT. The Carillon, interrupts of a core and performance counters (R105 to R112): what each command leaves behind. -/

namespace Sys2Proof.Machine

/-! ## Answers to a core (R91) -/

section
variable (s : State)

@[simp] theorem State.toCore_cores (c code : Nat) (data : Line) : (s.toCore c code data).cores = s.cores := by
  unfold State.toCore
  split
  · rfl
  · rfl

@[simp] theorem State.coreReply_cores (c code : Nat) (data : Line) : (s.coreReply c code data).cores = s.cores :=
  each_field s State.cores fun t _ => t.toCore_cores _ _ _

@[simp] theorem State.whoReply_cores (w : Who) (code : Nat) (v : Word) : (s.whoReply w code v).cores = s.cores := by
  unfold State.whoReply
  split
  · split
    · exact s.coreReply_cores _ _ _
    · rfl
  · rfl
  · exact s.toCore_cores _ _ _
  · split
    · rfl
    · rfl

@[simp] theorem State.whoReply_coreH (w : Who) (code : Nat) (v : Word) (k : Nat) : (s.whoReply w code v).coreH k = s.coreH k := by
  simp [State.coreH]

theorem core_ne_debugPort (c : Core) : c.val ≠ DEBUG_PORT := fun h => absurd (h ▸ c.isLt) (by decide)

/-- An answer to both members of a pair reaches the one that asked as well. -/
theorem State.coreReply_mem (c : Core) (code : Nat) (data : Line) : .core c code data ∈ (s.coreReply c code data).sent := by
  have hc := c.isLt
  unfold State.coreReply State.sharers
  split
  · have hl : c.val % 120 ≠ DEBUG_PORT := by simp only [DEBUG_PORT]; omega
    have hu : c.val % 120 + 120 ≠ DEBUG_PORT := by simp only [DEBUG_PORT]; omega
    have hm : c.val = c.val % 120 ∨ c.val = c.val % 120 + 120 := by omega
    simpa [each, State.toCore, hl, hu] using Or.inr hm
  · simp [each, State.toCore, core_ne_debugPort c]

theorem State.selfReply_mem {t : State} (hp : s.pkg < 8) (ht : t.pkg = s.pkg) (c : Core) (code : Nat) (v : Word) :
    .core c code (v.setWidth 512) ∈ (t.whoReply (s.selfWho c) code v).sent := by
  have hpkg : (Fin.ofNat 8 s.pkg).val = t.pkg := (Nat.mod_eq_of_lt hp).trans ht.symm
  rw [State.selfWho, State.whoReply, if_pos hpkg]
  exact t.coreReply_mem c code _

end

/-! ## Performance counters (R105) -/

section
variable (s : State) (c : Nat)

/-- What neither a register nor a message shows is untouched by counting. -/
theorem State.count_field {β : Type} {g : State → β} (hreg : ∀ (t : State) off w, g (t.setReg off w) = g t)
    (hsend : ∀ (t : State) m, g (t.send m) = g t) (ev : Nat) (user : Bool) : g (s.count c ev user) = g s := by
  have hraise (t : State) (p v : Nat) (k : Option Nat) : g (t.raise p v k) = g t := by
    unfold State.raise
    split
    · rfl
    · exact hsend t _
  have hwrap (t : State) (n : Nat) : g (t.pmuWrap c n) = g t := by
    unfold State.pmuWrap
    extract_lets u
    split
    · exact (hraise u _ _ _).trans (hreg t _ _)
    · exact hreg t _ _
  unfold State.count
  refine each_field s g fun t n => ?_
  dsimp only
  generalize (if user = true then F.PMU_CTL_USER else F.PMU_CTL_SUPER) = fl
  split
  · split
    · exact (hwrap _ n).trans (hreg t _ _)
    · exact hreg t _ _
  · rfl

@[simp] theorem State.count_cores (ev : Nat) (user : Bool) : (s.count c ev user).cores = s.cores :=
  s.count_field c (g := State.cores) (fun _ _ _ => rfl) (fun _ _ => rfl) ev user

@[simp] theorem State.count_coreH (ev : Nat) (user : Bool) (k : Nat) : (s.count c ev user).coreH k = s.coreH k := by
  simp [State.coreH]

theorem State.count_pkg (ev : Nat) (user : Bool) : (s.count c ev user).pkg = s.pkg :=
  s.count_field c (g := State.pkg) (fun _ _ _ => rfl) (fun _ _ => rfl) ev user

theorem PMU_CTL_ne_PMU_OVF (n : Fin 8) : R.PMU_CTL c n ≠ R.PMU_OVF c := by simp only [R.PMU_CTL, R.PMU_OVF]; omega
theorem PMU_CNT_ne_PMU_OVF (n : Fin 8) : R.PMU_CNT c n ≠ R.PMU_OVF c := by simp only [R.PMU_CNT, R.PMU_OVF]; omega
theorem PMU_CTL_ne_PMU_CNT (n : Fin 8) : R.PMU_CTL c n ≠ R.PMU_CNT c n := by simp only [R.PMU_CTL, R.PMU_CNT]; omega
theorem CORE_STAT_ne_PMU_OVF : R.CORE_STAT c ≠ R.PMU_OVF c := by simp only [R.CORE_STAT, R.PMU_OVF]; omega
theorem CORE_STAT_ne_PMU_CNT (n : Fin 8) : R.CORE_STAT c ≠ R.PMU_CNT c n := by simp only [R.CORE_STAT, R.PMU_CNT]; omega

/-- A wrap shows in PMU_OVF only. -/
theorem State.pmuWrap_f_ne (n : Nat) (fl : Fld) {k : Nat} (h : k ≠ R.PMU_OVF c) : (s.pmuWrap c n).f k fl = s.f k fl := by
  unfold State.pmuWrap
  extract_lets u
  have hu : u.f k fl = s.f k fl := State.f_setF_ne s _ _ _ h
  split
  · rwa [State.raise_f]
  · exact hu

theorem State.pmuWrap_ovf (n : Fin 8) : ((s.pmuWrap c n).f (R.PMU_OVF c) F.PMU_OVF_OVF).testBit n = true := by
  unfold State.pmuWrap
  extract_lets u
  have hu : (u.f (R.PMU_OVF c) F.PMU_OVF_OVF).testBit n = true := by
    rw [State.f_setF_same _ _ (by decide), Nat.testBit_mod_two_pow, Nat.testBit_or, Nat.testBit_two_pow_self]
    simp
  split
  · rwa [State.raise_f]
  · exact hu

theorem State.pmuWrap_raises (n : Fin 8) (hi : s.f (R.PMU_CTL c n) F.PMU_CTL_OVF_INT = 1) (hp : s.corePart c ≠ 0) :
    .source (s.corePart c) 3 (some c) ∈ (s.pmuWrap c n).sent := by
  unfold State.pmuWrap
  extract_lets u
  have hctl : u.f (R.PMU_CTL c n) F.PMU_CTL_OVF_INT = 1 := (State.f_setF_ne s _ _ _ (PMU_CTL_ne_PMU_OVF c n)).trans hi
  have hpart : u.corePart c = s.corePart c := State.f_setF_ne s _ _ _ (CORE_STAT_ne_PMU_OVF c)
  rw [if_pos hctl, hpart, State.raise, if_neg hp]
  exact List.mem_append_right _ (List.mem_singleton_self _)

end

/-! ## Messages and notices to the Carillon (R107, R108) -/

section
variable {s : State}

/-- A message latches a masked entry that is enabled and has a source; beyond that, one of vector 3 leaves the overflowing core's number. -/
theorem State.carMessage_masked {p v : Nat} (src : Option Nat) (late up : Bool) (elsewhere : Option (Nat × Nat)) (hsrc : noSource v = false)
    (hctl : s.f (R.CAR_CTL p) F.CAR_CTL_EN = 1) (hen : s.f (R.CAR_VEC p v) F.CAR_VEC_EN = 1) (hmask : s.f (R.CAR_VEC p v) F.CAR_VEC_MASK = 1) :
    ∃ f, (v ≠ 3 → f s.cores = s.cores) ∧ s.carMessage p v src late up elsewhere =
      if s.f (R.CAR_VEC p v) F.CAR_VEC_LATCHED = 1 then s.onCores f else (s.onCores f).latch p v := by
  by_cases h3 : v = 3 ∧ s.f (R.CAR_VEC p v) F.CAR_VEC_LATCHED = 0
  · obtain ⟨rfl, hl⟩ := h3
    refine ⟨fun k => { k with ovfSrc := k.ovfSrc.put p ((src.map (· + 1)).getD 0) }, absurd rfl, ?_⟩
    simp [State.carMessage, hl, hsrc, hctl, hen, hmask]
  · have hid : s.onCores id = s := rfl
    refine ⟨id, fun _ => rfl, ?_⟩
    simp [State.carMessage, h3, hsrc, hctl, hen, hmask, hid]

/-- A run notice of a core of this package, of whose partition no entry is LATCHED. -/
theorem State.runNoticeOp_unlatched {pkg c p : Nat} (hpkg : pkg = s.pkg) (hs : .runNotice s.pkg c p ∈ s.sent) (hl : s.latchedOf p = []) :
    (s.fromPkg pkg fun s => s.runNoticeOp pkg c p) = s.take (.runNotice s.pkg c p) := by
  subst hpkg
  simp [State.fromPkg, State.runNoticeOp, hs, hl, each]

theorem State.carRecheck_unlatched {p v : Nat} (h : s.f (R.CAR_VEC p v) F.CAR_VEC_LATCHED = 0) : s.carRecheck p v = s := by
  simp [State.carRecheck, h]

/-- An interrupt for a masked vector is held at its logical core (R112). -/
theorem State.carIpi_masked {p v c : Nat} (hv : 32 ≤ v) (hctl : s.f (R.CAR_CTL p) F.CAR_CTL_EN = 1)
    (hen : s.f (R.CAR_VEC p v) F.CAR_VEC_EN = 1) (hmask : s.f (R.CAR_VEC p v) F.CAR_VEC_MASK = 1) :
    s.carIpi p v c = s.updCoreH (s.logical p c) fun h => { h with held := addOnce h.held v } := by
  have h2 : v ≠ 2 := by omega
  have h32 : ¬ v < 32 := by omega
  simp [State.carIpi, hctl, hen, hmask, noSource, h2, h32]

end

/-! ## Accesses of a core to its own interrupt registers (R110, R112) -/

section
variable {s : State} {c : Core}

@[simp] theorem State.coreH_updCoreH (f : CoreH → CoreH) (k : Nat) : (s.updCoreH k f).coreH k = f (s.coreH k) := by
  simp [State.coreH, State.updCoreH, State.setCoreH]

/-- The core's sets once vector q has moved from pending to active (R110). -/
def CoreH.acked (h : CoreH) (q : PendVec) : CoreH :=
  { h with pend := h.pend.filter (fun x => x.vec != q.vec), active := h.active ++ [q] }

/-- INT_ACK of a core outside a pair: the vector presented moves, the acknowledgement counts, and the vector answers it. -/
theorem State.intAckOp_presented {w : Who} {q : PendVec} (ha : s.Admitted w (R.INT_ACK c) false) (hs : s.sharers c = [c.val])
    (hq : s.presented c = some q) :
    ∃ t : State, t.pkg = s.pkg ∧ t.coreH c = (s.coreH c).acked q ∧ s.intAckOp w c = t.whoReply w 0 (intWord (some q)) := by
  refine ⟨(s.updCoreH c (·.acked q)).count c 0x17 false, ?_, ?_, ?_⟩
  · rw [State.count_pkg]
    rfl
  · rw [State.count_coreH, State.coreH_updCoreH]
  · rw [State.intAckOp, State.csGuard_admitted (wr := none) ha]
    dsimp only
    rw [hq, hs]
    simp only [each, List.foldl_cons, List.foldl_nil]
    rfl

/-- The end of the highest active vector of a core outside a pair (R110). -/
theorem State.intEoiOp_top {w : Who} {v : Nat} {x : Word} (hx : F.INT_EOI_VECTOR.get x = v) (ha : s.Admitted w (R.INT_EOI c) true)
    (hs : s.sharers c = [c.val]) (htop : (bestVec (s.coreH c).active).map (·.vec) = some v) : s.intEoiOp w c x =
      (s.updCoreH c fun h => { h with active := h.active.filter fun x => x.vec != v }).whoReply w 0 := by
  rw [State.intEoiOp, State.csGuard_admitted (wr := some x) ha]
  dsimp only
  rw [hx, if_pos htop, hs]
  simp only [each, List.foldl_cons, List.foldl_nil]

/-- An interrupt to a core of the partition in this package goes to the entry of its vector there (R112). -/
theorem State.intIpiOp_local {w : Who} {v tgt : Nat} {x : Word} (hv : F.INT_IPI_VECTOR.get x = v) (htgt : F.INT_IPI_TGT_CORE.get x = tgt)
    (hpkg : F.INT_IPI_TGT_PKG.get x = s.pkg) (ha : s.Admitted w (R.INT_IPI c) true) (h32 : 32 ≤ v) (h240 : tgt < 240)
    (hpart : s.corePart tgt = s.corePart c) : s.intIpiOp w c x = (s.carIpi (s.corePart c) v tgt).whoReply w 0 := by
  rw [State.intIpiOp, State.csGuard_admitted (wr := some x) ha]
  simp only [hv, htgt, hpkg]
  rw [if_neg (Nat.not_lt.mpr h32), if_neg (by simp [State.ownerOfCore, hpart, h240]), if_pos trivial]

end

/-! ## The words of INT_EOI and INT_IPI -/

theorem INT_EOI_word (v : Fin 2048) : F.INT_EOI_VECTOR.get (BitVec.ofNat 64 v.val) = v.val := by
  simp only [Fld.get, BitVec.toNat_ofNat, Nat.shiftRight_eq_div_pow]
  omega

/-- The fields of INT_IPI as the command spells them. -/
theorem INT_IPI_word (v : Fin 2048) (tgt : Core) {pkg : Nat} (hp : pkg < 8) :
    let x : Word := BitVec.ofNat 64 (v.val + (Fin.ofNat 256 tgt.val).val * 2 ^ 16 + (Fin.ofNat 8 pkg).val * 2 ^ 24)
    F.INT_IPI_VECTOR.get x = v.val ∧ F.INT_IPI_TGT_CORE.get x = tgt.val ∧ F.INT_IPI_TGT_PKG.get x = pkg := by
  simp only [Fld.get, BitVec.toNat_ofNat, Nat.shiftRight_eq_div_pow, Fin.val_ofNat]
  omega

/-! ## Writes to CAR_VEC_v (R108) -/

theorem locate_CAR_VEC (p : Sys2Proof.Part) (v : Fin 2048) : locate (R.CAR_VEC p v) = some (Blk.part, p.val, 0x4000 + v.val * 8) := by
  have hp := p.isLt
  have hv := v.isLt
  have hoff : R.CAR_VEC p v = 0x7000000 + p.val * 0x10000 + (0x4000 + v.val * 8) := by simp only [R.CAR_VEC]; omega
  generalize R.CAR_VEC p v = off at hoff
  have hfind : (blkTable.find? fun b => b.base ≤ off && off < b.base + b.stride * b.count) = some ⟨Blk.part, 0x7000000, 0x10000, 16⟩ := by
    simp (disch := (simp; omega)) only [blkTable, List.find?_cons_of_neg, List.find?_cons_of_pos]
  rw [locate, hfind]
  simp only [Option.some.injEq, Prod.mk.injEq, true_and]
  omega

theorem regAt_CAR_VEC (p : Sys2Proof.Part) (v : Fin 2048) : regAt (R.CAR_VEC p v) = some (Blk.part, p.val, [v.val], regTable_part.head!) := by
  have hv := v.isLt
  rw [regAt, locate_CAR_VEC]
  simp [regTable, regTable_part, RegRow.at?, idxOf]

section
variable {s : State} {p : Sys2Proof.Part} {v : Fin 2048} (x : Word)

@[simp] theorem State.plainWrite_cores (off : Nat) (p : Nat) : (s.plainWrite off x p).cores = s.cores := by
  unfold State.plainWrite
  split
  · rfl
  · dsimp only
    rw [State.setReg_cores]
    split
    · exact State.record_cores ..
    · rfl

theorem Fld.get_set_get {f : Fld} (h : f.fits) (w u : Word) : f.get (f.set w (f.get u)) = f.get u :=
  (Fld.get_set h w _).trans (Nat.mod_mod ..)

/-- The fields of CAR_VEC_v that a write sets: all but LATCHED. -/
def carVecFields : List Fld :=
  [F.CAR_VEC_EN, F.CAR_VEC_MASK, F.CAR_VEC_RSV, F.CAR_VEC_PRIO, F.CAR_VEC_TGT_CORE, F.CAR_VEC_TGT_PKG, F.CAR_VEC_TO_SOURCE]

theorem State.plainWrite_CAR_VEC (q : Nat) :
    (∀ fl ∈ carVecFields, (s.plainWrite (R.CAR_VEC p v) x q).f (R.CAR_VEC p v) fl = fl.get x) ∧
      (s.plainWrite (R.CAR_VEC p v) x q).f (R.CAR_VEC p v) F.CAR_VEC_LATCHED = s.f (R.CAR_VEC p v) F.CAR_VEC_LATCHED := by
  have hreg : (s.plainWrite (R.CAR_VEC p v) x q).reg (R.CAR_VEC p v) = fieldWrite regTable_part.head!.flds (s.reg (R.CAR_VEC p v)) x := by
    rw [State.reg_plainWrite (regAt_CAR_VEC p v) (by decide), if_pos rfl]
  simp (disch := decide) [State.f, hreg, carVecFields, fieldWrite, regTable_part, Fld.get_set_get, Fld.get_set_apart]

/-- Where the entry is neither LATCHED nor masked, nothing waits for the write (R108, R112). -/
theorem State.carVecOp_unlatched {w : Who} (ha : s.Admitted w (R.CAR_VEC p v) true) (hl : s.f (R.CAR_VEC p v) F.CAR_VEC_LATCHED = 0)
    (hm : s.f (R.CAR_VEC p v) F.CAR_VEC_MASK = 0) :
    s.carVecOp w p v x = (s.plainWrite (R.CAR_VEC p v) x (s.whoPart w)).whoReply w 0 := by
  have hl' := (s.plainWrite_CAR_VEC x (p := p) (v := v) (s.whoPart w)).2.trans hl
  rw [State.carVecOp, State.csGuard_admitted (wr := some x) ha]
  dsimp only
  rw [State.carRecheck_unlatched hl', if_neg (by simp [hm])]

end

end Sys2Proof.Machine

open Sys2Proof Sys2Proof.Machine

/-- Settles O20: each clause by the lemma of its command. -/
theorem carillonAndCounters : Obligations.CarillonAndCounters := by
  refine ⟨fun s c n hr => ?_, fun s p v src late up ew hs hv hctl hen hm => ?_, fun s c p hs hp hl => ?_, fun s c q ha hp hs hq => ?_,
    fun s c v ha hs htop => ?_, fun s c v tgt ha hp h32 hpart hctl hen hm htw => ?_, fun s who p v x ha hl hm => ?_⟩
  · refine ⟨_, congrArg Host.Outcome.next (if_pos hr), ?_, State.pmuWrap_ovf _ _ _, fun hi hc => ?_⟩
    · rw [State.pmuWrap_f_ne _ _ _ _ (PMU_CNT_ne_PMU_OVF c n)]
      exact State.f_setF_same _ _ (by decide) _
    · have hpart : (s.setF (R.PMU_CNT c n) F.PMU_CNT_COUNT 0).corePart c = s.corePart c :=
        State.f_setF_ne s _ _ _ (CORE_STAT_ne_PMU_CNT c n)
      rw [← hpart]
      exact State.pmuWrap_raises _ _ n ((State.f_setF_ne s _ _ _ (PMU_CTL_ne_PMU_CNT c n)).trans hi) (hpart ▸ hc)
  · obtain ⟨f, hf, ht⟩ := State.carMessage_masked (s := s.take (.source p v (src.map (·.val)))) (src.map (·.val)) late up
      ((elsewhereOf ew).orElse fun _ => s.farRun p (s.carTarget p v (src.map (·.val))).1) hv hctl hen hm
    refine ⟨_, congrArg Host.Outcome.next ((if_pos (by simpa using hs)).trans ht), ?_⟩
    split
    next hl => exact ⟨hl, rfl, fun h3 => hf h3, fun k _ => rfl⟩
    next => exact ⟨State.f_setF_same _ _ (by decide) _, rfl, fun h3 => hf h3, fun k hk => State.reg_setF_ne _ _ _ (by simpa using hk)⟩
  · exact ⟨_, congrArg Host.Outcome.next (State.runNoticeOp_unlatched (Nat.mod_eq_of_lt hp) hs hl), rfl⟩
  · obtain ⟨t, hpkg, hsets, ht⟩ := State.intAckOp_presented ha hs hq
    refine ⟨_, congrArg Host.Outcome.next ht, ?_, ?_, State.selfReply_mem s hp hpkg c 0 _⟩
    · rw [State.whoReply_coreH, hsets]
      rfl
    · rw [State.whoReply_coreH, hsets]
      simp [CoreH.acked]
  · refine ⟨_, congrArg Host.Outcome.next (State.intEoiOp_top (INT_EOI_word v) ha hs htop), ?_, ?_, State.whoReply_regs ..⟩
    · simp
    · simp
  · obtain ⟨hv, htgt, hpkg⟩ := INT_IPI_word v tgt hp
    have hlogical : s.logical (s.corePart c) tgt = tgt := by simp [State.logical, htw]
    refine ⟨_, congrArg Host.Outcome.next (State.intIpiOp_local hv htgt hpkg ha h32 tgt.isLt hpart), ?_, ?_⟩
    · rw [State.whoReply_coreH, State.carIpi_masked h32 hctl hen hm, hlogical, State.coreH_updCoreH]
      exact mem_addOnce _ _
    · rw [State.whoReply_regs, State.carIpi_masked h32 hctl hen hm]
      rfl
  · obtain ⟨hset, hkept⟩ := s.plainWrite_CAR_VEC x (p := p) (v := v) (s.whoPart who.who)
    refine ⟨_, congrArg Host.Outcome.next (State.carVecOp_unlatched x ha hl hm), ?_⟩
    simp only [State.whoReply_f, State.whoReply_cores, State.plainWrite_cores]
    exact ⟨hset _ (by decide), hset _ (by decide), hset _ (by decide), hset _ (by decide), hset _ (by decide), hkept.trans hl, trivial⟩

end

section
/-! SUPPORT. A read that a member of a twin pair made while it ran alone, against the statement on core starts and compares (R91,
R99, R132). -/

namespace Sys2Proof.Machine

/-- The UC read of DRAM that core 120 made alone; it is at its home. -/
def soloRead : Direct :=
  { (default : Direct) with op := .ucRd, acc := { (default : Acc) with core := 120, src := .load, size := 8, attr := .uc, part := 1 } }

/-- Partition 1, in twin mode, owns cores 0 and 120. Core 120 runs alone and has read an uncached location; a ticket rejoins core 0, which
is FENCED, at the state compare that is due (R99). -/
def soloPair : State :=
  let s := ((State.reset.setF (R.PART_INFO 1) F.PART_INFO_TWIN 1).setF (R.PWR_DIE 0) F.PWR_DIE_STATE 2).setF (R.PWR_DIE 6) F.PWR_DIE_STATE 2
  let s := (s.setF (R.CORE_STAT 0) F.CORE_STAT_PARTITION 1).setCoreState 0 3
  let s := ((s.setF (R.CORE_STAT 120) F.CORE_STAT_PARTITION 1).setCoreState 120 2).setF (R.CORE_STAT 120) F.CORE_STAT_SOLO 1
  (s.onCache fun k => { k with direct := [soloRead] }).onCores fun k =>
    { k with twins := k.twins.put 0 { (default : TwinH) with stateCmp := some 256, rejoin := some 0 } }

/-- The pair after the state compare: core 0 has rejoined, and the read is still at its home. -/
def rejoinedPair : State := soloPair.stateCompare 0 0 0 300 300

/-- The state compare is what TWIN_STATE_COMPARE does. -/
theorem soloPair_rejoins : exec (.twinStateCompare 0 0 0 300 300) soloPair = .next rejoinedPair := rfl

theorem rejoinedPair_runs : rejoinedPair.pairRuns 0 = true := by decide +kernel

theorem rejoinedPair_coreBlocked : rejoinedPair.coreBlocked 0 = false := by decide +kernel

/-- The read is core 120's alone, so accsOut finds none of core 0. -/
theorem rejoinedPair_accsOut : rejoinedPair.accsOut 0 (fun _ => true) = false := by decide +kernel

theorem rejoinedPair_noMessage : (rejoinedPair.cores.twins.get 0).lowerMsg = none ∧ (rejoinedPair.cores.twins.get 0).upperMsg = none := by
  decide +kernel

/-- The pair's access follows what either member has outstanding (R132): the lower member's read of Control Space offset 0 waits for the
read of core 120 and is to be issued again (answer 4), so its message is not kept. -/
theorem rejoinedPair_reissues :
    exec (.twinCompare 0 false 3 (BitVec.ofNat 64 (rejoinedPair.csAddr 0)) 8 .dev 0 0 301 false) rejoinedPair =
      .next (rejoinedPair.toCore 0 4) :=
  congrArg Host.Outcome.next (by decide +kernel)

end Sys2Proof.Machine

open Sys2Proof Sys2Proof.Machine

/-- Refutes O19: core 120, which ran alone, has an uncached read outstanding when core 0 rejoins it. The pair's next compare point is a DEV
access, which must follow that read (R132), so TWIN_COMPARE of core 0 answers reissue and keeps no message (the second clause, which asks
of core 0 alone whether an access is outstanding). -/
theorem not_coresAndTwins : ¬ Obligations.CoresAndTwins := by
  rintro ⟨-, hcompare, -⟩
  obtain ⟨t, ht, hkept, -⟩ := hcompare rejoinedPair 0 3 (BitVec.ofNat 64 (rejoinedPair.csAddr 0)) 8 .dev 0 0 301 false rejoinedPair_runs
    rejoinedPair_coreBlocked rejoinedPair_accsOut rejoinedPair_noMessage.1 rejoinedPair_noMessage.2
  obtain rfl : rejoinedPair.toCore 0 4 = t := Host.Outcome.next.inj (rejoinedPair_reissues.symm.trans ht)
  rw [State.toCore_cores] at hkept
  exact Option.some_ne_none _ (hkept.symm.trans rejoinedPair_noMessage.1)

end

section
/-! SUPPORT. Cache maintenance, cache and translation controls, and a parity error of the L0 (R135, R137, R142, R146, R147, R173): what each
command leaves behind. -/

namespace Sys2Proof.Machine

/-! ## A field written in each of several registers -/

section
variable {s : State} {fl gl : Fld} {l : List Nat} {r : Nat → Nat}

theorem State.f_each_setF_mem (h : fl.fits) (v : Nat) {k : Nat} (hk : k ∈ l) :
    (each l (fun s j => s.setF (r j) fl v) s).f (r k) fl = v % 2 ^ fl.width := by
  induction l using List.reverseRecOn with
  | nil => exact absurd hk List.not_mem_nil
  | append_singleton l a ih =>
    simp only [each, List.foldl_append, List.foldl_cons, List.foldl_nil] at ih ⊢
    by_cases ha : r k = r a
    · rw [ha]
      exact State.f_setF_same _ _ h v
    · rw [State.f_setF_ne _ _ _ _ ha]
      exact ih ((List.mem_append.mp hk).resolve_right fun hm => ha (congrArg r (List.mem_singleton.mp hm)))

theorem State.f_each_setF_apart (hg : gl.fits) (h : fl.apart gl) (v off : Nat) :
    (each l (fun s j => s.setF (r j) gl v) s).f off fl = s.f off fl := by
  refine each_field s (fun t => t.f off fl) fun t j => ?_
  by_cases hj : off = r j
  · rw [← hj]
    exact State.f_setF_apart t off hg h v
  · exact State.f_setF_ne t fl gl v hj

end

/-! ## The cores that a control acts on -/

section
variable {s : State} {c : Nat}

theorem State.mem_cmoCores (hc : c < 240) : c ∈ s.cmoCores c := by
  unfold State.cmoCores
  split
  · have : c = c % 120 ∨ c = c % 120 + 120 := by omega
    simpa using this
  · exact List.mem_singleton_self c

theorem State.cmoCores_one (h : s.paired (s.corePart c) c = false) : s.cmoCores c = [c] := by simp [State.cmoCores, h]

theorem State.blkCores_one (h : s.isTwin (s.corePart c) = false) : s.blkCores c = [c] := by simp [State.blkCores, h]

theorem State.cmoCores_congr {t : State} (hcore : ∀ j, t.reg (R.CORE_STAT j) = s.reg (R.CORE_STAT j))
    (hpart : ∀ p, t.reg (R.PART_INFO p) = s.reg (R.PART_INFO p)) : t.cmoCores c = s.cmoCores c := by
  have halive (j : Nat) : t.alive j = s.alive j := by
    unfold State.alive State.coreState State.f
    rw [hcore]
  have htwin (p : Nat) : t.isTwin p = s.isTwin p := by
    unfold State.isTwin State.f
    rw [hpart]
  have howner : t.corePart c = s.corePart c := congrArg F.CORE_STAT_PARTITION.get (hcore c)
  unfold State.cmoCores State.paired
  rw [howner, htwin, halive, halive]

/-- Which cores are paired does not hang on CMO_STAT. -/
theorem State.cmoCores_setF_CMO_STAT (k : Nat) (fl : Fld) (v : Nat) : (s.setF (R.CMO_STAT k) fl v).cmoCores c = s.cmoCores c :=
  State.cmoCores_congr (fun _ => State.reg_setF_ne s _ _ (by simp only [R.CORE_STAT, R.CMO_STAT]; omega))
    fun _ => State.reg_setF_ne s _ _ (by simp only [R.PART_INFO, R.CMO_STAT]; omega)

end

/-! ## Answers and plain writes -/

section
variable (s : State)

/-- An answer shows in the messages sent and at the debug port alone. -/
theorem State.whoReply_field {β : Type} {g : State → β} (hsend : ∀ (t : State) m, g (t.send m) = g t)
    (herr : ∀ (t : State) e, g { t with err := e } = g t) (w : Who) (code : Nat) (v : Word) : g (s.whoReply w code v) = g s := by
  have htoCore (t : State) (c : Nat) (d : Line) : g (t.toCore c code d) = g t := by
    unfold State.toCore
    split
    · exact herr t _
    · exact hsend t _
  unfold State.whoReply
  split
  · split
    · exact each_field s g fun t c => htoCore t c _
    · exact hsend s _
  · rfl
  · exact htoCore s _ _
  · split
    · rfl
    · exact hsend s _

@[simp] theorem State.whoReply_cache (w : Who) (code : Nat) (v : Word) : (s.whoReply w code v).cache = s.cache :=
  s.whoReply_field (g := State.cache) (fun _ _ => rfl) (fun _ _ => rfl) w code v

@[simp] theorem State.whoReply_xlat (w : Who) (code : Nat) (v : Word) : (s.whoReply w code v).xlat = s.xlat :=
  s.whoReply_field (g := State.xlat) (fun _ _ => rfl) (fun _ _ => rfl) w code v

@[simp] theorem State.plainWrite_xlat (off : Nat) (v : Word) (p : Nat) : (s.plainWrite off v p).xlat = s.xlat := by
  unfold State.plainWrite
  split
  · rfl
  · dsimp only
    rw [State.setReg_xlat]
    split
    · exact State.record_xlat ..
    · rfl

theorem State.sameRegs_setF_whoReply (off : Nat) (fl : Fld) (v : Nat) (w : Who) (code : Nat) :
    s.SameRegs ((s.setF off fl v).whoReply w code) [off] := fun k hk => by
  rw [State.whoReply_reg, State.reg_setF_ne s fl v (by simpa using hk)]

/-- A one-bit field takes the enable that a write carries. -/
theorem State.f_setF_enable (off : Nat) {fl : Fld} (h : fl.fits) (hw : fl.width = 1) (en : Bool) :
    (s.setF off fl ((BitVec.ofNat 64 en.toNat).toNat % 2)).f off fl = en.toNat := by
  rw [State.f_setF_same s off h, hw]
  cases en
  · rfl
  · rfl

end

/-! ## A walk of a whole level begins (R142) -/

section
variable {s : State} {c : Nat}

theorem State.setBothCmo_f_same (hc : c < 240) {fl : Fld} (h : fl.fits) (v : Nat) :
    (s.setBothCmo c fl v).f (R.CMO_STAT c) fl = v % 2 ^ fl.width := State.f_each_setF_mem h v (State.mem_cmoCores hc)

theorem State.setBothCmo_f_apart {fl gl : Fld} (hg : gl.fits) (h : fl.apart gl) (v off : Nat) :
    (s.setBothCmo c gl v).f off fl = s.f off fl := State.f_each_setF_apart hg h v off

theorem State.cmoCores_setBothCmo (fl : Fld) (v k : Nat) : (s.setBothCmo c fl v).cmoCores k = s.cmoCores k :=
  each_field s (fun t => t.cmoCores k) fun _ j => State.cmoCores_setF_CMO_STAT j fl v

theorem State.setBothCmo_reg_ne (h : s.cmoCores c = [c]) (fl : Fld) (v : Nat) {k : Nat} (hk : k ≠ R.CMO_STAT c) :
    (s.setBothCmo c fl v).reg k = s.reg k := by
  unfold State.setBothCmo
  rw [h]
  exact State.reg_setF_ne s fl v hk

@[simp] theorem State.setBothCmo_cache (fl : Fld) (v : Nat) : (s.setBothCmo c fl v).cache = s.cache :=
  each_field s State.cache fun _ _ => rfl

/-- A core that has no access outstanding and no walk running starts one by its own block. -/
theorem State.cmoIssue_walk {w : Who} {blk op level : Nat} (user : Bool) (ha : s.Admitted w (R.CMO_ISSUE blk) true)
    (hown : s.ownBlk w blk = some c) (hbusy : s.f (R.CMO_STAT c) F.CMO_STAT_BUSY = 0)
    (hidle : ∀ k ∈ s.cmoCores c, s.accsOut k (fun _ => true) = false) (hop : op ≠ 0) :
    s.cmoIssue w blk op 3 level 0 user = (((s.setBothCmo c F.CMO_STAT_BUSY 1).setBothCmo c F.CMO_STAT_WALK_CMD
      (op + 12 + 16 * level)).setBothCmo c F.CMO_STAT_PROGRESS 0).coreReply c 0 := by
  have hwait : ((s.cmoCores c).any fun k => s.accsOut k fun _ => true) = false := by simpa using hidle
  rw [State.cmoIssue, State.csGuard_admitted ha]
  simp [hown, State.cmoWrite, hop, hwait, hbusy]

theorem State.cmoIssue_starts {w : Who} {blk op : Nat} {level : Fin 4} (user : Bool) (hc : c < 240)
    (ha : s.Admitted w (R.CMO_ISSUE blk) true) (hown : s.ownBlk w blk = some c) (hbusy : s.f (R.CMO_STAT c) F.CMO_STAT_BUSY = 0)
    (hidle : ∀ k ∈ s.cmoCores c, s.accsOut k (fun _ => true) = false) (hop : op ≠ 0) (hop3 : op ≤ 3) :
    (s.cmoIssue w blk op 3 level 0 user).f (R.CMO_STAT c) F.CMO_STAT_BUSY = 1 ∧
      (s.cmoIssue w blk op 3 level 0 user).f (R.CMO_STAT c) F.CMO_STAT_WALK_CMD = op + 12 + 16 * level := by
  have hlevel := level.isLt
  rw [State.cmoIssue_walk user ha hown hbusy hidle hop, State.coreReply_f, State.coreReply_f]
  constructor
  · rw [State.setBothCmo_f_apart (by decide) (by decide), State.setBothCmo_f_apart (by decide) (by decide)]
    exact State.setBothCmo_f_same hc (by decide) 1
  · rw [State.setBothCmo_f_apart (by decide) (by decide), State.setBothCmo_f_same hc (by decide)]
    exact Nat.mod_eq_of_lt (by show _ < 64; omega)

end

/-! ## A walk of the L0 (R137, R142) -/

section
variable {s : State} {c kind : Nat}

/-- The ways of core c's L0 below n hold no line. -/
def State.l0Clear (s : State) (c n : Nat) : Prop := ∀ v < n, s.cache.l0.get (c * 32 + v) = 0

/-- The first way that holds a line is the one that loses it. -/
theorem State.l0Remove_first {way line : Nat} (hw : way < 32) (hclear : s.l0Clear c way)
    (hline : s.cache.l0.get (c * 32 + way) = line + 1) :
    s.l0Remove c line = s.onCache fun k => { k with l0 := k.l0.put (c * 32 + way) 0 } := by
  have hfind : s.l0Find c line = some way := by
    rw [State.l0Find, List.find?_range_eq_some]
    exact ⟨by simpa using hline, List.mem_range.mpr hw, fun v hv => by simp [hclear v hv]⟩
  rw [State.l0Remove, hfind]

theorem State.l0Remove_reg (line k : Nat) : (s.l0Remove c line).reg k = s.reg k := by
  unfold State.l0Remove
  split
  · rfl
  · rfl

theorem State.cmoL1_l0 {o : Cmo} (ho : o.level = 0) : s.cmoL1 c o = if o.kind = 1 then s else s.l0Remove c o.line := by
  by_cases hk : o.kind = 1
  · simp [State.cmoL1, ho, hk]
  · simp [State.cmoL1, ho, hk]

theorem State.cmoSetWay_l0_reg (set way k : Nat) : (s.cmoSetWay c kind 0 set way).reg k = s.reg k := by
  unfold State.cmoSetWay
  refine each_field s (fun t => t.reg k) fun t j => each_field t (fun t => t.reg k) fun u line => ?_
  rw [State.cmoL1_l0 rfl]
  split
  · rfl
  · exact State.l0Remove_reg _ k

/-- An invalidation that has reached a way has emptied the ways up to it. -/
theorem State.cmoSetWay_l0_clear {way : Nat} (hone : s.cmoCores c = [c]) (hk : kind ≠ 1) (hw : way < 32) (hclear : s.l0Clear c way)
    (set : Nat) : (s.cmoSetWay c kind 0 set way).l0Clear c (way + 1) := by
  intro v hv
  have hbelow : v ≠ way → s.cache.l0.get (c * 32 + v) = 0 := fun hne => hclear v (by omega)
  unfold State.cmoSetWay
  rw [hone]
  cases hline : s.cache.l0.get (c * 32 + way) with
  | zero =>
    by_cases hv' : v = way
    · simp [each, hline, hv']
    · simp [each, hline, hbelow hv']
  | succ line =>
    simp only [each, List.foldl_cons, List.foldl_nil, if_true, hline]
    rw [State.cmoL1_l0 rfl, if_neg hk, State.l0Remove_first hw hclear hline]
    by_cases hv' : v = way
    · simp [hv']
    · simp [hv', hbelow hv']

theorem State.cmoWalk_l0 : s.cmoWalk c kind 0 = (each (List.range 32) (fun s way => s.cmoSetWay c kind 0 0 way) s, []) := by
  simp [State.cmoWalk, cmoSets, cmoWays, each]

theorem State.cmoWalk_l0_reg (k : Nat) : (s.cmoWalk c kind 0).1.reg k = s.reg k := by
  rw [State.cmoWalk_l0]
  exact each_field s (fun t => t.reg k) fun _ way => State.cmoSetWay_l0_reg 0 way k

/-- An invalidation of the whole L0 leaves no line. -/
theorem State.cmoWalk_l0_clear (hone : s.cmoCores c = [c]) (hk : kind ≠ 1) : (s.cmoWalk c kind 0).1.l0Clear c 32 := by
  suffices hways : ∀ n ≤ 32, (each (List.range n) (fun s way => s.cmoSetWay c kind 0 0 way) s).l0Clear c n by
    rw [State.cmoWalk_l0]
    exact hways 32 le_rfl
  intro n hn
  induction n with
  | zero => exact fun v hv => absurd hv (Nat.not_lt_zero v)
  | succ n ih =>
    have hreg (k : Nat) : (each (List.range n) (fun s way => s.cmoSetWay c kind 0 0 way) s).reg k = s.reg k :=
      each_field s (fun t => t.reg k) fun _ way => State.cmoSetWay_l0_reg 0 way k
    have hcores := (State.cmoCores_congr (fun _ => hreg _) fun _ => hreg _).trans hone
    have hstep := State.cmoSetWay_l0_clear hcores hk (by omega) (ih (by omega)) 0
    simpa only [each, List.range_succ, List.foldl_append, List.foldl_cons, List.foldl_nil] using hstep

/-- A walk of the L0 has nothing to wait for, and nothing of it is left to be answered. -/
theorem State.cmoWalkEnd_l0 (hone : s.cmoCores c = [c]) (hbusy : s.f (R.CMO_STAT c) F.CMO_STAT_BUSY = 1)
    (hlevel : s.f (R.CMO_STAT c) F.CMO_STAT_WALK_CMD / 16 = 0) (hout : ∀ o ∈ s.cache.cmoOut, o.walk = true → o.core ≠ c) :
    s.cmoWalkEnd c = (s.cmoWalk c (s.f (R.CMO_STAT c) F.CMO_STAT_WALK_CMD % 4) 0).1.walkOver c := by
  have hnone : (s.cache.cmoOut.any fun o => o.walk && (s.cmoCores c).contains o.core) = false := by
    rw [List.any_eq_false, hone]
    simpa using hout
  unfold State.cmoWalkEnd
  simp only [hbusy, hlevel, hnone, State.walkMustWait]
  rfl

/-- The end of an unpaired core's walk of the L0 shows in its CMO_STAT alone. -/
theorem State.walkOver_l0 (hc : c < 240) (hone : s.cmoCores c = [c]) (hlevel : s.f (R.CMO_STAT c) F.CMO_STAT_WALK_CMD / 16 = 0) :
    (s.walkOver c).f (R.CMO_STAT c) F.CMO_STAT_BUSY = 0 ∧ (s.walkOver c).f (R.CMO_STAT c) F.CMO_STAT_DONE = 1 ∧
      (s.walkOver c).f (R.CMO_STAT c) F.CMO_STAT_PROGRESS = 32 ∧ s.SameRegs (s.walkOver c) [R.CMO_STAT c] ∧
      (s.walkOver c).cache = s.cache := by
  have hbusy := State.cmoCores_setBothCmo (s := s) (c := c) F.CMO_STAT_BUSY 0 c
  have hdone := State.cmoCores_setBothCmo (s := s.setBothCmo c F.CMO_STAT_BUSY 0) (c := c) F.CMO_STAT_DONE 1 c
  unfold State.walkOver
  simp only [hlevel, if_true]
  refine ⟨?_, ?_, State.setBothCmo_f_same hc (by decide) 32, fun k hk => ?_, by simp⟩
  · rw [State.setBothCmo_f_apart (by decide) (by decide), State.setBothCmo_f_apart (by decide) (by decide)]
    exact State.setBothCmo_f_same hc (by decide) 0
  · rw [State.setBothCmo_f_apart (by decide) (by decide)]
    exact State.setBothCmo_f_same hc (by decide) 1
  · have hne : k ≠ R.CMO_STAT c := by simpa using hk
    rw [State.setBothCmo_reg_ne (hdone.trans (hbusy.trans hone)) _ _ hne, State.setBothCmo_reg_ne (hbusy.trans hone) _ _ hne,
      State.setBothCmo_reg_ne hone _ _ hne]

end

/-! ## Allocation enables (R146, R147) and a parity error of the L0 (R135) -/

section
variable {s : State} {w : Who} (v : Word)

theorem State.l1CtlOp_unpaired {c : Nat} (ha : s.Admitted w (R.L1_CTL c) true) (ht : s.isTwin (s.corePart c) = false) :
    s.l1CtlOp w c v = (s.setF (R.L1_CTL c) F.L1_CTL_EN (v.toNat % 2)).whoReply w 0 := by
  rw [State.l1CtlOp, State.csGuard_admitted ha, State.blkCores_one ht]
  rfl

theorem State.dcCtlOp_owner {d : Nat} (ha : s.Admitted w (R.DC_CTL d) true)
    (hall : ∀ c ∈ coresOfDie d, s.coreState c = 0 ∨ s.corePart c = s.whoPart w) :
    s.dcCtlOp w d v = (s.setF (R.DC_CTL d) F.DC_CTL_EN (v.toNat % 2)).whoReply w 0 := by
  rw [State.dcCtlOp, State.csGuard_admitted ha]
  exact if_pos (by simpa using hall)

theorem State.coreArrayError_l0 {c way : Nat} (set sector : Nat) (hw : way < 32) (hheld : s.cache.l0.get (c * 32 + way) ≠ 0) :
    s.coreArrayError 0 c set way sector = s.arrayFixed c := by
  simp [State.coreArrayError, Nat.mod_eq_of_lt hw, hheld]

end

/-! ## Translation controls (R173) -/

section
variable {s : State} {w : Who} (v : Word)

theorem State.xlatGuard_own {c off k : Nat} (ha : s.Admitted w off true) (hown : s.ownBlk w c = some k) (act : State → Nat → State) :
    s.xlatGuard w c off v act = act s k := by
  rw [State.xlatGuard, State.csGuard_admitted ha]
  simp only [hown]

theorem State.xlatCtlOp_unpaired {c : Nat} (ha : s.Admitted w (R.XLAT_CTL c) true) (hown : s.ownBlk w c = some c)
    (ht : s.isTwin (s.corePart c) = false) :
    s.xlatCtlOp w c v = (s.setF (R.XLAT_CTL c) F.XLAT_CTL_EN (v.toNat % 2)).whoReply w 0 := by
  rw [State.xlatCtlOp, State.xlatGuard_own v ha hown, State.blkCores_one ht]
  rfl

theorem State.xlatBaseOp_unpaired {c : Nat} (ha : s.Admitted w (R.XLAT_BASE c) true) (hown : s.ownBlk w c = some c)
    (ht : s.isTwin (s.corePart c) = false) :
    s.xlatBaseOp w c v = (s.plainWrite (R.XLAT_BASE c) v (s.whoPart w)).whoReply w 0 := by
  rw [State.xlatBaseOp, State.xlatGuard_own v ha hown, State.blkCores_one ht]
  rfl

theorem locate_XLAT_BASE (c : Core) : locate (R.XLAT_BASE c) = some (Blk.core, c.val, 0x908) := by
  have hc := c.isLt
  have hoff : R.XLAT_BASE c = 0x1000000 + c.val * 0x10000 + 0x908 := by simp only [R.XLAT_BASE]; omega
  generalize R.XLAT_BASE c = off at hoff
  have hfind : (blkTable.find? fun b => b.base ≤ off && off < b.base + b.stride * b.count) = some ⟨Blk.core, 0x1000000, 0x10000, 240⟩ := by
    simp (disch := (simp; omega)) only [blkTable, List.find?_cons_of_neg, List.find?_cons_of_pos]
  rw [locate, hfind]
  simp only [Option.some.injEq, Prod.mk.injEq, true_and]
  omega

/-- The row of XLAT_BASE in the core block: ASID and BASE, both RW. -/
def xlatBaseRow : RegRow := ⟨0x908, [], [⟨0, 16, .rw, 0⟩, ⟨16, 36, .rw, 0⟩]⟩

theorem regAt_XLAT_BASE (c : Core) : regAt (R.XLAT_BASE c) = some (Blk.core, c.val, [], xlatBaseRow) := by
  rw [regAt, locate_XLAT_BASE]
  simp [regTable, regTable_core, RegRow.at?, idxOf, xlatBaseRow]

theorem State.reg_plainWrite_XLAT_BASE (c : Core) (p k : Nat) : (s.plainWrite (R.XLAT_BASE c) v p).reg k =
    if k = R.XLAT_BASE c then fieldWrite xlatBaseRow.flds (s.reg (R.XLAT_BASE c)) v else s.reg k :=
  State.reg_plainWrite (regAt_XLAT_BASE c) (by decide) v p k

theorem State.plainWrite_XLAT_BASE (c : Core) (p : Nat) :
    (s.plainWrite (R.XLAT_BASE c) v p).f (R.XLAT_BASE c) F.XLAT_BASE_BASE = F.XLAT_BASE_BASE.get v ∧
      (s.plainWrite (R.XLAT_BASE c) v p).f (R.XLAT_BASE c) F.XLAT_BASE_ASID = F.XLAT_BASE_ASID.get v := by
  simp (disch := decide) [State.f, State.reg_plainWrite_XLAT_BASE, fieldWrite, xlatBaseRow, Fld.get_set_get, Fld.get_set_apart]

end

end Sys2Proof.Machine

open Sys2Proof Sys2Proof.Machine

/-- Settles O15: each clause by the lemma of its command. The walk of the L0 empties the ways in order, and what it leaves to be answered is
nothing, so it ends at once. -/
theorem cacheControls : Obligations.CacheControls := by
  refine ⟨fun s who blk level user c hc ha hown hbusy hidle => ?_, fun s who blk level user c hc ha hown hbusy hidle => ?_,
    fun s who blk level user c hc ha hown hbusy hidle => ?_, fun s c hbusy hlo hhi halone hout => ?_, fun s who c en ha ht => ?_,
    fun s who d en ha hall => ?_, fun s c set way sector corr hw hheld => ?_, fun s who c en ha hown ht => ?_,
    fun s who c v ha hown ht => ?_⟩
  · exact ⟨_, rfl, State.cmoIssue_starts user hc ha hown hbusy hidle (by decide) (by decide)⟩
  · exact ⟨_, rfl, State.cmoIssue_starts user hc ha hown hbusy hidle (by decide) (by decide)⟩
  · exact ⟨_, rfl, State.cmoIssue_starts user hc ha hown hbusy hidle (by decide) (by decide)⟩
  · have hone := State.cmoCores_one halone
    have hlevel : s.f (R.CMO_STAT c) F.CMO_STAT_WALK_CMD / 16 = 0 := by omega
    refine ⟨_, congrArg Host.Outcome.next (State.cmoWalkEnd_l0 hone hbusy hlevel hout), ?_⟩
    have hreg (k : Nat) := State.cmoWalk_l0_reg (s := s) (c := c) (kind := s.f (R.CMO_STAT c) F.CMO_STAT_WALK_CMD % 4) k
    have hcores := (State.cmoCores_congr (fun _ => hreg _) fun _ => hreg _).trans hone
    have hlevel' := (congrArg (F.CMO_STAT_WALK_CMD.get · / 16) (hreg (R.CMO_STAT c))).trans hlevel
    obtain ⟨h0, h1, h32, hframe, hcache⟩ := State.walkOver_l0 c.isLt hcores hlevel'
    refine ⟨h0, h1, h32, fun k hk => (hframe k hk).trans (hreg k), fun hk w hw => ?_⟩
    rw [hcache]
    exact State.cmoWalk_l0_clear hone (by omega) w hw
  · refine ⟨_, congrArg Host.Outcome.next (State.l1CtlOp_unpaired _ ha ht), ?_, s.sameRegs_setF_whoReply _ _ _ _ _, by simp⟩
    rw [State.whoReply_f]
    exact State.f_setF_enable s _ (by decide) rfl en
  · refine ⟨_, congrArg Host.Outcome.next (State.dcCtlOp_owner _ ha hall), ?_, s.sameRegs_setF_whoReply _ _ _ _ _, by simp⟩
    rw [State.whoReply_f]
    exact State.f_setF_enable s _ (by decide) rfl en
  · exact ⟨_, congrArg Host.Outcome.next (State.coreArrayError_l0 set sector hw hheld), rfl, s.f_incF_same (by decide) 1,
      fun k hk => State.reg_setF_ne s _ _ (by simpa using hk)⟩
  · refine ⟨_, congrArg Host.Outcome.next (State.xlatCtlOp_unpaired _ ha hown ht), ?_, s.sameRegs_setF_whoReply _ _ _ _ _, by simp⟩
    rw [State.whoReply_f]
    exact State.f_setF_enable s _ (by decide) rfl en
  · obtain ⟨hbase, hasid⟩ := State.plainWrite_XLAT_BASE (s := s) v c (s.whoPart who.who)
    refine ⟨_, congrArg Host.Outcome.next (State.xlatBaseOp_unpaired v ha hown ht), ?_, ?_, fun k hk => ?_, by simp⟩
    · rwa [State.whoReply_f]
    · rwa [State.whoReply_f]
    · rw [State.whoReply_reg, State.reg_plainWrite_XLAT_BASE, if_neg (by simpa using hk)]

end

section
/-! SUPPORT. The fault registers of a core (R151, R161, R172): what a fault writes there, and what it leaves as it was. -/

namespace Sys2Proof.Machine

/-! ## Answers -/

section
variable (s : State)

/-- An answer shows in the messages sent, or at the debug port. -/
theorem State.toCore_field {β : Type} {g : State → β} (hsend : ∀ (t : State) m, g (t.send m) = g t)
    (herr : ∀ (t : State) e, g { t with err := e } = g t) (c code : Nat) (v : Line) : g (s.toCore c code v) = g s := by
  unfold State.toCore
  split
  · exact herr s _
  · exact hsend s _

theorem State.toCore_reg (c code : Nat) (v : Line) (k : Nat) : (s.toCore c code v).reg k = s.reg k := by
  simp [State.reg, State.toCore_regs]

end

/-! ## The registers that a fault writes -/

/-- The fault registers of core c (R172). -/
abbrev faultRegs (c : Nat) : List Nat := [R.XLAT_FAULT_STAT c, R.XLAT_FAULT_VA c, R.XLAT_FAULT_DESC c, R.XLAT_FAULT_ENTRY c]

section
variable (c : Nat)

theorem XLAT_FAULT_STAT_ne_VA : R.XLAT_FAULT_STAT c ≠ R.XLAT_FAULT_VA c := by simp only [R.XLAT_FAULT_STAT, R.XLAT_FAULT_VA]; omega
theorem XLAT_FAULT_STAT_ne_DESC : R.XLAT_FAULT_STAT c ≠ R.XLAT_FAULT_DESC c := by simp only [R.XLAT_FAULT_STAT, R.XLAT_FAULT_DESC]; omega
theorem XLAT_FAULT_STAT_ne_ENTRY : R.XLAT_FAULT_STAT c ≠ R.XLAT_FAULT_ENTRY c := by
  simp only [R.XLAT_FAULT_STAT, R.XLAT_FAULT_ENTRY]; omega
theorem XLAT_FAULT_VA_ne_DESC : R.XLAT_FAULT_VA c ≠ R.XLAT_FAULT_DESC c := by simp only [R.XLAT_FAULT_VA, R.XLAT_FAULT_DESC]; omega
theorem XLAT_FAULT_VA_ne_ENTRY : R.XLAT_FAULT_VA c ≠ R.XLAT_FAULT_ENTRY c := by simp only [R.XLAT_FAULT_VA, R.XLAT_FAULT_ENTRY]; omega

end

section
variable (s : State) {c : Nat} (src : Src) (user : Bool) (va code level : Nat) (hit : Bool) (desc : Nat) (entry : Word)

/-- A fault shows in the core's fault registers and its answer alone. -/
theorem State.xlatFault_field {β : Type} {g : State → β} (hreg : ∀ (t : State) off w, off ∈ faultRegs c → g (t.setReg off w) = g t)
    (hcore : ∀ (t : State) v, g (t.toCore c 2 v) = g t) : g (s.xlatFault c src user va code level hit desc entry) = g s := by
  have hstat (t : State) (fl : Fld) (v : Nat) : g (t.setF (R.XLAT_FAULT_STAT c) fl v) = g t := hreg t _ _ (by simp)
  have hva (t : State) (v : Word) : g (t.setReg (R.XLAT_FAULT_VA c) v) = g t := hreg t _ v (by simp)
  have hdesc (t : State) (v : Word) : g (t.setReg (R.XLAT_FAULT_DESC c) v) = g t := hreg t _ v (by simp)
  have hentry (t : State) (v : Word) : g (t.setReg (R.XLAT_FAULT_ENTRY c) v) = g t := hreg t _ v (by simp)
  delta State.xlatFault
  dsimp only
  have hover : g (if s.f (R.XLAT_FAULT_STAT c) F.XLAT_FAULT_STAT_VALID = 1 then s.setF (R.XLAT_FAULT_STAT c) F.XLAT_FAULT_STAT_OVERRUN 1
      else s) = g s := by
    split
    · exact hstat s _ 1
    · rfl
  split
  · rw [hentry, hdesc, hva, hstat, hstat, hstat, hstat, hstat, hstat, hstat, hstat, hover]
  · rw [hcore, hentry, hdesc, hva, hstat, hstat, hstat, hstat, hstat, hstat, hstat, hstat, hover]

/-- What the fault status and address read after a fault. -/
theorem State.xlatFault_status : (s.xlatFault c src user va code level hit desc entry).f (R.XLAT_FAULT_STAT c) F.XLAT_FAULT_STAT_VALID = 1 ∧
    (s.xlatFault c src user va code level hit desc entry).f (R.XLAT_FAULT_STAT c) F.XLAT_FAULT_STAT_CODE = code % 16 ∧
    (s.xlatFault c src user va code level hit desc entry).reg (R.XLAT_FAULT_VA c) = BitVec.ofNat 64 va := by
  have hsv := XLAT_FAULT_STAT_ne_VA c
  have hsd := XLAT_FAULT_STAT_ne_DESC c
  have hse := XLAT_FAULT_STAT_ne_ENTRY c
  delta State.xlatFault
  dsimp only
  refine ⟨?_, ?_, ?_⟩
  · rw [apply_ite (State.f · _ _), State.toCore_f, ite_self]
    simp (disch := first | assumption | decide) [State.f_setReg_ne, State.f_setF_apart, State.f_setF_same]
  · rw [apply_ite (State.f · _ _), State.toCore_f, ite_self]
    simp (disch := first | assumption | decide) [State.f_setReg_ne, State.f_setF_apart, State.f_setF_same]
  · rw [apply_ite (State.reg · _), State.toCore_reg, ite_self, State.reg_setReg_ne _ _ (XLAT_FAULT_VA_ne_ENTRY c),
      State.reg_setReg_ne _ _ (XLAT_FAULT_VA_ne_DESC c), State.reg_setReg_same]

theorem State.xlatFault_mem (c : Core) (hsrc : src ≠ .maint) :
    .core c 2 (BitVec.ofNat 512 code) ∈ (s.xlatFault c src user va code level hit desc entry).sent := by
  delta State.xlatFault
  dsimp only
  rw [if_neg hsrc, State.toCore_same _ (core_ne_debugPort c), State.send_sent]
  exact List.mem_append_right _ (List.mem_singleton_self _)

theorem State.xlatFault_sameRegs : s.SameRegs (s.xlatFault c src user va code level hit desc entry) (faultRegs c) := fun k hk =>
  s.xlatFault_field (g := (State.reg · k)) src user va code level hit desc entry
    (fun t _ w hoff => t.reg_setReg_ne w fun h => hk (h ▸ hoff)) fun t _ => t.toCore_reg _ _ _ k

theorem State.xlatFault_cache : (s.xlatFault c src user va code level hit desc entry).cache = s.cache :=
  s.xlatFault_field (g := State.cache) src user va code level hit desc entry (fun _ _ _ _ => rfl)
    fun t _ => t.toCore_field (fun _ _ => rfl) (fun _ _ => rfl) _ _ _

theorem State.xlatFault_xlat : (s.xlatFault c src user va code level hit desc entry).xlat = s.xlat :=
  s.xlatFault_field (g := State.xlat) src user va code level hit desc entry (fun _ _ _ _ => rfl)
    fun t _ => t.toCore_field (fun _ _ => rfl) (fun _ _ => rfl) _ _ _

theorem State.xlatFault_dram : (s.xlatFault c src user va code level hit desc entry).dram = s.dram :=
  s.xlatFault_field (g := State.dram) src user va code level hit desc entry (fun _ _ _ _ => rfl)
    fun t _ => t.toCore_field (fun _ _ => rfl) (fun _ _ => rfl) _ _ _

end

/-! ## An access beyond bit 51 (R151) -/

section
variable {s : State} {a : Acc}

theorem State.translate_range (c : Nat) (src : Src) (user : Bool) {va : Nat} (h : 2 ^ 52 ≤ va) :
    s.translate c src user va = (s, .fault XLATE_RANGE 0) := if_pos h

/-- The access of a core that runs is not performed: it faults, and on a predicted path the fault leaves no trace (R128, R161). -/
theorem State.coreAccess_range (hr : s.Runs a.core) (h : 2 ^ 52 ≤ a.va) (spec : Bool) :
    s.coreAccess a spec = if spec then s else s.xlatFault a.core a.src a.user a.va XLATE_RANGE 0 false 0 0 := by
  obtain ⟨hrun, hfree⟩ := hr
  have hfault := s.translate_range a.core a.src a.user h
  simp [State.coreAccess, hrun, hfree, State.access, hfault]

theorem State.coreAccess_range_spec (hr : s.Runs a.core) (h : 2 ^ 52 ≤ a.va) : s.coreAccess a true = s :=
  State.coreAccess_range hr h true

/-- What the fault of a core's own access leaves behind. -/
theorem State.coreAccess_range_fault {c : Core} {va : Word} (hc : a.core = c) (hva : a.va = va.toNat) (hsrc : a.src ≠ .maint)
    (hr : s.Runs c) (h : 2 ^ 52 ≤ va.toNat) :
    let t := s.coreAccess a false
    t.f (R.XLAT_FAULT_STAT c) F.XLAT_FAULT_STAT_VALID = 1 ∧ t.f (R.XLAT_FAULT_STAT c) F.XLAT_FAULT_STAT_CODE = XLATE_RANGE ∧
      t.reg (R.XLAT_FAULT_VA c) = va ∧ .core c 2 XLATE_RANGE ∈ t.sent ∧ t.cache = s.cache ∧ t.xlat = s.xlat ∧ t.dram = s.dram ∧
      s.SameRegs t (faultRegs c) := by
  intro t
  have ht : t = s.xlatFault c a.src a.user va.toNat XLATE_RANGE 0 false 0 0 := by
    rw [← hc, ← hva]
    exact State.coreAccess_range (hc ▸ hr) (hva ▸ h) false
  obtain ⟨hvalid, hcode, hreg⟩ := s.xlatFault_status (c := c) a.src a.user va.toNat XLATE_RANGE 0 false 0 0
  rw [ht]
  refine ⟨hvalid, hcode, hreg.trans (by simp), s.xlatFault_mem _ _ _ _ _ _ _ _ c hsrc, s.xlatFault_cache .., s.xlatFault_xlat ..,
    s.xlatFault_dram .., s.xlatFault_sameRegs _ _ _ _ _ _ _ _⟩

end

end Sys2Proof.Machine

open Sys2Proof Sys2Proof.Machine

/-- Settles O9: the range is checked before translation, so each access ends in the one fault. -/
theorem addressRange : Obligations.AddressRange := by
  refine ⟨fun s c va size user hr h => ⟨_, rfl, ?_⟩, fun s c va size v user hr h => ⟨_, rfl, ?_⟩,
    fun s c va op size x y user hr h => ⟨_, rfl, ?_⟩, fun s c va user hr h => ⟨_, rfl, ?_⟩,
    fun s c va size user hr h => ⟨_, rfl, State.coreAccess_range_spec hr h⟩⟩
  · exact State.coreAccess_range_fault rfl rfl (by simp) hr h
  · exact State.coreAccess_range_fault rfl rfl (by simp) hr h
  · exact State.coreAccess_range_fault rfl rfl (by simp) hr h
  · exact State.coreAccess_range_fault rfl rfl (by simp) hr h

end

section
/-! SUPPORT. TLB invalidation (R166 to R169): what the cache operations behind a descriptor read leave as they were, what an
invalidation removes, and that nothing that then goes on brings an entry back. -/

namespace Sys2Proof.Machine

/-! ## The translation state apart from the caches: a descriptor read (R158, R159) touches none of it -/

theorem ite_xlat {p : Prop} [Decidable p] {s a b : State} (ha : a.xlat = s.xlat) (hb : b.xlat = s.xlat) :
    (if p then a else b).xlat = s.xlat := by
  split
  · exact ha
  · exact hb

section
variable (s : State) (c d line : Nat)

theorem State.count_xlat (ev : Nat) (user : Bool) : (s.count c ev user).xlat = s.xlat :=
  s.count_field c (g := State.xlat) (fun _ _ _ => rfl) (fun _ _ => rfl) ev user

theorem State.toCore_xlat (code : Nat) (v : Line) : (s.toCore c code v).xlat = s.xlat :=
  s.toCore_field (g := State.xlat) (fun _ _ => rfl) (fun _ _ => rfl) c code v

theorem State.coreReply_xlat (code : Nat) (v : Line) : (s.coreReply c code v).xlat = s.xlat :=
  each_field s State.xlat fun t _ => t.toCore_xlat _ _ _

theorem State.l0Remove_xlat : (s.l0Remove c line).xlat = s.xlat := by
  unfold State.l0Remove
  split
  · rfl
  · rfl

theorem State.l1Tidy_xlat (i : Bool) : (s.l1Tidy c i line).xlat = s.xlat := by
  unfold State.l1Tidy
  split
  · rfl
  · exact ite_xlat rfl rfl

theorem State.l1Remove_xlat (i : Bool) : (s.l1Remove c i line).xlat = s.xlat := by
  unfold State.l1Remove
  split
  · rfl
  · exact (State.l1Tidy_xlat ..).trans (ite_xlat rfl (State.l0Remove_xlat ..))

theorem State.dcUpd_xlat (f : DcLine → DcLine) : (s.dcUpd d line f).xlat = s.xlat := by
  unfold State.dcUpd
  split
  · rfl
  · rfl

theorem State.l1Evict_xlat (i : Bool) : (s.l1Evict c i line).xlat = s.xlat := by
  unfold State.l1Evict
  refine (State.dcUpd_xlat ..).trans ((State.l1Remove_xlat ..).trans ?_)
  split
  · exact ite_xlat (s.dcUpd_xlat ..) rfl
  · rfl

theorem State.l1Clean_xlat : (s.l1Clean c line).xlat = s.xlat := by
  unfold State.l1Clean
  split
  · exact ite_xlat (s.dcUpd_xlat ..) rfl
  · rfl

theorem State.purgeL1s_xlat (keep : Option Nat) (counted : Bool) : (s.purgeL1s d line keep counted).xlat = s.xlat := by
  unfold State.purgeL1s
  split
  · exact each_field s State.xlat fun t e => ite_xlat (t.l1Evict_xlat ..) (t.l1Evict_xlat ..)
  · rfl

theorem State.cleanL1s_xlat : (s.cleanL1s d line).xlat = s.xlat := by
  unfold State.cleanL1s
  split
  · exact each_field s State.xlat fun t e => ite_xlat rfl (t.l1Clean_xlat ..)
  · rfl

theorem State.dcEvict_xlat : (s.dcEvict d line).xlat = s.xlat := by
  unfold State.dcEvict
  dsimp only
  split
  · exact s.purgeL1s_xlat ..
  · exact (State.dcUpd_xlat ..).trans (s.purgeL1s_xlat ..)

theorem State.countTo_xlat (cores : List Nat) (user : Bool) (half : Nat) (dst : Unt) : (s.countTo cores user half dst).xlat = s.xlat := by
  have hcount (t : State) (l : List Nat) (ev : Nat) : (each l (fun s c => s.count c ev user) t).xlat = t.xlat :=
    each_field t State.xlat fun u k => u.count_xlat k ev user
  have hfar := ite_xlat (p := (dst.pkg != s.pkg) = true) (hcount s (cores.filter (· < 240)) 0x14) (rfl : s.xlat = s.xlat)
  exact ite_xlat hfar ((hcount ..).trans hfar)

theorem State.sendMiss_xlat (m : DcMiss) : (s.sendMiss m).xlat = s.xlat := by
  have hcount : (s.countMiss m fun s a => s.countTo [a.core] a.user (hubOfDie m.die) (s.homeUnit m.line)).xlat = s.xlat := by
    unfold State.countMiss
    split
    · exact State.countTo_xlat ..
    · rfl
  exact hcount

theorem State.openMiss_xlat (m : DcMiss) : (s.openMiss m).xlat = s.xlat := by
  unfold State.openMiss
  refine ite_xlat rfl (ite_xlat (ite_xlat rfl rfl) ?_)
  split
  · rfl
  next w _ =>
    dsimp only
    have hevict := ite_xlat (p := ((s.cache.dc.get (dcKey m.die (dcSetOf m.line) w)).coh != .i &&
      (s.cache.dc.get (dcKey m.die (dcSetOf m.line) w)).line != m.line) = true) (s.dcEvict_xlat m.die
      (s.cache.dc.get (dcKey m.die (dcSetOf m.line) w)).line) rfl
    exact ite_xlat hevict ((State.sendMiss_xlat ..).trans hevict)

theorem State.dcRequest_xlat (op : COp) (part : Nat) (l1 : Option (Nat × Bool)) (walk : Option (Nat × Nat)) (atomicBy : Option Nat) :
    (s.dcRequest d line op part l1 walk atomicBy).xlat = s.xlat := by
  unfold State.dcRequest
  exact ite_xlat rfl (ite_xlat (ite_xlat rfl rfl) (s.openMiss_xlat _))

theorem State.sendDirect_xlat (a : Acc) (unit : Nat) (op : COp) (mask : Mask) (data : Line) (aop : AtOp) :
    (s.sendDirect a unit op mask data aop).xlat = s.xlat := by
  have hcount := s.countTo_xlat a.cores a.user a.half (s.homeUnit a.line)
  unfold State.sendDirect
  simp only [State.newTxn, apply_ite State.xlat, State.send_xlat, State.onCache_xlat, hcount, ite_self]

end

/-! ## What an invalidation removes (R166) -/

/-- The translation state once core c has removed the entries that an operation names. -/
def XlatSt.invalidated (x : XlatSt) (c op va asid part : Nat) : XlatSt :=
  { x with l1 := x.l1.filter fun e => e.1 / 64 != c || !tlbiHits op va asid part e.2
           l2 := x.l2.filter fun e => e.1 / 3072 != c || !tlbiHits op va asid part e.2 }

section
variable {x : XlatSt} {c op va asid part : Nat} {e : Nat × TlbEnt}

theorem XlatSt.spared_l1 (he : e ∈ (x.invalidated c op va asid part).l1) (hc : e.1 / 64 = c) : tlbiHits op va asid part e.2 = false := by
  simpa [hc] using (List.mem_filter.mp he).2

theorem XlatSt.spared_l2 (he : e ∈ (x.invalidated c op va asid part).l2) (hc : e.1 / 12 / 256 = c) :
    tlbiHits op va asid part e.2 = false := by
  have hc' : e.1 / 3072 = c := by omega
  simpa [hc'] using (List.mem_filter.mp he).2

end

section
variable {s : State} {c : Nat}

/-- On a core without a walk an invalidation only removes entries. -/
theorem State.tlbiLocal_idle (hw : ∀ w ∈ s.xlat.walks, w.core ≠ c) (op va asid part : Nat) :
    s.tlbiLocal c op va asid part = s.onXlat (·.invalidated c op va asid part) := by
  have hnone : (s.xlat.walks.filter fun w => w.core = c && tlbiWalk op va asid part w) = [] :=
    List.filter_eq_nil_iff.mpr fun w h => by simp [hw w h]
  unfold State.tlbiLocal
  simp only [State.onXlat_xlat, hnone]
  rfl

end

/-! ## TLBs that only lose entries -/

/-- The L1 TLBs of t hold nothing that s does not, and every invalidation of t was listed in s or awaits a core. -/
abbrev State.TlbsShrink (s t : State) : Prop :=
  t.xlat.l1 ⊆ s.xlat.l1 ∧ ∀ x ∈ t.xlat.tlbis, x ∈ s.xlat.tlbis ∨ x.todo ≠ []

section
variable {s t u : State}

theorem State.TlbsShrink.l1 (h : s.TlbsShrink t) : t.xlat.l1 ⊆ s.xlat.l1 := h.1

theorem State.TlbsShrink.awaited (h : s.TlbsShrink t) : ∀ x ∈ t.xlat.tlbis, x ∈ s.xlat.tlbis ∨ x.todo ≠ [] := h.2

theorem State.TlbsShrink.of_eq (hl : t.xlat.l1 = s.xlat.l1) (ht : t.xlat.tlbis = s.xlat.tlbis) : s.TlbsShrink t :=
  ⟨hl ▸ fun _ h => h, fun _ h => .inl (ht ▸ h)⟩

theorem State.TlbsShrink.of_xlat (h : t.xlat = s.xlat) : s.TlbsShrink t := .of_eq (by rw [h]) (by rw [h])

theorem State.TlbsShrink.refl : s.TlbsShrink s := .of_xlat rfl

theorem State.TlbsShrink.trans (h : s.TlbsShrink t) (h' : t.TlbsShrink u) : s.TlbsShrink u :=
  ⟨fun _ he => h.l1 (h'.l1 he), fun x hx => (h'.awaited x hx).elim (h.awaited x) .inr⟩

theorem State.TlbsShrink.each {α : Type} {l : List α} {f : State → α → State} (hf : ∀ (t : State) a, t.TlbsShrink (f t a)) (s : State) :
    s.TlbsShrink (Machine.each l f s) := by
  unfold Machine.each
  induction l generalizing s with
  | nil => exact .refl
  | cons a r ih => exact (hf s a).trans (ih _)

variable (s)

theorem State.setWalk_shrinks (w : Walk) : s.TlbsShrink (s.setWalk w) := .of_eq rfl rfl

theorem State.walkFault_shrinks (w : Walk) (code : Nat) (cause : Option ECode) (entry : Word) :
    s.TlbsShrink (s.walkFault w code cause entry) := by
  have hdrop : s.TlbsShrink (s.dropWalk w) := .of_eq rfl rfl
  have hmark (t : State) (l : List Nat) : (Machine.each l (fun s k => s.setF (R.CMO_STAT k) F.CMO_STAT_XLATE_FAULT 1) t).xlat = t.xlat :=
    each_field t State.xlat fun _ _ => rfl
  refine hdrop.trans (.of_xlat ?_)
  unfold State.walkFault
  dsimp only
  have hfault (t : State) := t.xlatFault_xlat (c := w.core) w.acc.src w.acc.user w.va code w.level false w.desc entry
  have hreply (t : State) := t.coreReply_xlat w.core 0
  generalize s.dropWalk w = t
  cases cause with
  | none =>
    cases w.cmo with
    | none => simp only [apply_ite State.xlat, State.record_xlat, hfault, ite_self]
    | some m => simp only [apply_ite State.xlat, State.record_xlat, hfault, hreply, hmark, ite_self]
  | some e =>
    cases w.cmo with
    | none => simp only [apply_ite State.xlat, State.record_xlat, hfault, ite_self]
    | some m => simp only [apply_ite State.xlat, State.record_xlat, hfault, hreply, hmark, ite_self]

/-- The read of a descriptor fills no TLB. -/
theorem State.walkRead_shrinks (w : Walk) : s.TlbsShrink (s.walkRead w) := by
  unfold State.walkRead
  split
  · dsimp only
    split
    · exact s.setWalk_shrinks _
    split
    · exact .trans (.of_xlat (s.cleanL1s_xlat _ _)) (State.setWalk_shrinks ..)
    · split
      · exact (s.setWalk_shrinks _).trans (.of_xlat (State.sendDirect_xlat ..))
      · exact (s.setWalk_shrinks _).trans (.of_xlat (State.dcRequest_xlat ..))
  · exact s.walkFault_shrinks ..

theorem State.tlbiLocal_shrinks (c op va asid part : Nat) : s.TlbsShrink (s.tlbiLocal c op va asid part) := by
  have hremoved : s.TlbsShrink (s.onXlat (·.invalidated c op va asid part)) := ⟨fun _ he => List.mem_of_mem_filter he, fun _ => .inl⟩
  refine hremoved.trans (.each (fun t w => ?_) _)
  exact (t.setWalk_shrinks _).trans (State.walkRead_shrinks _ _)

theorem State.tlbiDeliver_xlat (k op va asid p pkg src : Nat) : (s.tlbiDeliver k op va asid p pkg src).xlat = s.xlat := by
  simp only [State.tlbiDeliver, State.twinInput, apply_ite State.xlat, State.onCores_xlat, State.send_xlat, ite_self]

theorem State.tlbiCount_xlat (c : Nat) : (s.tlbiCount c).xlat = s.xlat := each_field s State.xlat fun _ _ => rfl

theorem State.listTlbi_shrinks {e : Tlbi} (h : e.todo ≠ []) : s.TlbsShrink (s.onXlat fun x => { x with tlbis := x.tlbis ++ [e] }) :=
  ⟨fun _ he => he, fun x hx => (List.mem_append.mp hx).imp_right fun hx => by rwa [List.mem_singleton.mp hx]⟩

/-- An invalidation that is issued is listed with the cores that it awaits. -/
theorem State.tlbiSend_shrinks (c op va asid : Nat) (loc : Bool) : s.TlbsShrink (s.tlbiSend c op va asid loc) := by
  unfold State.tlbiSend
  extract_lets p t late todo u v
  have ht : s.TlbsShrink t := .each (fun t k => t.tlbiLocal_shrinks ..) s
  have hu : t.TlbsShrink u := .each (fun t e => .of_xlat (ite_xlat (t.tlbiDeliver_xlat ..) (t.send_xlat _))) t
  have hv : u.TlbsShrink v := .each (fun t e => .of_xlat (t.send_xlat _)) u
  refine (ht.trans hu).trans (hv.trans ?_)
  split
  · exact .refl
  next hne =>
    exact (v.listTlbi_shrinks hne).trans (.of_xlat (State.tlbiCount_xlat ..))

theorem State.tlbiRelease_shrinks (c : Nat) : s.TlbsShrink (s.tlbiRelease c) := by
  unfold State.tlbiRelease
  split
  · exact .refl
  next op va asid r _ =>
    have hpop : s.TlbsShrink (s.updCoreH c fun h => { h with tlbiStall := r }) := .of_xlat rfl
    dsimp only
    split
    · exact .refl
    · exact (hpop.trans (State.tlbiSend_shrinks ..)).trans (.of_xlat (State.coreReply_xlat ..))

/-- What goes on once invalidations have ended brings no entry back, and none that has ended stays listed. -/
theorem State.tlbiSettle_settles : s.tlbiSettle.xlat.l1 ⊆ s.xlat.l1 ∧ ∀ x ∈ s.tlbiSettle.xlat.tlbis, x.todo ≠ [] := by
  have hs : (s.onXlat fun x => { x with tlbis := x.tlbis.filter fun t => t.todo != [] }).TlbsShrink s.tlbiSettle := by
    unfold State.tlbiSettle
    exact .trans (.each (fun t k => .of_xlat (t.tlbiCount_xlat k)) _) (.each (fun t k => t.tlbiRelease_shrinks k) _)
  refine ⟨hs.l1, fun x hx => (hs.awaited x hx).elim (fun h => ?_) id⟩
  simpa using (List.mem_filter.mp h).2

end

/-! ## A local invalidation by its core (R166, R167) -/

/-- The fields of TLBI_ISSUE as the commands spell them; the reserved bits are 0. -/
theorem tlbiWord_fields {op va asid : Nat} (loc : Bool) (hop : op < 8) (hva : va < 2 ^ 40) (hasid : asid < 2 ^ 16) :
    let v := tlbiWord op va asid loc
    F.TLBI_ISSUE_OP.get v = op ∧ F.TLBI_ISSUE_LOCAL.get v = loc.toNat ∧ F.TLBI_ISSUE_ASID.get v = asid ∧ F.TLBI_ISSUE_VA.get v = va ∧
      bits v 60 4 = 0 := by
  have hloc : loc.toNat < 2 := Bool.toNat_lt loc
  simp only [Fld.get, bits, tlbiWord, BitVec.toNat_ofNat, Nat.shiftRight_eq_div_pow]
  omega

section
variable {s : State} {c : Nat}

theorem State.sharers_one (h : s.isTwin (s.corePart c) = false) : s.sharers c = [c] := by simp [State.sharers, State.paired, h]

theorem State.issuers_one (h : s.isTwin (s.corePart c) = false) : s.issuers c = [c] :=
  State.cmoCores_one (by simp [State.paired, h])

/-- The core of an admitted write has no invalidation stalled. -/
theorem State.tlbiStall_of_admitted {w : Who} {off : Nat} {wr : Bool} (ha : s.Admitted w off wr) (hown : s.ownBlk w c = some c)
    (ht : s.isTwin (s.corePart c) = false) : (s.coreH c).tlbiStall = [] := by
  have hcore : s.whoCore w = some c := by
    unfold State.ownBlk at hown
    split at hown
    next k hk =>
      rw [hk]
      split at hown
      · exact hown
      · cases hown
    · cases hown
  have hfree := (ha.1.1.2 c hcore).1
  rw [State.coreBlocked, State.sharers_one ht] at hfree
  simp only [List.any_cons, List.any_nil, Bool.or_false, Bool.or_eq_false_iff] at hfree
  simpa using hfree.1.1.1.1.2

/-- With no access of the core outstanding, its local invalidation awaits nobody. -/
theorem State.tlbiSend_local {op va asid : Nat} (ht : s.isTwin (s.corePart c) = false) (hw : ∀ k ∈ s.xlat.walks, k.core ≠ c)
    (hb : s.tlbiBusy c op va = false) : s.tlbiSend c op va asid true = s.onXlat (·.invalidated c op va asid (s.corePart c)) := by
  have hbusy : (s.onXlat (·.invalidated c op va asid (s.corePart c))).tlbiBusy c op va = false := hb
  have hone : (s.onXlat (·.invalidated c op va asid (s.corePart c))).issuers c = [c] := State.issuers_one ht
  have hissuers := State.issuers_one ht
  have hlocal := State.tlbiLocal_idle hw op va asid (s.corePart c)
  simp [State.tlbiSend, hissuers, each, hlocal, hone, hbusy]

/-- A local invalidation of a core on which nothing waits removes its entries, and changes nothing else of the translation state. -/
theorem State.tlbiWrite_local {w : Who} {op va asid : Nat} (hop : op < 5) (hop0 : op ≠ 0) (hva : va < 2 ^ 40) (hasid : asid < 2 ^ 16)
    (ha : s.Admitted w (R.TLBI_ISSUE c) true) (hown : s.ownBlk w c = some c) (ht : s.isTwin (s.corePart c) = false)
    (hw : ∀ k ∈ s.xlat.walks, k.core ≠ c) (hst : s.storesOut c = false) (hb : s.tlbiBusy c op (va * 4096) = false) :
    (s.tlbiWrite w c (tlbiWord op va asid true)).xlat = s.xlat.invalidated c op (va * 4096) asid (s.corePart c) := by
  obtain ⟨hfop, hfloc, hfasid, hfva, hbits⟩ := tlbiWord_fields (op := op) true (by omega) hva hasid
  have hop5 : ¬ 5 ≤ op := by omega
  have hstall := State.tlbiStall_of_admitted ha hown ht
  have hissue : s.tlbiIssue c op (va * 4096) asid true = (s.tlbiSend c op (va * 4096) asid true).coreReply c 0 := by
    simp [State.tlbiIssue, State.tlbiHold, hst, hstall]
  have hwrite : s.tlbiWrite w c (tlbiWord op va asid true) = s.tlbiIssue c op (va * 4096) asid true := by
    rw [State.tlbiWrite, State.xlatGuard_own _ ha hown]
    simp [hfop, hfloc, hfasid, hfva, hbits, hop0, hop5]
  rw [hwrite, hissue, State.coreReply_xlat, State.tlbiSend_local ht hw hb, State.onXlat_xlat]

end

/-! ## An invalidation that a core applies (R168) -/

section
variable {s : State} {c op va asid p src : Nat}

/-- An acknowledgement brings no entry back, and leaves no invalidation listed that every core has applied. -/
theorem State.tlbiAck_settles (pkg : Nat) : (s.tlbiAck src op va asid pkg c).xlat.l1 ⊆ s.xlat.l1 ∧
    ∀ x ∈ (s.tlbiAck src op va asid pkg c).xlat.tlbis, x.todo ≠ [] :=
  State.tlbiSettle_settles (s.onXlat fun x => { x with tlbis := tlbiMark src op va asid (pkg, c) x.tlbis })

theorem State.tlbiDo_own (hw : ∀ w ∈ s.xlat.walks, w.core ≠ c) :
    s.tlbiDo c op va asid p s.pkg src = (s.onXlat (·.invalidated c op va asid p)).tlbiAck src op va asid s.pkg c := by
  rw [State.tlbiDo, State.tlbiLocal_idle hw]
  exact if_pos rfl

/-- What this package sends always reaches it. -/
theorem State.fromPkg_own (act : State → State) : s.fromPkg s.pkg act = act s := if_neg (by simp)

/-- A core of a partition that is not in twin mode, with no access outstanding, applies a broadcast of its own package at once. -/
theorem State.tlbiApply_own (hm : .tlbi s.pkg c op va asid p ∈ s.sent) (hl : s.alive c = true) (hp : s.corePart c = p)
    (ht : s.isTwin p = false) (hw : ∀ w ∈ s.xlat.walks, w.core ≠ c) (hb : s.tlbiBusy c op va = false) :
    s.tlbiApplyOp s.pkg c s.pkg src op va asid p =
      (((s.onXlat (·.invalidated c op va asid p)).take (.tlbi s.pkg c op va asid p)).onXlat (·.invalidated c op va asid p)).tlbiAck
        src op va asid s.pkg c := by
  have hbusy : (s.onXlat (·.invalidated c op va asid p)).tlbiBusy c op va = false := hb
  have hlocal := State.tlbiLocal_idle hw op va asid p
  have happly : s.tlbiApplyOp s.pkg c s.pkg src op va asid p =
      ((s.onXlat (·.invalidated c op va asid p)).take (.tlbi s.pkg c op va asid p)).tlbiDo c op va asid p s.pkg src := by
    simp [State.tlbiApplyOp, hm, hl, hp, State.paired, ht, hlocal, hbusy]
  rw [happly]
  exact State.tlbiDo_own hw

end

/-! ## Syncs (R169) -/

section
variable {s : State} {c : Nat}

theorem State.coreReply_coreH (code : Nat) (v : Line) (k : Nat) : (s.coreReply c code v).coreH k = s.coreH k := by
  simp [State.coreH]

theorem State.tlbiSyncOp_own {w : Who} (ha : s.Admitted w (R.TLBI_SYNC c) true) (hown : s.ownBlk w c = some c) :
    s.tlbiSyncOp w c 1 =
      if s.tlbiQuiet c then s.whoReply w 0 else (s.updCoreH c fun h => { h with syncWait := true }).whoReply w 3 := by
  rw [State.tlbiSyncOp, State.xlatGuard_own _ ha hown]
  simp

theorem State.tlbiSyncEnd_quiet (hwait : (s.coreH c).syncWait = true) (hq : s.tlbiQuiet c = true) :
    s.tlbiSyncEnd c = (s.updCoreH c fun h => { h with syncWait := false }).coreReply c 0 := if_pos (by simp [hwait, hq])

end

end Sys2Proof.Machine

open Sys2Proof Sys2Proof.Machine

/-- Settles O16: a local invalidation filters the core's TLBs by what the operation hits. An applied one does so too, and what may go on
then, stalled invalidations of other cores, removes entries only and lists none that awaits nobody. -/
theorem tlbInvalidations : Obligations.TlbInvalidations := by
  refine ⟨fun s who c va asid ha hown ht hw hst hb => ?_, fun s who c va ha hown ht hw hst hb => ?_,
    fun s who c asid ha hown ht hw hst hb => ?_, fun s who c ha hown ht hw hst hb => ?_,
    fun s c src asid p hpkg hm hl hp ht hw hb => ?_, fun s who c ha hown => ?_, fun s c hwait hnone hstall hone => ?_⟩
  · have hx := State.tlbiWrite_local (op := 1) (by decide) (by decide) va.isLt asid.isLt ha hown ht hw hst hb
    refine ⟨_, rfl, (congrArg XlatSt.tlbis hx).trans rfl, fun e he hc hv hpart hcov => ?_⟩
    have hspared := XlatSt.spared_l1 (hx ▸ he) hc
    simpa [tlbiHits, hv, hpart, hcov] using hspared
  · have hx := State.tlbiWrite_local (op := 2) (asid := 0) (by decide) (by decide) va.isLt (by decide) ha hown ht hw hst hb
    refine ⟨_, rfl, (congrArg XlatSt.tlbis hx).trans rfl, fun e he hc hv hpart => ?_⟩
    have hspared := XlatSt.spared_l1 (hx ▸ he) hc
    simpa [tlbiHits, hv, hpart] using hspared
  · have hx := State.tlbiWrite_local (op := 3) (va := 0) (by decide) (by decide) (by decide) asid.isLt ha hown ht hw hst hb
    refine ⟨_, rfl, (congrArg XlatSt.tlbis hx).trans rfl, fun e he hc hv hpart hasid => ?_⟩
    have hspared := XlatSt.spared_l1 (hx ▸ he) hc
    simpa [tlbiHits, hv, hpart, hasid] using hspared
  · have hx := State.tlbiWrite_local (op := 4) (va := 0) (asid := 0) (by decide) (by decide) (by decide) (by decide) ha hown ht hw hst hb
    refine ⟨_, rfl, (congrArg XlatSt.tlbis hx).trans rfl, fun e he hc hv => ?_, fun e he hc hv => ?_⟩
    · have hspared := XlatSt.spared_l1 (hx ▸ he) hc
      simpa [tlbiHits, hv] using hspared
    · have hspared := XlatSt.spared_l2 (hx ▸ he) hc
      simpa [tlbiHits, hv] using hspared
  · have hfin : (Fin.ofNat 8 s.pkg).val = s.pkg := Nat.mod_eq_of_lt hpkg
    have hheard : s.fromPkg (Fin.ofNat 8 s.pkg).val
        (fun t => t.tlbiApplyOp (Fin.ofNat 8 s.pkg).val c (Fin.ofNat 8 s.pkg).val src 4 0 asid.toNat p) =
          s.tlbiApplyOp s.pkg c s.pkg src 4 0 asid.toNat p := by rw [hfin, State.fromPkg_own]
    refine ⟨_, congrArg Host.Outcome.next (hheard.trans (State.tlbiApply_own hm hl hp ht hw hb)), fun e he hc hv => ?_,
      (State.tlbiAck_settles _).2⟩
    have hspared := XlatSt.spared_l1 ((State.tlbiAck_settles _).1 he) hc
    simpa [tlbiHits, hv] using hspared
  · refine ⟨_, congrArg Host.Outcome.next (State.tlbiSyncOp_own ha hown), ?_⟩
    cases hq : s.tlbiQuiet c with
    | true => simp [State.whoReply_regs]
    | false => exact ⟨State.whoReply_regs .., State.whoReply_xlat .., by simp⟩
  · have hq : s.tlbiQuiet c = true := by simp [State.tlbiQuiet, hnone, hstall]
    refine ⟨_, congrArg Host.Outcome.next (State.tlbiSyncEnd_quiet hwait hq), ?_, ?_⟩
    · rw [State.coreReply_coreH, State.coreH_updCoreH]
    · exact congrArg State.sent (State.coreReply_one (s.updCoreH c _) hone (core_ne_debugPort c))

end

section
/-! SUPPORT. The DRAM location of a channel-local line (R240). -/

namespace Sys2Proof.Machine

section
variable {s : State} {c l k : Nat}

theorem State.rowsOf_pos (s : State) (c : Nat) : 0 < s.rowsOf c := Nat.mul_pos (Nat.succ_pos _) (Nat.two_pow_pos _)

theorem State.diesOf_pos (s : State) (c : Nat) : 0 < s.diesOf c := Nat.two_pow_pos _

/-- Whichever order a group has, each field of a location lies in its range. -/
theorem State.dramLoc_ranges (s : State) (c l : Nat) : (s.dramLoc c l).col < 2 ^ 7 ∧ (s.dramLoc c l).bankGroup < 8 ∧ (s.dramLoc c l).bank < 4 ∧
    (s.dramLoc c l).row < s.rowsOf c ∧ (s.dramLoc c l).die < s.diesOf c := by
  have hrow := fun n => Nat.mod_lt n (s.rowsOf_pos c)
  have hdie := fun n => Nat.mod_lt n (s.diesOf_pos c)
  have hmod := fun {n : Nat} (hn : 0 < n) m => Nat.mod_lt m hn
  unfold State.dramLoc
  dsimp only
  split
  · exact ⟨hmod (by decide) _, hmod (by decide) _, hmod (by decide) _, hrow _, hdie _⟩
  · exact ⟨hmod (by decide) _, hmod (by decide) _, hmod (by decide) _, hrow _, hdie _⟩

theorem State.dramLoc_subch (s : State) (c l : Nat) : (s.dramLoc c l).subch = l % 2 := by
  unfold State.dramLoc; dsimp only; split <;> rfl

theorem State.dramLoc_rank (s : State) (c l : Nat) : (s.dramLoc c l).rank = s.rankOf c l := by
  unfold State.dramLoc; dsimp only; split <;> rfl

/-- A number below a product of two moduli is its two digits. -/
theorem eq_of_digits {a b m n : Nat} (ha : a < m * n) (hb : b < m * n) (hlow : a % m = b % m) (hhigh : a / m % n = b / m % n) : a = b := by
  rw [Nat.mod_eq_of_lt (Nat.div_lt_of_lt_mul ha), Nat.mod_eq_of_lt (Nat.div_lt_of_lt_mul hb)] at hhigh
  exact Nat.ext_div_modEq hhigh hlow

/-- The device fields of two lines of a rank, below its capacity, tell their bursts apart: bank group and bank lie below row and die, or above
them. -/
theorem burst_eq_of_fields {a b rows dies : Nat} (ha : a < 32 * (rows * dies)) (hb : b < 32 * (rows * dies))
    (h : (a % rows = b % rows ∧ a / rows % dies = b / rows % dies ∧ a / rows / dies % 8 = b / rows / dies % 8 ∧
        a / rows / dies / 8 % 4 = b / rows / dies / 8 % 4) ∨
      (a % 8 = b % 8 ∧ a / 8 % 4 = b / 8 % 4 ∧ a / 32 % rows = b / 32 % rows ∧ a / 32 / rows % dies = b / 32 / rows % dies)) : a = b := by
  rcases h with ⟨hrow, hdie, hgroup, hbank⟩ | ⟨hgroup, hbank, hrow, hdie⟩
  · have hbanks {n : Nat} (hn : n < 32 * (rows * dies)) : n / rows / dies < 8 * 4 := by
      rw [Nat.div_div_eq_div_mul]
      exact Nat.div_lt_of_lt_mul (by rwa [Nat.mul_comm])
    have htop : a / rows / dies = b / rows / dies := eq_of_digits (hbanks ha) (hbanks hb) hgroup hbank
    exact Nat.ext_div_modEq (Nat.ext_div_modEq htop hdie) hrow
  · have htop : a / 32 = b / 32 := eq_of_digits (Nat.div_lt_of_lt_mul ha) (Nat.div_lt_of_lt_mul hb) hrow hdie
    omega

/-- The burst of a line within its rank. -/
def State.burstOf (s : State) (c l : Nat) : Nat := l % s.rankLines c / 2 / 2 ^ 7

theorem State.burstOf_lt (hcap : s.rankLines c = 2 ^ 13 * (s.rowsOf c * s.diesOf c)) (l : Nat) :
    s.burstOf c l < 32 * (s.rowsOf c * s.diesOf c) := by
  have hpos : 0 < s.rowsOf c * s.diesOf c := Nat.mul_pos (s.rowsOf_pos c) (s.diesOf_pos c)
  have hlt : l % s.rankLines c < s.rankLines c := Nat.mod_lt _ (by omega)
  unfold State.burstOf
  omega

theorem State.burstOf_eq_of_dramLoc (hcap : s.rankLines c = 2 ^ 13 * (s.rowsOf c * s.diesOf c)) (h : s.dramLoc c l = s.dramLoc c k) :
    s.burstOf c l = s.burstOf c k ∧ l % s.rankLines c / 2 % 2 ^ 7 = k % s.rankLines c / 2 % 2 ^ 7 := by
  unfold State.dramLoc at h
  dsimp only at h
  by_cases hord : s.groupOrder (c / 4) = 2
  · rw [if_pos hord, if_pos hord] at h
    obtain ⟨-, hcol, hgroup, hbank, hrow, hdie, -⟩ := DramLoc.mk.inj h
    exact ⟨burst_eq_of_fields (State.burstOf_lt hcap l) (State.burstOf_lt hcap k) (.inl ⟨hrow, hdie, hgroup, hbank⟩), hcol⟩
  · rw [if_neg hord, if_neg hord] at h
    obtain ⟨-, hcol, hgroup, hbank, hrow, hdie, -⟩ := DramLoc.mk.inj h
    exact ⟨burst_eq_of_fields (State.burstOf_lt hcap l) (State.burstOf_lt hcap k) (.inr ⟨hgroup, hbank, hrow, hdie⟩), hcol⟩

/-- Where the channel's capacity is that of the geometry, a location names one line. -/
theorem State.dramLoc_inj (hcap : s.rankLines c = 2 ^ 13 * (s.rowsOf c * s.diesOf c)) (h : s.dramLoc c l = s.dramLoc c k) : l = k := by
  have hpos : 0 < s.rowsOf c * s.diesOf c := Nat.mul_pos (s.rowsOf_pos c) (s.diesOf_pos c)
  have hne : s.rankLines c ≠ 0 := by omega
  obtain ⟨hburst, hcol⟩ := State.burstOf_eq_of_dramLoc hcap h
  have hsub : l % 2 = k % 2 := by rw [← State.dramLoc_subch, ← State.dramLoc_subch, h]
  have hrank : l / s.rankLines c = k / s.rankLines c := by
    have hr := congrArg DramLoc.rank h
    rwa [State.dramLoc_rank, State.dramLoc_rank, State.rankOf, State.rankOf, if_neg hne, if_neg hne] at hr
  have hpair : l % s.rankLines c / 2 = k % s.rankLines c / 2 := Nat.ext_div_modEq hburst hcol
  have heven (n : Nat) : n % s.rankLines c % 2 = n % 2 := Nat.mod_mod_of_dvd _ (by omega)
  have hline : l % s.rankLines c = k % s.rankLines c := by
    have hl := heven l
    have hk := heven k
    omega
  exact Nat.ext_div_modEq hrank hline

end
end Sys2Proof.Machine

open Sys2Proof Sys2Proof.Machine

/-- Settles O60: each field is a remainder of its range, and together the fields are the digits of the line's number within its rank. -/
theorem dramLocations : Obligations.DramLocations := by
  refine ⟨fun s c l => ?_, fun s c l k hcap h => State.dramLoc_inj hcap h⟩
  refine ⟨s.dramLoc_subch c l, fun hne => ?_, s.dramLoc_ranges c l⟩
  rw [State.dramLoc_rank, State.rankOf, if_neg hne]

end

section
/-! SUPPORT. Stored lines of DRAM (R243, R265): what a line reads after a line is written, and what an access to DRAM leaves as it was. -/

namespace Sys2Proof.Machine

/-! ## Bytes of a stored line -/

theorem ofBytes_digits (n x : Nat) : ofBytes ((List.range n).map fun b => (x >>> (8 * b)) % 256) = x % 256 ^ n := by
  induction n generalizing x with
  | zero => simp [ofBytes, Nat.mod_one]
  | succ n ih =>
    have hnext : ((fun b => (x >>> (8 * b)) % 256) ∘ Nat.succ) = fun b => ((x / 256) >>> (8 * b)) % 256 := by
      funext b
      simp only [Function.comp, Nat.shiftRight_eq_div_pow, Nat.div_div_eq_div_mul, Nat.succ_eq_add_one, Nat.mul_add, Nat.pow_add]
      rw [Nat.mul_comm]
    have hcons (y : Nat) (l : List Nat) : ofBytes (y :: l) = y % 256 + 256 * ofBytes l := rfl
    rw [List.range_succ_eq_map, List.map_cons, List.map_map, hnext, hcons, ih, Nat.pow_succ', Nat.mod_mul]
    simp

theorem ofBytes_bytes {n : Nat} (x : BitVec (8 * n)) : ofBytes ((List.range n).map fun b => (x.toNat >>> (8 * b)) % 256) = x.toNat := by
  have hx : x.toNat < 256 ^ n := x.isLt.trans_eq (Nat.pow_mul 2 8 n)
  rw [ofBytes_digits, Nat.mod_eq_of_lt hx]

theorem ofBytes_storedBytes (x : Stored) : BitVec.ofNat 640 (ofBytes ((List.range 80).map (storedByte x))) = x := by
  have h : ofBytes ((List.range 80).map (storedByte x)) = x.toNat := ofBytes_bytes (n := 80) x
  rw [h, BitVec.ofNat_toNat, BitVec.setWidth_eq]

/-! ## Cells -/

theorem cellKey_inj {c l b c' l' b' : Nat} (hb : b < 80) (hb' : b' < 80) (h : cellKey c l b = cellKey c' l' b') :
    c = c' ∧ l % 2 ^ 34 = l' % 2 ^ 34 ∧ b = b' := by
  unfold cellKey at h
  omega

section
variable (m : Mem) {c l c' l' : Nat} (x : Stored)

theorem Mem.byte_setLine_same {b : Nat} (hb : b < 80) : Mem.byte (m.setLine c l x) (cellKey c l b) = BitVec.ofNat 8 (storedByte x b) := by
  have hwritten : ∀ (bs : List Nat) (m : Mem), (∀ d ∈ bs, d < 80) →
      Mem.byte (bs.foldl (fun m d => m.setByte (cellKey c l d) (BitVec.ofNat 8 (storedByte x d))) m) (cellKey c l b) =
        if b ∈ bs then BitVec.ofNat 8 (storedByte x b) else m.byte (cellKey c l b) := by
    intro bs
    induction bs with
    | nil => intro m _; rfl
    | cons d bs ih =>
      intro m hbs
      rw [List.foldl_cons, ih _ fun e he => hbs e (List.mem_cons_of_mem _ he), Mem.byte_setByte]
      by_cases hd : b = d
      · simp [hd]
      · have hkey : cellKey c l b ≠ cellKey c l d := fun h => hd (cellKey_inj hb (hbs d (List.mem_cons_self ..)) h).2.2
        simp [hd, hkey]
  rw [Mem.setLine, hwritten _ m fun d hd => List.mem_range.mp hd, if_pos (List.mem_range.mpr hb)]

theorem Mem.byte_setLine_ne {k : Nat} (h : ∀ b < 80, k ≠ cellKey c l b) : Mem.byte (m.setLine c l x) k = m.byte k := by
  have hbs : ∀ d ∈ List.range 80, k ≠ cellKey c l d := fun d hd => h d (List.mem_range.mp hd)
  unfold Mem.setLine
  generalize List.range 80 = bs at hbs
  induction bs generalizing m with
  | nil => rfl
  | cons d bs ih =>
    rw [List.foldl_cons, ih _ fun e he => hbs e (List.mem_cons_of_mem _ he), Mem.byte_setByte, if_neg (hbs d (List.mem_cons_self ..))]

theorem Mem.line_congr {m m' : Mem} (h : ∀ b < 80, m.byte (cellKey c l b) = m'.byte (cellKey c' l' b)) : m.line c l = m'.line c' l' := by
  unfold Mem.line
  congr 2
  exact List.map_congr_left fun b hb => by rw [h b (List.mem_range.mp hb)]

theorem Mem.line_setLine_same : Mem.line (m.setLine c l x) c l = x := by
  have hbytes : ((List.range 80).map fun b => (Mem.byte (m.setLine c l x) (cellKey c l b)).toNat) = (List.range 80).map (storedByte x) := by
    refine List.map_congr_left fun b hb => ?_
    rw [Mem.byte_setLine_same m x (List.mem_range.mp hb), BitVec.toNat_ofNat]
    exact Nat.mod_eq_of_lt (Nat.mod_lt _ (by decide))
  rw [Mem.line, hbytes, ofBytes_storedBytes]

theorem Mem.line_setLine_ne (h : c' ≠ c ∨ l' % 2 ^ 34 ≠ l % 2 ^ 34) : Mem.line (m.setLine c l x) c' l' = m.line c' l' := by
  refine Mem.line_congr fun b hb => Mem.byte_setLine_ne m x fun d hd hkey => ?_
  obtain ⟨hc, hl, -⟩ := cellKey_inj hb hd hkey
  rcases h with h | h
  · exact h hc
  · exact h hl

end

/-! ## What an access to DRAM leaves as it was -/

/-- The places, within a channel's block or a home's, of the registers that accesses, the scrubber and the training helpers work in: MC_PD_STAT,
MC_SCRUB_POS, MC_ERR_CNT, MC_UE_LAST, MC_UE_SYN, MC_PC_STAT, POISON_STAT, TRN_CTL, TRN_STAT. -/
def upkeepRegs : List Nat := [0x28, 0x40, 0x48, 0x58, 0x60, 0x90, 0x208, 0x1000, 0x1010]

/-- The offset is not that of a register of upkeepRegs, whatever the channel. -/
def notUpkeep (k : Nat) : Prop := k % 0x40000 ∉ upkeepRegs

/-- t is s after accesses to DRAM: they change what is stored, the parity cache, device counts, the registers of upkeepRegs, and write records. -/
abbrev State.Accessed (s t : State) : Prop :=
  (∀ k, notUpkeep k → t.reg k = s.reg k) ∧
  (∃ mem lost cnt pc tree, t.dram = { s.dram with mem := mem, lost := lost, devCnt := cnt, pcache := pc, pcTree := tree }) ∧
  t.home = s.home ∧ t.sec = s.sec ∧ t.boot = s.boot ∧ t.beat = s.beat ∧ ∃ logs, t.err = { s.err with logs := logs }

section
variable {s t u : State}

section
variable (h : s.Accessed t)
include h

theorem State.Accessed.reg (k : Nat) (hk : notUpkeep k) : t.reg k = s.reg k := h.left k hk

theorem State.Accessed.dram : ∃ mem lost cnt pc tree,
    t.dram = { s.dram with mem := mem, lost := lost, devCnt := cnt, pcache := pc, pcTree := tree } := h.right.left

theorem State.Accessed.home : t.home = s.home := by
  obtain ⟨-, -, hhome, -⟩ := h
  exact hhome

theorem State.Accessed.sec : t.sec = s.sec := by
  obtain ⟨-, -, -, hsec, -⟩ := h
  exact hsec

theorem State.Accessed.boot : t.boot = s.boot := by
  obtain ⟨-, -, -, -, hboot, -⟩ := h
  exact hboot

theorem State.Accessed.beat : t.beat = s.beat := by
  obtain ⟨-, -, -, -, -, hbeat, -⟩ := h
  exact hbeat

theorem State.Accessed.err : ∃ logs, t.err = { s.err with logs := logs } := by
  obtain ⟨-, -, -, -, -, -, herr⟩ := h
  exact herr

end

theorem State.Accessed.refl : s.Accessed s := ⟨fun _ _ => rfl, ⟨_, _, _, _, _, rfl⟩, rfl, rfl, rfl, rfl, ⟨_, rfl⟩⟩

theorem State.Accessed.trans (h : s.Accessed t) (h' : t.Accessed u) : s.Accessed u := by
  obtain ⟨_, _, _, _, _, hd⟩ := h.dram
  obtain ⟨_, _, _, _, _, hd'⟩ := h'.dram
  obtain ⟨_, he⟩ := h.err
  obtain ⟨_, he'⟩ := h'.err
  exact ⟨fun k hk => (h'.reg k hk).trans (h.reg k hk), ⟨_, _, _, _, _, by rw [hd', hd]⟩, h'.home.trans h.home, h'.sec.trans h.sec,
    h'.boot.trans h.boot, h'.beat.trans h.beat, ⟨_, by rw [he', he]⟩⟩

theorem State.Accessed.of_ite {p : Prop} [Decidable p] (h : s.Accessed t) (h' : s.Accessed u) : s.Accessed (if p then t else u) := by
  split
  · exact h
  · exact h'

theorem State.Accessed.of_fst {β : Type} {p : State × β} {x : β} (h : p = (t, x)) (hp : s.Accessed p.1) : s.Accessed t := by
  rwa [h] at hp

theorem State.Accessed.of_foldl {α β : Type} {f : State × β → α → State × β} (hf : ∀ (a : State × β) e, a.1.Accessed (f a e).1) (l : List α)
    (a : State × β) : a.1.Accessed (l.foldl f a).1 := by
  induction l generalizing a with
  | nil => exact .refl
  | cons e l ih => exact (hf a e).trans (ih (f a e))

theorem State.Accessed.of_each {α : Type} {f : State → α → State} (hf : ∀ (t : State) a, t.Accessed (f t a)) (l : List α) (s : State) :
    s.Accessed (Machine.each l f s) := by
  unfold Machine.each
  induction l generalizing s with
  | nil => exact .refl
  | cons a l ih => exact (hf s a).trans (ih (f s a))

theorem State.accessed_setReg {off : Nat} (hoff : off % 0x40000 ∈ upkeepRegs) (w : Word) : s.Accessed (s.setReg off w) :=
  ⟨fun _ hk => State.reg_setReg_ne s w fun h => hk (h ▸ hoff), ⟨_, _, _, _, _, rfl⟩, rfl, rfl, rfl, rfl, ⟨_, rfl⟩⟩

theorem State.accessed_setF {off : Nat} (hoff : off % 0x40000 ∈ upkeepRegs) (fl : Fld) (v : Nat) : s.Accessed (s.setF off fl v) :=
  State.accessed_setReg hoff _

theorem State.accessed_incF {off : Nat} (hoff : off % 0x40000 ∈ upkeepRegs) (fl : Fld) (n : Nat) : s.Accessed (s.incF off fl n) :=
  State.accessed_setReg hoff _

theorem State.SameButLogs.accessed (h : s.SameButLogs t) : s.Accessed t := by
  obtain ⟨_, _, rfl⟩ := h
  exact ⟨fun _ _ => rfl, ⟨_, _, _, _, _, rfl⟩, rfl, rfl, rfl, rfl, ⟨_, rfl⟩⟩

theorem State.accessed_record (e : ECode) (kind unit : Nat) (parts : List Nat) (addr : Option Nat) (detail : Nat) :
    s.Accessed (s.record e kind unit parts addr detail) := State.record_same.accessed

/-! The registers of upkeepRegs. -/

theorem MC_PD_STAT_upkeep (c : Nat) : R.MC_PD_STAT c % 0x40000 ∈ upkeepRegs := by simp only [R.MC_PD_STAT, upkeepRegs, List.mem_cons]; omega
theorem MC_ERR_CNT_upkeep (c : Nat) : R.MC_ERR_CNT c % 0x40000 ∈ upkeepRegs := by simp only [R.MC_ERR_CNT, upkeepRegs, List.mem_cons]; omega
theorem MC_UE_LAST_upkeep (c : Nat) : R.MC_UE_LAST c % 0x40000 ∈ upkeepRegs := by simp only [R.MC_UE_LAST, upkeepRegs, List.mem_cons]; omega
theorem MC_UE_SYN_upkeep (c : Nat) : R.MC_UE_SYN c % 0x40000 ∈ upkeepRegs := by simp only [R.MC_UE_SYN, upkeepRegs, List.mem_cons]; omega
theorem MC_SCRUB_POS_upkeep (c : Nat) : R.MC_SCRUB_POS c % 0x40000 ∈ upkeepRegs := by simp only [R.MC_SCRUB_POS, upkeepRegs, List.mem_cons]; omega
theorem TRN_CTL_upkeep (c : Nat) : R.TRN_CTL c % 0x40000 ∈ upkeepRegs := by simp only [R.TRN_CTL, upkeepRegs, List.mem_cons]; omega
theorem TRN_STAT_upkeep (c : Nat) : R.TRN_STAT c % 0x40000 ∈ upkeepRegs := by simp only [R.TRN_STAT, upkeepRegs, List.mem_cons]; omega
theorem MC_PC_STAT_upkeep (c : Nat) : R.MC_PC_STAT c % 0x40000 ∈ upkeepRegs := by simp only [R.MC_PC_STAT, upkeepRegs, List.mem_cons]; omega
theorem POISON_STAT_upkeep (h : Nat) : R.POISON_STAT h % 0x40000 ∈ upkeepRegs := by simp only [R.POISON_STAT, upkeepRegs, List.mem_cons]; omega

/-! One lemma for each operation. -/

theorem State.accessed_wakeRank (c rank : Nat) : s.Accessed (s.wakeRank c rank) := by
  unfold State.wakeRank
  exact .of_ite (State.accessed_setF (MC_PD_STAT_upkeep c) _ _) .refl

/-- An update of what is stored, of the parity cache and of the device counts alone. -/
theorem State.accessed_onDram {f : DramSt → DramSt}
    (h : ∃ mem lost cnt pc tree, f s.dram = { s.dram with mem := mem, lost := lost, devCnt := cnt, pcache := pc, pcTree := tree }) :
    s.Accessed (s.onDram f) := ⟨fun _ _ => rfl, h, rfl, rfl, rfl, rfl, ⟨_, rfl⟩⟩

theorem State.accessed_setStored (c l : Nat) (x : Stored) : s.Accessed (s.setStored c l x) := by
  unfold State.setStored
  exact .of_ite .refl ((State.accessed_wakeRank c _).trans (State.accessed_onDram ⟨_, _, _, _, _, rfl⟩))

theorem State.accessed_countDev (c l dev : Nat) : s.Accessed (s.countDev c l dev) := by
  unfold State.countDev
  exact (State.accessed_incF (MC_ERR_CNT_upkeep c) _ _).trans (State.accessed_onDram ⟨_, _, _, _, _, rfl⟩)

theorem State.accessed_readLine (c l : Nat) : s.Accessed (s.readLine c l).1 := by
  unfold State.readLine
  dsimp only
  split
  · exact .refl
  · have hw := State.accessed_wakeRank (s := s) c (s.rankOf c l)
    split
    · exact hw.trans ((State.accessed_setStored ..).trans (State.accessed_countDev ..))
    · exact hw
    · exact hw

theorem State.accessed_pcFlush (key : Nat) : s.Accessed (s.pcFlush key) := by
  unfold State.pcFlush
  exact .of_ite ((State.accessed_setStored ..).trans (State.accessed_onDram ⟨_, _, _, _, _, rfl⟩)) .refl

theorem State.accessed_pcTouch (h set way : Nat) : s.Accessed (s.pcTouch h set way) := State.accessed_onDram ⟨_, _, _, _, _, rfl⟩

theorem State.accessed_pcInsert (c l : Nat) (x : Stored) (dirty : Bool) : s.Accessed (s.pcInsert c l x dirty) := by
  unfold State.pcInsert
  extract_lets h set w s' p
  have hs' : s.Accessed s' := .of_ite .refl (State.accessed_pcFlush _)
  exact hs'.trans ((State.accessed_onDram ⟨_, _, _, _, _, rfl⟩).trans (State.accessed_pcTouch ..))

theorem State.accessed_pcPut (c l : Nat) (x : Stored) (dirty : Bool) : s.Accessed (s.pcPut c l x dirty) := by
  unfold State.pcPut
  exact .of_ite (.of_ite (State.accessed_setStored ..) .refl) (State.accessed_pcInsert ..)

theorem State.accessed_readParity (c l : Nat) : s.Accessed (s.readParity c l).1 := by
  fun_cases State.readParity s c l with
  | case1 w hway t => exact (State.accessed_incF (MC_PC_STAT_upkeep c) _ _).trans (State.accessed_pcTouch ..)
  | case2 hway t u x hread =>
    have hmiss : s.Accessed t := State.accessed_incF (MC_PC_STAT_upkeep c) _ _
    exact (hmiss.trans (.of_fst hread (State.accessed_readLine ..))).trans (State.accessed_pcPut ..)
  | case3 hway t hread => exact (State.accessed_incF (MC_PC_STAT_upkeep c) _ _).trans (State.accessed_readLine ..)

/-- One line of a page read: readPage's step over the data lines. -/
def State.readData (a : State × List (LineRes × Stored)) (e : Nat × Nat) : State × List (LineRes × Stored) :=
  match a.1.readLine e.1 e.2 with
  | (s, r, x) => (s, a.2 ++ [(r, x)])

/-- One row of a page read: readPage's step over the rows. -/
def State.readRow (want : Option (Nat × Nat)) (a : State × List (LineRes × Stored)) (e : Nat × Nat) : State × List (LineRes × Stored) :=
  match a.1.readParity e.1 e.2 with
  | (s, r, x) => (s, a.2 ++ [(if want = some e then .failed else r, x)])

theorem State.readPage_eq (off n : Nat) (want : Option (Nat × Nat)) : s.readPage off n want =
    (let p := (s.pageLoc off).foldl State.readData (s, [])
    let q := (p.1.rowLoc off n).foldl (State.readRow want) (p.1, [])
    (q.1, { data := p.2, rows := q.2 })) := rfl


theorem State.accessed_readData (a : State × List (LineRes × Stored)) (e : Nat × Nat) : a.1.Accessed (State.readData a e).1 :=
  State.accessed_readLine (s := a.1) ..

theorem State.accessed_readRow (want : Option (Nat × Nat)) (a : State × List (LineRes × Stored)) (e : Nat × Nat) :
    a.1.Accessed (State.readRow want a e).1 := State.accessed_readParity (s := a.1) ..

theorem State.accessed_readPage (off n : Nat) (want : Option (Nat × Nat)) : s.Accessed (s.readPage off n want).1 := by
  rw [State.readPage_eq]
  exact (State.Accessed.of_foldl State.accessed_readData _ (s, [])).trans (State.Accessed.of_foldl (State.accessed_readRow want) _ (_, []))

theorem State.accessed_rebuildPage (off n : Nat) (want : Option (Nat × Nat)) : s.Accessed (s.rebuildPage off n want).1 := by
  fun_cases State.rebuildPage s off n want with
  | case1 t p hread => exact .of_fst hread (State.accessed_readPage ..)
  | case2 t p hread => exact .of_fst hread (State.accessed_readPage ..)
  | case3 t p hread bad lost lostRows hfew lines good sol hsol u full v =>
    have ht : s.Accessed t := .of_fst hread (State.accessed_readPage ..)
    have hu : t.Accessed u := .of_each (fun t e => by
      split
      · exact (State.accessed_setStored ..).trans (State.accessed_incF (MC_ERR_CNT_upkeep _) _ _)
      · exact .refl) _ _
    have hv : u.Accessed v := .of_each (fun t e => by
      split
      · exact ((State.accessed_pcPut ..).trans (State.accessed_setStored ..)).trans (State.accessed_incF (MC_ERR_CNT_upkeep _) _ _)
      · exact .refl) _ _
    exact (ht.trans hu).trans hv

theorem State.accessed_giveUp (off : Nat) : s.Accessed (s.giveUp off) :=
  .of_each (fun _ _ => .of_ite (State.accessed_onDram ⟨_, _, _, _, _, rfl⟩) .refl) _ _

theorem State.accessed_resyncPage (off n ch addr part : Nat) : s.Accessed (s.resyncPage off n ch addr part) := by
  unfold State.resyncPage
  extract_lets full t
  have ht : s.Accessed t := .of_each (fun _ _ => (State.accessed_pcPut ..).trans (State.accessed_setStored ..)) _ _
  exact (ht.trans (State.accessed_giveUp _)).trans (State.accessed_record ..)

theorem State.accessed_rewritten (c l : Nat) (x : Stored) (off n ch addr part : Nat) :
    s.Accessed ((s.setStored c l x).resyncPage off n ch addr part) := (State.accessed_setStored ..).trans (State.accessed_resyncPage ..)

theorem State.accessed_memUe (c l : Nat) (addr : Option Nat) (part : Nat) : s.Accessed (s.memUe c l addr part) := by
  unfold State.memUe
  extract_lets x syn s1 s2 s3 s4 s5
  have h1 : s.Accessed s1 := State.accessed_incF (MC_ERR_CNT_upkeep c) _ _
  have h2 : s1.Accessed s2 := State.accessed_setF (MC_UE_LAST_upkeep c) _ _
  have h3 : s2.Accessed s3 := State.accessed_setF (MC_UE_LAST_upkeep c) _ _
  have h4 : s3.Accessed s4 := State.accessed_setF (MC_UE_LAST_upkeep c) _ _
  have h5 : s4.Accessed s5 := State.accessed_setReg (MC_UE_SYN_upkeep c) _
  exact (((((h1.trans h2).trans h3).trans h4).trans h5)).trans (State.accessed_record ..)

theorem State.accessed_updateRows (off n i : Nat) (delta : Line) : s.Accessed (s.updateRows off n i delta) :=
  .of_each (fun _ _ => State.accessed_pcPut ..) _ _

theorem State.accessed_putLine (off c l n i : Nat) (old new : Stored) : s.Accessed (s.putLine off c l n i old new) := by
  unfold State.putLine
  exact (State.Accessed.of_ite .refl (State.accessed_updateRows ..)).trans (State.accessed_setStored ..)

/-- One row read before an update: mendRows' step. -/
def State.readForUpdate (a : State × Bool) (e : Nat × Nat) : State × Bool :=
  match a.1.readParity e.1 e.2 with
  | (s, r, _) => (s, a.2 || r = .failed)

theorem State.accessed_readForUpdate (a : State × Bool) (e : Nat × Nat) : a.1.Accessed (State.readForUpdate a e).1 :=
  State.accessed_readParity (s := a.1) ..

theorem State.accessed_mendRows (off n ch addr part : Nat) : s.Accessed (s.mendRows off n ch addr part).1 := by
  have hrows {t : State} {bad : Bool} (h : (s.rowLoc off n).foldl State.readForUpdate (s, false) = (t, bad)) : s.Accessed t :=
    .of_fst h (.of_foldl State.accessed_readForUpdate _ (s, false))
  fun_cases State.mendRows s off n ch addr part with
  | case1 t bad hread => exact hrows hread
  | case2 t bad hread _ u k hbuild => exact ((hrows hread).trans (.of_fst hbuild (State.accessed_rebuildPage ..))).trans (State.accessed_record ..)
  | case3 t bad hread _ u hbuild => exact (hrows hread).trans (.of_fst hbuild (State.accessed_rebuildPage ..))

/-- The old line of a write, as writeLine goes on with it after its read: a failed one of a page with parity is rebuilt where it can be; p is what
the rebuild of its page gives. -/
def State.oldLine (s : State) (p : State × Option Nat) (line n c l : Nat) (full : Bool) (part : Nat) (r : LineRes) (x : Stored) :
    State × LineRes × Stored :=
  match r, n with
  | .failed, 0 => (s, r, x)
  | .failed, _ =>
    if s.isLost c l then (s, if full then .poisoned else .failed, x)
    else match p with
    | (s, some k) => ((s.record E.MEM_PAGE_REBUILD 3 c [part] (some (line * 64)) k), .clean, s.stored c l)
    | (s, none) => (s, .failed, x)
  | _, _ => (s, r, x)

theorem State.accessed_oldLine {p : State × Option Nat} (hp : s.Accessed p.1) (line n c l : Nat) (full : Bool) (part : Nat) (r : LineRes)
    (x : Stored) : s.Accessed (s.oldLine p line n c l full part r x).1 := by
  fun_cases State.oldLine s p line n c l full part r x with
  | case1 => exact .refl
  | case2 => exact .refl
  | case3 => exact hp.trans (State.accessed_record ..)
  | case4 => exact hp
  | case5 => exact .refl

theorem State.accessed_old {line n c l : Nat} {full : Bool} {part : Nat} {r r' : LineRes} {x x' : Stored} {p : State × Option Nat}
    (hread : s.readLine c l = (t, r, x)) (hp : t.rebuildPage (offOfLine line) n (some (c, l)) = p)
    (hold : t.oldLine p line n c l full part r x = (u, r', x')) : s.Accessed u :=
  State.Accessed.trans (.of_fst hread (State.accessed_readLine ..))
    (.of_fst hold (State.accessed_oldLine (hp ▸ State.accessed_rebuildPage ..) ..))

theorem State.accessed_mended {off n ch addr part : Nat} {bad : Bool} (h : s.mendRows off n ch addr part = (t, bad)) : s.Accessed t :=
  .of_fst h (State.accessed_mendRows ..)

theorem State.accessed_writeLine (line : Nat) (full : Bool) (part : Nat) (new : Line → Stored) : s.Accessed (s.writeLine line full part new).1 := by
  fun_cases State.writeLine s line full part new with
  | case1 => exact State.accessed_setStored ..
  | case2 off c l _ _ i _ _ n _ t r x hread u y _ v hold =>
    generalize hp : t.rebuildPage off n (some (c, l)) = p at hold
    exact ((State.accessed_old hread hp hold).trans (State.accessed_setStored ..)).trans (.of_ite .refl (State.accessed_resyncPage ..))
  | case3 off c l _ _ i _ _ n _ t r x hread u y _ hold =>
    generalize hp : t.rebuildPage off n (some (c, l)) = p at hold
    exact (State.accessed_old hread hp hold).trans (State.accessed_memUe ..)
  | case4 off c l _ _ i _ _ n _ t r x hread u y _ v hmend hold =>
    generalize hp : t.rebuildPage off n (some (c, l)) = p at hold
    exact ((State.accessed_old hread hp hold).trans (State.accessed_mended hmend)).trans (State.accessed_rewritten ..)
  | case5 off c l _ _ i _ _ n _ t r x hread u y _ v hmend hold =>
    generalize hp : t.rebuildPage off n (some (c, l)) = p at hold
    exact ((State.accessed_old hread hp hold).trans (State.accessed_mended hmend)).trans (State.accessed_putLine ..)
  | case6 off c l _ _ i _ _ n _ t r x hread u y _ hold =>
    generalize hp : t.rebuildPage off n (some (c, l)) = p at hold
    exact State.accessed_old hread hp hold
  | case7 off c l _ _ i _ _ n _ t r x hread u r' x' hold y v hmend =>
    generalize hp : t.rebuildPage off n (some (c, l)) = p at hold
    exact ((State.accessed_old hread hp hold).trans (State.accessed_mended hmend)).trans (State.accessed_rewritten ..)
  | case8 off c l _ _ i _ _ n _ t r x hread u r' x' hold y v hmend =>
    generalize hp : t.rebuildPage off n (some (c, l)) = p at hold
    exact ((State.accessed_old hread hp hold).trans (State.accessed_mended hmend)).trans (State.accessed_putLine ..)
  | case9 => exact .refl

theorem State.accessed_writeData (line part : Nat) (mask : Mask) (data : Line) : s.Accessed (s.writeData line part mask data).1 :=
  State.accessed_writeLine ..

theorem State.accessed_writePoison (line : Nat) : s.Accessed (s.writePoison line) := State.accessed_writeLine ..

/-! A request for no transaction: there is nobody to answer. -/

theorem State.served_none {r : ChanReq} (hslot : r.slot = none) (res : Option Line) : s.served r res = s := by
  unfold State.served
  rw [hslot]

theorem State.accessed_writeNow {r : ChanReq} (hslot : r.slot = none) : s.Accessed (s.writeNow r) := by
  fun_cases State.writeNow s r with
  | case1 => rw [State.served_none hslot]; exact State.accessed_writePoison ..
  | case2 _ marked t hwrite =>
    rw [State.served_none hslot]
    exact State.Accessed.trans (.of_fst hwrite (State.accessed_writeData ..)) (.of_ite (State.accessed_incF (POISON_STAT_upkeep _) _ _) .refl)
  | case3 _ t hwrite => rw [State.served_none hslot]; exact .of_fst hwrite (State.accessed_writeData ..)
  | case4 _ t hwrite =>
    rw [State.served_none hslot]
    exact State.Accessed.trans (.of_fst hwrite (State.accessed_writeData ..)) (State.accessed_record ..)

theorem State.accessed_rebuiltRead {r : ChanReq} (hslot : r.slot = none) (c l : Nat) : s.Accessed (s.rebuiltRead c l r) := by
  fun_cases State.rebuiltRead s c l r with
  | case1 t n hbuild =>
    rw [State.giveLine, State.served_none hslot]
    exact State.Accessed.trans (.of_fst hbuild (State.accessed_rebuildPage ..)) (State.accessed_record ..)
  | case2 t hbuild =>
    rw [State.served_none hslot]
    exact State.Accessed.trans (.of_fst hbuild (State.accessed_rebuildPage ..)) (State.accessed_memUe ..)

theorem State.accessed_rebuiltScrub (c l : Nat) : s.Accessed (s.rebuiltScrub c l) := by
  fun_cases State.rebuiltScrub s c l with
  | case1 => exact .refl
  | case2 off n addr _ part t k hbuild => exact State.Accessed.trans (.of_fst hbuild (State.accessed_rebuildPage ..)) (State.accessed_record ..)
  | case3 off n addr _ part t hbuild => exact State.Accessed.trans (.of_fst hbuild (State.accessed_rebuildPage ..)) (State.accessed_memUe ..)

/-! Registers that an access leaves as they were. -/

theorem notUpkeep_iff {k : Nat} : notUpkeep k ↔ k % 0x40000 ≠ 0x28 ∧ k % 0x40000 ≠ 0x40 ∧ k % 0x40000 ≠ 0x48 ∧ k % 0x40000 ≠ 0x58 ∧
    k % 0x40000 ≠ 0x60 ∧ k % 0x40000 ≠ 0x90 ∧ k % 0x40000 ≠ 0x208 ∧ k % 0x40000 ≠ 0x1000 ∧ k % 0x40000 ≠ 0x1010 := by
  simp [notUpkeep, upkeepRegs]

theorem MC_MAP_fixed (c : Nat) : notUpkeep (R.MC_MAP c) := notUpkeep_iff.mpr (by simp only [R.MC_MAP]; omega)
theorem MC_CFG_fixed (c : Nat) : notUpkeep (R.MC_CFG c) := notUpkeep_iff.mpr (by simp only [R.MC_CFG]; omega)
theorem MC_INFO_fixed (c : Nat) : notUpkeep (R.MC_INFO c) := notUpkeep_iff.mpr (by simp only [R.MC_INFO]; omega)
theorem MC_STAT_fixed (c : Nat) : notUpkeep (R.MC_STAT c) := notUpkeep_iff.mpr (by simp only [R.MC_STAT]; omega)
theorem MC_DEV_OUT_fixed (c : Nat) : notUpkeep (R.MC_DEV_OUT c) := notUpkeep_iff.mpr (by simp only [R.MC_DEV_OUT]; omega)
theorem MC_RESTRIPE_fixed (c : Nat) : notUpkeep (R.MC_RESTRIPE c) := notUpkeep_iff.mpr (by simp only [R.MC_RESTRIPE]; omega)
theorem ASSAY_STAT_fixed (c : Nat) : notUpkeep (R.ASSAY_STAT c) := notUpkeep_iff.mpr (by simp only [R.ASSAY_STAT]; omega)
theorem MR_BASE_fixed {r : Nat} (hr : r < 64) : notUpkeep (R.MR_BASE 0 r) := notUpkeep_iff.mpr (by simp only [R.MR_BASE]; omega)
theorem MR_SIZE_fixed {r : Nat} (hr : r < 64) : notUpkeep (R.MR_SIZE 0 r) := notUpkeep_iff.mpr (by simp only [R.MR_SIZE]; omega)

/-! What an access leaves as it was: where lines lie, who owns them, their keys. -/

theorem State.regionOf_lt {line r : Nat} (h : s.regionOf line = some r) : r < 64 := List.mem_range.mp (List.mem_of_find?_eq_some h)

section
variable (h : s.Accessed t)
include h

theorem State.Accessed.f {k : Nat} (hk : notUpkeep k) (fl : Fld) : t.f k fl = s.f k fl := by rw [State.f, State.f, h.reg k hk]

theorem State.Accessed.usable : t.usable = s.usable := by
  funext c
  unfold State.usable
  rw [h.f (MC_MAP_fixed _)]

theorem State.Accessed.groupUsable : t.groupUsable = s.groupUsable := by
  funext g
  rw [State.groupUsable, State.groupUsable, h.usable]

theorem State.Accessed.groupBase : t.groupBase = s.groupBase := by
  funext g
  unfold State.groupBase
  rw [h.f (MC_MAP_fixed _)]

theorem State.Accessed.groupOrder : t.groupOrder = s.groupOrder := by
  funext g
  unfold State.groupOrder
  rw [h.f (MC_CFG_fixed _)]

theorem State.Accessed.carve : t.carve = s.carve := by
  funext g
  unfold State.carve
  rw [h.f (MC_CFG_fixed _)]

theorem State.Accessed.chanOf : t.chanOf = s.chanOf := by
  funext off
  simp only [State.chanOf, h.groupBase, h.groupUsable, h.groupOrder, h.usable]

theorem State.Accessed.pageOf : t.pageOf = s.pageOf := by
  funext off
  simp only [State.pageOf, h.chanOf, h.groupBase, h.groupOrder]

theorem State.Accessed.paritySlot : t.paritySlot = s.paritySlot := by
  funext c P j
  simp only [State.paritySlot, h.groupOrder, h.usable, h.carve]

theorem State.Accessed.pageLoc : t.pageLoc = s.pageLoc := by
  funext off
  rw [State.pageLoc, State.pageLoc, h.chanOf]

theorem State.Accessed.rowLoc : t.rowLoc = s.rowLoc := by
  funext off n
  simp only [State.rowLoc, h.pageOf, h.paritySlot]

theorem State.Accessed.chanLines : t.chanLines = s.chanLines := by
  funext c
  unfold State.chanLines
  rw [h.f (MC_INFO_fixed _)]

theorem State.Accessed.rankLines : t.rankLines = s.rankLines := by
  funext c
  have hinfo := h.f (k := R.MC_INFO c) (MC_INFO_fixed _)
  simp only [State.rankLines, hinfo]

theorem State.Accessed.rankOf : t.rankOf = s.rankOf := by
  funext c l
  rw [State.rankOf, State.rankOf, h.rankLines]

theorem State.Accessed.chState : t.chState = s.chState := by
  funext c
  unfold State.chState
  rw [h.f (MC_STAT_fixed _)]

theorem State.Accessed.chanGone : t.chanGone = s.chanGone := by
  funext c
  unfold State.chanGone
  rw [h.f (MC_STAT_fixed _)]

theorem State.Accessed.devOut : t.devOut = s.devOut := by
  funext c l
  unfold State.devOut
  rw [h.reg _ (MC_DEV_OUT_fixed _), h.rankOf]

theorem State.Accessed.regionOf : t.regionOf = s.regionOf := by
  funext line
  refine List.find?_congr fun r hr => ?_
  have hr64 : r < 64 := List.mem_range.mp hr
  rw [h.f (MR_BASE_fixed hr64), h.f (MR_BASE_fixed hr64), h.f (MR_SIZE_fixed hr64)]

theorem State.Accessed.lineOwner : t.lineOwner = s.lineOwner := by
  funext line
  simp only [State.lineOwner, h.regionOf]
  cases hr : s.regionOf line with
  | none => rfl
  | some r => exact h.f (MR_BASE_fixed (State.regionOf_lt hr)) _

theorem State.Accessed.keyOf : t.keyOf = s.keyOf := by
  obtain ⟨_, _, _, _, _, hd⟩ := h.dram
  funext line
  unfold State.keyOf State.keySlotOf
  rw [hd, h.sec, h.lineOwner]

theorem State.Accessed.decrypt : t.decrypt = s.decrypt := by
  funext line x
  rw [State.decrypt, State.decrypt, h.keyOf]

theorem State.Accessed.pageStrength : t.pageStrength = s.pageStrength := by
  obtain ⟨_, _, _, _, _, hd⟩ := h.dram
  funext line
  simp only [State.pageStrength, h.regionOf]
  cases hr : s.regionOf line with
  | none => rfl
  | some r => simp only [hd, h.f (MR_BASE_fixed (State.regionOf_lt hr)), h.f (MC_RESTRIPE_fixed 0)]

theorem State.Accessed.pageLocked : t.pageLocked = s.pageLocked := by
  obtain ⟨_, _, _, _, _, hd⟩ := h.dram
  funext off
  simp only [State.pageLocked, h.pageOf, hd]

theorem State.Accessed.pcTested : t.pcTested = s.pcTested := by
  obtain ⟨_, he⟩ := h.err
  funext n
  simp only [State.pcTested, h.f (ASSAY_STAT_fixed _), he]

theorem State.Accessed.locks : t.dram.locks = s.dram.locks := by
  obtain ⟨_, _, _, _, _, hd⟩ := h.dram
  rw [hd]

theorem State.Accessed.queue : t.dram.queue = s.dram.queue := by
  obtain ⟨_, _, _, _, _, hd⟩ := h.dram
  rw [hd]

theorem State.Accessed.txnAt : t.txnAt = s.txnAt := by
  funext hub n
  unfold State.txnAt
  rw [h.home]

end

/-! ## What a line reads after a line is written -/

section
variable (c l : Nat) (x : Stored)

@[simp] theorem State.wakeRank_dram (rank : Nat) : (s.wakeRank c rank).dram = s.dram := by
  unfold State.wakeRank
  dsimp only
  split
  · exact State.setF_dram ..
  · rfl

theorem State.reg_wakeRank_ne {k : Nat} (rank : Nat) (hk : k ≠ R.MC_PD_STAT c) : (s.wakeRank c rank).reg k = s.reg k := by
  unfold State.wakeRank
  dsimp only
  split
  · exact State.reg_setF_ne _ _ _ hk
  · rfl

/-- Storing a line wakes its rank, and changes no other register. -/
theorem State.reg_setStored_ne {k : Nat} (hk : k ≠ R.MC_PD_STAT c) : (s.setStored c l x).reg k = s.reg k := by
  unfold State.setStored
  split
  · rfl
  · rw [State.onDram_reg, State.reg_wakeRank_ne c _ hk]

theorem State.setStored_mem (hgone : s.chanGone c = false) : (s.setStored c l x).dram.mem = Mem.setLine s.dram.mem c l x := by
  rw [State.setStored, hgone, if_neg Bool.false_ne_true, State.onDram_dram, State.wakeRank_dram]

theorem State.stored_setStored_same (hgone : s.chanGone c = false) : (s.setStored c l x).stored c l = x := by
  rw [State.stored, State.setStored_mem c l x hgone, Mem.line_setLine_same]

theorem State.stored_setStored_ne {c' l' : Nat} (h : c' ≠ c ∨ l' % 2 ^ 34 ≠ l % 2 ^ 34) :
    (s.setStored c l x).stored c' l' = s.stored c' l' := by
  cases hgone : s.chanGone c with
  | true => rw [State.setStored, hgone, if_pos rfl]
  | false => rw [State.stored, State.setStored_mem c l x hgone, Mem.line_setLine_ne _ _ h, State.stored]

end

end

end Sys2Proof.Machine
end

section
/-! SUPPORT. TRN_CTL of a channel (R263): who may write it, what a write sets, and the operation that it starts. -/

namespace Sys2Proof.Machine

/-! ## The channel blocks -/

theorem locate_mc_lt {off c rel : Nat} (h : locate off = some (.mc, c, rel)) : c < 16 := by
  unfold locate at h
  split at h
  · rename_i b hb
    obtain ⟨hblk, hc, -⟩ : b.blk = .mc ∧ (off - b.base) / b.stride = c ∧ (off - b.base) % b.stride = rel := by simpa using h
    have hrow : ∀ b ∈ blkTable, b.blk = .mc → b.stride = 0x40000 ∧ b.count = 16 := by decide
    obtain ⟨hstride, hcount⟩ := hrow b (List.mem_of_find?_eq_some hb) hblk
    have hin := List.find?_some hb
    simp only [hstride, hcount, Bool.and_eq_true, decide_eq_true_eq] at hin hc
    omega
  · exact absurd h (by simp)

theorem locate_TRN_CTL (c : Chan) : locate (R.TRN_CTL c) = some (Blk.mc, c.val, 0x1000) := by
  have hc := c.isLt
  have hoff : R.TRN_CTL c = 0x2000000 + c.val * 0x40000 + 0x1000 := by simp only [R.TRN_CTL]; omega
  generalize R.TRN_CTL c = off at hoff
  have hfind : (blkTable.find? fun b => b.base ≤ off && off < b.base + b.stride * b.count) = some ⟨Blk.mc, 0x2000000, 0x40000, 16⟩ := by
    simp (disch := (simp; omega)) only [blkTable, List.find?_cons_of_neg, List.find?_cons_of_pos]
  rw [locate, hfind]
  simp only [Option.some.injEq, Prod.mk.injEq, true_and]
  omega

/-- The row of TRN_CTL: GO, OP, PATTERN, SUBCH, RANK, LINES, SEED; GO alone is write-only. -/
def trnCtlRow : RegRow :=
  ⟨0x1000, [], [⟨0, 1, .wo, 0⟩, ⟨1, 2, .rw, 0⟩, ⟨3, 2, .rw, 0⟩, ⟨5, 1, .rw, 0⟩, ⟨6, 2, .rw, 0⟩, ⟨8, 24, .rw, 0⟩, ⟨32, 32, .rw, 0⟩]⟩

theorem regAt_TRN_CTL (c : Chan) : regAt (R.TRN_CTL c) = some (Blk.mc, c.val, [], trnCtlRow) := by
  rw [regAt, locate_TRN_CTL]
  simp [regTable, regTable_mc, RegRow.at?, idxOf, trnCtlRow]


theorem trainOnly_mc {c rel : Nat} (h : 0x1000 ≤ rel) (h' : rel < 0x2000) : trainOnly .mc c rel = some (E.MC_TRAIN_ONLY, hubOfChan c) := by
  simp [trainOnly, h, h', hubOfChan]

/-- The links to a channel block are one way for all its registers. -/
theorem State.csLinks_mc (s : State) (w : Who) (c rel rel' : Nat) (wr : Bool) : s.csLinks w .mc c rel wr = s.csLinks w .mc c rel' wr := by
  simp [State.csLinks, bothHubs]

section
variable {s : State}

/-! ## Who may write -/

/-- A requester other than the Service Core of the channel's hub gets a bus error, with a record (R263). -/
theorem State.csGuard_trainOnly {who : Sender} {off c rel : Nat} {v : Word} (hi : s.Issues who.who) (hoff : off % 8 = 0)
    (hl : locate off = some (.mc, c, rel)) (hr : (regAt off).isSome = true) (hlo : 0x1000 ≤ rel) (hhi : rel < 0x2000)
    (hlinks : ∀ l ∈ s.csLinks who.who .mc c rel true, s.linkCarries l = true) (hwho : ∀ h, who = .service h → h.val ≠ hubOfChan c)
    (hf : s.whoPart who.who ≠ 0 → s.partFenced (s.whoPart who.who) = false) (act : State → State) :
    s.csGuard who.who off 8 (some v) act = s.csFail who.who E.MC_TRAIN_ONLY (3, c) off := by
  obtain ⟨hruns, hcore⟩ := hi
  have hblocked : (s.whoCore who.who).any s.coreBlocked = false := by
    cases hw : s.whoCore who.who with
    | none => rfl
    | some k => exact (hcore k hw).1
  have hagreed : (s.whoCore who.who).any s.unagreed = false := by
    cases hw : s.whoCore who.who with
    | none => rfl
    | some k => exact (hcore k hw).2
  have hopen : ((s.csLinks who.who .mc c rel true).any fun l => !s.linkCarries l) = false := by
    rw [List.any_eq_false]
    intro l hm
    simp [hlinks l hm]
  have hfenced : (s.whoPart who.who != 0 && s.partFenced (s.whoPart who.who)) = false := by
    by_cases hp : s.whoPart who.who = 0
    · simp [hp]
    · simp [hf hp]
  have hnone : (regAt off).isNone = false := by simpa using hr
  unfold State.csGuard
  simp only [hruns, hblocked, hagreed, hoff, hl, servingDie, servingUnit, hopen, hfenced, hnone, trainOnly_mc hlo hhi, Option.isSome_some]
  cases who with
  | core pkg k part => simp [Sender.who, whoService]
  | service h => simp [Sender.who, whoService, hwho h rfl]

/-- The Service Core of the channel's hub writes its training registers, unless the package is locked. -/
theorem State.csGuard_trainService {c : Chan} {v : Word} (hl : s.locked = false) (act : State → State) :
    s.csGuard (Sender.service (Fin.ofNat 2 (hubOfChan c))).who (R.TRN_CTL c) 8 (some v) act = act s := by
  have hc := c.isLt
  have hlow : ¬1 < hubOfChan c := by unfold hubOfChan; omega
  have hoff : R.TRN_CTL c % 8 = 0 := by simp only [R.TRN_CTL]; omega
  unfold State.csGuard
  simp [Sender.who, State.whoRuns, hl, State.whoCore, hoff, locate_TRN_CTL, servingDie, servingUnit, State.csLinks, State.whoHub, blkHub, bothHubs,
    hlow, regAt_TRN_CTL, whoService, trainOnly_mc, State.whoPart]

theorem State.csGuard_serviceLocked {h : Hub} {off : Nat} {v : Word} (hl : s.locked = true) (act : State → State) :
    s.csGuard (Sender.service h).who off 8 (some v) act = s := by
  simp [State.csGuard, Sender.who, State.whoRuns, hl]

/-! ## The bus error -/

theorem State.sharers_ne_debugPort (c : Core) {k : Nat} (hk : k ∈ s.sharers c) : k ≠ DEBUG_PORT := by
  have hc := c.isLt
  have hlt : k < 240 := by
    unfold State.sharers at hk
    split at hk
    · simp only [List.mem_cons, List.not_mem_nil, or_false] at hk; omega
    · simp only [List.mem_cons, List.not_mem_nil, or_false] at hk; omega
  rw [DEBUG_PORT]
  omega

/-- An answer to a core of this package is a message to each of its sharers, and nothing else. -/
theorem State.coreReply_eq (c : Core) (code : Nat) (data : Line) :
    s.coreReply c code data = { s with sent := s.sent ++ (s.sharers c).map fun k => .core k code data } := by
  have hmessages : ∀ (l : List Nat) (s : State), (∀ k ∈ l, k ≠ DEBUG_PORT) →
      each l (fun s k => s.toCore k code data) s = { s with sent := s.sent ++ l.map fun k => .core k code data } := by
    intro l
    induction l with
    | nil => intro s _; simp [each]
    | cons k l ih =>
      intro s hl
      have hrest := ih (s.send (.core k code data)) fun j hj => hl j (List.mem_cons_of_mem _ hj)
      unfold each at hrest ⊢
      rw [List.foldl_cons, State.toCore_same s (hl k (List.mem_cons_self ..)), hrest]
      simp [State.send]
  exact hmessages _ s fun k hk => s.sharers_ne_debugPort c hk

/-- What a failed access of a sender leaves: its record, and messages. -/
theorem State.csFail_effect {who : Sender} (e : ECode) (u : Nat × Nat) (off : Nat) :
    (s.csFail who.who e u off).Logged e u.1 u.2 ∧ s.SameButLogs (s.csFail who.who e u off) ∧
      ∀ pkg c p, who = .core pkg c p → if pkg.val = s.pkg then ∀ k ∈ s.sharers c, .core k 1 0 ∈ (s.csFail who.who e u off).sent
        else .remote pkg c 1 0 ∈ (s.csFail who.who e u off).sent := by
  have hsame : s.SameButLogs (s.record e u.1 u.2 [s.whoPart who.who] (some (s.csAddr off))) := State.record_same
  have hlogged := State.record_logged (s := s) e u.1 u.2 [s.whoPart who.who] (some (s.csAddr off)) 0
  unfold State.csFail
  generalize s.record e u.1 u.2 [s.whoPart who.who] (some (s.csAddr off)) = t at hsame hlogged
  have hsent (m : List Msg) : s.SameButLogs { t with sent := m } := hsame.trans ⟨_, _, rfl⟩
  have hpkg : t.pkg = s.pkg := by obtain ⟨_, _, rfl⟩ := hsame; rfl
  have hzero : (0 : Word).setWidth 512 = (0 : Line) := BitVec.setWidth_zero ..
  have hsharers (c : Nat) : t.sharers c = s.sharers c := by obtain ⟨_, _, rfl⟩ := hsame; rfl
  cases who with
  | service h => exact ⟨hlogged, hsame, nofun⟩
  | core pkg c p =>
    rw [Sender.who, State.whoReply, hpkg, hzero]
    by_cases hown : pkg.val = s.pkg
    · rw [if_pos hown, State.coreReply_eq, hsharers]
      refine ⟨hlogged, hsent _, ?_⟩
      rintro _ _ _ ⟨rfl, rfl, rfl⟩
      rw [if_pos hown]
      exact fun k hk => List.mem_append_right _ (List.mem_map.mpr ⟨k, hk, rfl⟩)
    · rw [if_neg hown]
      refine ⟨hlogged, hsent _, ?_⟩
      rintro _ _ _ ⟨rfl, rfl, rfl⟩
      rw [if_neg hown]
      exact List.mem_append_right _ (List.mem_singleton.mpr rfl)

/-- Every write of a training or PHY register meets the check of R263. -/
theorem State.csStore_trainOnly {who : Sender} {off c rel : Nat} {v : Word} (hi : s.Issues who.who) (hoff : off % 8 = 0)
    (hl : locate off = some (.mc, c, rel)) (hr : (regAt off).isSome = true) (hlo : 0x1000 ≤ rel) (hhi : rel < 0x2000)
    (hlinks : ∀ l ∈ s.csLinks who.who .mc c rel true, s.linkCarries l = true) (hwho : ∀ h, who = .service h → h.val ≠ hubOfChan c)
    (hf : s.whoPart who.who ≠ 0 → s.partFenced (s.whoPart who.who) = false) :
    ∃ at', s.csStore who.who off 8 v = s.csFail who.who E.MC_TRAIN_ONLY (3, c) at' := by
  have hplain : s.plainOp who.who off v = s.csFail who.who E.MC_TRAIN_ONLY (3, c) off :=
    State.csGuard_trainOnly hi hoff hl hr hlo hhi hlinks hwho hf _
  obtain ⟨x, hx⟩ := Option.isSome_iff_exists.mp hr
  obtain ⟨b, n, ix, r⟩ := x
  obtain ⟨rel', hl'⟩ := locate_of_regAt hx
  obtain ⟨rfl, rfl, rfl⟩ : Blk.mc = b ∧ c = n ∧ rel = rel' := by simpa [hl] using hl'
  by_cases hctl : r.off = 0x1000
  · have hc := locate_mc_lt hl
    have hat := locate_TRN_CTL ⟨c, hc⟩
    have hreg := regAt_TRN_CTL ⟨c, hc⟩
    refine ⟨R.TRN_CTL c, ?_⟩
    have hstore : s.csStore who.who off 8 v = s.trnCtlWrite who.who c v := by
      simp [State.csStore, hoff, hx, State.absent, hctl]
    rw [hstore]
    exact State.csGuard_trainOnly hi (by simp only [R.TRN_CTL]; omega) hat (by rw [hreg]; rfl) (by decide) (by decide)
      (by rwa [State.csLinks_mc s _ c 0x1000 rel]) hwho hf _
  · refine ⟨off, ?_⟩
    have hstore : s.csStore who.who off 8 v = s.plainOp who.who off v := by
      simp [State.csStore, hoff, hx, State.absent, hctl]
    rw [hstore, hplain]

/-! ## What a write sets -/

/-- Below the region registers a channel's block is its own (R267). -/
theorem canonOff_below {off c rel : Nat} (h : locate off = some (.mc, c, rel)) (hrel : rel < 0x2000) : canonOff off = off := by
  unfold canonOff
  rw [h]
  exact if_neg (by omega)

theorem State.plainWrite_own {off n : Nat} {b : Blk} {ix : List Nat} {r : RegRow} (h : regAt off = some (b, n, ix, r)) (hcanon : canonOff off = off)
    (v : Word) (p : Nat) : ∃ t, s.SameButLogs t ∧ s.plainWrite off v p = t.setReg off (fieldWrite r.flds (s.reg off) v) := by
  unfold State.plainWrite
  simp only [h, hcanon]
  split
  · exact ⟨_, State.record_same, rfl⟩
  · exact ⟨_, .refl, rfl⟩

/-- A write of TRN_CTL sets that register alone; it may be recorded. -/
theorem State.plainWrite_TRN_CTL (c : Chan) (v : Word) (p : Nat) : ∃ t, s.SameButLogs t ∧
    s.plainWrite (R.TRN_CTL c) v p = t.setReg (R.TRN_CTL c) (fieldWrite trnCtlRow.flds (s.reg (R.TRN_CTL c)) v) :=
  State.plainWrite_own (regAt_TRN_CTL c) (canonOff_below (locate_TRN_CTL c) (by decide)) v p

/-- Each field that a write of GO carries, as TRN_CTL then holds it. -/
theorem fieldWrite_TRN_CTL (old v : Word) (op : Nat) : let w := fieldWrite trnCtlRow.flds old (trnWord op v)
    F.TRN_CTL_OP.get w = op % 4 ∧ F.TRN_CTL_PATTERN.get w = F.TRN_CTL_PATTERN.get v ∧ F.TRN_CTL_SUBCH.get w = F.TRN_CTL_SUBCH.get v ∧
      F.TRN_CTL_RANK.get w = F.TRN_CTL_RANK.get v ∧ F.TRN_CTL_LINES.get w = F.TRN_CTL_LINES.get v := by
  refine ⟨?_, ?_⟩
  · simp (disch := decide) [fieldWrite, trnCtlRow, trnWord, Fld.get_set, Fld.get_set_apart]
  · simp (disch := decide) [fieldWrite, trnCtlRow, trnWord, Fld.get_set_get, Fld.get_set_apart]

theorem trnWord_GO (op : Nat) (v : Word) : F.TRN_CTL_GO.get (trnWord op v) = 1 := Fld.get_set (by decide) _ _

theorem State.accessed_plainWrite_TRN_CTL (c : Chan) (v : Word) (p : Nat) : s.Accessed (s.plainWrite (R.TRN_CTL c) v p) := by
  obtain ⟨t, ht, heq⟩ := s.plainWrite_TRN_CTL c v p
  rw [heq]
  exact ht.accessed.trans (State.accessed_setReg (TRN_CTL_upkeep c) _)

theorem State.plainWrite_TRN_CTL_ne {c : Chan} {k : Nat} (v : Word) (p : Nat) (hk : k ≠ R.TRN_CTL c) :
    (s.plainWrite (R.TRN_CTL c) v p).reg k = s.reg k := by
  obtain ⟨t, ht, heq⟩ := s.plainWrite_TRN_CTL c v p
  rw [heq, State.reg_setReg_ne _ _ hk, ht.reg]

theorem State.plainWrite_TRN_CTL_dram (c : Chan) (v : Word) (p : Nat) : (s.plainWrite (R.TRN_CTL c) v p).dram = s.dram := by
  obtain ⟨t, ht, heq⟩ := s.plainWrite_TRN_CTL c v p
  rw [heq, State.setReg_dram, ht.dram]

theorem State.plainWrite_TRN_CTL_f (c : Chan) (v : Word) (p : Nat) (fl : Fld) :
    (s.plainWrite (R.TRN_CTL c) v p).f (R.TRN_CTL c) fl = fl.get (fieldWrite trnCtlRow.flds (s.reg (R.TRN_CTL c)) v) := by
  obtain ⟨t, -, heq⟩ := s.plainWrite_TRN_CTL c v p
  rw [heq, State.f_setReg_same]

theorem TRN_STAT_ne_TRN_CTL (c : Chan) : R.TRN_STAT c ≠ R.TRN_CTL c := by simp only [R.TRN_STAT, R.TRN_CTL]; omega

/-! ## The operation that GO starts -/

/-- The state in which GO with operation op takes effect. -/
def State.goState (s : State) (c : Chan) (op : Nat) (v : Word) : State := s.plainWrite (R.TRN_CTL c) (trnWord op v) 0

/-- A write of GO by the channel's Service Core. -/
theorem State.trnCtlWrite_service {c : Chan} (op : Nat) (v : Word) (hl : s.locked = false) :
    s.trnCtlWrite (Sender.service (Fin.ofNat 2 (hubOfChan c))).who c (trnWord op v) = (s.goState c op v).trnGo c := by
  rw [State.trnCtlWrite, State.csGuard_trainService hl]
  dsimp only
  rw [if_pos (trnWord_GO op v)]
  rfl

section
variable (c : Chan) (op : Nat) (v : Word)

theorem State.accessed_goState : s.Accessed (s.goState c op v) := State.accessed_plainWrite_TRN_CTL ..

theorem State.goState_op : (s.goState c op v).f (R.TRN_CTL c) F.TRN_CTL_OP = op % 4 :=
  (State.plainWrite_TRN_CTL_f ..).trans (fieldWrite_TRN_CTL ..).1

theorem State.goState_busy (fl : Fld) : (s.goState c op v).f (R.TRN_STAT c) fl = s.f (R.TRN_STAT c) fl := by
  rw [State.f, State.f, State.goState, State.plainWrite_TRN_CTL_ne _ _ (TRN_STAT_ne_TRN_CTL c)]

/-- GO while READY is ignored (R263). -/
theorem State.trnGo_ready {s : State} {c : Nat} (h : s.chState c = 4) : s.trnGo c = s := by
  rw [State.trnGo]
  exact if_pos (by simp [h, CH_READY])

/-- Operation 1 only reads. -/
theorem State.trnGo_compare (hready : s.chState c ≠ 4) (hop : s.f (R.TRN_CTL c) F.TRN_CTL_OP = 1) (hbusy : s.f (R.TRN_STAT c) F.TRN_STAT_BUSY = 0) :
    s.trnGo c = s.setF (R.TRN_STAT c) F.TRN_STAT_BUSY 1 := by
  simp [State.trnGo, hready, hop, hbusy, CH_READY]

/-- Line 0 of the walking-ones pattern is 1. -/
theorem State.patStep_walkingOnes {s : State} {c l : Nat} (seed : Nat) (hl : l < s.chanLines c) : s.patStep c l 2 seed 0 = s.setStored c l 1 := by
  simp [State.patStep, patLine, hl, each]

/-- A write operation goes through the pattern from its start line. -/
theorem State.trnGo_pattern {s u : State} {c : Nat} (hu : s.setF (R.TRN_STAT c) F.TRN_STAT_BUSY 1 = u) (hready : s.chState c ≠ 4)
    (hcompare : s.f (R.TRN_CTL c) F.TRN_CTL_OP ≠ 1) (hop : s.f (R.TRN_CTL c) F.TRN_CTL_OP ≠ 3) (hbusy : s.f (R.TRN_STAT c) F.TRN_STAT_BUSY = 0) :
    s.trnGo c = u.writePattern c
      (u.trnStart c (u.f (R.TRN_ADDR c) F.TRN_ADDR_ADDR) (u.f (R.TRN_CTL c) F.TRN_CTL_RANK) (u.f (R.TRN_CTL c) F.TRN_CTL_SUBCH))
      (u.f (R.TRN_CTL c) F.TRN_CTL_PATTERN) (u.f (R.TRN_CTL c) F.TRN_CTL_SEED) 0 (u.f (R.TRN_CTL c) F.TRN_CTL_LINES) := by
  simp [State.trnGo, hready, hop, hbusy, hcompare, CH_READY, hu]

theorem State.Accessed.trnStart {s t : State} (h : s.Accessed t) : t.trnStart = s.trnStart := by
  funext c addr rank sub
  rw [State.trnStart, State.trnStart, h.rankLines]

theorem TRN_ADDR_fixed (c : Nat) : notUpkeep (R.TRN_ADDR c) := notUpkeep_iff.mpr (by simp only [R.TRN_ADDR]; omega)

/-- The state in which the helper writes its pattern: GO is taken, and BUSY is 1. -/
def State.busyState (s : State) (c : Chan) (op : Nat) (v : Word) : State := (s.goState c op v).setF (R.TRN_STAT c) F.TRN_STAT_BUSY 1

theorem State.accessed_busyState : s.Accessed (s.busyState c op v) :=
  (State.accessed_goState c op v).trans (State.accessed_setF (TRN_STAT_upkeep c) _ _)

theorem State.busyState_f (fl : Fld) : (s.busyState c op v).f (R.TRN_CTL c) fl =
    fl.get (fieldWrite trnCtlRow.flds (s.reg (R.TRN_CTL c)) (trnWord op v)) := by
  rw [State.busyState, State.f_setF_ne _ _ _ _ (TRN_STAT_ne_TRN_CTL c).symm, State.goState, State.plainWrite_TRN_CTL_f]

/-- One walking-ones line is written at the start line (R263). -/
theorem State.trnGo_walkingOne (hready : s.chState c ≠ 4) (hop : op = 0 ∨ op = 2) (hbusy : s.f (R.TRN_STAT c) F.TRN_STAT_BUSY = 0)
    (hpat : F.TRN_CTL_PATTERN.get v = 2) (hlines : F.TRN_CTL_LINES.get v = 1) {l : Nat}
    (hl : s.trnStart c (s.f (R.TRN_ADDR c) F.TRN_ADDR_ADDR) (F.TRN_CTL_RANK.get v) (F.TRN_CTL_SUBCH.get v) = l) (hin : l < s.chanLines c) :
    (s.goState c op v).trnGo c = (s.busyState c op v).setStored c l 1 := by
  have hacc : s.Accessed (s.busyState c op v) := State.accessed_busyState c op v
  have hgo : (s.goState c op v).chState = s.chState := (State.accessed_goState c op v).chState
  obtain ⟨-, hp, hsub, hrank, hn⟩ := fieldWrite_TRN_CTL (s.reg (R.TRN_CTL c)) v op
  rw [State.trnGo_pattern (u := s.busyState c op v) rfl (by rwa [hgo]) (by rw [State.goState_op]; omega) (by rw [State.goState_op]; omega)
    (by rw [State.goState_busy, hbusy])]
  rw [State.busyState_f, State.busyState_f, State.busyState_f, State.busyState_f, State.busyState_f, hp, hsub, hrank, hn, hpat, hlines, hacc.trnStart,
    hacc.f (TRN_ADDR_fixed c), hl]
  exact State.patStep_walkingOnes _ (by rwa [hacc.chanLines])

theorem TRN_STAT_ne_MC_PD_STAT (c : Nat) : R.TRN_STAT c ≠ R.MC_PD_STAT c := by simp only [R.TRN_STAT, R.MC_PD_STAT]; omega

end

end

/-! ## The end of an operation -/

/-- TRN_STAT at the end of an operation that found mismatches. -/
def State.shownDone (s : State) (st bad : Nat) : State :=
  ((s.setF st F.TRN_STAT_BUSY 0).setF st F.TRN_STAT_DONE 1).setF st F.TRN_STAT_MISMATCH bad

/-- The failing lanes and strobes of an operation are added to those of its subchannel. -/
def State.lanesAdded (s : State) (e lanes strobe : Nat) : State :=
  (s.setF e F.TRN_LANE_ERR_LANE (s.f e F.TRN_LANE_ERR_LANE ||| lanes)).setF e F.TRN_LANE_ERR_STROBE (s.f e F.TRN_LANE_ERR_STROBE ||| strobe)

section
variable {s : State} {st e : Nat}

theorem State.shownDone_ne {k : Nat} (bad : Nat) (fl : Fld) (hk : k ≠ st) : (s.shownDone st bad).f k fl = s.f k fl := by
  rw [State.shownDone, State.f_setF_ne _ _ _ _ hk, State.f_setF_ne _ _ _ _ hk, State.f_setF_ne _ _ _ _ hk]

theorem State.shownDone_same {bad : Nat} (hbad : bad < 2 ^ F.TRN_STAT_MISMATCH.width) : (s.shownDone st bad).f st F.TRN_STAT_BUSY = 0 ∧
    (s.shownDone st bad).f st F.TRN_STAT_DONE = 1 ∧ (s.shownDone st bad).f st F.TRN_STAT_MISMATCH = bad := by
  unfold State.shownDone
  refine ⟨?_, ?_, ?_⟩
  · rw [State.f_setF_apart _ _ (by decide) (by decide), State.f_setF_apart _ _ (by decide) (by decide), State.f_setF_same _ _ (by decide)]
    rfl
  · rw [State.f_setF_apart _ _ (by decide) (by decide), State.f_setF_same _ _ (by decide)]
    rfl
  · rw [State.f_setF_same _ _ (by decide), Nat.mod_eq_of_lt hbad]

theorem State.lanesAdded_ne {k : Nat} (lanes strobe : Nat) (fl : Fld) (hk : k ≠ e) : (s.lanesAdded e lanes strobe).f k fl = s.f k fl := by
  rw [State.lanesAdded, State.f_setF_ne _ _ _ _ hk, State.f_setF_ne _ _ _ _ hk]

theorem State.lanesAdded_lane {lanes : Nat} (strobe : Nat) (hlanes : lanes < 2 ^ 40) :
    (s.lanesAdded e lanes strobe).f e F.TRN_LANE_ERR_LANE = s.f e F.TRN_LANE_ERR_LANE ||| lanes := by
  have hold : s.f e F.TRN_LANE_ERR_LANE < 2 ^ 40 := Nat.mod_lt _ (Nat.two_pow_pos _)
  rw [State.lanesAdded, State.f_setF_apart _ _ (by decide) (by decide), State.f_setF_same _ _ (by decide)]
  exact Nat.mod_eq_of_lt (Nat.or_lt_two_pow hold hlanes)

theorem TRN_LANE_ERR_ne_TRN_STAT (c i : Nat) : R.TRN_LANE_ERR c i ≠ R.TRN_STAT c := by simp only [R.TRN_LANE_ERR, R.TRN_STAT]; omega

theorem State.trnDoneOp_found {c : Chan} (bad lanes strobe : Nat) (hbusy : s.f (R.TRN_STAT c) F.TRN_STAT_BUSY = 1)
    (hop : s.f (R.TRN_CTL c) F.TRN_CTL_OP ≠ 0) : s.trnDoneOp c bad lanes strobe =
      (s.shownDone (R.TRN_STAT c) bad).lanesAdded (R.TRN_LANE_ERR c (s.f (R.TRN_CTL c) F.TRN_CTL_SUBCH)) lanes strobe := by
  have hctl (fl : Fld) : ((s.setF (R.TRN_STAT c) F.TRN_STAT_BUSY 0).setF (R.TRN_STAT c) F.TRN_STAT_DONE 1).f (R.TRN_CTL c) fl =
      s.f (R.TRN_CTL c) fl := by
    rw [State.f_setF_ne _ _ _ _ (TRN_STAT_ne_TRN_CTL c).symm, State.f_setF_ne _ _ _ _ (TRN_STAT_ne_TRN_CTL c).symm]
  simp only [State.trnDoneOp, hbusy, Nat.one_ne_zero, if_false, hctl, hop, State.shownDone, State.lanesAdded]

theorem State.lanesAdded_shownDone_dram (st e bad lanes strobe : Nat) : ((s.shownDone st bad).lanesAdded e lanes strobe).dram = s.dram := rfl

end

end Sys2Proof.Machine

open Sys2Proof Sys2Proof.Machine

/-- A write operation of one walking-ones line: BUSY, and the line stored. -/
theorem walkingOne_stored {s : State} {c : Chan} {op : Nat} {v : Word} (hready : s.chState c ≠ 4) (hgone : s.chState c ≠ 6)
    (hop : op = 0 ∨ op = 2) (hbusy : s.f (R.TRN_STAT c) F.TRN_STAT_BUSY = 0) (hpat : F.TRN_CTL_PATTERN.get v = 2) (hlines : F.TRN_CTL_LINES.get v = 1)
    {l : Nat} (hl : s.trnStart c (s.f (R.TRN_ADDR c) F.TRN_ADDR_ADDR) (F.TRN_CTL_RANK.get v) (F.TRN_CTL_SUBCH.get v) = l)
    (hin : l < s.chanLines c) (hlocked : s.locked = false) :
    let t := s.trnCtlWrite (Sender.service (Fin.ofNat 2 (hubOfChan c))).who c (trnWord op v)
    t.f (R.TRN_STAT c) F.TRN_STAT_BUSY = 1 ∧ t.stored c l = 1 := by
  have hnot : (s.busyState c op v).chanGone c = false := by
    rw [(State.accessed_busyState c op v).chanGone]
    exact decide_eq_false hgone
  dsimp only
  rw [State.trnCtlWrite_service op v hlocked, State.trnGo_walkingOne c op v hready hop hbusy hpat hlines hl hin]
  refine ⟨?_, State.stored_setStored_same c l 1 hnot⟩
  rw [State.f, State.reg_setStored_ne c l 1 (TRN_STAT_ne_MC_PD_STAT c)]
  exact State.f_setF_same _ _ (by decide) _

/-- Settles O35: GO of the channel's Service Core starts the helper, which writes its one line; TRN_DONE shows what it found. -/
theorem memoryTraining : Obligations.MemoryTraining := by
  refine ⟨fun s c v hready hgone hbusy hpat hlines hin hlocked => ?_, fun s c v hready hgone hbusy hpat hlines hin hlocked => ?_,
    fun s c v hready hbusy hlocked => ?_, fun s c bad lanes strobe hbusy hop hlen => ?_⟩
  · exact ⟨_, rfl, walkingOne_stored hready hgone (.inl rfl) hbusy hpat hlines rfl hin hlocked⟩
  · exact ⟨_, rfl, walkingOne_stored hready hgone (.inr rfl) hbusy hpat hlines rfl hin hlocked⟩
  · refine ⟨_, rfl, ?_⟩
    have hop := State.goState_op (s := s) c 1 v
    have hgo : (s.goState c 1 v).chState = s.chState := (State.accessed_goState c 1 v).chState
    rw [State.trnCtlWrite_service 1 v hlocked, State.trnGo_compare (c := c) (by rwa [hgo]) hop (by rw [State.goState_busy, hbusy])]
    refine ⟨State.f_setF_same _ _ (by decide) _, ?_, ?_⟩
    · rw [State.f_setF_ne _ _ _ _ (TRN_STAT_ne_TRN_CTL c).symm, hop]
    · rw [State.setF_dram, State.goState, State.plainWrite_TRN_CTL_dram]
  · refine ⟨_, rfl, ?_⟩
    rw [State.trnDoneOp_found bad.length lanes.toNat strobe.toNat hbusy hop]
    have hst := (TRN_LANE_ERR_ne_TRN_STAT c (s.f (R.TRN_CTL c) F.TRN_CTL_SUBCH)).symm
    obtain ⟨hb, hd, hm⟩ := State.shownDone_same (s := s) (st := R.TRN_STAT c) hlen
    refine ⟨?_, ?_, ?_, ?_, State.lanesAdded_shownDone_dram ..⟩
    · rw [State.lanesAdded_ne _ _ _ hst, hb]
    · rw [State.lanesAdded_ne _ _ _ hst, hd]
    · rw [State.lanesAdded_ne _ _ _ hst, hm]
    · rw [State.lanesAdded_lane _ lanes.isLt, State.shownDone_ne _ _ hst.symm]

/-- Settles O10: every write of a training register meets the check of R263, and GO takes no effect while the channel is READY. -/
theorem trainingRegistersOwner : Obligations.TrainingRegistersOwner := by
  have hready {s : State} {c : Chan} (op : Nat) (v : Word) (h4 : s.chState c = 4) :
      let t := s.trnCtlWrite (Sender.service (Fin.ofNat 2 (hubOfChan c))).who c (trnWord op v)
      t.dram = s.dram ∧ t.reg (R.TRN_STAT c) = s.reg (R.TRN_STAT c) ∧ s.SameRegs t [R.TRN_CTL c] := by
    dsimp only
    cases hl : s.locked with
    | true =>
      have hstay : s.trnCtlWrite (Sender.service (Fin.ofNat 2 (hubOfChan c))).who c (trnWord op v) = s := State.csGuard_serviceLocked hl _
      rw [hstay]
      exact ⟨rfl, rfl, fun _ _ => rfl⟩
    | false =>
      have hgo : (s.goState c op v).chState c = 4 := by rw [(State.accessed_goState c op v).chState, h4]
      rw [State.trnCtlWrite_service op v hl, State.trnGo_ready hgo]
      exact ⟨State.plainWrite_TRN_CTL_dram .., State.plainWrite_TRN_CTL_ne _ _ (TRN_STAT_ne_TRN_CTL c),
        fun k hk => State.plainWrite_TRN_CTL_ne _ _ (by simpa using hk)⟩
  refine ⟨fun s who off v c rel hi hlinks hoff hl hr hlo hhi hwho hf => ?_, fun s c v h4 => ⟨_, rfl, hready 0 v h4⟩,
    fun s c v h4 => ⟨_, rfl, hready 1 v h4⟩, fun s c v h4 => ⟨_, rfl, hready 2 v h4⟩⟩
  obtain ⟨at', hfail⟩ := State.csStore_trainOnly (v := v) hi hoff hl hr hlo hhi hlinks hwho hf
  refine ⟨_, rfl, ?_⟩
  rw [hfail]
  exact State.csFail_effect ..
end

section
/-! SUPPORT. What a channel serves (R244 to R255): the answer to a waiting transaction, the request a channel takes, and one line of a page
without rebuild. -/

namespace Sys2Proof.Machine

section
variable {s : State}

/-! ## The answer to a transaction that awaits more -/

/-- A transaction after an access of it came back. -/
def Txn.afterMem (t : Txn) (wr : Bool) (res : Option Line) : Txn :=
  match wr, res with
  | _, none => { t with needMem := false, wrMem := false, failed := true }
  | true, some _ => { t with wrMem := false }
  | false, some x => { t with needMem := false, memLine := some x }

theorem Txn.afterMem_key (t : Txn) (wr : Bool) (res : Option Line) :
    (t.afterMem wr res).hub = t.hub ∧ (t.afterMem wr res).slot = t.slot ∧ (t.afterMem wr res).waits = t.waits := by
  cases wr with
  | true => cases res with
    | none => exact ⟨rfl, rfl, rfl⟩
    | some x => exact ⟨rfl, rfl, rfl⟩
  | false => cases res with
    | none => exact ⟨rfl, rfl, rfl⟩
    | some x => exact ⟨rfl, rfl, rfl⟩

/-- A transaction that awaits an answer goes no further. -/
theorem State.advance_waiting {t : Txn} (h : t.waits ≠ []) : s.advance t = s := by
  have hrun : s.runTxn t = s := if_pos (by simp [h])
  rw [State.advance, hrun]
  exact if_neg (Nat.lt_irrefl _)

theorem State.served_waiting {r : ChanReq} {n : Nat} {x : Txn} (hslot : r.slot = some n) (htxn : s.txnAt r.hub n = some x) (hwaits : x.waits ≠ [])
    (res : Option Line) : s.served r res = s.setTxn (x.afterMem r.wr res) := by
  have hstays : (x.afterMem r.wr res).waits ≠ [] := by rwa [(x.afterMem_key r.wr res).2.2]
  rw [State.served, hslot]
  dsimp only
  rw [State.memBack, htxn]
  exact State.advance_waiting hstays

theorem State.txnAt_setTxn {h n : Nat} {x t : Txn} (hx : s.txnAt h n = some x) (hhub : t.hub = x.hub) (hslot : t.slot = x.slot) :
    (s.setTxn t).txnAt h n = some t := by
  have hkey : x.hub = h ∧ x.slot = n := by simpa using List.find?_some hx
  have hsame : ((fun u : Txn => u.hub = h && u.slot = n) ∘ fun u => if u.hub = t.hub && u.slot = t.slot then t else u) =
      fun u : Txn => u.hub = h && u.slot = n := by
    funext u
    by_cases hu : u.hub = t.hub && u.slot = t.slot
    · simp only [Bool.and_eq_true, decide_eq_true_eq] at hu
      simp [hu, hhub, hslot, hkey]
    · simp only [Function.comp, if_neg hu]
  unfold State.txnAt at hx ⊢
  unfold State.setTxn
  rw [State.onHome_home]
  dsimp only
  rw [List.find?_map, hsame, hx, Option.map_some, if_pos (by simp [hhub, hslot])]

theorem State.served_txnAt {r : ChanReq} {n : Nat} {x : Txn} (hslot : r.slot = some n) (htxn : s.txnAt r.hub n = some x) (hwaits : x.waits ≠ [])
    (res : Option Line) : (s.served r res).txnAt r.hub n = some (x.afterMem r.wr res) := by
  obtain ⟨hhub, hslot', -⟩ := x.afterMem_key r.wr res
  rw [State.served_waiting hslot htxn hwaits]
  exact State.txnAt_setTxn htxn hhub hslot'

/-- Serving such a request changes the homes alone. -/
theorem State.served_home {r : ChanReq} {n : Nat} {x : Txn} (hslot : r.slot = some n) (htxn : s.txnAt r.hub n = some x) (hwaits : x.waits ≠ [])
    (res : Option Line) : ∃ f, s.served r res = s.onHome f := ⟨_, State.served_waiting hslot htxn hwaits res⟩

/-! ## The request that a channel takes -/

/-- The state in which a request taken from its channel is served. -/
def State.taken (s : State) (ch : Nat) (r : ChanReq) : State := (s.cmdDone ch).unqueue r

section
variable (ch : Nat) (r : ChanReq)

theorem State.taken_stored : (s.taken ch r).stored = s.stored := rfl
theorem State.taken_pageStrength : (s.taken ch r).pageStrength = s.pageStrength := rfl
theorem State.taken_encrypt : (s.taken ch r).encrypt = s.encrypt := rfl
theorem State.taken_decrypt : (s.taken ch r).decrypt = s.decrypt := rfl
theorem State.cmdDone_nextReq : (s.cmdDone ch).nextReq = s.nextReq := rfl

end

theorem State.chanGone_ready {c : Nat} (h : s.chState c = 4) : s.chanGone c = false := decide_eq_false (by simp only [State.chState] at h; omega)

theorem State.nextReq_wr {ch : Nat} {wr : Bool} {r : ChanReq} (h : s.nextReq ch wr = some r) : r.wr = wr := by
  unfold State.nextReq at h
  split at h
  · exact absurd h (by simp)
  · split at h
    · split at h
      · rename_i q _ hq
        obtain rfl : q = r := by simpa using h
        exact hq
      · exact absurd h (by simp)
    · exact absurd h (by simp)

/-- A READY channel takes its next request: it locks the request's page, or serves it. -/
theorem State.accessOp_takes {ch : Nat} {wr : Bool} {r : ChanReq} {c l : Nat} (hready : s.chState ch = 4) (hnext : s.nextReq ch wr = some r)
    (hloc : s.chanOf (offOfLine r.line) = some (c, l)) : (s.cmdDone ch).accessOp ch wr =
      if s.needsPage r.line wr (r.full || r.poison) then (s.taken ch r).lockPage (offOfLine r.line) (s.pageStrength r.line) c l r none
      else if wr then (s.taken ch r).writeNow r else (s.taken ch r).readNow c l r := by
  have hgone : ((s.cmdDone ch).unqueue r).chanGone ch = false := State.chanGone_ready hready
  have hloc' : ((s.cmdDone ch).unqueue r).chanOf (offOfLine r.line) = some (c, l) := hloc
  have hneeds : ((s.cmdDone ch).unqueue r).needsPage r.line wr (r.full || r.poison) = s.needsPage r.line wr (r.full || r.poison) := rfl
  have hstrength : ((s.cmdDone ch).unqueue r).pageStrength r.line = s.pageStrength r.line := rfl
  rw [State.accessOp, State.cmdDone_nextReq, hnext]
  dsimp only
  rw [hgone, if_neg Bool.false_ne_true, hloc']
  dsimp only
  rw [hneeds, hstrength]
  rfl

/-! ## Reading one line (R244) -/

section
variable {c l : Nat}

theorem State.readLine_clean (hgone : s.chanGone c = false) (h : lineDecode (s.stored c l) (s.devOut c l) = .clean) :
    s.readLine c l = (s.wakeRank c (s.rankOf c l), .clean, s.stored c l) := by
  have hout : (s.wakeRank c (s.rankOf c l)).devOut = s.devOut := (State.accessed_wakeRank c _).devOut
  rw [State.readLine, hgone, if_neg Bool.false_ne_true]
  dsimp only
  rw [hout, h]

theorem State.readLine_poisoned (hgone : s.chanGone c = false) (h : lineDecode (s.stored c l) (s.devOut c l) = .poisoned) :
    s.readLine c l = (s.wakeRank c (s.rankOf c l), .poisoned, poisonMarker) := by
  have hout : (s.wakeRank c (s.rankOf c l)).devOut = s.devOut := (State.accessed_wakeRank c _).devOut
  rw [State.readLine, hgone, if_neg Bool.false_ne_true]
  dsimp only
  rw [hout, h]

theorem State.readLine_failed (hgone : s.chanGone c = false) (h : lineDecode (s.stored c l) (s.devOut c l) = .failed) :
    s.readLine c l = (s.wakeRank c (s.rankOf c l), .failed, s.stored c l) := by
  have hout : (s.wakeRank c (s.rankOf c l)).devOut = s.devOut := (State.accessed_wakeRank c _).devOut
  rw [State.readLine, hgone, if_neg Bool.false_ne_true]
  dsimp only
  rw [hout, h]

theorem State.readLine_corrected {dev : Nat} {y : Stored} (hgone : s.chanGone c = false)
    (h : lineDecode (s.stored c l) (s.devOut c l) = .corrected dev y) :
    s.readLine c l = (((s.wakeRank c (s.rankOf c l)).setStored c l y).countDev c l dev, .clean, y) := by
  have hout : (s.wakeRank c (s.rankOf c l)).devOut = s.devOut := (State.accessed_wakeRank c _).devOut
  rw [State.readLine, hgone, if_neg Bool.false_ne_true]
  dsimp only
  rw [hout, h]

/-- A read needs its page's lines where its own line fails, is not given up, and lies in a page with parity. -/
theorem State.needsPage_read {line : Nat} (hloc : s.chanOf (offOfLine line) = some (c, l)) (full : Bool) : s.needsPage line false full =
    (s.pageStrength line != 0 && ((s.chanGone c || lineDecode (s.stored c l) (s.devOut c l) = .failed) && !s.isLost c l)) := by
  rw [State.needsPage]
  dsimp only
  rw [hloc]
  dsimp only
  rw [Bool.false_and, Bool.false_and, Bool.or_false]

/-- A served read: the request taken, and its line read. -/
theorem State.dramRead_serves {ch : Nat} {r : ChanReq} (hready : s.chState ch = 4) (hnext : s.nextReq ch false = some r)
    (hloc : s.chanOf (offOfLine r.line) = some (c, l)) (hneeds : s.needsPage r.line false (r.full || r.poison) = false) :
    (s.cmdDone ch).dramReadOp ch = (s.taken ch r).readNow c l r := by
  rw [State.dramReadOp, State.accessOp_takes hready hnext hloc, hneeds, if_neg Bool.false_ne_true, if_neg Bool.false_ne_true]

section
variable {t : State} {x : Stored} (r : ChanReq)

theorem State.readNow_clean (h : s.readLine c l = (t, .clean, x)) : s.readNow c l r = t.giveLine r x := by rw [State.readNow, h]

theorem State.readNow_poisoned (h : s.readLine c l = (t, .poisoned, x)) :
    s.readNow c l r = (t.record E.POISON_ACCESS 2 r.hub [r.part] (some (r.line * 64))).served r none := by rw [State.readNow, h]

theorem State.readNow_failed (h : s.readLine c l = (t, .failed, x)) :
    s.readNow c l r = (t.memUe c l (some (r.line * 64)) r.part).served r none := by rw [State.readNow, h]

end

/-! ## Counts and records of a line -/

theorem State.onHome_stored (f : HomeSt → HomeSt) : (s.onHome f).stored = s.stored := rfl

theorem State.setStored_devCnt (x : Stored) : (s.setStored c l x).dram.devCnt = s.dram.devCnt := by
  unfold State.setStored
  split
  · rfl
  · rw [State.onDram_dram, State.wakeRank_dram]

theorem State.incF_dram (off : Nat) (fl : Fld) (n : Nat) : (s.incF off fl n).dram = s.dram := rfl

theorem State.countDev_stored (dev : Nat) : (s.countDev c l dev).stored = s.stored := by
  unfold State.countDev State.stored
  dsimp only
  rw [State.onDram_dram, State.incF_dram]

theorem State.countDev_corrDev (dev : Nat) : (s.countDev c l dev).f (R.MC_ERR_CNT c) F.MC_ERR_CNT_CORR_DEV =
    min (s.f (R.MC_ERR_CNT c) F.MC_ERR_CNT_CORR_DEV + 1) F.MC_ERR_CNT_CORR_DEV.max := by
  rw [State.countDev, State.onDram_f, State.f_incF_same _ (by decide)]

theorem State.countDev_devCnt (dev : Nat) : (s.countDev c l dev).dram.devCnt.get (devKey c (s.rankOf c l) (subchOf l) dev) =
    s.dram.devCnt.get (devKey c (s.rankOf c l) (subchOf l) dev) + 1 := by
  have hrank : (s.incF (R.MC_ERR_CNT c) F.MC_ERR_CNT_CORR_DEV).rankOf = s.rankOf := (State.accessed_incF (MC_ERR_CNT_upkeep c) _ _).rankOf
  rw [State.countDev, State.onDram_dram, hrank, SMap.get_upd, if_pos rfl, State.incF_dram]

/-- An uncorrectable read changes registers and records alone. -/
theorem State.memUe_dram (addr : Option Nat) (part : Nat) : (s.memUe c l addr part).dram = s.dram := by
  unfold State.memUe
  dsimp only
  rw [State.record_dram, State.setReg_dram, State.setF_dram, State.setF_dram, State.setF_dram, State.incF_dram]

theorem State.memUe_logged (addr : Option Nat) (part : Nat) : (s.memUe c l addr part).Logged E.MEM_UE 3 c :=
  State.record_logged _ _ _ _ _ _

theorem MC_ERR_CNT_ne_MC_UE_SYN (c : Nat) : R.MC_ERR_CNT c ≠ R.MC_UE_SYN c := by simp only [R.MC_ERR_CNT, R.MC_UE_SYN]; omega
theorem MC_ERR_CNT_ne_MC_UE_LAST (c : Nat) : R.MC_ERR_CNT c ≠ R.MC_UE_LAST c := by simp only [R.MC_ERR_CNT, R.MC_UE_LAST]; omega
theorem MC_ERR_CNT_ne_MC_PD_STAT (c : Nat) : R.MC_ERR_CNT c ≠ R.MC_PD_STAT c := by simp only [R.MC_ERR_CNT, R.MC_PD_STAT]; omega

theorem State.memUe_count (addr : Option Nat) (part : Nat) : (s.memUe c l addr part).f (R.MC_ERR_CNT c) F.MC_ERR_CNT_UE =
    min (s.f (R.MC_ERR_CNT c) F.MC_ERR_CNT_UE + 1) F.MC_ERR_CNT_UE.max := by
  unfold State.memUe
  dsimp only
  rw [State.record_f, State.f_setReg_ne _ _ _ (MC_ERR_CNT_ne_MC_UE_SYN c), State.f_setF_ne _ _ _ _ (MC_ERR_CNT_ne_MC_UE_LAST c),
    State.f_setF_ne _ _ _ _ (MC_ERR_CNT_ne_MC_UE_LAST c), State.f_setF_ne _ _ _ _ (MC_ERR_CNT_ne_MC_UE_LAST c), State.f_incF_same _ (by decide)]

end

/-! ## DRAM_READ of a transaction's line -/

section
variable {ch : Chan} {r : ChanReq} {l : Nat} (hready : s.chState ch = 4) (hloc : s.chanOf (offOfLine r.line) = some (ch.val, l))
include hready hloc

theorem State.needsPage_readable (h : lineDecode (s.stored ch l) (s.devOut ch l) ≠ .failed) :
    s.needsPage r.line false (r.full || r.poison) = false := by
  rw [State.needsPage_read hloc, State.chanGone_ready hready, decide_eq_false h]
  simp

omit hready in
theorem State.needsPage_unprotected (h : s.pageStrength r.line = 0) : s.needsPage r.line false (r.full || r.poison) = false := by
  rw [State.needsPage_read hloc, h]
  simp

variable (hnext : s.nextReq ch false = some r)
include hnext

/-- The state in which the request taken reads its line. -/
def State.awake (s : State) (ch : Chan) (r : ChanReq) (l : Nat) : State := (s.taken ch r).wakeRank ch (s.rankOf ch l)

omit hready hloc hnext in
theorem State.accessed_awake : (s.taken ch r).Accessed (s.awake ch r l) := State.accessed_wakeRank ..

omit hready hloc hnext in
theorem State.awake_dram : (s.awake ch r l).dram = (s.taken ch r).dram := State.wakeRank_dram ..

variable {x : Txn} {n : Nat} (hslot : r.slot = some n) (htxn : s.txnAt r.hub n = some x) (hwaits : x.waits ≠ [])
include hslot htxn hwaits

theorem State.dramRead_clean (hdec : lineDecode (s.stored ch l) (s.devOut ch l) = .clean) : let t := (s.cmdDone ch).dramReadOp ch
    t.dram.queue = s.dram.queue.erase r ∧ t.dram.mem = s.dram.mem ∧
      t.txnAt r.hub n = some { x with needMem := false, memLine := some (s.decrypt r.line (storedData (s.stored ch l))) } := by
  have hneeds := State.needsPage_readable hready hloc (by rw [hdec]; decide)
  have hread : (s.taken ch r).readLine ch l = (s.awake ch r l, .clean, s.stored ch l) := State.readLine_clean (State.chanGone_ready hready) hdec
  have hx : (s.awake ch r l).txnAt r.hub n = some x := by rwa [State.accessed_awake.txnAt]
  have hplain : (s.awake ch r l).decrypt = s.decrypt := State.accessed_awake.decrypt
  obtain ⟨f, hf⟩ := State.served_home hslot hx hwaits (some (s.decrypt r.line (storedData (s.stored ch l))))
  dsimp only
  rw [State.dramRead_serves hready hnext hloc hneeds, State.readNow_clean r hread, State.giveLine, hplain]
  refine ⟨?_, ?_, ?_⟩
  · rw [hf, State.onHome_dram, State.awake_dram]
    rfl
  · rw [hf, State.onHome_dram, State.awake_dram]
    rfl
  · rw [State.served_txnAt hslot hx hwaits, State.nextReq_wr hnext]
    rfl

theorem State.dramRead_corrected {dev : Nat} {y : Stored} (hdec : lineDecode (s.stored ch l) (s.devOut ch l) = .corrected dev y) :
    let t := (s.cmdDone ch).dramReadOp ch
    t.stored ch l = y ∧
      t.f (R.MC_ERR_CNT ch) F.MC_ERR_CNT_CORR_DEV = min (s.f (R.MC_ERR_CNT ch) F.MC_ERR_CNT_CORR_DEV + 1) F.MC_ERR_CNT_CORR_DEV.max ∧
      t.dram.devCnt.get (devKey ch (s.rankOf ch l) (subchOf l) dev) = s.dram.devCnt.get (devKey ch (s.rankOf ch l) (subchOf l) dev) + 1 ∧
      t.txnAt r.hub n = some { x with needMem := false, memLine := some (s.decrypt r.line (storedData y)) } := by
  have hneeds := State.needsPage_readable hready hloc (by rw [hdec]; exact nofun)
  have hgone : (s.awake ch r l).chanGone ch = false := by
    rw [State.accessed_awake.chanGone]
    exact State.chanGone_ready hready
  have hstored : (s.awake ch r l).Accessed ((s.awake ch r l).setStored ch l y) := State.accessed_setStored ..
  have hwritten : (s.taken ch r).Accessed (((s.awake ch r l).setStored ch l y).countDev ch l dev) :=
    (State.accessed_awake.trans hstored).trans (State.accessed_countDev ..)
  have hread : (s.taken ch r).readLine ch l = (((s.awake ch r l).setStored ch l y).countDev ch l dev, .clean, y) :=
    State.readLine_corrected (State.chanGone_ready hready) hdec
  have hx : (((s.awake ch r l).setStored ch l y).countDev ch l dev).txnAt r.hub n = some x := by rwa [hwritten.txnAt]
  have hplain : (((s.awake ch r l).setStored ch l y).countDev ch l dev).decrypt = s.decrypt := hwritten.decrypt
  have hrank : ((s.awake ch r l).setStored ch l y).rankOf = s.rankOf := (State.accessed_awake.trans hstored).rankOf
  obtain ⟨f, hf⟩ := State.served_home hslot hx hwaits (some (s.decrypt r.line (storedData y)))
  dsimp only
  rw [State.dramRead_serves hready hnext hloc hneeds, State.readNow_clean r hread, State.giveLine, hplain]
  refine ⟨?_, ?_, ?_, ?_⟩
  · rw [hf, State.onHome_stored, State.countDev_stored, State.stored_setStored_same _ _ _ hgone]
  · rw [hf, State.onHome_f, State.countDev_corrDev, State.f, State.reg_setStored_ne _ _ _ (MC_ERR_CNT_ne_MC_PD_STAT ch), State.awake,
      State.reg_wakeRank_ne _ _ (MC_ERR_CNT_ne_MC_PD_STAT ch)]
    rfl
  · rw [hf, State.onHome_dram, ← hrank, State.countDev_devCnt]
    rw [State.setStored_devCnt, State.awake_dram]
    rfl
  · rw [State.served_txnAt hslot hx hwaits, State.nextReq_wr hnext]
    rfl

theorem State.dramRead_poisoned (hdec : lineDecode (s.stored ch l) (s.devOut ch l) = .poisoned) :
    let t := (s.cmdDone ch).dramReadOp ch
    t.Logged E.POISON_ACCESS 2 r.hub ∧ t.dram.mem = s.dram.mem ∧
      t.txnAt r.hub n = some { x with needMem := false, wrMem := false, failed := true } := by
  have hneeds := State.needsPage_readable hready hloc (by rw [hdec]; exact nofun)
  have hread : (s.taken ch r).readLine ch l = (s.awake ch r l, .poisoned, poisonMarker) := State.readLine_poisoned (State.chanGone_ready hready) hdec
  have hrecord := State.accessed_record (s := s.awake ch r l) E.POISON_ACCESS 2 r.hub [r.part] (some (r.line * 64)) 0
  have hx : ((s.awake ch r l).record E.POISON_ACCESS 2 r.hub [r.part] (some (r.line * 64))).txnAt r.hub n = some x := by
    rwa [hrecord.txnAt, State.accessed_awake.txnAt]
  obtain ⟨f, hf⟩ := State.served_home hslot hx hwaits none
  dsimp only
  rw [State.dramRead_serves hready hnext hloc hneeds, State.readNow_poisoned r hread]
  refine ⟨?_, ?_, ?_⟩
  · rw [hf]
    exact State.Logged.of_logs (State.record_logged _ _ _ _ _ _) rfl rfl
  · rw [hf, State.onHome_dram, State.record_dram, State.awake_dram]
    rfl
  · rw [State.served_txnAt hslot hx hwaits, State.nextReq_wr hnext]
    rfl

theorem State.dramRead_uncorrectable (hdec : lineDecode (s.stored ch l) (s.devOut ch l) = .failed) (hs : s.pageStrength r.line = 0) :
    let t := (s.cmdDone ch).dramReadOp ch
    t.Logged E.MEM_UE 3 ch ∧ t.f (R.MC_ERR_CNT ch) F.MC_ERR_CNT_UE = min (s.f (R.MC_ERR_CNT ch) F.MC_ERR_CNT_UE + 1) F.MC_ERR_CNT_UE.max ∧
      t.dram.mem = s.dram.mem ∧ t.txnAt r.hub n = some { x with needMem := false, wrMem := false, failed := true } := by
  have hneeds := State.needsPage_unprotected hloc hs
  have hread : (s.taken ch r).readLine ch l = (s.awake ch r l, .failed, s.stored ch l) := State.readLine_failed (State.chanGone_ready hready) hdec
  have hue := State.accessed_memUe (s := s.awake ch r l) ch l (some (r.line * 64)) r.part
  have hx : ((s.awake ch r l).memUe ch l (some (r.line * 64)) r.part).txnAt r.hub n = some x := by rwa [hue.txnAt, State.accessed_awake.txnAt]
  obtain ⟨f, hf⟩ := State.served_home hslot hx hwaits none
  dsimp only
  rw [State.dramRead_serves hready hnext hloc hneeds, State.readNow_failed r hread]
  refine ⟨?_, ?_, ?_, ?_⟩
  · rw [hf]
    exact State.Logged.of_logs (State.memUe_logged _ _) rfl rfl
  · rw [hf, State.onHome_f, State.memUe_count, State.f, State.awake, State.reg_wakeRank_ne _ _ (MC_ERR_CNT_ne_MC_PD_STAT ch)]
    rfl
  · rw [hf, State.onHome_dram, State.memUe_dram, State.awake_dram]
    rfl
  · rw [State.served_txnAt hslot hx hwaits, State.nextReq_wr hnext]
    rfl

end

/-! ## A page locked for its rebuild (R249, R251) -/

theorem State.pageOf_of_chanOf {off c l : Nat} (h : s.chanOf off = some (c, l)) : ∃ g P i, s.pageOf off = some (g, P, i) := by
  rw [State.pageOf, h]
  dsimp only
  split
  · exact ⟨_, _, _, rfl⟩
  · exact ⟨_, _, _, rfl⟩

/-- The lock that lockPage adds. -/
def State.newLock (s : State) (off n c l : Nat) (r : ChanReq) (own : Option Nat) (g P : Nat) : PageLock :=
  { group := g, page := P, req := r, own := own, reads := s.pageReads off n (c, l), done := false }

theorem State.lockPage_eq {off g P i : Nat} (h : s.pageOf off = some (g, P, i)) (n c l : Nat) (r : ChanReq) (own : Option Nat) :
    s.lockPage off n c l r own = s.onDram fun d => { d with locks := d.locks ++ [s.newLock off n c l r own g P] } := by
  rw [State.lockPage, h]
  rfl

theorem State.pageLocked_of_lock {off g P i : Nat} {k : PageLock} (h : s.pageOf off = some (g, P, i)) (hk : k ∈ s.dram.locks) (hg : k.group = g)
    (hP : k.page = P) : s.pageLocked off = true := by
  rw [State.pageLocked, h]
  exact List.any_eq_true.mpr ⟨k, hk, by simp [hg, hP]⟩

theorem State.lockPage_locked {off g P i : Nat} (hpage : s.pageOf off = some (g, P, i)) (n c l : Nat) (r : ChanReq) (own : Option Nat) :
    (s.lockPage off n c l r own).pageLocked off = true := by
  rw [State.lockPage_eq hpage]
  refine State.pageLocked_of_lock (k := s.newLock off n c l r own g P) hpage ?_ rfl rfl
  rw [State.onDram_dram]
  exact List.mem_append_right _ (List.mem_singleton.mpr rfl)

/-- Locking a page adds one lock, and changes nothing else. -/
theorem State.lockPage_adds {off g P i : Nat} (hpage : s.pageOf off = some (g, P, i)) (n c l : Nat) (r : ChanReq) (own : Option Nat) :
    ∃ k : PageLock, s.lockPage off n c l r own = s.onDram (fun d => { d with locks := d.locks ++ [k] }) ∧ k.req = r ∧ k.own = own ∧ k.done = false :=
  ⟨_, State.lockPage_eq hpage .., rfl, rfl, rfl⟩

theorem State.dramRead_locks {ch : Chan} {r : ChanReq} {l : Nat} (hready : s.chState ch = 4) (hnext : s.nextReq ch false = some r)
    (hloc : s.chanOf (offOfLine r.line) = some (ch.val, l)) (hdec : lineDecode (s.stored ch l) (s.devOut ch l) = .failed)
    (hs : s.pageStrength r.line ≠ 0) (hlost : s.isLost ch l = false) : (s.cmdDone ch).dramReadOp ch =
      (s.taken ch r).lockPage (offOfLine r.line) (s.pageStrength r.line) ch l r none := by
  have hneeds : s.needsPage r.line false (r.full || r.poison) = true := by
    rw [State.needsPage_read hloc, hdec, hlost]
    simp [hs]
  rw [State.dramReadOp, State.accessOp_takes hready hnext hloc, hneeds, if_pos rfl]

/-! ## A device mapped out (R245) -/

/-- Eight bits that were 0 read what is put there. -/
theorem bits_or_same {w : Word} {lo v : Nat} (hlo : lo + 8 ≤ 64) (hv : v < 2 ^ 8) (hw : bits w lo 8 = 0) :
    bits (w ||| BitVec.ofNat 64 (v <<< lo)) lo 8 = v := by
  have hfit : v <<< lo < 2 ^ 64 := by
    rw [Nat.shiftLeft_eq]
    calc v * 2 ^ lo < 2 ^ 8 * 2 ^ lo := Nat.mul_lt_mul_of_pos_right hv (Nat.two_pow_pos _)
      _ = 2 ^ (8 + lo) := (Nat.pow_add ..).symm
      _ ≤ 2 ^ 64 := Nat.pow_le_pow_right (by decide) (by omega)
  unfold bits at hw ⊢
  rw [BitVec.toNat_or, BitVec.toNat_ofNat, Nat.mod_eq_of_lt hfit, Nat.shiftRight_or_distrib, Nat.or_mod_two_pow, hw, Nat.shiftLeft_shiftRight,
    Nat.zero_or, Nat.mod_eq_of_lt hv]

/-- Mapping a device out sets its byte of MC_DEV_OUT, and records it. -/
theorem State.mapOutDev_effect {c rank sub dev : Nat} (hrank : rank < 4) (hsub : sub < 2) (hdev : dev < 10)
    (hfree : bits (s.reg (R.MC_DEV_OUT c)) (8 * (2 * rank + sub)) 8 = 0) : let t := s.mapOutDev c rank sub dev
    bits (t.reg (R.MC_DEV_OUT c)) (8 * (2 * rank + sub)) 8 = 128 + dev ∧ t.Logged E.MEM_DEV_OUT 3 c ∧ s.SameRegs t [R.MC_DEV_OUT c] ∧
      t.dram = s.dram := by
  have hset : s.mapOutDev c rank sub dev = (s.setReg (R.MC_DEV_OUT c)
      (s.reg (R.MC_DEV_OUT c) ||| BitVec.ofNat 64 ((128 + dev) <<< (8 * (2 * rank + sub))))).record E.MEM_DEV_OUT 3 c [] none
        (rank % 4 + sub % 2 * 4 + dev % 16 * 16) := by
    rw [State.mapOutDev]
    exact if_neg (by rw [hfree]; decide)
  dsimp only
  rw [hset]
  refine ⟨?_, State.record_logged _ _ _ _ _ _, fun k hk => ?_, ?_⟩
  · rw [State.record_reg, State.reg_setReg_same, bits_or_same (by omega) (by omega) hfree]
  · rw [State.record_reg, State.reg_setReg_ne _ _ (by simpa using hk)]
  · rw [State.record_dram, State.setReg_dram]

/-! ## MEM_PAGE_REBUILD (R249, R250) -/

/-- A lock whose page reads are complete is done, and its request served. -/
theorem State.rebuildOp_serves {ch : Nat} {k : PageLock} {c l : Nat}
    (hk : s.dram.locks.find? (fun k => k.req.ch = ch && !k.done && k.reads = []) = some k) (hown : k.own = none) (hwr : k.req.wr = false)
    (hloc : s.chanOf (offOfLine k.req.line) = some (c, l)) : s.rebuildOp ch = (s.lockDone k).rebuiltRead c l k.req := by
  have hloc' : (s.lockDone k).chanOf (offOfLine k.req.line) = some (c, l) := hloc
  rw [State.rebuildOp, hk]
  dsimp only
  rw [hown, hloc']
  dsimp only
  rw [hwr, if_neg Bool.false_ne_true]

theorem State.lockDone_mem {k : PageLock} (h : k ∈ s.dram.locks) : { k with done := true } ∈ (s.lockDone k).dram.locks :=
  List.mem_map.mpr ⟨k, h, if_pos rfl⟩

theorem State.lockDone_length (k : PageLock) : (s.lockDone k).dram.locks.length = s.dram.locks.length := List.length_map _

/-- A request for nobody is served by accesses alone, which leave the locks as they are. -/
theorem State.rebuildOp_locks {ch : Nat} {k : PageLock} (hk : s.dram.locks.find? (fun k => k.req.ch = ch && !k.done && k.reads = []) = some k)
    (hslot : k.req.slot = none) : (s.rebuildOp ch).dram.locks = (s.lockDone k).dram.locks := by
  rw [State.rebuildOp, hk]
  dsimp only
  split
  · exact (State.accessed_rebuiltScrub ..).locks
  · rfl
  · exact (State.Accessed.of_ite (State.accessed_writeNow hslot) (State.accessed_rebuiltRead hslot ..)).locks

/-- What a failed read is given: its line where the page is solved, else nothing. -/
theorem State.rebuiltRead_of_rebuild {c l : Nat} {r : ChanReq} {u : State} {res : Option Nat}
    (h : s.rebuildPage (offOfLine r.line) (s.pageStrength r.line) (some (c, l)) = (u, res)) :
    (∀ cnt, res = some cnt → s.rebuiltRead c l r =
      (u.record E.MEM_PAGE_REBUILD 3 c [r.part] (some (r.line * 64)) (cnt % 16)).giveLine r (u.stored c l)) ∧
    (res = none → s.rebuiltRead c l r = (u.memUe c l (some (r.line * 64)) r.part).served r none) := by
  rw [State.rebuiltRead, h]
  refine ⟨fun cnt hres => ?_, fun hres => ?_⟩
  · rw [hres]
  · rw [hres]

section
variable {u : State} {ch : Nat} {k : PageLock} {c l : Nat} {x : Txn} {n : Nat}
  (hk : s.dram.locks.find? (fun k => k.req.ch = ch && !k.done && k.reads = []) = some k) (hown : k.own = none) (hwr : k.req.wr = false)
  (hloc : s.chanOf (offOfLine k.req.line) = some (c, l)) (hslot : k.req.slot = some n) (htxn : s.txnAt k.req.hub n = some x) (hwaits : x.waits ≠ [])
include hk hown hwr hloc hslot htxn hwaits

theorem State.rebuildOp_solved {cnt : Nat}
    (hbuild : (s.lockDone k).rebuildPage (offOfLine k.req.line) (s.pageStrength k.req.line) (some (c, l)) = (u, some cnt)) :
    let t := s.rebuildOp ch
    { k with done := true } ∈ t.dram.locks ∧ t.Logged E.MEM_PAGE_REBUILD 3 c ∧ t.dram.mem = u.dram.mem ∧
      t.txnAt k.req.hub n = some { x with needMem := false, memLine := some (u.decrypt k.req.line (storedData (u.stored c l))) } := by
  have hacc : (s.lockDone k).Accessed u := .of_fst hbuild (State.accessed_rebuildPage ..)
  have hrecord := State.accessed_record (s := u) E.MEM_PAGE_REBUILD 3 c [k.req.part] (some (k.req.line * 64)) (cnt % 16)
  have hx : (u.record E.MEM_PAGE_REBUILD 3 c [k.req.part] (some (k.req.line * 64)) (cnt % 16)).txnAt k.req.hub n = some x := by
    rw [hrecord.txnAt, hacc.txnAt]
    exact htxn
  have hbuild' : (s.lockDone k).rebuildPage (offOfLine k.req.line) ((s.lockDone k).pageStrength k.req.line) (some (c, l)) = (u, some cnt) := hbuild
  obtain ⟨f, hf⟩ := State.served_home hslot hx hwaits (some (u.decrypt k.req.line (storedData (u.stored c l))))
  dsimp only
  rw [State.rebuildOp_serves hk hown hwr hloc, (State.rebuiltRead_of_rebuild hbuild').left cnt rfl, State.giveLine, hrecord.decrypt]
  refine ⟨?_, ?_, ?_, ?_⟩
  · rw [hf, State.onHome_dram, State.record_dram, hacc.locks]
    exact State.lockDone_mem (List.mem_of_find?_eq_some hk)
  · rw [hf]
    exact State.Logged.of_logs (State.record_logged _ _ _ _ _ _) rfl rfl
  · rw [hf, State.onHome_dram, State.record_dram]
  · rw [State.served_txnAt hslot hx hwaits, hwr]
    rfl

theorem State.rebuildOp_beyond
    (hbuild : (s.lockDone k).rebuildPage (offOfLine k.req.line) (s.pageStrength k.req.line) (some (c, l)) = (u, none)) :
    let t := s.rebuildOp ch
    { k with done := true } ∈ t.dram.locks ∧ t.Logged E.MEM_UE 3 c ∧
      t.f (R.MC_ERR_CNT c) F.MC_ERR_CNT_UE = min (u.f (R.MC_ERR_CNT c) F.MC_ERR_CNT_UE + 1) F.MC_ERR_CNT_UE.max ∧ t.dram.mem = u.dram.mem ∧
      t.txnAt k.req.hub n = some { x with needMem := false, wrMem := false, failed := true } := by
  have hacc : (s.lockDone k).Accessed u := .of_fst hbuild (State.accessed_rebuildPage ..)
  have hue := State.accessed_memUe (s := u) c l (some (k.req.line * 64)) k.req.part
  have hx : (u.memUe c l (some (k.req.line * 64)) k.req.part).txnAt k.req.hub n = some x := by
    rw [hue.txnAt, hacc.txnAt]
    exact htxn
  have hbuild' : (s.lockDone k).rebuildPage (offOfLine k.req.line) ((s.lockDone k).pageStrength k.req.line) (some (c, l)) = (u, none) := hbuild
  obtain ⟨f, hf⟩ := State.served_home hslot hx hwaits none
  dsimp only
  rw [State.rebuildOp_serves hk hown hwr hloc, (State.rebuiltRead_of_rebuild hbuild').right rfl]
  refine ⟨?_, ?_, ?_, ?_, ?_⟩
  · rw [hf, State.onHome_dram, State.memUe_dram, hacc.locks]
    exact State.lockDone_mem (List.mem_of_find?_eq_some hk)
  · rw [hf]
    exact State.Logged.of_logs (State.memUe_logged _ _) rfl rfl
  · rw [hf, State.onHome_f, State.memUe_count]
  · rw [hf, State.onHome_dram, State.memUe_dram]
  · rw [State.served_txnAt hslot hx hwaits, hwr]
    rfl

end

/-! ## Writing one line (R252) -/

/-- The bytes that a full mask spreads to, below the nth. -/
theorem spread_bytes_below {n : Nat} (hn : n ≤ 64) : (List.range n).foldl (fun (a : Line) i =>
    if fullMask.toNat.testBit i then a ||| BitVec.ofNat 512 (255 <<< (8 * i)) else a) 0 = BitVec.ofNat 512 (2 ^ (8 * n) - 1) := by
  induction n with
  | zero => rfl
  | succ n ih =>
    have hbit : fullMask.toNat.testBit n = true := by
      rw [fullMask, BitVec.toNat_allOnes, Nat.testBit_two_pow_sub_one, decide_eq_true (by omega)]
    have hpos : 0 < 2 ^ (8 * n) := Nat.two_pow_pos _
    have hstep : 2 ^ (8 * n) - 1 ||| 255 <<< (8 * n) = 2 ^ (8 * (n + 1)) - 1 := by
      rw [Nat.lor_comm, Nat.shiftLeft_eq, Nat.mul_comm, ← Nat.two_pow_add_eq_or_of_lt (Nat.sub_lt hpos Nat.one_pos), Nat.mul_add, Nat.pow_add]
      omega
    rw [List.range_succ, List.foldl_append, ih (by omega), List.foldl_cons, List.foldl_nil, if_pos hbit, ← BitVec.ofNat_or, hstep]

theorem ofNat_two_pow_sub_one {w n : Nat} (h : n = w) : BitVec.ofNat w (2 ^ n - 1) = BitVec.allOnes w := by
  subst h
  refine BitVec.eq_of_toNat_eq ?_
  rw [BitVec.toNat_ofNat, BitVec.toNat_allOnes, Nat.mod_eq_of_lt (Nat.sub_lt (Nat.two_pow_pos _) Nat.one_pos)]

theorem spread_fullMask : spread fullMask = BitVec.allOnes 512 := (spread_bytes_below (Nat.le_refl 64)).trans (ofNat_two_pow_sub_one rfl)

theorem merge_fullMask (old new : Line) : merge old new fullMask = new := by
  rw [merge, spread_fullMask, BitVec.not_allOnes, BitVec.and_zero, BitVec.and_allOnes, BitVec.zero_or]

section
variable {line c l g P i : Nat} (hloc : s.chanOf (offOfLine line) = some (c, l)) (hpage : s.pageOf (offOfLine line) = some (g, P, i))
include hloc hpage

/-- A full line of strength 0 is written whatever it held. -/
theorem State.writeLine_whole (hs : s.pageStrength line = 0) (part : Nat) (new : Line → Stored) :
    s.writeLine line true part new = (s.setStored c l (new 0), .done) := by
  rw [State.writeLine, hloc, hpage]
  dsimp only
  rw [hs]
  rfl

omit hpage in
/-- A clean line is its own old line. -/
theorem State.oldLine_of_clean {n c' l' : Nat} {full : Bool} {part : Nat} {p : State × Option Nat} {t t' u : State} {r r' : LineRes} {x x' y : Stored}
    (hread : s.readLine c l = (t, .clean, x)) (hloc' : s.chanOf (offOfLine line) = some (c', l')) (hread' : s.readLine c' l' = (t', r, x'))
    (hold : t'.oldLine p line n c' l' full part r x' = (u, r', y)) : c' = c ∧ l' = l ∧ u = t ∧ r' = .clean ∧ y = x := by
  rw [hloc] at hloc'
  cases hloc'
  rw [hread] at hread'
  cases hread'
  have hself : (t, LineRes.clean, x) = (u, r', y) := hold
  cases hself
  exact ⟨rfl, rfl, rfl, rfl, rfl⟩

omit hpage in
theorem State.oldLine_only_clean {n c' l' : Nat} {full : Bool} {part : Nat} {p : State × Option Nat} {t t' u : State} {r r' : LineRes}
    {x x' y : Stored} (hread : s.readLine c l = (t, .clean, x)) (hloc' : s.chanOf (offOfLine line) = some (c', l'))
    (hread' : s.readLine c' l' = (t', r, x')) (hold : t'.oldLine p line n c' l' full part r x' = (u, r', y)) (hres : r' ≠ .clean) : False :=
  hres (State.oldLine_of_clean hloc hread hloc' hread' hold).2.2.2.1

/-- A write over a clean line whose rows are good. -/
theorem State.writeLine_over {full : Bool} {part : Nat} {t v : State} {x : Stored} (hpart : (decide (s.pageStrength line = 0) && full) = false)
    (hread : s.readLine c l = (t, .clean, x))
    (hmend : t.mendRows (offOfLine line) (s.pageStrength line) c (line * 64) part = (v, false)) (new : Line → Stored) :
    s.writeLine line full part new =
      (v.putLine (offOfLine line) c l (s.pageStrength line) i x (new (t.decrypt line (storedData x))), .done) := by
  fun_cases State.writeLine s line full part new with
  | case1 off c' l' _ _ i' _ hc n hwhole => exact absurd (hpart.symm.trans hwhole) Bool.false_ne_true
  | case2 off c' l' _ _ i' _ hc n _ t' r x' hr u y _ w hold =>
    generalize t'.rebuildPage off n (some (c', l')) = p at hold
    exact (State.oldLine_only_clean hloc hread hc hr hold nofun).elim
  | case3 off c' l' _ _ i' _ hc n _ t' r x' hr u y _ hold =>
    generalize t'.rebuildPage off n (some (c', l')) = p at hold
    exact (State.oldLine_only_clean hloc hread hc hr hold nofun).elim
  | case4 off c' l' _ _ i' _ hc n _ t' r x' hr u y _ w _ hold =>
    generalize t'.rebuildPage off n (some (c', l')) = p at hold
    exact (State.oldLine_only_clean hloc hread hc hr hold nofun).elim
  | case5 off c' l' _ _ i' _ hc n _ t' r x' hr u y _ w _ hold =>
    generalize t'.rebuildPage off n (some (c', l')) = p at hold
    exact (State.oldLine_only_clean hloc hread hc hr hold nofun).elim
  | case6 off c' l' _ _ i' _ hc n _ t' r x' hr u y _ hold =>
    generalize t'.rebuildPage off n (some (c', l')) = p at hold
    exact (State.oldLine_only_clean hloc hread hc hr hold nofun).elim
  | case7 off c' l' _ _ i' _ hc n _ t' r x' hr u r' y hold _ w hmend' =>
    generalize t'.rebuildPage off n (some (c', l')) = p at hold
    obtain ⟨rfl, rfl, rfl, -, -⟩ := State.oldLine_of_clean hloc hread hc hr hold
    exact nomatch hmend.symm.trans hmend'
  | case8 off c' l' g' P' i' hp hc n _ t' r x' hr u r' y hold _ w hmend' =>
    generalize t'.rebuildPage off n (some (c', l')) = p at hold
    obtain ⟨rfl, rfl, rfl, -, rfl⟩ := State.oldLine_of_clean hloc hread hc hr hold
    cases hmend.symm.trans hmend'
    cases hpage.symm.trans hp
    rfl
  | case9 off hnone => exact absurd hpage (hnone _ _ _ _ _ hloc)

theorem State.writeLine_clean {full : Bool} {part : Nat} {v : State} (hgone : s.chanGone c = false)
    (hdec : lineDecode (s.stored c l) (s.devOut c l) = .clean) (hpart : (decide (s.pageStrength line = 0) && full) = false)
    (hmend : (s.wakeRank c (s.rankOf c l)).mendRows (offOfLine line) (s.pageStrength line) c (line * 64) part = (v, false)) (new : Line → Stored) :
    s.writeLine line full part new = (v.putLine (offOfLine line) c l (s.pageStrength line) i (s.stored c l)
      (new (s.decrypt line (storedData (s.stored c l)))), .done) := by
  have hplain : (s.wakeRank c (s.rankOf c l)).decrypt = s.decrypt := (State.accessed_wakeRank ..).decrypt
  rw [State.writeLine_over hloc hpage hpart (State.readLine_clean hgone hdec) hmend, hplain]

end

/-- A page of strength 0 has no rows to mend. -/
theorem State.mendRows_none (off ch addr part : Nat) : s.mendRows off 0 ch addr part = (s, false) := by
  have hrows : s.rowLoc off 0 = [] := by
    unfold State.rowLoc
    split
    · rfl
    · rfl
  rw [State.mendRows, hrows]
  rfl

theorem State.putLine_unprotected (off c l i : Nat) (old new : Stored) : s.putLine off c l 0 i old new = s.setStored c l new := rfl

/-- A write that is done, of a request for nobody: what is stored is what the write stores. -/
theorem State.writeNow_done {r : ChanReq} {v : State} (hpoison : r.poison = false) (hslot : r.slot = none)
    (h : s.writeData r.line r.part r.mask r.data = (v, .done)) : (s.writeNow r).dram = v.dram := by
  rw [State.writeNow, hpoison, if_neg Bool.false_ne_true]
  dsimp only
  rw [h]
  dsimp only
  rw [State.served_none hslot]
  split
  · exact State.incF_dram ..
  · rfl

theorem State.needsPage_zero {line : Nat} (hs : s.pageStrength line = 0) (wr full : Bool) : s.needsPage line wr full = false := by
  rw [State.needsPage, hs]
  dsimp only
  split
  · rfl
  · rfl

section
variable {ch : Chan} {r : ChanReq} {l : Nat} (hready : s.chState ch = 4) (hnext : s.nextReq ch true = some r)
  (hloc : s.chanOf (offOfLine r.line) = some (ch.val, l))
include hready hnext hloc

/-- A served write: the request taken, and performed. -/
theorem State.dramWrite_serves (hneeds : s.needsPage r.line true (r.full || r.poison) = false) :
    (s.cmdDone ch).dramWriteOp ch = (s.taken ch r).writeNow r := by
  rw [State.dramWriteOp, State.accessOp_takes hready hnext hloc, hneeds, if_neg Bool.false_ne_true, if_pos rfl]

omit hnext hloc in
/-- What a write leaves that stores y at the request's line, and nothing else. -/
theorem State.stored_of_write {t v : State} {y : Stored} (hv : (s.taken ch r).Accessed v) (hmem : v.dram.mem = s.dram.mem)
    (ht : t.dram = (v.setStored ch l y).dram) : t.dram.queue = s.dram.queue.erase r ∧ t.stored ch l = y ∧
      ∀ c' l', (c' ≠ ch.val ∨ l' % 2 ^ 34 ≠ l % 2 ^ 34) → t.stored c' l' = s.stored c' l' := by
  have hgone : v.chanGone ch = false := by
    rw [hv.chanGone]
    exact State.chanGone_ready hready
  have hstored (c' l' : Nat) : t.stored c' l' = (v.setStored ch l y).stored c' l' := by rw [State.stored, State.stored, ht]
  refine ⟨?_, ?_, fun c' l' hne => ?_⟩
  · rw [ht, (hv.trans (State.accessed_setStored ..)).queue]
    rfl
  · rw [hstored, State.stored_setStored_same _ _ _ hgone]
  · rw [hstored, State.stored_setStored_ne _ _ _ hne, State.stored, State.stored, hmem]

variable (hslot : r.slot = none)
include hslot

theorem State.dramWrite_masked (hpoison : r.poison = false) (hs : s.pageStrength r.line = 0) (hmask : r.mask ≠ fullMask)
    (hdec : lineDecode (s.stored ch l) (s.devOut ch l) = .clean) : let t := (s.cmdDone ch).dramWriteOp ch
    t.dram.queue = s.dram.queue.erase r ∧
      t.stored ch l = rsEncode (s.encrypt r.line (merge (s.decrypt r.line (storedData (s.stored ch l))) r.data r.mask)) ∧
      ∀ c' l', (c' ≠ ch.val ∨ l' % 2 ^ 34 ≠ l % 2 ^ 34) → t.stored c' l' = s.stored c' l' := by
  obtain ⟨g, P, i, hpage⟩ := State.pageOf_of_chanOf hloc
  have hline : (s.taken ch r).writeData r.line r.part r.mask r.data = _ :=
    State.writeLine_clean (s := s.taken ch r) hloc hpage (State.chanGone_ready hready) hdec
      (by rw [decide_eq_false hmask, Bool.and_false]) (by rw [State.taken_pageStrength, hs]; exact State.mendRows_none ..) _
  rw [State.taken_pageStrength, hs, State.putLine_unprotected] at hline
  rw [State.dramWrite_serves hready hnext hloc (State.needsPage_zero hs _ _)]
  exact State.stored_of_write hready (State.accessed_awake (l := l)) (by rw [State.awake_dram]; rfl)
    (State.writeNow_done hpoison hslot hline)

theorem State.dramWrite_whole (hpoison : r.poison = false) (hs : s.pageStrength r.line = 0) (hmask : r.mask = fullMask) :
    let t := (s.cmdDone ch).dramWriteOp ch
    t.dram.queue = s.dram.queue.erase r ∧ t.stored ch l = rsEncode (s.encrypt r.line r.data) ∧
      ∀ c' l', (c' ≠ ch.val ∨ l' % 2 ^ 34 ≠ l % 2 ^ 34) → t.stored c' l' = s.stored c' l' := by
  obtain ⟨g, P, i, hpage⟩ := State.pageOf_of_chanOf hloc
  have hline : (s.taken ch r).writeData r.line r.part r.mask r.data =
      ((s.taken ch r).setStored ch l (rsEncode (s.encrypt r.line r.data)), .done) := by
    rw [State.writeData, hmask, decide_eq_true rfl, State.writeLine_whole (s := s.taken ch r) hloc hpage hs, merge_fullMask]
    rfl
  rw [State.dramWrite_serves hready hnext hloc (State.needsPage_zero hs _ _)]
  exact State.stored_of_write hready .refl rfl (State.writeNow_done hpoison hslot hline)

theorem State.dramWrite_poison (hpoison : r.poison = true) (hs : s.pageStrength r.line = 0) : let t := (s.cmdDone ch).dramWriteOp ch
    t.stored ch l = poisonMarker ∧ t.dram.queue = s.dram.queue.erase r := by
  obtain ⟨g, P, i, hpage⟩ := State.pageOf_of_chanOf hloc
  have hwrite : (s.taken ch r).writeNow r = (s.taken ch r).setStored ch l poisonMarker := by
    rw [State.writeNow, hpoison, if_pos rfl, State.served_none hslot, State.writePoison,
      State.writeLine_whole (s := s.taken ch r) hloc hpage hs]
  rw [State.dramWrite_serves hready hnext hloc (State.needsPage_zero hs _ _), hwrite]
  obtain ⟨hqueue, hline, -⟩ := State.stored_of_write hready (v := s.taken ch r) (y := poisonMarker) .refl rfl rfl
  exact ⟨hline, hqueue⟩

end

theorem State.putLine_one (off c l i : Nat) (old new : Stored) :
    s.putLine off c l 1 i old new = (s.updateRows off 1 i (storedData old ^^^ storedData new)).setStored c l new := rfl

theorem State.readForUpdate_eq {a : State × Bool} {e : Nat × Nat} {t : State} {res : LineRes} {x : Stored}
    (h : a.1.readParity e.1 e.2 = (t, res, x)) : State.readForUpdate a e = (t, a.2 || res = .failed) := by rw [State.readForUpdate, h]

/-! ## A write in a page of strength 1 whose row is cached (R252, R254) -/

theorem State.pcTouch_pcache (h set way : Nat) : (s.pcTouch h set way).dram.pcache = s.dram.pcache := rfl
theorem State.pcTouch_mem (h set way : Nat) : (s.pcTouch h set way).dram.mem = s.dram.mem := rfl

theorem State.pcWay_congr {t : State} (h : t.dram.pcache = s.dram.pcache) : t.pcWay = s.pcWay := by
  funext c l
  rw [State.pcWay, State.pcWay, h]

theorem State.setStored_pcache (c l : Nat) (x : Stored) : (s.setStored c l x).dram.pcache = s.dram.pcache := by
  unfold State.setStored
  split
  · rfl
  · rw [State.onDram_dram, State.wakeRank_dram]

section
variable {c l w : Nat} (hway : s.pcWay c l = some w)
include hway

/-- The state after a hit in the parity cache. -/
def State.hit (s : State) (c l w : Nat) : State := (s.incF (R.MC_PC_STAT c) F.MC_PC_STAT_HITS).pcTouch (hubOfChan c) (pcSet l) w

omit hway in
theorem State.accessed_hit : s.Accessed (s.hit c l w) := (State.accessed_incF (MC_PC_STAT_upkeep c) _ _).trans (State.accessed_pcTouch ..)

omit hway in
theorem State.hit_pcache : (s.hit c l w).dram.pcache = s.dram.pcache := by rw [State.hit, State.pcTouch_pcache, State.incF_dram]

omit hway in
theorem State.hit_mem : (s.hit c l w).dram.mem = s.dram.mem := by rw [State.hit, State.pcTouch_mem, State.incF_dram]

theorem State.readParity_hit : s.readParity c l = (s.hit c l w, .clean, (s.dram.pcache.get (pcKey (hubOfChan c) (pcSet l) w)).data) := by
  unfold State.readParity
  rw [hway]
  dsimp only
  rw [State.pcTouch_pcache, State.incF_dram]
  rfl

theorem State.rowNow_hit : s.rowNow c l = (s.dram.pcache.get (pcKey (hubOfChan c) (pcSet l) w)).data := by
  unfold State.rowNow
  rw [hway]

theorem State.pcInsert_hit (x : Stored) (dirty : Bool) : s.pcInsert c l x dirty = (s.onDram fun d => { d with
    pcache := d.pcache.put (pcKey (hubOfChan c) (pcSet l) w) { valid := true, ch := c, addr := l, dirty := dirty, data := x } }).pcTouch
      (hubOfChan c) (pcSet l) w := by
  unfold State.pcInsert
  simp only [hway, if_true]

end

section
variable {c l w : Nat} (hway : s.pcWay c l = some w) (x : Stored) (dirty : Bool)
include hway

theorem State.pcInsert_hit_mem : (s.pcInsert c l x dirty).dram.mem = s.dram.mem := by
  rw [State.pcInsert_hit hway, State.pcTouch_mem, State.onDram_dram]

theorem State.pcInsert_hit_get : (s.pcInsert c l x dirty).dram.pcache.get (pcKey (hubOfChan c) (pcSet l) w) =
    { valid := true, ch := c, addr := l, dirty := dirty, data := x } := by
  rw [State.pcInsert_hit hway, State.pcTouch_pcache, State.onDram_dram, SMap.get_put, if_pos rfl]

end

section
variable {off c l w : Nat} (hrow : s.rowLoc off 1 = [(c, l)]) (hway : s.pcWay c l = some w)
include hrow hway

theorem State.mendRows_hit (ch addr part : Nat) : s.mendRows off 1 ch addr part = (s.hit c l w, false) := by
  have hread : (s.rowLoc off 1).foldl State.readForUpdate (s, false) = (s.hit c l w, false) := by
    rw [hrow, List.foldl_cons, List.foldl_nil]
    exact State.readForUpdate_eq (State.readParity_hit hway)
  fun_cases State.mendRows s off 1 ch addr part with
  | case1 t bad hfold => cases hread.symm.trans hfold; rfl
  | case2 t bad hfold hbad => cases hread.symm.trans hfold; exact absurd rfl hbad
  | case3 t bad hfold hbad => cases hread.symm.trans hfold; exact absurd rfl hbad

theorem State.updateRows_hit (htest : s.pcTested (hubOfChan c) = false) (i : Nat) (delta : Line) : s.updateRows off 1 i delta =
    s.pcInsert c l (rsEncode (storedData (s.dram.pcache.get (pcKey (hubOfChan c) (pcSet l) w)).data ^^^ gfScaleLine (pageCoef 0 i) delta)) true := by
  have hput : s.updateRows off 1 i delta = s.pcPut c l (rsEncode (storedData (s.rowNow c l) ^^^ gfScaleLine (pageCoef 0 i) delta)) true := by
    rw [State.updateRows, hrow]
    rfl
  rw [hput, State.pcPut, htest, if_neg Bool.false_ne_true, State.rowNow_hit hway]

end

theorem State.dramWrite_row {ch : Chan} {r : ChanReq} {l g P i c' l' w : Nat} {x y : Stored} (hready : s.chState ch = 4)
    (hnext : s.nextReq ch true = some r) (hloc : s.chanOf (offOfLine r.line) = some (ch.val, l))
    (hpage : s.pageOf (offOfLine r.line) = some (g, P, i)) (hs : s.pageStrength r.line = 1) (hrow : s.rowLoc (offOfLine r.line) 1 = [(c', l')])
    (hway : s.pcWay c' l' = some w) (htest : s.pcTested (hubOfChan c') = false) (hne : c' ≠ ch.val ∨ l' % 2 ^ 34 ≠ l % 2 ^ 34)
    (hpoison : r.poison = false) (hslot : r.slot = none) (hx : s.stored ch l = x) (hdec : lineDecode x (s.devOut ch l) = .clean)
    (hy : y = rsEncode (s.encrypt r.line (merge (s.decrypt r.line (storedData x)) r.data r.mask))) : let t := (s.cmdDone ch).dramWriteOp ch
    t.stored ch l = y ∧ t.stored c' l' = s.stored c' l' ∧ t.dram.pcache.get (pcKey (hubOfChan c') (pcSet l') w) =
      { valid := true, ch := c', addr := l', dirty := true, data := rsEncode (storedData (s.dram.pcache.get (pcKey (hubOfChan c')
          (pcSet l') w)).data ^^^ gfScaleLine (pageCoef 0 i) (storedData x ^^^ storedData y)) } := by
  subst hx
  have hneeds : s.needsPage r.line true (r.full || r.poison) = false := by
    rw [State.needsPage, hs]
    dsimp only
    rw [hloc, hrow]
    simp [State.chanGone_ready hready, hdec, hway]
  have hwayA : (s.awake ch r l).pcWay c' l' = some w := by rw [State.pcWay_congr (congrArg DramSt.pcache State.awake_dram)]; exact hway
  have hrowA : (s.awake ch r l).rowLoc (offOfLine r.line) 1 = [(c', l')] := by rw [State.accessed_awake.rowLoc]; exact hrow
  have haccH : (s.taken ch r).Accessed ((s.awake ch r l).hit c' l' w) := State.accessed_awake.trans State.accessed_hit
  have hwayH : ((s.awake ch r l).hit c' l' w).pcWay c' l' = some w := by rwa [State.pcWay_congr State.hit_pcache]
  have hrowH : ((s.awake ch r l).hit c' l' w).rowLoc (offOfLine r.line) 1 = [(c', l')] := by rw [haccH.rowLoc]; exact hrow
  have htestH : ((s.awake ch r l).hit c' l' w).pcTested (hubOfChan c') = false := by rw [haccH.pcTested]; exact htest
  have hline : (s.taken ch r).writeData r.line r.part r.mask r.data = _ := State.writeLine_clean (s := s.taken ch r) hloc hpage
    (State.chanGone_ready hready) hdec (by rw [State.taken_pageStrength, hs]; rfl)
    (by rw [State.taken_pageStrength, hs]; exact State.mendRows_hit hrowA hwayA _ _ _) _
  have hcached : ((s.awake ch r l).hit c' l' w).dram.pcache = s.dram.pcache := by
    rw [State.hit_pcache, State.awake_dram]
    rfl
  have hmem : ((s.awake ch r l).hit c' l' w).dram.mem = s.dram.mem := by
    rw [State.hit_mem, State.awake_dram]
    rfl
  rw [State.taken_pageStrength, hs, State.putLine_one, State.updateRows_hit hrowH hwayH htestH, State.taken_stored, State.taken_decrypt,
    State.taken_encrypt, ← hy, hcached] at hline
  have hdone := State.writeNow_done hpoison hslot hline
  rw [State.dramWrite_serves hready hnext hloc hneeds]
  obtain ⟨-, hown, hother⟩ :=
    State.stored_of_write hready (haccH.trans (State.accessed_pcInsert ..)) ((State.pcInsert_hit_mem hwayH _ _).trans hmem) hdone
  refine ⟨hown, hother c' l' hne, ?_⟩
  rw [hdone, State.setStored_pcache, State.pcInsert_hit_get hwayH]

/-! ## Locks released (R251) -/

theorem State.unlockOp_eq (h : s.dram.resyncs = []) (c page : Nat) : s.unlockOp c page =
    s.onDram fun d => { d with locks := d.locks.filter fun k => !(k.group = s.lockGroup c && k.page = page && k.done) } := by
  have hnone : ∀ t : State, t.dram.resyncs = [] → t.resyncWaiting = t := fun t ht => by
    rw [State.resyncWaiting, ht]
    rfl
  exact hnone _ h

theorem State.unlockOp_mem (h : s.dram.resyncs = []) {c page : Nat} {k : PageLock} : k ∈ (s.unlockOp c page).dram.locks ↔
    k ∈ s.dram.locks ∧ ¬(k.group = s.lockGroup c ∧ k.page = page ∧ k.done = true) := by
  rw [State.unlockOp_eq h, State.onDram_dram, List.mem_filter]
  refine and_congr_right fun _ => ?_
  rw [Bool.not_eq_true', ← Bool.not_eq_true]
  simp

theorem State.unlockOp_pageLocked (h : s.dram.resyncs = []) {c page off i : Nat} (hpage : s.pageOf off = some (s.lockGroup c, page, i))
    (hdone : ∀ k ∈ s.dram.locks, k.group = s.lockGroup c → k.page = page → k.done = true) : (s.unlockOp c page).pageLocked off = false := by
  have hpage' : (s.unlockOp c page).pageOf off = some (s.lockGroup c, page, i) := by rw [State.unlockOp_eq h]; exact hpage
  rw [State.pageLocked, hpage']
  refine List.any_eq_false.mpr fun k hk hheld => ?_
  obtain ⟨hin, hkept⟩ := (State.unlockOp_mem h).mp hk
  obtain ⟨hg, hP⟩ : k.group = s.lockGroup c ∧ k.page = page := by simpa using hheld
  exact hkept ⟨hg, hP, hdone k hin hg hP⟩

/-! ## Errors of the parity cache (R254) -/

section
variable {h set way : Nat} {p : PLine} (hp : s.dram.pcache.get (pcKey h set way) = p) (hvalid : p.valid = true)
include hp hvalid

/-- The state in which a line with an error has been dropped. -/
def State.dropped (s : State) (h set way : Nat) : State := s.onDram fun d => { d with pcache := d.pcache.del (pcKey h set way) }

omit hp hvalid in
theorem State.dropped_get : ((s.dropped h set way).dram.pcache.get (pcKey h set way)).valid = false := by
  rw [State.dropped, State.onDram_dram, SMap.get_del, if_pos rfl]
  rfl

theorem State.parityError_clean (hdirty : p.dirty = false) : s.parityErrorOp h set way false = s.dropped h set way := by
  rw [State.parityErrorOp, hp]
  dsimp only
  rw [hvalid, hdirty]
  rfl

theorem State.parityError_dirty (hdirty : p.dirty = true) {off j : Nat} (hslot : s.slotPage p.ch p.addr = some (off, j)) :
    s.parityErrorOp h set way false = if s.pageLocked off then
      (s.dropped h set way).onDram fun d => { d with resyncs := d.resyncs ++ [(p.ch, p.addr)] }
    else (s.dropped h set way).resyncSlot p.ch p.addr := by
  have hheld : (s.dropped h set way).slotLocked p.ch p.addr = s.pageLocked off := by
    have hslot' : (s.dropped h set way).slotPage p.ch p.addr = some (off, j) := hslot
    rw [State.slotLocked, hslot']
    rfl
  rw [State.parityErrorOp, hp]
  dsimp only
  rw [hvalid, hdirty, ← hheld]
  rfl

omit hp hvalid in
theorem State.resyncSlot_logged {c l off j : Nat} (hslot : s.slotPage c l = some (off, j)) : (s.resyncSlot c l).Logged E.MEM_PAGE_RESYNC 3 c := by
  rw [State.resyncSlot, hslot]
  exact State.record_logged _ _ _ _ _ _

end

/-! ## The restripe (R255) -/

theorem State.stored_congr {t : State} (h : t.dram = s.dram) : t.stored = s.stored := by
  funext c l
  rw [State.stored, State.stored, h]

/-- The line is decoded clean, on a channel that has not failed. -/
def State.CleanAt (s : State) (e : Nat × Nat) : Prop := s.chanGone e.1 = false ∧ lineDecode (s.stored e.1 e.2) (s.devOut e.1 e.2) = .clean

/-- Reading clean lines wakes their ranks alone. -/
theorem State.readData_clean (l : List (Nat × Nat)) (hl : ∀ e ∈ l, s.CleanAt e) (acc : List (LineRes × Stored)) :
    ∃ u, l.foldl State.readData (s, acc) = (u, acc ++ l.map fun e => (LineRes.clean, s.stored e.1 e.2)) ∧ s.Accessed u ∧ u.dram = s.dram := by
  induction l generalizing s acc with
  | nil => exact ⟨s, by simp, .refl, rfl⟩
  | cons e l ih =>
    obtain ⟨hgone, hdec⟩ := hl e (List.mem_cons_self ..)
    have hwake : s.Accessed (s.wakeRank e.1 (s.rankOf e.1 e.2)) := State.accessed_wakeRank ..
    have hstored : (s.wakeRank e.1 (s.rankOf e.1 e.2)).stored = s.stored := State.stored_congr (State.wakeRank_dram ..)
    have hstep : State.readData (s, acc) e = (s.wakeRank e.1 (s.rankOf e.1 e.2), acc ++ [(LineRes.clean, s.stored e.1 e.2)]) := by
      rw [State.readData, State.readLine_clean hgone hdec]
    have hrest : ∀ f ∈ l, (s.wakeRank e.1 (s.rankOf e.1 e.2)).CleanAt f := fun f hf => by
      rw [State.CleanAt, hwake.chanGone, hwake.devOut, hstored]
      exact hl f (List.mem_cons_of_mem _ hf)
    obtain ⟨u, hu, hacc, hdram⟩ := ih hrest (acc ++ [(LineRes.clean, s.stored e.1 e.2)])
    refine ⟨u, ?_, hwake.trans hacc, hdram.trans (State.wakeRank_dram ..)⟩
    rw [List.foldl_cons, hstep, hu, hstored]
    simp

theorem State.rowLoc_zero (off : Nat) : s.rowLoc off 0 = [] := by
  unfold State.rowLoc
  split
  · rfl
  · rfl

theorem failedIdx_of_clean {l : List (LineRes × Stored)} (h : ∀ e ∈ l, e.1 = .clean) : failedIdx l = [] := by
  have hnone : l.zipIdx.filter (fun e => e.1.1 = .failed) = [] := List.filter_eq_nil_iff.mpr fun e he => by
    rw [h e.1 (List.fst_mem_of_mem_zipIdx he)]
    decide
  rw [failedIdx, hnone, List.map_nil]

/-- A page of clean lines needs no rebuild. -/
theorem State.rebuildPage_clean {off : Nat} (hclean : ∀ e ∈ s.pageLoc off, s.CleanAt e) :
    ∃ u, s.rebuildPage off 0 none = (u, some 0) ∧ s.Accessed u ∧ u.dram = s.dram := by
  obtain ⟨u, hu, hacc, hdram⟩ := State.readData_clean (s.pageLoc off) hclean []
  have hread : s.readPage off 0 none = (u, ⟨(s.pageLoc off).map fun e => (LineRes.clean, s.stored e.1 e.2), []⟩) := by
    rw [State.readPage_eq, hu]
    dsimp only
    rw [State.rowLoc_zero, List.nil_append]
    rfl
  have hgood : failedIdx ((s.pageLoc off).map fun e => (LineRes.clean, s.stored e.1 e.2)) = [] :=
    failedIdx_of_clean fun e he => by
      obtain ⟨x, -, rfl⟩ := List.mem_map.mp he
      rfl
  refine ⟨u, ?_, hacc, hdram⟩
  rw [State.rebuildPage, hread]
  dsimp only
  rw [hgood]
  rfl

theorem State.pageBytes_clean {c l : Nat} (h : s.CleanAt (c, l)) : s.pageBytes c l = storedData (s.stored c l) := by
  obtain ⟨hgone, hdec⟩ := h
  rw [State.pageBytes, hgone, if_neg Bool.false_ne_true, hdec]

theorem MR_BASE_ne_MC_RESTRIPE {r : Nat} (hr : r < 64) : R.MC_RESTRIPE 0 ≠ R.MR_BASE 0 r := by
  simp only [R.MC_RESTRIPE, R.MR_BASE]; omega

/-- The region under restripe is one of the 64. -/
theorem State.restripeRegion_lt : s.f (R.MC_RESTRIPE 0) F.MC_RESTRIPE_REGION < 64 := Nat.mod_lt _ (Nat.two_pow_pos 6)

/-- Restriping a page of clean lines from strength 0 to 1 stores its row 0. -/
theorem State.restripeAt_clean {r line c' l' : Nat} (hprev : s.f (R.MR_BASE 0 r) F.MR_BASE_PREV_S = 0)
    (hnext : s.f (R.MR_BASE 0 r) F.MR_BASE_STRENGTH = 1) (hclean : ∀ e ∈ s.pageLoc (offOfLine line), s.CleanAt e)
    (hrow : s.rowLoc (offOfLine line) 1 = [(c', l')]) (hgone : s.chanGone c' = false) : s.Accessed (s.restripeAt r line) ∧
      (s.restripeAt r line).stored c' l' = rsEncode (pageRow ((s.pageLoc (offOfLine line)).map fun e => storedData (s.stored e.1 e.2)) 0) := by
  obtain ⟨u, hbuild, hacc, hdram⟩ := State.rebuildPage_clean hclean
  have hstored : u.stored = s.stored := State.stored_congr hdram
  have hbytes : (u.pageLoc (offOfLine line)).map (fun e => u.pageBytes e.1 e.2) =
      (s.pageLoc (offOfLine line)).map fun e => storedData (s.stored e.1 e.2) := by
    rw [hacc.pageLoc]
    refine List.map_congr_left fun e he => ?_
    have hcleanU : u.CleanAt (e.1, e.2) := by
      rw [State.CleanAt, hacc.chanGone, hacc.devOut, hstored]
      exact hclean e he
    rw [State.pageBytes_clean hcleanU, hstored]
  have hrows : u.writeRows (offOfLine line) 0 1 =
      (u.pcPut c' l' (rsEncode (pageRow ((s.pageLoc (offOfLine line)).map fun e => storedData (s.stored e.1 e.2)) 0)) false).setStored c' l'
        (rsEncode (pageRow ((s.pageLoc (offOfLine line)).map fun e => storedData (s.stored e.1 e.2)) 0)) := by
    rw [State.writeRows, hbytes, hacc.rowLoc, hrow]
    rfl
  have hat : s.restripeAt r line = u.writeRows (offOfLine line) 0 1 := by
    rw [State.restripeAt]
    dsimp only
    rw [hprev, hnext, hbuild]
    rfl
  have hput := State.accessed_pcPut (s := u) c' l'
    (rsEncode (pageRow ((s.pageLoc (offOfLine line)).map fun e => storedData (s.stored e.1 e.2)) 0)) false
  rw [hat, hrows]
  refine ⟨(hacc.trans hput).trans (State.accessed_setStored ..), State.stored_setStored_same _ _ _ ?_⟩
  rw [(hacc.trans hput).chanGone, hgone]

theorem State.restripeOp_page {r d : Nat} (hbusy : s.f (R.MC_RESTRIPE 0) F.MC_RESTRIPE_BUSY = 1)
    (hregion : s.f (R.MC_RESTRIPE 0) F.MC_RESTRIPE_REGION = r) (hdone : s.f (R.MC_RESTRIPE 0) F.MC_RESTRIPE_DONE_PAGES = d)
    (hmore : d + 1 < s.f (R.MR_SIZE 0 r) F.MR_SIZE_SIZE * 512)
    (hfree : s.pageLocked (offOfLine (s.f (R.MR_BASE 0 r) F.MR_BASE_BASE * 2 ^ 15 + d * 64)) = false) :
    s.restripeOp = (s.restripeAt r (s.f (R.MR_BASE 0 r) F.MR_BASE_BASE * 2 ^ 15 + d * 64)).setF (R.MC_RESTRIPE 0)
      F.MC_RESTRIPE_DONE_PAGES (d + 1) := by
  rw [State.restripeOp]
  dsimp only
  rw [hbusy, hregion, hdone, if_neg Nat.one_ne_zero, if_neg (by omega), hfree, if_neg Bool.false_ne_true, if_neg (by omega)]

theorem State.restripeOp_waits
    (hmore : s.f (R.MC_RESTRIPE 0) F.MC_RESTRIPE_DONE_PAGES < s.f (R.MR_SIZE 0 (s.f (R.MC_RESTRIPE 0) F.MC_RESTRIPE_REGION)) F.MR_SIZE_SIZE * 512)
    (hheld : s.pageLocked (offOfLine (s.f (R.MR_BASE 0 (s.f (R.MC_RESTRIPE 0) F.MC_RESTRIPE_REGION)) F.MR_BASE_BASE * 2 ^ 15 +
      s.f (R.MC_RESTRIPE 0) F.MC_RESTRIPE_DONE_PAGES * 64)) = true) : s.restripeOp = s := by
  rw [State.restripeOp]
  dsimp only
  split
  · rfl
  · rw [if_neg (by omega)]

theorem State.restripeOp_ends (hbusy : s.f (R.MC_RESTRIPE 0) F.MC_RESTRIPE_BUSY = 1)
    (hlast : s.f (R.MR_SIZE 0 (s.f (R.MC_RESTRIPE 0) F.MC_RESTRIPE_REGION)) F.MR_SIZE_SIZE * 512 ≤ s.f (R.MC_RESTRIPE 0) F.MC_RESTRIPE_DONE_PAGES) :
    s.restripeOp = s.restripeEnd (s.f (R.MC_RESTRIPE 0) F.MC_RESTRIPE_REGION) := by
  rw [State.restripeOp]
  dsimp only
  rw [hbusy, if_neg Nat.one_ne_zero, if_pos hlast]

theorem State.restripeNext_none (hbusy : s.f (R.MC_RESTRIPE 0) F.MC_RESTRIPE_BUSY = 0) (hpend : s.dram.restripePend = []) : s.restripeNext = s := by
  rw [State.restripeNext, hbusy, if_neg (by decide), hpend]

/-- With no other restripe waiting, the end of one leaves none. -/
theorem State.restripeEnd_effect {r : Nat} (hr : r < 64) (hpend : s.dram.restripePend = []) :
    (s.restripeEnd r).f (R.MC_RESTRIPE 0) F.MC_RESTRIPE_BUSY = 0 ∧
      (s.restripeEnd r).f (R.MR_BASE 0 r) F.MR_BASE_PREV_S = s.f (R.MR_BASE 0 r) F.MR_BASE_STRENGTH ∧ (s.restripeEnd r).dram = s.dram := by
  have hidle (t : State) : ((t.setF (R.MC_RESTRIPE 0) F.MC_RESTRIPE_BUSY 0).setF (R.MC_RESTRIPE 0) F.MC_RESTRIPE_DONE_PAGES 0).f
      (R.MC_RESTRIPE 0) F.MC_RESTRIPE_BUSY = 0 := by
    rw [State.f_setF_apart _ _ (by decide) (by decide), State.f_setF_same _ _ (by decide)]
    rfl
  have hstrength : s.f (R.MR_BASE 0 r) F.MR_BASE_STRENGTH < 2 ^ 4 := Nat.mod_lt _ (Nat.two_pow_pos 4)
  rw [State.restripeEnd, State.restripeNext_none (hidle (s.setF (R.MR_BASE 0 r) F.MR_BASE_PREV_S (s.f (R.MR_BASE 0 r) F.MR_BASE_STRENGTH))) hpend]
  refine ⟨hidle _, ?_, rfl⟩
  rw [State.f_setF_ne _ _ _ _ (MR_BASE_ne_MC_RESTRIPE hr).symm, State.f_setF_ne _ _ _ _ (MR_BASE_ne_MC_RESTRIPE hr).symm,
    State.f_setF_same _ _ (by decide)]
  exact Nat.mod_eq_of_lt hstrength

end

end Sys2Proof.Machine

open Sys2Proof Sys2Proof.Machine

/-- Settles O33: each clause by the lemma of what its channel, its lock or its cache line meets. -/
theorem dramAccesses : Obligations.DramAccesses := by
  refine ⟨fun s ch r l x n hready hnext hloc hdec hslot htxn hwaits => ⟨_, rfl, State.dramRead_clean hready hloc hnext hslot htxn hwaits hdec⟩,
    fun s ch r l dev y x n hready hnext hloc hdec hslot htxn hwaits =>
      ⟨_, rfl, State.dramRead_corrected hready hloc hnext hslot htxn hwaits hdec⟩,
    fun s ch r l x n hready hnext hloc hdec _ hslot htxn hwaits => ⟨_, rfl, State.dramRead_poisoned hready hloc hnext hslot htxn hwaits hdec⟩,
    fun s ch r l x n hready hnext hloc hdec hs hslot htxn hwaits =>
      ⟨_, rfl, State.dramRead_uncorrectable hready hloc hnext hslot htxn hwaits hdec hs⟩,
    fun s ch r l hready hnext hloc hdec hs hlost => ⟨_, rfl, ?_⟩, fun s c rank sub dev hon hth hfree => ⟨_, rfl, ?_⟩,
    fun s u ch k c l cnt x n hk hown hwr hloc hbuild hslot htxn hwaits =>
      ⟨_, rfl, State.rebuildOp_solved hk hown hwr hloc hslot htxn hwaits hbuild⟩,
    fun s u ch k c l x n hk hown hwr hloc hbuild hslot htxn hwaits =>
      ⟨_, rfl, State.rebuildOp_beyond hk hown hwr hloc hslot htxn hwaits hbuild⟩,
    fun s c k hk hslot => ⟨_, rfl, ?_⟩, fun s c hnone => ⟨_, rfl, ?_⟩,
    fun s ch r l hready hnext hloc hpoison hs hmask hdec hslot =>
      ⟨_, rfl, State.dramWrite_masked hready hnext hloc hslot hpoison hs hmask hdec⟩,
    fun s ch r l hready hnext hloc hpoison hs hmask hslot => ⟨_, rfl, State.dramWrite_whole hready hnext hloc hslot hpoison hs hmask⟩,
    fun s ch r l hready hnext hloc hpoison hs hslot => ⟨_, rfl, State.dramWrite_poison hready hnext hloc hslot hpoison hs⟩,
    fun s ch r l g P i c' l' w x y hready hnext hloc hpage hs hrow hway htest hne hpoison hslot hx hdec hy =>
      ⟨_, rfl, State.dramWrite_row hready hnext hloc hpage hs hrow hway htest hne hpoison hslot hx hdec hy⟩,
    fun s c page hres => ⟨_, rfl, ?_⟩, fun s c page off i hres hpage hdone => ⟨_, rfl, State.unlockOp_pageLocked hres hpage hdone⟩,
    fun s h set way hvalid hdirty => ⟨_, rfl, ?_⟩, fun s h set way => ⟨_, rfl, rfl⟩,
    fun s h set way p off j hp hvalid hdirty hch hslot hfree => ⟨_, rfl, ?_⟩,
    fun s h set way p off j hp hvalid hdirty hslot hheld => ⟨_, rfl, ?_⟩,
    fun s r d off c' l' hbusy hregion hdone hmore hfit hoff hfree hprev hnew hclean hrow hgone => ⟨_, rfl, ?_⟩,
    fun s hmore hheld => ⟨_, rfl, State.restripeOp_waits hmore hheld⟩, fun s hbusy hlast hpend => ⟨_, rfl, ?_⟩⟩
  · rw [State.dramRead_locks hready hnext hloc hdec hs hlost]
    obtain ⟨g, P, i, hpage⟩ := State.pageOf_of_chanOf (s := s.taken ch r) hloc
    obtain ⟨k, hlock, hreq, -, hopen⟩ := State.lockPage_adds hpage (s.pageStrength r.line) ch l r none
    refine ⟨State.lockPage_locked hpage .., ?_⟩
    rw [hlock]
    exact ⟨⟨k, rfl, hreq, hopen⟩, rfl, rfl, rfl, rfl⟩
  · have hdue : (s.f (R.MC_PD_CTL c) F.MC_PD_CTL_DEV_THRESH != 0 &&
        decide (s.f (R.MC_PD_CTL c) F.MC_PD_CTL_DEV_THRESH ≤ s.dram.devCnt.get (devKey c rank sub dev))) = true := by simp [hon, hth]
    rw [hdue]
    exact State.mapOutDev_effect rank.isLt sub.isLt dev.isLt hfree
  · dsimp only
    rw [State.rebuildOp_locks hk hslot, State.lockDone_length]
    exact ⟨State.lockDone_mem (List.mem_of_find?_eq_some hk), rfl⟩
  · have hnone' : s.dram.locks.find? (fun k => k.req.ch = c.val && !k.done && k.reads = []) = none := by
      refine List.find?_eq_none.mpr fun k hk hready => ?_
      simp only [Bool.and_eq_true, decide_eq_true_eq, Bool.not_eq_true'] at hready
      obtain ⟨⟨hch, hopen⟩, hread⟩ := hready
      rcases hnone k hk hch with h | h
      · exact absurd h (by simp [hopen])
      · exact h hread
    rw [State.rebuildOp, hnone']
  · refine ⟨fun k hk hg hP => ?_, fun k hk hopen => ?_, ?_, ?_⟩
    · have hkept := ((State.unlockOp_mem hres).mp hk).2
      exact Bool.not_eq_true _ ▸ fun hdone => hkept ⟨hg, hP, hdone⟩
    · exact (State.unlockOp_mem hres).mpr ⟨hk, fun h => absurd h.2.2 (by simp [hopen])⟩
    · rw [State.unlockOp_eq hres, State.onDram_dram]
    · rw [State.unlockOp_eq hres, State.onDram_regs]
  · rw [State.parityError_clean rfl hvalid hdirty]
    exact ⟨State.dropped_get, rfl, rfl⟩
  · rw [State.parityError_dirty hp hvalid hdirty hslot, hfree, if_neg Bool.false_ne_true]
    exact State.resyncSlot_logged (s := s.dropped h set way) hslot
  · rw [State.parityError_dirty hp hvalid hdirty hslot, hheld, if_pos rfl]
    exact ⟨State.dropped_get, rfl, rfl, rfl⟩
  · subst hoff
    have hready : s.chanGone c' = false := decide_eq_false hgone
    obtain ⟨hacc, hline⟩ := State.restripeAt_clean hprev hnew (fun e he => ⟨decide_eq_false (hclean e he).1, (hclean e he).2⟩) hrow hready
    rw [State.restripeOp_page hbusy hregion hdone hmore hfree]
    refine ⟨hline, ?_, ?_⟩
    · rw [State.f_setF_same _ _ (by decide), Nat.mod_eq_of_lt hfit]
    · rw [State.f_setF_apart _ _ (by decide) (by decide), hacc.f (MC_RESTRIPE_fixed 0), hbusy]
  · rw [State.restripeOp_ends hbusy hlast]
    exact State.restripeEnd_effect State.restripeRegion_lt hpend
end

section
/-! SUPPORT. What a home does when an access to memory comes back keeps every register below the homes' blocks, and the beat. -/

namespace Sys2Proof.Machine

/-- t is s after work of the homes: they change no register below their own blocks, the channels' among them, and not the beat. -/
abbrev State.HomeWork (s t : State) : Prop := (∀ k < 0x3000000, t.reg k = s.reg k) ∧ t.beat = s.beat

namespace State.HomeWork

section
variable {o s : State}

theorem reg (h : s.HomeWork o) (k : Nat) (hk : k < 0x3000000) : o.reg k = s.reg k := h.left k hk
theorem beat (h : s.HomeWork o) : o.beat = s.beat := h.right

theorem refl : s.HomeWork s := ⟨fun _ _ => rfl, rfl⟩

/-! ## Parts of the state -/

theorem onHome (h : o.HomeWork s) (f : HomeSt → HomeSt) : o.HomeWork (s.onHome f) := ⟨h.reg, h.beat⟩
theorem onDram (h : o.HomeWork s) (f : DramSt → DramSt) : o.HomeWork (s.onDram f) := ⟨h.reg, h.beat⟩
theorem onSec (h : o.HomeWork s) (f : SecSt → SecSt) : o.HomeWork (s.onSec f) := ⟨h.reg, h.beat⟩
theorem onFab (h : o.HomeWork s) (f : FabSt → FabSt) : o.HomeWork (s.onFab f) := ⟨h.reg, h.beat⟩
theorem onCache (h : o.HomeWork s) (f : CacheSt → CacheSt) : o.HomeWork (s.onCache f) := ⟨h.reg, h.beat⟩
theorem send (h : o.HomeWork s) (m : Msg) : o.HomeWork (s.send m) := ⟨h.reg, h.beat⟩

theorem setF (h : o.HomeWork s) {off : Nat} (hoff : 0x3000000 ≤ off) (fl : Fld) (v : Nat) : o.HomeWork (s.setF off fl v) :=
  ⟨fun k hk => (State.reg_setF_ne s fl v (Nat.ne_of_lt (Nat.lt_of_lt_of_le hk hoff))).trans (h.reg k hk), h.beat⟩

theorem incF (h : o.HomeWork s) {off : Nat} (hoff : 0x3000000 ≤ off) (fl : Fld) (n : Nat) : o.HomeWork (s.incF off fl n) := h.setF hoff fl _

theorem record (h : o.HomeWork s) (e : ECode) (kind unit : Nat) (parts : List Nat) (addr : Option Nat) (detail : Nat) :
    o.HomeWork (s.record e kind unit parts addr detail) :=
  ⟨fun k hk => (State.record_reg ..).trans (h.reg k hk), State.record_same.beat.trans h.beat⟩

theorem of_ite {p : Prop} [Decidable p] {t u : State} (h : o.HomeWork t) (h' : o.HomeWork u) : o.HomeWork (if p then t else u) := by
  split
  · exact h
  · exact h'

theorem of_ite_fst {p : Prop} [Decidable p] {β : Type} {x y : State × β} (h : o.HomeWork x.1) (h' : o.HomeWork y.1) :
    o.HomeWork (if p then x else y).1 := by
  split
  · exact h
  · exact h'

theorem of_when {b : Bool} {f : State → State} (hf : o.HomeWork (f s)) (h : o.HomeWork s) : o.HomeWork (when b f s) := .of_ite hf h

theorem of_each {α : Type} {f : State → α → State} (hf : ∀ (t : State) a, o.HomeWork t → o.HomeWork (f t a)) (l : List α) (h : o.HomeWork s) :
    o.HomeWork (Machine.each l f s) := by
  unfold Machine.each
  induction l generalizing s with
  | nil => exact h
  | cons a l ih => exact ih (hf s a h)

/-! ## Registers of the homes and their arbiters -/

theorem home_cnt_0 (h : Nat) : 0x3000000 ≤ R.HOME_CNT_0 h := by simp only [R.HOME_CNT_0]; omega
theorem home_cnt_1 (h : Nat) : 0x3000000 ≤ R.HOME_CNT_1 h := by simp only [R.HOME_CNT_1]; omega
theorem home_q_stat (h : Nat) : 0x3000000 ≤ R.HOME_Q_STAT h := by simp only [R.HOME_Q_STAT]; omega
theorem poison_stat (h : Nat) : 0x3000000 ≤ R.POISON_STAT h := by simp only [R.POISON_STAT]; omega
theorem poison_last (h : Nat) : 0x3000000 ≤ R.POISON_LAST h := by simp only [R.POISON_LAST]; omega
theorem atom_stat (h : Nat) : 0x3000000 ≤ R.ATOM_STAT h := by simp only [R.ATOM_STAT]; omega
theorem arb_rr (a : Nat) : 0x3000000 ≤ R.ARB_RR a := by simp only [R.ARB_RR]; omega
theorem arb_req (a r : Nat) : 0x3000000 ≤ rReq a r := by simp only [rReq, R.ARB_REQ]; omega

/-! ## Messages, directory and queues -/

theorem reply (hw : o.HomeWork s) (h : Nat) (m : CMsg) (op : COp) (data : Line) : o.HomeWork (s.reply h m op data) := hw.send _

theorem sendSnoop (hw : o.HomeWork s) (h : Nat) (op : COp) (line : Nat) (dst : Unt) (slot part : Nat) (fwd : Unt) (fwdTxn : Nat) (rsv : Bool)
    (tgt : Option Nat) : o.HomeWork (s.sendSnoop h op line dst slot part fwd fwdTxn rsv tgt) := hw.send _

theorem answer (hw : o.HomeWork s) (h : Nat) (t : Txn) (op : COp) (data : Line) : o.HomeWork (s.answer h t op data) :=
  .of_ite hw (hw.reply ..)

theorem setTxn (h : o.HomeWork s) (t : Txn) : o.HomeWork (s.setTxn t) := h.onHome _

theorem holdReq (hw : o.HomeWork s) (h : Nat) (m : CMsg) : o.HomeWork (s.holdReq h m) := hw.onHome _

theorem queueReq (hw : o.HomeWork s) (h : Nat) (m : CMsg) : o.HomeWork (s.queueReq h m) := (hw.onHome _).setF (home_q_stat h) _ _

theorem queueMem (h : o.HomeWork s) (t : Txn) (wr : Bool) (data : Line) (mask : Mask) : o.HomeWork (s.queueMem t wr data mask) := by
  unfold State.queueMem
  split
  · exact h
  · exact h.onDram _

theorem queueWrite (h : o.HomeWork s) (line part : Nat) (data : Line) (mask : Mask) (poison : Bool) :
    o.HomeWork (s.queueWrite line part data mask poison) := by
  unfold State.queueWrite
  split
  · exact h
  · exact .of_ite h (h.onDram _)

theorem dirUpd (hw : o.HomeWork s) (h line : Nat) (f : DirEnt → DirEnt) : o.HomeWork (s.dirUpd h line f) := by
  unfold State.dirUpd
  split
  · exact hw
  · exact hw.onHome _

theorem dirFree (hw : o.HomeWork s) (h line : Nat) : o.HomeWork (s.dirFree h line) := hw.dirUpd ..

theorem dirTouch (hw : o.HomeWork s) (h line : Nat) : o.HomeWork (s.dirTouch h line) := by
  unfold State.dirTouch
  split
  · exact hw
  · exact hw.onHome _

theorem dirAlloc (hw : o.HomeWork s) (h line way : Nat) (e : DirEnt) : o.HomeWork (s.dirAlloc h line way e) := (hw.onHome _).dirTouch ..

theorem newTxn (h : o.HomeWork s) (unit : Nat) : o.HomeWork (s.newTxn unit).1 := by
  unfold State.newTxn
  dsimp only
  exact h.onCache _

/-! ## Poison and lost holders -/

theorem poisonLine (h : o.HomeWork s) (line cause : Nat) : o.HomeWork (s.poisonLine line cause) := by
  unfold State.poisonLine
  have hsnoops := h.of_each (fun t (u : Unt) ht => ht.sendSnoop (s.homeHub line) .snpInv line u noSlot 0 noUnit 0 false none)
    ((s.holders (s.homeHub line) (s.dirEnt (s.homeHub line) line)).filter fun u => !s.cutOff (s.homeHub line) u)
  exact ((((((hsnoops.dirFree ..).onHome _).queueWrite ..).incF (poison_stat _) _ _).setF (poison_last _) _ _).setF (poison_last _) _ _)

theorem poisonAny (h : o.HomeWork s) (line cause : Nat) (src : Unt) : o.HomeWork (s.poisonAny line cause src) :=
  .of_ite (h.poisonLine ..) (h.send _)

theorem proxyLost (hw : o.HomeWork s) (h line cause : Nat) (gone : Unt → Bool) : o.HomeWork (s.proxyLost h line cause gone) :=
  .of_each (fun _ _ ht => ht.sendSnoop ..) _ ((hw.dirFree ..).poisonAny ..)

theorem dirClean (hw : o.HomeWork s) (h line : Nat) (gone : Unt → Bool) (cause : Nat) : o.HomeWork (s.dirClean h line gone cause) := by
  unfold State.dirClean
  exact .of_ite hw (.of_ite (.of_ite (hw.proxyLost ..) (.of_ite ((hw.dirFree ..).send _) (hw.dirUpd ..)))
    (.of_ite ((hw.dirUpd ..).poisonLine ..) (hw.dirUpd ..)))

theorem dirLookup (hw : o.HomeWork s) (h line : Nat) : o.HomeWork (s.dirLookup h line) := (hw.dirClean ..).dirClean ..

/-! ## Arbiters of a home -/

theorem arbLost (h : o.HomeWork s) (a r : Nat) : o.HomeWork (s.arbLost a r) := by
  have hlost (l e : Nat) := (h.setF (arb_req a r) F.ARB_REQ_LOSSES l).setF (arb_req a r) F.ARB_REQ_ECLASS e
  exact .of_ite ((hlost _ _).setF (arb_req a r) _ _) (hlost _ _)

theorem arbWon (h : o.HomeWork s) (a r : Nat) : o.HomeWork (s.arbWon a r) := (h.setF (arb_req a r) _ _).setF (arb_req a r) _ _

theorem arbPass (h : o.HomeWork s) (a n : Nat) : o.HomeWork ((s.arbPass a n).getD s) := by
  unfold State.arbPass
  dsimp only
  split
  · exact h
  split
  · exact h
  · exact .of_ite (h.setF (arb_rr a) _ _) (h.onFab _)

/-! ## Transactions -/

theorem openTxn (hw : o.HomeWork s) (h slot : Nat) (m : CMsg) (ord : Bool) (recallFor : Option CMsg) :
    o.HomeWork (s.openTxn h slot m ord recallFor) := by
  unfold State.openTxn
  have hcount (f : HomeSt → HomeSt) (n : Nat) :
      o.HomeWork (if ord then (s.onHome f).incF (R.HOME_CNT_1 h) F.HOME_CNT_1_BCAST n else s.onHome f) :=
    .of_ite ((hw.onHome _).incF (home_cnt_1 h) _ _) (hw.onHome _)
  refine .of_each (fun _ _ ht => ht.sendSnoop ..) _ (.of_ite ?_ (.dirUpd ?_ ..))
  · exact (hcount _ _).setF (home_q_stat h) _ _
  · exact (hcount _ _).setF (home_q_stat h) _ _

theorem judgeWb (hw : o.HomeWork s) (h : Nat) (m : CMsg) : o.HomeWork (s.judgeWb h m) := by
  have hack {t : State} (ht : o.HomeWork t) : o.HomeWork (if m.src = t.hubUnit h then t else t.reply h m .wbAck) := .of_ite ht (ht.reply ..)
  unfold State.judgeWb
  refine .of_ite (hack (hw.incF (home_cnt_0 h) _ _)) (.of_ite (hack (hw.poisonLine ..)) (.of_ite (hack (.of_ite ?_ ?_)) (hack (hw.dirUpd ..))))
  · exact (hw.queueWrite ..).dirFree ..
  · exact (hw.queueWrite ..).dirUpd ..

theorem endTxn (h : o.HomeWork s) (t : Txn) : o.HomeWork (s.endTxn t) := by
  unfold State.endTxn
  have hended (f : HomeSt → HomeSt) (g : DirEnt → DirEnt) := (h.onHome f).dirUpd t.hub t.req.line g
  have hjudged (f f' : HomeSt → HomeSt) (g : DirEnt → DirEnt) (l : List (Nat × CMsg)) :=
    HomeWork.of_ite (p := ((s.onHome f).dirUpd t.hub t.req.line g).lineBusy t.hub t.req.line = true) (hended f g)
      (.of_each (fun _ e ht => ht.judgeWb t.hub e.2) l ((hended f g).onHome f'))
  dsimp only
  split
  · exact .of_ite (((hjudged _ _ _ _).setTxn _).sendSnoop ..) (hjudged _ _ _ _)
  · exact hjudged _ _ _ _

theorem failTxn (h : o.HomeWork s) (t : Txn) : o.HomeWork (s.failTxn t) :=
  .of_ite (((h.answer ..).endTxn _).poisonLine ..) ((h.answer ..).endTxn _)

theorem grantEntry (h : o.HomeWork s) (t : Txn) : o.HomeWork (s.grantEntry t).1 := by
  unfold State.grantEntry
  have hput (f : DirEnt → DirEnt) {β : Type} (x : β) : o.HomeWork (s.dirUpd t.hub t.req.line f, x).1 := h.dirUpd ..
  exact .of_ite_fst (hput ..) (.of_ite_fst (hput ..) (.of_ite_fst (hput ..) (.of_ite_fst (hput ..) (hput ..))))

theorem doneEntry (h : o.HomeWork s) (t : Txn) : o.HomeWork (s.doneEntry t) := by
  unfold State.doneEntry
  dsimp only
  refine .of_ite (h.dirFree ..) ?_
  split
  · exact .of_ite h (h.dirUpd ..)
  · exact .of_ite (.of_ite (h.dirFree ..) h) (h.dirUpd ..)
  · exact .of_ite (.of_ite (h.dirFree ..) h) (h.dirUpd ..)
  · exact .of_ite (.of_ite (h.dirFree ..) h) (h.dirUpd ..)
  · exact h.dirFree ..

/-- A transaction kept with an access of it queued. -/
theorem setTxn_queueMem (h : o.HomeWork s) (t u : Txn) (wr : Bool) (data : Line) (mask : Mask) :
    o.HomeWork ((s.setTxn t).queueMem u wr data mask) := (h.setTxn t).queueMem ..

/-- The answer of a transaction without a grant and its end: the last step of runTxn, old being the line before it. -/
def lastStep (s : State) (t : Txn) (old : Line) : State :=
  let s := s.doneEntry t
  let s := match t.req.op with
    | .ucRd => s.answer t.hub t .dataUc old
    | .dmaRd => s.answer t.hub t .dataUc old
    | .ucAtomic => (s.incF (R.ATOM_STAT t.hub) F.ATOM_STAT_FAR_DONE).answer t.hub t .dataUc old
    | .farAtomic => (s.incF (R.ATOM_STAT t.hub) F.ATOM_STAT_FAR_DONE).answer t.hub t
        (if t.had.all fun u => u.pkg = s.pkg && u = s.holderOf t.hub t.req.src then .atomicDataSole else .atomicData) old
    | _ => s.answer t.hub t (compOp t)
  s.endTxn t

theorem lastStep_homeWork (h : o.HomeWork s) (t : Txn) (old : Line) : o.HomeWork (lastStep s t old) := by
  unfold lastStep
  refine endTxn ?_ t
  split
  · exact (h.doneEntry t).answer ..
  · exact (h.doneEntry t).answer ..
  · exact ((h.doneEntry t).incF (atom_stat _) _ _).answer ..
  · exact ((h.doneEntry t).incF (atom_stat _) _ _).answer ..
  · exact (h.doneEntry t).answer ..

theorem runTxn (h : o.HomeWork s) (t : Txn) : o.HomeWork (s.runTxn t) := by
  unfold State.runTxn
  refine .of_ite h (.of_ite (h.failTxn t) (.of_ite ?_ (.of_ite h ?_)))
  · split
    · exact h.setTxn_queueMem ..
    · have hentry := h.grantEntry t
      generalize s.grantEntry t = p at hentry ⊢
      obtain ⟨s', d⟩ := p
      dsimp only at hentry ⊢
      refine .of_ite h (.of_ite (.queueMem (.of_when ((h.setTxn _).incF (home_cnt_1 _) _ _) (h.setTxn _)) ..) ?_)
      cases d with
      | some op => exact ((hentry.setTxn _).answer ..).answer ..
      | none => exact (hentry.setTxn _).answer ..
  · dsimp only
    have hdone : o.HomeWork (lastStep s t (t.memLine.getD 0)) := lastStep_homeWork h t _
    split
    case h_1 | h_2 =>
      split
      · exact h.setTxn_queueMem ..
      · exact h.setTxn_queueMem ..
      · exact hdone
    case h_3 | h_4 =>
      refine .of_ite hdone ?_
      split
      · exact h.setTxn_queueMem ..
      · exact h.setTxn_queueMem ..
      · exact h.setTxn_queueMem ..
    case h_5 | h_6 | h_7 =>
      refine .of_ite hdone ?_
      split
      · exact h.setTxn_queueMem ..
      · exact h.setTxn_queueMem ..
    case h_8 =>
      split
      · exact h.setTxn_queueMem ..
      · exact hdone

/-- A transaction that was opened runs at once. -/
theorem openRun (hw : o.HomeWork s) (h slot : Nat) (m : CMsg) (ord : Bool) (recallFor : Option CMsg) :
    o.HomeWork (match (s.openTxn h slot m ord recallFor).txnAt h slot with
      | some t => (s.openTxn h slot m ord recallFor).runTxn t
      | none => s.openTxn h slot m ord recallFor) := by
  split
  · exact (hw.openTxn ..).runTxn _
  · exact hw.openTxn ..

/-! ## Requests taken up -/

theorem proxyRecall (hw : o.HomeWork s) (h line : Nat) (v : DirEnt) (need : Option CMsg) : o.HomeWork (s.proxyRecall h line v need) := by
  unfold State.proxyRecall
  exact .of_each (fun _ _ ht => ht.sendSnoop ..) _ ((((hw.incF (home_cnt_0 h) _ _).dirUpd ..).newTxn _).onHome _)

theorem recallVictim (hw : o.HomeWork s) (h slot line : Nat) (v : DirEnt) (need : Option CMsg) : o.HomeWork (s.recallVictim h slot line v need) := by
  unfold State.recallVictim
  exact .of_ite (hw.proxyRecall ..) ((hw.incF (home_cnt_0 h) _ _).openRun ..)

theorem proxyNote (h : o.HomeWork s) (line d : Nat) (c : Coh) : o.HomeWork (s.proxyNote line d c) := by
  unfold State.proxyNote
  dsimp only
  split
  · exact h.dirUpd ..
  refine .of_ite (h.onHome _) ?_
  split
  · refine .of_ite (h.dirAlloc ..) ?_
    split
    · exact (h.onHome _).recallVictim ..
    · exact h.onHome _
  · exact h.onHome _

theorem proxyAgain (hw : o.HomeWork s) (h : Nat) : o.HomeWork (s.proxyAgain h) :=
  .of_each (fun _ _ ht => .of_ite (ht.proxyNote ..) ht) _ (hw.onHome _)

/-- A request taken up in a slot: the last step of takeReq. -/
def takeUp (s : State) (h : Nat) (m : CMsg) (slot : Nat) : State :=
  let e := s.dirEnt h m.line
  let s := if m.op = .upgrade && !s.ordered h && !s.upgListed h m e then s.incF (R.HOME_CNT_1 h) F.HOME_CNT_1_UPG_CONVERT else s
  let s := if isAtomic m.op then ((s.arbPass (60 + h) (s.srcPort h m)).getD s).arbWon (60 + h) (s.srcPort h m) else s
  let s := if s.ownReq h m then s else s.dirTouch h m.line
  let s := s.openTxn h slot m (s.ordered h || e.unsure) none
  match s.txnAt h slot with
  | some t => s.runTxn t
  | none => s

theorem takeUp_homeWork (hw : o.HomeWork s) (h : Nat) (m : CMsg) (slot : Nat) : o.HomeWork (takeUp s h m slot) := by
  unfold takeUp
  have hcounted (b : Bool) : o.HomeWork (if b then s.incF (R.HOME_CNT_1 h) F.HOME_CNT_1_UPG_CONVERT else s) :=
    .of_ite (hw.incF (home_cnt_1 h) _ _) hw
  have hpassed {u : State} (hu : o.HomeWork u) (n : Nat) (b : Bool) :
      o.HomeWork (if b then ((u.arbPass (60 + h) n).getD u).arbWon (60 + h) n else u) := .of_ite ((hu.arbPass ..).arbWon ..) hu
  have htouched {u : State} (hu : o.HomeWork u) : o.HomeWork (if u.ownReq h m then u else u.dirTouch h m.line) := .of_ite hu (hu.dirTouch ..)
  exact (htouched (hpassed (hcounted _) _ _)).openRun ..

theorem takeReq (hw : o.HomeWork s) (h : Nat) (m : CMsg) : o.HomeWork (s.takeReq h m) := by
  have hdeny {u : State} (hu : o.HomeWork u) (e : ECode) (n : Line) : o.HomeWork
      (if (u.record e 2 h [m.part] (some (m.line * 64))).ownReq h m then u.record e 2 h [m.part] (some (m.line * 64))
       else (u.record e 2 h [m.part] (some (m.line * 64))).reply h m .busErr n) := .of_ite (hu.record ..) ((hu.record ..).reply ..)
  unfold State.takeReq
  dsimp only
  refine .of_ite (hw.onSec _) (.of_ite (hdeny hw _ _) (.of_ite (hdeny hw _ _) (.of_ite (.of_ite hw (hw.reply ..)) (.of_ite ?_ (.of_ite (hw.holdReq ..)
    (.of_ite (hw.queueReq ..) ?_))))))
  · exact ((hw.incF (atom_stat h) _ _).arbLost ..).holdReq ..
  split
  · exact hw.holdReq ..
  rename_i slot _
  have hgo {u : State} (hu : o.HomeWork u) : o.HomeWork (takeUp u h m slot) := hu.takeUp_homeWork h m slot
  refine .of_ite (hdeny (hw.dirLookup ..) _ _) (.of_ite (hgo (hw.dirLookup ..)) (.of_ite ((hw.dirLookup ..).holdReq ..) ?_))
  split
  · exact (hw.dirLookup ..).holdReq ..
  · exact .of_ite (hgo ((hw.dirLookup ..).dirAlloc ..)) (((hw.dirLookup ..).holdReq ..).recallVictim ..)

theorem takeQueued (hw : o.HomeWork s) (h : Nat) : o.HomeWork (s.takeQueued h) := by
  unfold State.takeQueued
  refine .of_each (fun u t hu => ?_) _ (.of_each (fun _ _ ht => ht.takeReq ..) _ (.proxyAgain (hw.onHome _) h))
  split
  · exact .of_ite (hu.runTxn _) hu
  · exact hu

theorem advance (h : o.HomeWork s) (t : Txn) : o.HomeWork (s.advance t) := .of_ite ((h.runTxn t).takeQueued _) (h.runTxn t)

theorem memBack (hw : o.HomeWork s) (h slot : Nat) (wr : Bool) (res : Option Line) : o.HomeWork (s.memBack h slot wr res) := by
  unfold State.memBack
  split
  · exact hw
  · exact (hw.setTxn _).advance _

theorem served (h : o.HomeWork s) (r : ChanReq) (res : Option Line) : o.HomeWork (s.served r res) := by
  unfold State.served
  split
  · exact h.memBack ..
  · exact h

end

end State.HomeWork

end Sys2Proof.Machine
end

section
/-! SUPPORT. What the controller of a channel does of itself: power-down, refresh, calibration, scrubbing, initialisation and failure
(R236, R259 to R266). -/

namespace Sys2Proof.Machine

section
variable {s : State}

/-! ## Ranks (R259) -/

/-- A set of at most n members with one more below n. -/
theorem or_two_pow_lt {m n k : Nat} (hm : m < 2 ^ n) (hk : k < n) : m ||| 2 ^ k < 2 ^ n :=
  Nat.or_lt_two_pow hm (Nat.pow_lt_pow_right (by decide) hk)

theorem State.f_lt (k : Nat) (fl : Fld) : s.f k fl < 2 ^ fl.width := Nat.mod_lt _ (Nat.two_pow_pos _)

/-- An idle rank enters power-down. -/
theorem State.powerDownOp_idle {c rank : Nat} (hidle : s.f (R.MC_PD_CTL c) F.MC_PD_CTL_IDLE ≠ 0) (hready : s.chState c = 4)
    (hrank : rank < s.ranks c) (hpd : (s.f (R.MC_PD_STAT c) F.MC_PD_STAT_IN_PD).testBit rank = false) (hqueue : ∀ r ∈ s.dram.queue, r.ch ≠ c) :
    s.powerDownOp c rank = (((s.setF (R.MC_PD_STAT c) F.MC_PD_STAT_IN_PD (s.f (R.MC_PD_STAT c) F.MC_PD_STAT_IN_PD ||| 2 ^ rank))).incF
      (R.MC_PD_STAT c) F.MC_PD_STAT_ENTRIES).send (.dram c DRAM_POWER_DOWN rank) := by
  have hwaits (p : ChanReq → Bool) : s.dram.queue.any (fun r => decide (r.ch = c) && p r) = false :=
    List.any_eq_false.mpr fun r hr => by simp [hqueue r hr]
  rw [State.powerDownOp, hwaits, if_neg]
  simp [hidle, hready, hrank, hpd, CH_READY, bit]

/-- The register of a rank that entered power-down, and the command sent. -/
theorem State.enterPd_effect {e rank : Nat} (hrank : rank < 4) (m : Msg) :
    let t := ((s.setF e F.MC_PD_STAT_IN_PD (s.f e F.MC_PD_STAT_IN_PD ||| 2 ^ rank)).incF e F.MC_PD_STAT_ENTRIES).send m
    (t.f e F.MC_PD_STAT_IN_PD).testBit rank = true ∧ t.f e F.MC_PD_STAT_ENTRIES = min (s.f e F.MC_PD_STAT_ENTRIES + 1) F.MC_PD_STAT_ENTRIES.max ∧
      t.sent = s.sent ++ [m] ∧ s.SameRegs t [e] := by
  refine ⟨?_, ?_, rfl, fun k hk => ?_⟩
  · rw [State.send_f, State.incF, State.f_setF_apart _ _ (by decide) (by decide), State.f_setF_same _ _ (by decide),
      Nat.mod_eq_of_lt (or_two_pow_lt (State.f_lt ..) hrank), Nat.testBit_or, Nat.testBit_two_pow_self, Bool.or_true]
  · rw [State.send_f, State.f_incF_same _ (by decide), State.f_setF_apart _ _ (by decide) (by decide)]
  · have hne : k ≠ e := by simpa using hk
    rw [State.send_reg, State.incF, State.reg_setF_ne _ _ _ hne, State.reg_setF_ne _ _ _ hne]

theorem State.rankRuns_ready {c rank : Nat} (hready : s.chState c = 4) (hrank : rank < s.ranks c) : s.rankRuns c rank = true := by
  simp [State.rankRuns, hready, hrank, CH_READY]

theorem State.calRank_due {c rank : Nat} (hready : s.chState c = 4) (hrank : rank < s.ranks c)
    (hdue : s.dram.calAt.get (c * 4 + rank) + 1024 ≤ s.now) : s.calRank c rank =
      (s.onDram fun d => { d with calAt := d.calAt.put (c * 4 + rank) s.now }).send (.dram c DRAM_CALIBRATE rank) := by
  rw [State.calRank, State.calDue, State.rankRuns_ready hready hrank, if_pos (by simpa using hdue)]

theorem State.calRank_early {c rank : Nat} (hearly : s.now < s.dram.calAt.get (c * 4 + rank) + 1024) : s.calRank c rank = s := by
  rw [State.calRank, State.calDue, if_neg (by simp [hearly])]

/-! ## The scrubber (R261, R262) -/

theorem State.scrubFrom_here {c l : Nat} (hskips : s.scrubSkips c l = false) (n : Nat) : s.scrubFrom c n l = l := by
  cases n with
  | zero => rfl
  | succ n => rw [State.scrubFrom, hskips, Bool.and_false, if_neg Bool.false_ne_true]

theorem State.scrubOp_waits {c : Nat} {r : ChanReq} (hr : r ∈ s.dram.queue) (hch : r.ch = c) : s.scrubOp c = s := by
  have hany : (s.dram.queue.any fun r => decide (r.ch = c)) = true := List.any_eq_true.mpr ⟨r, hr, decide_eq_true hch⟩
  rw [State.scrubOp, hany, if_pos (by simp)]

/-- One line of the grant taken. -/
def State.granted (s : State) (c : Nat) : State := s.onDram fun d => { d with scrubLeft := d.scrubLeft.upd c (· - 1) }

/-- A line of the grant is read, below the top of the channel. -/
theorem State.scrubOp_reads {c l : Nat} (hready : s.chState c = 4) (hen : s.f (R.MC_SCRUB_CTL c) F.MC_SCRUB_CTL_EN = 1)
    (hleft : s.dram.scrubLeft.get c ≠ 0) (hqueue : ∀ r ∈ s.dram.queue, r.ch ≠ c) (hpos : s.f (R.MC_SCRUB_POS c) F.MC_SCRUB_POS_ADDR = l)
    (hskips : s.scrubSkips c l = false) (htop : l + 1 < s.chanLines c) (hcal : ∀ k < 4, s.calDue c k = false)
    (hlocks : ∀ k ∈ s.dram.locks, k.done = true ∨ (k.req.ch ≠ c ∧ c ∉ k.reads)) :
    s.scrubOp c = ((s.granted c).scrubLine c l).setF (R.MC_SCRUB_POS c) F.MC_SCRUB_POS_ADDR (l + 1) := by
  have hq : (s.dram.queue.any fun r => decide (r.ch = c)) = false := List.any_eq_false.mpr fun r hr => by simp [hqueue r hr]
  have hk : (s.dram.locks.any fun k => !k.done && (decide (k.req.ch = c) || k.reads.contains c)) = false :=
    List.any_eq_false.mpr fun k hk => by
      rcases hlocks k hk with h | ⟨h, h'⟩
      · simp [h]
      · simp [h, h']
  have hd : (List.range 4).any (s.calDue c) = false := List.any_eq_false.mpr fun k hk => by simp [hcal k (List.mem_range.mp hk)]
  rw [State.scrubOp, hq, hk, hd, if_neg (by simp [hready, hen, hleft, CH_READY])]
  dsimp only
  rw [hpos, State.scrubFrom_here hskips, if_pos (Nat.lt_of_succ_lt htop), if_neg (Nat.not_le.mpr htop)]
  rfl

theorem State.granted_get (c : Nat) : (s.granted c).dram.scrubLeft.get c = s.dram.scrubLeft.get c - 1 := by
  rw [State.granted, State.onDram_dram, SMap.get_upd, if_pos rfl]

/-- Below the usable lines the scrubber reads a data line of a page. -/
theorem State.scrubPage_data {c l : Nat} (hl : l < s.usable c) : s.scrubPage c l =
    some (s.offOf c l, s.pageStrength (s.lineOf (s.offOf c l)), some (s.lineOf (s.offOf c l) * 64)) := by
  rw [State.scrubPage, if_pos hl]

theorem State.Accessed.usableBefore {t : State} (h : s.Accessed t) : t.usableBefore = s.usableBefore := by
  funext c
  rw [State.usableBefore, State.usableBefore, h.usable]

theorem State.Accessed.offOf {t : State} (h : s.Accessed t) : t.offOf = s.offOf := by
  funext c l
  simp only [State.offOf, h.groupOrder, h.groupBase, h.usableBefore]

theorem State.setF_pkg (off : Nat) (fl : Fld) (v : Nat) : (s.setF off fl v).pkg = s.pkg := rfl

theorem State.wakeRank_pkg (c rank : Nat) : (s.wakeRank c rank).pkg = s.pkg := by
  unfold State.wakeRank
  dsimp only
  split
  · exact State.setF_pkg ..
  · rfl

theorem State.wakeRank_lineOf (c rank : Nat) : (s.wakeRank c rank).lineOf = s.lineOf := by
  funext off
  rw [State.lineOf, State.lineOf, State.wakeRank_pkg]

theorem State.wakeRank_isLost (c rank : Nat) : (s.wakeRank c rank).isLost = s.isLost := by
  funext c' l
  rw [State.isLost, State.isLost, State.wakeRank_dram]

theorem State.scrubLine_clean {c l : Nat} (hgone : s.chanGone c = false) (h : lineDecode (s.stored c l) (s.devOut c l) = .clean) :
    s.scrubLine c l = s.wakeRank c (s.rankOf c l) := by
  rw [State.scrubLine, State.readLine_clean hgone h]

theorem State.scrubLine_locks {t : State} {c l off n : Nat} {x : Stored} {addr : Option Nat} (h : s.readLine c l = (t, .failed, x))
    (hpage : t.scrubPage c l = some (off, n, addr)) (hn : n ≠ 0) (hlost : t.isLost c l = false) :
    s.scrubLine c l = t.lockPage off n c l { (default : ChanReq) with ch := c, line := t.lineOf off } (some l) := by
  rw [State.scrubLine, h]
  dsimp only
  rw [hpage]
  dsimp only
  rw [hlost, if_neg (by simpa using hn)]

/-- A data line beyond correction, of a page with parity and not given up, locks its page. -/
theorem State.scrubLine_failed {c l : Nat} (hgone : s.chanGone c = false) (h : lineDecode (s.stored c l) (s.devOut c l) = .failed)
    (hl : l < s.usable c) (hs : s.pageStrength (s.lineOf (s.offOf c l)) ≠ 0) (hlost : s.isLost c l = false) :
    s.scrubLine c l = (s.wakeRank c (s.rankOf c l)).lockPage (s.offOf c l) (s.pageStrength (s.lineOf (s.offOf c l))) c l
      { (default : ChanReq) with ch := c, line := s.lineOf (s.offOf c l) } (some l) := by
  have hwake := State.accessed_wakeRank (s := s) c (s.rankOf c l)
  have hpage := State.scrubPage_data (s := s.wakeRank c (s.rankOf c l)) (c := c) (l := l) (by rwa [hwake.usable])
  rw [hwake.offOf, hwake.pageStrength, State.wakeRank_lineOf] at hpage
  rw [State.scrubLine_locks (State.readLine_failed hgone h) hpage hs (by rwa [State.wakeRank_isLost]), State.wakeRank_lineOf]

theorem State.granted_chanGone {c : Nat} (hready : s.chState c = 4) : (s.granted c).chanGone c = false := State.chanGone_ready hready
theorem State.granted_reg (c k : Nat) : (s.granted c).reg k = s.reg k := rfl

/-- The page of a line beyond correction is locked for the scrubber. -/
theorem State.scrubLine_locked {c l : Nat} (hgone : s.chanGone c = false) (h : lineDecode (s.stored c l) (s.devOut c l) = .failed)
    (hl : l < s.usable c) (hs : s.pageStrength (s.lineOf (s.offOf c l)) ≠ 0) (hpage : (s.pageOf (s.offOf c l)).isSome = true)
    (hlost : s.isLost c l = false) :
    (∃ k : PageLock, (s.scrubLine c l).dram.locks = s.dram.locks ++ [k] ∧ k.own = some l ∧ k.req.ch = c ∧ k.done = false) ∧
      (s.scrubLine c l).pageLocked (s.offOf c l) = true ∧ (s.scrubLine c l).dram.mem = s.dram.mem := by
  have hwake := State.accessed_wakeRank (s := s) c (s.rankOf c l)
  obtain ⟨⟨g, P, i⟩, hat⟩ := Option.isSome_iff_exists.mp hpage
  rw [← hwake.pageOf] at hat
  rw [State.scrubLine_failed hgone h hl hs hlost]
  refine ⟨?_, State.lockPage_locked hat .., ?_⟩
  all_goals
    obtain ⟨k, hlock, hreq, hown, hdone⟩ := State.lockPage_adds hat (s.pageStrength (s.lineOf (s.offOf c l))) c l
      { (default : ChanReq) with ch := c, line := s.lineOf (s.offOf c l) } (some l)
    rw [hlock, State.onDram_dram, State.wakeRank_dram]
  · exact ⟨k, rfl, hown, by rw [hreq], hdone⟩

theorem State.setPos_pos {e l : Nat} (hl : l + 1 < 2 ^ F.MC_SCRUB_POS_ADDR.width) :
    (s.setF e F.MC_SCRUB_POS_ADDR (l + 1)).f e F.MC_SCRUB_POS_ADDR = l + 1 := by
  rw [State.f_setF_same _ _ (by decide), Nat.mod_eq_of_lt hl]

/-! ## Initialisation (R265) -/

/-- A map without the entries of some keys. -/
theorem SMap.get_filter_key {α : Type} [Inhabited α] (m : SMap α) (p : Nat → Bool) (k : Nat) :
    SMap.get (m.filter fun e => p e.1) k = if p k then m.get k else default := by
  induction m with
  | nil => simp [SMap.get]
  | cons e r ih =>
    obtain ⟨j, v⟩ := e
    rw [List.filter_cons]
    by_cases hj : j = k
    · subst hj
      by_cases hp : p j
      · simp [SMap.get, hp]
      · simp [hp, ih]
    · by_cases hp : p j
      · simp [SMap.get, hp, hj, ih]
      · simp [SMap.get, hp, hj, ih]

theorem cellKey_chan (c l : Nat) {b : Nat} (hb : b < 80) : cellKey c l b / (2 ^ 34 * 128) = c := by
  unfold cellKey
  omega

/-- The memory without a channel's lines. -/
def Mem.without (m : Mem) (c : Nat) : Mem := m.filter fun e => e.1 / (2 ^ 34 * 128) != c

theorem Mem.line_without_ne (m : Mem) {c c' : Nat} (l : Nat) (hc : c' ≠ c) : Mem.line (m.without c) c' l = m.line c' l := by
  refine Mem.line_congr fun b hb => ?_
  rw [Mem.byte, Mem.without, SMap.get_filter_key m (fun k => k / (2 ^ 34 * 128) != c), cellKey_chan c' l hb, if_pos (by simpa using hc)]
  rfl

theorem ofBytes_zeros (l : List Nat) : ofBytes (l.map fun _ => 0) = 0 := by
  induction l with
  | nil => rfl
  | cons n l ih =>
    change 0 % 256 + 256 * ofBytes (l.map fun _ => 0) = 0
    rw [ih]

theorem Mem.line_nil (c l : Nat) : Mem.line [] c l = 0 := by
  have hzero : ((List.range 80).map fun b => (Mem.byte [] (cellKey c l b)).toNat) = (List.range 80).map fun _ => 0 := rfl
  rw [Mem.line, hzero, ofBytes_zeros]
  rfl

theorem Mem.line_without_same (m : Mem) (c l : Nat) : Mem.line (m.without c) c l = 0 := by
  rw [← Mem.line_nil c l]
  refine Mem.line_congr fun b hb => ?_
  rw [Mem.byte, Mem.without, SMap.get_filter_key m (fun k => k / (2 ^ 34 * 128) != c), cellKey_chan c l hb, if_neg (by simp)]
  rfl

/-- Outside start-up a channel that initialises becomes READY, its lines unlisted. -/
theorem State.chanInit_ready {c : Nat} (hinit : s.chState c = 3) (hstage : s.boot.stage ≠ 4) (hlocked : s.locked = false) :
    s.chanInit c = (s.setChState c CH_READY).onDram fun d => { d with
      mem := Mem.without d.mem c, lost := d.lost.filter fun k => k / 2 ^ 34 != c } := by
  have hboot (f : DramSt → DramSt) : ((s.setChState c CH_READY).onDram f).boot = s.boot := by
    rw [State.onDram_boot, State.setChState, State.setF_boot]
  rw [State.chanInit, if_neg (by simp [hinit, hlocked, CH_INITIALISING])]
  dsimp only
  rw [hboot, decide_eq_false hstage, Bool.false_and, Bool.false_and, if_neg Bool.false_ne_true]
  rfl

theorem State.setChState_same {c v : Nat} (hv : v < 8) : (s.setChState c v).chState c = v := by
  rw [State.chState, State.setChState, State.f_setF_same _ _ (by decide)]
  exact Nat.mod_eq_of_lt hv

theorem State.chanInit_stored (c c' l : Nat) (lost : DramSt → List Nat) : ((s.setChState c CH_READY).onDram fun d => { d with
    mem := Mem.without d.mem c, lost := lost d }).stored c' l = Mem.line (Mem.without s.dram.mem c) c' l := by
  rw [State.stored, State.onDram_dram, State.setChState, State.setF_dram]

/-! ## Errors of a channel (R266) -/

theorem MC_STAT_ne_MC_ERR_CNT (c : Nat) : R.MC_STAT c ≠ R.MC_ERR_CNT c := by simp only [R.MC_STAT, R.MC_ERR_CNT]; omega

/-- A command is retried up to three times. -/
theorem State.caParityOp_retries {c : Nat} (hready : s.chState c = 4) (hretry : s.dram.caRetry.get c < 3) : s.caParityOp c =
    (s.incF (R.MC_ERR_CNT c) F.MC_ERR_CNT_CA_RETRY).onDram fun d => { d with caRetry := d.caRetry.upd c (· + 1) } := by
  rw [State.caParityOp, if_neg (by simp [hready, CH_READY]), if_pos hretry]

theorem State.caParityOp_persists {c : Nat} (hready : s.chState c = 4) (hretry : 3 ≤ s.dram.caRetry.get c) : s.caParityOp c = s.chanFail c := by
  rw [State.caParityOp, if_neg (by simp [hready, CH_READY]), if_neg (Nat.not_lt.mpr hretry)]

/-- A Gong raised: of its cause and unit, for the next beat. -/
theorem State.raiseGong_effect (e : ECode) (kind unit mask : Nat) (parts : List Nat) :
    (∀ k, (s.raiseGong e kind unit mask parts).reg k = s.reg k) ∧ ∃ g : Gong, g ∈ (s.raiseGong e kind unit mask parts).err.raise ∧
      g.cause = e.val ∧ g.kind = kind ∧ g.unit = unit ∧ g.beat = s.now + 1 := by
  have hbeat : (s.record e kind unit parts none 0).now = s.now := congrArg BeatSt.now State.record_same.beat
  exact ⟨fun _ => State.record_reg .., _, List.mem_append_right _ (List.mem_singleton.mpr rfl), rfl, rfl, rfl, by rw [hbeat]⟩

/-- A channel that fails drops its requests, answers them, and raises the Gong. -/
theorem State.chanFail_eq {c : Nat} (hstate : s.chState c ≠ 6) : ∃ l f mask parts, s.chanFail c =
    (each l (fun s (r : ChanReq) => s.served r none) ((s.setChState c CH_FAILED).onDram f)).raiseGong E.MEM_CHANNEL_FAIL 3 c mask parts :=
  ⟨_, _, _, _, if_neg hstate⟩

/-- A channel that fails: its state, and the Gong for the next beat. -/
theorem State.chanFail_effect {c : Nat} (hc : c < 16) (hstate : s.chState c ≠ 6) : (s.chanFail c).chState c = 6 ∧
    ∃ g : Gong, g ∈ (s.chanFail c).err.raise ∧ g.cause = E.MEM_CHANNEL_FAIL.val ∧ g.kind = 3 ∧ g.unit = c ∧ g.beat = s.now + 1 := by
  obtain ⟨l, f, mask, parts, heq⟩ := State.chanFail_eq hstate
  have hwork : ((s.setChState c CH_FAILED).onDram f).HomeWork (each l (fun s r => s.served r none) ((s.setChState c CH_FAILED).onDram f)) :=
    .of_each (fun _ r ht => ht.served r none) l .refl
  rw [heq]
  generalize each l _ _ = u at hwork ⊢
  obtain ⟨hreg, g, hg, hcause, hkind, hunit, hat⟩ := u.raiseGong_effect E.MEM_CHANNEL_FAIL 3 c mask parts
  have hbeat : u.beat = s.beat := by rw [hwork.beat, State.onDram_beat, State.setChState, State.setF_beat]
  refine ⟨?_, g, hg, hcause, hkind, hunit, by rw [hat, State.now, hbeat, State.now]⟩
  have hlow : R.MC_STAT c < 0x3000000 := by simp only [R.MC_STAT]; omega
  rw [State.chState, State.f, hreg, hwork.reg _ hlow, State.onDram_reg]
  exact State.setChState_same (by decide)

/-- What a report of the temperature sets. -/
theorem State.setHot_effect {e : Nat} (hot : Bool) : (s.setF e F.MC_STAT_HOT hot.toNat).f e F.MC_STAT_HOT = hot.toNat ∧
    s.SameRegs (s.setF e F.MC_STAT_HOT hot.toNat) [e] := by
  refine ⟨?_, fun k hk => State.reg_setF_ne _ _ _ (by simpa using hk)⟩
  rw [State.f_setF_same _ _ (by decide)]
  cases hot with
  | false => rfl
  | true => rfl

end

end Sys2Proof.Machine

open Sys2Proof Sys2Proof.Machine

/-- Settles O34, a clause at a time, by what each operation does under the clause's hypotheses; a failing channel leaves its state as it was
set, since a home's work changes no register of a channel. -/
theorem channels : Obligations.Channels := by
  refine ⟨?_, ?_, ?_, ?_, ?_, ?_, ?_, ?_, ?_, ?_, ?_, ?_⟩
  · intro s c rank hidle hready hrank hpd hqueue
    exact ⟨_, congrArg Host.Outcome.next (State.powerDownOp_idle hidle hready hrank hpd hqueue), State.enterPd_effect rank.isLt _⟩
  · intro s c rank hready hrank
    exact ⟨_, congrArg Host.Outcome.next (if_pos (State.rankRuns_ready hready hrank)), rfl⟩
  · intro s c rank hready hrank hdue
    refine ⟨_, congrArg Host.Outcome.next (State.calRank_due hready hrank hdue), rfl, ?_, rfl, rfl⟩
    exact (SMap.get_put ..).trans (if_pos rfl)
  · intro s c rank hearly
    exact ⟨_, congrArg Host.Outcome.next (State.calRank_early hearly), rfl⟩
  · intro s c l hready hen hleft hqueue hpos hskips htop hwidth hdec hcal hlocks
    refine ⟨_, congrArg Host.Outcome.next (State.scrubOp_reads hready hen hleft hqueue hpos hskips htop hcal hlocks), State.setPos_pos hwidth, ?_⟩
    rw [State.setF_dram, State.scrubLine_clean (State.granted_chanGone hready) hdec, State.wakeRank_dram]
    refine ⟨State.granted_get c, rfl, fun k hk => ?_⟩
    obtain ⟨hne, hne'⟩ : k ≠ R.MC_SCRUB_POS c ∧ k ≠ R.MC_PD_STAT c := by simpa using hk
    rw [State.reg_setF_ne _ _ _ hne, State.reg_wakeRank_ne _ _ hne', State.granted_reg]
  · intro s c l hready hen hleft hqueue hpos hskips htop hwidth hdec hl hs hpage hlost hcal hlocks
    obtain ⟨hlock, hlocked, hmem⟩ := State.scrubLine_locked (s := s.granted c) (State.granted_chanGone hready) hdec hl hs hpage hlost
    refine ⟨_, congrArg Host.Outcome.next (State.scrubOp_reads hready hen hleft hqueue hpos hskips htop hcal hlocks), ?_, ?_,
      State.setPos_pos hwidth, ?_⟩
    · rw [State.setF_dram]
      exact hlock
    · rw [(State.accessed_setF (MC_SCRUB_POS_upkeep c) _ _).pageLocked]
      exact hlocked
    · rw [State.setF_dram]
      exact hmem
  · intro s c r hr hch
    exact ⟨_, congrArg Host.Outcome.next (State.scrubOp_waits hr hch), rfl⟩
  · intro s c hinit hstage hlocked
    refine ⟨_, congrArg Host.Outcome.next (State.chanInit_ready hinit hstage hlocked), ?_, fun l => ?_, fun c' l hc => ?_⟩
    · rw [State.chState, State.onDram_f]
      exact State.setChState_same (by decide)
    · rw [State.chanInit_stored, Mem.line_without_same]
    · rw [State.chanInit_stored, Mem.line_without_ne _ l hc, State.stored]
  · intro s c hready hretry
    refine ⟨_, congrArg Host.Outcome.next (State.caParityOp_retries hready hretry), ?_, ?_, ?_, ?_⟩
    · rw [State.onDram_f, State.f_incF_same _ (by decide)]
    · rw [State.onDram_dram, State.incF_dram]
      dsimp only
      rw [SMap.get_upd, if_pos rfl]
    · rw [State.chState, State.onDram_f, State.incF, State.f_setF_ne _ _ _ _ (MC_STAT_ne_MC_ERR_CNT c)]
      exact hready
    · rw [State.onDram_sent, State.incF, State.setF_sent]
  · intro s c hready hretry
    exact ⟨_, congrArg Host.Outcome.next (State.caParityOp_persists hready hretry), State.chanFail_effect c.isLt (by rw [hready]; decide)⟩
  · intro s c hready
    have hthere : (s.chState c != CH_ABSENT && s.chState c != CH_UNTRAINED) = true := by rw [hready]; rfl
    exact ⟨_, congrArg Host.Outcome.next (if_pos hthere), State.chanFail_effect c.isLt (by rw [hready]; decide)⟩
  · intro s c hot
    exact ⟨_, rfl, State.setHot_effect hot⟩

end
